-- ==== Sys2Proof/Word.lean ====
section
/-! DEFINITION. The words of the device: every register is 32 bits wide (R11). -/

namespace Sys2Proof

/-- A register or a frame word (R11, R309). -/
abbrev Word := BitVec 32

/-- One byte of a buffer, of NVM or of SRAM. -/
abbrev Byte := BitVec 8

/-- A 64-bit word: a step of a bale, of OTP and of NVM programming. -/
abbrev DWord := BitVec 64

end Sys2Proof
end

