-- ==== Sys2Proof/Syntax.lean ====
section
/-! DEFINITION. The commands of the block: one constructor per row of spec/opcode_table.json, with the operands
the row needs. A command is what comes to the device from outside: a host frame or register write, an event on a
pin, a measured level or sample, the end of a time the spec gives. -/

namespace Sys2Proof

/-- A word that an ECC checker finds wrong (R414, R415): its byte address, whether it is uncorrectable, and whether it is a
hard fault. (DESIGN CHOICE, log 55.) -/
structure EccHit where
  addr : Nat
  ue : Bool
  hard : Bool
  deriving DecidableEq, Repr

/-- One SPI frame as a context clocks it (R311): the complete words from CS falling to CS rising, and whether CS
rose at a whole word. `late`: the target page's data were not ready within the pad word (R316). `low`: other contexts whose
chip select is low meanwhile. `hits`: wrong words met in a memory window, by their place in the frame (R416). `imon`: the
stage monitors, where the frame enables a rail (R129). `fail`: NVM programming it starts fails verify. -/
structure Frame where
  words : List Word
  whole : Bool
  late : Bool
  low : List (Fin 8)
  hits : List (Nat × EccHit)
  imon : List (Fin 56 × Nat)
  fail : Bool
  deriving DecidableEq, Repr

/-- What the converters of I3 measure at one sample (R103, R163, R173, R179): VBUS, the node, V(BSN) and the ports in mV, the
bus-side current in 0.1 A towards VBUS, the pack shunt in µV into the pack, and the codes of the bus phases' balance samplers. -/
structure BusMeas where
  vbus : Nat
  vnode : Nat
  vbsn : Nat
  va : Nat
  vb : Nat
  vn : Nat
  ibus : Int
  shunt : Int
  im : List (Fin 8 × Nat)
  deriving DecidableEq, Repr

/-- What the reads of an OTP row show (R434, R440): its STATE, its ECC-corrected value (of a counter row its raw bits), and
of a counter row the bits that disagree at the margin references. (DESIGN CHOICE, log 55; DEDUCED, log 57.) -/
structure OtpRow where
  st : Nat
  v : BitVec 64
  m : BitVec 64
  deriving DecidableEq, Repr

/-- What became of a two-wire transaction: all of it done (and the target answers a poll that follows), not acknowledged at
the next byte, arbitration lost at a bit of it, lost in a STOP or repeated START, still in progress, or done with the target
not answering its poll. -/
inductive TwiFin where
  | done
  | nack
  | lost (bit : Fin 8)
  | cond
  | hold
  | poll
  deriving DecidableEq, Repr

/-- A report of a two-wire bus: bytes acknowledged or received since the last report, the values received, and the end. -/
structure TwiTx where
  n : Nat
  ins : List Byte
  fin : TwiFin
  deriving DecidableEq, Repr

/-- How a frame began, as the node decoded it: the width of its start pulse in ns (R243), how long the line had been high before it in
µs, and its header (R244). -/
structure FlStart where
  ns : Nat
  gap : Nat
  hdr : BitVec 8
  deriving DecidableEq, Repr

/-- What the executing engine finds in an identification run (R95): the fit's quality, the fitted model (f0 and fesr in Hz, Q in
2^−16, the delay in ns), and the gain margin in 0.25 dB that it predicts of its proposal. (DESIGN CHOICE, log 45.) -/
structure LidFit where
  fit : BitVec 8
  f0 : Nat
  q : Nat
  fesr : Nat
  td : Nat
  gm : BitVec 8
  deriving DecidableEq, Repr

/-- The instructions of the test access port (R524). -/
inductive TapIns where
  | bypass
  | sample
  | extest
  deriving DecidableEq, Repr

/-- The rows of spec/opcode_table.json, in its order. (DESIGN CHOICE, log 60; DESIGN CHOICE, log 70.) -/
inductive Instr where
/-- POR (R44). VBUS rises above its rising POR threshold, or a core supply fault forces POR; everything outside the
  backup domain resets and the device enters PARKED. -/
  | por (feeds : Fin 4)
/-- FALLOW_ENTRY (R44). VBUS falls below its falling POR threshold and the device enters FALLOW from any mode. -/
  | fallowEntry (vbak : Bool)
/-- BPOR (R466). The retention monitor declares a backup-domain reset; RTC fields take their BPOR values and OSF and
  ERR.BPOR are set. -/
  | bpor
/-- WAKE_PIN_CHANGE (R533). The filtered level of a WAKE pin changes; this may accept a wake source or start or
  cancel a HOLDON release. -/
  | wakePinChange (i : Fin 4) (lvl : Bool)
/-- HOLDON_RELEASE (R533). Every HOLDON pin has stayed released for RELEASE_T, which forms an off request or ends
  WAKING in PARKED. -/
  | holdonRelease
/-- CHECKER_SELF_TEST (R417). In WAKING, hardware tests the ten SECDED checkers; a failure is a C4 and leads to
  LOCKOUT. -/
  | checkerSelfTest (failed : Option (Fin 10))
/-- LOCKSTEP_SELF_TEST (R401). At WAKING or WARM, the lockstep checkers are tested by injected differences; a
  failure is a C4 and leads to LOCKOUT. -/
  | lockstepSelfTest (failed : Option (Fin 8))
/-- OTP_READ_PASS (R434). On entry to WAKING, I13 reads the OTP array at three references, classifies the rows,
  loads the shadows and tests the region checksums. -/
  | otpReadPass (rows : List (Fin 272 × OtpRow)) (ctl : Option (BitVec 192 × BitVec 192 × BitVec 192))
/-- SAFE_STATE_LINE_TEST (R383). In WAKING, FE1 asserts each force line in turn and checks the acknowledgement of
  every output; a missing one is a C4 on event 113. -/
  | safeStateLineTest (missing : Option (Fin 9 × Fin 46))
/-- LOFT_SCAN (R425). In WAKING, FE7 reads every loft slot and selects the current record, setting TORN or NONE as
  found. -/
  | loftScan (hits : List EccHit)
/-- LOG_SCAN (R506). In WAKING, FE7 scans the log to find EV_POS.NEXT, the newest snapshot and MARG.SNAPSEQ, then
  sets SCAN_DONE. -/
  | logScan
/-- IMAGE_AUTHENTICATION (R456). On entry to WAKING, FE7 authenticates and copies staged items and then
  authenticates the firmware area, or enters HOLD with NO_IMAGE. -/
  | imageAuthentication (hits : List EccHit) (failed : Option (Fin 2)) (again : Bool)
/-- BALE_LOAD (R451). FE7 selects the bale slot, checks the bale and applies its records; the result decides whether
  WAKING ends in RISING, HOLD or PARKED. -/
  | baleLoad (hits : List EccHit) (imon : List (Fin 56 × Nat)) (fail : Bool)
/-- TIME_LOAD (R475). Within 100 µs of I14 being powered in WAKING, TIME is loaded from the RTC calendar and
  RTC_SUSPECT is set if OSF is set. -/
  | timeLoad
/-- BOOT_SLOT_EXPIRY (R394). The Owl's 2 s boot slot expires in WAKING; a BOOT finding and a WARM follow, or a C3 at
  the third consecutive expiry. -/
  | bootSlotExpiry
/-- WARM_COMPLETE (R61). The engines run again after a WARM; WARM_BUSY clears and transitions that fell due during
  the pause are taken. -/
  | warmComplete
/-- HOLDUP_COUNTDOWN_END (R56). The HOLDUP countdown reaches 0 and the device enters DRAINING. -/
  | holdupCountdownEnd
/-- VBUS_FLOOR (R56). VBUS has stayed below DEV.HOLDUP_CFG.FLOOR for 1 ms in HOLDUP and the device enters DRAINING.
  `mv`: the highest VBUS of the last `us` microseconds. -/
  | vbusFloor (mv us : Nat)
/-- SERVICE_TIMEOUT (R45). The SERVICE timeout elapses; the device returns to RUN, aborting identification and
  returning margins to 0. -/
  | serviceTimeout
/-- MINOFF_END (R233). The minimum off time after the floor ends with an on request held, and the device enters
  RISING and runs the UP table. -/
  | minoffEnd
/-- MODE_REQ_OFF (R64). DEV.MODE_REQ OFF with the key makes an off request, cancels a held on request, or leads from
  HOLD or SAFE to PARKED. -/
  | modeReqOff (c : Fin 8) (v : Word)
/-- MODE_REQ_STANDBY (R64). DEV.MODE_REQ STANDBY moves RUN to STANDBY and runs the SBY_IN table. -/
  | modeReqStandby (c : Fin 8) (v : Word)
/-- MODE_REQ_RUN (R64). DEV.MODE_REQ RUN is an on request, and from SERVICE returns the device to RUN. -/
  | modeReqRun (c : Fin 8) (v : Word)
/-- MODE_REQ_SERVICE (R64). DEV.MODE_REQ SERVICE from a permitted context moves RUN to SERVICE. -/
  | modeReqService (c : Fin 8) (v : Word)
/-- MODE_REQ_REVALIDATE (R64). DEV.MODE_REQ REVALIDATE in HOLD starts a WARM into WAKING and keeps the OTP shadow
  overrides. -/
  | modeReqRevalidate (c : Fin 8) (v : Word)
/-- MODE_REQ_RESTART (R378). DEV.MODE_REQ RESTART in SAFE, with no C3 unacknowledged, starts a WARM into WAKING. -/
  | modeReqRestart (c : Fin 8) (v : Word)
/-- MODE_REQ_WARM (R64). DEV.MODE_REQ WARM starts a WARM; from HOLD it leads to WAKING. -/
  | modeReqWarm (c : Fin 8) (v : Word)
/-- REPLACE_SRC_CLEAR (R59). A host write of 1 to REPLACE_SRC.SPARE or LOCKSTEP clears it; clearing SPARE restores
  removed phases at the next RISING. -/
  | replaceSrcClear (c : Fin 8) (v : Word)
/-- RAIL_EN_SET (R84). RAILn.CTRL.EN is set and the rail leaves OFF into PREBIAS or SOFTSTART, or stays OFF if its
  sheaf is invalid. -/
  | railEnSet (c : Fin 8) (n : Fin 12) (imon : List (Fin 56 × Nat))
/-- RAIL_EN_CLEAR (R84). RAILn.CTRL.EN is cleared and the rail goes to OFF with its phases at mid-level. -/
  | railEnClear (c : Fin 8) (n : Fin 12)
/-- RAIL_VSET_WRITE (R76). A write of RAILn.VSET sets a new target, clamped to VLIM, which the reference then slews
  towards. -/
  | railVsetWrite (c : Fin 8) (n : Fin 12) (v : Word)
/-- RAIL_FSW_WRITE (R86). A write of RAILn.FSW is accepted only while the rail is OFF; otherwise it is ignored and
  CFG_BUSY is set. -/
  | railFswWrite (c : Fin 8) (n : Fin 12) (v : Word)
/-- PREBIAS_SEARCH_DONE (R81). The pre-bias search finds Vpre and the rail enters SOFTSTART at the matching clock
  instant, or REGULATE. -/
  | prebiasSearchDone (n : Fin 12) (uv : Nat)
/-- LOOP_SAMPLE (R65). A rail samples its output, computes a new duty and advances soft start, slew and its
  counters.
  `uv`: the output; `vins`: VBUS each 250 ns since the last sample; `high`: the phases that are high; `low`: phases that fell, with the ns since. -/
  | loopSample (n : Fin 12) (uv : Int) (vins : List (BitVec 12)) (high : List (Fin 48)) (low : List (Fin 48 × Nat))
/-- COEF_APPLY (R88). A write of COEF_CTRL.APPLY checks the other bank and swaps to it at the next sample boundary,
  or sets COEF_RANGE. -/
  | coefApply (c : Fin 8) (n : Fin 12)
/-- COEF_COPY (R88). A write of COEF_CTRL.COPY copies the bank in use into the other bank. -/
  | coefCopy (c : Fin 8) (n : Fin 12)
/-- WIN_OVR (R67). 16 consecutive samples sit at an end code of the error converter and ERR.WIN_OVR is set. -/
  | winOvr (n : Fin 12)
/-- SET_V (R79). The ring command writes an output's VSET code and completes when its reference reaches the target.
  -/
  | setV (t : BitVec 8)
/-- RAMP (R79). The ring command writes VSET and ramps at the given slew for this ramp only. -/
  | ramp (t : BitVec 8)
/-- LOOP_ID (R91). The ring command checks its preconditions and starts an identification run on a rail. -/
  | loopId (t : BitVec 8)
/-- LID_SETTLE_END (R92). The first, discarded perturbation period ends and the run passes to INJECT. -/
  | lidSettleEnd (n : Fin 12)
/-- LID_INJECTION_END (R92). REPS + 1 periods have been injected; injection stops and the computation begins. -/
  | lidInjectionEnd (n : Fin 12)
/-- LID_COMPUTE_DONE (R95). The executing engine finishes the fit and the proposal, or ends the run with FIT_POOR.
  -/
  | lidComputeDone (n : Fin 12) (f : LidFit)
/-- LOOP_COMMIT (R98). The ring command copies a valid proposal into the free bank and applies it, or is refused
  with STALE. -/
  | loopCommit (t : BitVec 8)
/-- MASTER_PERIOD_START (R107). A rail's master period starts; angles, balance, sheaf levels and hint checks are
  updated. -/
  | masterPeriodStart (r : Fin 12) (imv : List (Fin 48 × Nat))
/-- HINT_EDGE (R116). A filtered HINTn edge is accepted; the class window opens, phases pre-fire and pb is set.
  `high` and `low` as in LOOP_SAMPLE. -/
  | hintEdge (r : Fin 12) (rising : Bool) (high : List (Fin 48)) (low : List (Fin 48 × Nat))
/-- HINT_WINDOW_END (R118). A hint window closes unconfirmed; pb is undone and HUNCONF increments. -/
  | hintWindowEnd (r : Fin 12)
/-- SHED_DECISION (R121). FILT has stayed below DROPk for DWELL periods and the sheaf starts shedding to the next
  level. -/
  | shedDecision (r : Fin 12)
/-- SHED_COMPLETE (R122). Cycle 8 of a shed ends; the departing phases go to SHED and the sheaf is REDUCED. -/
  | shedComplete (r : Fin 12)
/-- ADD_COMPLETE (R122). Cycle 8 of an add ends; the joining phases become ACTIVE. -/
  | addComplete (r : Fin 12)
/-- SHED_HOLD_END (R124). HOLD ms after a return to FULL elapse and the DWELL count restarts. -/
  | shedHoldEnd (r : Fin 12)
/-- SFLT_FAULT (R125). A filtered low on SFLTg starts the identification of the group's faulted stages.
  The input has stood so for `ns` nanoseconds. -/
  | sfltFault (g : Fin 8) (low : Bool) (ns : Nat) (imon : List (Fin 56 × Nat))
/-- OUT_OF_FAMILY (R128). A phase stays out of family or its IMON stays open for CNT periods and is removed. -/
  | outOfFamily (p : Fin 48)
/-- PEAK_TRIP (R134). A phase's peak comparator trips during an on-time and the phase goes low for the rest of its
  period.
  IMON at `uv` µV, `ns` after the edge that began the on-time. -/
  | peakTrip (p : Fin 56) (uv ns : Nat)
/-- NEG_CURRENT_LIMIT (R137). A phase's current falls below −NEG in REGULATE and it goes to mid-level for the
  period.
  The current in mA. -/
  | negCurrentLimit (p : Fin 56) (ma : Int)
/-- HICCUP_ENTRY (R138). LCNT reaches HICCUP.N; the rail or buck enters HICCUP and raises its event. -/
  | hiccupEntry (x : Fin 28)
/-- HICCUP_OFF_END (R139). The hiccup off time ends; RETRY increments and a soft start begins from 0 V. -/
  | hiccupOffEnd (x : Fin 28)
/-- RETRY_CLEAR (R141). The output has regulated for CLR × 10 ms with no limited period and RETRY returns to 0. -/
  | retryClear (x : Fin 28)
/-- START_SHORT_CHECK (R142). The soft-start clock reaches 0.5 T; an output below 25 % of target is declared a start
  short and enters HICCUP.
  The output at `uv` µV. -/
  | startShortCheck (x : Fin 28) (uv : Nat)
/-- OV_TRIP (R146). An output stays above Vov for OVF; hardware takes the OV reaction and raises the event with
  CLS_OV.
  The output has stood at `uv` µV for `ns`; `vin`: the µV of its input group, for a load switch. -/
  | ovTrip (x : Fin 46) (uv vin ns : Nat)
/-- UV_TRIP (R147). An armed output stays below Vuv for UVF; power-good is removed and the event is raised with
  CLS_UV.
  The output has stood at `uv` µV for `us`; `vin` as in OV_TRIP. -/
  | uvTrip (x : Fin 46) (uv vin us : Nat)
/-- POWER_GOOD (R148). The output has stayed inside its window for PGD and its power-good bit sets.
  The output at `uv` µV has been inside its window for `us`; `vin` as in OV_TRIP. -/
  | powerGood (x : Fin 46) (uv vin us : Nat)
/-- OFF_THRESHOLD_CROSSING (R149). An output crosses OUTx_OFF.OFF_TH and its BELOW bit changes.
  The output at `uv` µV. -/
  | offThresholdCrossing (x : Fin 46) (uv : Nat)
/-- DISCHARGE_RELEASE (R153). The output has stayed below OFF_TH for 1 ms; DIS_FORCE clears and discharge is
  released. -/
  | dischargeRelease (x : Fin 46)
/-- DIS_FORCE_WRITE (R153). A write of 1 to OUTx_OFF.DIS_FORCE engages discharge of the output. -/
  | disForceWrite (c : Fin 8) (x : Fin 46)
/-- VBUS_OV (R156). VBUS trips above VBUS_THR.OV; forward conversion and any donor session stop, and event 102 is
  raised.
  VBUS has stood above `mv` for `us` microseconds. -/
  | vbusOv (mv us : Nat)
/-- VBUS_UV (R156). VBUS stays under VBUS_THR.UV for 20 µs and event 102 is raised with CLS_UV.
  VBUS has stood below `mv` for `us` microseconds. -/
  | vbusUv (mv us : Nat)
/-- PORT_OV (R156). A port sense pin trips above PORT_OV.OV; its ORing FET turns off and the port goes to OV_OFF.
  The pin has stood above `mv` for `us` microseconds. -/
  | portOv (p : Fin 3) (mv us : Nat)
/-- VBAK_WEAK (R156). VBAK stays under its weak threshold for 100 ms; RTC_WEAK is set with a C0 on event 125.
  VBAK has stood at `mv` for `us`. -/
  | vbakWeak (mv us : Nat)
/-- INTERNAL_SUPPLY_FAULT (R156). An internal supply leaves its window; the device reacts with POR, a C3 or a C1 as
  the supply dictates.
  Supply `k` reads `mv`. -/
  | internalSupplyFault (k : Fin 5) (mv : Nat) (feeds : Fin 4)
/-- DIE_TEMP_TRIP (R526). The hardware die comparator trips near 155 °C and raises a C3 on event 107. -/
  | dieTempTrip
/-- PORT_ABOVE_PRES (R160). VPx rises above PRES; an ABSENT port enters CONFIRMING.
  The pin stands at `mv`. -/
  | portAbovePres (p : Fin 2) (mv : Nat)
/-- PORT_BELOW_PRES (R160). VPx falls below PRES while CONFIRMING; the port returns to ABSENT.
  The pin stands at `mv`. -/
  | portBelowPres (p : Fin 2) (mv : Nat)
/-- FEED_RETURN (R160). The RETURN confirmation elapses; the port goes ON or BLOCKED and counts as a returned feed.
  -/
  | feedReturn (p : Fin 2)
/-- PORT_REVERSE_TRIP (R160). A conducting port's VDS falls below −REV_MV; its FET turns off and it goes to STANDBY,
  or port N trips.
  VDS stands at `uv` microvolts. -/
  | portReverseTrip (p : Fin 3) (uv : Int)
/-- PORT_VDS_POSITIVE (R160). A STANDBY port's VDS rises above 0 and gate regulation resumes.
  VDS stands at `uv` microvolts. -/
  | portVdsPositive (p : Fin 2) (uv : Int)
/-- PORT_BELOW_LOSS (R160). VPx falls below LOSS; the port enters LOSING and its confirmation count starts.
  The pin stands at `mv`. -/
  | portBelowLoss (p : Fin 2) (mv : Nat)
/-- PORT_ABOVE_LOSS (R160). VPx rises above LOSS while LOSING; the port returns to its previous state.
  The pin stands at `mv`. -/
  | portAboveLoss (p : Fin 2) (mv : Nat)
/-- PORT_LOSS_CONFIRMED (R160). The CONFIRM count elapses; the port becomes ABSENT and its loss is raised. -/
  | portLossConfirmed (p : Fin 2)
/-- PORT_OV_CLEAR (R160). VPx falls below OV minus HYS and an OV_OFF port returns to ABSENT.
  The pin stands at `mv`. -/
  | portOvClear (p : Fin 3) (mv : Nat)
/-- PORT_EN_WRITE (R160). A write of xCFG.EN enables a port to ABSENT or disables it with its FET off. -/
  | portEnWrite (c : Fin 8) (p : Fin 3) (b : Bool)
/-- PORT_BLOCK_WRITE (R162). A write of xCFG.BLOCK holds the port's FET off, or is refused if the other feed is not
  conducting. -/
  | portBlockWrite (c : Fin 8) (p : Fin 2) (b : Bool)
/-- COLD_START (R166). A feed is present while VBUS is below its POR threshold; the start-up path starts the
  converter at 14.0 V with a 2.0 A limit. -/
  | coldStart (f : Fin 3)
/-- STARTUP_PATH_STOP (R167). VPA and VPB both fall below 36.0 V in PARKED; the start-up path stops and STATE
  becomes OFF. -/
  | startupPathStop
/-- STARTUP_PATH_RESTART (R167). A feed rises above 36.0 V in PARKED; the path restarts at 6.50 V and CS_SRC clears.
  -/
  | startupPathRestart (f : Fin 3)
/-- FSTART_DONE (R170). The forward soft start has ramped the current to demand and the converter enters FWD. -/
  | fstartDone
/-- VBUS_OV_RECOVERED (R168). VBUS has stayed 1.0 V below the OV threshold for 1 ms and a halted converter may
  restart.
  VBUS has stood at or below `mv` for `us` microseconds. -/
  | vbusOvRecovered (mv us : Nat)
/-- BUSC_EN_WRITE (R170). A host write of BUSC.CTRL.EN enables the converter, or clears it and takes the converter
  to OFF. -/
  | buscEnWrite (c : Fin 8) (b : Bool)
/-- DONOR_START (R172). DONOR_CTRL START checks the session conditions and moves the converter to FSTOP with SESSION
  set. -/
  | donorStart (t : BitVec 8) (vbus : Nat) (vpn : Nat)
/-- DONOR_STOP (R172). DONOR_CTRL STOP ends the session through RSTOP and completes when SESSION clears. -/
  | donorStop (t : BitVec 8)
/-- FSTOP_DONE (R170). The forward bus current has ramped to 0; ports A and B are blocked and the converter enters
  DEAD. -/
  | fstopDone
/-- DEAD_END (R170). TURN.DEAD elapses; the converter proceeds to MATCH, FSTART or HALT. -/
  | deadEnd
/-- NODE_MATCH (R170). The node comes within NMATCH.WIN of VPN and ORN starts rising.
  The node stands at `vnode` and VPN at `vn` millivolts. -/
  | nodeMatch (vnode vn : Nat)
/-- MATCH_TIMEOUT (R170). MATCH_T elapses without a match; the session returns to DEAD with MATCH_FAIL. -/
  | matchTimeout
/-- CONNECT_DONE (R170). ORN has risen over SOFT and the reference slews to DONOR_SET.V. -/
  | connectDone
/-- DELIVER_ENTRY (R172). The reference reaches V or a donor limit acts; the session delivers and START completes.
  -/
  | deliverEntry
/-- DONOR_FLOOR (R174). VBUS has stayed below DONOR_LIM.FLOOR for 1 ms and the session ends with FLOOR.
  The highest VBUS of the last `us` microseconds is `mv`. -/
  | donorFloor (mv us : Nat)
/-- DONOR_TAPER (R174). The port N current has stayed below TAPER_I for TAPER_T and the session ends with TAPER. -/
  | donorTaper
/-- DONOR_TIME (R174). ELAPSED reaches TMAX minutes and the session ends with TIME. -/
  | donorTime
/-- RSTOP_DONE (R170). The reverse current has ramped to 0; ORN turns off and the converter enters DEAD. -/
  | rstopDone
/-- PH_REM_CLEAR (R169). A host write of 1 to a BUSC.PH_REM bit lets the removed bus phase rejoin at the next FSTART
  or MATCH. -/
  | phRemClear (c : Fin 8) (v : BitVec 8)
/-- CHARGER_TICK (R181). FE2's 1 ms tick runs the charger state machine, timers, zones and suspension reasons.
  V(BSN) stands at `vbsn` millivolts. -/
  | chargerTick (vbsn : Nat)
/-- QUALIFY_END (R185). 200 ms at zero set-point end and QUALIFY chooses DONE, PRECHARGE or CC from VCELL.
  V(BSN) stands at `vbsn` millivolts. -/
  | qualifyEnd (vbsn : Nat)
/-- PRECHARGE_DONE (R184). VCELL has stayed at or above VPRE + 50 mV for 1 s and the charger enters CC. -/
  | prechargeDone
/-- PRECHARGE_TIMEOUT (R184). The pre-charge timer reaches PRE_T and the charger enters TIMEOUT. -/
  | prechargeTimeout
/-- CV_ENTRY (R184). CV_ACT has held for 1 s in CC and the charger enters CV. -/
  | cvEntry
/-- SAFETY_TIMER_EXPIRY (R187). ELAPSED reaches SAFE_T hours and the charger enters TIMEOUT. -/
  | safetyTimerExpiry
/-- TERMINATION (R189). The termination conditions have held for 10 s in CV and the charger enters TOPOFF or DONE.
  -/
  | termination
/-- TOPOFF_DONE (R184). The top-off timer reaches TOPOFF and the charger enters DONE. -/
  | topoffDone
/-- AUTO_RECHARGE (R184). VCELL has stayed below VCV − RCHG for 1 s in DONE with AUTO_RCHG and a recharge starts in
  CC. -/
  | autoRecharge
/-- REST_DUE (R191). REST.INT minutes of charging have elapsed and a measurement rest starts. -/
  | restDue
/-- REST_END (R191). REST.DUR elapses; the OCV is recorded and the charger returns to PRIOR. -/
  | restEnd
/-- PACK_ABSENCE (R195). The absence conditions hold for 1 ms; the charger declares the pack ABSENT and the
  converter regulates VBUS.
  `byNtc`: by the NTC alone; else VBUS has risen by `rise` millivolts in 100 µs, and the conditions have held for `us`. -/
  | packAbsence (byNtc : Bool) (rise us : Nat)
/-- PACK_REINSERTION (R196). The NTC is valid and pack current flows for 1 ms; the pack is declared present and the
  charger enters QUALIFY.
  The current has stood at or above IDET for `us` microseconds. -/
  | packReinsertion (us : Nat)
/-- PROBE_START (R196). A probe falls due and FE2 lowers the VBUS set-point by PROBE_DV. -/
  | probeStart
/-- PROBE_END (R196). The 20 ms probe ends with no pack found and the set-point is restored. -/
  | probeEnd
/-- PACK_OV (R194). V(BSN) exceeds the pack overvoltage cut for 100 µs; the demand drops to 0 and the charger enters
  FAULT.
  V(BSN) has stood above `vbsn` millivolts for `us` microseconds. -/
  | packOv (vbsn us : Nat)
/-- NTC_SHORT_FAULT (R184). The NTC has read SHORT for 10 ms and the charger enters FAULT. -/
  | ntcShortFault
/-- NTC_CLASS_CHANGE (R180). The NTC comparators reclassify the pin as OPEN, SHORT or VALID after their filter.
  The pin has stood on one side of the thresholds, at `mv`, for `us` microseconds. -/
  | ntcClassChange (mv us : Nat)
/-- TPACK_UPDATE (R180). Every 10 ms TPACK is computed from the NTC with the beta equation. -/
  | tpackUpdate (mv : BitVec 11)
/-- CHG_CTRL_STOP (R197). CHG_CTRL STOP sets SUSP.HOST. -/
  | chgCtrlStop (t : BitVec 8)
/-- CHG_CTRL_START (R197). CHG_CTRL START clears SUSP.HOST. -/
  | chgCtrlStart (t : BitVec 8)
/-- CHG_CTRL_CLEAR (R197). CHG_CTRL CLEAR takes TIMEOUT or FAULT to QUALIFY with all timers cleared. -/
  | chgCtrlClear (t : BitVec 8)
/-- CHG_CTRL_REST (R197). CHG_CTRL REST starts a measurement rest at once in a charging state. -/
  | chgCtrlRest (t : BitVec 8)
/-- CHG_CTRL_RECHARGE (R197). CHG_CTRL RECHARGE moves DONE to CC as a recharge. -/
  | chgCtrlRecharge (t : BitVec 8)
/-- BUCK_EN_SET (R207). BKn_CTRL.EN is set and a leader buck enters PREBIAS. -/
  | buckEnSet (c : Fin 8) (n : Fin 16)
/-- BUCK_EN_CLEAR (R207). BKn_CTRL.EN is cleared and the buck goes to OFF with its switch node high-impedance. -/
  | buckEnClear (c : Fin 8) (n : Fin 16)
/-- BUCK_PREBIAS_DONE (R207). The buck has read its output and enters SOFTSTART or REGULATE. -/
  | buckPrebiasDone (n : Fin 16) (uv : Nat)
/-- BUCK_SAMPLE (R202). A buck samples its feedback and updates its duty, soft start and slew.
  FBB stands at `uv` microvolts and VBUS at `vin` millivolts; the currents of the buck and of its follower; `cycle`: a cycle begins. -/
  | buckSample (n : Fin 16) (uv : Int) (vin : Nat) (ma fma : Int) (cycle : Bool)
/-- BUCK_PEAK_TRIP (R208). A buck's high-side peak comparator trips and ends the on-time, making a limited cycle.
  The high-side current stands at `ma`. -/
  | buckPeakTrip (n : Fin 16) (ma : Nat)
/-- BUCK_PAR_WRITE (R210). A write of BK(2k)_CTRL.PAR forms or breaks a pair while both halves are OFF, or is
  refused. -/
  | buckParWrite (c : Fin 8) (k : Fin 8) (b : Bool)
/-- LDO_EN_SET (R211). LDOj_CTRL.EN is set and the output rises linearly over SS_T. -/
  | ldoEnSet (c : Fin 8) (j : Fin 10)
/-- LDO_EN_CLEAR (R211). LDOj_CTRL.EN is cleared and the LDO turns off. -/
  | ldoEnClear (c : Fin 8) (j : Fin 10)
/-- LDO_RISE_DONE (R211). The LDO rise completes, SS_DONE sets and UV is armed. -/
  | ldoRiseDone (j : Fin 10)
/-- LDO_OC_OFF (R211). The LDO current limit has acted for LIM_T and the LDO latches off.
  The load stands at `ma` and the input group at `vin` millivolts, for `us` microseconds. -/
  | ldoOcOff (j : Fin 10) (ma vin us : Nat)
/-- LDO0_TO_GROUP (R212). The group 0 input has stayed above the handover level for 100 µs and LDO0 moves to it.
  The input has stood at or above `mv` for `us` microseconds. -/
  | ldo0ToGroup (mv us : Nat)
/-- LDO0_TO_KEEPALIVE (R212). The group 0 input falls below the return level, or the floor is reached, and LDO0
  returns to the keep-alive path.
  The input stands at `mv`. -/
  | ldo0ToKeepalive (mv : Nat)
/-- KA_TRIP (R212). LDO0 has been held at the 50 mA keep-alive limit for LIM_T; it turns off and KA_TRIP is set.
  The current has stood at `ma` for `us` microseconds. -/
  | kaTrip (ma us : Nat)
/-- LS_EN_SET (R213). LSk_CTRL.EN is set and the output ramps at SLEW from its present voltage. -/
  | lsEnSet (c : Fin 8) (k : Fin 8)
/-- LS_EN_CLEAR (R213). LSk_CTRL.EN is cleared and the switch opens. -/
  | lsEnClear (c : Fin 8) (k : Fin 8)
/-- LS_RAMP_DONE (R213). The switch output reaches its input and the switch is ON.
  The output and the input stand at `uv` and `vin` microvolts. -/
  | lsRampDone (k : Fin 8) (uv vin : Nat)
/-- LS_OC_OFF (R213). Current regulation has lasted FLT_T and the switch latches off.
  The current has stood at `ma` for `us` microseconds. -/
  | lsOcOff (k : Fin 8) (ma : Int) (us : Nat)
/-- LS_FAST_TRIP (R213). Switch current exceeds twice ILIM; it opens within 1 µs and latches.
  The current stands at `ma`. -/
  | lsFastTrip (k : Fin 8) (ma : Int)
/-- LS_REVERSE_START (R213). The output rises 50 mV above the input; the switch opens and REV_BLOCK is set.
  The output and the input stand at `uv` and `vin` microvolts. -/
  | lsReverseStart (k : Fin 8) (uv vin : Nat)
/-- LS_REVERSE_END (R213). The reverse condition ends and the switch closes again under SLEW.
  The output and the input stand at `uv` and `vin` microvolts. -/
  | lsReverseEnd (k : Fin 8) (uv vin : Nat)
/-- SEQ_STEP_ACTION (R221). A step's delay ends and the sequencer takes its action: ON, OFF, GPIO, FLAIL_READY or
  none. -/
  | seqStepAction (imon : List (Fin 56 × Nat))
/-- SEQ_STEP_COMPLETE (R221). A step's completion condition holds; the step completes and the next step begins. -/
  | seqStepComplete (p : Option (Fin 64))
/-- SEQ_STEP_TIMEOUT (R222). An ON, COND or FLAIL_WAIT step reaches its timeout; a power-up run fails, or a
  power-down run continues. -/
  | seqStepTimeout (p : Option (Fin 64))
/-- SLOW_OFF (R229). An OFF step reaches its timeout; DIS_FORCE is set and the step enters its second phase. -/
  | slowOff
/-- STUCK (R229). TMO2 elapses with the output still above OFF_TH; it is recorded STUCK and the table continues. -/
  | stuck
/-- FLOOR (R232). Every output other than LDO0 reads BELOW; IRQ FLOOR is raised and the device enters PARKED or
  MINOFF. -/
  | floor
/-- FLOOR_TIMEOUT (R232). DEF_TMO after the DOWN END passes without the floor and the slow-off rule applies to the
  outputs still above threshold. -/
  | floorTimeout
/-- SEQ_STEP_WRITE (R220). A write of a step in the step window is stored, or refused as invalid or as belonging to
  the running table. -/
  | seqStepWrite (c : Fin 8) (k : Fin 64) (b : Bool) (v : Word)
/-- SEQ_UP (R236). The ring command makes an on request and completes at the next entry to RUN. -/
  | seqUp (t : BitVec 8)
/-- SEQ_DOWN (R236). The ring command makes an off request and completes at the floor, or leads from HOLD to PARKED.
  -/
  | seqDown (t : BitVec 8)
/-- SEQ_STATE (R236). The ring command returns the sequencer and mode state at once. -/
  | seqState (t : BitVec 8)
/-- STROBE (R247). A STROBE is classified on the Flail line and STATE increments, applying mapped requests and
  holds.
  `ns`: the width of the low. -/
  | strobe (own : Bool) (ns : Nat)
/-- ANNOUNCE (R250). An ANNOUNCE frame is received; a valid one sets STATE and restarts the lost timer. -/
  | announce (h : FlStart) (st : BitVec 8) (comp : BitVec 8) (own : Bool) (coll : Bool)
/-- ELECT (R246). An election frame runs; candidates arbitrate by ID and serial, and the winner becomes MASTER.
  `ns`: the width of the start pulse. -/
  | elect (ns : Nat) (cands : List (BitVec 10 × BitVec 16)) (coll : Bool)
/-- DIGEST (R254). A DIGEST frame ends and every decoding node writes DGRES with its result.
  `first`, `second`: what the other nodes leave of the slots, by digest bit. -/
  | digest (h : FlStart) (first : BitVec 64) (second : BitVec 64) (own : Bool) (coll : Bool)
/-- IDENT (R255). An IDENT frame names the nodes whose digest differs from the reference.
  `ids`: the NODE_IDs of the dissenters among the other nodes. `maxn`: the master's DGCFG.MAXN. -/
  | ident (h : FlStart) (ref : BitVec 64) (ids : List (BitVec 10)) (maxn : BitVec 10) (own : Bool) (coll : Bool)
/-- FRAME_TYPE (R244). A frame with a reserved TYPE is met; decoding stops and the line is treated as busy until
  high for 50 µs. -/
  | frameType (h : FlStart)
/-- ALARM (R252). An ALARM pulse from another node is classified and the node acts as ALCFG.ACT selects.
  `ns`: the width of the low; `h`: how the other node's frame began that it fell into. -/
  | alarm (ns : Nat) (h : Option FlStart)
/-- ILLEGAL_WIDTH (R258). A Flail pulse of an illegal width is ignored and counted as a violation.
  `ns`: the width of the low. -/
  | illegalWidth (ns : Nat)
/-- FLAIL_WAKE_PULSE (R242). A low of at least 50 µs on FLA or FLB wakes a parked node, and a bridge drives its
  other port low.
  `us`: the width of the low. -/
  | flailWakePulse (p : Fin 2) (us : Nat)
/-- MASTER_LOST (R245). A follower's lost timer expires; MASTER_LOST is raised and a candidate starts an election.
  `low`: how long hold windows have kept the line low since the timer began, in µs. -/
  | masterLost (low : Nat)
/-- HOLD_EXP (R249). A node's ready-hold reaches HOLD_MAX and is released with a C1 on event 110. -/
  | holdExp
/-- STEP_DONE (R248). The line rises after the hold window and the master's step is complete; HOLDT is recorded.
  `low`: how long a hold kept the line low, in µs. -/
  | stepDone (low : Nat)
/-- TARGET_STROBE (R251). During TARGET, the next strobe falls due after STEP_T and step completion. -/
  | targetStrobe
/-- ANNOUNCE_PERIOD_EXPIRY (R250). The line has carried no announcement for ANN.PER and the master sends an
  ANNOUNCE. -/
  | announcePeriodExpiry
/-- MCTRL_STEP (R251). The granted master sends one strobe. -/
  | mctrlStep (c : Fin 8)
/-- MCTRL_GOTO (R251). The granted master sends an ANNOUNCE of ARG. -/
  | mctrlGoto (c : Fin 8) (arg : BitVec 8)
/-- MCTRL_TARGET (R251). The granted master strobes until STATE equals ARG, with MSTAT.AUTO set. -/
  | mctrlTarget (c : Fin 8) (arg : BitVec 8)
/-- MCTRL_STOP (R251). The master ends TARGET after the current step. -/
  | mctrlStop (c : Fin 8)
/-- MCTRL_WAKE (R251). The master sends a 100 µs WAKE low. -/
  | mctrlWake (c : Fin 8)
/-- ALARM_SEND (R252). A write of FLAIL.CTRL.ALARM, a failed run or a SAFE entry makes the node send a 30 µs alarm.
  `ns`: the width of the low as the node sees it. -/
  | alarmSend (c : Option (Fin 8)) (ns : Nat)
/-- ALARM_REPEAT (R252). An own alarm not classified as ALARM is repeated once the line has been high for 20 µs.
  `us`: how long the line has been high; `ns`: the width of the low as the node sees it. -/
  | alarmRepeat (us : Nat) (ns : Nat)
/-- FLAIL_STUCK (R258). A Flail port stays low beyond its limit; STUCK_A or STUCK_B is set and a bridge stops
  repeating it.
  `us`: how long it has been low; `hold`: in a hold. -/
  | flailStuck (p : Fin 2) (us : Nat) (hold : Bool)
/-- FRAME_ABANDON (R256). A follower sees no tick for 3 × TS inside a frame and abandons it as ABORTED.
  `us`: the time without a tick. -/
  | frameAbandon (h : FlStart) (us : Nat)
/-- DIGEST_ROUND (R256). The ring command runs a DIGEST frame, and optionally an IDENT frame, on the master node. -/
  | digestRound (t : BitVec 8)
/-- DIGEST_RESTART (R256). A frame aborted by an alarm restarts 100 µs after the line rises, at most twice. -/
  | digestRestart
/-- MARGIN (R267). The ring command writes NEXT, and either applies it at once or sets PEND for a deferred apply. -/
  | margin (t : BitVec 8)
/-- MARG_APPLY (R265). A write of MARG.CTRL.APPLY copies NEXT into CUR for every pending output in one tick. -/
  | margApply (c : Fin 8)
/-- MARG_DISARM (R266). A write of MARG.CTRL.DISARM clears SYNC.ARM. -/
  | margDisarm (c : Fin 8)
/-- SNAPSHOT (R271). The ring command captures a snapshot with a tag and completes once it is in NVM. -/
  | snapshot (t : BitVec 8)
/-- SNAPSHOT_WRITTEN (R270). FE7 writes a capture buffer to its log slot and frees the buffer. -/
  | snapshotWritten
/-- CONVERSION (R279). A table entry's conversion completes, and its corrected code feeds the accumulator and
  tracker. -/
  | conversion (v : Fin 2) (raw : BitVec 18)
/-- ACC_WINDOW_BOUNDARY (R282). A channel's window boundary falls; the result set takes the running sum and count,
  which restart. -/
  | accWindowBoundary (ch : Fin 192)
/-- ADC_URG (R281). The holder of the urgent grant writes ADC.URG and requests an urgent conversion. -/
  | adcUrg (c : Fin 8) (v : Word)
/-- URG_DONE (R281). The urgent conversion completes; URG_RES receives the result and the sequence resumes. -/
  | urgDone (v : Fin 2) (raw : BitVec 18)
/-- REF_EN_SET (R278). ADC.CTRL.REF_EN is set and the reference warm-up count starts. -/
  | refEnSet (c : Fin 8)
/-- REF_EN_CLEAR (R278). ADC.CTRL.REF_EN is cleared; REF_READY and both converter enables clear. -/
  | refEnClear (c : Fin 8)
/-- REF_READY (R278). The warm-up of 2.00 ms ends and REF_READY sets. -/
  | refReady
/-- CONV_EN_WRITE (R278). A write of CONVn_CFG.EN starts or stops table conversion, or is refused without the
  reference. -/
  | convEnWrite (c : Fin 8) (k : Fin 2) (v : Word)
/-- ACLR (R285). A write of ACC.ACLR clears one or all running accumulators. -/
  | aclr (c : Fin 8) (i : Fin 2) (v : Word)
/-- TCLR (R286). A write of ACC.TCLR resets one or all trackers to empty. -/
  | tclr (c : Fin 8) (i : Fin 2) (v : Word)
/-- ADC_CAL_ZERO (R287). ADC_CAL ZERO starts averaging uncorrected samples of the applied zero. -/
  | adcCalZero (t : BitVec 8)
/-- ADC_CAL_FULL (R287). ADC_CAL FULL averages the applied full scale and computes GAIN and OFFSET. -/
  | adcCalFull (t : BitVec 8)
/-- ADC_CAL_COMMIT (R287). ADC_CAL COMMIT writes the pair into CHCAL and the NVM calibration region. -/
  | adcCalCommit (t : BitVec 8)
/-- ADC_CAL_DISCARD (R287). ADC_CAL DISCARD drops the held calibration points. -/
  | adcCalDiscard (t : BitVec 8)
/-- ADC_CAL_POINT_DONE (R287). 2^NS samples have been collected and the ZERO or FULL step completes. -/
  | adcCalPointDone
/-- ADC_CAL_TIMEOUT (R287). The samples are not collected within 1 s and the step fails with TIMEOUT. -/
  | adcCalTimeout
/-- THERMAL_UPDATE (R292). FE3's 1 ms update reads the powers, updates the 24 nodes, evaluates the limits and writes
  the reactions. -/
  | thermalUpdate
/-- LEVEL_FALL (R299). T has stayed below the current threshold minus HYS for 1 s and the node's level falls by one.
  -/
  | levelFall (k : Fin 24)
/-- RATE_CLEAR (R299). The rate has stayed below 0.75 × RMAX for 100 ms and RATE clears. -/
  | rateClear (k : Fin 24)
/-- DIE_SHED (R298). The die power excess has lasted SHED_T seconds and the die node is held at level 5 or higher.
  -/
  | dieShed
/-- HOSTA_WRITE (R296). A write of THM.HOSTA gives a node a host anchor temperature that is valid for 1 s. -/
  | hostaWrite (c : Fin 8) (v : Word)
/-- READ (R316). A READ frame is checked and returns n registers read at one instant with a response trailer. -/
  | read (c : Fin 8) (f : Frame)
/-- WRITE (R315). A WRITE frame is checked and all its words take effect in one internal cycle; this covers
  registers with no row of their own. -/
  | write (c : Fin 8) (f : Frame)
/-- WRITE_MASKED (R321). A WRITE_MASKED frame performs an indivisible read-modify-write of the selected bits. -/
  | writeMasked (c : Fin 8) (f : Frame)
/-- DOORBELL (R328). A DOORBELL frame appends 1 to 4 entries to the context's submission ring, or is refused. -/
  | doorbell (c : Fin 8) (f : Frame)
/-- STATUS (R317). A STATUS frame retrieves the status word of the context's previous frame only. -/
  | status (c : Fin 8) (f : Frame)
/-- VIOL_WINDOW_END (R322). The violation window of VWIN ms closes and WINCNT returns to 0. -/
  | violWindowEnd (c : Fin 8)
/-- CTX_RESET (R324). A one-word write of 0xC7C7 to HIF.RST resets the writing context's rings, counters, quarantine
  and interrupt state. -/
  | ctxReset (c : Fin 8)
/-- COMMAND_FETCH (R329). The CQE fetches a submission entry under its conditions and gives it a tag, or completes
  it refused. -/
  | commandFetch (hits : List (Fin 4 × EccHit))
/-- SELF_CQH (R331). A write of CQE.SELF_CQH consumes completions, or is refused as BEYOND. -/
  | selfCqh (c : Fin 8) (v : Word)
/-- RING_IRQ_TIMEOUT (R332). The oldest unconsumed completion has waited TMO µs and event 136 + n is raised. -/
  | ringIrqTimeout (c : Fin 8)
/-- STALL_SLOT_BOUNDARY (R341). A new 50 µs stall-table slot comes into force with its owners. -/
  | stallSlotBoundary
/-- ARB_GRANT (R342). At a tick the arbiter grants a free resource to the slot owner or the highest-priority waiter.
  -/
  | arbGrant (g : Fin 6) (ask : List (Fin 8)) (done : List (Fin 9))
/-- REVOCATION (R346). At its boundary, a holder is revoked, requeued with its progress, and the resource is granted
  to the waiter. -/
  | revocation (r : Fin 9) (done : Nat)
/-- DIRECT_REQUEST (R349). ARB.SELF_REQ OP 1 requests URG or FLAIL for direct register use. -/
  | directRequest (c : Fin 8) (r : BitVec 4)
/-- DIRECT_RELEASE (R349). ARB.SELF_REQ OP 2 releases the context's direct grant. -/
  | directRelease (c : Fin 8) (r : BitVec 4)
/-- DIRECT_HOLD_EXPIRY (R350). A direct grant has been held for HOLD_MAX ms and is revoked at its boundary with
  HOLD_EXP. -/
  | directHoldExpiry (r : Fin 9)
/-- CLAIM (R358). A read of INT.CLAIM returns and claims the context's most urgent deliverable event. -/
  | claim (c : Fin 8)
/-- CLAIM_DONE (R359). A write of INT.CLAIM_DONE clears the event's active bit and recomputes the running group. -/
  | claimDone (c : Fin 8) (v : Word)
/-- SETPEND (R360). A write of INT.SETPEND sets the event's pending bit in the writing context. -/
  | setpend (c : Fin 8) (v : Word)
/-- HIRQ_GAP_END (R357). 100 ns after CLAIM_DONE, HIRQn may be asserted again for a deliverable event. -/
  | hirqGapEnd (c : Fin 8)
/-- EDGE_LATCH_APPLY (R362). When I12's clock runs again, edges latched during the stop are applied within 100 ns.
  -/
  | edgeLatchApply (es : List (Fin 160 × Bool))
/-- IRQ_EN_WRITE (R353). Setting an IRQ_EN bit whose IRQ_PEND bit is 1 gives the interrupt controller an edge. -/
  | irqEnWrite (c : Fin 8) (p : BitVec 6) (v : Word)
/-- RAISE (R371). The fault collector latches an event raise, escalates it, forces the safe state and records the
  history. -/
  | raise (ev : Fin 136) (cls : Option (Fin 5)) (detail : Word)
/-- ACK_ID (R374). A write of FLT.ACK.ID acknowledges one event, clearing its LAT, UNACK and RPT. -/
  | ackId (c : Fin 8) (id : BitVec 8)
/-- ACK_ALL (R374). A write of FLT.ACK.ALL acknowledges every latched event. -/
  | ackAll (c : Fin 8)
/-- LAT_ACK (R374). A write of 1 to a bit of FLT.LAT0 to LAT4 acknowledges that event. -/
  | latAck (c : Fin 8) (k : Fin 5) (v : Word)
/-- FLT_FORCE (R382). A write of 1 to a FLT.FORCE bit raises that event for test with FCTRL.CLS. -/
  | fltForce (c : Fin 8) (k : Fin 5) (v : Word)
/-- ERR_FORCE_WRITE (R532). A write of 1 to a page's ERR_FORCE bit sets the ERR bit and makes one forced raise. -/
  | errForceWrite (c : Fin 8) (p : BitVec 6) (v : Word)
/-- FCTRL_LIVE_WRITE (R382). A write of FCTRL.LIVE lets forced raises act fully in SERVICE, or is refused elsewhere.
  -/
  | fctrlLiveWrite (c : Fin 8) (v : Word)
/-- EVENT_RECORD_WRITE (R381). FE7 writes a raise's 8-byte record to the log in history order. -/
  | eventRecordWrite (fail : Bool)
/-- KICK (R390). A WDG.KICK write with the key checks in a slot and is judged VALID, EARLY, DUP, LATE or WRONG. -/
  | kick (c : Fin 8) (v : Word)
/-- SLOT_PERIOD_END (R389). A slot's period ends; an unserved period is an EXPIRY and a new period begins. -/
  | slotPeriodEnd (i : Fin 32)
/-- WDG_BIND_WRITE (R390). A write of SLOTs_CFG.BIND rebinds the slot and restarts its grid with a first period. -/
  | wdgBindWrite (c : Fin 8) (i : Fin 32) (v : Word)
/-- WDG_SLOT_EN_WRITE (R387). A write of SLOTs_CFG.EN starts a slot's grid, or a clearing write outside SERVICE and
  HOLD is refused. -/
  | wdgSlotEnWrite (c : Fin 8) (i : Fin 32) (v : Word)
/-- LOCKSTEP_MISMATCH (R399). An engine disagrees with its checker; both are halted and the engine's event is
  raised. `also`: the engines whose mismatch falls in the same cycle (R410). -/
  | lockstepMismatch (n : Fin 8) (also : List (Fin 8))
/-- ENGINE_EXCEPTION (R402). An engine takes an illegal instruction or bus error and halts, raising its event. -/
  | engineException (n : Fin 8)
/-- HANDSHAKE_TIMEOUT (R405). An inter-island handshake exceeds 20 µs; the transfer is abandoned and event 132 is
  raised.
  `us`: how long it has lasted with neither clock stretched. -/
  | handshakeTimeout (sender : Fin 16) (us : Nat)
/-- REF_LOSS (R407). The 25 MHz reference is lost and every island changes to the RC oscillator.
  `ns`: the time without an edge of XI; `khz`: its measured frequency. -/
  | refLoss (ns : Nat) (khz : Nat)
/-- REF_AUTO_RETURN (R407). XI has been good for 100 ms with AUTO_RET set and the device returns to it.
  `us`: how long XI has been good. -/
  | refAutoReturn (us : Nat)
/-- CLK_RET (R407). A write of CLK.CTRL.RET returns the clocks to XI while XI is good. -/
  | clkRet (c : Fin 8) (v : Word)
/-- DROOP (R408). An island's supply sags below its droop threshold and its clock is stretched to its cap.
  `pm`: the supply, in thousandths below nominal. -/
  | droop (i : Fin 16) (pm : Nat)
/-- DROOP_RELEASE_STEP (R408). After the supply recovers, the clock returns to nominal by one step every REL_T.
  `pm`: the supply, in thousandths below nominal; `gap`: the time since the last step; `ns10`: the length of the episode, both in 10 ns. -/
  | droopReleaseStep (i : Fin 16) (pm : Nat) (gap : Nat) (ns10 : Nat)
/-- DROOP_LONG (R408). A droop episode lasts longer than LONG_T and a C1 is raised on event 132.
  `ns10`: the length of the episode in 10 ns. -/
  | droopLong (i : Fin 16) (ns10 : Nat)
/-- RETIRE (R418). The ring command retires an SRAM page or NVM sector into a spare and records it in the table. -/
  | retire (t : BitVec 8)
/-- SCRUB (R421). The winnower reads a range word by word and writes a summary of corrected and uncorrectable words.
  -/
  | scrub (t : BitVec 8) (hits : List EccHit)
/-- LOFT_COMMIT (R426). The ring command writes a new loft record with the host data and the current device fields.
  -/
  | loftCommit (t : BitVec 8) (fail : Bool)
/-- LOFT_AUTO_COMMIT (R426). FE7 commits a loft record when a device field or the update state changes. -/
  | loftAutoCommit (fail : Bool)
/-- NVM_WRITE (R427). The ring command writes bytes from the data buffer into the NVM host area. -/
  | nvmWrite (t : BitVec 8) (fail : Bool)
/-- OTP_BURN_ROW (R442). OTP_BURN with a row code burns and verifies a coded row, moving it to a spare if needed. -/
  | otpBurnRow (t : BitVec 8) (reads : List OtpRow)
/-- OTP_COUNTER_INCREMENT (R440). OTP_BURN codes 256 to 258 burn the next pair of a thermometer counter. -/
  | otpCounterIncrement (t : BitVec 8)
/-- OTP_LOCK_BURN (R441). OTP_BURN codes 272 to 276 burn a region's lock bit in all three control copies. -/
  | otpLockBurn (t : BitVec 8)
/-- OTP_REBURN (R443). The ring command re-pulses a weak row or counter pair, or moves the row to a spare. -/
  | otpReburn (t : BitVec 8) (reads : List OtpRow)
/-- OVR_SET (R438). OVR_CTRL OP 1 sets OVR_LO and OVR_HI as the override of the selected row. -/
  | ovrSet (c : Fin 8)
/-- OVR_CLEAR (R438). OVR_CTRL OP 2 clears the selected row's override. -/
  | ovrClear (c : Fin 8)
/-- OVR_CLEAR_ALL (R438). OVR_CTRL OP 3 clears every override. -/
  | ovrClearAll (c : Fin 8)
/-- IMAGE_WRITE (R454). The ring command writes package bytes into the silo at SILO.NEXT and checks the headers. -/
  | imageWrite (t : BitVec 8) (fail : Bool)
/-- ACTIVATE (R459). The ring command authenticates and copies the staged items and restarts through WARM or WAKING.
  -/
  | activate (t : BitVec 8) (hits : List EccHit) (failed : Option (Fin 2))
/-- CONFIRM (R460). The ring command raises the OTP counters, erases the kept slot and marks the update CONFIRMED.
  -/
  | confirm (t : BitVec 8)
/-- LDR_WRITE (R461). NVM.LDR_CTRL OP 1 writes LDR_BUF into the silo while the ROM loader runs. -/
  | ldrWrite (c : Fin 8) (v : Word) (fail : Bool)
/-- LDR_ACTIVATE (R461). NVM.LDR_CTRL OP 2 acts as ACTIVATE in HOLD while the ROM loader runs. -/
  | ldrActivate (c : Fin 8) (v : Word)
/-- OSC_STOP (R468). The 32.768 kHz oscillator shows no edge for 2 ms; OSF is set and the calendar holds.
  No edge for `us` microseconds. -/
  | oscStop (us : Nat)
/-- OSC_RESUME (R468). The 32.768 kHz oscillator runs again and the calendar continues from its held value. -/
  | oscResume
/-- TRIM_CORRECTION (R469). Every 2^20 oscillator cycles the prescaler skips or inserts TRIM cycles. -/
  | trimCorrection
/-- SECOND_BOUNDARY (R470). The calendar advances one second, rolling its fields, WDAY and the year wrap. -/
  | secondBoundary
/-- CALENDAR_READ (R471). A read of a calendar register opens the context's freeze, and a read of YEAR closes it. -/
  | calendarRead (c : Fin 8) (i : Fin 8)
/-- FREEZE_TIMEOUT (R471). A calendar freeze stays open for 250 ms, closes and sets FREEZE_TO. -/
  | freezeTimeout (c : Fin 8)
/-- FREEZE_REL (R471). A write of RTC.CTRL.FREEZE_REL closes the writer's freeze. -/
  | freezeRel (c : Fin 8)
/-- RTC_FIELD_WRITE (R472). A write of MIN, HOUR, DAY, MONTH or YEAR is held in the pending set. -/
  | rtcFieldWrite (c : Fin 8) (k : Fin 5) (v : Word)
/-- RTC_COMMIT (R472). A write of RTC.SEC commits the calendar from the held fields, or is refused with BAD_DATE. -/
  | rtcCommit (c : Fin 8) (v : Word)
/-- RTC_DISCARD (R472). A write of RTC.CTRL.DISCARD clears the pending set. -/
  | rtcDiscard (c : Fin 8)
/-- OSF_CLEAR (R468). A write of 1 to ERR.OSF clears OSF only while the oscillator runs. -/
  | osfClear (c : Fin 8)
/-- TIME_NS_READ (R476). A read of TIME.NS latches SEC and SECH for the reading context. -/
  | timeNsRead (c : Fin 8)
/-- SET_NOW (R477). TIME.CTRL OP 1 sets TIME from SET_SECH, SET_SEC and SET_NS in the tick of the write. -/
  | setNow (c : Fin 8)
/-- SET_AT_PPS (R477). TIME.CTRL OP 2 arms a set of TIME to whole seconds at the next qualified PPS edge. -/
  | setAtPps (c : Fin 8)
/-- CANCEL (R477). TIME.CTRL OP 3 clears SET_ARMED. -/
  | cancel (c : Fin 8)
/-- PPS_EDGE (R478). A PPS edge is captured; a qualified one records the offset and TIME is stepped or slewed per
  CFG.MODE. -/
  | ppsEdge (lead : Fin 25)
/-- PPS_MISSED (R478). 1 s + WIN passes without an edge; a missed edge is counted and LOCKED clears after LOSS_N. -/
  | ppsMissed
/-- TWI_XFER (R485). The ring command runs a two-wire descriptor as one or more bus transactions. -/
  | twiXfer (t : BitVec 8) (l : List TwiTx)
/-- TWI_RETRY (R490). The bus has been free for the bus-free time and the lost transaction is repeated.
  The bus has been free for `ns` nanoseconds. -/
  | twiRetry (i : Fin 2) (ns : Nat) (l : List TwiTx)
/-- TWI_POLL_TIMEOUT (R485). The target is not acknowledged within POLL ms after a write segment and the transfer
  fails with NACK_ADDR. -/
  | twiPollTimeout (i : Fin 2)
/-- TWI_STRETCH_TIMEOUT (R489). SCL stays low for STRETCH_T; the transfer is abandoned with STRETCH.
  It has been low for `us` microseconds. -/
  | twiStretchTimeout (i : Fin 2) (us : Nat)
/-- SCL_STUCK (R489). SCL stays low for a further STRETCH_T; SCL_STUCK is raised and the controller is disabled.
  It has been low for `us` microseconds more. -/
  | sclStuck (i : Fin 2) (us : Nat)
/-- TWI_RECOVERY (R491). SDA has stayed low for RECOV_T before a START and the controller clocks the bus to free it.
  It has been low for `us` microseconds. -/
  | twiRecovery (i : Fin 2) (us : Nat) (freed : Bool)
/-- TWI_RESET (R492). A write of TWI CTRL.RESET abandons the transfer at once and releases both lines. -/
  | twiReset (c : Fin 8) (i : Fin 2)
/-- TWI_RECOVER (R491). A write of TWI CTRL.RECOVER runs the recovery sequence on demand. -/
  | twiRecover (c : Fin 8) (i : Fin 2)
/-- LOCK_WRITE (R500). A write of 0x5EED or 0x0000 to LOCK unlocks or locks the page. -/
  | lockWrite (c : Fin 8) (p : BitVec 6) (v : Word)
/-- OWNER_WRITE (R319). A write of OWNER sets the page's owning context, storing 0x8 to 0xE as 0xF. -/
  | ownerWrite (c : Fin 8) (p : BitVec 6) (v : Word)
/-- GPIO_EDGE (R512). A qualified edge on a GPIO input sets its IRQ_PEND bit.
  The pin has stood at `lvl` for `us` microseconds. -/
  | gpioEdge (n : Fin 16) (lvl : Bool) (us : Nat)
/-- OUT_SET (R509). A write of GPIO.OUT_SET sets OUT bits of HOST pins. -/
  | outSet (c : Fin 8) (v : Word)
/-- OUT_CLR (R509). A write of GPIO.OUT_CLR clears OUT bits of HOST pins. -/
  | outClr (c : Fin 8) (v : Word)
/-- VIO_LOSS (R516). VIO stays below 1.50 V for 2 µs; frames end SHORT, outputs float and two-wire transfers are
  reset.
  VIO stands at `mv`, for `us` microseconds. -/
  | vioLoss (mv us : Nat)
/-- INTERNAL_SUPPLY_RECOVERY (R156). An internal supply that was out of window returns to it; NVM writes are allowed
  again and REF_EN is no longer held at 0.
  Supply `k` reads `mv`. -/
  | internalSupplyRecovery (k : Fin 5) (mv : Nat)
/-- VIO_RETURN (R516). VIO rises back above 1.50 V, so chip selects, HIRQ, GPIO, SDO and the other VIO-domain pins
  work again.
  VIO stands at `mv`. -/
  | vioReturn (mv : Nat)
/-- BUS_CONVERTER_SAMPLE (R182). At each sample of the forward converter, hardware composes the pack-current demand,
  runs the bus loops and applies the ITOT and PLIM caps. -/
  | busConverterSample (m : BusMeas)
/-- STARTUP_PATH_DELIVERY (R167). The start-up path starts to deliver bus-side current above 0.1 A, for example when
  the pack falls below 6.50 V in PARKED, and CS_SRC is set.
  The path delivers `ma`. -/
  | startupPathDelivery (ma : Nat)
/-- DIE_TEMP_REARM (R526). The junction falls below 140 °C and the hardware die comparator re-arms. -/
  | dieTempRearm
/-- FLAIL_PORT_HIGH (R258). A Flail port reported stuck has stayed high for 1 ms, and a bridge resumes repeating
  from it.
  `us`: how long it has been high. -/
  | flailPortHigh (p : Fin 2) (us : Nat)
/-- TEST_ACCESS_PORT (R524). TCK cycles on the IEEE 1149.1 port shift instructions and data, reset the TAP on five
  cycles with TMS high, and apply EXTEST in HOLD.
  `lv`: the levels of the pins that have boundary cells. -/
  | testAccessPort (tms tdi lv : List Bool) (ins : TapIns)
/-- WAKING_READ_ACCESS (R40). 2.5 ms after entry to WAKING, host reads of the DEV, FLT and LOG pages begin to be
  accepted.
  VBAK stands at `mv`. -/
  | wakingReadAccess (mv : Nat)
/-- WINDOW_SETTLE (R144). OUTx_OFF.SETTLE after a slew ends elapses, and the output's OV and UV thresholds return
  from the widened slew window to the new target. -/
  | windowSettle (x : Fin 46)
  deriving DecidableEq, Repr

end Sys2Proof
end

