-- ==== Sys2Proof/Config.lean ====
section
/-! DEFINITION. What the spec leaves to the implementation: values it does not state. Each is a constant without a body,
so that nothing can be proved of it. -/

namespace Sys2Proof.Config

/-- A value that the spec leaves open, drawn with a fresh number each time. (DESIGN CHOICE, log 7.) -/
opaque freeWord : Nat → Word

/-- Hualyn's factory key hash, held in ROM (R448): 32 bytes that the spec does not state. (DESIGN CHOICE, log 7.) -/
opaque factoryKeyHash : List (BitVec 8)

/-- A truth value that the spec leaves open. (DESIGN CHOICE, log 7; DESIGN CHOICE, log 45; DESIGN CHOICE, log 71.) -/
opaque freeBool : Nat → Bool

/-- The coefficients of a buck's preset, which the spec does not state (R202, R203): of COMP, or for a pair of COMP + 8, the words
laid out as RAIL's PI, DX and POLE registers. (DESIGN CHOICE, log 50.) -/
opaque buckCoef : Nat → Nat → BitVec 32

/-- The voltage in mV that an LDO needs above its target at a load of so many mA (R211), which the spec gives as a range.
(DESIGN CHOICE, log 50.) -/
opaque dropout : Nat → Nat

/-- How the DETAIL word of a record codes what a rule says the record gives, where no rule gives the code: by the kind of
record and what it tells. (DESIGN CHOICE, log 7; DESIGN CHOICE, log 74.) -/
opaque detailOf : Nat → Nat → Nat

end Sys2Proof.Config
end

