-- ==== Sys2Proof/Machine/Fields.lean ====
section
/-! DEFINITION. What a register field is: its place, its access type (R14) and its reset value (R19); and the
bit arithmetic on a 32-bit register that reads and writes one. -/

namespace Sys2Proof.Machine

/-- The access types of R14. RSVD fields are left out of the maps: they read 0 and ignore writes. -/
inductive Acc where
  | ro | rw | w1c | w1s | wo | rwl | rwh
  deriving DecidableEq, Repr

/-- A register field: `off` is its register's byte offset from the base of its page or block, `lo` its lowest
bit, `w` its width, `rst` its value after reset (R19). -/
structure Fld where
  off : Nat
  lo : Nat
  w : Nat
  acc : Acc
  rst : Nat
  deriving DecidableEq, Repr

/-- One row of a page's map: a register, or a family of `count` registers `stride` bytes apart, the first at
`off` in the page (R503). -/
structure RegRow where
  off : Nat
  count : Nat
  stride : Nat
  flds : List Fld
  deriving DecidableEq, Repr

/-- The bits `lo + w - 1 : lo` of a register, as a number. -/
def getBits (v : Word) (lo w : Nat) : Nat := (v.toNat >>> lo) % 2 ^ w

/-- The mask of the bits `lo + w - 1 : lo`. -/
def bitMask (lo w : Nat) : Word := BitVec.ofNat 32 ((2 ^ w - 1) <<< lo)

/-- The register with the bits `lo + w - 1 : lo` replaced by `x`, cut to the field's width. -/
def putBits (v : Word) (lo w x : Nat) : Word :=
  (v &&& ~~~ bitMask lo w) ||| BitVec.ofNat 32 ((x % 2 ^ w) <<< lo)

/-- A two's complement reading of a `w`-bit number (R9). -/
def signOf (w x : Nat) : Int := if x < 2 ^ (w - 1) then (x : Int) else (x : Int) - (2 ^ w : Nat)

/-- The two's complement code of `i` in `w` bits (R9). -/
def codeOf (w : Nat) (i : Int) : Nat := (i % ((2 ^ w : Nat) : Int)).toNat

/-- `i` held inside `lo` to `hi`. -/
def clampI (lo hi i : Int) : Int := if i < lo then lo else if hi < i then hi else i

/-- `n` held inside `lo` to `hi`. -/
def clampN (lo hi n : Nat) : Nat := if n < lo then lo else if hi < n then hi else n

/-- A field that is 0 acts as `d`. -/
def orIf0 (n d : Nat) : Nat := if n = 0 then d else n

/-- The registers' reset word, from a row's fields. -/
def rowReset (r : RegRow) : Nat := r.flds.foldl (fun a f => a + f.rst <<< f.lo) 0

/-- Does the row hold the register at page offset `o`? -/
def RegRow.holds (r : RegRow) (o : Nat) : Bool :=
  decide (r.off ≤ o) && decide ((o - r.off) % r.stride = 0) && decide ((o - r.off) / r.stride < r.count)

/-- The row of a page's map that holds offset `o`. -/
def rowAt : List RegRow → Nat → Option RegRow
  | [], _ => none
  | r :: t, o => if r.holds o then some r else rowAt t o

/-- The bits of a word that are 1, as bit numbers counted from `k0`. -/
def onesFrom (v : Word) (k0 : Nat) : List Nat :=
  if v = 0 then [] else ((List.range 32).filter (fun j => v.toNat.testBit j)).map (· + k0)

end Sys2Proof.Machine
end

