-- ==== Sys2Proof/Machine/MapData.lean ====
section
/-! DEFINITION. The field maps of spec/ for the pages ADC, ACC, THM, RTC, TIME, TWI, OTP, NVM, ECC, LOFT, LOG, SEC, GPIO: every field with its
offset (inside its block, for a family of blocks), its lowest bit, its width, its access type and its reset
value (R14, R19), and per page the rows that place them. -/

namespace Sys2Proof.Machine

/-! ADC page (R290, R498, R499, R500, R501). -/

def ADC.STATUS_REF_READY : Fld := ⟨8, 0, 1, .ro, 0⟩
def ADC.STATUS_RUN0 : Fld := ⟨8, 1, 1, .ro, 0⟩
def ADC.STATUS_RUN1 : Fld := ⟨8, 2, 1, .ro, 0⟩
def ADC.STATUS_CAL_HELD : Fld := ⟨8, 3, 1, .ro, 0⟩
def ADC.ERR_NOREF : Fld := ⟨0xC, 0, 1, .w1c, 0⟩
def ADC.ERR_TAB_BUSY : Fld := ⟨0xC, 1, 1, .w1c, 0⟩
def ADC.ERR_TAB_INVALID : Fld := ⟨0xC, 2, 1, .w1c, 0⟩
def ADC.ERR_URG_REFUSED : Fld := ⟨0xC, 3, 1, .w1c, 0⟩
def ADC.ERR_OVR : Fld := ⟨0xC, 4, 1, .w1c, 0⟩
def ADC.ERR_SELFCHK : Fld := ⟨0xC, 5, 1, .w1c, 0⟩
def ADC.ERR_CNT_SAT : Fld := ⟨0xC, 6, 1, .w1c, 0⟩
def ADC.CTRL_REF_EN : Fld := ⟨0x40, 0, 1, .rwh, 0⟩
def ADC.REFSTAT_LEFT : Fld := ⟨0x44, 0, 8, .ro, 0⟩
def ADC.CONV_CFG_EN : Fld := ⟨0, 0, 1, .rwh, 0⟩
def ADC.CONV_CFG_LEN : Fld := ⟨0, 8, 8, .rwl, 1⟩
def ADC.CONV_CFG_PER : Fld := ⟨0, 16, 16, .rwl, 0⟩
def ADC.CONV_STAT_ENTRY : Fld := ⟨0, 0, 7, .ro, 0⟩
def ADC.CONV_STAT_PASSES : Fld := ⟨0, 8, 23, .ro, 0⟩
def ADC.CONV_STAT_SAT : Fld := ⟨0, 31, 1, .w1c, 0⟩
def ADC.URG_CH : Fld := ⟨0x58, 0, 8, .wo, 0⟩
def ADC.URG_CONV : Fld := ⟨0x58, 8, 1, .wo, 0⟩
def ADC.URG_ACC : Fld := ⟨0x58, 9, 1, .wo, 0⟩
def ADC.URG_ACQ : Fld := ⟨0x58, 10, 3, .wo, 0⟩
def ADC.URG_RES_CODE : Fld := ⟨0x5C, 0, 14, .ro, 0⟩
def ADC.URG_RES_STAT : Fld := ⟨0x5C, 16, 2, .ro, 0⟩
def ADC.URG_RES_CH : Fld := ⟨0x5C, 24, 8, .ro, 0⟩
def ADC.TABSEL_CONV : Fld := ⟨0x60, 0, 1, .rw, 0⟩
def ADC.CHSEL_CH : Fld := ⟨0x64, 0, 8, .rw, 0⟩
def ADC.CHCFG_WIN : Fld := ⟨0x68, 0, 4, .rwl, 1⟩
def ADC.CHCFG_CAL_NVM : Fld := ⟨0x68, 8, 1, .ro, 0⟩
def ADC.CHCAL_GAIN : Fld := ⟨0x6C, 0, 16, .rwl, 0x8000⟩
def ADC.CHCAL_OFFSET : Fld := ⟨0x6C, 16, 16, .rwl, 0⟩
def ADC.ENTRY_CH_L : Fld := ⟨0, 0, 8, .rwl, 0⟩
def ADC.ENTRY_ACQ_L : Fld := ⟨0, 8, 3, .rwl, 0⟩
def ADC.ENTRY_CH_H : Fld := ⟨0, 16, 8, .rwl, 0⟩
def ADC.ENTRY_ACQ_H : Fld := ⟨0, 24, 3, .rwl, 0⟩

def rowsADC : List RegRow := [
  ⟨0, 1, 4, [⟨0, 0, 8, .ro, 1⟩, ⟨0, 8, 8, .ro, 0⟩, ⟨0, 16, 16, .ro, 0xADC0⟩]⟩,
  ⟨4, 1, 4, [⟨4, 0, 8, .ro, 0xB1⟩]⟩,
  ⟨8, 1, 4, [ADC.STATUS_REF_READY, ADC.STATUS_RUN0, ADC.STATUS_RUN1, ADC.STATUS_CAL_HELD]⟩,
  ⟨0xC, 1, 4, [ADC.ERR_NOREF, ADC.ERR_TAB_BUSY, ADC.ERR_TAB_INVALID, ADC.ERR_URG_REFUSED, ADC.ERR_OVR, ADC.ERR_SELFCHK, ADC.ERR_CNT_SAT]⟩,
  ⟨0x10, 1, 4, [⟨0x10, 0, 7, .w1s, 0⟩]⟩,
  ⟨0x14, 1, 4, [⟨0x14, 0, 7, .rw, 0⟩]⟩,
  ⟨0x18, 1, 4, [⟨0x18, 0, 7, .w1c, 0⟩, ⟨0x18, 16, 1, .w1c, 0⟩]⟩,
  ⟨0x1C, 1, 4, [⟨0x1C, 0, 7, .rw, 0⟩, ⟨0x1C, 16, 1, .rw, 0⟩]⟩,
  ⟨0x20, 1, 4, [⟨0x20, 0, 1, .rw, 0⟩, ⟨0x20, 4, 4, .rw, 0⟩]⟩,
  ⟨0x24, 1, 4, [⟨0x24, 0, 4, .rw, 0xF⟩]⟩,
  ⟨0x40, 1, 4, [ADC.CTRL_REF_EN]⟩,
  ⟨0x44, 1, 4, [ADC.REFSTAT_LEFT]⟩,
  ⟨0x48, 2, 4, [ADC.CONV_CFG_EN, ADC.CONV_CFG_LEN, ADC.CONV_CFG_PER]⟩,
  ⟨0x50, 2, 4, [ADC.CONV_STAT_ENTRY, ADC.CONV_STAT_PASSES, ADC.CONV_STAT_SAT]⟩,
  ⟨0x58, 1, 4, [ADC.URG_CH, ADC.URG_CONV, ADC.URG_ACC, ADC.URG_ACQ]⟩,
  ⟨0x5C, 1, 4, [ADC.URG_RES_CODE, ADC.URG_RES_STAT, ADC.URG_RES_CH]⟩,
  ⟨0x60, 1, 4, [ADC.TABSEL_CONV]⟩,
  ⟨0x64, 1, 4, [ADC.CHSEL_CH]⟩,
  ⟨0x68, 1, 4, [ADC.CHCFG_WIN, ADC.CHCFG_CAL_NVM]⟩,
  ⟨0x6C, 1, 4, [ADC.CHCAL_GAIN, ADC.CHCAL_OFFSET]⟩,
  ⟨0x100, 64, 4, [ADC.ENTRY_CH_L, ADC.ENTRY_ACQ_L, ADC.ENTRY_CH_H, ADC.ENTRY_ACQ_H]⟩]

/-! ACC page (R291, R498, R499, R500, R501). -/

def ACC.STATUS_ANY_SAT : Fld := ⟨8, 0, 1, .ro, 0⟩
def ACC.ERR_CNT_SAT : Fld := ⟨0xC, 0, 1, .w1c, 0⟩
def ACC.ACLR_IDX : Fld := ⟨0x40, 0, 7, .wo, 0⟩
def ACC.ACLR_ALL : Fld := ⟨0x40, 8, 1, .wo, 0⟩
def ACC.TCLR_IDX : Fld := ⟨0x44, 0, 7, .wo, 0⟩
def ACC.TCLR_ALL : Fld := ⟨0x44, 8, 1, .wo, 0⟩
def ACC.TSEL_BASE : Fld := ⟨0x48, 0, 7, .rw, 0⟩
def ACC.SAT_SAT : Fld := ⟨0, 0, 32, .w1c, 0⟩
def ACC.TRK_MIN : Fld := ⟨0, 0, 14, .ro, 0x3FFF⟩
def ACC.TRK_MAX : Fld := ⟨0, 16, 14, .ro, 0⟩
def ACC.TRK_EMPTY : Fld := ⟨0, 31, 1, .ro, 1⟩
def ACC.SUM_SUM_L : Fld := ⟨0, 0, 32, .ro, 0⟩
def ACC.SC_SUM_H : Fld := ⟨0, 0, 8, .ro, 0⟩
def ACC.SC_COUNT : Fld := ⟨0, 8, 24, .ro, 0⟩

def rowsACC : List RegRow := [
  ⟨0, 1, 4, [⟨0, 0, 8, .ro, 1⟩, ⟨0, 8, 8, .ro, 0⟩, ⟨0, 16, 16, .ro, 0xACC0⟩]⟩,
  ⟨4, 1, 4, [⟨4, 0, 8, .ro, 0xB1⟩]⟩,
  ⟨8, 1, 4, [ACC.STATUS_ANY_SAT]⟩,
  ⟨0xC, 1, 4, [ACC.ERR_CNT_SAT]⟩,
  ⟨0x10, 1, 4, [⟨0x10, 0, 1, .w1s, 0⟩]⟩,
  ⟨0x14, 1, 4, [⟨0x14, 0, 1, .rw, 0⟩]⟩,
  ⟨0x18, 1, 4, [⟨0x18, 0, 1, .w1c, 0⟩]⟩,
  ⟨0x1C, 1, 4, [⟨0x1C, 0, 1, .rw, 0⟩]⟩,
  ⟨0x20, 1, 4, [⟨0x20, 0, 1, .rw, 0⟩, ⟨0x20, 4, 4, .rw, 0⟩]⟩,
  ⟨0x24, 1, 4, [⟨0x24, 0, 4, .rw, 0xF⟩]⟩,
  ⟨0x40, 1, 4, [ACC.ACLR_IDX, ACC.ACLR_ALL]⟩,
  ⟨0x44, 1, 4, [ACC.TCLR_IDX, ACC.TCLR_ALL]⟩,
  ⟨0x48, 1, 4, [ACC.TSEL_BASE]⟩,
  ⟨0x4C, 3, 4, [ACC.SAT_SAT]⟩,
  ⟨0x60, 8, 4, [ACC.TRK_MIN, ACC.TRK_MAX, ACC.TRK_EMPTY]⟩,
  ⟨0x80, 96, 8, [ACC.SUM_SUM_L]⟩,
  ⟨0x84, 96, 8, [ACC.SC_SUM_H, ACC.SC_COUNT]⟩]

/-! THM page (R307, R498, R499, R500, R501). -/

def THM.STATUS_RUN : Fld := ⟨8, 0, 1, .ro, 0⟩
def THM.STATUS_THROTTLE : Fld := ⟨8, 1, 1, .ro, 0⟩
def THM.STATUS_DIE_OVER : Fld := ⟨8, 2, 1, .ro, 0⟩
def THM.ERR_LEVEL_UP : Fld := ⟨0xC, 0, 1, .w1c, 0⟩
def THM.ERR_RATE : Fld := ⟨0xC, 1, 1, .w1c, 0⟩
def THM.ERR_ANCHOR : Fld := ⟨0xC, 2, 1, .w1c, 0⟩
def THM.ERR_STALE : Fld := ⟨0xC, 3, 1, .w1c, 0⟩
def THM.ERR_DIE_OVER : Fld := ⟨0xC, 4, 1, .w1c, 0⟩
def THM.ERR_SHED : Fld := ⟨0xC, 5, 1, .w1c, 0⟩
def THM.ERR_SHUTDOWN : Fld := ⟨0xC, 6, 1, .w1c, 0⟩
def THM.NODE_CFG_EN : Fld := ⟨0, 0, 1, .rwl, 0⟩
def THM.NODE_CFG_REF_SRC : Fld := ⟨0, 1, 2, .rwl, 0⟩
def THM.NODE_CFG_IN_DIE : Fld := ⟨0, 3, 1, .rwl, 0⟩
def THM.NODE_CFG_REF_NODE : Fld := ⟨0, 4, 5, .rwl, 0⟩
def THM.NODE_CFG_ANC_CH : Fld := ⟨0, 16, 8, .rwl, 0⟩
def THM.NODE_CFG_ANC_SRC : Fld := ⟨0, 24, 3, .rwl, 0⟩
def THM.NODE_R_R1 : Fld := ⟨4, 0, 10, .rwl, 0⟩
def THM.NODE_R_R2 : Fld := ⟨4, 10, 10, .rwl, 0⟩
def THM.NODE_R_R3 : Fld := ⟨4, 20, 10, .rwl, 0⟩
def THM.NODE_TAU_TAU1 : Fld := ⟨8, 0, 10, .rwl, 0⟩
def THM.NODE_TAU_TAU2 : Fld := ⟨8, 10, 10, .rwl, 0⟩
def THM.NODE_TAU_TAU3 : Fld := ⟨8, 20, 10, .rwl, 0⟩
def THM.NODE_LIM_T1 : Fld := ⟨0xC, 0, 8, .rwl, 0x69⟩
def THM.NODE_LIM_STEP : Fld := ⟨0xC, 8, 4, .rwl, 5⟩
def THM.NODE_LIM_HYS : Fld := ⟨0xC, 12, 4, .rwl, 4⟩
def THM.NODE_LIM_RMAX : Fld := ⟨0xC, 16, 8, .rwl, 0⟩
def THM.NODE_LIM_LVL_EN : Fld := ⟨0xC, 24, 6, .rwl, 0x3F⟩
def THM.NODE_ACT_SHED_A : Fld := ⟨0x10, 0, 6, .rwl, 0x3F⟩
def THM.NODE_ACT_SHED_B : Fld := ⟨0x10, 6, 6, .rwl, 0x3F⟩
def THM.NODE_ACT_CEIL : Fld := ⟨0x10, 12, 9, .rwl, 0⟩
def THM.NODE_ACT_CEIL_TGT : Fld := ⟨0x10, 21, 3, .rwl, 0⟩
def THM.NODE_ACT_CEIL_IDX : Fld := ⟨0x10, 24, 4, .rwl, 0⟩
def THM.NODE_ACT_SD_ACT : Fld := ⟨0x10, 28, 1, .rwl, 0⟩
def THM.NODE_T_T : Fld := ⟨0x14, 0, 16, .ro, 0⟩
def THM.NODE_T_LEVEL : Fld := ⟨0x14, 16, 3, .ro, 0⟩
def THM.NODE_T_ANC_OK : Fld := ⟨0x14, 19, 1, .ro, 0⟩
def THM.NODE_T_RATE : Fld := ⟨0x14, 20, 1, .ro, 0⟩
def THM.NODE_T_P : Fld := ⟨0x14, 21, 11, .ro, 0⟩
def THM.TERM_A_CH_I : Fld := ⟨0, 0, 8, .rwl, 0⟩
def THM.TERM_A_CH_V : Fld := ⟨0, 8, 8, .rwl, 0⟩
def THM.TERM_A_CH_V2 : Fld := ⟨0, 16, 8, .rwl, 0⟩
def THM.TERM_A_NODE : Fld := ⟨0, 24, 5, .rwl, 0x1F⟩
def THM.TERM_A_TYPE : Fld := ⟨0, 29, 3, .rwl, 0⟩
def THM.TERM_B_P0 : Fld := ⟨4, 0, 8, .rwl, 0⟩
def THM.TERM_B_K1 : Fld := ⟨4, 8, 8, .rwl, 0⟩
def THM.TERM_B_K2 : Fld := ⟨4, 16, 12, .rwl, 0⟩
def THM.TERM_B_N : Fld := ⟨4, 28, 4, .rwl, 0⟩
def THM.CFG_KA : Fld := ⟨0x380, 0, 8, .rwl, 4⟩
def THM.CFG_TREF : Fld := ⟨0x380, 8, 8, .rwl, 0x19⟩
def THM.CFG_THR_PIN : Fld := ⟨0x380, 16, 5, .rwl, 0x1F⟩
def THM.CFG_C2_GROUP : Fld := ⟨0x380, 21, 3, .rwl, 0⟩
def THM.BAL_KT0 : Fld := ⟨0x384, 0, 8, .rwl, 0⟩
def THM.BAL_KT1 : Fld := ⟨0x384, 8, 8, .rwl, 0x40⟩
def THM.DIE_PLIM : Fld := ⟨0x388, 0, 10, .rwl, 0x2EE⟩
def THM.DIE_P0 : Fld := ⟨0x388, 10, 8, .rwl, 0x50⟩
def THM.DIE_SHED_T : Fld := ⟨0x388, 18, 8, .rwl, 0xA⟩
def THM.DIEMON_P : Fld := ⟨0x38C, 0, 12, .ro, 0⟩
def THM.DIEMON_OVER : Fld := ⟨0x38C, 12, 1, .ro, 0⟩
def THM.THROT_NODES : Fld := ⟨0x390, 0, 24, .ro, 0⟩
def THM.THROT_MAX : Fld := ⟨0x390, 24, 3, .ro, 0⟩
def THM.ASCALE_V0 : Fld := ⟨0, 0, 12, .rwl, 0⟩
def THM.ASCALE_GAIN : Fld := ⟨0, 16, 12, .rwl, 0x320⟩
def THM.HOSTA_NODE : Fld := ⟨0x39C, 0, 5, .wo, 0⟩
def THM.HOSTA_T : Fld := ⟨0x39C, 16, 16, .wo, 0⟩

def rowsTHM : List RegRow := [
  ⟨0, 1, 4, [⟨0, 0, 8, .ro, 1⟩, ⟨0, 8, 8, .ro, 0⟩, ⟨0, 16, 16, .ro, 0x7E40⟩]⟩,
  ⟨4, 1, 4, [⟨4, 0, 8, .ro, 0xB1⟩]⟩,
  ⟨8, 1, 4, [THM.STATUS_RUN, THM.STATUS_THROTTLE, THM.STATUS_DIE_OVER]⟩,
  ⟨0xC, 1, 4, [THM.ERR_LEVEL_UP, THM.ERR_RATE, THM.ERR_ANCHOR, THM.ERR_STALE, THM.ERR_DIE_OVER, THM.ERR_SHED, THM.ERR_SHUTDOWN]⟩,
  ⟨0x10, 1, 4, [⟨0x10, 0, 7, .w1s, 0⟩]⟩,
  ⟨0x14, 1, 4, [⟨0x14, 0, 7, .rw, 0⟩]⟩,
  ⟨0x18, 1, 4, [⟨0x18, 0, 7, .w1c, 0⟩, ⟨0x18, 16, 2, .w1c, 0⟩]⟩,
  ⟨0x1C, 1, 4, [⟨0x1C, 0, 7, .rw, 0⟩, ⟨0x1C, 16, 2, .rw, 0⟩]⟩,
  ⟨0x20, 1, 4, [⟨0x20, 0, 1, .rw, 0⟩, ⟨0x20, 4, 4, .rw, 0⟩]⟩,
  ⟨0x24, 1, 4, [⟨0x24, 0, 4, .rw, 0xF⟩]⟩,
  ⟨0x40, 24, 0x18, [THM.NODE_CFG_EN, THM.NODE_CFG_REF_SRC, THM.NODE_CFG_IN_DIE, THM.NODE_CFG_REF_NODE, THM.NODE_CFG_ANC_CH, THM.NODE_CFG_ANC_SRC]⟩,
  ⟨0x44, 24, 0x18, [THM.NODE_R_R1, THM.NODE_R_R2, THM.NODE_R_R3]⟩,
  ⟨0x48, 24, 0x18, [THM.NODE_TAU_TAU1, THM.NODE_TAU_TAU2, THM.NODE_TAU_TAU3]⟩,
  ⟨0x4C, 24, 0x18, [THM.NODE_LIM_T1, THM.NODE_LIM_STEP, THM.NODE_LIM_HYS, THM.NODE_LIM_RMAX, THM.NODE_LIM_LVL_EN]⟩,
  ⟨0x50, 24, 0x18, [THM.NODE_ACT_SHED_A, THM.NODE_ACT_SHED_B, THM.NODE_ACT_CEIL, THM.NODE_ACT_CEIL_TGT, THM.NODE_ACT_CEIL_IDX, THM.NODE_ACT_SD_ACT]⟩,
  ⟨0x54, 24, 0x18, [THM.NODE_T_T, THM.NODE_T_LEVEL, THM.NODE_T_ANC_OK, THM.NODE_T_RATE, THM.NODE_T_P]⟩,
  ⟨0x280, 32, 8, [THM.TERM_A_CH_I, THM.TERM_A_CH_V, THM.TERM_A_CH_V2, THM.TERM_A_NODE, THM.TERM_A_TYPE]⟩,
  ⟨0x284, 32, 8, [THM.TERM_B_P0, THM.TERM_B_K1, THM.TERM_B_K2, THM.TERM_B_N]⟩,
  ⟨0x380, 1, 4, [THM.CFG_KA, THM.CFG_TREF, THM.CFG_THR_PIN, THM.CFG_C2_GROUP]⟩,
  ⟨0x384, 1, 4, [THM.BAL_KT0, THM.BAL_KT1]⟩,
  ⟨0x388, 1, 4, [THM.DIE_PLIM, THM.DIE_P0, THM.DIE_SHED_T]⟩,
  ⟨0x38C, 1, 4, [THM.DIEMON_P, THM.DIEMON_OVER]⟩,
  ⟨0x390, 1, 4, [THM.THROT_NODES, THM.THROT_MAX]⟩,
  ⟨0x394, 2, 4, [THM.ASCALE_V0, THM.ASCALE_GAIN]⟩,
  ⟨0x39C, 1, 4, [THM.HOSTA_NODE, THM.HOSTA_T]⟩]

/-! RTC page (R481, R498, R499, R500, R501). -/

def RTC.STATUS_OSF : Fld := ⟨8, 0, 1, .ro, 1⟩
def RTC.STATUS_OSC_RUN : Fld := ⟨8, 1, 1, .ro, 0⟩
def RTC.STATUS_ON_BAK : Fld := ⟨8, 2, 1, .ro, 0⟩
def RTC.STATUS_FROZEN : Fld := ⟨8, 3, 1, .ro, 0⟩
def RTC.ERR_OSF : Fld := ⟨0xC, 0, 1, .w1c, 1⟩
def RTC.ERR_ALM0 : Fld := ⟨0xC, 1, 1, .w1c, 0⟩
def RTC.ERR_ALM1 : Fld := ⟨0xC, 2, 1, .w1c, 0⟩
def RTC.ERR_SWO : Fld := ⟨0xC, 3, 1, .w1c, 0⟩
def RTC.ERR_BAD_DATE : Fld := ⟨0xC, 4, 1, .w1c, 0⟩
def RTC.ERR_YWRAP : Fld := ⟨0xC, 5, 1, .w1c, 0⟩
def RTC.ERR_BPOR : Fld := ⟨0xC, 6, 1, .w1c, 1⟩
def RTC.ERR_FREEZE_TO : Fld := ⟨0xC, 7, 1, .w1c, 0⟩
def RTC.ERR_CNT_SAT : Fld := ⟨0xC, 8, 1, .w1c, 0⟩
def RTC.SUBSEC_COUNT : Fld := ⟨0x40, 0, 15, .ro, 0⟩
def RTC.SEC_SEC : Fld := ⟨0x44, 0, 6, .rwh, 0⟩
def RTC.MIN_MIN : Fld := ⟨0x48, 0, 6, .rwh, 0⟩
def RTC.HOUR_HOUR : Fld := ⟨0x4C, 0, 5, .rwh, 0⟩
def RTC.DAY_DAY : Fld := ⟨0x50, 0, 5, .rwh, 1⟩
def RTC.MONTH_MONTH : Fld := ⟨0x54, 0, 4, .rwh, 1⟩
def RTC.WDAY_WDAY : Fld := ⟨0x58, 0, 3, .ro, 6⟩
def RTC.YEAR_YEAR : Fld := ⟨0x5C, 0, 8, .rwh, 0⟩
def RTC.PEND_HELD : Fld := ⟨0x60, 0, 5, .ro, 0⟩
def RTC.PEND_CTX : Fld := ⟨0x60, 8, 3, .ro, 0⟩
def RTC.CTRL_DISCARD : Fld := ⟨0x64, 0, 1, .wo, 0⟩
def RTC.CTRL_FREEZE_REL : Fld := ⟨0x64, 1, 1, .wo, 0⟩
def RTC.TRIM_TRIM : Fld := ⟨0x68, 0, 8, .rw, 0⟩
def RTC.ALM_A_SEC : Fld := ⟨0, 0, 6, .rw, 0⟩
def RTC.ALM_A_MIN : Fld := ⟨0, 8, 6, .rw, 0⟩
def RTC.ALM_A_HOUR : Fld := ⟨0, 16, 5, .rw, 0⟩
def RTC.ALM_A_DAY : Fld := ⟨0, 24, 5, .rw, 1⟩
def RTC.ALM_B_MONTH : Fld := ⟨4, 0, 4, .rw, 1⟩
def RTC.ALM_B_WDAY : Fld := ⟨4, 4, 3, .rw, 0⟩
def RTC.ALM_B_YEAR : Fld := ⟨4, 8, 8, .rw, 0⟩
def RTC.ALM_B_MASK : Fld := ⟨4, 16, 7, .rw, 0x7F⟩
def RTC.ALM_B_EN : Fld := ⟨4, 24, 1, .rw, 0⟩
def RTC.SWO_A_SEC : Fld := ⟨0x7C, 0, 6, .ro, 0⟩
def RTC.SWO_A_MIN : Fld := ⟨0x7C, 8, 6, .ro, 0⟩
def RTC.SWO_A_HOUR : Fld := ⟨0x7C, 16, 5, .ro, 0⟩
def RTC.SWO_A_DAY : Fld := ⟨0x7C, 24, 5, .ro, 1⟩
def RTC.SWO_B_MONTH : Fld := ⟨0x80, 0, 4, .ro, 0⟩
def RTC.SWO_B_YEAR : Fld := ⟨0x80, 8, 8, .ro, 0⟩
def RTC.SWO_B_VALID : Fld := ⟨0x80, 31, 1, .w1c, 0⟩
def RTC.SWO_CNT_COUNT : Fld := ⟨0x84, 0, 15, .ro, 0⟩
def RTC.SWO_CNT_SAT : Fld := ⟨0x84, 31, 1, .w1c, 0⟩

def rowsRTC : List RegRow := [
  ⟨0, 1, 4, [⟨0, 0, 8, .ro, 1⟩, ⟨0, 8, 8, .ro, 0⟩, ⟨0, 16, 16, .ro, 0x47C0⟩]⟩,
  ⟨4, 1, 4, [⟨4, 0, 8, .ro, 0xB1⟩]⟩,
  ⟨8, 1, 4, [RTC.STATUS_OSF, RTC.STATUS_OSC_RUN, RTC.STATUS_ON_BAK, RTC.STATUS_FROZEN]⟩,
  ⟨0xC, 1, 4, [RTC.ERR_OSF, RTC.ERR_ALM0, RTC.ERR_ALM1, RTC.ERR_SWO, RTC.ERR_BAD_DATE, RTC.ERR_YWRAP, RTC.ERR_BPOR, RTC.ERR_FREEZE_TO, RTC.ERR_CNT_SAT]⟩,
  ⟨0x10, 1, 4, [⟨0x10, 0, 9, .w1s, 0⟩]⟩,
  ⟨0x14, 1, 4, [⟨0x14, 0, 9, .rw, 0⟩]⟩,
  ⟨0x18, 1, 4, [⟨0x18, 0, 9, .w1c, 0⟩]⟩,
  ⟨0x1C, 1, 4, [⟨0x1C, 0, 9, .rw, 0⟩]⟩,
  ⟨0x20, 1, 4, [⟨0x20, 0, 1, .rw, 0⟩, ⟨0x20, 4, 4, .rw, 0⟩]⟩,
  ⟨0x24, 1, 4, [⟨0x24, 0, 4, .rw, 0xF⟩]⟩,
  ⟨0x40, 1, 4, [RTC.SUBSEC_COUNT]⟩,
  ⟨0x44, 1, 4, [RTC.SEC_SEC]⟩,
  ⟨0x48, 1, 4, [RTC.MIN_MIN]⟩,
  ⟨0x4C, 1, 4, [RTC.HOUR_HOUR]⟩,
  ⟨0x50, 1, 4, [RTC.DAY_DAY]⟩,
  ⟨0x54, 1, 4, [RTC.MONTH_MONTH]⟩,
  ⟨0x58, 1, 4, [RTC.WDAY_WDAY]⟩,
  ⟨0x5C, 1, 4, [RTC.YEAR_YEAR]⟩,
  ⟨0x60, 1, 4, [RTC.PEND_HELD, RTC.PEND_CTX]⟩,
  ⟨0x64, 1, 4, [RTC.CTRL_DISCARD, RTC.CTRL_FREEZE_REL]⟩,
  ⟨0x68, 1, 4, [RTC.TRIM_TRIM]⟩,
  ⟨0x6C, 2, 8, [RTC.ALM_A_SEC, RTC.ALM_A_MIN, RTC.ALM_A_HOUR, RTC.ALM_A_DAY]⟩,
  ⟨0x70, 2, 8, [RTC.ALM_B_MONTH, RTC.ALM_B_WDAY, RTC.ALM_B_YEAR, RTC.ALM_B_MASK, RTC.ALM_B_EN]⟩,
  ⟨0x7C, 1, 4, [RTC.SWO_A_SEC, RTC.SWO_A_MIN, RTC.SWO_A_HOUR, RTC.SWO_A_DAY]⟩,
  ⟨0x80, 1, 4, [RTC.SWO_B_MONTH, RTC.SWO_B_YEAR, RTC.SWO_B_VALID]⟩,
  ⟨0x84, 1, 4, [RTC.SWO_CNT_COUNT, RTC.SWO_CNT_SAT]⟩]

/-! TIME page (R482, R498, R499, R500, R501). -/

def TIME.STATUS_LOCKED : Fld := ⟨8, 0, 1, .ro, 0⟩
def TIME.STATUS_REF_RC : Fld := ⟨8, 1, 1, .ro, 0⟩
def TIME.STATUS_SET_ARMED : Fld := ⟨8, 2, 1, .ro, 0⟩
def TIME.STATUS_RTC_SUSPECT : Fld := ⟨8, 3, 1, .ro, 0⟩
def TIME.ERR_PPS_BAD : Fld := ⟨0xC, 0, 1, .w1c, 0⟩
def TIME.ERR_PPS_LOST : Fld := ⟨0xC, 1, 1, .w1c, 0⟩
def TIME.ERR_STEP : Fld := ⟨0xC, 2, 1, .w1c, 0⟩
def TIME.ERR_WRAP : Fld := ⟨0xC, 3, 1, .w1c, 0⟩
def TIME.ERR_CNT_SAT : Fld := ⟨0xC, 4, 1, .w1c, 0⟩
def TIME.NS_NS : Fld := ⟨0x40, 0, 30, .ro, 0⟩
def TIME.SEC_SEC : Fld := ⟨0x44, 0, 32, .ro, 0⟩
def TIME.SECH_SEC : Fld := ⟨0x48, 0, 2, .ro, 0⟩
def TIME.CFG_MODE : Fld := ⟨0x4C, 0, 2, .rwl, 3⟩
def TIME.CFG_SLEW : Fld := ⟨0x4C, 4, 8, .rwl, 0x14⟩
def TIME.CFG_STEP_TH : Fld := ⟨0x4C, 16, 8, .rwl, 0x64⟩
def TIME.CFG_LOSS_N : Fld := ⟨0x4C, 24, 4, .rwl, 3⟩
def TIME.CFG_LOSS_CLS : Fld := ⟨0x4C, 28, 2, .rwl, 0⟩
def TIME.WIN_WIN : Fld := ⟨0x50, 0, 16, .rwl, 0x3E8⟩
def TIME.FTRIM_FTRIM : Fld := ⟨0x54, 0, 16, .rw, 0⟩
def TIME.SET_NS_NS : Fld := ⟨0x58, 0, 30, .rw, 0⟩
def TIME.SET_SEC_SEC : Fld := ⟨0x5C, 0, 32, .rw, 0⟩
def TIME.SET_SECH_SEC : Fld := ⟨0x60, 0, 2, .rw, 0⟩
def TIME.CTRL_OP : Fld := ⟨0x64, 0, 2, .wo, 0⟩
def TIME.PPS_CAP_NS_NS : Fld := ⟨0x68, 0, 30, .ro, 0⟩
def TIME.PPS_CAP_SEC_SEC : Fld := ⟨0x6C, 0, 32, .ro, 0⟩
def TIME.PPS_OFF_OFF : Fld := ⟨0x70, 0, 32, .ro, 0⟩
def TIME.PPS_CNT_EDGES : Fld := ⟨0x74, 0, 15, .ro, 0⟩
def TIME.PPS_CNT_EDGES_SAT : Fld := ⟨0x74, 15, 1, .w1c, 0⟩
def TIME.PPS_CNT_BAD : Fld := ⟨0x74, 16, 15, .ro, 0⟩
def TIME.PPS_CNT_BAD_SAT : Fld := ⟨0x74, 31, 1, .w1c, 0⟩

def rowsTIME : List RegRow := [
  ⟨0, 1, 4, [⟨0, 0, 8, .ro, 1⟩, ⟨0, 8, 8, .ro, 0⟩, ⟨0, 16, 16, .ro, 0x71E0⟩]⟩,
  ⟨4, 1, 4, [⟨4, 0, 8, .ro, 0xB1⟩]⟩,
  ⟨8, 1, 4, [TIME.STATUS_LOCKED, TIME.STATUS_REF_RC, TIME.STATUS_SET_ARMED, TIME.STATUS_RTC_SUSPECT]⟩,
  ⟨0xC, 1, 4, [TIME.ERR_PPS_BAD, TIME.ERR_PPS_LOST, TIME.ERR_STEP, TIME.ERR_WRAP, TIME.ERR_CNT_SAT]⟩,
  ⟨0x10, 1, 4, [⟨0x10, 0, 5, .w1s, 0⟩]⟩,
  ⟨0x14, 1, 4, [⟨0x14, 0, 5, .rw, 0⟩]⟩,
  ⟨0x18, 1, 4, [⟨0x18, 0, 5, .w1c, 0⟩]⟩,
  ⟨0x1C, 1, 4, [⟨0x1C, 0, 5, .rw, 0⟩]⟩,
  ⟨0x20, 1, 4, [⟨0x20, 0, 1, .rw, 0⟩, ⟨0x20, 4, 4, .rw, 0⟩]⟩,
  ⟨0x24, 1, 4, [⟨0x24, 0, 4, .rw, 0xF⟩]⟩,
  ⟨0x40, 1, 4, [TIME.NS_NS]⟩,
  ⟨0x44, 1, 4, [TIME.SEC_SEC]⟩,
  ⟨0x48, 1, 4, [TIME.SECH_SEC]⟩,
  ⟨0x4C, 1, 4, [TIME.CFG_MODE, TIME.CFG_SLEW, TIME.CFG_STEP_TH, TIME.CFG_LOSS_N, TIME.CFG_LOSS_CLS]⟩,
  ⟨0x50, 1, 4, [TIME.WIN_WIN]⟩,
  ⟨0x54, 1, 4, [TIME.FTRIM_FTRIM]⟩,
  ⟨0x58, 1, 4, [TIME.SET_NS_NS]⟩,
  ⟨0x5C, 1, 4, [TIME.SET_SEC_SEC]⟩,
  ⟨0x60, 1, 4, [TIME.SET_SECH_SEC]⟩,
  ⟨0x64, 1, 4, [TIME.CTRL_OP]⟩,
  ⟨0x68, 1, 4, [TIME.PPS_CAP_NS_NS]⟩,
  ⟨0x6C, 1, 4, [TIME.PPS_CAP_SEC_SEC]⟩,
  ⟨0x70, 1, 4, [TIME.PPS_OFF_OFF]⟩,
  ⟨0x74, 1, 4, [TIME.PPS_CNT_EDGES, TIME.PPS_CNT_EDGES_SAT, TIME.PPS_CNT_BAD, TIME.PPS_CNT_BAD_SAT]⟩]

/-! TWI page (R496, R498, R499, R500, R501). -/

def TWI.STATUS_STATE : Fld := ⟨8, 0, 3, .ro, 0⟩
def TWI.STATUS_SCL : Fld := ⟨8, 3, 1, .ro, 0⟩
def TWI.STATUS_SDA : Fld := ⟨8, 4, 1, .ro, 0⟩
def TWI.ERR_NACK : Fld := ⟨0xC, 0, 1, .w1c, 0⟩
def TWI.ERR_ARB_LOST : Fld := ⟨0xC, 1, 1, .w1c, 0⟩
def TWI.ERR_ARB_COND : Fld := ⟨0xC, 2, 1, .w1c, 0⟩
def TWI.ERR_PEC : Fld := ⟨0xC, 3, 1, .w1c, 0⟩
def TWI.ERR_STRETCH : Fld := ⟨0xC, 4, 1, .w1c, 0⟩
def TWI.ERR_SCL_STUCK : Fld := ⟨0xC, 5, 1, .w1c, 0⟩
def TWI.ERR_SDA_STUCK : Fld := ⟨0xC, 6, 1, .w1c, 0⟩
def TWI.ERR_RECOVERED : Fld := ⟨0xC, 7, 1, .w1c, 0⟩
def TWI.ERR_CNT_SAT : Fld := ⟨0xC, 8, 1, .w1c, 0⟩
def TWI.CFG_EN : Fld := ⟨0x40, 0, 1, .rwh, 0⟩
def TWI.CFG_SPEED : Fld := ⟨0x40, 1, 2, .rwl, 1⟩
def TWI.CFG_ARB_RETRY : Fld := ⟨0x40, 4, 4, .rwl, 2⟩
def TWI.CFG_STRETCH_T : Fld := ⟨0x40, 8, 8, .rwl, 0x19⟩
def TWI.CFG_RECOV_T : Fld := ⟨0x40, 16, 8, .rwl, 0xA⟩
def TWI.CTRL_RESET : Fld := ⟨0x44, 0, 1, .wo, 0⟩
def TWI.CTRL_RECOVER : Fld := ⟨0x44, 1, 1, .wo, 0⟩
def TWI.LAST_CAUSE : Fld := ⟨0x48, 0, 4, .ro, 0⟩
def TWI.LAST_BYTE : Fld := ⟨0x48, 8, 8, .ro, 0⟩
def TWI.LAST_BIT : Fld := ⟨0x48, 16, 3, .ro, 0⟩
def TWI.LAST_ADDR : Fld := ⟨0x48, 24, 7, .ro, 0⟩
def TWI.CNT_XFERS : Fld := ⟨0x4C, 0, 15, .ro, 0⟩
def TWI.CNT_XF_SAT : Fld := ⟨0x4C, 15, 1, .w1c, 0⟩
def TWI.CNT_ARBLOST : Fld := ⟨0x4C, 16, 15, .ro, 0⟩
def TWI.CNT_AL_SAT : Fld := ⟨0x4C, 31, 1, .w1c, 0⟩

def rowsTWI : List RegRow := [
  ⟨0, 1, 4, [⟨0, 0, 8, .ro, 1⟩, ⟨0, 8, 8, .ro, 0⟩, ⟨0, 16, 16, .ro, 0x7A10⟩]⟩,
  ⟨4, 1, 4, [⟨4, 0, 8, .ro, 0xB1⟩]⟩,
  ⟨8, 1, 4, [TWI.STATUS_STATE, TWI.STATUS_SCL, TWI.STATUS_SDA]⟩,
  ⟨0xC, 1, 4, [TWI.ERR_NACK, TWI.ERR_ARB_LOST, TWI.ERR_ARB_COND, TWI.ERR_PEC, TWI.ERR_STRETCH, TWI.ERR_SCL_STUCK, TWI.ERR_SDA_STUCK, TWI.ERR_RECOVERED, TWI.ERR_CNT_SAT]⟩,
  ⟨0x10, 1, 4, [⟨0x10, 0, 9, .w1s, 0⟩]⟩,
  ⟨0x14, 1, 4, [⟨0x14, 0, 9, .rw, 0⟩]⟩,
  ⟨0x18, 1, 4, [⟨0x18, 0, 9, .w1c, 0⟩]⟩,
  ⟨0x1C, 1, 4, [⟨0x1C, 0, 9, .rw, 0⟩]⟩,
  ⟨0x20, 1, 4, [⟨0x20, 0, 1, .rw, 0⟩, ⟨0x20, 4, 4, .rw, 0⟩]⟩,
  ⟨0x24, 1, 4, [⟨0x24, 0, 4, .rw, 0xF⟩]⟩,
  ⟨0x40, 1, 4, [TWI.CFG_EN, TWI.CFG_SPEED, TWI.CFG_ARB_RETRY, TWI.CFG_STRETCH_T, TWI.CFG_RECOV_T]⟩,
  ⟨0x44, 1, 4, [TWI.CTRL_RESET, TWI.CTRL_RECOVER]⟩,
  ⟨0x48, 1, 4, [TWI.LAST_CAUSE, TWI.LAST_BYTE, TWI.LAST_BIT, TWI.LAST_ADDR]⟩,
  ⟨0x4C, 1, 4, [TWI.CNT_XFERS, TWI.CNT_XF_SAT, TWI.CNT_ARBLOST, TWI.CNT_AL_SAT]⟩]

/-! OTP page (R446, R498, R499, R500, R501). -/

def OTP.STATUS_PASS_DONE : Fld := ⟨8, 0, 1, .ro, 0⟩
def OTP.STATUS_BUSY : Fld := ⟨8, 1, 1, .ro, 0⟩
def OTP.ERR_WEAK : Fld := ⟨0xC, 0, 1, .w1c, 0⟩
def OTP.ERR_FAIL : Fld := ⟨0xC, 1, 1, .w1c, 0⟩
def OTP.ERR_REGION : Fld := ⟨0xC, 2, 1, .w1c, 0⟩
def OTP.ERR_SPARE_OUT : Fld := ⟨0xC, 3, 1, .w1c, 0⟩
def OTP.ERR_CNT_FULL : Fld := ⟨0xC, 4, 1, .w1c, 0⟩
def OTP.ERR_REDIR_DISAGREE : Fld := ⟨0xC, 5, 1, .w1c, 0⟩
def OTP.ERR_OVR_REFUSED : Fld := ⟨0xC, 6, 1, .w1c, 0⟩
def OTP.ERR_BURN_FAIL : Fld := ⟨0xC, 7, 1, .w1c, 0⟩
def OTP.SUM_NWEAK : Fld := ⟨0x40, 0, 9, .ro, 0⟩
def OTP.SUM_NFAIL : Fld := ⟨0x40, 16, 9, .ro, 0⟩
def OTP.SUM_SPFREE : Fld := ⟨0x40, 28, 4, .ro, 0⟩
def OTP.REGION_LOCKED : Fld := ⟨0x44, 0, 5, .ro, 0⟩
def OTP.REGION_BURN_OK : Fld := ⟨0x44, 8, 5, .ro, 0⟩
def OTP.REGION_VALID : Fld := ⟨0x44, 16, 5, .ro, 0⟩
def OTP.REGION_SPFREE_ALL : Fld := ⟨0x44, 31, 1, .ro, 0⟩
def OTP.CNT_VALUE : Fld := ⟨0, 0, 10, .ro, 0⟩
def OTP.CNT_FULL : Fld := ⟨0, 16, 1, .ro, 0⟩
def OTP.CNT_WEAK : Fld := ⟨0, 17, 1, .ro, 0⟩
def OTP.ROWSEL_ROW : Fld := ⟨0x54, 0, 9, .rw, 0⟩
def OTP.ROWSTAT_STATE : Fld := ⟨0x58, 0, 3, .ro, 0⟩
def OTP.ROWSTAT_REDIR : Fld := ⟨0x58, 3, 1, .ro, 0⟩
def OTP.ROWSTAT_SPARE : Fld := ⟨0x58, 4, 4, .ro, 0⟩
def OTP.ROWSTAT_OVR : Fld := ⟨0x58, 8, 1, .ro, 0⟩
def OTP.ROWSTAT_LOCKED : Fld := ⟨0x58, 9, 1, .ro, 0⟩
def OTP.ROWSTAT_REGION : Fld := ⟨0x58, 12, 4, .ro, 0⟩
def OTP.SHD_LO_DATA : Fld := ⟨0x5C, 0, 32, .ro, 0⟩
def OTP.SHD_HI_DATA : Fld := ⟨0x60, 0, 24, .ro, 0⟩
def OTP.SHD_HI_RAW : Fld := ⟨0x60, 24, 8, .ro, 0⟩
def OTP.OVR_LO_DATA : Fld := ⟨0x64, 0, 32, .rw, 0⟩
def OTP.OVR_HI_DATA : Fld := ⟨0x68, 0, 24, .rw, 0⟩
def OTP.OVR_CTRL_OP : Fld := ⟨0x6C, 0, 2, .wo, 0⟩
def OTP.OVR_CTRL_COUNT : Fld := ⟨0x6C, 16, 9, .ro, 0⟩
def OTP.RDR_ROW : Fld := ⟨0, 0, 8, .ro, 0⟩
def OTP.RDR_VALID : Fld := ⟨0, 8, 1, .ro, 0⟩
def OTP.RDR_USED : Fld := ⟨0, 9, 1, .ro, 0⟩
def OTP.RDR_AGREE : Fld := ⟨0, 10, 1, .ro, 1⟩

def rowsOTP : List RegRow := [
  ⟨0, 1, 4, [⟨0, 0, 8, .ro, 1⟩, ⟨0, 8, 8, .ro, 0⟩, ⟨0, 16, 16, .ro, 0x7F0⟩]⟩,
  ⟨4, 1, 4, [⟨4, 0, 8, .ro, 0xB1⟩]⟩,
  ⟨8, 1, 4, [OTP.STATUS_PASS_DONE, OTP.STATUS_BUSY]⟩,
  ⟨0xC, 1, 4, [OTP.ERR_WEAK, OTP.ERR_FAIL, OTP.ERR_REGION, OTP.ERR_SPARE_OUT, OTP.ERR_CNT_FULL, OTP.ERR_REDIR_DISAGREE, OTP.ERR_OVR_REFUSED, OTP.ERR_BURN_FAIL]⟩,
  ⟨0x10, 1, 4, [⟨0x10, 0, 8, .w1s, 0⟩]⟩,
  ⟨0x14, 1, 4, [⟨0x14, 0, 8, .rw, 0⟩]⟩,
  ⟨0x18, 1, 4, [⟨0x18, 0, 8, .w1c, 0⟩]⟩,
  ⟨0x1C, 1, 4, [⟨0x1C, 0, 8, .rw, 0⟩]⟩,
  ⟨0x20, 1, 4, [⟨0x20, 0, 1, .rw, 0⟩, ⟨0x20, 4, 4, .rw, 0⟩]⟩,
  ⟨0x24, 1, 4, [⟨0x24, 0, 4, .rw, 0xF⟩]⟩,
  ⟨0x40, 1, 4, [OTP.SUM_NWEAK, OTP.SUM_NFAIL, OTP.SUM_SPFREE]⟩,
  ⟨0x44, 1, 4, [OTP.REGION_LOCKED, OTP.REGION_BURN_OK, OTP.REGION_VALID, OTP.REGION_SPFREE_ALL]⟩,
  ⟨0x48, 3, 4, [OTP.CNT_VALUE, OTP.CNT_FULL, OTP.CNT_WEAK]⟩,
  ⟨0x54, 1, 4, [OTP.ROWSEL_ROW]⟩,
  ⟨0x58, 1, 4, [OTP.ROWSTAT_STATE, OTP.ROWSTAT_REDIR, OTP.ROWSTAT_SPARE, OTP.ROWSTAT_OVR, OTP.ROWSTAT_LOCKED, OTP.ROWSTAT_REGION]⟩,
  ⟨0x5C, 1, 4, [OTP.SHD_LO_DATA]⟩,
  ⟨0x60, 1, 4, [OTP.SHD_HI_DATA, OTP.SHD_HI_RAW]⟩,
  ⟨0x64, 1, 4, [OTP.OVR_LO_DATA]⟩,
  ⟨0x68, 1, 4, [OTP.OVR_HI_DATA]⟩,
  ⟨0x6C, 1, 4, [OTP.OVR_CTRL_OP, OTP.OVR_CTRL_COUNT]⟩,
  ⟨0x80, 16, 4, [OTP.RDR_ROW, OTP.RDR_VALID, OTP.RDR_USED, OTP.RDR_AGREE]⟩]

/-! NVM page (R463, R498, R499, R500, R501). -/

def NVM.STATUS_STAGE : Fld := ⟨8, 0, 2, .ro, 0⟩
def NVM.STATUS_COPYING : Fld := ⟨8, 2, 1, .ro, 0⟩
def NVM.ERR_WRITE_FAIL : Fld := ⟨0xC, 0, 1, .w1c, 0⟩
def NVM.ERR_COPY_FAIL : Fld := ⟨0xC, 1, 1, .w1c, 0⟩
def NVM.ERR_ORDER : Fld := ⟨0xC, 2, 1, .w1c, 0⟩
def NVM.ERR_LDR_OFF : Fld := ⟨0xC, 3, 1, .w1c, 0⟩
def NVM.ERR_HEADER : Fld := ⟨0xC, 4, 1, .w1c, 0⟩
def NVM.SILO_NEXT : Fld := ⟨0x40, 0, 21, .ro, 0⟩
def NVM.PKG_LEN : Fld := ⟨0x44, 0, 21, .ro, 0⟩
def NVM.PKG_KINDS : Fld := ⟨0x44, 21, 2, .ro, 0⟩
def NVM.UPD_CONF : Fld := ⟨0x48, 0, 2, .ro, 0⟩
def NVM.UPD_CUR : Fld := ⟨0x48, 2, 1, .ro, 0⟩
def NVM.UPD_KEPT : Fld := ⟨0x48, 3, 1, .ro, 0⟩
def NVM.UPD_FW_NEW : Fld := ⟨0x48, 4, 1, .ro, 0⟩
def NVM.LDR_CTRL_OP : Fld := ⟨0x4C, 0, 2, .wo, 0⟩
def NVM.LDR_CTRL_LEN : Fld := ⟨0x4C, 8, 8, .wo, 0⟩
def NVM.LDR_OFS_OFFSET : Fld := ⟨0x50, 0, 21, .rw, 0⟩
def NVM.LDR_STAT_BUSY : Fld := ⟨0x54, 0, 1, .ro, 0⟩
def NVM.LDR_STAT_DONE : Fld := ⟨0x54, 1, 1, .w1c, 0⟩
def NVM.LDR_STAT_CAUSE : Fld := ⟨0x54, 8, 8, .ro, 0⟩
def NVM.LDR_BUF_DATA : Fld := ⟨0, 0, 32, .rw, 0⟩

def rowsNVM : List RegRow := [
  ⟨0, 1, 4, [⟨0, 0, 8, .ro, 1⟩, ⟨0, 8, 8, .ro, 0⟩, ⟨0, 16, 16, .ro, 0x4E40⟩]⟩,
  ⟨4, 1, 4, [⟨4, 0, 8, .ro, 0xB1⟩]⟩,
  ⟨8, 1, 4, [NVM.STATUS_STAGE, NVM.STATUS_COPYING]⟩,
  ⟨0xC, 1, 4, [NVM.ERR_WRITE_FAIL, NVM.ERR_COPY_FAIL, NVM.ERR_ORDER, NVM.ERR_LDR_OFF, NVM.ERR_HEADER]⟩,
  ⟨0x10, 1, 4, [⟨0x10, 0, 5, .w1s, 0⟩]⟩,
  ⟨0x14, 1, 4, [⟨0x14, 0, 5, .rw, 0⟩]⟩,
  ⟨0x18, 1, 4, [⟨0x18, 0, 5, .w1c, 0⟩, ⟨0x18, 16, 1, .w1c, 0⟩]⟩,
  ⟨0x1C, 1, 4, [⟨0x1C, 0, 5, .rw, 0⟩, ⟨0x1C, 16, 1, .rw, 0⟩]⟩,
  ⟨0x20, 1, 4, [⟨0x20, 0, 1, .rw, 0⟩, ⟨0x20, 4, 4, .rw, 0⟩]⟩,
  ⟨0x24, 1, 4, [⟨0x24, 0, 4, .rw, 0xF⟩]⟩,
  ⟨0x40, 1, 4, [NVM.SILO_NEXT]⟩,
  ⟨0x44, 1, 4, [NVM.PKG_LEN, NVM.PKG_KINDS]⟩,
  ⟨0x48, 1, 4, [NVM.UPD_CONF, NVM.UPD_CUR, NVM.UPD_KEPT, NVM.UPD_FW_NEW]⟩,
  ⟨0x4C, 1, 4, [NVM.LDR_CTRL_OP, NVM.LDR_CTRL_LEN]⟩,
  ⟨0x50, 1, 4, [NVM.LDR_OFS_OFFSET]⟩,
  ⟨0x54, 1, 4, [NVM.LDR_STAT_BUSY, NVM.LDR_STAT_DONE, NVM.LDR_STAT_CAUSE]⟩,
  ⟨0x100, 32, 4, [NVM.LDR_BUF_DATA]⟩]

/-! ECC page (R429, R498, R499, R500, R501). -/

def ECC.STATUS_ST_PASS : Fld := ⟨8, 0, 1, .ro, 0⟩
def ECC.ERR_SRAM_CE : Fld := ⟨0xC, 0, 1, .w1c, 0⟩
def ECC.ERR_SRAM_UE : Fld := ⟨0xC, 1, 1, .w1c, 0⟩
def ECC.ERR_NVM_CE : Fld := ⟨0xC, 2, 1, .w1c, 0⟩
def ECC.ERR_NVM_UE : Fld := ⟨0xC, 3, 1, .w1c, 0⟩
def ECC.ERR_HARD : Fld := ⟨0xC, 4, 1, .w1c, 0⟩
def ECC.ERR_SELFTEST : Fld := ⟨0xC, 5, 1, .w1c, 0⟩
def ECC.ERR_CNT_SAT : Fld := ⟨0xC, 6, 1, .w1c, 0⟩
def ECC.CFG_CE_CLS : Fld := ⟨0x40, 0, 2, .rwl, 0⟩
def ECC.CFG_UE_CLS_S : Fld := ⟨0x40, 2, 3, .rwl, 1⟩
def ECC.CFG_UE_CLS_N : Fld := ⟨0x40, 5, 3, .rwl, 1⟩
def ECC.CFG_HARD_CLS : Fld := ⟨0x40, 8, 3, .rwl, 1⟩
def ECC.CFG_RET_THR_S : Fld := ⟨0x40, 16, 4, .rwl, 4⟩
def ECC.CFG_RET_THR_N : Fld := ⟨0x40, 24, 6, .rwl, 0x10⟩
def ECC.CNT_CE : Fld := ⟨0, 0, 15, .ro, 0⟩
def ECC.CNT_CE_SAT : Fld := ⟨0, 15, 1, .w1c, 0⟩
def ECC.CNT_UE : Fld := ⟨0, 16, 15, .ro, 0⟩
def ECC.CNT_UE_SAT : Fld := ⟨0, 31, 1, .w1c, 0⟩
def ECC.LAST_ADDR : Fld := ⟨0, 0, 22, .ro, 0⟩
def ECC.LAST_KIND : Fld := ⟨0, 22, 2, .ro, 0⟩
def ECC.HARD_LAST_ADDR : Fld := ⟨0x54, 0, 22, .ro, 0⟩
def ECC.HARD_LAST_NVM : Fld := ⟨0x54, 22, 1, .ro, 0⟩
def ECC.HARD_LAST_VALID : Fld := ⟨0x54, 23, 1, .w1c, 0⟩
def ECC.RET_NS : Fld := ⟨0x58, 0, 4, .ro, 0⟩
def ECC.RET_NN : Fld := ⟨0x58, 8, 6, .ro, 0⟩

def rowsECC : List RegRow := [
  ⟨0, 1, 4, [⟨0, 0, 8, .ro, 1⟩, ⟨0, 8, 8, .ro, 0⟩, ⟨0, 16, 16, .ro, 0xECC0⟩]⟩,
  ⟨4, 1, 4, [⟨4, 0, 8, .ro, 0xB1⟩]⟩,
  ⟨8, 1, 4, [ECC.STATUS_ST_PASS]⟩,
  ⟨0xC, 1, 4, [ECC.ERR_SRAM_CE, ECC.ERR_SRAM_UE, ECC.ERR_NVM_CE, ECC.ERR_NVM_UE, ECC.ERR_HARD, ECC.ERR_SELFTEST, ECC.ERR_CNT_SAT]⟩,
  ⟨0x10, 1, 4, [⟨0x10, 0, 7, .w1s, 0⟩]⟩,
  ⟨0x14, 1, 4, [⟨0x14, 0, 7, .rw, 0⟩]⟩,
  ⟨0x18, 1, 4, [⟨0x18, 0, 7, .w1c, 0⟩]⟩,
  ⟨0x1C, 1, 4, [⟨0x1C, 0, 7, .rw, 0⟩]⟩,
  ⟨0x20, 1, 4, [⟨0x20, 0, 1, .rw, 0⟩, ⟨0x20, 4, 4, .rw, 0⟩]⟩,
  ⟨0x24, 1, 4, [⟨0x24, 0, 4, .rw, 0xF⟩]⟩,
  ⟨0x40, 1, 4, [ECC.CFG_CE_CLS, ECC.CFG_UE_CLS_S, ECC.CFG_UE_CLS_N, ECC.CFG_HARD_CLS, ECC.CFG_RET_THR_S, ECC.CFG_RET_THR_N]⟩,
  ⟨0x44, 2, 4, [ECC.CNT_CE, ECC.CNT_CE_SAT, ECC.CNT_UE, ECC.CNT_UE_SAT]⟩,
  ⟨0x4C, 2, 4, [ECC.LAST_ADDR, ECC.LAST_KIND]⟩,
  ⟨0x54, 1, 4, [ECC.HARD_LAST_ADDR, ECC.HARD_LAST_NVM, ECC.HARD_LAST_VALID]⟩,
  ⟨0x58, 1, 4, [ECC.RET_NS, ECC.RET_NN]⟩]

/-! LOFT page (R430, R498, R499, R500, R501). -/

def LOFT.STATUS_NONE : Fld := ⟨8, 0, 1, .ro, 0⟩
def LOFT.STATUS_TORN : Fld := ⟨8, 1, 1, .ro, 0⟩
def LOFT.STATUS_BUSY : Fld := ⟨8, 2, 1, .ro, 0⟩
def LOFT.ERR_NONE : Fld := ⟨0xC, 0, 1, .w1c, 0⟩
def LOFT.ERR_TORN : Fld := ⟨0xC, 1, 1, .w1c, 0⟩
def LOFT.ERR_WRITE : Fld := ⟨0xC, 2, 1, .w1c, 0⟩
def LOFT.ERR_CNT_SAT : Fld := ⟨0xC, 3, 1, .w1c, 0⟩
def LOFT.CUR_SEQ_SEQ : Fld := ⟨0x40, 0, 32, .ro, 0⟩
def LOFT.CUR_POS_SLOT : Fld := ⟨0x44, 0, 7, .ro, 0⟩
def LOFT.CUR_POS_LOFT : Fld := ⟨0x44, 8, 1, .ro, 0⟩
def LOFT.CUR_POS_LEN : Fld := ⟨0x44, 16, 8, .ro, 0⟩
def LOFT.CUR_T_T : Fld := ⟨0x48, 0, 32, .ro, 0⟩
def LOFT.COMMITS_COUNT : Fld := ⟨0x4C, 0, 31, .ro, 0⟩
def LOFT.COMMITS_SAT : Fld := ⟨0x4C, 31, 1, .w1c, 0⟩
def LOFT.HOST_DATA : Fld := ⟨0, 0, 32, .ro, 0⟩

def rowsLOFT : List RegRow := [
  ⟨0, 1, 4, [⟨0, 0, 8, .ro, 1⟩, ⟨0, 8, 8, .ro, 0⟩, ⟨0, 16, 16, .ro, 0x10F7⟩]⟩,
  ⟨4, 1, 4, [⟨4, 0, 8, .ro, 0xB1⟩]⟩,
  ⟨8, 1, 4, [LOFT.STATUS_NONE, LOFT.STATUS_TORN, LOFT.STATUS_BUSY]⟩,
  ⟨0xC, 1, 4, [LOFT.ERR_NONE, LOFT.ERR_TORN, LOFT.ERR_WRITE, LOFT.ERR_CNT_SAT]⟩,
  ⟨0x10, 1, 4, [⟨0x10, 0, 4, .w1s, 0⟩]⟩,
  ⟨0x14, 1, 4, [⟨0x14, 0, 4, .rw, 0⟩]⟩,
  ⟨0x18, 1, 4, [⟨0x18, 0, 4, .w1c, 0⟩]⟩,
  ⟨0x1C, 1, 4, [⟨0x1C, 0, 4, .rw, 0⟩]⟩,
  ⟨0x20, 1, 4, [⟨0x20, 0, 1, .rw, 0⟩, ⟨0x20, 4, 4, .rw, 0⟩]⟩,
  ⟨0x24, 1, 4, [⟨0x24, 0, 4, .rw, 0xF⟩]⟩,
  ⟨0x40, 1, 4, [LOFT.CUR_SEQ_SEQ]⟩,
  ⟨0x44, 1, 4, [LOFT.CUR_POS_SLOT, LOFT.CUR_POS_LOFT, LOFT.CUR_POS_LEN]⟩,
  ⟨0x48, 1, 4, [LOFT.CUR_T_T]⟩,
  ⟨0x4C, 1, 4, [LOFT.COMMITS_COUNT, LOFT.COMMITS_SAT]⟩,
  ⟨0x80, 32, 4, [LOFT.HOST_DATA]⟩]

/-! LOG page (R498, R499, R500, R501, R508). -/

def LOG.STATUS_SCAN_DONE : Fld := ⟨8, 0, 1, .ro, 0⟩
def LOG.ERR_EV_LOST : Fld := ⟨0xC, 0, 1, .w1c, 0⟩
def LOG.ERR_WRITE_FAIL : Fld := ⟨0xC, 1, 1, .w1c, 0⟩
def LOG.ERR_CNT_SAT : Fld := ⟨0xC, 2, 1, .w1c, 0⟩
def LOG.EV_POS_NEXT : Fld := ⟨0x40, 0, 13, .ro, 0⟩
def LOG.EV_POS_VALID : Fld := ⟨0x40, 16, 14, .ro, 0⟩
def LOG.EV_SEL_INDEX : Fld := ⟨0x44, 0, 13, .rw, 0⟩
def LOG.SN_SEL_SLOT : Fld := ⟨0x48, 0, 8, .rw, 0⟩
def LOG.SN_SEL_PART : Fld := ⟨0x48, 8, 2, .rw, 0⟩
def LOG.EV_CNT_WRITTEN : Fld := ⟨0x4C, 0, 15, .ro, 0⟩
def LOG.EV_CNT_WR_SAT : Fld := ⟨0x4C, 15, 1, .w1c, 0⟩
def LOG.EV_CNT_LOST : Fld := ⟨0x4C, 16, 15, .ro, 0⟩
def LOG.EV_CNT_LOST_SAT : Fld := ⟨0x4C, 31, 1, .w1c, 0⟩
def LOG.SN_STAT_NEWEST : Fld := ⟨0x50, 0, 8, .ro, 0xFF⟩
def LOG.SN_STAT_COUNT : Fld := ⟨0x50, 8, 8, .ro, 0⟩
def LOG.SN_STAT_BUSY : Fld := ⟨0x50, 16, 8, .ro, 0xFF⟩
def LOG.EVW_DATA : Fld := ⟨0, 0, 32, .ro, 0⟩
def LOG.SNW_DATA : Fld := ⟨0, 0, 32, .ro, 0⟩

def rowsLOG : List RegRow := [
  ⟨0, 1, 4, [⟨0, 0, 8, .ro, 1⟩, ⟨0, 8, 8, .ro, 0⟩, ⟨0, 16, 16, .ro, 0x1060⟩]⟩,
  ⟨4, 1, 4, [⟨4, 0, 8, .ro, 0xB1⟩]⟩,
  ⟨8, 1, 4, [LOG.STATUS_SCAN_DONE]⟩,
  ⟨0xC, 1, 4, [LOG.ERR_EV_LOST, LOG.ERR_WRITE_FAIL, LOG.ERR_CNT_SAT]⟩,
  ⟨0x10, 1, 4, [⟨0x10, 0, 3, .w1s, 0⟩]⟩,
  ⟨0x14, 1, 4, [⟨0x14, 0, 3, .rw, 0⟩]⟩,
  ⟨0x18, 1, 4, [⟨0x18, 0, 3, .w1c, 0⟩]⟩,
  ⟨0x1C, 1, 4, [⟨0x1C, 0, 3, .rw, 0⟩]⟩,
  ⟨0x20, 1, 4, [⟨0x20, 0, 1, .rw, 0⟩, ⟨0x20, 4, 4, .rw, 0⟩]⟩,
  ⟨0x24, 1, 4, [⟨0x24, 0, 4, .rw, 0xF⟩]⟩,
  ⟨0x40, 1, 4, [LOG.EV_POS_NEXT, LOG.EV_POS_VALID]⟩,
  ⟨0x44, 1, 4, [LOG.EV_SEL_INDEX]⟩,
  ⟨0x48, 1, 4, [LOG.SN_SEL_SLOT, LOG.SN_SEL_PART]⟩,
  ⟨0x4C, 1, 4, [LOG.EV_CNT_WRITTEN, LOG.EV_CNT_WR_SAT, LOG.EV_CNT_LOST, LOG.EV_CNT_LOST_SAT]⟩,
  ⟨0x50, 1, 4, [LOG.SN_STAT_NEWEST, LOG.SN_STAT_COUNT, LOG.SN_STAT_BUSY]⟩,
  ⟨0x100, 32, 4, [LOG.EVW_DATA]⟩,
  ⟨0x200, 64, 4, [LOG.SNW_DATA]⟩]

/-! SEC page (R464, R498, R499, R500, R501). -/

def SEC.STATUS_KEY_OTP : Fld := ⟨8, 0, 1, .ro, 0⟩
def SEC.STATUS_FW_AUTH : Fld := ⟨8, 1, 1, .ro, 0⟩
def SEC.STATUS_BALE_AUTH : Fld := ⟨8, 2, 1, .ro, 0⟩
def SEC.ERR_AUTH_FAIL : Fld := ⟨0xC, 0, 1, .w1c, 0⟩
def SEC.ERR_ROLLBACK : Fld := ⟨0xC, 1, 1, .w1c, 0⟩
def SEC.ERR_EPOCH : Fld := ⟨0xC, 2, 1, .w1c, 0⟩
def SEC.ERR_RELOAD : Fld := ⟨0xC, 3, 1, .w1c, 0⟩
def SEC.FWREL_REL : Fld := ⟨0x40, 0, 32, .ro, 0⟩
def SEC.FWINFO_INFO : Fld := ⟨0x44, 0, 32, .ro, 0⟩
def SEC.BALEINFO_BFMT : Fld := ⟨0x48, 0, 8, .ro, 0⟩
def SEC.BALEINFO_EPOCH : Fld := ⟨0x48, 8, 8, .ro, 0⟩
def SEC.BALEINFO_SLOT : Fld := ⟨0x48, 16, 1, .ro, 0⟩
def SEC.LAST_CAUSE : Fld := ⟨0x4C, 0, 8, .ro, 0⟩
def SEC.LAST_ITEM : Fld := ⟨0x4C, 8, 1, .ro, 0⟩
def SEC.FWHASH_HASH : Fld := ⟨0, 0, 32, .ro, 0⟩

def rowsSEC : List RegRow := [
  ⟨0, 1, 4, [⟨0, 0, 8, .ro, 1⟩, ⟨0, 8, 8, .ro, 0⟩, ⟨0, 16, 16, .ro, 0x5EC0⟩]⟩,
  ⟨4, 1, 4, [⟨4, 0, 8, .ro, 0xB1⟩]⟩,
  ⟨8, 1, 4, [SEC.STATUS_KEY_OTP, SEC.STATUS_FW_AUTH, SEC.STATUS_BALE_AUTH]⟩,
  ⟨0xC, 1, 4, [SEC.ERR_AUTH_FAIL, SEC.ERR_ROLLBACK, SEC.ERR_EPOCH, SEC.ERR_RELOAD]⟩,
  ⟨0x10, 1, 4, [⟨0x10, 0, 4, .w1s, 0⟩]⟩,
  ⟨0x14, 1, 4, [⟨0x14, 0, 4, .rw, 0⟩]⟩,
  ⟨0x18, 1, 4, [⟨0x18, 0, 4, .w1c, 0⟩]⟩,
  ⟨0x1C, 1, 4, [⟨0x1C, 0, 4, .rw, 0⟩]⟩,
  ⟨0x20, 1, 4, [⟨0x20, 0, 1, .rw, 0⟩, ⟨0x20, 4, 4, .rw, 0⟩]⟩,
  ⟨0x24, 1, 4, [⟨0x24, 0, 4, .rw, 0xF⟩]⟩,
  ⟨0x40, 1, 4, [SEC.FWREL_REL]⟩,
  ⟨0x44, 1, 4, [SEC.FWINFO_INFO]⟩,
  ⟨0x48, 1, 4, [SEC.BALEINFO_BFMT, SEC.BALEINFO_EPOCH, SEC.BALEINFO_SLOT]⟩,
  ⟨0x4C, 1, 4, [SEC.LAST_CAUSE, SEC.LAST_ITEM]⟩,
  ⟨0x60, 8, 4, [SEC.FWHASH_HASH]⟩]

/-! GPIO page (R498, R499, R500, R501, R512). -/

def GPIO.STATUS_IN : Fld := ⟨8, 0, 16, .ro, 0⟩
def GPIO.ERR_CONFLICT : Fld := ⟨0xC, 0, 1, .w1c, 0⟩
def GPIO.PIN_CFG_FUNC : Fld := ⟨0, 0, 3, .rwl, 0⟩
def GPIO.PIN_CFG_OD : Fld := ⟨0, 3, 1, .rwl, 0⟩
def GPIO.PIN_CFG_SAFE : Fld := ⟨0, 4, 2, .rwl, 0⟩
def GPIO.PIN_CFG_EDGE : Fld := ⟨0, 6, 2, .rwl, 0⟩
def GPIO.PIN_CFG_FILT : Fld := ⟨0, 8, 4, .rwl, 0⟩
def GPIO.OUT_LVL : Fld := ⟨0x80, 0, 16, .rw, 0⟩
def GPIO.OUT_SET_SET : Fld := ⟨0x84, 0, 16, .w1s, 0⟩
def GPIO.OUT_CLR_CLR : Fld := ⟨0x88, 0, 16, .w1s, 0⟩
def GPIO.DRV_DRIVEN : Fld := ⟨0x8C, 0, 16, .ro, 0⟩
def GPIO.DRV_LEVEL : Fld := ⟨0x8C, 16, 16, .ro, 0⟩

def rowsGPIO : List RegRow := [
  ⟨0, 1, 4, [⟨0, 0, 8, .ro, 1⟩, ⟨0, 8, 8, .ro, 0⟩, ⟨0, 16, 16, .ro, 0x6910⟩]⟩,
  ⟨4, 1, 4, [⟨4, 0, 8, .ro, 0xB1⟩]⟩,
  ⟨8, 1, 4, [GPIO.STATUS_IN]⟩,
  ⟨0xC, 1, 4, [GPIO.ERR_CONFLICT]⟩,
  ⟨0x10, 1, 4, [⟨0x10, 0, 1, .w1s, 0⟩]⟩,
  ⟨0x14, 1, 4, [⟨0x14, 0, 1, .rw, 0⟩]⟩,
  ⟨0x18, 1, 4, [⟨0x18, 0, 1, .w1c, 0⟩, ⟨0x18, 16, 16, .w1c, 0⟩]⟩,
  ⟨0x1C, 1, 4, [⟨0x1C, 0, 1, .rw, 0⟩, ⟨0x1C, 16, 16, .rw, 0⟩]⟩,
  ⟨0x20, 1, 4, [⟨0x20, 0, 1, .rw, 0⟩, ⟨0x20, 4, 4, .rw, 0⟩]⟩,
  ⟨0x24, 1, 4, [⟨0x24, 0, 4, .rw, 0xF⟩]⟩,
  ⟨0x40, 16, 4, [GPIO.PIN_CFG_FUNC, GPIO.PIN_CFG_OD, GPIO.PIN_CFG_SAFE, GPIO.PIN_CFG_EDGE, GPIO.PIN_CFG_FILT]⟩,
  ⟨0x80, 1, 4, [GPIO.OUT_LVL]⟩,
  ⟨0x84, 1, 4, [GPIO.OUT_SET_SET]⟩,
  ⟨0x88, 1, 4, [GPIO.OUT_CLR_CLR]⟩,
  ⟨0x8C, 1, 4, [GPIO.DRV_DRIVEN, GPIO.DRV_LEVEL]⟩]

end Sys2Proof.Machine
end

