-- ==== Sys2Proof/Machine/MapPower.lean ====
section
/-! DEFINITION. The field maps of spec/ for the pages PHX, RAIL, BUSC, CHG, PORT, BUCK, LDO, SUPV: every field with its
offset (inside its block, for a family of blocks), its lowest bit, its width, its access type and its reset
value (R14, R19), and per page the rows that place them. -/

namespace Sys2Proof.Machine

/-! PHX page (R133, R498, R499, R500, R501). -/

def PHX.STATUS_SFLT_LOW : Fld := ⟨8, 0, 8, .ro, 0⟩
def PHX.ERR_MAP_BUSY : Fld := ⟨0xC, 0, 1, .w1c, 0⟩
def PHX.ERR_MAP_INVALID : Fld := ⟨0xC, 1, 1, .w1c, 0⟩
def PHX.ERR_GRP_UNRES : Fld := ⟨0xC, 2, 1, .w1c, 0⟩
def PHX.ERR_OOF : Fld := ⟨0xC, 3, 1, .w1c, 0⟩
def PHX.ERR_IMON_OPEN : Fld := ⟨0xC, 4, 1, .w1c, 0⟩
def PHX.ERR_REMOVAL : Fld := ⟨0xC, 5, 1, .w1c, 0⟩
def PHX.ERR_NO_SPARE : Fld := ⟨0xC, 6, 1, .w1c, 0⟩
def PHX.ERR_CNT_SAT : Fld := ⟨0xC, 7, 1, .w1c, 0⟩
def PHX.MAP_RAIL : Fld := ⟨0, 0, 4, .rwl, 0xF⟩
def PHX.MAP_ROLE : Fld := ⟨0, 4, 2, .rwl, 0⟩
def PHX.MAP_SLOT : Fld := ⟨0, 8, 5, .rwl, 0⟩
def PHX.MAP_REMOVED : Fld := ⟨0, 16, 1, .ro, 0⟩
def PHX.MAP_SUBST : Fld := ⟨0, 17, 1, .ro, 0⟩
def PHX.MAP_HELD_SLOT : Fld := ⟨0, 24, 5, .ro, 0⟩
def PHX.IMCFG_OFS : Fld := ⟨4, 0, 8, .rwl, 0xA0⟩
def PHX.IMCFG_GAIN : Fld := ⟨4, 8, 8, .rwl, 0x64⟩
def PHX.SHARE_OFFSET : Fld := ⟨8, 0, 8, .rwh, 0⟩
def PHX.SHARE_EFF : Fld := ⟨8, 8, 8, .ro, 0⟩
def PHX.SHARE_WEIGHT : Fld := ⟨8, 16, 4, .ro, 0⟩
def PHX.PSTAT_I : Fld := ⟨0xC, 0, 12, .ro, 0⟩
def PHX.PSTAT_TRIM : Fld := ⟨0xC, 16, 12, .ro, 0⟩
def PHX.PSTAT_STATE : Fld := ⟨0xC, 28, 3, .ro, 0⟩
def PHX.SH_CFG_SHED_EN : Fld := ⟨0, 0, 1, .rwl, 0⟩
def PHX.SH_CFG_ORDER : Fld := ⟨0, 1, 1, .rwl, 0⟩
def PHX.SH_CFG_TBAL_EN : Fld := ⟨0, 2, 1, .rwl, 0⟩
def PHX.SH_CFG_OOF_EN : Fld := ⟨0, 3, 1, .rwl, 1⟩
def PHX.SH_CFG_HINT_EN : Fld := ⟨0, 4, 1, .rwl, 0⟩
def PHX.SH_CFG_ROT_EN : Fld := ⟨0, 5, 1, .rwl, 1⟩
def PHX.SH_CFG_ZC : Fld := ⟨0, 8, 6, .rwl, 0⟩
def PHX.SH_STEP_STEP_TH : Fld := ⟨4, 0, 8, .rwl, 0x40⟩
def PHX.SH_STEP_DSTEP : Fld := ⟨4, 8, 8, .rwl, 0x20⟩
def PHX.SH_STEP_REL_TH : Fld := ⟨4, 16, 8, .rwl, 0x40⟩
def PHX.SH_STEP_STEP_HOLD : Fld := ⟨4, 24, 8, .rwl, 8⟩
def PHX.SH_FIRE_TPULSE : Fld := ⟨8, 0, 8, .rwl, 0x14⟩
def PHX.SH_FIRE_TOFFMIN : Fld := ⟨8, 8, 8, .rwl, 0xA⟩
def PHX.SH_FIRE_FIRE_N : Fld := ⟨8, 16, 2, .rwl, 0⟩
def PHX.SH_BAL_KB : Fld := ⟨0xC, 0, 8, .rwl, 0x10⟩
def PHX.SH_BAL_TRIM_MAX : Fld := ⟨0xC, 8, 11, .rwl, 0x200⟩
def PHX.SH_BAL_SMAX : Fld := ⟨0xC, 20, 8, .rwl, 0x40⟩
def PHX.SH_LVL0_COUNT : Fld := ⟨0x10, 0, 5, .rwl, 0⟩
def PHX.SH_LVL0_DROP : Fld := ⟨0x10, 8, 12, .rwl, 0⟩
def PHX.SH_LVL0_ADD : Fld := ⟨0x10, 20, 12, .rwl, 0⟩
def PHX.SH_LVL1_COUNT : Fld := ⟨0x14, 0, 5, .rwl, 0⟩
def PHX.SH_LVL1_DROP : Fld := ⟨0x14, 8, 12, .rwl, 0⟩
def PHX.SH_LVL1_ADD : Fld := ⟨0x14, 20, 12, .rwl, 0⟩
def PHX.SH_LVL2_COUNT : Fld := ⟨0x18, 0, 5, .rwl, 0⟩
def PHX.SH_LVL2_DROP : Fld := ⟨0x18, 8, 12, .rwl, 0⟩
def PHX.SH_LVL2_ADD : Fld := ⟨0x18, 20, 12, .rwl, 0⟩
def PHX.SH_SHED_FILT : Fld := ⟨0x1C, 0, 3, .rwl, 4⟩
def PHX.SH_SHED_DWELL : Fld := ⟨0x1C, 8, 8, .rwl, 0x40⟩
def PHX.SH_SHED_HOLD : Fld := ⟨0x1C, 16, 8, .rwl, 0xA⟩
def PHX.SH_OOF_TH : Fld := ⟨0x20, 0, 8, .rwl, 0x14⟩
def PHX.SH_OOF_CNT : Fld := ⟨0x20, 8, 8, .rwl, 0x20⟩
def PHX.SH_OOF_MIN : Fld := ⟨0x20, 16, 8, .rwl, 5⟩
def PHX.SH_HINT_RISE : Fld := ⟨0x24, 0, 3, .rwl, 0⟩
def PHX.SH_HINT_FALL : Fld := ⟨0x24, 4, 3, .rwl, 0⟩
def PHX.SH_STAT_SST : Fld := ⟨0x28, 0, 2, .ro, 0⟩
def PHX.SH_STAT_LEVEL : Fld := ⟨0x28, 2, 2, .ro, 0⟩
def PHX.SH_STAT_CYCLE : Fld := ⟨0x28, 4, 3, .ro, 0⟩
def PHX.SH_STAT_M : Fld := ⟨0x28, 7, 5, .ro, 0⟩
def PHX.SH_STAT_ROT_PTR : Fld := ⟨0x28, 12, 5, .ro, 0⟩
def PHX.SH_STAT_SPARES : Fld := ⟨0x28, 17, 2, .ro, 0⟩
def PHX.SH_STAT_DERATED : Fld := ⟨0x28, 19, 1, .ro, 0⟩
def PHX.SH_STAT_SUSP : Fld := ⟨0x28, 20, 1, .ro, 0⟩
def PHX.SH_STAT_HINT_WIN : Fld := ⟨0x28, 21, 1, .ro, 0⟩
def PHX.SH_ITOT_FILT : Fld := ⟨0x2C, 0, 16, .ro, 0⟩
def PHX.SH_ITOT_INST : Fld := ⟨0x2C, 16, 16, .ro, 0⟩
def PHX.SH_CNT1_STEPS : Fld := ⟨0x30, 0, 15, .ro, 0⟩
def PHX.SH_CNT1_STEPS_SAT : Fld := ⟨0x30, 15, 1, .w1c, 0⟩
def PHX.SH_CNT1_ABORTS : Fld := ⟨0x30, 16, 15, .ro, 0⟩
def PHX.SH_CNT1_ABORTS_SAT : Fld := ⟨0x30, 31, 1, .w1c, 0⟩
def PHX.SH_CNT2_HCONF : Fld := ⟨0x34, 0, 15, .ro, 0⟩
def PHX.SH_CNT2_HCONF_SAT : Fld := ⟨0x34, 15, 1, .w1c, 0⟩
def PHX.SH_CNT2_HUNCONF : Fld := ⟨0x34, 16, 15, .ro, 0⟩
def PHX.SH_CNT2_HUNCONF_SAT : Fld := ⟨0x34, 31, 1, .w1c, 0⟩
def PHX.CLS_A_PB : Fld := ⟨0, 0, 12, .rwl, 0⟩
def PHX.CLS_A_PRE_N : Fld := ⟨0, 12, 3, .rwl, 0⟩
def PHX.CLS_A_WIN : Fld := ⟨0, 16, 5, .rwl, 0xC⟩
def PHX.GRP_IMFLT : Fld := ⟨0, 0, 8, .rwl, 0xBE⟩
def PHX.GRP_FILT : Fld := ⟨0, 8, 4, .rwl, 2⟩
def PHX.GRP_LAST : Fld := ⟨0, 16, 7, .ro, 0⟩
def PHX.CLS_B_DI : Fld := ⟨4, 0, 12, .rwl, 0⟩
def PHX.CLS_B_DECAY : Fld := ⟨4, 12, 8, .rwl, 0x20⟩
def PHX.CLS_B_UNDO : Fld := ⟨4, 20, 4, .rwl, 7⟩
def PHX.HINTLVL_LVL : Fld := ⟨0x3E0, 0, 12, .ro, 0⟩

def rowsPHX0 : List RegRow := [
  ⟨0, 1, 4, [⟨0, 0, 8, .ro, 1⟩, ⟨0, 8, 8, .ro, 0⟩, ⟨0, 16, 16, .ro, 0xA4E⟩]⟩,
  ⟨4, 1, 4, [⟨4, 0, 8, .ro, 0xB1⟩]⟩,
  ⟨8, 1, 4, [PHX.STATUS_SFLT_LOW]⟩,
  ⟨0xC, 1, 4, [PHX.ERR_MAP_BUSY, PHX.ERR_MAP_INVALID, PHX.ERR_GRP_UNRES, PHX.ERR_OOF, PHX.ERR_IMON_OPEN, PHX.ERR_REMOVAL, PHX.ERR_NO_SPARE, PHX.ERR_CNT_SAT]⟩,
  ⟨0x10, 1, 4, [⟨0x10, 0, 8, .w1s, 0⟩]⟩,
  ⟨0x14, 1, 4, [⟨0x14, 0, 8, .rw, 0⟩]⟩,
  ⟨0x18, 1, 4, [⟨0x18, 0, 8, .w1c, 0⟩]⟩,
  ⟨0x1C, 1, 4, [⟨0x1C, 0, 8, .rw, 0⟩]⟩,
  ⟨0x20, 1, 4, [⟨0x20, 0, 1, .rw, 0⟩, ⟨0x20, 4, 4, .rw, 0⟩]⟩,
  ⟨0x24, 1, 4, [⟨0x24, 0, 4, .rw, 0xF⟩]⟩,
  ⟨0x40, 32, 0x10, [PHX.MAP_RAIL, PHX.MAP_ROLE, PHX.MAP_SLOT, PHX.MAP_REMOVED, PHX.MAP_SUBST, PHX.MAP_HELD_SLOT]⟩,
  ⟨0x44, 32, 0x10, [PHX.IMCFG_OFS, PHX.IMCFG_GAIN]⟩,
  ⟨0x48, 32, 0x10, [PHX.SHARE_OFFSET, PHX.SHARE_EFF, PHX.SHARE_WEIGHT]⟩,
  ⟨0x4C, 32, 0x10, [PHX.PSTAT_I, PHX.PSTAT_TRIM, PHX.PSTAT_STATE]⟩,
  ⟨0x240, 6, 0x40, [PHX.SH_CFG_SHED_EN, PHX.SH_CFG_ORDER, PHX.SH_CFG_TBAL_EN, PHX.SH_CFG_OOF_EN, PHX.SH_CFG_HINT_EN, PHX.SH_CFG_ROT_EN, PHX.SH_CFG_ZC]⟩,
  ⟨0x244, 6, 0x40, [PHX.SH_STEP_STEP_TH, PHX.SH_STEP_DSTEP, PHX.SH_STEP_REL_TH, PHX.SH_STEP_STEP_HOLD]⟩,
  ⟨0x248, 6, 0x40, [PHX.SH_FIRE_TPULSE, PHX.SH_FIRE_TOFFMIN, PHX.SH_FIRE_FIRE_N]⟩,
  ⟨0x24C, 6, 0x40, [PHX.SH_BAL_KB, PHX.SH_BAL_TRIM_MAX, PHX.SH_BAL_SMAX]⟩,
  ⟨0x250, 6, 0x40, [PHX.SH_LVL0_COUNT, PHX.SH_LVL0_DROP, PHX.SH_LVL0_ADD]⟩,
  ⟨0x254, 6, 0x40, [PHX.SH_LVL1_COUNT, PHX.SH_LVL1_DROP, PHX.SH_LVL1_ADD]⟩,
  ⟨0x258, 6, 0x40, [PHX.SH_LVL2_COUNT, PHX.SH_LVL2_DROP, PHX.SH_LVL2_ADD]⟩,
  ⟨0x25C, 6, 0x40, [PHX.SH_SHED_FILT, PHX.SH_SHED_DWELL, PHX.SH_SHED_HOLD]⟩,
  ⟨0x260, 6, 0x40, [PHX.SH_OOF_TH, PHX.SH_OOF_CNT, PHX.SH_OOF_MIN]⟩,
  ⟨0x264, 6, 0x40, [PHX.SH_HINT_RISE, PHX.SH_HINT_FALL]⟩,
  ⟨0x268, 6, 0x40, [PHX.SH_STAT_SST, PHX.SH_STAT_LEVEL, PHX.SH_STAT_CYCLE, PHX.SH_STAT_M, PHX.SH_STAT_ROT_PTR, PHX.SH_STAT_SPARES, PHX.SH_STAT_DERATED, PHX.SH_STAT_SUSP, PHX.SH_STAT_HINT_WIN]⟩,
  ⟨0x26C, 6, 0x40, [PHX.SH_ITOT_FILT, PHX.SH_ITOT_INST]⟩,
  ⟨0x270, 6, 0x40, [PHX.SH_CNT1_STEPS, PHX.SH_CNT1_STEPS_SAT, PHX.SH_CNT1_ABORTS, PHX.SH_CNT1_ABORTS_SAT]⟩,
  ⟨0x274, 6, 0x40, [PHX.SH_CNT2_HCONF, PHX.SH_CNT2_HCONF_SAT, PHX.SH_CNT2_HUNCONF, PHX.SH_CNT2_HUNCONF_SAT]⟩,
  ⟨0x3C0, 8, 8, [PHX.CLS_A_PB, PHX.CLS_A_PRE_N, PHX.CLS_A_WIN]⟩,
  ⟨0x3C4, 8, 8, [PHX.CLS_B_DI, PHX.CLS_B_DECAY, PHX.CLS_B_UNDO]⟩]

def rowsPHX1 : List RegRow := [
  ⟨0, 1, 4, [⟨0, 0, 8, .ro, 1⟩, ⟨0, 8, 8, .ro, 0⟩, ⟨0, 16, 16, .ro, 0xA4E⟩]⟩,
  ⟨4, 1, 4, [⟨4, 0, 8, .ro, 0xB1⟩]⟩,
  ⟨8, 1, 4, [PHX.STATUS_SFLT_LOW]⟩,
  ⟨0xC, 1, 4, [PHX.ERR_MAP_BUSY, PHX.ERR_MAP_INVALID, PHX.ERR_GRP_UNRES, PHX.ERR_OOF, PHX.ERR_IMON_OPEN, PHX.ERR_REMOVAL, PHX.ERR_NO_SPARE, PHX.ERR_CNT_SAT]⟩,
  ⟨0x10, 1, 4, [⟨0x10, 0, 8, .w1s, 0⟩]⟩,
  ⟨0x14, 1, 4, [⟨0x14, 0, 8, .rw, 0⟩]⟩,
  ⟨0x18, 1, 4, [⟨0x18, 0, 8, .w1c, 0⟩]⟩,
  ⟨0x1C, 1, 4, [⟨0x1C, 0, 8, .rw, 0⟩]⟩,
  ⟨0x20, 1, 4, [⟨0x20, 0, 1, .rw, 0⟩, ⟨0x20, 4, 4, .rw, 0⟩]⟩,
  ⟨0x24, 1, 4, [⟨0x24, 0, 4, .rw, 0xF⟩]⟩,
  ⟨0x40, 24, 0x10, [PHX.MAP_RAIL, PHX.MAP_ROLE, PHX.MAP_SLOT, PHX.MAP_REMOVED, PHX.MAP_SUBST, PHX.MAP_HELD_SLOT]⟩,
  ⟨0x44, 24, 0x10, [PHX.IMCFG_OFS, PHX.IMCFG_GAIN]⟩,
  ⟨0x48, 24, 0x10, [PHX.SHARE_OFFSET, PHX.SHARE_EFF, PHX.SHARE_WEIGHT]⟩,
  ⟨0x4C, 24, 0x10, [PHX.PSTAT_I, PHX.PSTAT_TRIM, PHX.PSTAT_STATE]⟩,
  ⟨0x240, 6, 0x40, [PHX.SH_CFG_SHED_EN, PHX.SH_CFG_ORDER, PHX.SH_CFG_TBAL_EN, PHX.SH_CFG_OOF_EN, PHX.SH_CFG_HINT_EN, PHX.SH_CFG_ROT_EN, PHX.SH_CFG_ZC]⟩,
  ⟨0x244, 6, 0x40, [PHX.SH_STEP_STEP_TH, PHX.SH_STEP_DSTEP, PHX.SH_STEP_REL_TH, PHX.SH_STEP_STEP_HOLD]⟩,
  ⟨0x248, 6, 0x40, [PHX.SH_FIRE_TPULSE, PHX.SH_FIRE_TOFFMIN, PHX.SH_FIRE_FIRE_N]⟩,
  ⟨0x24C, 6, 0x40, [PHX.SH_BAL_KB, PHX.SH_BAL_TRIM_MAX, PHX.SH_BAL_SMAX]⟩,
  ⟨0x250, 6, 0x40, [PHX.SH_LVL0_COUNT, PHX.SH_LVL0_DROP, PHX.SH_LVL0_ADD]⟩,
  ⟨0x254, 6, 0x40, [PHX.SH_LVL1_COUNT, PHX.SH_LVL1_DROP, PHX.SH_LVL1_ADD]⟩,
  ⟨0x258, 6, 0x40, [PHX.SH_LVL2_COUNT, PHX.SH_LVL2_DROP, PHX.SH_LVL2_ADD]⟩,
  ⟨0x25C, 6, 0x40, [PHX.SH_SHED_FILT, PHX.SH_SHED_DWELL, PHX.SH_SHED_HOLD]⟩,
  ⟨0x260, 6, 0x40, [PHX.SH_OOF_TH, PHX.SH_OOF_CNT, PHX.SH_OOF_MIN]⟩,
  ⟨0x264, 6, 0x40, [PHX.SH_HINT_RISE, PHX.SH_HINT_FALL]⟩,
  ⟨0x268, 6, 0x40, [PHX.SH_STAT_SST, PHX.SH_STAT_LEVEL, PHX.SH_STAT_CYCLE, PHX.SH_STAT_M, PHX.SH_STAT_ROT_PTR, PHX.SH_STAT_SPARES, PHX.SH_STAT_DERATED, PHX.SH_STAT_SUSP, PHX.SH_STAT_HINT_WIN]⟩,
  ⟨0x26C, 6, 0x40, [PHX.SH_ITOT_FILT, PHX.SH_ITOT_INST]⟩,
  ⟨0x270, 6, 0x40, [PHX.SH_CNT1_STEPS, PHX.SH_CNT1_STEPS_SAT, PHX.SH_CNT1_ABORTS, PHX.SH_CNT1_ABORTS_SAT]⟩,
  ⟨0x274, 6, 0x40, [PHX.SH_CNT2_HCONF, PHX.SH_CNT2_HCONF_SAT, PHX.SH_CNT2_HUNCONF, PHX.SH_CNT2_HUNCONF_SAT]⟩,
  ⟨0x3C0, 8, 4, [PHX.GRP_IMFLT, PHX.GRP_FILT, PHX.GRP_LAST]⟩,
  ⟨0x3E0, 1, 4, [PHX.HINTLVL_LVL]⟩]

/-! RAIL page (R101, R157, R498, R499, R500, R501). -/

def RAIL.STATUS_STATE : Fld := ⟨8, 0, 3, .ro, 0⟩
def RAIL.STATUS_SS_DONE : Fld := ⟨8, 3, 1, .ro, 0⟩
def RAIL.STATUS_SLEWING : Fld := ⟨8, 4, 1, .ro, 0⟩
def RAIL.STATUS_BANK : Fld := ⟨8, 5, 1, .ro, 0⟩
def RAIL.STATUS_LID_RUN : Fld := ⟨8, 6, 1, .ro, 0⟩
def RAIL.STATUS_PROP_VALID : Fld := ⟨8, 7, 1, .ro, 0⟩
def RAIL.STATUS_FF_CLAMP : Fld := ⟨8, 8, 1, .ro, 0⟩
def RAIL.STATUS_DUTY_CLAMP : Fld := ⟨8, 9, 1, .ro, 0⟩
def RAIL.STATUS_NPH : Fld := ⟨8, 16, 5, .ro, 0⟩
def RAIL.ERR_WIN_OVR : Fld := ⟨0xC, 0, 1, .w1c, 0⟩
def RAIL.ERR_INT_SAT : Fld := ⟨0xC, 1, 1, .w1c, 0⟩
def RAIL.ERR_FF_LOW : Fld := ⟨0xC, 2, 1, .w1c, 0⟩
def RAIL.ERR_COEF_RANGE : Fld := ⟨0xC, 3, 1, .w1c, 0⟩
def RAIL.ERR_VSET_RANGE : Fld := ⟨0xC, 4, 1, .w1c, 0⟩
def RAIL.ERR_LID_ABORT : Fld := ⟨0xC, 5, 1, .w1c, 0⟩
def RAIL.ERR_SS_PREBIAS : Fld := ⟨0xC, 6, 1, .w1c, 0⟩
def RAIL.ERR_CFG_BUSY : Fld := ⟨0xC, 7, 1, .w1c, 0⟩
def RAIL.ERR_OC_LIMIT : Fld := ⟨0xC, 8, 1, .w1c, 0⟩
def RAIL.ERR_HICCUP : Fld := ⟨0xC, 9, 1, .w1c, 0⟩
def RAIL.ERR_START_SHORT : Fld := ⟨0xC, 10, 1, .w1c, 0⟩
def RAIL.ERR_LATCH_OFF : Fld := ⟨0xC, 11, 1, .w1c, 0⟩
def RAIL.ERR_NEG_CUR : Fld := ⟨0xC, 12, 1, .w1c, 0⟩
def RAIL.ERR_STAGE_FAULT : Fld := ⟨0xC, 13, 1, .w1c, 0⟩
def RAIL.CTRL_EN : Fld := ⟨0x40, 0, 1, .rwh, 0⟩
def RAIL.CTRL_FF_EN : Fld := ⟨0x40, 1, 1, .rwl, 1⟩
def RAIL.CTRL_PREBIAS_EN : Fld := ⟨0x40, 2, 1, .rwl, 1⟩
def RAIL.CTRL_PROFILE : Fld := ⟨0x40, 3, 1, .rwl, 0⟩
def RAIL.CTRL_NEGI_SS : Fld := ⟨0x40, 4, 1, .rwl, 1⟩
def RAIL.VSET_CODE : Fld := ⟨0x44, 0, 12, .rw, 0⟩
def RAIL.VLIM_VMIN : Fld := ⟨0x48, 0, 12, .rwl, 0⟩
def RAIL.VLIM_VMAX : Fld := ⟨0x48, 16, 12, .rwl, 0⟩
def RAIL.SLEW_UP : Fld := ⟨0x4C, 0, 8, .rwl, 0x14⟩
def RAIL.SLEW_DOWN : Fld := ⟨0x4C, 8, 8, .rwl, 0x14⟩
def RAIL.REF_NOW_REF : Fld := ⟨0x50, 0, 18, .ro, 0⟩
def RAIL.FSW_FREQ : Fld := ⟨0x54, 0, 11, .rwl, 0x1F4⟩
def RAIL.FSW_SOFF : Fld := ⟨0x54, 16, 5, .rwl, 0⟩
def RAIL.SS_TIME : Fld := ⟨0x58, 0, 8, .rwl, 0xA⟩
def RAIL.DLIM_DMAX : Fld := ⟨0x5C, 0, 16, .rwl, 0x4000⟩
def RAIL.DLIM_TONMIN : Fld := ⟨0x5C, 16, 10, .rwl, 0x1E⟩
def RAIL.FF_VFF_NOM : Fld := ⟨0x60, 0, 12, .rwl, 0x700⟩
def RAIL.FF_TAU : Fld := ⟨0x60, 16, 3, .rwl, 2⟩
def RAIL.VIN_FF_V : Fld := ⟨0x64, 0, 12, .ro, 0⟩
def RAIL.COEF_CTRL_APPLY : Fld := ⟨0x68, 0, 1, .wo, 0⟩
def RAIL.COEF_CTRL_COPY : Fld := ⟨0x68, 1, 1, .wo, 0⟩
def RAIL.INTLIM_LIM : Fld := ⟨0x6C, 0, 18, .rwl, 0⟩
def RAIL.COEFA_PI_KP : Fld := ⟨0x70, 0, 16, .rwl, 0⟩
def RAIL.COEFA_PI_KI : Fld := ⟨0x70, 16, 16, .rwl, 0⟩
def RAIL.COEFA_DX_KD : Fld := ⟨0x74, 0, 16, .rwl, 0⟩
def RAIL.COEFA_DX_KEXP : Fld := ⟨0x74, 16, 3, .rwl, 0⟩
def RAIL.COEFA_POLE_A1 : Fld := ⟨0x78, 0, 16, .rwl, 0x4000⟩
def RAIL.COEFA_POLE_A2 : Fld := ⟨0x78, 16, 16, .rwl, 0x4000⟩
def RAIL.COEFB_PI_KP : Fld := ⟨0x7C, 0, 16, .rwl, 0⟩
def RAIL.COEFB_PI_KI : Fld := ⟨0x7C, 16, 16, .rwl, 0⟩
def RAIL.COEFB_DX_KD : Fld := ⟨0x80, 0, 16, .rwl, 0⟩
def RAIL.COEFB_DX_KEXP : Fld := ⟨0x80, 16, 3, .rwl, 0⟩
def RAIL.COEFB_POLE_A1 : Fld := ⟨0x84, 0, 16, .rwl, 0x4000⟩
def RAIL.COEFB_POLE_A2 : Fld := ⟨0x84, 16, 16, .rwl, 0x4000⟩
def RAIL.LOOP_MON_E_LAST : Fld := ⟨0x88, 0, 10, .ro, 0⟩
def RAIL.LOOP_MON_D_LAST : Fld := ⟨0x88, 16, 16, .ro, 0⟩
def RAIL.INT_STATE_ACC : Fld := ⟨0x8C, 0, 19, .ro, 0⟩
def RAIL.SAT_CNT_COUNT : Fld := ⟨0x90, 0, 16, .ro, 0⟩
def RAIL.SAT_CNT_SAT : Fld := ⟨0x90, 31, 1, .w1c, 0⟩
def RAIL.WIN_CNT_COUNT : Fld := ⟨0x94, 0, 16, .ro, 0⟩
def RAIL.WIN_CNT_SAT : Fld := ⟨0x94, 31, 1, .w1c, 0⟩
def RAIL.LID_CFG_ORDER : Fld := ⟨0xA0, 0, 4, .rwl, 9⟩
def RAIL.LID_CFG_CHIP : Fld := ⟨0xA0, 4, 3, .rwl, 1⟩
def RAIL.LID_CFG_REPS : Fld := ⟨0xA0, 8, 6, .rwl, 0x10⟩
def RAIL.LID_CFG_AMP : Fld := ⟨0xA0, 16, 4, .rwl, 8⟩
def RAIL.LID_CFG_AUTO : Fld := ⟨0xA0, 20, 1, .rwl, 0⟩
def RAIL.LID_CFG_DEV : Fld := ⟨0xA0, 21, 2, .rwl, 1⟩
def RAIL.LID_BOUND_PM_MIN : Fld := ⟨0xA4, 0, 8, .rwl, 0x5A⟩
def RAIL.LID_BOUND_GM_MIN : Fld := ⟨0xA4, 8, 8, .rwl, 0x20⟩
def RAIL.LID_BOUND_FC_MIN : Fld := ⟨0xA4, 16, 8, .rwl, 5⟩
def RAIL.LID_BOUND_FC_MAX : Fld := ⟨0xA4, 24, 8, .rwl, 0x64⟩
def RAIL.LID_TGT_FC : Fld := ⟨0xA8, 0, 16, .ro, 0⟩
def RAIL.LID_STAT_STATE : Fld := ⟨0xAC, 0, 3, .ro, 0⟩
def RAIL.LID_STAT_CAUSE : Fld := ⟨0xAC, 4, 4, .ro, 0⟩
def RAIL.LID_STAT_PROP_ID : Fld := ⟨0xAC, 8, 8, .ro, 0⟩
def RAIL.LID_STAT_FIT : Fld := ⟨0xAC, 16, 8, .ro, 0⟩
def RAIL.LID_STAT_AMP_USED : Fld := ⟨0xAC, 24, 4, .ro, 0⟩
def RAIL.LID_RES0_FC : Fld := ⟨0xB0, 0, 16, .ro, 0⟩
def RAIL.LID_RES0_PM : Fld := ⟨0xB0, 16, 8, .ro, 0⟩
def RAIL.LID_RES0_GM : Fld := ⟨0xB0, 24, 8, .ro, 0⟩
def RAIL.LID_RES1_F0 : Fld := ⟨0xB4, 0, 16, .ro, 0⟩
def RAIL.LID_RES1_Q : Fld := ⟨0xB4, 16, 8, .ro, 0⟩
def RAIL.LID_RES2_FESR : Fld := ⟨0xB8, 0, 16, .ro, 0⟩
def RAIL.LID_RES2_DELAY : Fld := ⟨0xB8, 16, 8, .ro, 0⟩
def RAIL.PROP_PI_KP : Fld := ⟨0xBC, 0, 16, .ro, 0⟩
def RAIL.PROP_PI_KI : Fld := ⟨0xBC, 16, 16, .ro, 0⟩
def RAIL.PROP_DX_KD : Fld := ⟨0xC0, 0, 16, .ro, 0⟩
def RAIL.PROP_DX_KEXP : Fld := ⟨0xC0, 16, 3, .ro, 0⟩
def RAIL.PROP_POLE_A1 : Fld := ⟨0xC4, 0, 16, .ro, 0⟩
def RAIL.PROP_POLE_A2 : Fld := ⟨0xC4, 16, 16, .ro, 0⟩
def RAIL.LID_AGE_SEC : Fld := ⟨0xC8, 0, 16, .ro, 0⟩
def RAIL.OCP_IPK : Fld := ⟨0x100, 0, 9, .rwl, 0x78⟩
def RAIL.OCP_LEB : Fld := ⟨0x100, 16, 5, .rwl, 4⟩
def RAIL.OCP_TOT_ITOT : Fld := ⟨0x104, 0, 12, .rwl, 0⟩
def RAIL.NEGI_NEG : Fld := ⟨0x108, 0, 8, .rwl, 0x28⟩
def RAIL.NEGI_NEG_EN : Fld := ⟨0x108, 8, 1, .rwl, 1⟩
def RAIL.HICCUP_N : Fld := ⟨0x10C, 0, 8, .rwl, 0x10⟩
def RAIL.HICCUP_OFF_T : Fld := ⟨0x10C, 8, 10, .rwl, 0x14⟩
def RAIL.HICCUP_M : Fld := ⟨0x10C, 18, 4, .rwl, 3⟩
def RAIL.HICCUP_SSHORT_EN : Fld := ⟨0x10C, 22, 1, .rwl, 1⟩
def RAIL.HICCUP_HIC_CLS : Fld := ⟨0x10C, 23, 1, .rwl, 0⟩
def RAIL.HICCUP_CLR : Fld := ⟨0x10C, 24, 8, .rwl, 0xA⟩
def RAIL.HIC_STAT_LCNT : Fld := ⟨0x110, 0, 8, .ro, 0⟩
def RAIL.HIC_STAT_RETRY : Fld := ⟨0x110, 8, 4, .ro, 0⟩
def RAIL.HIC_STAT_OFF_LEFT : Fld := ⟨0x110, 12, 10, .ro, 0⟩
def RAIL.HIC_STAT_CAUSE : Fld := ⟨0x110, 22, 1, .ro, 0⟩
def RAIL.OC_CNT_LIMITED : Fld := ⟨0x114, 0, 15, .ro, 0⟩
def RAIL.OC_CNT_LIM_SAT : Fld := ⟨0x114, 15, 1, .w1c, 0⟩
def RAIL.OC_CNT_NEG : Fld := ⟨0x114, 16, 15, .ro, 0⟩
def RAIL.OC_CNT_NEG_SAT : Fld := ⟨0x114, 31, 1, .w1c, 0⟩
def RAIL.PROT_LAST_CAUSE : Fld := ⟨0x13C, 0, 4, .ro, 0⟩
def RAIL.PROT_LAST_PHASE : Fld := ⟨0x13C, 4, 6, .ro, 0x3F⟩
def RAIL.PROT_LAST_TICK : Fld := ⟨0x13C, 10, 22, .ro, 0⟩

def rowsRAIL0 : List RegRow := [
  ⟨0, 1, 4, [⟨0, 0, 8, .ro, 1⟩, ⟨0, 8, 8, .ro, 0⟩, ⟨0, 16, 16, .ro, 0xA11⟩]⟩,
  ⟨4, 1, 4, [⟨4, 0, 8, .ro, 0xB1⟩]⟩,
  ⟨8, 1, 4, [RAIL.STATUS_STATE, RAIL.STATUS_SS_DONE, RAIL.STATUS_SLEWING, RAIL.STATUS_BANK, RAIL.STATUS_LID_RUN, RAIL.STATUS_PROP_VALID, RAIL.STATUS_FF_CLAMP, RAIL.STATUS_DUTY_CLAMP, RAIL.STATUS_NPH]⟩,
  ⟨0xC, 1, 4, [RAIL.ERR_WIN_OVR, RAIL.ERR_INT_SAT, RAIL.ERR_FF_LOW, RAIL.ERR_COEF_RANGE, RAIL.ERR_VSET_RANGE, RAIL.ERR_LID_ABORT, RAIL.ERR_SS_PREBIAS, RAIL.ERR_CFG_BUSY, RAIL.ERR_OC_LIMIT, RAIL.ERR_HICCUP, RAIL.ERR_START_SHORT, RAIL.ERR_LATCH_OFF, RAIL.ERR_NEG_CUR, RAIL.ERR_STAGE_FAULT]⟩,
  ⟨0x10, 1, 4, [⟨0x10, 0, 14, .w1s, 0⟩]⟩,
  ⟨0x14, 1, 4, [⟨0x14, 0, 14, .rw, 0⟩]⟩,
  ⟨0x18, 1, 4, [⟨0x18, 0, 14, .w1c, 0⟩, ⟨0x18, 16, 3, .w1c, 0⟩]⟩,
  ⟨0x1C, 1, 4, [⟨0x1C, 0, 14, .rw, 0⟩, ⟨0x1C, 16, 3, .rw, 0⟩]⟩,
  ⟨0x20, 1, 4, [⟨0x20, 0, 1, .rw, 0⟩, ⟨0x20, 4, 4, .rw, 0⟩]⟩,
  ⟨0x24, 1, 4, [⟨0x24, 0, 4, .rw, 0xF⟩]⟩,
  ⟨0x40, 1, 4, [RAIL.CTRL_EN, RAIL.CTRL_FF_EN, RAIL.CTRL_PREBIAS_EN, RAIL.CTRL_PROFILE, RAIL.CTRL_NEGI_SS]⟩,
  ⟨0x44, 1, 4, [RAIL.VSET_CODE]⟩,
  ⟨0x48, 1, 4, [RAIL.VLIM_VMIN, RAIL.VLIM_VMAX]⟩,
  ⟨0x4C, 1, 4, [RAIL.SLEW_UP, RAIL.SLEW_DOWN]⟩,
  ⟨0x50, 1, 4, [RAIL.REF_NOW_REF]⟩,
  ⟨0x54, 1, 4, [RAIL.FSW_FREQ, RAIL.FSW_SOFF]⟩,
  ⟨0x58, 1, 4, [RAIL.SS_TIME]⟩,
  ⟨0x5C, 1, 4, [RAIL.DLIM_DMAX, RAIL.DLIM_TONMIN]⟩,
  ⟨0x60, 1, 4, [RAIL.FF_VFF_NOM, RAIL.FF_TAU]⟩,
  ⟨0x64, 1, 4, [RAIL.VIN_FF_V]⟩,
  ⟨0x68, 1, 4, [RAIL.COEF_CTRL_APPLY, RAIL.COEF_CTRL_COPY]⟩,
  ⟨0x6C, 1, 4, [RAIL.INTLIM_LIM]⟩,
  ⟨0x70, 1, 4, [RAIL.COEFA_PI_KP, RAIL.COEFA_PI_KI]⟩,
  ⟨0x74, 1, 4, [RAIL.COEFA_DX_KD, RAIL.COEFA_DX_KEXP]⟩,
  ⟨0x78, 1, 4, [RAIL.COEFA_POLE_A1, RAIL.COEFA_POLE_A2]⟩,
  ⟨0x7C, 1, 4, [RAIL.COEFB_PI_KP, RAIL.COEFB_PI_KI]⟩,
  ⟨0x80, 1, 4, [RAIL.COEFB_DX_KD, RAIL.COEFB_DX_KEXP]⟩,
  ⟨0x84, 1, 4, [RAIL.COEFB_POLE_A1, RAIL.COEFB_POLE_A2]⟩,
  ⟨0x88, 1, 4, [RAIL.LOOP_MON_E_LAST, RAIL.LOOP_MON_D_LAST]⟩,
  ⟨0x8C, 1, 4, [RAIL.INT_STATE_ACC]⟩,
  ⟨0x90, 1, 4, [RAIL.SAT_CNT_COUNT, RAIL.SAT_CNT_SAT]⟩,
  ⟨0x94, 1, 4, [RAIL.WIN_CNT_COUNT, RAIL.WIN_CNT_SAT]⟩,
  ⟨0xA0, 1, 4, [RAIL.LID_CFG_ORDER, RAIL.LID_CFG_CHIP, RAIL.LID_CFG_REPS, RAIL.LID_CFG_AMP, RAIL.LID_CFG_AUTO, RAIL.LID_CFG_DEV]⟩,
  ⟨0xA4, 1, 4, [RAIL.LID_BOUND_PM_MIN, RAIL.LID_BOUND_GM_MIN, RAIL.LID_BOUND_FC_MIN, RAIL.LID_BOUND_FC_MAX]⟩,
  ⟨0xA8, 1, 4, [RAIL.LID_TGT_FC]⟩,
  ⟨0xAC, 1, 4, [RAIL.LID_STAT_STATE, RAIL.LID_STAT_CAUSE, RAIL.LID_STAT_PROP_ID, RAIL.LID_STAT_FIT, RAIL.LID_STAT_AMP_USED]⟩,
  ⟨0xB0, 1, 4, [RAIL.LID_RES0_FC, RAIL.LID_RES0_PM, RAIL.LID_RES0_GM]⟩,
  ⟨0xB4, 1, 4, [RAIL.LID_RES1_F0, RAIL.LID_RES1_Q]⟩,
  ⟨0xB8, 1, 4, [RAIL.LID_RES2_FESR, RAIL.LID_RES2_DELAY]⟩,
  ⟨0xBC, 1, 4, [RAIL.PROP_PI_KP, RAIL.PROP_PI_KI]⟩]
def rowsRAIL1 : List RegRow := [
  ⟨0xC0, 1, 4, [RAIL.PROP_DX_KD, RAIL.PROP_DX_KEXP]⟩,
  ⟨0xC4, 1, 4, [RAIL.PROP_POLE_A1, RAIL.PROP_POLE_A2]⟩,
  ⟨0xC8, 1, 4, [RAIL.LID_AGE_SEC]⟩,
  ⟨0x100, 1, 4, [RAIL.OCP_IPK, RAIL.OCP_LEB]⟩,
  ⟨0x104, 1, 4, [RAIL.OCP_TOT_ITOT]⟩,
  ⟨0x108, 1, 4, [RAIL.NEGI_NEG, RAIL.NEGI_NEG_EN]⟩,
  ⟨0x10C, 1, 4, [RAIL.HICCUP_N, RAIL.HICCUP_OFF_T, RAIL.HICCUP_M, RAIL.HICCUP_SSHORT_EN, RAIL.HICCUP_HIC_CLS, RAIL.HICCUP_CLR]⟩,
  ⟨0x110, 1, 4, [RAIL.HIC_STAT_LCNT, RAIL.HIC_STAT_RETRY, RAIL.HIC_STAT_OFF_LEFT, RAIL.HIC_STAT_CAUSE]⟩,
  ⟨0x114, 1, 4, [RAIL.OC_CNT_LIMITED, RAIL.OC_CNT_LIM_SAT, RAIL.OC_CNT_NEG, RAIL.OC_CNT_NEG_SAT]⟩,
  ⟨0x13C, 1, 4, [RAIL.PROT_LAST_CAUSE, RAIL.PROT_LAST_PHASE, RAIL.PROT_LAST_TICK]⟩]
def rowsRAIL : List RegRow := rowsRAIL0 ++ rowsRAIL1

/-! BUSC page (R176, R498, R499, R500, R501). -/

def BUSC.STATUS_STATE : Fld := ⟨8, 0, 4, .ro, 0⟩
def BUSC.STATUS_OUTER : Fld := ⟨8, 4, 2, .ro, 0⟩
def BUSC.STATUS_ILIM_ACT : Fld := ⟨8, 6, 1, .ro, 0⟩
def BUSC.STATUS_PLIM_ACT : Fld := ⟨8, 7, 1, .ro, 0⟩
def BUSC.STATUS_NPH : Fld := ⟨8, 8, 4, .ro, 0⟩
def BUSC.STATUS_SESSION : Fld := ⟨8, 12, 1, .ro, 0⟩
def BUSC.STATUS_CS_SRC : Fld := ⟨8, 13, 1, .ro, 0⟩
def BUSC.ERR_PH_REMOVED : Fld := ⟨0xC, 0, 1, .w1c, 0⟩
def BUSC.ERR_NPH_LOW : Fld := ⟨0xC, 1, 1, .w1c, 0⟩
def BUSC.ERR_VBUS_OV_STOP : Fld := ⟨0xC, 2, 1, .w1c, 0⟩
def BUSC.ERR_CFG_BUSY : Fld := ⟨0xC, 3, 1, .w1c, 0⟩
def BUSC.ERR_MATCH_FAIL : Fld := ⟨0xC, 4, 1, .w1c, 0⟩
def BUSC.ERR_DONOR_FAULT : Fld := ⟨0xC, 5, 1, .w1c, 0⟩
def BUSC.ERR_FF_LOW : Fld := ⟨0xC, 6, 1, .w1c, 0⟩
def BUSC.ERR_CNT_SAT : Fld := ⟨0xC, 7, 1, .w1c, 0⟩
def BUSC.CTRL_EN : Fld := ⟨0x40, 0, 1, .rwh, 0⟩
def BUSC.FSW_FREQ : Fld := ⟨0x44, 0, 10, .rwl, 0xFA⟩
def BUSC.FSW_NPH : Fld := ⟨0x44, 16, 4, .rwl, 8⟩
def BUSC.FSW_NPH_MIN : Fld := ⟨0x44, 20, 4, .rwl, 4⟩
def BUSC.VNOPACK_V : Fld := ⟨0x48, 0, 12, .rwl, 0x578⟩
def BUSC.ILIM_ITOT : Fld := ⟨0x4C, 0, 8, .rwl, 0xC8⟩
def BUSC.ILIM_IPK : Fld := ⟨0x4C, 8, 9, .rwl, 0x50⟩
def BUSC.ILIM_NEG : Fld := ⟨0x4C, 24, 8, .rwl, 0x14⟩
def BUSC.PLIM_P : Fld := ⟨0x50, 0, 12, .rwl, 0xAF0⟩
def BUSC.PROT_NPH_CLS : Fld := ⟨0x54, 0, 3, .rwl, 3⟩
def BUSC.TURN_RAMP : Fld := ⟨0x58, 0, 8, .rwl, 4⟩
def BUSC.TURN_DEAD : Fld := ⟨0x58, 8, 10, .rwl, 0x64⟩
def BUSC.TURN_MATCH_T : Fld := ⟨0x58, 20, 8, .rwl, 0x14⟩
def BUSC.DONOR_SET_V : Fld := ⟨0x5C, 0, 13, .rwl, 0xAF0⟩
def BUSC.DONOR_SET_I : Fld := ⟨0x5C, 16, 12, .rwl, 0x190⟩
def BUSC.DONOR_LIM_P : Fld := ⟨0x60, 0, 11, .rwl, 0x1F4⟩
def BUSC.DONOR_LIM_FLOOR : Fld := ⟨0x60, 16, 9, .rwl, 0x104⟩
def BUSC.DONOR_LIM_TMAX : Fld := ⟨0x60, 25, 7, .rwl, 0x3C⟩
def BUSC.DONOR_CFG_HOLDUP_OK : Fld := ⟨0x64, 0, 1, .rwl, 0⟩
def BUSC.DONOR_CFG_NPH : Fld := ⟨0x64, 1, 4, .rwl, 2⟩
def BUSC.DONOR_CFG_SLEW : Fld := ⟨0x64, 8, 8, .rwl, 0xA⟩
def BUSC.DONOR_CFG_TAPER_I : Fld := ⟨0x64, 16, 8, .rwl, 4⟩
def BUSC.DONOR_CFG_TAPER_T : Fld := ⟨0x64, 24, 8, .rwl, 0xA⟩
def BUSC.DONOR_STAT_CAUSE : Fld := ⟨0x68, 0, 4, .ro, 0⟩
def BUSC.DONOR_STAT_ELAPSED : Fld := ⟨0x68, 8, 16, .ro, 0⟩
def BUSC.DONOR_E_E : Fld := ⟨0x6C, 0, 31, .ro, 0⟩
def BUSC.DONOR_E_SAT : Fld := ⟨0x6C, 31, 1, .w1c, 0⟩
def BUSC.DONOR_MON_IN : Fld := ⟨0x70, 0, 12, .ro, 0⟩
def BUSC.DONOR_MON_PN : Fld := ⟨0x70, 16, 12, .ro, 0⟩
def BUSC.MON_IBUS : Fld := ⟨0x74, 0, 12, .ro, 0⟩
def BUSC.MON_VNODE : Fld := ⟨0x74, 16, 12, .ro, 0⟩
def BUSC.PH_REM_REM : Fld := ⟨0x78, 0, 8, .w1c, 0⟩
def BUSC.FCOEF_PI_KP : Fld := ⟨0x80, 0, 16, .rwl, 0x800⟩
def BUSC.FCOEF_PI_KI : Fld := ⟨0x80, 16, 16, .rwl, 0x10⟩
def BUSC.FCOEF_DX_KD : Fld := ⟨0x84, 0, 16, .rwl, 0⟩
def BUSC.FCOEF_DX_KEXP : Fld := ⟨0x84, 16, 3, .rwl, 0⟩
def BUSC.FCOEF_POLE_A1 : Fld := ⟨0x88, 0, 16, .rwl, 0x4000⟩
def BUSC.FCOEF_POLE_A2 : Fld := ⟨0x88, 16, 16, .rwl, 0x2000⟩
def BUSC.ICOEF_PI_KP : Fld := ⟨0x8C, 0, 16, .rwl, 0⟩
def BUSC.ICOEF_PI_KI : Fld := ⟨0x8C, 16, 16, .rwl, 0⟩
def BUSC.ICOEF_DX_KD : Fld := ⟨0x90, 0, 16, .rwl, 0⟩
def BUSC.ICOEF_DX_KEXP : Fld := ⟨0x90, 16, 3, .rwl, 0⟩
def BUSC.ICOEF_POLE_A1 : Fld := ⟨0x94, 0, 16, .rwl, 0x4000⟩
def BUSC.ICOEF_POLE_A2 : Fld := ⟨0x94, 16, 16, .rwl, 0x4000⟩
def BUSC.RCOEF_PI_KP : Fld := ⟨0x98, 0, 16, .rwl, 0⟩
def BUSC.RCOEF_PI_KI : Fld := ⟨0x98, 16, 16, .rwl, 0⟩
def BUSC.RCOEF_DX_KD : Fld := ⟨0x9C, 0, 16, .rwl, 0⟩
def BUSC.RCOEF_DX_KEXP : Fld := ⟨0x9C, 16, 3, .rwl, 0⟩
def BUSC.RCOEF_POLE_A1 : Fld := ⟨0xA0, 0, 16, .rwl, 0x4000⟩
def BUSC.RCOEF_POLE_A2 : Fld := ⟨0xA0, 16, 16, .rwl, 0x4000⟩

def rowsBUSC : List RegRow := [
  ⟨0, 1, 4, [⟨0, 0, 8, .ro, 1⟩, ⟨0, 8, 8, .ro, 0⟩, ⟨0, 16, 16, .ro, 0xB05C⟩]⟩,
  ⟨4, 1, 4, [⟨4, 0, 8, .ro, 0xB1⟩]⟩,
  ⟨8, 1, 4, [BUSC.STATUS_STATE, BUSC.STATUS_OUTER, BUSC.STATUS_ILIM_ACT, BUSC.STATUS_PLIM_ACT, BUSC.STATUS_NPH, BUSC.STATUS_SESSION, BUSC.STATUS_CS_SRC]⟩,
  ⟨0xC, 1, 4, [BUSC.ERR_PH_REMOVED, BUSC.ERR_NPH_LOW, BUSC.ERR_VBUS_OV_STOP, BUSC.ERR_CFG_BUSY, BUSC.ERR_MATCH_FAIL, BUSC.ERR_DONOR_FAULT, BUSC.ERR_FF_LOW, BUSC.ERR_CNT_SAT]⟩,
  ⟨0x10, 1, 4, [⟨0x10, 0, 8, .w1s, 0⟩]⟩,
  ⟨0x14, 1, 4, [⟨0x14, 0, 8, .rw, 0⟩]⟩,
  ⟨0x18, 1, 4, [⟨0x18, 0, 8, .w1c, 0⟩, ⟨0x18, 16, 2, .w1c, 0⟩]⟩,
  ⟨0x1C, 1, 4, [⟨0x1C, 0, 8, .rw, 0⟩, ⟨0x1C, 16, 2, .rw, 0⟩]⟩,
  ⟨0x20, 1, 4, [⟨0x20, 0, 1, .rw, 0⟩, ⟨0x20, 4, 4, .rw, 0⟩]⟩,
  ⟨0x24, 1, 4, [⟨0x24, 0, 4, .rw, 0xF⟩]⟩,
  ⟨0x40, 1, 4, [BUSC.CTRL_EN]⟩,
  ⟨0x44, 1, 4, [BUSC.FSW_FREQ, BUSC.FSW_NPH, BUSC.FSW_NPH_MIN]⟩,
  ⟨0x48, 1, 4, [BUSC.VNOPACK_V]⟩,
  ⟨0x4C, 1, 4, [BUSC.ILIM_ITOT, BUSC.ILIM_IPK, BUSC.ILIM_NEG]⟩,
  ⟨0x50, 1, 4, [BUSC.PLIM_P]⟩,
  ⟨0x54, 1, 4, [BUSC.PROT_NPH_CLS]⟩,
  ⟨0x58, 1, 4, [BUSC.TURN_RAMP, BUSC.TURN_DEAD, BUSC.TURN_MATCH_T]⟩,
  ⟨0x5C, 1, 4, [BUSC.DONOR_SET_V, BUSC.DONOR_SET_I]⟩,
  ⟨0x60, 1, 4, [BUSC.DONOR_LIM_P, BUSC.DONOR_LIM_FLOOR, BUSC.DONOR_LIM_TMAX]⟩,
  ⟨0x64, 1, 4, [BUSC.DONOR_CFG_HOLDUP_OK, BUSC.DONOR_CFG_NPH, BUSC.DONOR_CFG_SLEW, BUSC.DONOR_CFG_TAPER_I, BUSC.DONOR_CFG_TAPER_T]⟩,
  ⟨0x68, 1, 4, [BUSC.DONOR_STAT_CAUSE, BUSC.DONOR_STAT_ELAPSED]⟩,
  ⟨0x6C, 1, 4, [BUSC.DONOR_E_E, BUSC.DONOR_E_SAT]⟩,
  ⟨0x70, 1, 4, [BUSC.DONOR_MON_IN, BUSC.DONOR_MON_PN]⟩,
  ⟨0x74, 1, 4, [BUSC.MON_IBUS, BUSC.MON_VNODE]⟩,
  ⟨0x78, 1, 4, [BUSC.PH_REM_REM]⟩,
  ⟨0x80, 1, 4, [BUSC.FCOEF_PI_KP, BUSC.FCOEF_PI_KI]⟩,
  ⟨0x84, 1, 4, [BUSC.FCOEF_DX_KD, BUSC.FCOEF_DX_KEXP]⟩,
  ⟨0x88, 1, 4, [BUSC.FCOEF_POLE_A1, BUSC.FCOEF_POLE_A2]⟩,
  ⟨0x8C, 1, 4, [BUSC.ICOEF_PI_KP, BUSC.ICOEF_PI_KI]⟩,
  ⟨0x90, 1, 4, [BUSC.ICOEF_DX_KD, BUSC.ICOEF_DX_KEXP]⟩,
  ⟨0x94, 1, 4, [BUSC.ICOEF_POLE_A1, BUSC.ICOEF_POLE_A2]⟩,
  ⟨0x98, 1, 4, [BUSC.RCOEF_PI_KP, BUSC.RCOEF_PI_KI]⟩,
  ⟨0x9C, 1, 4, [BUSC.RCOEF_DX_KD, BUSC.RCOEF_DX_KEXP]⟩,
  ⟨0xA0, 1, 4, [BUSC.RCOEF_POLE_A1, BUSC.RCOEF_POLE_A2]⟩]

/-! CHG page (R200, R498, R499, R500, R501). -/

def CHG.STATUS_STATE : Fld := ⟨8, 0, 4, .ro, 0⟩
def CHG.STATUS_CV_ACT : Fld := ⟨8, 4, 1, .ro, 0⟩
def CHG.STATUS_LOADLIM : Fld := ⟨8, 5, 1, .ro, 0⟩
def CHG.STATUS_THERM : Fld := ⟨8, 6, 1, .ro, 0⟩
def CHG.STATUS_HALF : Fld := ⟨8, 7, 1, .ro, 0⟩
def CHG.STATUS_SUSP : Fld := ⟨8, 8, 5, .ro, 0⟩
def CHG.STATUS_CAUSE : Fld := ⟨8, 16, 4, .ro, 1⟩
def CHG.STATUS_PRIOR : Fld := ⟨8, 20, 4, .ro, 0⟩
def CHG.ERR_ABSENT : Fld := ⟨0xC, 0, 1, .w1c, 0⟩
def CHG.ERR_TIMEOUT : Fld := ⟨0xC, 1, 1, .w1c, 0⟩
def CHG.ERR_PACK_OV : Fld := ⟨0xC, 2, 1, .w1c, 0⟩
def CHG.ERR_NTC_FAULT : Fld := ⟨0xC, 3, 1, .w1c, 0⟩
def CHG.ERR_CFG_RANGE : Fld := ⟨0xC, 4, 1, .w1c, 0⟩
def CHG.ERR_CFG_BUSY : Fld := ⟨0xC, 5, 1, .w1c, 0⟩
def CHG.ERR_CNT_SAT : Fld := ⟨0xC, 6, 1, .w1c, 0⟩
def CHG.CFG_EN : Fld := ⟨0x40, 0, 1, .rwl, 0⟩
def CHG.CFG_CHEM : Fld := ⟨0x40, 1, 1, .rwl, 0⟩
def CHG.CFG_CELLS : Fld := ⟨0x40, 2, 3, .rwl, 4⟩
def CHG.CFG_NTC_EN : Fld := ⟨0x40, 5, 1, .rwl, 1⟩
def CHG.CFG_REST_EN : Fld := ⟨0x40, 6, 1, .rwl, 0⟩
def CHG.CFG_AUTO_RCHG : Fld := ⟨0x40, 7, 1, .rwl, 1⟩
def CHG.CFG_CVK : Fld := ⟨0x40, 8, 8, .rwl, 0x14⟩
def CHG.CFG_RSH : Fld := ⟨0x40, 16, 8, .rwl, 0x32⟩
def CHG.VCHG_VCV : Fld := ⟨0x44, 0, 13, .rwl, 0x1068⟩
def CHG.VCHG_VPRE : Fld := ⟨0x44, 16, 13, .rwl, 0xBB8⟩
def CHG.ICHG_SET : Fld := ⟨0x48, 0, 9, .rwl, 0x14⟩
def CHG.ICHG_IPRE : Fld := ⟨0x48, 16, 6, .rwl, 5⟩
def CHG.ICHG_ITERM : Fld := ⟨0x48, 24, 2, .rwl, 1⟩
def CHG.CYCLE_SAFE_T : Fld := ⟨0x4C, 0, 5, .rwl, 8⟩
def CHG.CYCLE_PRE_T : Fld := ⟨0x4C, 8, 7, .rwl, 0x1E⟩
def CHG.CYCLE_TOPOFF : Fld := ⟨0x4C, 16, 6, .rwl, 0xA⟩
def CHG.CYCLE_RCHG : Fld := ⟨0x4C, 24, 5, .rwl, 0xA⟩
def CHG.REST_DUR : Fld := ⟨0x50, 0, 6, .rwl, 0xA⟩
def CHG.REST_INT : Fld := ⟨0x50, 8, 6, .rwl, 0x1E⟩
def CHG.NTC_ZONE_TCOLD : Fld := ⟨0x54, 0, 8, .rwl, 0⟩
def CHG.NTC_ZONE_TCOOL : Fld := ⟨0x54, 8, 8, .rwl, 0xA⟩
def CHG.NTC_ZONE_TWARM : Fld := ⟨0x54, 16, 8, .rwl, 0x2D⟩
def CHG.NTC_ZONE_THOT : Fld := ⟨0x54, 24, 8, .rwl, 0x37⟩
def CHG.NTC_CFG_BETA : Fld := ⟨0x58, 0, 12, .rwl, 0xD6B⟩
def CHG.NTC_CFG_HYS : Fld := ⟨0x58, 12, 4, .rwl, 4⟩
def CHG.NTC_CFG_COOL_F : Fld := ⟨0x58, 16, 2, .rwl, 1⟩
def CHG.NTC_CFG_WARM_F : Fld := ⟨0x58, 18, 2, .rwl, 1⟩
def CHG.NTC_CFG_WARM_DV : Fld := ⟨0x58, 20, 4, .rwl, 4⟩
def CHG.ABS_IDET : Fld := ⟨0x5C, 0, 8, .rwl, 0x14⟩
def CHG.ABS_DVDT : Fld := ⟨0x5C, 8, 8, .rwl, 0x32⟩
def CHG.ABS_PROBE_T : Fld := ⟨0x5C, 16, 8, .rwl, 0xA⟩
def CHG.ABS_PROBE_DV : Fld := ⟨0x5C, 24, 4, .rwl, 3⟩
def CHG.LAMP_CHST0 : Fld := ⟨0x60, 0, 16, .rw, 0x2160⟩
def CHG.LAMP_CHST1 : Fld := ⟨0x60, 16, 16, .rw, 0xC008⟩
def CHG.TLIM_CEIL : Fld := ⟨0x64, 0, 9, .rwh, 0x190⟩
def CHG.MON_IPACK : Fld := ⟨0x68, 0, 16, .ro, 0⟩
def CHG.MON_VCELL : Fld := ⟨0x68, 16, 13, .ro, 0⟩
def CHG.TEMP_TPACK : Fld := ⟨0x6C, 0, 12, .ro, 0⟩
def CHG.TEMP_ZONE : Fld := ⟨0x6C, 12, 3, .ro, 2⟩
def CHG.TEMP_NTC_ST : Fld := ⟨0x6C, 16, 2, .ro, 3⟩
def CHG.TIMER_ELAPSED : Fld := ⟨0x70, 0, 17, .ro, 0⟩
def CHG.TIMER_PHASE : Fld := ⟨0x70, 17, 13, .ro, 0⟩
def CHG.OCV_VCELL : Fld := ⟨0x74, 0, 13, .ro, 0⟩
def CHG.OCV_AGE : Fld := ⟨0x74, 16, 16, .ro, 0xFFFF⟩
def CHG.LL_COUNT : Fld := ⟨0x78, 0, 15, .ro, 0⟩
def CHG.LL_COUNT_SAT : Fld := ⟨0x78, 15, 1, .w1c, 0⟩
def CHG.LL_SECS : Fld := ⟨0x78, 16, 15, .ro, 0⟩
def CHG.LL_SECS_SAT : Fld := ⟨0x78, 31, 1, .w1c, 0⟩
def CHG.CYC_CYCLES : Fld := ⟨0x7C, 0, 15, .ro, 0⟩
def CHG.CYC_CYC_SAT : Fld := ⟨0x7C, 15, 1, .w1c, 0⟩
def CHG.CYC_RECHARGES : Fld := ⟨0x7C, 16, 15, .ro, 0⟩
def CHG.CYC_RCH_SAT : Fld := ⟨0x7C, 31, 1, .w1c, 0⟩

def rowsCHG : List RegRow := [
  ⟨0, 1, 4, [⟨0, 0, 8, .ro, 1⟩, ⟨0, 8, 8, .ro, 0⟩, ⟨0, 16, 16, .ro, 0xC4A6⟩]⟩,
  ⟨4, 1, 4, [⟨4, 0, 8, .ro, 0xB1⟩]⟩,
  ⟨8, 1, 4, [CHG.STATUS_STATE, CHG.STATUS_CV_ACT, CHG.STATUS_LOADLIM, CHG.STATUS_THERM, CHG.STATUS_HALF, CHG.STATUS_SUSP, CHG.STATUS_CAUSE, CHG.STATUS_PRIOR]⟩,
  ⟨0xC, 1, 4, [CHG.ERR_ABSENT, CHG.ERR_TIMEOUT, CHG.ERR_PACK_OV, CHG.ERR_NTC_FAULT, CHG.ERR_CFG_RANGE, CHG.ERR_CFG_BUSY, CHG.ERR_CNT_SAT]⟩,
  ⟨0x10, 1, 4, [⟨0x10, 0, 7, .w1s, 0⟩]⟩,
  ⟨0x14, 1, 4, [⟨0x14, 0, 7, .rw, 0⟩]⟩,
  ⟨0x18, 1, 4, [⟨0x18, 0, 7, .w1c, 0⟩, ⟨0x18, 16, 3, .w1c, 0⟩]⟩,
  ⟨0x1C, 1, 4, [⟨0x1C, 0, 7, .rw, 0⟩, ⟨0x1C, 16, 3, .rw, 0⟩]⟩,
  ⟨0x20, 1, 4, [⟨0x20, 0, 1, .rw, 0⟩, ⟨0x20, 4, 4, .rw, 0⟩]⟩,
  ⟨0x24, 1, 4, [⟨0x24, 0, 4, .rw, 0xF⟩]⟩,
  ⟨0x40, 1, 4, [CHG.CFG_EN, CHG.CFG_CHEM, CHG.CFG_CELLS, CHG.CFG_NTC_EN, CHG.CFG_REST_EN, CHG.CFG_AUTO_RCHG, CHG.CFG_CVK, CHG.CFG_RSH]⟩,
  ⟨0x44, 1, 4, [CHG.VCHG_VCV, CHG.VCHG_VPRE]⟩,
  ⟨0x48, 1, 4, [CHG.ICHG_SET, CHG.ICHG_IPRE, CHG.ICHG_ITERM]⟩,
  ⟨0x4C, 1, 4, [CHG.CYCLE_SAFE_T, CHG.CYCLE_PRE_T, CHG.CYCLE_TOPOFF, CHG.CYCLE_RCHG]⟩,
  ⟨0x50, 1, 4, [CHG.REST_DUR, CHG.REST_INT]⟩,
  ⟨0x54, 1, 4, [CHG.NTC_ZONE_TCOLD, CHG.NTC_ZONE_TCOOL, CHG.NTC_ZONE_TWARM, CHG.NTC_ZONE_THOT]⟩,
  ⟨0x58, 1, 4, [CHG.NTC_CFG_BETA, CHG.NTC_CFG_HYS, CHG.NTC_CFG_COOL_F, CHG.NTC_CFG_WARM_F, CHG.NTC_CFG_WARM_DV]⟩,
  ⟨0x5C, 1, 4, [CHG.ABS_IDET, CHG.ABS_DVDT, CHG.ABS_PROBE_T, CHG.ABS_PROBE_DV]⟩,
  ⟨0x60, 1, 4, [CHG.LAMP_CHST0, CHG.LAMP_CHST1]⟩,
  ⟨0x64, 1, 4, [CHG.TLIM_CEIL]⟩,
  ⟨0x68, 1, 4, [CHG.MON_IPACK, CHG.MON_VCELL]⟩,
  ⟨0x6C, 1, 4, [CHG.TEMP_TPACK, CHG.TEMP_ZONE, CHG.TEMP_NTC_ST]⟩,
  ⟨0x70, 1, 4, [CHG.TIMER_ELAPSED, CHG.TIMER_PHASE]⟩,
  ⟨0x74, 1, 4, [CHG.OCV_VCELL, CHG.OCV_AGE]⟩,
  ⟨0x78, 1, 4, [CHG.LL_COUNT, CHG.LL_COUNT_SAT, CHG.LL_SECS, CHG.LL_SECS_SAT]⟩,
  ⟨0x7C, 1, 4, [CHG.CYC_CYCLES, CHG.CYC_CYC_SAT, CHG.CYC_RECHARGES, CHG.CYC_RCH_SAT]⟩]

/-! PORT page (R177, R498, R499, R500, R501). -/

def PORT.STATUS_A_ST : Fld := ⟨8, 0, 3, .ro, 0⟩
def PORT.STATUS_B_ST : Fld := ⟨8, 4, 3, .ro, 0⟩
def PORT.STATUS_N_ST : Fld := ⟨8, 8, 3, .ro, 7⟩
def PORT.STATUS_FEEDS_LOST : Fld := ⟨8, 12, 1, .ro, 0⟩
def PORT.ERR_A_LOST : Fld := ⟨0xC, 0, 1, .w1c, 0⟩
def PORT.ERR_B_LOST : Fld := ⟨0xC, 1, 1, .w1c, 0⟩
def PORT.ERR_BOTH_LOST : Fld := ⟨0xC, 2, 1, .w1c, 0⟩
def PORT.ERR_A_REV : Fld := ⟨0xC, 3, 1, .w1c, 0⟩
def PORT.ERR_B_REV : Fld := ⟨0xC, 4, 1, .w1c, 0⟩
def PORT.ERR_N_REV : Fld := ⟨0xC, 5, 1, .w1c, 0⟩
def PORT.ERR_BLOCK_REFUSED : Fld := ⟨0xC, 6, 1, .w1c, 0⟩
def PORT.P_CFG_EN : Fld := ⟨0, 0, 1, .rwl, 1⟩
def PORT.P_CFG_BLOCK : Fld := ⟨0, 1, 1, .rw, 0⟩
def PORT.P_CFG_FWD_MV : Fld := ⟨0, 8, 8, .rwl, 0x19⟩
def PORT.P_CFG_REV_MV : Fld := ⟨0, 16, 8, .rwl, 0xA⟩
def PORT.P_CFG_SOFT : Fld := ⟨0, 24, 8, .rwl, 0x32⟩
def PORT.P_THR_PRES : Fld := ⟨4, 0, 10, .rwl, 0x2D0⟩
def PORT.P_THR_LOSS : Fld := ⟨4, 16, 10, .rwl, 0x280⟩
def PORT.P_TIME_CONFIRM : Fld := ⟨8, 0, 10, .rwl, 0x32⟩
def PORT.P_TIME_RETURN : Fld := ⟨8, 16, 10, .rwl, 0x14⟩
def PORT.P_MON_V : Fld := ⟨0xC, 0, 12, .ro, 0⟩
def PORT.P_MON_VDS : Fld := ⟨0xC, 16, 12, .ro, 0⟩
def PORT.NCFG_EN : Fld := ⟨0x60, 0, 1, .rwl, 0⟩
def PORT.NCFG_RDS : Fld := ⟨0x60, 8, 8, .rwl, 0x14⟩
def PORT.NCFG_REV_MV : Fld := ⟨0x60, 16, 8, .rwl, 0xA⟩
def PORT.NCFG_SOFT : Fld := ⟨0x60, 24, 8, .rwl, 0xA⟩
def PORT.NMATCH_WIN : Fld := ⟨0x64, 0, 8, .rwl, 0x32⟩
def PORT.NMON_V : Fld := ⟨0x6C, 0, 12, .ro, 0⟩
def PORT.NMON_VDS : Fld := ⟨0x6C, 16, 12, .ro, 0⟩
def PORT.CLS_LOSS : Fld := ⟨0x70, 0, 2, .rwl, 1⟩
def PORT.CLS_REV : Fld := ⟨0x70, 2, 2, .rwl, 0⟩

def rowsPORT : List RegRow := [
  ⟨0, 1, 4, [⟨0, 0, 8, .ro, 1⟩, ⟨0, 8, 8, .ro, 0⟩, ⟨0, 16, 16, .ro, 0x907E⟩]⟩,
  ⟨4, 1, 4, [⟨4, 0, 8, .ro, 0xB1⟩]⟩,
  ⟨8, 1, 4, [PORT.STATUS_A_ST, PORT.STATUS_B_ST, PORT.STATUS_N_ST, PORT.STATUS_FEEDS_LOST]⟩,
  ⟨0xC, 1, 4, [PORT.ERR_A_LOST, PORT.ERR_B_LOST, PORT.ERR_BOTH_LOST, PORT.ERR_A_REV, PORT.ERR_B_REV, PORT.ERR_N_REV, PORT.ERR_BLOCK_REFUSED]⟩,
  ⟨0x10, 1, 4, [⟨0x10, 0, 7, .w1s, 0⟩]⟩,
  ⟨0x14, 1, 4, [⟨0x14, 0, 7, .rw, 0⟩]⟩,
  ⟨0x18, 1, 4, [⟨0x18, 0, 7, .w1c, 0⟩]⟩,
  ⟨0x1C, 1, 4, [⟨0x1C, 0, 7, .rw, 0⟩]⟩,
  ⟨0x20, 1, 4, [⟨0x20, 0, 1, .rw, 0⟩, ⟨0x20, 4, 4, .rw, 0⟩]⟩,
  ⟨0x24, 1, 4, [⟨0x24, 0, 4, .rw, 0xF⟩]⟩,
  ⟨0x40, 2, 0x10, [PORT.P_CFG_EN, PORT.P_CFG_BLOCK, PORT.P_CFG_FWD_MV, PORT.P_CFG_REV_MV, PORT.P_CFG_SOFT]⟩,
  ⟨0x44, 2, 0x10, [PORT.P_THR_PRES, PORT.P_THR_LOSS]⟩,
  ⟨0x48, 2, 0x10, [PORT.P_TIME_CONFIRM, PORT.P_TIME_RETURN]⟩,
  ⟨0x4C, 2, 0x10, [PORT.P_MON_V, PORT.P_MON_VDS]⟩,
  ⟨0x60, 1, 4, [PORT.NCFG_EN, PORT.NCFG_RDS, PORT.NCFG_REV_MV, PORT.NCFG_SOFT]⟩,
  ⟨0x64, 1, 4, [PORT.NMATCH_WIN]⟩,
  ⟨0x6C, 1, 4, [PORT.NMON_V, PORT.NMON_VDS]⟩,
  ⟨0x70, 1, 4, [PORT.CLS_LOSS, PORT.CLS_REV]⟩]

/-! BUCK page (R216, R498, R499, R500, R501). -/

def BUCK.STATUS_ON : Fld := ⟨8, 0, 8, .ro, 0⟩
def BUCK.ERR_OC_LIMIT : Fld := ⟨0xC, 0, 1, .w1c, 0⟩
def BUCK.ERR_HICCUP : Fld := ⟨0xC, 1, 1, .w1c, 0⟩
def BUCK.ERR_START_SHORT : Fld := ⟨0xC, 2, 1, .w1c, 0⟩
def BUCK.ERR_LATCH_OFF : Fld := ⟨0xC, 3, 1, .w1c, 0⟩
def BUCK.ERR_OV_REACT : Fld := ⟨0xC, 4, 1, .w1c, 0⟩
def BUCK.ERR_CFG_BUSY : Fld := ⟨0xC, 5, 1, .w1c, 0⟩
def BUCK.ERR_VSET_RANGE : Fld := ⟨0xC, 6, 1, .w1c, 0⟩
def BUCK.ERR_SKIP : Fld := ⟨0xC, 7, 1, .w1c, 0⟩
def BUCK.BK_CTRL_EN : Fld := ⟨0, 0, 1, .rwh, 0⟩
def BUCK.BK_CTRL_PAR : Fld := ⟨0, 1, 1, .rwl, 0⟩
def BUCK.BK_CTRL_COMP : Fld := ⟨0, 4, 3, .rwl, 3⟩
def BUCK.BK_VSET_CODE : Fld := ⟨4, 0, 11, .rw, 0⟩
def BUCK.BK_VLIM_VMIN : Fld := ⟨8, 0, 11, .rwl, 0⟩
def BUCK.BK_VLIM_VMAX : Fld := ⟨8, 16, 11, .rwl, 0⟩
def BUCK.BK_SS_TIME : Fld := ⟨0xC, 0, 8, .rwl, 0xA⟩
def BUCK.BK_SS_SLEW : Fld := ⟨0xC, 8, 8, .rwl, 0x14⟩
def BUCK.BK_ILIM_IPK : Fld := ⟨0x10, 0, 6, .rwl, 0x28⟩
def BUCK.BK_ILIM_NEG : Fld := ⟨0x10, 8, 6, .rwl, 0xF⟩
def BUCK.BK_ILIM_CEIL : Fld := ⟨0x10, 16, 6, .rwh, 0x2D⟩
def BUCK.BK_HICCUP_N : Fld := ⟨0x14, 0, 8, .rwl, 0x20⟩
def BUCK.BK_HICCUP_OFF_T : Fld := ⟨0x14, 8, 6, .rwl, 0xA⟩
def BUCK.BK_HICCUP_M : Fld := ⟨0x14, 14, 4, .rwl, 3⟩
def BUCK.BK_HICCUP_SSHORT_EN : Fld := ⟨0x14, 18, 1, .rwl, 1⟩
def BUCK.BK_HICCUP_HIC_CLS : Fld := ⟨0x14, 19, 1, .rwl, 0⟩
def BUCK.BK_HICCUP_CLR : Fld := ⟨0x14, 20, 8, .rwl, 0xA⟩
def BUCK.BK_STAT_STATE : Fld := ⟨0x18, 0, 3, .ro, 0⟩
def BUCK.BK_STAT_SS_DONE : Fld := ⟨0x18, 3, 1, .ro, 0⟩
def BUCK.BK_STAT_SLEWING : Fld := ⟨0x18, 4, 1, .ro, 0⟩
def BUCK.BK_STAT_SKIPPING : Fld := ⟨0x18, 5, 1, .ro, 0⟩
def BUCK.BK_STAT_LCNT : Fld := ⟨0x18, 6, 8, .ro, 0⟩
def BUCK.BK_STAT_RETRY : Fld := ⟨0x18, 14, 4, .ro, 0⟩
def BUCK.BK_STAT_OFF_LEFT : Fld := ⟨0x18, 18, 6, .ro, 0⟩
def BUCK.BK_STAT_CAUSE : Fld := ⟨0x18, 24, 4, .ro, 0⟩
def BUCK.BK_MON_IOUT : Fld := ⟨0x1C, 0, 12, .ro, 0⟩
def BUCK.BK_MON_DUTY : Fld := ⟨0x1C, 16, 12, .ro, 0⟩
def BUCK.CLK_SSC : Fld := ⟨0x140, 0, 2, .rwl, 0⟩
def BUCK.CLK_STAGGER : Fld := ⟨0x140, 2, 1, .rwl, 1⟩

def rowsBUCK : List RegRow := [
  ⟨0, 1, 4, [⟨0, 0, 8, .ro, 1⟩, ⟨0, 8, 8, .ro, 0⟩, ⟨0, 16, 16, .ro, 0xB0CC⟩]⟩,
  ⟨4, 1, 4, [⟨4, 0, 8, .ro, 0xB1⟩]⟩,
  ⟨8, 1, 4, [BUCK.STATUS_ON]⟩,
  ⟨0xC, 1, 4, [BUCK.ERR_OC_LIMIT, BUCK.ERR_HICCUP, BUCK.ERR_START_SHORT, BUCK.ERR_LATCH_OFF, BUCK.ERR_OV_REACT, BUCK.ERR_CFG_BUSY, BUCK.ERR_VSET_RANGE, BUCK.ERR_SKIP]⟩,
  ⟨0x10, 1, 4, [⟨0x10, 0, 8, .w1s, 0⟩]⟩,
  ⟨0x14, 1, 4, [⟨0x14, 0, 8, .rw, 0⟩]⟩,
  ⟨0x18, 1, 4, [⟨0x18, 0, 8, .w1c, 0⟩]⟩,
  ⟨0x1C, 1, 4, [⟨0x1C, 0, 8, .rw, 0⟩]⟩,
  ⟨0x20, 1, 4, [⟨0x20, 0, 1, .rw, 0⟩, ⟨0x20, 4, 4, .rw, 0⟩]⟩,
  ⟨0x24, 1, 4, [⟨0x24, 0, 4, .rw, 0xF⟩]⟩,
  ⟨0x40, 8, 0x20, [BUCK.BK_CTRL_EN, BUCK.BK_CTRL_PAR, BUCK.BK_CTRL_COMP]⟩,
  ⟨0x44, 8, 0x20, [BUCK.BK_VSET_CODE]⟩,
  ⟨0x48, 8, 0x20, [BUCK.BK_VLIM_VMIN, BUCK.BK_VLIM_VMAX]⟩,
  ⟨0x4C, 8, 0x20, [BUCK.BK_SS_TIME, BUCK.BK_SS_SLEW]⟩,
  ⟨0x50, 8, 0x20, [BUCK.BK_ILIM_IPK, BUCK.BK_ILIM_NEG, BUCK.BK_ILIM_CEIL]⟩,
  ⟨0x54, 8, 0x20, [BUCK.BK_HICCUP_N, BUCK.BK_HICCUP_OFF_T, BUCK.BK_HICCUP_M, BUCK.BK_HICCUP_SSHORT_EN, BUCK.BK_HICCUP_HIC_CLS, BUCK.BK_HICCUP_CLR]⟩,
  ⟨0x58, 8, 0x20, [BUCK.BK_STAT_STATE, BUCK.BK_STAT_SS_DONE, BUCK.BK_STAT_SLEWING, BUCK.BK_STAT_SKIPPING, BUCK.BK_STAT_LCNT, BUCK.BK_STAT_RETRY, BUCK.BK_STAT_OFF_LEFT, BUCK.BK_STAT_CAUSE]⟩,
  ⟨0x5C, 8, 0x20, [BUCK.BK_MON_IOUT, BUCK.BK_MON_DUTY]⟩,
  ⟨0x140, 1, 4, [BUCK.CLK_SSC, BUCK.CLK_STAGGER]⟩]

/-! LDO page (R217, R498, R499, R500, R501). -/

def LDO.STATUS_LDO_ON : Fld := ⟨8, 0, 10, .ro, 0⟩
def LDO.STATUS_LS_ON : Fld := ⟨8, 16, 8, .ro, 0⟩
def LDO.ERR_OC_OFF : Fld := ⟨0xC, 0, 1, .w1c, 0⟩
def LDO.ERR_OV_REACT : Fld := ⟨0xC, 1, 1, .w1c, 0⟩
def LDO.ERR_FAST_TRIP : Fld := ⟨0xC, 2, 1, .w1c, 0⟩
def LDO.ERR_REV : Fld := ⟨0xC, 3, 1, .w1c, 0⟩
def LDO.ERR_KA_TRIP : Fld := ⟨0xC, 4, 1, .w1c, 0⟩
def LDO.ERR_VSET_RANGE : Fld := ⟨0xC, 5, 1, .w1c, 0⟩
def LDO.LDO_CTRL_EN : Fld := ⟨0, 0, 1, .rwh, 0⟩
def LDO.LDO_CTRL_SS_T : Fld := ⟨0, 8, 8, .rwl, 0x14⟩
def LDO.LDO_VSET_CODE : Fld := ⟨4, 0, 10, .rw, 0⟩
def LDO.LDO_VSET_VMAX : Fld := ⟨4, 16, 10, .rwl, 0⟩
def LDO.LDO_ILIM_ILIM : Fld := ⟨8, 0, 7, .rwl, 0x46⟩
def LDO.LDO_ILIM_LIM_T : Fld := ⟨8, 8, 8, .rwl, 0x32⟩
def LDO.LDO_ILIM_OC_CLS : Fld := ⟨8, 16, 2, .rwl, 2⟩
def LDO.LDO_STAT_STATE : Fld := ⟨0xC, 0, 2, .ro, 0⟩
def LDO.LDO_STAT_SS_DONE : Fld := ⟨0xC, 2, 1, .ro, 0⟩
def LDO.LDO_STAT_LIMITING : Fld := ⟨0xC, 3, 1, .ro, 0⟩
def LDO.LDO_STAT_DROPOUT : Fld := ⟨0xC, 4, 1, .ro, 0⟩
def LDO.LDO_STAT_KA : Fld := ⟨0xC, 5, 1, .ro, 0⟩
def LDO.LDO_STAT_IOUT : Fld := ⟨0xC, 16, 12, .ro, 0⟩
def LDO.LS_CTRL_EN : Fld := ⟨0, 0, 1, .rwh, 0⟩
def LDO.LS_CTRL_REV_EN : Fld := ⟨0, 1, 1, .rwl, 1⟩
def LDO.LS_CTRL_SLEW : Fld := ⟨0, 8, 8, .rwl, 0xA⟩
def LDO.LS_ILIM_ILIM : Fld := ⟨4, 0, 5, .rwl, 0x19⟩
def LDO.LS_ILIM_FLT_T : Fld := ⟨4, 8, 8, .rwl, 0xA⟩
def LDO.LS_ILIM_OC_CLS : Fld := ⟨4, 16, 2, .rwl, 2⟩
def LDO.LS_STAT_STATE : Fld := ⟨8, 0, 3, .ro, 0⟩
def LDO.LS_STAT_LIMITING : Fld := ⟨8, 3, 1, .ro, 0⟩
def LDO.LS_STAT_REV_BLOCK : Fld := ⟨8, 4, 1, .ro, 0⟩
def LDO.LS_STAT_IOUT : Fld := ⟨8, 16, 12, .ro, 0⟩
def LDO.KA_CFG_EN : Fld := ⟨0x160, 0, 1, .rwl, 0⟩
def LDO.KA_CFG_HR : Fld := ⟨0x160, 8, 8, .rwl, 0x19⟩

def rowsLDO : List RegRow := [
  ⟨0, 1, 4, [⟨0, 0, 8, .ro, 1⟩, ⟨0, 8, 8, .ro, 0⟩, ⟨0, 16, 16, .ro, 0x1D0A⟩]⟩,
  ⟨4, 1, 4, [⟨4, 0, 8, .ro, 0xB1⟩]⟩,
  ⟨8, 1, 4, [LDO.STATUS_LDO_ON, LDO.STATUS_LS_ON]⟩,
  ⟨0xC, 1, 4, [LDO.ERR_OC_OFF, LDO.ERR_OV_REACT, LDO.ERR_FAST_TRIP, LDO.ERR_REV, LDO.ERR_KA_TRIP, LDO.ERR_VSET_RANGE]⟩,
  ⟨0x10, 1, 4, [⟨0x10, 0, 6, .w1s, 0⟩]⟩,
  ⟨0x14, 1, 4, [⟨0x14, 0, 6, .rw, 0⟩]⟩,
  ⟨0x18, 1, 4, [⟨0x18, 0, 6, .w1c, 0⟩]⟩,
  ⟨0x1C, 1, 4, [⟨0x1C, 0, 6, .rw, 0⟩]⟩,
  ⟨0x20, 1, 4, [⟨0x20, 0, 1, .rw, 0⟩, ⟨0x20, 4, 4, .rw, 0⟩]⟩,
  ⟨0x24, 1, 4, [⟨0x24, 0, 4, .rw, 0xF⟩]⟩,
  ⟨0x40, 10, 0x10, [LDO.LDO_CTRL_EN, LDO.LDO_CTRL_SS_T]⟩,
  ⟨0x44, 10, 0x10, [LDO.LDO_VSET_CODE, LDO.LDO_VSET_VMAX]⟩,
  ⟨0x48, 10, 0x10, [LDO.LDO_ILIM_ILIM, LDO.LDO_ILIM_LIM_T, LDO.LDO_ILIM_OC_CLS]⟩,
  ⟨0x4C, 10, 0x10, [LDO.LDO_STAT_STATE, LDO.LDO_STAT_SS_DONE, LDO.LDO_STAT_LIMITING, LDO.LDO_STAT_DROPOUT, LDO.LDO_STAT_KA, LDO.LDO_STAT_IOUT]⟩,
  ⟨0xE0, 8, 0x10, [LDO.LS_CTRL_EN, LDO.LS_CTRL_REV_EN, LDO.LS_CTRL_SLEW]⟩,
  ⟨0xE4, 8, 0x10, [LDO.LS_ILIM_ILIM, LDO.LS_ILIM_FLT_T, LDO.LS_ILIM_OC_CLS]⟩,
  ⟨0xE8, 8, 0x10, [LDO.LS_STAT_STATE, LDO.LS_STAT_LIMITING, LDO.LS_STAT_REV_BLOCK, LDO.LS_STAT_IOUT]⟩,
  ⟨0x160, 1, 4, [LDO.KA_CFG_EN, LDO.KA_CFG_HR]⟩]

/-! SUPV page (R158, R498, R499, R500, R501). -/

def SUPV.STATUS_ALL_PG : Fld := ⟨8, 0, 1, .ro, 0⟩
def SUPV.STATUS_ANY_OV : Fld := ⟨8, 1, 1, .ro, 0⟩
def SUPV.STATUS_ANY_UV : Fld := ⟨8, 2, 1, .ro, 0⟩
def SUPV.STATUS_INSUP_BAD : Fld := ⟨8, 3, 1, .ro, 0⟩
def SUPV.ERR_OV : Fld := ⟨0xC, 0, 1, .w1c, 0⟩
def SUPV.ERR_UV : Fld := ⟨0xC, 1, 1, .w1c, 0⟩
def SUPV.ERR_VBUS_OV : Fld := ⟨0xC, 2, 1, .w1c, 0⟩
def SUPV.ERR_VBUS_UV : Fld := ⟨0xC, 3, 1, .w1c, 0⟩
def SUPV.ERR_PORT_OV : Fld := ⟨0xC, 4, 1, .w1c, 0⟩
def SUPV.ERR_VBAK_WEAK : Fld := ⟨0xC, 5, 1, .w1c, 0⟩
def SUPV.ERR_INSUP : Fld := ⟨0xC, 6, 1, .w1c, 0⟩
def SUPV.OUT_WIN_OV : Fld := ⟨0, 0, 7, .rwl, 0x28⟩
def SUPV.OUT_WIN_UV : Fld := ⟨0, 8, 7, .rwl, 0x28⟩
def SUPV.OUT_WIN_OV_ABS : Fld := ⟨0, 16, 10, .rwl, 0x3FF⟩
def SUPV.OUT_WIN_HYS : Fld := ⟨0, 26, 2, .rwl, 1⟩
def SUPV.OUT_CFG_OVF : Fld := ⟨4, 0, 4, .rwl, 2⟩
def SUPV.OUT_CFG_UVF : Fld := ⟨4, 4, 8, .rwl, 0xA⟩
def SUPV.OUT_CFG_PGD : Fld := ⟨4, 12, 8, .rwl, 0xA⟩
def SUPV.OUT_CFG_CLS_OV : Fld := ⟨4, 20, 3, .rwl, 2⟩
def SUPV.OUT_CFG_CLS_UV : Fld := ⟨4, 23, 3, .rwl, 1⟩
def SUPV.OUT_CFG_GROUP : Fld := ⟨4, 26, 3, .rwl, 0⟩
def SUPV.OUT_CFG_SAFE_DIS : Fld := ⟨4, 29, 1, .rwl, 1⟩
def SUPV.OUT_CFG_OV_OFF : Fld := ⟨4, 30, 1, .rwl, 0⟩
def SUPV.OUT_OFF_OFF_TH : Fld := ⟨8, 0, 8, .rwl, 0x14⟩
def SUPV.OUT_OFF_DIS_EN : Fld := ⟨8, 8, 1, .rwl, 0⟩
def SUPV.OUT_OFF_DIS_FORCE : Fld := ⟨8, 9, 1, .rwh, 0⟩
def SUPV.OUT_OFF_DIS_PIN : Fld := ⟨8, 10, 5, .rwl, 0x1F⟩
def SUPV.OUT_OFF_SETTLE : Fld := ⟨8, 16, 8, .rwl, 0x14⟩
def SUPV.PG0_BITS : Fld := ⟨0x280, 0, 32, .ro, 0⟩
def SUPV.PG1_BITS : Fld := ⟨0x284, 0, 14, .ro, 0⟩
def SUPV.OVF0_BITS : Fld := ⟨0x288, 0, 32, .w1c, 0⟩
def SUPV.OVF1_BITS : Fld := ⟨0x28C, 0, 14, .w1c, 0⟩
def SUPV.UVF0_BITS : Fld := ⟨0x290, 0, 32, .w1c, 0⟩
def SUPV.UVF1_BITS : Fld := ⟨0x294, 0, 14, .w1c, 0⟩
def SUPV.BELOW0_BITS : Fld := ⟨0x298, 0, 32, .ro, 0⟩
def SUPV.BELOW1_BITS : Fld := ⟨0x29C, 0, 14, .ro, 0⟩
def SUPV.VBUS_THR_OV : Fld := ⟨0x2A0, 0, 10, .rwl, 0x1CC⟩
def SUPV.VBUS_THR_UV : Fld := ⟨0x2A0, 10, 10, .rwl, 0xA0⟩
def SUPV.VBUS_THR_CLS_OV : Fld := ⟨0x2A0, 20, 3, .rwl, 3⟩
def SUPV.VBUS_THR_CLS_UV : Fld := ⟨0x2A0, 23, 2, .rwl, 1⟩
def SUPV.PORT_OV_OV : Fld := ⟨0x2A4, 0, 10, .rwl, 0x244⟩
def SUPV.PORT_OV_HYS : Fld := ⟨0x2A4, 10, 2, .rwl, 1⟩
def SUPV.PORT_OV_CLS : Fld := ⟨0x2A4, 12, 3, .rwl, 1⟩
def SUPV.VBAK_THR_WEAK : Fld := ⟨0x2A8, 0, 8, .rwl, 0xC8⟩
def SUPV.INSUP_BAD : Fld := ⟨0x2AC, 0, 5, .ro, 0⟩
def SUPV.INSUP_SEEN : Fld := ⟨0x2AC, 8, 5, .w1c, 0⟩
def SUPV.PHCLS_REMOVE : Fld := ⟨0x2B0, 0, 2, .rwl, 1⟩
def SUPV.PHCLS_DERATE : Fld := ⟨0x2B0, 2, 2, .rwl, 1⟩
def SUPV.PHCLS_UNRES : Fld := ⟨0x2B0, 4, 3, .rwl, 2⟩

def rowsSUPV : List RegRow := [
  ⟨0, 1, 4, [⟨0, 0, 8, .ro, 1⟩, ⟨0, 8, 8, .ro, 0⟩, ⟨0, 16, 16, .ro, 0x5C5A⟩]⟩,
  ⟨4, 1, 4, [⟨4, 0, 8, .ro, 0xB1⟩]⟩,
  ⟨8, 1, 4, [SUPV.STATUS_ALL_PG, SUPV.STATUS_ANY_OV, SUPV.STATUS_ANY_UV, SUPV.STATUS_INSUP_BAD]⟩,
  ⟨0xC, 1, 4, [SUPV.ERR_OV, SUPV.ERR_UV, SUPV.ERR_VBUS_OV, SUPV.ERR_VBUS_UV, SUPV.ERR_PORT_OV, SUPV.ERR_VBAK_WEAK, SUPV.ERR_INSUP]⟩,
  ⟨0x10, 1, 4, [⟨0x10, 0, 7, .w1s, 0⟩]⟩,
  ⟨0x14, 1, 4, [⟨0x14, 0, 7, .rw, 0⟩]⟩,
  ⟨0x18, 1, 4, [⟨0x18, 0, 7, .w1c, 0⟩]⟩,
  ⟨0x1C, 1, 4, [⟨0x1C, 0, 7, .rw, 0⟩]⟩,
  ⟨0x20, 1, 4, [⟨0x20, 0, 1, .rw, 0⟩, ⟨0x20, 4, 4, .rw, 0⟩]⟩,
  ⟨0x24, 1, 4, [⟨0x24, 0, 4, .rw, 0xF⟩]⟩,
  ⟨0x40, 46, 0xC, [SUPV.OUT_WIN_OV, SUPV.OUT_WIN_UV, SUPV.OUT_WIN_OV_ABS, SUPV.OUT_WIN_HYS]⟩,
  ⟨0x44, 46, 0xC, [SUPV.OUT_CFG_OVF, SUPV.OUT_CFG_UVF, SUPV.OUT_CFG_PGD, SUPV.OUT_CFG_CLS_OV, SUPV.OUT_CFG_CLS_UV, SUPV.OUT_CFG_GROUP, SUPV.OUT_CFG_SAFE_DIS, SUPV.OUT_CFG_OV_OFF]⟩,
  ⟨0x48, 46, 0xC, [SUPV.OUT_OFF_OFF_TH, SUPV.OUT_OFF_DIS_EN, SUPV.OUT_OFF_DIS_FORCE, SUPV.OUT_OFF_DIS_PIN, SUPV.OUT_OFF_SETTLE]⟩,
  ⟨0x280, 1, 4, [SUPV.PG0_BITS]⟩,
  ⟨0x284, 1, 4, [SUPV.PG1_BITS]⟩,
  ⟨0x288, 1, 4, [SUPV.OVF0_BITS]⟩,
  ⟨0x28C, 1, 4, [SUPV.OVF1_BITS]⟩,
  ⟨0x290, 1, 4, [SUPV.UVF0_BITS]⟩,
  ⟨0x294, 1, 4, [SUPV.UVF1_BITS]⟩,
  ⟨0x298, 1, 4, [SUPV.BELOW0_BITS]⟩,
  ⟨0x29C, 1, 4, [SUPV.BELOW1_BITS]⟩,
  ⟨0x2A0, 1, 4, [SUPV.VBUS_THR_OV, SUPV.VBUS_THR_UV, SUPV.VBUS_THR_CLS_OV, SUPV.VBUS_THR_CLS_UV]⟩,
  ⟨0x2A4, 1, 4, [SUPV.PORT_OV_OV, SUPV.PORT_OV_HYS, SUPV.PORT_OV_CLS]⟩,
  ⟨0x2A8, 1, 4, [SUPV.VBAK_THR_WEAK]⟩,
  ⟨0x2AC, 1, 4, [SUPV.INSUP_BAD, SUPV.INSUP_SEEN]⟩,
  ⟨0x2B0, 1, 4, [SUPV.PHCLS_REMOVE, SUPV.PHCLS_DERATE, SUPV.PHCLS_UNRES]⟩]

end Sys2Proof.Machine
end

