-- ==== Sys2Proof/Machine/MapSys.lean ====
section
/-! DEFINITION. The field maps of spec/ for the pages DEV, CLK, ENG, HIF, CQE, ARB, INT, FLT, WDG, SEQ, FLAIL, MARG: every field with its
offset (inside its block, for a family of blocks), its lowest bit, its width, its access type and its reset
value (R14, R19), and per page the rows that place them. -/

namespace Sys2Proof.Machine

/-! DEV page (R63, R64, R498, R499, R500, R501, R504). -/

def DEV.STATUS_REPLACE : Fld := ⟨8, 0, 1, .ro, 0⟩
def DEV.STATUS_WARM_BUSY : Fld := ⟨8, 1, 1, .ro, 0⟩
def DEV.STATUS_ON_HELD : Fld := ⟨8, 2, 1, .ro, 0⟩
def DEV.ERR_REQ_REFUSED : Fld := ⟨0xC, 0, 1, .w1c, 0⟩
def DEV.CHIPID_PART : Fld := ⟨0x40, 0, 16, .ro, 0x9656⟩
def DEV.CHIPID_STEP : Fld := ⟨0x40, 16, 8, .ro, 0xB1⟩
def DEV.FWVER_MINOR : Fld := ⟨0x44, 0, 8, .ro, 0⟩
def DEV.FWVER_MAJOR : Fld := ⟨0x44, 8, 8, .ro, 0⟩
def DEV.FWVER_BUILD : Fld := ⟨0x44, 16, 16, .ro, 0⟩
def DEV.SERIAL_LO_SN : Fld := ⟨0x48, 0, 32, .ro, 0⟩
def DEV.SERIAL_HI_SN : Fld := ⟨0x4C, 0, 16, .ro, 0⟩
def DEV.SERIAL_HI_STEP : Fld := ⟨0x4C, 16, 8, .ro, 0⟩
def DEV.MODE_CODE : Fld := ⟨0x80, 0, 4, .ro, 1⟩
def DEV.MODE_PREV : Fld := ⟨0x80, 4, 4, .ro, 0⟩
def DEV.MODE_WAKE_CAUSE : Fld := ⟨0x80, 8, 8, .ro, 0⟩
def DEV.MODE_HOLD_CAUSE : Fld := ⟨0x80, 16, 4, .ro, 0⟩
def DEV.MODE_HOLD_DETAIL : Fld := ⟨0x80, 20, 12, .ro, 0⟩
def DEV.MODE_REQ_REQ : Fld := ⟨0x84, 0, 4, .wo, 0⟩
def DEV.MODE_REQ_KEY : Fld := ⟨0x84, 16, 16, .wo, 0⟩
def DEV.WAKE_CFG_EN : Fld := ⟨0x88, 0, 4, .rw, 1⟩
def DEV.WAKE_CFG_POL : Fld := ⟨0x88, 4, 4, .rw, 0xF⟩
def DEV.WAKE_CFG_EDGE : Fld := ⟨0x88, 8, 4, .rw, 0⟩
def DEV.WAKE_CFG_ALM0_EN : Fld := ⟨0x88, 12, 1, .rw, 0⟩
def DEV.WAKE_CFG_ALM1_EN : Fld := ⟨0x88, 13, 1, .rw, 0⟩
def DEV.WAKE_CFG_FEED_EN : Fld := ⟨0x88, 14, 1, .rw, 1⟩
def DEV.WAKE_CFG_FLAIL_EN : Fld := ⟨0x88, 15, 1, .rw, 0⟩
def DEV.WAKE_CFG_HOLDON : Fld := ⟨0x88, 16, 4, .rw, 1⟩
def DEV.WAKE_CFG_RELEASE_T : Fld := ⟨0x88, 20, 8, .rw, 4⟩
def DEV.HOLD_INFO_INDEX : Fld := ⟨0x8C, 0, 15, .ro, 0⟩
def DEV.HOLD_INFO_KIND : Fld := ⟨0x8C, 16, 2, .ro, 0⟩
def DEV.SERVICE_CFG_TMO : Fld := ⟨0x90, 0, 11, .rwl, 0x3C⟩
def DEV.HOLDUP_CFG_TIME : Fld := ⟨0x94, 0, 20, .rwl, 0x7D0⟩
def DEV.HOLDUP_CFG_FLOOR : Fld := ⟨0x94, 20, 9, .rwl, 0xB4⟩
def DEV.HOLDUP_LEFT_LEFT : Fld := ⟨0x98, 0, 20, .ro, 0⟩
def DEV.REPLACE_SRC_SPARE : Fld := ⟨0x9C, 0, 1, .w1c, 0⟩
def DEV.REPLACE_SRC_OTP_SPARE : Fld := ⟨0x9C, 1, 1, .ro, 0⟩
def DEV.REPLACE_SRC_RETIRE : Fld := ⟨0x9C, 2, 1, .ro, 0⟩
def DEV.REPLACE_SRC_LOCKSTEP : Fld := ⟨0x9C, 3, 1, .w1c, 0⟩
def DEV.REPLACE_SRC_RTC_WEAK : Fld := ⟨0x9C, 4, 1, .ro, 0⟩
def DEV.REPLACE_SRC_OTP_WEAK : Fld := ⟨0x9C, 5, 1, .ro, 0⟩
def DEV.REPLACE_SRC_OTP_REGION : Fld := ⟨0x9C, 6, 1, .ro, 0⟩
def DEV.RESET_CAUSE_POR : Fld := ⟨0xA0, 0, 1, .w1c, 1⟩
def DEV.RESET_CAUSE_BPOR_SEEN : Fld := ⟨0xA0, 1, 1, .w1c, 0⟩
def DEV.RESET_CAUSE_WARM_ACTIVATE : Fld := ⟨0xA0, 2, 1, .w1c, 0⟩
def DEV.RESET_CAUSE_WARM_OWL : Fld := ⟨0xA0, 3, 1, .w1c, 0⟩
def DEV.RESET_CAUSE_WARM_LOCKSTEP : Fld := ⟨0xA0, 4, 1, .w1c, 0⟩
def DEV.RESET_CAUSE_WARM_HOST : Fld := ⟨0xA0, 5, 1, .w1c, 0⟩
def DEV.RESET_CAUSE_LOCKOUT_CYCLE : Fld := ⟨0xA0, 6, 1, .w1c, 0⟩

def rowsDEV : List RegRow := [
  ⟨0, 1, 4, [⟨0, 0, 8, .ro, 1⟩, ⟨0, 8, 8, .ro, 0⟩, ⟨0, 16, 16, .ro, 0xDE50⟩]⟩,
  ⟨4, 1, 4, [⟨4, 0, 8, .ro, 0xB1⟩]⟩,
  ⟨8, 1, 4, [DEV.STATUS_REPLACE, DEV.STATUS_WARM_BUSY, DEV.STATUS_ON_HELD]⟩,
  ⟨0xC, 1, 4, [DEV.ERR_REQ_REFUSED]⟩,
  ⟨0x10, 1, 4, [⟨0x10, 0, 1, .w1s, 0⟩]⟩,
  ⟨0x14, 1, 4, [⟨0x14, 0, 1, .rw, 0⟩]⟩,
  ⟨0x18, 1, 4, [⟨0x18, 0, 1, .w1c, 0⟩, ⟨0x18, 16, 1, .w1c, 0⟩]⟩,
  ⟨0x1C, 1, 4, [⟨0x1C, 0, 1, .rw, 0⟩, ⟨0x1C, 16, 1, .rw, 0⟩]⟩,
  ⟨0x20, 1, 4, [⟨0x20, 0, 1, .rw, 0⟩, ⟨0x20, 4, 4, .rw, 0⟩]⟩,
  ⟨0x24, 1, 4, [⟨0x24, 0, 4, .rw, 0xF⟩]⟩,
  ⟨0x40, 1, 4, [DEV.CHIPID_PART, DEV.CHIPID_STEP]⟩,
  ⟨0x44, 1, 4, [DEV.FWVER_MINOR, DEV.FWVER_MAJOR, DEV.FWVER_BUILD]⟩,
  ⟨0x48, 1, 4, [DEV.SERIAL_LO_SN]⟩,
  ⟨0x4C, 1, 4, [DEV.SERIAL_HI_SN, DEV.SERIAL_HI_STEP]⟩,
  ⟨0x80, 1, 4, [DEV.MODE_CODE, DEV.MODE_PREV, DEV.MODE_WAKE_CAUSE, DEV.MODE_HOLD_CAUSE, DEV.MODE_HOLD_DETAIL]⟩,
  ⟨0x84, 1, 4, [DEV.MODE_REQ_REQ, DEV.MODE_REQ_KEY]⟩,
  ⟨0x88, 1, 4, [DEV.WAKE_CFG_EN, DEV.WAKE_CFG_POL, DEV.WAKE_CFG_EDGE, DEV.WAKE_CFG_ALM0_EN, DEV.WAKE_CFG_ALM1_EN, DEV.WAKE_CFG_FEED_EN, DEV.WAKE_CFG_FLAIL_EN, DEV.WAKE_CFG_HOLDON, DEV.WAKE_CFG_RELEASE_T]⟩,
  ⟨0x8C, 1, 4, [DEV.HOLD_INFO_INDEX, DEV.HOLD_INFO_KIND]⟩,
  ⟨0x90, 1, 4, [DEV.SERVICE_CFG_TMO]⟩,
  ⟨0x94, 1, 4, [DEV.HOLDUP_CFG_TIME, DEV.HOLDUP_CFG_FLOOR]⟩,
  ⟨0x98, 1, 4, [DEV.HOLDUP_LEFT_LEFT]⟩,
  ⟨0x9C, 1, 4, [DEV.REPLACE_SRC_SPARE, DEV.REPLACE_SRC_OTP_SPARE, DEV.REPLACE_SRC_RETIRE, DEV.REPLACE_SRC_LOCKSTEP, DEV.REPLACE_SRC_RTC_WEAK, DEV.REPLACE_SRC_OTP_WEAK, DEV.REPLACE_SRC_OTP_REGION]⟩,
  ⟨0xA0, 1, 4, [DEV.RESET_CAUSE_POR, DEV.RESET_CAUSE_BPOR_SEEN, DEV.RESET_CAUSE_WARM_ACTIVATE, DEV.RESET_CAUSE_WARM_OWL, DEV.RESET_CAUSE_WARM_LOCKSTEP, DEV.RESET_CAUSE_WARM_HOST, DEV.RESET_CAUSE_LOCKOUT_CYCLE]⟩]

/-! CLK page (R411, R498, R499, R500, R501). -/

def CLK.STATUS_REF_OK : Fld := ⟨8, 0, 1, .ro, 0⟩
def CLK.STATUS_REF_RC : Fld := ⟨8, 1, 1, .ro, 0⟩
def CLK.ERR_REF_LOSS : Fld := ⟨0xC, 0, 1, .w1c, 0⟩
def CLK.ERR_REF_RET : Fld := ⟨0xC, 1, 1, .w1c, 0⟩
def CLK.ERR_HS_TIMEOUT : Fld := ⟨0xC, 2, 1, .w1c, 0⟩
def CLK.ERR_DROOP_LONG : Fld := ⟨0xC, 3, 1, .w1c, 0⟩
def CLK.ERR_CNT_SAT : Fld := ⟨0xC, 4, 1, .w1c, 0⟩
def CLK.CFG_DROOP_LVL : Fld := ⟨0x40, 0, 2, .rwl, 1⟩
def CLK.CFG_REL_T : Fld := ⟨0x40, 2, 6, .rwl, 5⟩
def CLK.CFG_LONG_T : Fld := ⟨0x40, 8, 8, .rwl, 0x64⟩
def CLK.CFG_HS_CLS : Fld := ⟨0x40, 16, 3, .rwl, 3⟩
def CLK.CFG_REF_CLS : Fld := ⟨0x40, 19, 2, .rwl, 1⟩
def CLK.CFG_AUTO_RET : Fld := ⟨0x40, 21, 1, .rwl, 1⟩
def CLK.CTRL_RET : Fld := ⟨0x44, 0, 1, .wo, 0⟩
def CLK.ISL_ON : Fld := ⟨0x48, 0, 16, .ro, 1⟩
def CLK.ISL_STRETCH : Fld := ⟨0x48, 16, 16, .ro, 0⟩
def CLK.DRP_COUNT : Fld := ⟨0, 0, 15, .ro, 0⟩
def CLK.DRP_SAT : Fld := ⟨0, 15, 1, .w1c, 0⟩
def CLK.DRP_LONGEST : Fld := ⟨0, 16, 15, .ro, 0⟩

def rowsCLK : List RegRow := [
  ⟨0, 1, 4, [⟨0, 0, 8, .ro, 1⟩, ⟨0, 8, 8, .ro, 0⟩, ⟨0, 16, 16, .ro, 0xC1C0⟩]⟩,
  ⟨4, 1, 4, [⟨4, 0, 8, .ro, 0xB1⟩]⟩,
  ⟨8, 1, 4, [CLK.STATUS_REF_OK, CLK.STATUS_REF_RC]⟩,
  ⟨0xC, 1, 4, [CLK.ERR_REF_LOSS, CLK.ERR_REF_RET, CLK.ERR_HS_TIMEOUT, CLK.ERR_DROOP_LONG, CLK.ERR_CNT_SAT]⟩,
  ⟨0x10, 1, 4, [⟨0x10, 0, 5, .w1s, 0⟩]⟩,
  ⟨0x14, 1, 4, [⟨0x14, 0, 5, .rw, 0⟩]⟩,
  ⟨0x18, 1, 4, [⟨0x18, 0, 5, .w1c, 0⟩]⟩,
  ⟨0x1C, 1, 4, [⟨0x1C, 0, 5, .rw, 0⟩]⟩,
  ⟨0x20, 1, 4, [⟨0x20, 0, 1, .rw, 0⟩, ⟨0x20, 4, 4, .rw, 0⟩]⟩,
  ⟨0x24, 1, 4, [⟨0x24, 0, 4, .rw, 0xF⟩]⟩,
  ⟨0x40, 1, 4, [CLK.CFG_DROOP_LVL, CLK.CFG_REL_T, CLK.CFG_LONG_T, CLK.CFG_HS_CLS, CLK.CFG_REF_CLS, CLK.CFG_AUTO_RET]⟩,
  ⟨0x44, 1, 4, [CLK.CTRL_RET]⟩,
  ⟨0x48, 1, 4, [CLK.ISL_ON, CLK.ISL_STRETCH]⟩,
  ⟨0x80, 16, 4, [CLK.DRP_COUNT, CLK.DRP_SAT, CLK.DRP_LONGEST]⟩]

/-! ENG page (R412, R498, R499, R500, R501). -/

def ENG.STATUS_RUN : Fld := ⟨8, 0, 8, .ro, 0⟩
def ENG.STATUS_HALTED : Fld := ⟨8, 8, 8, .ro, 0⟩
def ENG.STATUS_ROM : Fld := ⟨8, 16, 1, .ro, 0⟩
def ENG.ERR_LS_MISMATCH : Fld := ⟨0xC, 0, 1, .w1c, 0⟩
def ENG.ERR_LS_SELFTEST : Fld := ⟨0xC, 1, 1, .w1c, 0⟩
def ENG.ERR_EXCEPTION : Fld := ⟨0xC, 2, 1, .w1c, 0⟩
def ENG.ERR_CNT_SAT : Fld := ⟨0xC, 3, 1, .w1c, 0⟩
def ENG.CFG_LS_CLS : Fld := ⟨0x40, 0, 3, .rwl, 1⟩
def ENG.CFG_LS_WIN : Fld := ⟨0x40, 8, 10, .rwl, 0x3C⟩
def ENG.CFG_EXC_CLS : Fld := ⟨0x40, 18, 3, .rwl, 1⟩
def ENG.FE_STAT_STATE : Fld := ⟨0, 0, 3, .ro, 0⟩
def ENG.FE_STAT_LOAD : Fld := ⟨0, 8, 7, .ro, 0⟩
def ENG.FE_PC_STOPPED : Fld := ⟨4, 0, 1, .ro, 1⟩
def ENG.FE_PC_PC : Fld := ⟨4, 2, 30, .ro, 0⟩
def ENG.FE_CNT_MISMATCH : Fld := ⟨8, 0, 15, .ro, 0⟩
def ENG.FE_CNT_MM_SAT : Fld := ⟨8, 15, 1, .w1c, 0⟩
def ENG.FE_CNT_EXCEPT : Fld := ⟨8, 16, 15, .ro, 0⟩
def ENG.FE_CNT_EXC_SAT : Fld := ⟨8, 31, 1, .w1c, 0⟩
def ENG.FE_LAST_T : Fld := ⟨0xC, 0, 32, .ro, 0⟩

def rowsENG : List RegRow := [
  ⟨0, 1, 4, [⟨0, 0, 8, .ro, 1⟩, ⟨0, 8, 8, .ro, 0⟩, ⟨0, 16, 16, .ro, 0xE4C0⟩]⟩,
  ⟨4, 1, 4, [⟨4, 0, 8, .ro, 0xB1⟩]⟩,
  ⟨8, 1, 4, [ENG.STATUS_RUN, ENG.STATUS_HALTED, ENG.STATUS_ROM]⟩,
  ⟨0xC, 1, 4, [ENG.ERR_LS_MISMATCH, ENG.ERR_LS_SELFTEST, ENG.ERR_EXCEPTION, ENG.ERR_CNT_SAT]⟩,
  ⟨0x10, 1, 4, [⟨0x10, 0, 4, .w1s, 0⟩]⟩,
  ⟨0x14, 1, 4, [⟨0x14, 0, 4, .rw, 0⟩]⟩,
  ⟨0x18, 1, 4, [⟨0x18, 0, 4, .w1c, 0⟩]⟩,
  ⟨0x1C, 1, 4, [⟨0x1C, 0, 4, .rw, 0⟩]⟩,
  ⟨0x20, 1, 4, [⟨0x20, 0, 1, .rw, 0⟩, ⟨0x20, 4, 4, .rw, 0⟩]⟩,
  ⟨0x24, 1, 4, [⟨0x24, 0, 4, .rw, 0xF⟩]⟩,
  ⟨0x40, 1, 4, [ENG.CFG_LS_CLS, ENG.CFG_LS_WIN, ENG.CFG_EXC_CLS]⟩,
  ⟨0x80, 8, 0x10, [ENG.FE_STAT_STATE, ENG.FE_STAT_LOAD]⟩,
  ⟨0x84, 8, 0x10, [ENG.FE_PC_STOPPED, ENG.FE_PC_PC]⟩,
  ⟨0x88, 8, 0x10, [ENG.FE_CNT_MISMATCH, ENG.FE_CNT_MM_SAT, ENG.FE_CNT_EXCEPT, ENG.FE_CNT_EXC_SAT]⟩,
  ⟨0x8C, 8, 0x10, [ENG.FE_LAST_T]⟩]

/-! HIF page (R336, R498, R499, R500, R501). -/

def HIF.STATUS_QUAR : Fld := ⟨8, 0, 8, .ro, 0⟩
def HIF.STATUS_UNSYNC : Fld := ⟨8, 8, 8, .ro, 0xFF⟩
def HIF.STATUS_ACTIVE : Fld := ⟨8, 16, 8, .ro, 0⟩
def HIF.ERR_VIOL : Fld := ⟨0xC, 0, 1, .w1c, 0⟩
def HIF.ERR_QUARANTINE : Fld := ⟨0xC, 1, 1, .w1c, 0⟩
def HIF.ERR_CS_BOTH : Fld := ⟨0xC, 2, 1, .w1c, 0⟩
def HIF.ERR_CNT_SAT : Fld := ⟨0xC, 3, 1, .w1c, 0⟩
def HIF.CFG_CTX_EN : Fld := ⟨0x40, 0, 8, .rwl, 0xFF⟩
def HIF.CFG_VTHR : Fld := ⟨0x40, 8, 8, .rwl, 0x10⟩
def HIF.CFG_VWIN : Fld := ⟨0x40, 16, 10, .rwl, 0x64⟩
def HIF.CFG_QCLS : Fld := ⟨0x40, 26, 1, .rwl, 1⟩
def HIF.RST_KEY : Fld := ⟨0x44, 0, 16, .wo, 0⟩
def HIF.CTX_SEQ_LAST : Fld := ⟨0, 0, 16, .ro, 0⟩
def HIF.CTX_VIOL_TOTAL : Fld := ⟨4, 0, 16, .ro, 0⟩
def HIF.CTX_VIOL_WINCNT : Fld := ⟨4, 16, 8, .ro, 0⟩
def HIF.CTX_VIOL_SAT : Fld := ⟨4, 31, 1, .w1c, 0⟩
def HIF.CTX_LAST_CODE : Fld := ⟨8, 0, 8, .ro, 0⟩
def HIF.CTX_LAST_ADDR : Fld := ⟨8, 16, 16, .ro, 0⟩
def HIF.CTX_FRM_FRAMES : Fld := ⟨0xC, 0, 31, .ro, 0⟩
def HIF.CTX_FRM_SAT : Fld := ⟨0xC, 31, 1, .w1c, 0⟩

def rowsHIF : List RegRow := [
  ⟨0, 1, 4, [⟨0, 0, 8, .ro, 1⟩, ⟨0, 8, 8, .ro, 0⟩, ⟨0, 16, 16, .ro, 0x41F0⟩]⟩,
  ⟨4, 1, 4, [⟨4, 0, 8, .ro, 0xB1⟩]⟩,
  ⟨8, 1, 4, [HIF.STATUS_QUAR, HIF.STATUS_UNSYNC, HIF.STATUS_ACTIVE]⟩,
  ⟨0xC, 1, 4, [HIF.ERR_VIOL, HIF.ERR_QUARANTINE, HIF.ERR_CS_BOTH, HIF.ERR_CNT_SAT]⟩,
  ⟨0x10, 1, 4, [⟨0x10, 0, 4, .w1s, 0⟩]⟩,
  ⟨0x14, 1, 4, [⟨0x14, 0, 4, .rw, 0⟩]⟩,
  ⟨0x18, 1, 4, [⟨0x18, 0, 4, .w1c, 0⟩]⟩,
  ⟨0x1C, 1, 4, [⟨0x1C, 0, 4, .rw, 0⟩]⟩,
  ⟨0x20, 1, 4, [⟨0x20, 0, 1, .rw, 0⟩, ⟨0x20, 4, 4, .rw, 0⟩]⟩,
  ⟨0x24, 1, 4, [⟨0x24, 0, 4, .rw, 0xF⟩]⟩,
  ⟨0x40, 1, 4, [HIF.CFG_CTX_EN, HIF.CFG_VTHR, HIF.CFG_VWIN, HIF.CFG_QCLS]⟩,
  ⟨0x44, 1, 4, [HIF.RST_KEY]⟩,
  ⟨0x80, 8, 0x10, [HIF.CTX_SEQ_LAST]⟩,
  ⟨0x84, 8, 0x10, [HIF.CTX_VIOL_TOTAL, HIF.CTX_VIOL_WINCNT, HIF.CTX_VIOL_SAT]⟩,
  ⟨0x88, 8, 0x10, [HIF.CTX_LAST_CODE, HIF.CTX_LAST_ADDR]⟩,
  ⟨0x8C, 8, 0x10, [HIF.CTX_FRM_FRAMES, HIF.CTX_FRM_SAT]⟩]

/-! CQE page (R337, R498, R499, R500, R501). -/

def CQE.STATUS_TAGS : Fld := ⟨8, 0, 9, .ro, 0⟩
def CQE.ERR_BAD_ENTRY : Fld := ⟨0xC, 0, 1, .w1c, 0⟩
def CQE.ERR_DENIED : Fld := ⟨0xC, 1, 1, .w1c, 0⟩
def CQE.ERR_CFG_BUSY : Fld := ⟨0xC, 2, 1, .w1c, 0⟩
def CQE.ERR_DISCARD : Fld := ⟨0xC, 3, 1, .w1c, 0⟩
def CQE.ERR_MEM_ERROR : Fld := ⟨0xC, 4, 1, .w1c, 0⟩
def CQE.ERR_CNT_SAT : Fld := ⟨0xC, 5, 1, .w1c, 0⟩
def CQE.CTX_CFG_EN : Fld := ⟨0, 0, 1, .rwl, 0⟩
def CQE.CTX_CFG_SQ_SIZE : Fld := ⟨0, 8, 7, .rwl, 0x40⟩
def CQE.CTX_CFG_CQ_SIZE : Fld := ⟨0, 16, 7, .rwl, 0x40⟩
def CQE.CTX_CFG_TAGS : Fld := ⟨0, 24, 7, .rwl, 0x20⟩
def CQE.CTX_PERM_OPC : Fld := ⟨4, 0, 23, .rwl, 0x7FFFFF⟩
def CQE.CTX_PERM_SERVICE : Fld := ⟨4, 31, 1, .rwl, 1⟩
def CQE.CTX_SQT_TAIL : Fld := ⟨8, 0, 6, .ro, 0⟩
def CQE.CTX_SQT_HEAD : Fld := ⟨8, 8, 6, .ro, 0⟩
def CQE.CTX_SQT_WAIT : Fld := ⟨8, 16, 7, .ro, 0⟩
def CQE.CTX_CQT_TAIL : Fld := ⟨0xC, 0, 6, .ro, 0⟩
def CQE.CTX_CQT_FILL : Fld := ⟨0xC, 16, 7, .ro, 0⟩
def CQE.CTX_CQH_HEAD : Fld := ⟨0x10, 0, 6, .ro, 0⟩
def CQE.CTX_IRQ_THR : Fld := ⟨0x14, 0, 7, .rwl, 1⟩
def CQE.CTX_IRQ_TMO : Fld := ⟨0x14, 8, 16, .rwl, 0⟩
def CQE.CTX_STAT_INFL : Fld := ⟨0x18, 0, 7, .ro, 0⟩
def CQE.CTX_STAT_COMPLETED : Fld := ⟨0x18, 16, 15, .ro, 0⟩
def CQE.CTX_STAT_SAT : Fld := ⟨0x18, 31, 1, .w1c, 0⟩
def CQE.DBUF_DATA : Fld := ⟨0, 0, 32, .rw, 0⟩
def CQE.CQ_W0_COOKIE : Fld := ⟨0, 0, 16, .ro, 0⟩
def CQE.CQ_W0_STATUS : Fld := ⟨0, 16, 8, .ro, 0⟩
def CQE.CQ_W0_TAG : Fld := ⟨0, 24, 8, .ro, 0⟩
def CQE.CQ_W1_RESULT : Fld := ⟨0, 0, 32, .ro, 0⟩

def rowsCQE : List RegRow := [
  ⟨0, 1, 4, [⟨0, 0, 8, .ro, 1⟩, ⟨0, 8, 8, .ro, 0⟩, ⟨0, 16, 16, .ro, 0xC0E0⟩]⟩,
  ⟨4, 1, 4, [⟨4, 0, 8, .ro, 0xB1⟩]⟩,
  ⟨8, 1, 4, [CQE.STATUS_TAGS]⟩,
  ⟨0xC, 1, 4, [CQE.ERR_BAD_ENTRY, CQE.ERR_DENIED, CQE.ERR_CFG_BUSY, CQE.ERR_DISCARD, CQE.ERR_MEM_ERROR, CQE.ERR_CNT_SAT]⟩,
  ⟨0x10, 1, 4, [⟨0x10, 0, 6, .w1s, 0⟩]⟩,
  ⟨0x14, 1, 4, [⟨0x14, 0, 6, .rw, 0⟩]⟩,
  ⟨0x18, 1, 4, [⟨0x18, 0, 6, .w1c, 0⟩]⟩,
  ⟨0x1C, 1, 4, [⟨0x1C, 0, 6, .rw, 0⟩]⟩,
  ⟨0x20, 1, 4, [⟨0x20, 0, 1, .rw, 0⟩, ⟨0x20, 4, 4, .rw, 0⟩]⟩,
  ⟨0x24, 1, 4, [⟨0x24, 0, 4, .rw, 0xF⟩]⟩,
  ⟨0x80, 8, 0x20, [CQE.CTX_CFG_EN, CQE.CTX_CFG_SQ_SIZE, CQE.CTX_CFG_CQ_SIZE, CQE.CTX_CFG_TAGS]⟩,
  ⟨0x84, 8, 0x20, [CQE.CTX_PERM_OPC, CQE.CTX_PERM_SERVICE]⟩,
  ⟨0x88, 8, 0x20, [CQE.CTX_SQT_TAIL, CQE.CTX_SQT_HEAD, CQE.CTX_SQT_WAIT]⟩,
  ⟨0x8C, 8, 0x20, [CQE.CTX_CQT_TAIL, CQE.CTX_CQT_FILL]⟩,
  ⟨0x90, 8, 0x20, [CQE.CTX_CQH_HEAD]⟩,
  ⟨0x94, 8, 0x20, [CQE.CTX_IRQ_THR, CQE.CTX_IRQ_TMO]⟩,
  ⟨0x98, 8, 0x20, [CQE.CTX_STAT_INFL, CQE.CTX_STAT_COMPLETED, CQE.CTX_STAT_SAT]⟩,
  ⟨0x180, 32, 4, [CQE.DBUF_DATA]⟩,
  ⟨0x200, 64, 8, [CQE.CQ_W0_COOKIE, CQE.CQ_W0_STATUS, CQE.CQ_W0_TAG]⟩,
  ⟨0x204, 64, 8, [CQE.CQ_W1_RESULT]⟩]

/-! ARB page (R352, R498, R499, R500, R501). -/

def ARB.STATUS_SLOT : Fld := ⟨8, 0, 6, .ro, 0⟩
def ARB.STATUS_HELD : Fld := ⟨8, 8, 9, .ro, 0⟩
def ARB.ERR_QFULL : Fld := ⟨0xC, 0, 1, .w1c, 0⟩
def ARB.ERR_HOLD_EXP : Fld := ⟨0xC, 1, 1, .w1c, 0⟩
def ARB.ERR_DENIED : Fld := ⟨0xC, 2, 1, .w1c, 0⟩
def ARB.ERR_CNT_SAT : Fld := ⟨0xC, 3, 1, .w1c, 0⟩
def ARB.CFG_PREEMPT : Fld := ⟨0x40, 0, 9, .rwl, 0xF0⟩
def ARB.CFG_HOLD_MAX : Fld := ⟨0x40, 16, 10, .rwl, 0x64⟩
def ARB.PRIO_HC_P : Fld := ⟨0x44, 0, 32, .rw, 0x88888888⟩
def ARB.PRIO_FE_P : Fld := ⟨0x48, 0, 32, .rw, 0x88888888⟩
def ARB.SELF_REQ_OP : Fld := ⟨0x4C, 0, 2, .wo, 0⟩
def ARB.SELF_REQ_RES : Fld := ⟨0x4C, 4, 4, .wo, 0⟩
def ARB.SELF_GNT_URG : Fld := ⟨0x50, 0, 1, .ro, 0⟩
def ARB.SELF_GNT_FLAIL : Fld := ⟨0x50, 1, 1, .ro, 0⟩
def ARB.SELF_GNT_URG_PEND : Fld := ⟨0x50, 4, 1, .ro, 0⟩
def ARB.SELF_GNT_FLAIL_PEND : Fld := ⟨0x50, 5, 1, .ro, 0⟩
def ARB.SELF_GNT_GRANTED_EV : Fld := ⟨0x50, 8, 1, .w1c, 0⟩
def ARB.SELF_GNT_REVOKED_EV : Fld := ⟨0x50, 9, 1, .w1c, 0⟩
def ARB.RES_STAT_HOLDER : Fld := ⟨0, 0, 5, .ro, 0x1F⟩
def ARB.RES_STAT_DEPTH : Fld := ⟨0, 8, 5, .ro, 0⟩
def ARB.RES_STAT_REVOKES : Fld := ⟨0, 16, 15, .ro, 0⟩
def ARB.RES_STAT_SAT : Fld := ⟨0, 31, 1, .w1c, 0⟩
def ARB.STALL_EX : Fld := ⟨0, 0, 5, .rwl, 0x1F⟩
def ARB.STALL_TWI0 : Fld := ⟨0, 5, 5, .rwl, 0x1F⟩
def ARB.STALL_TWI1 : Fld := ⟨0, 10, 5, .rwl, 0x1F⟩
def ARB.STALL_NVMW : Fld := ⟨0, 15, 5, .rwl, 0x1F⟩
def ARB.STALL_URG : Fld := ⟨0, 20, 5, .rwl, 0x1F⟩
def ARB.STALL_FLAIL : Fld := ⟨0, 25, 5, .rwl, 0x1F⟩

def rowsARB : List RegRow := [
  ⟨0, 1, 4, [⟨0, 0, 8, .ro, 1⟩, ⟨0, 8, 8, .ro, 0⟩, ⟨0, 16, 16, .ro, 0xA2B1⟩]⟩,
  ⟨4, 1, 4, [⟨4, 0, 8, .ro, 0xB1⟩]⟩,
  ⟨8, 1, 4, [ARB.STATUS_SLOT, ARB.STATUS_HELD]⟩,
  ⟨0xC, 1, 4, [ARB.ERR_QFULL, ARB.ERR_HOLD_EXP, ARB.ERR_DENIED, ARB.ERR_CNT_SAT]⟩,
  ⟨0x10, 1, 4, [⟨0x10, 0, 4, .w1s, 0⟩]⟩,
  ⟨0x14, 1, 4, [⟨0x14, 0, 4, .rw, 0⟩]⟩,
  ⟨0x18, 1, 4, [⟨0x18, 0, 4, .w1c, 0⟩, ⟨0x18, 16, 2, .w1c, 0⟩]⟩,
  ⟨0x1C, 1, 4, [⟨0x1C, 0, 4, .rw, 0⟩, ⟨0x1C, 16, 2, .rw, 0⟩]⟩,
  ⟨0x20, 1, 4, [⟨0x20, 0, 1, .rw, 0⟩, ⟨0x20, 4, 4, .rw, 0⟩]⟩,
  ⟨0x24, 1, 4, [⟨0x24, 0, 4, .rw, 0xF⟩]⟩,
  ⟨0x40, 1, 4, [ARB.CFG_PREEMPT, ARB.CFG_HOLD_MAX]⟩,
  ⟨0x44, 1, 4, [ARB.PRIO_HC_P]⟩,
  ⟨0x48, 1, 4, [ARB.PRIO_FE_P]⟩,
  ⟨0x4C, 1, 4, [ARB.SELF_REQ_OP, ARB.SELF_REQ_RES]⟩,
  ⟨0x50, 1, 4, [ARB.SELF_GNT_URG, ARB.SELF_GNT_FLAIL, ARB.SELF_GNT_URG_PEND, ARB.SELF_GNT_FLAIL_PEND, ARB.SELF_GNT_GRANTED_EV, ARB.SELF_GNT_REVOKED_EV]⟩,
  ⟨0x60, 9, 4, [ARB.RES_STAT_HOLDER, ARB.RES_STAT_DEPTH, ARB.RES_STAT_REVOKES, ARB.RES_STAT_SAT]⟩,
  ⟨0x100, 64, 4, [ARB.STALL_EX, ARB.STALL_TWI0, ARB.STALL_TWI1, ARB.STALL_NVMW, ARB.STALL_URG, ARB.STALL_FLAIL]⟩]

/-! INT page (R366, R498, R499, R500, R501). -/

def INT.STATUS_ASSERTED : Fld := ⟨8, 0, 8, .ro, 0⟩
def INT.STATUS_NESTED : Fld := ⟨8, 8, 8, .ro, 0⟩
def INT.ERR_DONE_BAD : Fld := ⟨0xC, 0, 1, .w1c, 0⟩
def INT.ERR_BAD_ID : Fld := ⟨0xC, 1, 1, .w1c, 0⟩
def INT.CTXSEL_CTX : Fld := ⟨0x40, 0, 3, .rw, 0⟩
def INT.CFG_PRIGROUP : Fld := ⟨0x44, 0, 3, .rwl, 0⟩
def INT.CFG_THR : Fld := ⟨0x44, 8, 8, .rwl, 0⟩
def INT.CFG_POL : Fld := ⟨0x44, 16, 1, .rwl, 0⟩
def INT.CLAIM_ID : Fld := ⟨0x48, 0, 10, .ro, 0x3FF⟩
def INT.CLAIM_PRIO : Fld := ⟨0x48, 16, 8, .ro, 0⟩
def INT.CLAIM_DONE_ID : Fld := ⟨0x4C, 0, 10, .wo, 0⟩
def INT.RUNNING_ID : Fld := ⟨0x50, 0, 10, .ro, 0x3FF⟩
def INT.RUNNING_PRIO : Fld := ⟨0x50, 16, 8, .ro, 0⟩
def INT.SETPEND_ID : Fld := ⟨0x54, 0, 10, .wo, 0⟩
def INT.EN_EN : Fld := ⟨0, 0, 32, .rwl, 0⟩
def INT.PEND_PEND : Fld := ⟨0, 0, 32, .w1c, 0⟩
def INT.ACT_ACT : Fld := ⟨0, 0, 32, .ro, 0⟩
def INT.MERGE_MERGE : Fld := ⟨0, 0, 32, .w1c, 0⟩
def INT.PRIO_PRIO : Fld := ⟨0, 0, 32, .rwl, 0⟩

def rowsINT : List RegRow := [
  ⟨0, 1, 4, [⟨0, 0, 8, .ro, 1⟩, ⟨0, 8, 8, .ro, 0⟩, ⟨0, 16, 16, .ro, 0x1E70⟩]⟩,
  ⟨4, 1, 4, [⟨4, 0, 8, .ro, 0xB1⟩]⟩,
  ⟨8, 1, 4, [INT.STATUS_ASSERTED, INT.STATUS_NESTED]⟩,
  ⟨0xC, 1, 4, [INT.ERR_DONE_BAD, INT.ERR_BAD_ID]⟩,
  ⟨0x10, 1, 4, [⟨0x10, 0, 2, .w1s, 0⟩]⟩,
  ⟨0x14, 1, 4, [⟨0x14, 0, 2, .rw, 0⟩]⟩,
  ⟨0x18, 1, 4, [⟨0x18, 0, 2, .w1c, 0⟩]⟩,
  ⟨0x1C, 1, 4, [⟨0x1C, 0, 2, .rw, 0⟩]⟩,
  ⟨0x20, 1, 4, [⟨0x20, 0, 1, .rw, 0⟩, ⟨0x20, 4, 4, .rw, 0⟩]⟩,
  ⟨0x24, 1, 4, [⟨0x24, 0, 4, .rw, 0xF⟩]⟩,
  ⟨0x40, 1, 4, [INT.CTXSEL_CTX]⟩,
  ⟨0x44, 1, 4, [INT.CFG_PRIGROUP, INT.CFG_THR, INT.CFG_POL]⟩,
  ⟨0x48, 1, 4, [INT.CLAIM_ID, INT.CLAIM_PRIO]⟩,
  ⟨0x4C, 1, 4, [INT.CLAIM_DONE_ID]⟩,
  ⟨0x50, 1, 4, [INT.RUNNING_ID, INT.RUNNING_PRIO]⟩,
  ⟨0x54, 1, 4, [INT.SETPEND_ID]⟩,
  ⟨0x60, 5, 4, [INT.EN_EN]⟩,
  ⟨0x80, 5, 4, [INT.PEND_PEND]⟩,
  ⟨0xA0, 5, 4, [INT.ACT_ACT]⟩,
  ⟨0xC0, 5, 4, [INT.MERGE_MERGE]⟩,
  ⟨0x100, 40, 4, [INT.PRIO_PRIO]⟩]

/-! FLT page (R385, R498, R499, R500, R501). -/

def FLT.STATUS_UNACK : Fld := ⟨8, 0, 4, .ro, 0⟩
def FLT.STATUS_DEV_FORCE : Fld := ⟨8, 4, 1, .ro, 0⟩
def FLT.STATUS_GHOLD : Fld := ⟨8, 8, 8, .ro, 0⟩
def FLT.ERR_ACK_BAD : Fld := ⟨0xC, 0, 1, .w1c, 0⟩
def FLT.ERR_FORCE_REFUSED : Fld := ⟨0xC, 1, 1, .w1c, 0⟩
def FLT.ERR_HELD_EN : Fld := ⟨0xC, 2, 1, .w1c, 0⟩
def FLT.ERR_CNT_SAT : Fld := ⟨0xC, 3, 1, .w1c, 0⟩
def FLT.FCTRL_LIVE : Fld := ⟨0x40, 0, 1, .rwh, 0⟩
def FLT.FCTRL_CLS : Fld := ⟨0x40, 1, 3, .rw, 0⟩
def FLT.ACK_ID : Fld := ⟨0x44, 0, 8, .wo, 0⟩
def FLT.ACK_ALL : Fld := ⟨0x44, 8, 1, .wo, 0⟩
def FLT.HSTAT_NEWEST : Fld := ⟨0x48, 0, 5, .ro, 0⟩
def FLT.HSTAT_FILL : Fld := ⟨0x48, 5, 6, .ro, 0⟩
def FLT.RAISES_COUNT : Fld := ⟨0x4C, 0, 31, .ro, 0⟩
def FLT.RAISES_SAT : Fld := ⟨0x4C, 31, 1, .w1c, 0⟩
def FLT.CAUSE_EVENT : Fld := ⟨0x50, 0, 8, .ro, 0xFF⟩
def FLT.CAUSE_ECLS : Fld := ⟨0x50, 8, 3, .ro, 0⟩
def FLT.CAUSE_T_T : Fld := ⟨0x54, 0, 32, .ro, 0⟩
def FLT.LAT_LAT : Fld := ⟨0, 0, 32, .w1c, 0⟩
def FLT.FORCE_FORCE : Fld := ⟨0, 0, 32, .w1s, 0⟩
def FLT.EVCFG_DCLS0 : Fld := ⟨0, 0, 3, .rwl, 1⟩
def FLT.EVCFG_GROUP0 : Fld := ⟨0, 4, 3, .rwl, 0⟩
def FLT.EVCFG_DCLS1 : Fld := ⟨0, 8, 3, .rwl, 1⟩
def FLT.EVCFG_GROUP1 : Fld := ⟨0, 12, 3, .rwl, 0⟩
def FLT.EVCFG_DCLS2 : Fld := ⟨0, 16, 3, .rwl, 1⟩
def FLT.EVCFG_GROUP2 : Fld := ⟨0, 20, 3, .rwl, 0⟩
def FLT.EVCFG_DCLS3 : Fld := ⟨0, 24, 3, .rwl, 1⟩
def FLT.EVCFG_GROUP3 : Fld := ⟨0, 28, 3, .rwl, 0⟩
def FLT.EVST_UNACK0 : Fld := ⟨0, 0, 4, .ro, 0⟩
def FLT.EVST_RPT0 : Fld := ⟨0, 4, 4, .ro, 0⟩
def FLT.EVST_UNACK1 : Fld := ⟨0, 8, 4, .ro, 0⟩
def FLT.EVST_RPT1 : Fld := ⟨0, 12, 4, .ro, 0⟩
def FLT.EVST_UNACK2 : Fld := ⟨0, 16, 4, .ro, 0⟩
def FLT.EVST_RPT2 : Fld := ⟨0, 20, 4, .ro, 0⟩
def FLT.EVST_UNACK3 : Fld := ⟨0, 24, 4, .ro, 0⟩
def FLT.EVST_RPT3 : Fld := ⟨0, 28, 4, .ro, 0⟩
def FLT.HIST0_EVENT : Fld := ⟨0, 0, 8, .ro, 0⟩
def FLT.HIST0_RCLS : Fld := ⟨0, 8, 3, .ro, 0⟩
def FLT.HIST0_ECLS : Fld := ⟨0, 12, 3, .ro, 0⟩
def FLT.HIST0_ESC : Fld := ⟨0, 16, 1, .ro, 0⟩
def FLT.HIST0_FORCED : Fld := ⟨0, 17, 1, .ro, 0⟩
def FLT.HIST0_DRY : Fld := ⟨0, 18, 1, .ro, 0⟩
def FLT.HIST0_MODE_CHG : Fld := ⟨0, 19, 1, .ro, 0⟩
def FLT.HIST0_MODE : Fld := ⟨0, 20, 4, .ro, 0⟩
def FLT.HIST1_DETAIL : Fld := ⟨4, 0, 32, .ro, 0⟩
def FLT.HIST2_NS : Fld := ⟨8, 0, 30, .ro, 0⟩
def FLT.HIST3_SEC : Fld := ⟨0xC, 0, 32, .ro, 0⟩

def rowsFLT : List RegRow := [
  ⟨0, 1, 4, [⟨0, 0, 8, .ro, 1⟩, ⟨0, 8, 8, .ro, 0⟩, ⟨0, 16, 16, .ro, 0xF17C⟩]⟩,
  ⟨4, 1, 4, [⟨4, 0, 8, .ro, 0xB1⟩]⟩,
  ⟨8, 1, 4, [FLT.STATUS_UNACK, FLT.STATUS_DEV_FORCE, FLT.STATUS_GHOLD]⟩,
  ⟨0xC, 1, 4, [FLT.ERR_ACK_BAD, FLT.ERR_FORCE_REFUSED, FLT.ERR_HELD_EN, FLT.ERR_CNT_SAT]⟩,
  ⟨0x10, 1, 4, [⟨0x10, 0, 4, .w1s, 0⟩]⟩,
  ⟨0x14, 1, 4, [⟨0x14, 0, 4, .rw, 0⟩]⟩,
  ⟨0x18, 1, 4, [⟨0x18, 0, 4, .w1c, 0⟩]⟩,
  ⟨0x1C, 1, 4, [⟨0x1C, 0, 4, .rw, 0⟩]⟩,
  ⟨0x20, 1, 4, [⟨0x20, 0, 1, .rw, 0⟩, ⟨0x20, 4, 4, .rw, 0⟩]⟩,
  ⟨0x24, 1, 4, [⟨0x24, 0, 4, .rw, 0xF⟩]⟩,
  ⟨0x40, 1, 4, [FLT.FCTRL_LIVE, FLT.FCTRL_CLS]⟩,
  ⟨0x44, 1, 4, [FLT.ACK_ID, FLT.ACK_ALL]⟩,
  ⟨0x48, 1, 4, [FLT.HSTAT_NEWEST, FLT.HSTAT_FILL]⟩,
  ⟨0x4C, 1, 4, [FLT.RAISES_COUNT, FLT.RAISES_SAT]⟩,
  ⟨0x50, 1, 4, [FLT.CAUSE_EVENT, FLT.CAUSE_ECLS]⟩,
  ⟨0x54, 1, 4, [FLT.CAUSE_T_T]⟩,
  ⟨0x60, 5, 4, [FLT.LAT_LAT]⟩,
  ⟨0x80, 5, 4, [FLT.FORCE_FORCE]⟩,
  ⟨0xA0, 33, 4, [FLT.EVCFG_DCLS0, FLT.EVCFG_GROUP0, FLT.EVCFG_DCLS1, FLT.EVCFG_GROUP1, FLT.EVCFG_DCLS2, FLT.EVCFG_GROUP2, FLT.EVCFG_DCLS3, FLT.EVCFG_GROUP3]⟩,
  ⟨0x124, 1, 4, [FLT.EVCFG_DCLS0, FLT.EVCFG_GROUP0, FLT.EVCFG_DCLS1, FLT.EVCFG_GROUP1, FLT.EVCFG_DCLS2, FLT.EVCFG_GROUP2, ⟨0, 24, 3, .rwl, 0⟩, FLT.EVCFG_GROUP3]⟩,
  ⟨0x128, 6, 4, [FLT.EVCFG_DCLS0, FLT.EVCFG_GROUP0, FLT.EVCFG_DCLS1, FLT.EVCFG_GROUP1, FLT.EVCFG_DCLS2, FLT.EVCFG_GROUP2, FLT.EVCFG_DCLS3, FLT.EVCFG_GROUP3]⟩,
  ⟨0x140, 40, 4, [FLT.EVST_UNACK0, FLT.EVST_RPT0, FLT.EVST_UNACK1, FLT.EVST_RPT1, FLT.EVST_UNACK2, FLT.EVST_RPT2, FLT.EVST_UNACK3, FLT.EVST_RPT3]⟩,
  ⟨0x200, 32, 0x10, [FLT.HIST0_EVENT, FLT.HIST0_RCLS, FLT.HIST0_ECLS, FLT.HIST0_ESC, FLT.HIST0_FORCED, FLT.HIST0_DRY, FLT.HIST0_MODE_CHG, FLT.HIST0_MODE]⟩,
  ⟨0x204, 32, 0x10, [FLT.HIST1_DETAIL]⟩,
  ⟨0x208, 32, 0x10, [FLT.HIST2_NS]⟩,
  ⟨0x20C, 32, 0x10, [FLT.HIST3_SEC]⟩]

/-! WDG page (R397, R498, R499, R500, R501). -/

def WDG.STATUS_BOOT_ARMED : Fld := ⟨8, 0, 1, .ro, 0⟩
def WDG.STATUS_BOOT_FAILS : Fld := ⟨8, 1, 2, .ro, 0⟩
def WDG.ERR_EXPIRED : Fld := ⟨0xC, 0, 1, .w1c, 0⟩
def WDG.ERR_EARLY : Fld := ⟨0xC, 1, 1, .w1c, 0⟩
def WDG.ERR_DUP : Fld := ⟨0xC, 2, 1, .w1c, 0⟩
def WDG.ERR_WRONG : Fld := ⟨0xC, 3, 1, .w1c, 0⟩
def WDG.ERR_KEY_BAD : Fld := ⟨0xC, 4, 1, .w1c, 0⟩
def WDG.ERR_EN_LOCKED : Fld := ⟨0xC, 5, 1, .w1c, 0⟩
def WDG.ERR_CNT_SAT : Fld := ⟨0xC, 6, 1, .w1c, 0⟩
def WDG.KICK_SLOT : Fld := ⟨0x40, 0, 5, .wo, 0⟩
def WDG.KICK_KEY : Fld := ⟨0x40, 16, 16, .wo, 0⟩
def WDG.EXPMAP_EXP : Fld := ⟨0x44, 0, 32, .w1c, 0⟩
def WDG.SERVED_SRV : Fld := ⟨0x48, 0, 32, .ro, 0⟩
def WDG.CAP_SLOT : Fld := ⟨0x4C, 0, 5, .ro, 0⟩
def WDG.CAP_CAUSE : Fld := ⟨0x4C, 5, 3, .ro, 0⟩
def WDG.CAP_MISSED : Fld := ⟨0x4C, 8, 8, .ro, 0⟩
def WDG.CAP_VALID : Fld := ⟨0x4C, 31, 1, .w1c, 0⟩
def WDG.CAP_T_T : Fld := ⟨0x50, 0, 32, .ro, 0⟩
def WDG.CAP_PC_STOPPED : Fld := ⟨0, 0, 1, .ro, 0⟩
def WDG.CAP_PC_PC : Fld := ⟨0, 2, 30, .ro, 0⟩
def WDG.SLOT_CFG_EN : Fld := ⟨0, 0, 1, .rwl, 0⟩
def WDG.SLOT_CFG_BIND : Fld := ⟨0, 1, 4, .rwl, 0⟩
def WDG.SLOT_CFG_CLS : Fld := ⟨0, 5, 3, .rwl, 1⟩
def WDG.SLOT_CFG_WARM : Fld := ⟨0, 8, 1, .rwl, 0⟩
def WDG.SLOT_CFG_DUP_C1 : Fld := ⟨0, 9, 1, .rwl, 0⟩
def WDG.SLOT_CFG_SUSP : Fld := ⟨0, 10, 3, .rwl, 0⟩
def WDG.SLOT_TIME_PERIOD : Fld := ⟨4, 0, 16, .rwl, 0x64⟩
def WDG.SLOT_TIME_WOPEN : Fld := ⟨4, 16, 16, .rwl, 0⟩
def WDG.SLOT_CNT_EXP : Fld := ⟨8, 0, 8, .ro, 0⟩
def WDG.SLOT_CNT_DUP : Fld := ⟨8, 8, 8, .ro, 0⟩
def WDG.SLOT_CNT_EARLY : Fld := ⟨8, 16, 8, .ro, 0⟩
def WDG.SLOT_CNT_LATE : Fld := ⟨8, 24, 7, .ro, 0⟩
def WDG.SLOT_CNT_SAT : Fld := ⟨8, 31, 1, .w1c, 0⟩
def WDG.SLOT_SVC_TICK : Fld := ⟨0xC, 0, 32, .ro, 0⟩
def WDG.CAP_SVC_TICK : Fld := ⟨0, 0, 32, .ro, 0⟩

def rowsWDG : List RegRow := [
  ⟨0, 1, 4, [⟨0, 0, 8, .ro, 1⟩, ⟨0, 8, 8, .ro, 0⟩, ⟨0, 16, 16, .ro, 0xE71⟩]⟩,
  ⟨4, 1, 4, [⟨4, 0, 8, .ro, 0xB1⟩]⟩,
  ⟨8, 1, 4, [WDG.STATUS_BOOT_ARMED, WDG.STATUS_BOOT_FAILS]⟩,
  ⟨0xC, 1, 4, [WDG.ERR_EXPIRED, WDG.ERR_EARLY, WDG.ERR_DUP, WDG.ERR_WRONG, WDG.ERR_KEY_BAD, WDG.ERR_EN_LOCKED, WDG.ERR_CNT_SAT]⟩,
  ⟨0x10, 1, 4, [⟨0x10, 0, 7, .w1s, 0⟩]⟩,
  ⟨0x14, 1, 4, [⟨0x14, 0, 7, .rw, 0⟩]⟩,
  ⟨0x18, 1, 4, [⟨0x18, 0, 7, .w1c, 0⟩]⟩,
  ⟨0x1C, 1, 4, [⟨0x1C, 0, 7, .rw, 0⟩]⟩,
  ⟨0x20, 1, 4, [⟨0x20, 0, 1, .rw, 0⟩, ⟨0x20, 4, 4, .rw, 0⟩]⟩,
  ⟨0x24, 1, 4, [⟨0x24, 0, 4, .rw, 0xF⟩]⟩,
  ⟨0x40, 1, 4, [WDG.KICK_SLOT, WDG.KICK_KEY]⟩,
  ⟨0x44, 1, 4, [WDG.EXPMAP_EXP]⟩,
  ⟨0x48, 1, 4, [WDG.SERVED_SRV]⟩,
  ⟨0x4C, 1, 4, [WDG.CAP_SLOT, WDG.CAP_CAUSE, WDG.CAP_MISSED, WDG.CAP_VALID]⟩,
  ⟨0x50, 1, 4, [WDG.CAP_T_T]⟩,
  ⟨0x54, 2, 4, [WDG.CAP_PC_STOPPED, WDG.CAP_PC_PC]⟩,
  ⟨0x60, 6, 4, [WDG.CAP_PC_STOPPED, WDG.CAP_PC_PC]⟩,
  ⟨0x80, 32, 0x10, [WDG.SLOT_CFG_EN, WDG.SLOT_CFG_BIND, WDG.SLOT_CFG_CLS, WDG.SLOT_CFG_WARM, WDG.SLOT_CFG_DUP_C1, WDG.SLOT_CFG_SUSP]⟩,
  ⟨0x84, 32, 0x10, [WDG.SLOT_TIME_PERIOD, WDG.SLOT_TIME_WOPEN]⟩,
  ⟨0x88, 32, 0x10, [WDG.SLOT_CNT_EXP, WDG.SLOT_CNT_DUP, WDG.SLOT_CNT_EARLY, WDG.SLOT_CNT_LATE, WDG.SLOT_CNT_SAT]⟩,
  ⟨0x8C, 32, 0x10, [WDG.SLOT_SVC_TICK]⟩,
  ⟨0x280, 32, 4, [WDG.CAP_SVC_TICK]⟩]

/-! SEQ page (R238, R498, R499, R500, R501). -/

def SEQ.STATUS_STATE : Fld := ⟨8, 0, 3, .ro, 0⟩
def SEQ.STATUS_STEP : Fld := ⟨8, 4, 6, .ro, 0⟩
def SEQ.STATUS_PHASE : Fld := ⟨8, 10, 2, .ro, 0⟩
def SEQ.STATUS_TAB : Fld := ⟨8, 12, 2, .ro, 0⟩
def SEQ.STATUS_PEND : Fld := ⟨8, 14, 4, .ro, 0⟩
def SEQ.ERR_STEP_FAIL : Fld := ⟨0xC, 0, 1, .w1c, 0⟩
def SEQ.ERR_SLOW_OFF : Fld := ⟨0xC, 1, 1, .w1c, 0⟩
def SEQ.ERR_STUCK : Fld := ⟨0xC, 2, 1, .w1c, 0⟩
def SEQ.ERR_TAB_BUSY : Fld := ⟨0xC, 3, 1, .w1c, 0⟩
def SEQ.ERR_TAB_INVALID : Fld := ⟨0xC, 4, 1, .w1c, 0⟩
def SEQ.ERR_FORCED_OFF : Fld := ⟨0xC, 5, 1, .w1c, 0⟩
def SEQ.CFG_DEF_TMO : Fld := ⟨0x40, 0, 10, .rwl, 0x32⟩
def SEQ.DNCFG_TMO2 : Fld := ⟨0x44, 0, 10, .rwl, 0x14⟩
def SEQ.DNCFG_MINOFF : Fld := ⟨0x44, 16, 10, .rwl, 0xA⟩
def SEQ.FLMAP_UP_ST : Fld := ⟨0x48, 0, 8, .rwl, 0⟩
def SEQ.FLMAP_DOWN_ST : Fld := ⟨0x48, 8, 8, .rwl, 0⟩
def SEQ.FLMAP_SBY_ST : Fld := ⟨0x48, 16, 8, .rwl, 0⟩
def SEQ.FLMAP_UP_EN : Fld := ⟨0x48, 24, 1, .rwl, 0⟩
def SEQ.FLMAP_DOWN_EN : Fld := ⟨0x48, 25, 1, .rwl, 0⟩
def SEQ.FLMAP_SBY_EN : Fld := ⟨0x48, 26, 1, .rwl, 0⟩
def SEQ.TABSEL_TAB : Fld := ⟨0x4C, 0, 2, .rw, 0⟩
def SEQ.TABLEN_UP : Fld := ⟨0x50, 0, 7, .ro, 0⟩
def SEQ.TABLEN_DOWN : Fld := ⟨0x50, 8, 7, .ro, 0⟩
def SEQ.TABLEN_SBY_IN : Fld := ⟨0x50, 16, 7, .ro, 0⟩
def SEQ.TABLEN_SBY_OUT : Fld := ⟨0x50, 24, 7, .ro, 0⟩
def SEQ.LAST_TAB : Fld := ⟨0x54, 0, 2, .ro, 0⟩
def SEQ.LAST_STEP : Fld := ⟨0x54, 2, 6, .ro, 0⟩
def SEQ.LAST_CAUSE : Fld := ⟨0x54, 8, 4, .ro, 0⟩
def SEQ.LAST_OBJ : Fld := ⟨0x54, 12, 6, .ro, 0⟩
def SEQ.RUNT_T : Fld := ⟨0x58, 0, 24, .ro, 0⟩
def SEQ.RUNT_TAB : Fld := ⟨0x58, 24, 2, .ro, 0⟩
def SEQ.STUCK0_OUT : Fld := ⟨0x5C, 0, 32, .w1c, 0⟩
def SEQ.STUCK1_OUT : Fld := ⟨0x60, 0, 14, .w1c, 0⟩
def SEQ.STEP_A_OP : Fld := ⟨0, 0, 4, .rwl, 0⟩
def SEQ.STEP_A_OBJ : Fld := ⟨0, 4, 6, .rwl, 0⟩
def SEQ.STEP_A_KIND : Fld := ⟨0, 10, 4, .rwl, 0⟩
def SEQ.STEP_A_DISC : Fld := ⟨0, 14, 2, .rwl, 0⟩
def SEQ.STEP_A_PAR : Fld := ⟨0, 16, 1, .rwl, 0⟩
def SEQ.STEP_A_LEVEL : Fld := ⟨0, 17, 1, .rwl, 0⟩
def SEQ.STEP_B_DELAY : Fld := ⟨4, 0, 10, .rwl, 0⟩
def SEQ.STEP_B_DSCALE : Fld := ⟨4, 10, 2, .rwl, 0⟩
def SEQ.STEP_B_TMO : Fld := ⟨4, 12, 10, .rwl, 0⟩
def SEQ.STEP_B_TSCALE : Fld := ⟨4, 22, 2, .rwl, 0⟩
def SEQ.STEP_B_STATE : Fld := ⟨4, 24, 8, .rwl, 0⟩

def rowsSEQ : List RegRow := [
  ⟨0, 1, 4, [⟨0, 0, 8, .ro, 1⟩, ⟨0, 8, 8, .ro, 0⟩, ⟨0, 16, 16, .ro, 0x5E90⟩]⟩,
  ⟨4, 1, 4, [⟨4, 0, 8, .ro, 0xB1⟩]⟩,
  ⟨8, 1, 4, [SEQ.STATUS_STATE, SEQ.STATUS_STEP, SEQ.STATUS_PHASE, SEQ.STATUS_TAB, SEQ.STATUS_PEND]⟩,
  ⟨0xC, 1, 4, [SEQ.ERR_STEP_FAIL, SEQ.ERR_SLOW_OFF, SEQ.ERR_STUCK, SEQ.ERR_TAB_BUSY, SEQ.ERR_TAB_INVALID, SEQ.ERR_FORCED_OFF]⟩,
  ⟨0x10, 1, 4, [⟨0x10, 0, 6, .w1s, 0⟩]⟩,
  ⟨0x14, 1, 4, [⟨0x14, 0, 6, .rw, 0⟩]⟩,
  ⟨0x18, 1, 4, [⟨0x18, 0, 6, .w1c, 0⟩, ⟨0x18, 16, 3, .w1c, 0⟩]⟩,
  ⟨0x1C, 1, 4, [⟨0x1C, 0, 6, .rw, 0⟩, ⟨0x1C, 16, 3, .rw, 0⟩]⟩,
  ⟨0x20, 1, 4, [⟨0x20, 0, 1, .rw, 0⟩, ⟨0x20, 4, 4, .rw, 0⟩]⟩,
  ⟨0x24, 1, 4, [⟨0x24, 0, 4, .rw, 0xF⟩]⟩,
  ⟨0x40, 1, 4, [SEQ.CFG_DEF_TMO]⟩,
  ⟨0x44, 1, 4, [SEQ.DNCFG_TMO2, SEQ.DNCFG_MINOFF]⟩,
  ⟨0x48, 1, 4, [SEQ.FLMAP_UP_ST, SEQ.FLMAP_DOWN_ST, SEQ.FLMAP_SBY_ST, SEQ.FLMAP_UP_EN, SEQ.FLMAP_DOWN_EN, SEQ.FLMAP_SBY_EN]⟩,
  ⟨0x4C, 1, 4, [SEQ.TABSEL_TAB]⟩,
  ⟨0x50, 1, 4, [SEQ.TABLEN_UP, SEQ.TABLEN_DOWN, SEQ.TABLEN_SBY_IN, SEQ.TABLEN_SBY_OUT]⟩,
  ⟨0x54, 1, 4, [SEQ.LAST_TAB, SEQ.LAST_STEP, SEQ.LAST_CAUSE, SEQ.LAST_OBJ]⟩,
  ⟨0x58, 1, 4, [SEQ.RUNT_T, SEQ.RUNT_TAB]⟩,
  ⟨0x5C, 1, 4, [SEQ.STUCK0_OUT]⟩,
  ⟨0x60, 1, 4, [SEQ.STUCK1_OUT]⟩,
  ⟨0x100, 64, 8, [SEQ.STEP_A_OP, SEQ.STEP_A_OBJ, SEQ.STEP_A_KIND, SEQ.STEP_A_DISC, SEQ.STEP_A_PAR, SEQ.STEP_A_LEVEL]⟩,
  ⟨0x104, 64, 8, [SEQ.STEP_B_DELAY, SEQ.STEP_B_DSCALE, SEQ.STEP_B_TMO, SEQ.STEP_B_TSCALE, SEQ.STEP_B_STATE]⟩]

/-! FLAIL page (R259, R498, R499, R500, R501). -/

def FLAIL.STATUS_ROLE : Fld := ⟨8, 0, 2, .ro, 0⟩
def FLAIL.STATUS_LINE : Fld := ⟨8, 2, 1, .ro, 0⟩
def FLAIL.STATUS_HOLDING : Fld := ⟨8, 3, 1, .ro, 0⟩
def FLAIL.STATUS_BUSY : Fld := ⟨8, 4, 1, .ro, 0⟩
def FLAIL.ERR_ILLEGAL_WIDTH : Fld := ⟨0xC, 0, 1, .w1c, 0⟩
def FLAIL.ERR_COLLISION : Fld := ⟨0xC, 1, 1, .w1c, 0⟩
def FLAIL.ERR_ANN_CHECK : Fld := ⟨0xC, 2, 1, .w1c, 0⟩
def FLAIL.ERR_FRAME_TYPE : Fld := ⟨0xC, 3, 1, .w1c, 0⟩
def FLAIL.ERR_PAIR_HIGH : Fld := ⟨0xC, 4, 1, .w1c, 0⟩
def FLAIL.ERR_HOLD_EXP : Fld := ⟨0xC, 5, 1, .w1c, 0⟩
def FLAIL.ERR_STUCK_A : Fld := ⟨0xC, 6, 1, .w1c, 0⟩
def FLAIL.ERR_STUCK_B : Fld := ⟨0xC, 7, 1, .w1c, 0⟩
def FLAIL.ERR_DUP_ID : Fld := ⟨0xC, 8, 1, .w1c, 0⟩
def FLAIL.ERR_MASTER_LOST : Fld := ⟨0xC, 9, 1, .w1c, 0⟩
def FLAIL.ERR_MISMATCH : Fld := ⟨0xC, 10, 1, .w1c, 0⟩
def FLAIL.ERR_NOT_GRANTED : Fld := ⟨0xC, 11, 1, .w1c, 0⟩
def FLAIL.ERR_CNT_SAT : Fld := ⟨0xC, 12, 1, .w1c, 0⟩
def FLAIL.CFG_NODE_ID : Fld := ⟨0x40, 0, 10, .rwl, 0x3FF⟩
def FLAIL.CFG_MCAND : Fld := ⟨0x40, 10, 1, .rwl, 0⟩
def FLAIL.CFG_A_EN : Fld := ⟨0x40, 11, 1, .rwl, 0⟩
def FLAIL.CFG_B_EN : Fld := ⟨0x40, 12, 1, .rwl, 0⟩
def FLAIL.CFG_BRIDGE : Fld := ⟨0x40, 13, 1, .rwl, 0⟩
def FLAIL.CFG_JOIN : Fld := ⟨0x40, 14, 1, .rwl, 0⟩
def FLAIL.TIMING_TS : Fld := ⟨0x44, 0, 6, .rwl, 0x14⟩
def FLAIL.TIMING_HOPS : Fld := ⟨0x44, 8, 3, .rwl, 6⟩
def FLAIL.TIMING_STEP_T : Fld := ⟨0x44, 16, 8, .rwl, 0x16⟩
def FLAIL.ANN_PER : Fld := ⟨0x48, 0, 7, .rwl, 0xA⟩
def FLAIL.ANN_HOLD_MAX : Fld := ⟨0x48, 8, 14, .rwl, 0x3E8⟩
def FLAIL.ALCFG_ACT : Fld := ⟨0x4C, 0, 2, .rwl, 1⟩
def FLAIL.ALCFG_TX_SAFE : Fld := ⟨0x4C, 2, 1, .rwl, 1⟩
def FLAIL.ALCFG_TX_FAIL : Fld := ⟨0x4C, 3, 1, .rwl, 0⟩
def FLAIL.STATE_STATE : Fld := ⟨0x50, 0, 8, .ro, 0⟩
def FLAIL.STATE_MASTER_ID : Fld := ⟨0x50, 16, 10, .ro, 0x3FF⟩
def FLAIL.CTRL_ALARM : Fld := ⟨0x54, 0, 1, .wo, 0⟩
def FLAIL.MCTRL_OP : Fld := ⟨0x58, 0, 3, .wo, 0⟩
def FLAIL.MCTRL_ARG : Fld := ⟨0x58, 8, 8, .wo, 0⟩
def FLAIL.MSTAT_TARGET : Fld := ⟨0x5C, 0, 8, .ro, 0⟩
def FLAIL.MSTAT_AUTO : Fld := ⟨0x5C, 8, 1, .ro, 0⟩
def FLAIL.MSTAT_HOLDT : Fld := ⟨0x5C, 16, 16, .ro, 0⟩
def FLAIL.DGCFG_REF_SRC : Fld := ⟨0x60, 0, 1, .rwl, 0⟩
def FLAIL.DGCFG_ID_AUTO : Fld := ⟨0x60, 1, 1, .rwl, 0⟩
def FLAIL.DGCFG_GROUP : Fld := ⟨0x60, 4, 4, .rwl, 0⟩
def FLAIL.DGCFG_MAXN : Fld := ⟨0x60, 12, 10, .rwl, 0⟩
def FLAIL.DGREF_LO_REF : Fld := ⟨0x64, 0, 32, .rw, 0⟩
def FLAIL.DGREF_HI_REF : Fld := ⟨0x68, 0, 32, .rw, 0⟩
def FLAIL.DGOWN_LO_OWN : Fld := ⟨0x6C, 0, 32, .ro, 0⟩
def FLAIL.DGOWN_HI_OWN : Fld := ⟨0x70, 0, 32, .ro, 0⟩
def FLAIL.DGRES_RESULT : Fld := ⟨0x74, 0, 3, .ro, 0⟩
def FLAIL.DGRES_FIRST : Fld := ⟨0x74, 8, 6, .ro, 0⟩
def FLAIL.DGRES_NDIFF : Fld := ⟨0x74, 16, 7, .ro, 0⟩
def FLAIL.DGRES_DISSENT : Fld := ⟨0x74, 23, 1, .ro, 0⟩
def FLAIL.DGRES_GROUP : Fld := ⟨0x74, 24, 4, .ro, 0⟩
def FLAIL.IDRES_NDISS : Fld := ⟨0x78, 0, 11, .ro, 0⟩
def FLAIL.IDRES_TRUNC : Fld := ⟨0x78, 11, 1, .ro, 0⟩
def FLAIL.DISS_ID_L : Fld := ⟨0, 0, 10, .ro, 0⟩
def FLAIL.DISS_VAL_L : Fld := ⟨0, 15, 1, .ro, 0⟩
def FLAIL.DISS_ID_H : Fld := ⟨0, 16, 10, .ro, 0⟩
def FLAIL.DISS_VAL_H : Fld := ⟨0, 31, 1, .ro, 0⟩
def FLAIL.VIOL_COUNT : Fld := ⟨0x9C, 0, 16, .ro, 0⟩
def FLAIL.VIOL_SAT : Fld := ⟨0x9C, 31, 1, .w1c, 0⟩
def FLAIL.CNT1_STEPS : Fld := ⟨0xA0, 0, 15, .ro, 0⟩
def FLAIL.CNT1_STEPS_SAT : Fld := ⟨0xA0, 15, 1, .w1c, 0⟩
def FLAIL.CNT1_RESYNCS : Fld := ⟨0xA0, 16, 15, .ro, 0⟩
def FLAIL.CNT1_RES_SAT : Fld := ⟨0xA0, 31, 1, .w1c, 0⟩
def FLAIL.CNT2_RX : Fld := ⟨0xA4, 0, 15, .ro, 0⟩
def FLAIL.CNT2_RX_SAT : Fld := ⟨0xA4, 15, 1, .w1c, 0⟩
def FLAIL.CNT2_TX : Fld := ⟨0xA4, 16, 15, .ro, 0⟩
def FLAIL.CNT2_TX_SAT : Fld := ⟨0xA4, 31, 1, .w1c, 0⟩
def FLAIL.CNT3_ROUNDS : Fld := ⟨0xA8, 0, 15, .ro, 0⟩
def FLAIL.CNT3_RND_SAT : Fld := ⟨0xA8, 15, 1, .w1c, 0⟩
def FLAIL.CNT3_MISM : Fld := ⟨0xA8, 16, 15, .ro, 0⟩
def FLAIL.CNT3_MISM_SAT : Fld := ⟨0xA8, 31, 1, .w1c, 0⟩

def rowsFLAIL : List RegRow := [
  ⟨0, 1, 4, [⟨0, 0, 8, .ro, 1⟩, ⟨0, 8, 8, .ro, 0⟩, ⟨0, 16, 16, .ro, 0xF1A1⟩]⟩,
  ⟨4, 1, 4, [⟨4, 0, 8, .ro, 0xB1⟩]⟩,
  ⟨8, 1, 4, [FLAIL.STATUS_ROLE, FLAIL.STATUS_LINE, FLAIL.STATUS_HOLDING, FLAIL.STATUS_BUSY]⟩,
  ⟨0xC, 1, 4, [FLAIL.ERR_ILLEGAL_WIDTH, FLAIL.ERR_COLLISION, FLAIL.ERR_ANN_CHECK, FLAIL.ERR_FRAME_TYPE, FLAIL.ERR_PAIR_HIGH, FLAIL.ERR_HOLD_EXP, FLAIL.ERR_STUCK_A, FLAIL.ERR_STUCK_B, FLAIL.ERR_DUP_ID, FLAIL.ERR_MASTER_LOST, FLAIL.ERR_MISMATCH, FLAIL.ERR_NOT_GRANTED, FLAIL.ERR_CNT_SAT]⟩,
  ⟨0x10, 1, 4, [⟨0x10, 0, 13, .w1s, 0⟩]⟩,
  ⟨0x14, 1, 4, [⟨0x14, 0, 13, .rw, 0⟩]⟩,
  ⟨0x18, 1, 4, [⟨0x18, 0, 13, .w1c, 0⟩, ⟨0x18, 16, 5, .w1c, 0⟩]⟩,
  ⟨0x1C, 1, 4, [⟨0x1C, 0, 13, .rw, 0⟩, ⟨0x1C, 16, 5, .rw, 0⟩]⟩,
  ⟨0x20, 1, 4, [⟨0x20, 0, 1, .rw, 0⟩, ⟨0x20, 4, 4, .rw, 0⟩]⟩,
  ⟨0x24, 1, 4, [⟨0x24, 0, 4, .rw, 0xF⟩]⟩,
  ⟨0x40, 1, 4, [FLAIL.CFG_NODE_ID, FLAIL.CFG_MCAND, FLAIL.CFG_A_EN, FLAIL.CFG_B_EN, FLAIL.CFG_BRIDGE, FLAIL.CFG_JOIN]⟩,
  ⟨0x44, 1, 4, [FLAIL.TIMING_TS, FLAIL.TIMING_HOPS, FLAIL.TIMING_STEP_T]⟩,
  ⟨0x48, 1, 4, [FLAIL.ANN_PER, FLAIL.ANN_HOLD_MAX]⟩,
  ⟨0x4C, 1, 4, [FLAIL.ALCFG_ACT, FLAIL.ALCFG_TX_SAFE, FLAIL.ALCFG_TX_FAIL]⟩,
  ⟨0x50, 1, 4, [FLAIL.STATE_STATE, FLAIL.STATE_MASTER_ID]⟩,
  ⟨0x54, 1, 4, [FLAIL.CTRL_ALARM]⟩,
  ⟨0x58, 1, 4, [FLAIL.MCTRL_OP, FLAIL.MCTRL_ARG]⟩,
  ⟨0x5C, 1, 4, [FLAIL.MSTAT_TARGET, FLAIL.MSTAT_AUTO, FLAIL.MSTAT_HOLDT]⟩,
  ⟨0x60, 1, 4, [FLAIL.DGCFG_REF_SRC, FLAIL.DGCFG_ID_AUTO, FLAIL.DGCFG_GROUP, FLAIL.DGCFG_MAXN]⟩,
  ⟨0x64, 1, 4, [FLAIL.DGREF_LO_REF]⟩,
  ⟨0x68, 1, 4, [FLAIL.DGREF_HI_REF]⟩,
  ⟨0x6C, 1, 4, [FLAIL.DGOWN_LO_OWN]⟩,
  ⟨0x70, 1, 4, [FLAIL.DGOWN_HI_OWN]⟩,
  ⟨0x74, 1, 4, [FLAIL.DGRES_RESULT, FLAIL.DGRES_FIRST, FLAIL.DGRES_NDIFF, FLAIL.DGRES_DISSENT, FLAIL.DGRES_GROUP]⟩,
  ⟨0x78, 1, 4, [FLAIL.IDRES_NDISS, FLAIL.IDRES_TRUNC]⟩,
  ⟨0x7C, 8, 4, [FLAIL.DISS_ID_L, FLAIL.DISS_VAL_L, FLAIL.DISS_ID_H, FLAIL.DISS_VAL_H]⟩,
  ⟨0x9C, 1, 4, [FLAIL.VIOL_COUNT, FLAIL.VIOL_SAT]⟩,
  ⟨0xA0, 1, 4, [FLAIL.CNT1_STEPS, FLAIL.CNT1_STEPS_SAT, FLAIL.CNT1_RESYNCS, FLAIL.CNT1_RES_SAT]⟩,
  ⟨0xA4, 1, 4, [FLAIL.CNT2_RX, FLAIL.CNT2_RX_SAT, FLAIL.CNT2_TX, FLAIL.CNT2_TX_SAT]⟩,
  ⟨0xA8, 1, 4, [FLAIL.CNT3_ROUNDS, FLAIL.CNT3_RND_SAT, FLAIL.CNT3_MISM, FLAIL.CNT3_MISM_SAT]⟩]

/-! MARG page (R273, R498, R499, R500, R501). -/

def MARG.STATUS_ANY : Fld := ⟨8, 0, 1, .ro, 0⟩
def MARG.STATUS_ARMED : Fld := ⟨8, 1, 1, .ro, 0⟩
def MARG.STATUS_BUF : Fld := ⟨8, 2, 2, .ro, 0⟩
def MARG.ERR_MODE : Fld := ⟨0xC, 0, 1, .w1c, 0⟩
def MARG.ERR_RANGE : Fld := ⟨0xC, 1, 1, .w1c, 0⟩
def MARG.ERR_SYNC_DROP : Fld := ⟨0xC, 2, 1, .w1c, 0⟩
def MARG.ERR_CLAMPED : Fld := ⟨0xC, 3, 1, .w1c, 0⟩
def MARG.ERR_SNAP_LOST : Fld := ⟨0xC, 4, 1, .w1c, 0⟩
def MARG.ERR_CNT_SAT : Fld := ⟨0xC, 5, 1, .w1c, 0⟩
def MARG.CTRL_APPLY : Fld := ⟨0x40, 0, 1, .wo, 0⟩
def MARG.CTRL_DISARM : Fld := ⟨0x40, 1, 1, .wo, 0⟩
def MARG.SYNC_ST : Fld := ⟨0x44, 0, 8, .rw, 0⟩
def MARG.SYNC_ARM : Fld := ⟨0x44, 8, 1, .rwh, 0⟩
def MARG.SNAPSEQ_SEQ : Fld := ⟨0x48, 0, 32, .ro, 0⟩
def MARG.SNAPCNT_LOST : Fld := ⟨0x4C, 0, 15, .ro, 0⟩
def MARG.SNAPCNT_LOST_SAT : Fld := ⟨0x4C, 15, 1, .w1c, 0⟩
def MARG.SNAPCNT_TAKEN : Fld := ⟨0x4C, 16, 15, .ro, 0⟩
def MARG.SNAPCNT_TAKEN_SAT : Fld := ⟨0x4C, 31, 1, .w1c, 0⟩
def MARG.OUT_CUR : Fld := ⟨0, 0, 6, .ro, 0⟩
def MARG.OUT_NEXT : Fld := ⟨0, 8, 6, .rw, 0⟩
def MARG.OUT_PEND : Fld := ⟨0, 16, 1, .rwh, 0⟩
def MARG.OUT_CLAMP : Fld := ⟨0, 17, 1, .ro, 0⟩

def rowsMARG : List RegRow := [
  ⟨0, 1, 4, [⟨0, 0, 8, .ro, 1⟩, ⟨0, 8, 8, .ro, 0⟩, ⟨0, 16, 16, .ro, 0xA126⟩]⟩,
  ⟨4, 1, 4, [⟨4, 0, 8, .ro, 0xB1⟩]⟩,
  ⟨8, 1, 4, [MARG.STATUS_ANY, MARG.STATUS_ARMED, MARG.STATUS_BUF]⟩,
  ⟨0xC, 1, 4, [MARG.ERR_MODE, MARG.ERR_RANGE, MARG.ERR_SYNC_DROP, MARG.ERR_CLAMPED, MARG.ERR_SNAP_LOST, MARG.ERR_CNT_SAT]⟩,
  ⟨0x10, 1, 4, [⟨0x10, 0, 6, .w1s, 0⟩]⟩,
  ⟨0x14, 1, 4, [⟨0x14, 0, 6, .rw, 0⟩]⟩,
  ⟨0x18, 1, 4, [⟨0x18, 0, 6, .w1c, 0⟩]⟩,
  ⟨0x1C, 1, 4, [⟨0x1C, 0, 6, .rw, 0⟩]⟩,
  ⟨0x20, 1, 4, [⟨0x20, 0, 1, .rw, 0⟩, ⟨0x20, 4, 4, .rw, 0⟩]⟩,
  ⟨0x24, 1, 4, [⟨0x24, 0, 4, .rw, 0xF⟩]⟩,
  ⟨0x40, 1, 4, [MARG.CTRL_APPLY, MARG.CTRL_DISARM]⟩,
  ⟨0x44, 1, 4, [MARG.SYNC_ST, MARG.SYNC_ARM]⟩,
  ⟨0x48, 1, 4, [MARG.SNAPSEQ_SEQ]⟩,
  ⟨0x4C, 1, 4, [MARG.SNAPCNT_LOST, MARG.SNAPCNT_LOST_SAT, MARG.SNAPCNT_TAKEN, MARG.SNAPCNT_TAKEN_SAT]⟩,
  ⟨0x80, 38, 4, [MARG.OUT_CUR, MARG.OUT_NEXT, MARG.OUT_PEND, MARG.OUT_CLAMP]⟩]

end Sys2Proof.Machine
end

