-- ==== Sys2Proof/Machine/Pages.lean ====
section
/-! DEFINITION. The page index (R497, R503): which pages are in use, their instance, their last register and their
field rows; and the reset word of every register. -/

namespace Sys2Proof.Machine

/-- A page in use: its number, its instance (R498), the offset of its last register (R503) and its rows. -/
structure PageRow where
  num : Nat
  inst : Nat
  last : Nat
  rows : List RegRow
  deriving DecidableEq, Repr

def pagesSys : List PageRow := [
  ⟨0x00, 0, 0xA0, rowsDEV⟩,
  ⟨0x01, 0, 0xBC, rowsCLK⟩,
  ⟨0x02, 0, 0xFC, rowsENG⟩,
  ⟨0x03, 0, 0xFC, rowsHIF⟩,
  ⟨0x04, 0, 0x3FC, rowsCQE⟩,
  ⟨0x05, 0, 0x1FC, rowsARB⟩,
  ⟨0x06, 0, 0x19C, rowsINT⟩,
  ⟨0x07, 0, 0x3FC, rowsFLT⟩,
  ⟨0x08, 0, 0x2FC, rowsWDG⟩,
  ⟨0x09, 0, 0x2FC, rowsSEQ⟩,
  ⟨0x0A, 0, 0xA8, rowsFLAIL⟩,
  ⟨0x0B, 0, 0x114, rowsMARG⟩,
  ⟨0x0C, 0, 0x3FC, rowsPHX0⟩,
  ⟨0x0D, 1, 0x3E0, rowsPHX1⟩]

def pagesRail : List PageRow := [
  ⟨0x10, 0, 0x13C, rowsRAIL⟩,
  ⟨0x11, 1, 0x13C, rowsRAIL⟩,
  ⟨0x12, 2, 0x13C, rowsRAIL⟩,
  ⟨0x13, 3, 0x13C, rowsRAIL⟩,
  ⟨0x14, 4, 0x13C, rowsRAIL⟩,
  ⟨0x15, 5, 0x13C, rowsRAIL⟩,
  ⟨0x16, 6, 0x13C, rowsRAIL⟩,
  ⟨0x17, 7, 0x13C, rowsRAIL⟩,
  ⟨0x18, 8, 0x13C, rowsRAIL⟩,
  ⟨0x19, 9, 0x13C, rowsRAIL⟩,
  ⟨0x1A, 10, 0x13C, rowsRAIL⟩,
  ⟨0x1B, 11, 0x13C, rowsRAIL⟩]

def pagesPower : List PageRow := [
  ⟨0x1C, 0, 0xA0, rowsBUSC⟩,
  ⟨0x1D, 0, 0x7C, rowsCHG⟩,
  ⟨0x1E, 0, 0x70, rowsPORT⟩,
  ⟨0x20, 0, 0x140, rowsBUCK⟩,
  ⟨0x21, 1, 0x13C, rowsBUCK⟩,
  ⟨0x22, 0, 0x160, rowsLDO⟩,
  ⟨0x23, 0, 0x2B0, rowsSUPV⟩]

def pagesData : List PageRow := [
  ⟨0x24, 0, 0x1FC, rowsADC⟩,
  ⟨0x25, 0, 0x37C, rowsACC⟩,
  ⟨0x26, 1, 0x37C, rowsACC⟩,
  ⟨0x27, 0, 0x39C, rowsTHM⟩,
  ⟨0x28, 0, 0x84, rowsRTC⟩,
  ⟨0x29, 0, 0x74, rowsTIME⟩,
  ⟨0x2A, 0, 0x4C, rowsTWI⟩,
  ⟨0x2B, 1, 0x4C, rowsTWI⟩,
  ⟨0x2C, 0, 0xBC, rowsOTP⟩,
  ⟨0x2D, 0, 0x17C, rowsNVM⟩,
  ⟨0x2E, 0, 0x58, rowsECC⟩,
  ⟨0x2F, 0, 0xFC, rowsLOFT⟩,
  ⟨0x30, 0, 0x2FC, rowsLOG⟩,
  ⟨0x31, 0, 0x7C, rowsSEC⟩,
  ⟨0x32, 0, 0x8C, rowsGPIO⟩]

/-- The page index of R503. -/
def pageIndex : List PageRow := pagesSys ++ pagesRail ++ pagesPower ++ pagesData

def findPage : List PageRow → Nat → Option PageRow
  | [], _ => none
  | p :: t, n => if p.num = n then some p else findPage t n

/-- The index row of a page number, or none where the page is not in use (R497). -/
def pageOf (n : Nat) : Option PageRow := findPage pageIndex n

/-- The value every register takes at its reset (R19), by its key. A key is page × 0x400 + offset (R11), plus
0x10000 × (n + 1) for the copy of context n of a register held per context (R502). CTXSEL takes the context's
own number (R366) and PAGE_ID its page's instance (R498); node 0 of THM is enabled and
anchored to source 5 (R307); the Owl's boot and engine slots have their own bindings (R397); event 135 has the class C0 and the
events after it have none (R385). (DESIGN CHOICE, log 3.) -/
def resetWord (k : Nat) : Word :=
  let a := k % 0x10000
  let o := a % 0x400
  match pageOf (a / 0x400) with
  | none => 0
  | some p =>
    match rowAt p.rows o with
    | none => 0
    | some r =>
      if o = 0 then BitVec.ofNat 32 (rowReset r + p.inst <<< 8)
      else if a = 0x9C40 then 0x05000001
      else if a = 0x1840 then BitVec.ofNat 32 (k / 0x10000 - 1)
      else if a = 0x1D24 then 0x00010101
      else if 0x1D28 ≤ a ∧ a < 0x1D40 then 0
      else if a = 0x2080 then 0x13E
      else if a = 0x2084 then 2000
      else if 0x2200 ≤ a ∧ a < 0x2280 ∧ o % 16 = 0 then BitVec.ofNat 32 (0x131 + 2 * ((a - 0x2200) / 16))
      else BitVec.ofNat 32 (rowReset r)

end Sys2Proof.Machine
end

