-- ==== Sys2Proof/Machine/State.lean ====
section
/-! DEFINITION. The state of the device: its register file, the stores behind its register windows, its memories,
and the state the spec gives its blocks without a register for it. Plain data throughout. -/

namespace Sys2Proof.Machine

open Sys2Proof

/-- Why the machine stops with a fault. The block has no rule under which a command stops it. (DEDUCED, log 13.) -/
inductive Fault where
  /-- Raised by nobody: every command of the table has an effect in every state. Safe. -/
  | none
  deriving DecidableEq, Repr

/-- Why a command has no meaning. (DEDUCED, log 13.) -/
inductive Refusal where
  /-- Raised by the dispatch for a command whose meaning is not written. Safe: nothing is claimed of it. -/
  | notModelled (mnemonic : String)
  deriving DecidableEq, Repr

/-- A submission entry (R327). -/
structure Entry where
  w0 : Word
  a0 : Word
  a1 : Word
  a2 : Word
  deriving DecidableEq, Repr

/-- Where a fetched command stands (R330): waiting for its engine and its resources, or running. -/
inductive Phase where
  | waiting
  | running
  deriving DecidableEq, Repr

/-- A fetched command (R329): its tag, context, cookie, QUIET flag, opcode and arguments, the copy of the data
buffer taken at the fetch, whether its context was reset since (`live` false, R324), its progress (R344), and the tick of
its first request for each group it has asked for (R344, R348). -/
structure Cmd where
  tag : Nat
  ctx : Fin 8
  cookie : Nat
  quiet : Bool
  op : Nat
  a0 : Word
  a1 : Word
  a2 : Word
  buf : List Byte
  live : Bool
  phase : Phase
  prog : Nat
  aux : Nat
  ages : List (Nat × Nat)
  deriving DecidableEq, Repr

/-- An unconsumed completion (R331, R332): its slot, its QUIET flag, and the tick it was written. -/
structure Cpl where
  slot : Nat
  quiet : Bool
  born : Nat
  deriving DecidableEq, Repr

/-- What a host context has beside its registers: the status of its previous frame and the sequence number that
frame carried (R317), its replay buffer (R314), the data of its last read, the entries waiting in its submission
ring, its unconsumed completions, the two conditions of R332, an open violation window (R322), and the gap that
follows CLAIM_DONE (R357). -/
structure CtxHid where
  lastSt : Nat
  lastSeq : Nat
  replay : List Word
  data : List Word
  sq : List Entry
  cq : List Cpl
  irqThr : Bool
  irqTmo : Bool
  vwin : Bool
  gap : Bool
  deriving DecidableEq, Repr

/-- The origin of an arbiter request (R344). -/
inductive Org where
  | tag (t : Nat)
  | engine
  | direct
  deriving DecidableEq, Repr

/-- A request in, or waiting outside, an arbiter queue (R344, R345). -/
structure Req where
  who : Nat
  org : Org
  age : Nat
  prog : Nat
  inq : Bool
  deriving DecidableEq, Repr

/-- A grant: the requester, its origin, the age and progress of its request, and the tick it was given. -/
structure Grant where
  who : Nat
  org : Org
  age : Nat
  prog : Nat
  since : Nat
  deriving DecidableEq, Repr

/-- A raise on its way to the collector (R367): its event, its class, its DETAIL where its source's chapter states one,
and whether it was forced for test (R382). -/
structure RaiseReq where
  ev : Nat
  cls : Nat
  detail : Option Nat
  forced : Bool
  deriving DecidableEq, Repr

/-- The terms of a loop's compensator with 14 fraction bits (R65, R69) and its two clamp flags. -/
structure Loop where
  acc : Int
  y1 : Int
  y2 : Int
  ePrev : Int
  hiC : Bool
  loC : Bool
  deriving DecidableEq, Repr

/-- A loop identification run (R92 to R95): the shift register of its sequence with its taps, samples since the chip began,
samples of the running period and periods done, the sum of e over the running period and over the preceding one, samples
beyond the guard in a row, a halving due at the next chip, the amplitude and the target it started from; and of the stored
proposal, the target it was made at and whether it has gone stale (R99). -/
structure LidHid where
  taps : Nat
  reg : Nat
  chip : Nat
  n : Nat
  pers : Nat
  sum : Int
  prev : Int
  ovr : Nat
  halve : Bool
  amp : Nat
  vset0 : Nat
  propV : Nat
  stale : Bool
  deriving DecidableEq, Repr

/-- What a rail holds beside its page: the feed-forward filter in 2^−16 of VIN_FF's step (R72), the loop's terms with 14
fraction bits (R65, R69), its clamp flags, the run of end codes (R67), the remainder of the slew step, the soft-start clock
in samples and the target it runs to (R78, R80), the slew of a RAMP in force (R79), a swap that waits for the next sample
and a copy that follows it (R88), an OV reaction that waits for it (R146), the counts of R136 to R141, and the identification
run. -/
structure RailHid where
  vf : Nat
  loop : Loop
  endRun : Nat
  endTold : Bool
  rem : Nat
  tau : Nat
  vt : Nat
  ssLate : Bool
  ssTold : Bool
  ramp : Option Nat
  swap : Bool
  copy : Bool
  ovOff : Bool
  cut : Bool
  unlim : Nat
  negCut : Bool
  negFree : Nat
  dMin : Nat
  cap : Option Nat
  lid : LidHid
  deriving DecidableEq, Repr

/-- A hint window (R116 to R119): its class, its edge, the total at acceptance and whether it was confirmed. -/
structure HintWin where
  cls : Nat
  rising : Bool
  total : Int
  conf : Bool
  deriving DecidableEq, Repr

/-- What a sheaf holds beside its block: blanking of step detection in samples (R113), the hint pre-bias, the one that
the next sample sets (R116), the value it falls from and the samples of the fall (R117, R118), the open window, the totals of the last periods (R121), the count of
periods below DROP, the hold of R124, the level a shed or add goes to, the shed phases in the order they left (R123), a
return to FULL that waits for the next period start (R122), and the participating set of the last one (R107). -/
structure SheafHid where
  blank : Nat
  pb : Int
  pbNext : Option Int
  pbFrom : Int
  pbLen : Nat
  pbLeft : Nat
  win : Option HintWin
  hist : List Int
  dwell : Nat
  hold : Bool
  goal : Nat
  cyc : Nat
  left : List Nat
  back : Bool
  last : List Nat
  deriving DecidableEq, Repr

/-- The output of a phase channel (R102): mid-level, following its schedule, held low for the rest of its period, or
high out of turn. -/
inductive Pwm where
  | mid
  | run
  | low
  | pulse
  deriving DecidableEq, Repr

/-- What a phase holds beside its block: its output, its angle (R107), its duty (R109), its on-time in steps of 250 ps (R75),
the periods in a row with its current out of family, with its trim at the bound, and with its IMON open (R128), and whether
its output is kept as it is for the rest of its period (R125, R134, R137). -/
structure PhaseHid where
  pwm : Pwm
  kept : Bool
  ang : Nat
  duty : Nat
  on : Nat
  oofI : Nat
  oofT : Nat
  oofO : Nat
  deriving DecidableEq, Repr

/-- What a buck holds beside its block: its reference in steps of 39.0625 µV (R260), the remainder of the slew step, the
soft-start clock in samples and its target, the slew of a RAMP in force, the counts of R206 and R208, the loop's terms, VBUS at
the last nine samples, 2 µs, the duty in 2^−16 of the period, none before its first sample, and a follower's trim in the same unit
(R202, R210), the peak limit of the cycle in 0.1 A (R208), the switch node: high-impedance, switching, or low (R206 to R209), the
angle of its leading edge in 1/1024 of the period and the period in ps (R205). -/
structure BuckHid where
  ref : Nat
  rem : Nat
  tau : Nat
  vt : Nat
  ssLate : Bool
  ssTold : Bool
  ramp : Option Nat
  unlim : Nat
  noSkip : Nat
  cut : Bool
  loop : Loop
  vins : List Nat
  duty : Option Nat
  trim : Int
  ipk : Nat
  sw : Pwm
  ang : Nat
  per : Nat
  deriving DecidableEq, Repr

/-- What the supervisor and the discharge logic hold of an output beside its registers: discharge engaged (R153), the
slew window open (R144) and the ends of that slew, an OV and a UV condition that stands (R146, R147), and the voltages of the
output and of a switch's input as last seen, in µV (R213). -/
structure OutHid where
  dis : Bool
  slew : Bool
  lo : Nat
  hi : Nat
  ovNow : Bool
  uvNow : Bool
  uv : Nat
  vin : Nat
  deriving DecidableEq, Repr

/-- A capture buffer (R269, R272): its 255 words before the CRC, its number, the tag of the ring command that asked
for it, and the pages of 32 bytes that FE7 has written (R347). -/
structure Snap where
  words : List Word
  seq : Nat
  tag : Option Nat
  pages : Nat
  deriving DecidableEq, Repr

/-- What FE0 and FE2 have yet to do: conditions of the present tick, and what fell due while the engine was stopped
(R31, R46, R47). -/
inductive Due where
  /-- Both feeds are lost. -/
  | feedsLost
  /-- The HOLDUP countdown is at 0, or VBUS below the floor. -/
  | drain
  | off
  | feedBack
  | on
  /-- The END of the running table. -/
  | tableDone
  /-- A step's timeout; of a pending parallel step, its number. -/
  | stepTmo (p : Option (Fin 64))
  | standby
  | service
  | svcEnd
  /-- REVALIDATE and WARM of DEV.MODE_REQ in HOLD. -/
  | reval
  | warm
  | floor
  | minoff
  /-- OFF and RESTART of DEV.MODE_REQ. -/
  | safeOff
  | restart
  deriving DecidableEq, Repr

/-- The times whose start the device keeps without a register for it. (DESIGN CHOICE, log 11.) -/
inductive Tmr where
  /-- The polling of a two-wire target (R485). -/
  | poll (i : Fin 2)
  /-- The opening of a context's calendar freeze (R471). -/
  | frz (c : Fin 8)
  /-- The last entry to WAKING (R40, R394). -/
  | waking
  /-- The release of a WAKE pin (R533). -/
  | released (i : Fin 4)
  /-- The end of the SERVICE timeout (R45). -/
  | service
  /-- The entry to HOLDUP, and the end of its countdown (R56). -/
  | holdup
  | cdZero
  /-- The delay of the sequencer's step, its latest action (R221), and the start of the timeout in force: of the step, of an
  unwinding's output or of the floor (R222, R227, R232). -/
  | delay
  | lastAct
  | act
  /-- The timeout of a pending parallel step (R223). -/
  | pend (k : Nat)
  /-- The sequencer's last write of an output's EN (R85). -/
  | seqEn (x : Nat)
  /-- The second timeout (R229) and the minimum off time (R233). -/
  | second
  | minoff
  /-- The storing of a rail's proposal (R101). -/
  | lidAge (n : Nat)
  /-- A hint window (R116) and the hold after a return to FULL (R124) of a rail's sheaf. -/
  | hint (r : Nat)
  | shedHold (r : Nat)
  /-- The off time of a hiccup (R138), and regulation without a limited period (R141). -/
  | hic (x : Nat)
  | retry (x : Nat)
  /-- The completion of an output's soft start (R148), the end of its slew (R144), the fall below its OFF threshold (R153). -/
  | ssAt (x : Nat)
  | slewEnd (x : Nat)
  | below (x : Nat)
  /-- The state that the bus converter is in (R170), the acceptance of a donor session (R174), and IN below TAPER_I. -/
  | busAt
  | donor
  | taper
  /-- The rise of an LDO (R211), and the clearing of an output's EN (R215). -/
  | rise (x : Nat)
  | offAt (x : Nat)
  /-- The NTC comparators' last change of class (R195, R196). -/
  | ntc
  /-- The return and the loss of a feed under confirmation (R160). -/
  | ret (p : Nat)
  | conf (p : Nat)
  /-- The Flail line: the fall of the last strobe and the end of the last step (R248), the last announcement (R250), the start of the
  lost timer (R245), of this node's hold (R249), of the frame in progress (R244), the last alarm (R256), the end of this node's
last frame (R251), and the last low seen on a line that is treated as busy (R244, R258). -/
  | strobe
  | stepEnd
  | ann
  | lost
  | hold
  | frame
  | alarm
  | frEnd
  | shut
  /-- SYNC.ARM cleared by leaving SERVICE (R263). -/
  | unarmed
  /-- The rise of REF_EN (R278), the start of a calibration point (R287). -/
  | ref
  | cal
  /-- The die above its budget (R298), the opening of a context's violation window (R322). -/
  | dieOver
  | vwin (c : Nat)
  /-- The forcing of an output into its safe state, and of one whose UV was armed (R155). -/
  | forced (x : Nat)
  | armed (x : Nat)
  deriving DecidableEq, Repr

/-- What the Owl holds of a slot beside its block (R388, R390, R395): enabled outside WAKING, its grid running, in its
first period, the tick its period began, an ending period that went unserved at that tick, the settings taken at the period's
start, and the tick of its engine's check-in in the period, if there is to be one (R534). -/
structure OwlHid where
  en : Bool
  run : Bool
  first : Bool
  start : Nat
  late : Bool
  per : Nat
  wopen : Nat
  cls : Nat
  warm : Bool
  dup1 : Bool
  susp : Nat
  pass : Option (Option Nat)
  deriving DecidableEq, Repr

/-- A finding of the tick (R392): its class, slot, cause (0 the saturation of a count) and requester, and whether ERR_MASK lets it raise. -/
structure OwlNote where
  cls : Nat
  slot : Nat
  cause : Nat
  who : Nat
  shown : Bool
  deriving DecidableEq, Repr

/-- What the bus converter and the ports hold beside their pages: the loops of R163 and the outer one that runs, its output in
2^−14 mV and the duty (R164), the middle of a master period, the lowest drive of the running period, whether a cap was
exceeded in it, the cap of the next and the phases of the last one (R107, R165), what the caps take off the pack-current
set-point and that set-point in mA (R165), the current ramp in mA with its remainder (R170), the state a LOSING port left
(R160), whether a port was lost through LOSING (R161), the feeds above 36.0 V in PARKED and the start-up path's reference in mV
(R167), a VBUS OV trip not yet recovered (R168), the end of the session in progress and its tick (R174, R175), the tick of its
acceptance, the node's reference in mV with its remainder (R170), and the millisecond and remainder of the energy count (R173). -/
structure BusHid where
  fLoop : Loop
  iLoop : Loop
  rLoop : Loop
  outer : Nat
  bump : Bool
  turn : Bool
  vOut : Int
  duty : Nat
  half : Bool
  dMin : Nat
  overCap : Bool
  cap : Option Nat
  last : List Nat
  ovr : Int
  iSet : Int
  ramp : Nat
  rampRem : Nat
  prevA : Nat
  prevB : Nat
  lostA : Bool
  lostB : Bool
  feedHi : Nat
  pathMv : Nat
  ovTrip : Bool
  ended : Bool
  endTick : Nat
  accepted : Nat
  nodeRef : Nat
  nodeRem : Nat
  eMs : Nat
  eRem : Nat
  deriving DecidableEq, Repr

/-- What the charger holds beside its page: I_cv in µA and the tick of its last step, the last I_state in 0.1 A and I_therm in
mA of a running FE2 (R181, R182), the LAMP register as the drivers took it (R199), the absence and the overvoltage that hardware
has found (R181); of FE2: the milliseconds in the present state, those in a row in which its exit condition has held (R184), the
parts of a second its timers have counted, in half milliseconds for the safety timer (R187), the charging time since the last
rest in ms (R191), the part of a second of LL.SECS and of OCV.AGE, the sum and count of VCELL over the running second of a rest
and the mean of the last whole one (R191), IPACK of the last 1,000 ms (R189), the NTC seen VALID since ABSENT was left (R195), a
probe running, the milliseconds since it or the one before began, and a probe made since the NTC became VALID (R196). -/
structure ChgHid where
  icv : Int
  icvAt : Nat
  iSt : Nat
  iTh : Nat
  lamps : Word
  gone : Bool
  cut : Bool
  stMs : Nat
  okMs : Nat
  safeHms : Nat
  phaseMs : Nat
  restMs : Nat
  llMs : Nat
  ageMs : Nat
  vSum : Nat
  vN : Nat
  vMean : Nat
  iHist : List Int
  ntcSeen : Bool
  probe : Bool
  probeMs : Nat
  probed : Bool
  deriving DecidableEq, Repr

/-- A step that a run has taken and that an unwinding reverses (R227): its table and step, a GPIO step or an ON step, its
object and the level driven. -/
structure Taken where
  tab : Nat
  step : Nat
  gpio : Bool
  obj : Nat
  level : Bool
  deriving DecidableEq, Repr

/-- What the sequencer holds beside its page (R238): the current step, 64 past the last; the pending parallel steps (R223);
the unwind list, latest first (R227); the tick the run began; a FLAIL_WAIT state that has been met (R247); an on request held
while SBY_IN runs, with its cause (R43, R234); outputs the host enabled in RISING (R227); and the unwinding is of an SBY_OUT run. -/
structure SeqHid where
  pc : Nat
  pends : List Nat
  uw : List Taken
  t0 : Nat
  hit : Bool
  onSby : Bool
  onCause : Nat
  hostOn : List Nat
  fromSby : Bool
  deriving DecidableEq, Repr

/-- What the Flail hardware holds beside its page: the states for which readiness is armed and the state that a hold is for (R249), what
it has in progress on the line
(0 nothing, 1 a step whose strobe is to go out, 2 an announcement, 3 a digest frame, 4 an identification frame, 5 a step after its
strobe, 6 the low of WAKE), the operations of MCTRL that wait
(R251), a STOP taken during a step, an alarm to send and one to repeat (R252), the loss of the master told (R245), the stuck
ports (R258), the alarm restarts of the round (R256), the frame that an
alarm stopped, the collisions of the frame in progress, the state for which a hold is to be judged at the end of the tick (R249), a synchronised copy to
be made there (R266),
an own DIGEST or IDENT frame whose end FE0 has still to act on (R257), the group of the node's own round (R256), a participating mode
that has been entered (R245), the context that TARGET strobes for (R251, R348), and the ports that the wake logic drives low with the
tick that ends it (R242). -/
structure FlailHid where
  armed : List Nat
  held : Nat
  frame : Nat
  mq : List (Nat × Nat)
  goto : Nat
  stop : Bool
  alarmReq : Bool
  alarmPend : Bool
  lost : Bool
  stuck : Nat
  restarts : Nat
  again : Nat
  colls : Nat
  judge : Option Nat
  sync : Bool
  fin : Nat
  grp : Nat
  entered : Bool
  tctx : Nat
  wakeOut : Nat × Nat
  deriving DecidableEq, Repr

/-- A channel's running accumulator (R282) and its tracker (R286); the tick after that of its last window boundary; and what the tick
before `upd` brought it: sum, count, lowest and highest code, which a clear in that tick does not take (R285, R286). -/
structure AccHid where
  sum : Nat
  cnt : Nat
  mn : Nat
  mx : Nat
  empty : Bool
  bnd : Nat
  upd : Nat
  nsum : Nat
  ncnt : Nat
  nmn : Nat
  nmx : Nat
  deriving DecidableEq, Repr

/-- The held points of ADC_CAL (R287): their channel; the zero's raw sum in 1/16 code, its NS and its expected code; the
computed GAIN and OFFSET; and the point being collected: the FULL step or the ZERO step, its NS, its expected code, its sum
and its samples. -/
structure CalHid where
  ch : Nat
  zero : Option (Nat × Nat × Nat)
  pair : Option (Nat × Int)
  act : Bool
  full : Bool
  ns : Nat
  e : Nat
  sum : Nat
  n : Nat
  deriving DecidableEq, Repr

/-- What the telemetry converters hold beside their page: the urgent request pending at each, with its channel, its ACC and the
250 ns at which it is done (R281), the 250 ns at which the entry in progress ends and the pass began (R279), the wrong results in a row of the two check references (R277), FE4's wish to start both tables once the reference is
ready (R274), and the calibration points. -/
structure AdcHid where
  urg0 : Option (Nat × Bool × Nat)
  urg1 : Option (Nat × Bool × Nat)
  conv0 : Nat × Nat
  conv1 : Nat × Nat
  chk0 : Nat
  chk1 : Nat
  auto : Bool
  cal : CalHid
  deriving DecidableEq, Repr

/-- What the model holds of a thermal node (R294 to R299), in 2^−16 °C: its three pole states, its anchor correction, its
temperatures of the last 100 updates (latest first), the updates in a row with an excessive rate, its anchor seen invalid
told, the host's anchor with the tick it lapses, the updates in a row below the hysteresis of its level, and those with a low
rate. -/
structure NodeHid where
  th1 : Int
  th2 : Int
  th3 : Int
  corr : Int
  hist : List Int
  seen : Nat
  fast : Nat
  ancTold : Bool
  hostT : Int
  hostEnd : Nat
  low : Nat
  slow : Nat
  deriving DecidableEq, Repr

/-- What the model holds beside its nodes: each term's power in µW (R295), the channels without a sample as of the last update, the tick after that of
the last update (R292), the die power's sum in µW and its updates over the running second, the die held at level
5 (R298), and the updates missed while FE3 was stopped (R305). -/
structure ThmHid where
  terms : Vector Int 32
  stale : List Nat
  done : Nat
  dSum : Nat
  dN : Nat
  dShed : Bool
  missed : Nat
  deriving DecidableEq, Repr

/-- A date and time of the calendar (R470). -/
structure Cal where
  sec : Nat
  min : Nat
  hour : Nat
  day : Nat
  month : Nat
  year : Nat
  deriving DecidableEq, Repr

/-- What the clocks hold beside their pages: each context's open freeze with its copy of the calendar (R471), the values held
in the pending set (R472), the flags set in FALLOW or PARKED whose raise waits for WAKING (R468, R474), inserted oscillator
cycles still to pass and the cycles since the last correction (R469), the part of an oscillator cycle in 10^−6; each context's latch of TIME.SEC and SECH (R476), TIME
loaded since WAKING (R475), the part of a nanosecond in 1/1,024,000,000, the slew in force and its microseconds to go (R479),
the last qualified PPS edge in ns, the edges missed since (R478), the tick of the last SET_NOW, the PPS edges of this tick, in
cycles of 40 ns after its start, and the calendar before the second that this tick has ended (R480). -/
structure ClkHid where
  freeze : Vector (Option (List Word)) 8
  held : Vector Nat 5
  due : Nat
  ins : Nat
  cyc : Nat
  frac : Nat
  latch : Vector (Option (Nat × Nat)) 8
  loaded : Bool
  part : Nat
  slew : Int
  slewLeft : Nat
  ppsLast : Nat
  missed : Nat
  setTick : Option Nat
  edges : List Nat
  second : Option Cal
  deriving DecidableEq, Repr

/-- What a two-wire controller holds of the transfer in progress: its command's tag; the data bytes done before the current
transaction; the phase (0 write, 1 read, 2 read with the pointer sent again, R494); the bytes acknowledged and the bytes
received in the current transaction; the data bytes read before it; the retries left (R490); waiting for a free bus; polling
(R485); a stretch abandoned with SCL still low (R489); and the status and result of a transfer that has ended while its engine is
stopped (R495). -/
structure TwiHid where
  tag : Option Nat
  p : Nat
  ph : Nat
  n : Nat
  ins : List Byte
  got : List Byte
  retries : Nat
  wait : Bool
  poll : Bool
  stretch : Bool
  fin : Option (Nat × Nat)
  deriving DecidableEq, Repr

/-- The states of the test access port (IEEE 1149.1, R524). (PRESUMED, log 61.) -/
inductive TapSt where
  | reset | idle
  | selDr | capDr | shDr | ex1Dr | pauDr | ex2Dr | updDr
  | selIr | capIr | shIr | ex1Ir | pauIr | ex2Ir | updIr
  deriving DecidableEq, Repr

/-- The state. -/
structure State where
  /-- The commands waiting, first in first out. -/
  pending : List Instr
  /-- The register file: every register that does not hold its reset word, by key, keys strictly rising. -/
  regs : List (Nat × Word)
  /-- System ticks of 1 µs since main power (R8). -/
  tick : Nat
  /-- The ticks at which times in progress began. -/
  since : List (Tmr × Nat)
  /-- The model's own: how many free values have been drawn. -/
  freeCtr : Nat
  /-- TIME: nanoseconds and seconds (R475). -/
  timeNs : Nat
  timeSec : Nat
  ctxs : Vector CtxHid 8
  /-- The fetched commands, in fetch order (R330). -/
  cmds : List Cmd
  /-- The context served last by the fetch (R329). -/
  rr : Nat
  /-- The nine resources (R338) and the six queues: the pool, TWI0, TWI1, NVMW, URG, FLAIL (R341, R344). -/
  grants : Vector (Option Grant) 9
  queues : Vector (List Req) 6
  /-- Direct grants whose context was quarantined or reset, which end at their boundary: resource and context (R350). -/
  doomed : List (Nat × Nat)
  /-- An ACTIVATE that ends with the WAKING it began (R459): what has been copied, bit 0 firmware and bit 1 bale, and 4 times the
  cause of a step that failed. -/
  act : Option Nat
  /-- The stall table entry in force (R341). -/
  slotW : Word
  /-- Raises that have not reached the collector yet. -/
  raiseQ : List RaiseReq
  /-- Events with an unacknowledged raise of class C2 or above, with the group each holds (R375). -/
  holds : List (Nat × Nat)
  /-- Records FE7 has not written to the log yet (R381), oldest first: two words each. -/
  logQ : List (Word × Word)
  /-- The C4 record is in the log queue: nothing more is logged (R377). -/
  logShut : Bool
  rails : Vector RailHid 12
  sheaves : Vector SheafHid 12
  phases : Vector PhaseHid 56
  bucks : Vector BuckHid 16
  outs : Vector OutHid 46
  /-- Outputs that went off since the sequencer last looked, with how: 0 EN cleared, 1 safe state, 2 hiccup or start
  short, 3 overvoltage, 4 latched off (R225, R230). -/
  offQ : List (Nat × Nat)
  /-- The two capture buffers (R269), oldest first, and the number of the next snapshot. -/
  snaps : List Snap
  snapNext : Nat
  /-- After a C4's capture: how many buffers FE7 has still to write (R270, R377). -/
  snapLeft : Option Nat
  /-- The latest sample of a telemetry channel (R272, R276), by channel, rising; a channel not listed reads 0. -/
  chan : List (Nat × Nat)
  /-- What the conditions of the present tick ask of FE0, with the cause of R43 (R46, R47); what an FE0 that is stopped has
  yet to take (R31, R61). -/
  due : List (Due × Nat)
  /-- Commands of an engine that is stopped, which it takes when it resumes (R31). -/
  later : List Instr
  /-- How far WAKING has come: 0 entered, 1 OTP read, 2 ECC checkers passed, 3 lockstep passed,
  4 lofts read, 5 image authentic, 6 bale loaded. -/
  boot : Nat
  /-- WAKING serves reads of DEV, FLT and LOG (R40). -/
  wakeRead : Bool
  /-- The filtered levels of WAKE0 to WAKE3, and which have been active since the accepted wake source (R533). -/
  wakeLvl : Nat
  wakeSeen : Nat
  /-- The release in progress has formed its off request (R45). -/
  wakeDone : Bool
  owls : Vector OwlHid 32
  /-- The Owl's findings of the tick, which raise once at its end (R391, R392). -/
  owlQ : List OwlNote
  /-- A WARM that findings and mismatches have asked for (R391, R400): 1 the Owl, 2 a lockstep mismatch. -/
  warmReq : Nat
  /-- The lockstep self-test of the WARM in progress has passed (R400, R401). -/
  warmTest : Bool
  /-- Engines halted by a mismatch since their last restart (R399), and a WARM that recovers one (R400). -/
  lsHalt : Nat
  lsWarm : Bool
  /-- The tick of the last mismatch recorded (R399). -/
  lsLast : Option Nat
  /-- The cycles of reference monitoring: XI is good (R407). -/
  xiGood : Bool
  /-- Islands in a droop episode: release steps still to come, and whether it was told as long (R408). -/
  droops : Vector (Nat × Bool) 16
  /-- Internal supplies out of window (R156), a bit each: 1 analogue, 2 PWM driver, 3 reference, 4 NVM. -/
  supOut : Nat
  bus : BusHid
  chg : ChgHid
  /-- A keep-alive overload of LDO0 in PARKED, held in I0 until WAKING raises it (R212). -/
  kaHeld : Bool
  seq : SeqHid
  flail : FlailHid
  /-- The latest tick with a qualified edge of a GPIO pin, the pins, and those of them whose bit of IRQ_PEND stood already: a clear in
  that tick does not take them (R511). -/
  gpioHit : Nat × Nat × Nat
  /-- The levels that the sequencer drives on its GPIO pins (R509). -/
  pinSeq : Nat
  accs : Vector AccHid 192
  adc : AdcHid
  nodes : Vector NodeHid 24
  thm : ThmHid
  /-- A silo write of the ROM loader that waits for the write port, and whether it fails verify (R35, R461). -/
  ldrWait : Option (Word × Bool)
  /-- NVM (R413): the bytes that are not erased (0xFF), by address, addresses strictly rising. -/
  nvm : List Host.Cell
  /-- The retirement table as loaded (R420): the base of each page or sector and whether it is in NVM, by index. -/
  retired : List (Nat × Bool)
  /-- A RETIRE has failed for want of a spare since the last WAKING (R420). -/
  retShort : Bool
  /-- The millisecond of the last raise for a corrected word of SRAM and of NVM (R415). -/
  ceMs : Option Nat × Option Nat
  /-- The sequence number of the next loft record (R423, R425). -/
  loftNext : Nat
  /-- The OTP rows that are not blank (R431), by number, rising: 0 to 255 the data rows, 256 + k spare Sk. -/
  otp : List (Nat × OtpRow)
  /-- The three copies of the control array (R431). -/
  otpCtl : BitVec 192 × BitVec 192 × BitVec 192
  /-- The overrides of coded rows (R438), by row, rising. -/
  otpOvr : List (Nat × BitVec 64)
  clk : ClkHid
  twis : Vector TwiHid 2
  /-- What revoked transfers keep, by tag: the retries left (R490) and the data bytes read (R494). -/
  twiGot : List (Nat × Nat × List Byte)
  /-- SPARE has been cleared by the host since the last RISING (R59, R131). -/
  spareClr : Bool
  /-- The device last entered FALLOW from LOCKOUT (R45, R63). -/
  wasLock : Bool
  /-- The die comparator has tripped and not re-armed (R526). -/
  dieTrip : Bool
  /-- VIO is absent (R516). -/
  vioOut : Bool
  /-- The test access port: its state, its instruction, the bit of its bypass register, the shift stage and the update latches of
  its boundary cells, and the bits that have left by TDO in the latest run of TCK (R524). -/
  tap : TapSt
  tapIns : TapIns
  tapBit : Bool
  bsCells : List Bool
  bsUpd : List Bool
  tdo : List Bool
  /-- The event that each IRQ_PEND bit concerned last, by page × 32 + bit, rising (R353, R499). -/
  irqEv : List (Nat × Nat)
  /-- GPIO.DRV at the last entry to SAFE or LOCKOUT, for pins that keep their state there (R510). -/
  pinKeep : Word
  deriving DecidableEq, Repr

/-- (DESIGN CHOICE, log 2; DEDUCED, log 21.) -/
def CtxHid.reset : CtxHid :=
  { lastSt := 0x0E, lastSeq := 0xFFFF, replay := [], data := [], sq := [], cq := [], irqThr := false,
    irqTmo := false, vwin := false, gap := false }

def Loop.reset : Loop := { acc := 0, y1 := 0, y2 := 0, ePrev := 0, hiC := false, loC := false }

def LidHid.reset : LidHid :=
  { taps := 0, reg := 0, chip := 0, n := 0, pers := 0, sum := 0, prev := 0, ovr := 0, halve := false, amp := 0, vset0 := 0,
    propV := 0, stale := false }

/-- (DESIGN CHOICE, log 2.) -/
def RailHid.reset : RailHid :=
  { vf := 0, loop := Loop.reset, endRun := 0, endTold := false, rem := 0,
    tau := 0, vt := 0, ssLate := false, ssTold := false, ramp := none, swap := false, copy := false, ovOff := false, cut := false,
    unlim := 64, negCut := false, negFree := 64, dMin := 0, cap := none, lid := LidHid.reset }

/-- (DESIGN CHOICE, log 2.) -/
def SheafHid.reset : SheafHid :=
  { blank := 0, pb := 0, pbNext := none, pbFrom := 0, pbLen := 0, pbLeft := 0, win := none, hist := [], dwell := 0, hold := false,
    goal := 0, cyc := 0, left := [], back := false, last := [] }

/-- (DESIGN CHOICE, log 2.) -/
def PhaseHid.reset : PhaseHid := { pwm := .mid, kept := false, ang := 0, duty := 0, on := 0, oofI := 0, oofT := 0, oofO := 0 }

/-- (DESIGN CHOICE, log 2.) -/
def BuckHid.reset : BuckHid :=
  { ref := 0, rem := 0, tau := 0, vt := 0, ssLate := false, ssTold := false, ramp := none, unlim := 64, noSkip := 64, cut := false,
    loop := Loop.reset, vins := [], duty := none, trim := 0, ipk := 45, sw := .mid, ang := 0, per := 454545 }

/-- (DESIGN CHOICE, log 2.) -/
def OutHid.reset : OutHid := { dis := false, slew := false, lo := 0, hi := 0, ovNow := false, uvNow := false, uv := 0, vin := 0 }
/-- (DESIGN CHOICE, log 2.) -/
def OwlHid.reset : OwlHid :=
  { en := false, run := false, first := false, start := 0, late := false, per := 0, wopen := 0, cls := 1, warm := false,
    dup1 := false, susp := 0, pass := none }

/-- (DESIGN CHOICE, log 2.) -/
def BusHid.reset : BusHid :=
  { fLoop := Loop.reset, iLoop := Loop.reset, rLoop := Loop.reset, outer := 0, bump := false, turn := false, vOut := 0, duty := 0, half := false, dMin := 65535,
    overCap := false, cap := none, last := [], ovr := 0, iSet := 0, ramp := 0, rampRem := 0, prevA := 0, prevB := 0, lostA := false,
    lostB := false, feedHi := 0, pathMv := 0, ovTrip := false, ended := false, endTick := 0, accepted := 0, nodeRef := 0,
    nodeRem := 0, eMs := 0, eRem := 0 }

/-- What the start-up path of the converter keeps where the rest of I3 goes off or is reset (R167, R176). -/
def BusHid.path (b : BusHid) : BusHid :=
  { BusHid.reset with fLoop := b.fLoop, outer := b.outer, vOut := b.vOut, duty := b.duty, half := b.half, last := b.last,
                      feedHi := b.feedHi, pathMv := b.pathMv }

/-- (DESIGN CHOICE, log 2.) -/
def ChgHid.reset : ChgHid :=
  { icv := 0, icvAt := 0, iSt := 0, iTh := 0, lamps := 0xC0082160, gone := false, cut := false, stMs := 0, okMs := 0, safeHms := 0,
    phaseMs := 0, restMs := 0, llMs := 0, ageMs := 0, vSum := 0, vN := 0, vMean := 0, iHist := [], ntcSeen := false, probe := false,
    probeMs := 0, probed := false }

/-- (DESIGN CHOICE, log 2.) -/
def SeqHid.reset : SeqHid :=
  { pc := 0, pends := [], uw := [], t0 := 0, hit := false, onSby := false, onCause := 0, hostOn := [], fromSby := false }

/-- (DESIGN CHOICE, log 2.) -/
def FlailHid.reset : FlailHid :=
  { armed := [], held := 0, frame := 0, mq := [], goto := 0, stop := false, alarmReq := false, alarmPend := false, lost := false,
    stuck := 0, restarts := 0, again := 0, colls := 0, judge := none, sync := false, fin := 0,
    grp := 0, entered := false, tctx := 0, wakeOut := (0, 0) }
/-- (DESIGN CHOICE, log 2.) -/
def AccHid.reset : AccHid :=
  { sum := 0, cnt := 0, mn := 0x3FFF, mx := 0, empty := true, bnd := 0, upd := 0, nsum := 0,
    ncnt := 0, nmn := 0x3FFF, nmx := 0 }

def CalHid.reset : CalHid :=
  { ch := 0, zero := none, pair := none, act := false, full := false, ns := 0, e := 0, sum := 0, n := 0 }

/-- (DESIGN CHOICE, log 2.) -/
def AdcHid.reset : AdcHid := { urg0 := none, urg1 := none, conv0 := (0, 0), conv1 := (0, 0), chk0 := 0, chk1 := 0, auto := false, cal := CalHid.reset }

/-- (DESIGN CHOICE, log 2.) -/
def NodeHid.reset : NodeHid :=
  { th1 := 0, th2 := 0, th3 := 0, corr := 0, hist := [], seen := 0, fast := 0, ancTold := false, hostT := 0, hostEnd := 0, low := 0, slow := 0 }

/-- (DESIGN CHOICE, log 2.) -/
def ThmHid.reset : ThmHid :=
  { terms := Vector.replicate 32 0, stale := [], done := 0, dSum := 0, dN := 0, dShed := false, missed := 0 }

/-- (DESIGN CHOICE, log 2.) -/
def ClkHid.reset : ClkHid :=
  { freeze := Vector.replicate 8 none, held := Vector.replicate 5 0, due := 0x41, ins := 0, cyc := 0, frac := 0,
    latch := Vector.replicate 8 none, loaded := false, part := 0, slew := 0, slewLeft := 0, ppsLast := 0, missed := 0,
    setTick := none, edges := [], second := none }
/-- (DESIGN CHOICE, log 2.) -/
def TwiHid.reset : TwiHid :=
  { tag := none, p := 0, ph := 0, n := 0, ins := [], got := [], retries := 0, wait := false, poll := false, stretch := false, fin := none }

/-- The device right after POR, with VBUS just risen for the first time: PARKED, every register at its reset word
(R19, R45), the backup domain as after a BPOR, which DEV.RESET_CAUSE.BPOR_SEEN shows beside POR (R466).
(DEDUCED, log 1; DESIGN CHOICE, log 2; DESIGN CHOICE, log 5.) -/
def State.reset : State :=
  { pending := [], regs := [(0xA0, 3)], tick := 0, since := [], freeCtr := 0, timeNs := 0, timeSec := 0,
    ctxs := Vector.replicate 8 CtxHid.reset, cmds := [], rr := 7,
    grants := Vector.replicate 9 none, queues := Vector.replicate 6 [], doomed := [], act := none, slotW := 0x3FFFFFFF,
    raiseQ := [], holds := [], logQ := [], logShut := false,
    rails := Vector.replicate 12 RailHid.reset, sheaves := Vector.replicate 12 SheafHid.reset,
    phases := Vector.replicate 56 PhaseHid.reset, bucks := Vector.replicate 16 BuckHid.reset,
    outs := Vector.replicate 46 OutHid.reset, offQ := [], snaps := [], snapNext := 0, snapLeft := none, chan := [],
    due := [], later := [], boot := 0, wakeRead := false, wakeLvl := 0, wakeSeen := 0, wakeDone := false,
    owls := Vector.replicate 32 OwlHid.reset, owlQ := [], warmReq := 0, warmTest := false, lsHalt := 0, lsWarm := false, lsLast := none, xiGood := true,
    droops := Vector.replicate 16 (0, false),
    supOut := 0,
    bus := BusHid.reset,
    chg := ChgHid.reset,
    kaHeld := false,
    seq := SeqHid.reset, flail := FlailHid.reset, pinSeq := 0, gpioHit := (0, 0, 0),
    accs := Vector.replicate 192 AccHid.reset, adc := AdcHid.reset,
    nodes := Vector.replicate 24 NodeHid.reset, thm := ThmHid.reset,
    ldrWait := none,
    nvm := [],
    retired := [], retShort := false, ceMs := (none, none), loftNext := 0,
    otp := [], otpCtl := (0, 0, 0), otpOvr := [],
    clk := ClkHid.reset,
    twis := Vector.replicate 2 TwiHid.reset, twiGot := [],
    spareClr := false, wasLock := false, dieTrip := false, vioOut := false, tap := .reset, tapIns := .bypass, tapBit := false,
    bsCells := List.replicate 69 false, bsUpd := List.replicate 69 false, tdo := [],
    irqEv := [], pinKeep := 0
  }

end Sys2Proof.Machine
end

