-- ==== Sys2Proof/Machine/Ops.lean ====
section
/-! DEFINITION. The named operations over the register file: one read and one write of a field, the bases of the
pages and blocks, counters that saturate, and free values. -/

namespace Sys2Proof.Machine

open Sys2Proof

/-! The register file. -/

/-- The value listed under a key, if one is. -/
def findKey : List (Nat × Word) → Nat → Option Word
  | [], _ => none
  | (k, v) :: t, n => if k = n then some v else findKey t n

/-- A list of registers with a key put in its place among rising keys. -/
def insKey : List (Nat × Word) → Nat → Word → List (Nat × Word)
  | [], n, x => [(n, x)]
  | (k, v) :: t, n, x => if n < k then (n, x) :: (k, v) :: t else (k, v) :: insKey t n x

/-- A list of registers without a key. -/
def dropKey (l : List (Nat × Word)) (n : Nat) : List (Nat × Word) := l.filter (fun p => p.1 != n)

/-- The list with one register set; a register that holds its reset word is not listed. -/
def setKey (l : List (Nat × Word)) (n : Nat) (x : Word) : List (Nat × Word) :=
  if x = resetWord n then dropKey l n else insKey (dropKey l n) n x

/-- The canonical form of the register file: keys strictly rising, no register listed that holds its reset word. -/
def regsFrom : Nat → List (Nat × Word) → Bool
  | _, [] => true
  | lo, (k, v) :: t => decide (lo ≤ k) && v != resetWord k && regsFrom (k + 1) t

def regsWf (l : List (Nat × Word)) : Bool := regsFrom 0 l

/-- The word of a register, by its key. -/
def State.getW (s : State) (k : Nat) : Word := (findKey s.regs k).getD (resetWord k)

/-- The state with one register set. -/
def State.setW (s : State) (k : Nat) (v : Word) : State := { s with regs := setKey s.regs k v }

/-- A field of the block at base `b`. -/
def State.rd (s : State) (b : Nat) (f : Fld) : Nat := getBits (s.getW (b + f.off)) f.lo f.w

/-- A one-bit field. -/
def State.bit (s : State) (b : Nat) (f : Fld) : Bool := s.rd b f == 1

/-- A two's complement field (R9). -/
def State.rdI (s : State) (b : Nat) (f : Fld) : Int := signOf f.w (s.rd b f)

/-- The state with a field of the block at base `b` set to `v`, cut to the field's width. -/
def State.wr (s : State) (b : Nat) (f : Fld) (v : Nat) : State :=
  s.setW (b + f.off) (putBits (s.getW (b + f.off)) f.lo f.w v)

/-- A two's complement field set (R9). -/
def State.wrI (s : State) (b : Nat) (f : Fld) (v : Int) : State := s.wr b f (codeOf f.w v)

/-- A one-bit field set from a truth value. -/
def State.wrB (s : State) (b : Nat) (f : Fld) (v : Bool) : State := s.wr b f (if v then 1 else 0)

/-- Every register whose key `p` holds of goes back to its reset word. -/
def State.resetKeys (s : State) (p : Nat → Bool) : State := { s with regs := s.regs.filter (fun e => !p e.1) }

/-! Bases: page × 0x400 (R11), the blocks inside a page, and the copies held per context (R502). -/

def pg (n : Nat) : Nat := n * 0x400
def ck (c : Nat) : Nat := 0x10000 * (c + 1)
def devB : Nat := pg 0x00
def clkB : Nat := pg 0x01
def engB : Nat := pg 0x02
def hifB : Nat := pg 0x03
def cqeB : Nat := pg 0x04
def arbB : Nat := pg 0x05
def intB : Nat := pg 0x06
def fltB : Nat := pg 0x07
def wdgB : Nat := pg 0x08
def seqB : Nat := pg 0x09
def flailB : Nat := pg 0x0A
def margB : Nat := pg 0x0B
def buscB : Nat := pg 0x1C
def chgB : Nat := pg 0x1D
def portB : Nat := pg 0x1E
def ldoB : Nat := pg 0x22
def supvB : Nat := pg 0x23
def adcB : Nat := pg 0x24
def thmB : Nat := pg 0x27
def rtcB : Nat := pg 0x28
def timeB : Nat := pg 0x29
def otpB : Nat := pg 0x2C
def nvmB : Nat := pg 0x2D
def eccB : Nat := pg 0x2E
def loftB : Nat := pg 0x2F
def logB : Nat := pg 0x30
def secB : Nat := pg 0x31
def gpioB : Nat := pg 0x32
/-- The page of rail n (R13). -/
def rail (n : Nat) : Nat := pg (0x10 + n)
/-- The PHX page that holds phase p, and the phase's block (R132). -/
def phPage (p : Nat) : Nat := pg (0x0C + p / 32)
def ph (p : Nat) : Nat := phPage p + 0x40 + 0x10 * (p % 32)
/-- The PHX page that holds the sheaf of rail r, and the sheaf's block (R132). -/
def shPage (r : Nat) : Nat := pg (0x0C + r / 6)
def sheaf (r : Nat) : Nat := shPage r + 0x240 + 0x40 * (r % 6)
def stepCls (k : Nat) : Nat := pg 0x0C + 0x3C0 + 8 * k
def grp (g : Nat) : Nat := pg 0x0D + 0x3C0 + 4 * g
/-- The BUCK page that holds buck n, and the buck's block. -/
def bkPage (n : Nat) : Nat := pg (0x20 + n / 8)
def bk (n : Nat) : Nat := bkPage n + 0x40 + 0x20 * (n % 8)
def ldo (j : Nat) : Nat := ldoB + 0x40 + 0x10 * j
def ls (k : Nat) : Nat := ldoB + 0xE0 + 0x10 * k
/-- The supervision block of output x, 0 to 45. -/
def out (x : Nat) : Nat := supvB + 0x40 + 0xC * x
def port (p : Nat) : Nat := portB + 0x40 + 0x10 * p
def accB (i : Nat) : Nat := pg (0x25 + i)
def twiB (i : Nat) : Nat := pg (0x2A + i)
def node (k : Nat) : Nat := thmB + 0x40 + 0x18 * k
def term (j : Nat) : Nat := thmB + 0x280 + 8 * j
/-- The block of context n on the HIF page, on the CQE page, and its copy of the INT page. -/
def hifC (n : Nat) : Nat := hifB + 0x80 + 0x10 * n
def cqeC (n : Nat) : Nat := cqeB + 0x80 + 0x20 * n
def intC (n : Nat) : Nat := ck n + intB
def resB (r : Nat) : Nat := arbB + 0x60 + 4 * r
def stall (i : Nat) : Nat := arbB + 0x100 + 4 * i
def owl (i : Nat) : Nat := wdgB + 0x80 + 0x10 * i
def drp (i : Nat) : Nat := clkB + 0x80 + 4 * i
def fe (i : Nat) : Nat := engB + 0x80 + 0x10 * i
def pin (i : Nat) : Nat := gpioB + 0x40 + 4 * i
def marg (x : Nat) : Nat := margB + 0x80 + 4 * x

/-- The common header (R497, R499, R500, R501), at any page base. -/
def HDR.ERR : Fld := ⟨0xC, 0, 32, .w1c, 0⟩
def HDR.ERR_MASK : Fld := ⟨0x14, 0, 32, .rw, 0⟩
def HDR.IRQ_PEND : Fld := ⟨0x18, 0, 32, .w1c, 0⟩
def HDR.IRQ_EN : Fld := ⟨0x1C, 0, 32, .rw, 0⟩
def HDR.LOCK_UNLOCKED : Fld := ⟨0x20, 0, 1, .rw, 0⟩
def HDR.LOCK_CTX : Fld := ⟨0x20, 4, 4, .rw, 0⟩
def HDR.OWNER : Fld := ⟨0x24, 0, 4, .rw, 0xF⟩

/-- Bit `i` of the register of field `f`, as a field. -/
def Fld.at (f : Fld) (i : Nat) : Fld := { f with lo := i, w := 1 }

/-! The mode (R40). -/

def State.mode (s : State) : Nat := s.rd devB DEV.MODE_CODE
abbrev mFALLOW : Nat := 0
abbrev mPARKED : Nat := 1
abbrev mWAKING : Nat := 2
abbrev mHOLD : Nat := 3
abbrev mRISING : Nat := 4
abbrev mRUN : Nat := 5
abbrev mSTANDBY : Nat := 6
abbrev mSERVICE : Nat := 7
abbrev mHOLDUP : Nat := 8
abbrev mDRAINING : Nat := 9
abbrev mSAFE : Nat := 10
abbrev mLOCKOUT : Nat := 11

/-- "Active" of R333. -/
def State.active (s : State) : Bool := decide (4 ≤ s.mode ∧ s.mode ≤ 9)

/-- The main domain runs: any mode but FALLOW and PARKED. -/
def State.up (s : State) : Bool := decide (2 ≤ s.mode)

/-! Counters. -/

/-- A counter that stops at its largest value. -/
def State.bump (s : State) (b : Nat) (f : Fld) : State :=
  if s.rd b f + 1 < 2 ^ f.w then s.wr b f (s.rd b f + 1) else s.wr b f (2 ^ f.w - 1)

/-- A counter reaches its largest value at its next count. -/
def State.fills (s : State) (b : Nat) (f : Fld) : Bool := decide (s.rd b f + 2 = 2 ^ f.w)

/-- A field counted down, held at 0. -/
def State.dec (s : State) (b : Nat) (f : Fld) : State := s.wr b f (s.rd b f - 1)

/-- A value the spec does not state: the opaque constant at the next number, and the state with that number used.
(DESIGN CHOICE, log 7.) -/
def State.draw (s : State) : Word × State := (Config.freeWord s.freeCtr, { s with freeCtr := s.freeCtr + 1 })

/-! Times in progress. -/

/-- A time's start under its name. -/
def putTmr : List (Tmr × Nat) → Tmr → Nat → List (Tmr × Nat)
  | [], k, v => [(k, v)]
  | (a, b) :: t, k, v => if a = k then (k, v) :: t else (a, b) :: putTmr t k v

/-- A time begins now. -/
def State.mark (s : State) (k : Tmr) : State := { s with since := putTmr s.since k s.tick }

/-- A time that began `us` microseconds ago. -/
def State.markAgo (s : State) (k : Tmr) (us : Nat) : State := { s with since := putTmr s.since k (s.tick - us) }

/-- A time is not in progress. -/
def State.unmark (s : State) (k : Tmr) : State := { s with since := s.since.filter (fun e => e.1 != k) }

/-- The tick at which a time began, if it is in progress. -/
def State.began (s : State) (k : Tmr) : Option Nat := (s.since.find? (fun e => e.1 == k)).map (·.2)

/-- A time in progress has lasted `us` microseconds. (DESIGN CHOICE, log 11.) -/
def State.ran (s : State) (k : Tmr) (us : Nat) : Bool :=
  match s.began k with | some t => decide (t + us ≤ s.tick) | none => false

/-- A time that ends `us` microseconds from now, and whether it has ended. -/
def State.till (s : State) (k : Tmr) (us : Nat) : State := { s with since := putTmr s.since k (s.tick + us) }
def State.lapsed (s : State) (k : Tmr) : Bool := s.ran k 0

/-- A whole number of periods of `us` microseconds has passed since a time began. -/
def State.beats (s : State) (k : Tmr) (us : Nat) : Bool :=
  match s.began k with | some t => decide (t < s.tick ∧ (s.tick - t) % us = 0) | none => false

/-! The engines' states (R398, R412). -/

abbrev eHALTED : Nat := 3
def State.eng (s : State) (n : Nat) : Nat := s.rd (fe n) ENG.FE_STAT_STATE

/-- A WARM is restarting the engines (R61). -/
def State.frozen (s : State) : Bool := s.bit devB DEV.STATUS_WARM_BUSY

/-- Engine `n` is stopped (R31): in a WARM, or halted. (DEDUCED, log 67.) -/
def State.stopped (s : State) (n : Nat) : Bool := s.frozen || s.eng n == eHALTED

/-- A row of an engine that is stopped is taken when it resumes (R31). -/
def State.putOff (s : State) (c : Instr) : State := { s with later := s.later ++ [c] }

/-! Lists of numbers, folded over the state. -/

/-- `f` for each member of a list, in order. -/
def State.each (s : State) (l : List Nat) (f : Nat → State → State) : State := l.foldl (fun t i => f i t) s

/-- `f` if `b`. -/
def State.iff (s : State) (b : Bool) (f : State → State) : State := if b then f s else s

/-! Contexts. -/

def State.ctx (s : State) (c : Fin 8) : CtxHid := s.ctxs[c]
def State.modCtx (s : State) (c : Fin 8) (f : CtxHid → CtxHid) : State := { s with ctxs := s.ctxs.set c (f s.ctxs[c]) }

/-- The eight contexts. -/
def allCtx : List (Fin 8) := [0, 1, 2, 3, 4, 5, 6, 7]

/-- The word a context's last read returned. -/
def State.answer (s : State) (c : Fin 8) (d : List Word) : State := s.modCtx c (fun h => { h with data := d })

end Sys2Proof.Machine
end

