-- ==== Sys2Proof/Machine/Flags.lean ====
section
/-! DEFINITION. The flags: the interrupt controller's edges and its view per context (R353 to R358), the ERR and
IRQ_PEND bits of a page (R499), and raises on their way to the fault collector (R367, R368). -/

namespace Sys2Proof.Machine

open Sys2Proof

/-! The interrupt controller. -/

/-- The priority of event `e` in context `n` (R354). -/
def State.prio (s : State) (n e : Nat) : Nat :=
  if e < 144 then getBits (s.getW (intC n + 0x100 + 4 * (e / 4))) (8 * (e % 4)) 8 else 0

/-- The events whose bit is 1 in a family of five words of context `n` (R366). -/
def State.intBits (s : State) (n off : Nat) : List Nat :=
  onesFrom (s.getW (intC n + off)) 0 ++ onesFrom (s.getW (intC n + off + 4)) 32 ++
  onesFrom (s.getW (intC n + off + 8)) 64 ++ onesFrom (s.getW (intC n + off + 12)) 96 ++
  onesFrom (s.getW (intC n + off + 16)) 128

def State.intBit (s : State) (n off e : Nat) : Bool := (s.getW (intC n + off + 4 * (e / 32))).toNat.testBit (e % 32)

def State.intPut (s : State) (n off e : Nat) (b : Bool) : State :=
  s.setW (intC n + off + 4 * (e / 32)) (putBits (s.getW (intC n + off + 4 * (e / 32))) (e % 32) 1 (if b then 1 else 0))

/-- The most urgent of a list of events, in rising order: the highest PRIO, which is the higher group and then the
higher sub-priority (R355), then the lower number (R358). -/
def State.urgent (s : State) (n : Nat) : List Nat → Option Nat
  | [] => none
  | e :: t =>
    match s.urgent n t with
    | none => some e
    | some d => if s.prio n e < s.prio n d then some d else some e

/-- The most urgent active event of a context (R356). -/
def State.running (s : State) (n : Nat) : Option Nat := s.urgent n (s.intBits n 0xA0)

/-- Is event `e` deliverable in context `n`? (R356) -/
def State.deliverable (s : State) (n e : Nat) : Bool :=
  let p := s.rd (intC n) INT.CFG_PRIGROUP
  s.intBit n 0x60 e && decide (s.rd (intC n) INT.CFG_THR < s.prio n e) &&
    (match s.running n with
     | none => true
     | some a => decide (s.prio n a >>> p < s.prio n e >>> p))

/-- The most urgent deliverable event of a context (R358). -/
def State.claimable (s : State) (n : Nat) : Option Nat := s.urgent n ((s.intBits n 0x80).filter (s.deliverable n))

/-- INT.RUNNING, STATUS.ASSERTED and STATUS.NESTED of a context follow its bits (R356, R357, R366). -/
def State.intRefresh (s : State) (c : Fin 8) : State :=
  let n := c.val
  let act := s.intBits n 0xA0
  let s1 := match s.running n with
    | none => (s.wr (intC n) INT.RUNNING_ID 0x3FF).wr (intC n) INT.RUNNING_PRIO 0
    | some e => (s.wr (intC n) INT.RUNNING_ID e).wr (intC n) INT.RUNNING_PRIO (s.prio n e)
  (s1.wrB intB (INT.STATUS_ASSERTED.at n) ((s.claimable n).isSome && !(s.ctx c).gap)).wrB intB
    (INT.STATUS_ASSERTED.at (8 + n)) (decide (2 ≤ act.length))

/-- An edge of event `e` in one context: PEND sets, or merges (R354). `again` sets MERGE as well (R362). (DEDUCED, log 43.) -/
def State.edgeIn (s : State) (e : Nat) (again : Bool) (c : Fin 8) : State :=
  if s.intBit c 0x60 e then
    let s1 := if s.intBit c 0x80 e || again then s.intPut c 0xC0 e true else s
    (s1.intPut c 0x80 e true).intRefresh c
  else s

/-- An edge of event `e` (R353). I12 is off in PARKED and FALLOW, where edges are not kept (R363). -/
def State.edge (s : State) (e : Nat) : State :=
  if s.up && decide (e < 144) then allCtx.foldl (fun t c => t.edgeIn e false c) s else s

/-! ERR, IRQ_PEND and raises. -/

/-- MARG, INT and FLT have no event number: their bits raise nothing and give no edge (R499). -/
def silentPage (b : Nat) : Bool := b == margB || b == intB || b == fltB

/-- A number put under a key among rising keys. -/
def putEv : List (Nat × Nat) → Nat → Nat → List (Nat × Nat)
  | [], k, v => [(k, v)]
  | (a, b) :: t, k, v => if k < a then (k, v) :: (a, b) :: t else if k = a then (k, v) :: t else (a, b) :: putEv t k v

/-- IRQ_PEND bit `i` of the page at `b` sets; a rise with IRQ_EN set is an edge of `ev` (R353, R499). -/
def State.irq (s : State) (b i ev : Nat) : State :=
  let was := s.bit b (HDR.IRQ_PEND.at i)
  let s1 := { s.wr b (HDR.IRQ_PEND.at i) 1 with irqEv := putEv s.irqEv (b / 0x400 * 32 + i) ev }
  if !was && s.bit b (HDR.IRQ_EN.at i) && !silentPage b then s1.edge ev else s1

/-- The class of `ev` where its rule gives none: FLT.EVCFGw.DCLS, 5 to 7 acting as 4 (R367). -/
def State.dcls (s : State) (ev : Nat) : Nat :=
  min 4 (getBits (s.getW (fltB + 0xA0 + 4 * (ev / 4))) (8 * (ev % 4)) 3)

/-- A raise joins the others of its collector cycle, in ascending event number (R373); edges of one line in one
cycle are one raise at the highest class among them (R367), but each mode change raises event 135 (R43). -/
def insRaise : List RaiseReq → RaiseReq → List RaiseReq
  | [], r => [r]
  | q :: t, r =>
    if r.ev = q.ev ∧ r.forced = q.forced ∧ r.ev ≠ 135 then (if q.cls < r.cls then r :: t else q :: t)
    else if r.ev < q.ev then r :: q :: t
    else q :: insRaise t r

/-- A source's edge towards the collector, with its class or, where its rule gives none, the event's default
(R367). `detail` is none where its chapter states no DETAIL. -/
def State.post (s : State) (ev : Nat) (cls : Option Nat) (detail : Option Nat) : State :=
  { s with raiseQ := insRaise s.raiseQ ⟨ev, cls.getD (s.dcls ev), detail, false⟩ }

/-- The bit of ERR and the bit of IRQ_PEND set, with no raise of its own (R499). `i` is the bit, `ev` the event its
IRQ bit concerns. -/
def State.errQ (s : State) (b i ev : Nat) : State := (s.wr b (HDR.ERR.at i) 1).irq b i ev

/-- An occurrence of the cause of ERR bit `i`: the bit sets, and one raise of `ev` is made (R499) unless ERR_MASK
suppresses it, which it does for C0 and C1 only (R368). -/
def State.err (s : State) (b i ev : Nat) (cls : Option Nat) (detail : Option Nat) : State :=
  let s1 := s.errQ b i ev
  if s.bit b (HDR.ERR_MASK.at i) && decide (cls.getD (s.dcls ev) ≤ 1) then s1
  else if silentPage b then s1
  else s1.post ev cls detail

/-- The class of a count's saturation: C0 where the page's chapter says so (R133, R200, R259, R290, R335, R352, R396, R428), else the event's
own (R367). (DEDUCED, log 41.) -/
def satCls (pb : Nat) : Option Nat :=
  if pb = hifB ∨ pb = arbB ∨ pb = wdgB ∨ pb = eccB ∨ pb = loftB ∨ pb = adcB ∨ pb = chgB ∨
    pb = flailB ∨ pb = pg 0x0C ∨ pb = pg 0x0D then some 0 else none

/-- A saturating count: at its largest value its SAT bit sets, with the page's CNT_SAT bit `i` and a raise of `ev`. -/
def State.count (s : State) (b : Nat) (f sat : Fld) (pb i ev : Nat) : State :=
  if s.fills b f then ((s.bump b f).wr b sat 1).err pb i ev (satCls pb) none else s.bump b f

/-- A bit of DEV.REPLACE_SRC is set or cleared; DEV.STATUS.REPLACE is the OR of them (R58). -/
def State.setRepl (s : State) (f : Fld) (b : Bool) : State :=
  let s1 := s.wrB devB f b
  s1.wrB devB DEV.STATUS_REPLACE (getBits (s1.getW (devB + 0x9C)) 0 7 != 0)

end Sys2Proof.Machine
end

