-- ==== Sys2Proof/Machine/Arbiter.lean ====
section
/-! DEFINITION. The shared-resource arbiter (R338 to R352): requests, grants, revocation, direct requests. -/

namespace Sys2Proof.Machine

open Sys2Proof

/-- The group of a resource (R338, R341): EX0 to EX3 are one pool. -/
def resGroup (r : Nat) : Nat := if r < 4 then 0 else r - 3

/-- The resources of a group, lowest first. -/
def groupRes (g : Nat) : List Nat := if g = 0 then [0, 1, 2, 3] else [g + 3]

def State.grantOf (s : State) (r : Nat) : Option Grant := (s.grants[r]?).getD none
def State.setGrant (s : State) (r : Nat) (g : Option Grant) : State := { s with grants := s.grants.setIfInBounds r g }
def State.queueOf (s : State) (g : Nat) : List Req := (s.queues[g]?).getD []
def State.setQueue (s : State) (g : Nat) (q : List Req) : State := { s with queues := s.queues.setIfInBounds g q }

/-- The priority of a requester now (R342, R343). -/
def State.arbPrio (s : State) (who : Nat) : Nat :=
  if who < 8 then getBits (s.getW (arbB + 0x44)) (4 * who) 4 else getBits (s.getW (arbB + 0x48)) (4 * (who - 8)) 4

/-- The owner the current slot names for a group, if it names one (R341). -/
def State.slotOwner (s : State) (g : Nat) : Option Nat :=
  let o := getBits s.slotW (5 * g) 5
  if o < 16 then some o else none

/-- May a request of `who` stand in the queue `q`: 16 entries, four of one requester (R344)? -/
def queueFits (q : List Req) (who : Nat) : Bool :=
  let qs := q.filter (fun r => r.inq)
  decide (qs.length < 16) && decide ((qs.filter (fun r => r.who == who)).length < 4)

/-- Requests that wait outside enter in arrival order as space frees (R345). -/
def promote (q : List Req) : List Req :=
  q.foldl (fun acc r => acc.map (fun x => if x.org = r.org ∧ x.who = r.who ∧ x.age = r.age ∧ !x.inq ∧ queueFits acc r.who
    then { x with inq := true } else x)) q

/-- What the registers show of a group: holder and depth of each resource, the HELD bits (R352), and SELF_GNT of
every context (R349). -/
def State.arbShow (s : State) : State :=
  let s1 := s.each [0, 1, 2, 3, 4, 5, 6, 7, 8] fun r t =>
    let t1 := t.wr (resB r) ARB.RES_STAT_HOLDER (match t.grantOf r with | none => 0x1F | some g => g.who)
    let t2 := t1.wr (resB r) ARB.RES_STAT_DEPTH ((t.queueOf (resGroup r)).filter (fun q => q.inq)).length
    t2.wrB arbB (ARB.STATUS_HELD.at (8 + r)) (t.grantOf r).isSome
  s1.each [0, 1, 2, 3, 4, 5, 6, 7] fun c t =>
    let held := fun r => match t.grantOf r with | some g => decide (g.who = c ∧ g.org = .direct) | none => false
    let pend := fun g => (t.queueOf g).any (fun q => decide (q.who = c ∧ q.org = .direct))
    (((t.wrB (ck c + arbB) ARB.SELF_GNT_URG (held 7)).wrB (ck c + arbB) ARB.SELF_GNT_FLAIL (held 8)).wrB
      (ck c + arbB) ARB.SELF_GNT_URG_PEND (pend 4)).wrB (ck c + arbB) ARB.SELF_GNT_FLAIL_PEND (pend 5)

/-- A command's or an engine's request joins the queue of a group, or waits outside it (R344, R345). -/
def State.request (s : State) (g who : Nat) (org : Org) (age prog : Nat) : State :=
  let q := s.queueOf g
  (s.setQueue g (q ++ [⟨who, org, age, prog, queueFits q who⟩])).arbShow

/-- A revoked request goes back at the head of its age order with its age and progress (R348). -/
def requeue (q : List Req) (r : Req) : List Req :=
  match q with
  | [] => [r]
  | x :: t => if r.age ≤ x.age then r :: x :: t else x :: requeue t r

/-- The groups a ring command needs, in ascending resource number (R334, R340). -/
def opGroups (op : Nat) (a0 : Word) : List Nat :=
  if op = 0x04 ∨ op = 0x13 then [3]
  else if op = 0x08 then [5]
  else if op = 0x0B then (if getBits a0 8 2 = 2 then [0, 3] else [0])
  else if op = 0x09 ∨ op = 0x0E ∨ op = 0x14 ∨ op = 0x15 then [0]
  else if op = 0x0C then [0, if getBits a0 0 1 = 0 then 1 else 2]
  else if op = 0x0D ∨ op = 0x0F ∨ op = 0x10 ∨ op = 0x11 then [0, 3]
  else []

/-- The groups a fetched command needs: ACTIVATE starts on FE7 alone, and its copy in SERVICE needs NVMW (R334, R459). -/
def Cmd.groups (c : Cmd) : List Nat := if c.op = 0x12 then (if c.prog = 0 then [] else [3]) else opGroups c.op c.a0

/-- May a ring command be revoked (R347)? Those that its table names with No may not. -/
def opRevocable (op : Nat) : Bool := !(op == 0x09 || op == 0x0B || op == 0x0F || op == 0x10 || op == 0x14 || op == 0x15)

/-- Does a command hold a resource of the group? -/
def State.tagHolds (s : State) (t g : Nat) : Bool :=
  (groupRes g).any fun r => match s.grantOf r with | some x => decide (x.org = .tag t) | none => false

/-- A command holds all it needs, and starts (R340). -/
def State.holdsAll (s : State) (c : Cmd) : Bool := c.groups.all (fun g => s.tagHolds c.tag g)

def State.findCmd (s : State) (t : Nat) : Option Cmd := s.cmds.find? (fun c => c.tag == t)

/-- The command that stands first in the list of fetched commands with this opcode and running, if any. -/
def State.runningCmd (s : State) (op : Nat) : Option Cmd := s.cmds.find? (fun c => c.op == op && c.phase == .running)

def State.setCmd (s : State) (c : Cmd) : State := { s with cmds := s.cmds.map (fun d => if d.tag = c.tag then c else d) }

/-- The age of a command's request for a group: the tick of its first request for it (R344, R348). -/
def State.reqAge (s : State) (c : Cmd) (g : Nat) : Nat :=
  match c.ages.find? (fun x => x.1 == g) with | some x => x.2 | none => s.tick

/-- A command asks for the first group it does not hold yet (R340). -/
def State.askNext (s : State) (c : Cmd) : State :=
  match c.groups.find? (fun g => !s.tagHolds c.tag g) with
  | none => s
  | some g =>
    let k := { c with ages := if c.ages.any (fun x => x.1 == g) then c.ages else c.ages ++ [(g, s.tick)] }
    (s.setCmd k).request g c.ctx (.tag c.tag) (s.reqAge c g) c.prog

/-- Every grant and every request of an origin is given up. -/
def State.dropOrg (s : State) (p : Nat → Org → Bool) : State :=
  let s1 := s.each [0, 1, 2, 3, 4, 5, 6, 7, 8] fun r t =>
    match t.grantOf r with
    | some g => if p g.who g.org then t.setGrant r none else t
    | none => t
  let s2 := s1.each [0, 1, 2, 3, 4, 5] fun g t => t.setQueue g (promote ((t.queueOf g).filter (fun q => !p q.who q.org)))
  s2.arbShow

/-- The request a tick serves: the slot owner's oldest, else the highest priority, then the oldest, then the lower
requester code (R342). -/
def State.bestReq (s : State) (l : List Req) : Option Req :=
  l.foldl (fun b r => match b with
    | none => some r
    | some x =>
      if s.arbPrio x.who < s.arbPrio r.who then some r
      else if s.arbPrio x.who = s.arbPrio r.who ∧ (r.age < x.age ∨ (r.age = x.age ∧ r.who < x.who)) then some r
      else some x) none

def State.pickReq (s : State) (g : Nat) : Option Req :=
  let q := (s.queueOf g).filter (fun r => r.inq)
  match s.slotOwner g with
  | some o => match q.find? (fun r => r.who == o) with
    | some r => some r
    | none => s.bestReq q
  | none => s.bestReq q

/-- The grant of resource `r` to request `q` (R342); a direct grant is told to its context (R349), and a command
asks for what it still lacks (R340). -/
def State.give (s : State) (r : Nat) (q : Req) : State :=
  let g := resGroup r
  let s1 := (s.setGrant r (some ⟨q.who, q.org, q.age, q.prog, s.tick⟩)).setQueue g (promote ((s.queueOf g).erase q))
  match q.org with
  | .engine => s1.arbShow
  | .direct => ((s1.wr (ck q.who + arbB) ARB.SELF_GNT_GRANTED_EV 1).irq arbB 16 131).arbShow
  | .tag t => match s1.findCmd t with
    | some c => (s1.askNext c).arbShow
    | none => s1.arbShow

/-- One decision of a tick for a group: the lowest-numbered free resource goes to the request R342 picks. -/
def State.arbServe (s : State) (g : Nat) : State :=
  match (groupRes g).find? (fun r => (s.grantOf r).isNone), s.pickReq g with
  | some r, some q => s.give r q
  | _, _ => s

/-- Is the holder of a resource one that may be revoked (R346, R347)? -/
def State.revocable (s : State) (g : Grant) : Bool :=
  match g.org with
  | .tag t => match s.findCmd t with | some c => opRevocable c.op | none => true
  | _ => true

/-- The test of R346 for one held resource. -/
def State.mustRevoke (s : State) (r : Nat) : Bool :=
  let gr := resGroup r
  let q := (s.queueOf gr).filter (fun x => x.inq)
  match s.grantOf r with
  | none => false
  | some g =>
    let ownerWaits := match s.slotOwner gr with | some o => q.any (fun x => x.who == o) | none => false
    s.revocable g && s.slotOwner gr != some g.who &&
      (ownerWaits || (s.bit arbB (ARB.CFG_PREEMPT.at r) && q.any (fun x => decide (s.arbPrio g.who < s.arbPrio x.who))))

/-- In the pool the revoked slot is, of those that R346 revokes, the one of lowest priority, and of equals the one granted
last. -/
def State.poolVictim (s : State) : Option Nat :=
  [0, 1, 2, 3].foldl (fun b r => match s.grantOf r with
    | none => b
    | some g => if s.mustRevoke r then
        (match b with
         | none => some r
         | some x => match s.grantOf x with
           | none => some r
           | some h => if s.arbPrio g.who < s.arbPrio h.who ∨ (s.arbPrio g.who = s.arbPrio h.who ∧ h.since < g.since)
               then some r else some x)
      else b) none

/-- A grant is taken back (R346, R348): the request goes back with its age and progress, every other grant of the
same command is given up, and REVOKES counts. An accepted SNAPSHOT keeps its capture. `again` false: the request is dropped. -/
def State.revoke (s : State) (r prog : Nat) (again : Bool) : State :=
  match s.grantOf r with
  | none => s
  | some g =>
    let s1 := s.count (resB r) ARB.RES_STAT_REVOKES ARB.RES_STAT_SAT arbB 3 131
    match g.org with
    | .tag t =>
      match s1.findCmd t with
      | none => (s1.setGrant r none).arbShow
      | some c =>
        let s2 := s1.dropOrg (fun _ o => o == .tag t)
        let s3 := s2.setCmd { c with prog := if c.op = 0x12 ∨ c.op = 0x04 then c.prog else prog,
                                     phase := if c.op = 0x04 then c.phase else .waiting }
        match c.groups with
        | [] => s3
        | g0 :: _ => (s3.setQueue g0 (promote (requeue (s3.queueOf g0) ⟨g.who, g.org, s.reqAge c g0, prog, false⟩))).arbShow
    | o =>
      let gr := resGroup r
      let s2 := s1.setGrant r none
      let s3 := if again then s2.setQueue gr (promote (requeue (s2.queueOf gr) ⟨g.who, o, g.age, prog, false⟩)) else s2
      let s4 := if o = .direct then (s3.wr (ck g.who + arbB) ARB.SELF_GNT_REVOKED_EV 1).irq arbB 17 131 else s3
      s4.arbShow

/-- The resource that R346 takes back from a holder at its next boundary, if there is one. -/
def State.revDue (s : State) (p : Grant → Bool) : Option Nat :=
  [0, 1, 2, 3, 4, 5, 6, 7, 8].find? fun r =>
    (match s.grantOf r with | some g => p g | none => false) && s.mustRevoke r && (decide (4 ≤ r) || s.poolVictim == some r)

/-- Does a running command have to give way at its next boundary? -/
def State.mustYield (s : State) (k : Cmd) : Bool := (s.revDue (fun g => g.org == .tag k.tag)).isSome

/-- It does so, with `done` units of its work completed (R347, R348). -/
def State.yield (s : State) (k : Cmd) (done : Nat) : State :=
  match s.revDue (fun g => g.org == .tag k.tag) with
  | some r => ((s.setCmd { k with phase := .running, prog := done }).revoke r done true).arbServe (resGroup r)
  | none => s

/-- Units `p` to `n` of a command's work are done in one go, or, where it has to give way, one unit (R347). -/
def State.unitsNow (s : State) (k : Cmd) (n : Nat) : Nat := if s.mustYield k ∧ k.prog + 1 < n then 1 else n - k.prog

/-- An engine's request for its own work (R339), made once however much of that work waits. -/
def State.engineAsk (s : State) (g who : Nat) : State :=
  let has := (s.queueOf g).any (fun q => decide (q.who = who ∧ q.org = .engine)) ||
    (groupRes g).any (fun r => match s.grantOf r with | some x => decide (x.who = who ∧ x.org = .engine) | none => false)
  if has then s else s.request g who .engine s.tick 0

/-- Does engine `who` hold resource `r` for its own work? -/
def State.engineHolds (s : State) (r who : Nat) : Bool :=
  match s.grantOf r with | some x => decide (x.who = who ∧ x.org = .engine) | none => false

/-- An engine gives its grant up. -/
def State.engineDone (s : State) (r who : Nat) : State :=
  if s.engineHolds r who then (s.setGrant r none).arbShow else s

/-- FE7's code as a requester (R339). -/
abbrev feSeven : Nat := 15

end Sys2Proof.Machine
end

