-- ==== Sys2Proof/Machine/Complete.lean ====
section
/-! DEFINITION. The completion path of the command rings (R327 to R335): ring sizes, completions, and how a ring
command starts, waits and ends. -/

namespace Sys2Proof.Machine

open Sys2Proof

/-- Sizes of 0 and above 64 act as 64 (R337). -/
def size64 (v : Nat) : Nat := if v = 0 ∨ 64 < v then 64 else v

def State.sqSize (s : State) (c : Nat) : Nat := size64 (s.rd (cqeC c) CQE.CTX_CFG_SQ_SIZE)
def State.cqSize (s : State) (c : Nat) : Nat := size64 (s.rd (cqeC c) CQE.CTX_CFG_CQ_SIZE)

/-- The words of completion slot `e` of a context, kept per context (R325). -/
def cqSlot (c e : Nat) : Nat := ck c + cqeB + 0x200 + 8 * e

/-- A byte of a context's data buffer window is byte `i % 4` of word `i / 4`, little-endian (R337). -/
def State.dbufByte (s : State) (c i : Nat) : Byte :=
  BitVec.ofNat 8 (getBits (s.getW (ck c + cqeB + 0x180 + 4 * (i / 4))) (8 * (i % 4)) 8)
def State.setDbuf (s : State) (c i : Nat) (b : Byte) : State :=
  let k := ck c + cqeB + 0x180 + 4 * (i / 4)
  s.setW k (putBits (s.getW k) (8 * (i % 4)) 8 b.toNat)
def State.putDbuf (s : State) (c : Nat) : Nat → List Byte → State
  | _, [] => s
  | i, b :: t => (s.setDbuf c i b).putDbuf c (i + 1) t
def State.dbuf (s : State) (c : Nat) : List Byte := (List.range 128).map (s.dbufByte c)

/-- TMO is not 0 and the oldest unconsumed entry that counts has waited as long (R332). (DEDUCED, log 25.) -/
def State.ringLate (s : State) (c : Fin 8) : Bool :=
  let tmo := s.rd (cqeC c) CQE.CTX_IRQ_TMO
  tmo != 0 && match (s.ctx c).cq.find? (fun e => !e.quiet) with | some e => decide (e.born + tmo ≤ s.tick) | none => false

/-- The condition on the number of completions that R332 counts, with its edge of event 136 + n where it begins to
hold. (DEDUCED, log 25.) -/
def State.ringIrq (s : State) (c : Fin 8) : State :=
  let n := ((s.ctx c).cq.filter (fun e => !e.quiet)).length
  let now := decide (orIf0 (s.rd (cqeC c) CQE.CTX_IRQ_THR) 1 ≤ n)
  let s1 := s.modCtx c (fun h => { h with irqThr := now, irqTmo := h.irqTmo && s.ringLate c })
  if now && !(s.ctx c).irqThr then s1.edge (136 + c.val) else s1

/-- A completion entry (R330): written at the tail, counted, and signalled. -/
def State.writeCpl (s : State) (c : Fin 8) (cookie st tag : Nat) (quiet : Bool) (res : Nat) : State :=
  let t := s.rd (cqeC c) CQE.CTX_CQT_TAIL
  let s1 := s.setW (cqSlot c t) (BitVec.ofNat 32 (cookie + st * 0x10000 + tag * 0x1000000))
  let s2 := s1.setW (cqSlot c t + 4) (BitVec.ofNat 32 res)
  let s3 := s2.wr (cqeC c) CQE.CTX_CQT_TAIL ((t + 1) % s.cqSize c)
  let s4 := s3.wr (cqeC c) CQE.CTX_CQT_FILL (s.rd (cqeC c) CQE.CTX_CQT_FILL + 1)
  let s5 := s4.count (cqeC c) CQE.CTX_STAT_COMPLETED CQE.CTX_STAT_SAT cqeB 5 130
  (s5.modCtx c (fun h => { h with cq := h.cq ++ [⟨t, quiet, s.tick⟩] })).ringIrq c

/-- A fetched command ends (R330): its bytes go to the data buffer from `ofs`, its completion is written, its tag
and its grants are freed. The completion of a command whose context was reset is discarded (R324). With an ACTIVATE ends its
copy (R462). -/
def State.completeB (s : State) (k : Cmd) (st res ofs : Nat) (bytes : List Byte) : State :=
  let s1 := { s with cmds := s.cmds.filter (fun d => d.tag != k.tag) }.iff (k.op == 0x12) fun t => t.wr nvmB NVM.STATUS_COPYING 0
  let s2 := if k.live then (s1.putDbuf k.ctx ofs bytes).writeCpl k.ctx k.cookie st k.tag k.quiet res
    else s1.err cqeB 3 130 none none
  let s3 := (s2.wr (cqeC k.ctx) CQE.CTX_STAT_INFL (s2.rd (cqeC k.ctx) CQE.CTX_STAT_INFL - 1)).wr cqeB CQE.STATUS_TAGS
    (s2.rd cqeB CQE.STATUS_TAGS - 1)
  s3.dropOrg (fun _ o => o == .tag k.tag)

def State.complete (s : State) (k : Cmd) (st res : Nat) : State := s.completeB k st res 0 []

/-! The statuses of R330. -/
abbrev stDONE : Nat := 0
abbrev stFAILED : Nat := 1
abbrev stSUPERSEDED : Nat := 2
abbrev stMODE : Nat := 3
abbrev stBADOP : Nat := 4
abbrev stBADFLAGS : Nat := 5
abbrev stDENIED : Nat := 6
abbrev stMEM : Nat := 7
abbrev stABORTED : Nat := 8

def State.doneK (s : State) (k : Cmd) (res : Nat) : State := s.complete k stDONE res
def State.failK (s : State) (k : Cmd) (cause : Nat) : State := s.complete k stFAILED cause

/-- A command fails with a cause whose number the spec does not give: the cause is a free value. (DESIGN CHOICE, log 14.) -/
def State.failFree (s : State) (k : Cmd) : State := let d := s.draw; d.2.failK k (d.1.toNat % 256)

/-- A command goes on running, with its progress and its own number. -/
def State.runK (s : State) (k : Cmd) : State := s.setCmd { k with phase := .running }

/-- The engines that may execute an opcode (R334); the CQE itself serves SEQ_STATE. -/
def opEngines (op : Nat) : List Nat :=
  if op = 0x05 ∨ op = 0x06 ∨ op = 0x08 then [0]
  else if op = 0x16 ∨ op = 0x17 then [2]
  else if op = 0x04 ∨ op = 0x12 ∨ op = 0x13 then [7]
  else [5, 6]

/-- The engine that serves a command is stopped: that of its execution slot (R338), or every engine of its opcode. SEQ_STATE
needs none; FE7 runs a SCRUB's pass (R421), writes the loft records and keeps the retirement table; the ROM loader serves
no ring (R53). -/
def State.cmdStopped (s : State) (k : Cmd) : Bool :=
  let has := fun r => match s.grantOf r with | some g => decide (g.org = .tag k.tag) | none => false
  if k.op = 0x07 then false
  else if s.bit engB ENG.STATUS_ROM then true
  else if k.op = 0x0E then s.stopped 7
  else if (k.op = 0x0F ∨ k.op = 0x10) ∧ s.stopped 7 then true
  else if has 0 || has 1 then s.stopped 5
  else if has 2 || has 3 then s.stopped 6
  else (opEngines k.op).all s.stopped

/-- A waiting command has its resources and its engine. A SNAPSHOT starts without the write port (R269, R271). -/
def State.canStart (s : State) (k : Cmd) : Bool := k.phase == .waiting && (k.op == 0x04 || s.holdsAll k) && !s.cmdStopped k

/-- No command fetched before this one could start and has not: they start in fetch order (R330). One that still waits for
a resource that the arbiter has given elsewhere keeps no other from starting. (DEDUCED, log 31.) -/
def State.inTurn (s : State) (k : Cmd) : Bool :=
  (s.cmds.takeWhile (fun d => d.tag != k.tag)).all (fun d => d.prog != 0 || !s.canStart d)

/-- A ring command's row: the fetched command of this tag and opcode, waiting, with its resources held and its engine
running, starts in its turn. In any other case nothing happens (R330, R335). -/
def State.start (s : State) (t : BitVec 8) (op : Nat) (f : Cmd → State → State) : State :=
  match s.findCmd t.toNat with
  | none => s
  | some k =>
    if k.op = op ∧ s.canStart k ∧ (k.prog ≠ 0 ∨ s.inTurn k) then f k s else s

/-- Every command fetched with this opcode that runs ends with a status and a result. -/
def State.endRunning (s : State) (op st res : Nat) (p : Cmd → Bool) : State :=
  (s.cmds.filter (fun k => k.op == op && k.phase == .running && p k)).foldl (fun t k => t.complete k st res) s

/-- Where each opcode is served (R334): 0 Active; 1 Active, HOLD and SAFE; 2 Active and HOLD; 3 all served modes;
4 SERVICE and HOLD; 5 RUN and SERVICE. (DEDUCED, log 31.) -/
def opServed (op m : Nat) : Bool :=
  let act := decide (4 ≤ m ∧ m ≤ 9)
  if op = 0x04 then act || m == mHOLD || m == mSAFE
  else if op = 0x06 then act || m == mHOLD
  else if op = 0x07 then decide (3 ≤ m)
  else if op = 0x11 ∨ op = 0x12 ∨ op = 0x14 ∨ op = 0x15 then m == mSERVICE || m == mHOLD
  else if op = 0x13 then m == mRUN || m == mSERVICE
  else act

/-! A two-wire controller at rest. -/

def State.twi (s : State) (i : Fin 2) : TwiHid := s.twis[i]
def State.modTwi (s : State) (i : Fin 2) (f : TwiHid → TwiHid) : State := { s with twis := s.twis.set i (f s.twis[i]) }
def State.setTwiSt (s : State) (i : Fin 2) (v : Nat) : State := s.wr (twiB i) TWI.STATUS_STATE v
/-- The controller is at rest. -/
def State.twRest (s : State) (i : Fin 2) : State :=
  (s.modTwi i (fun h => { TwiHid.reset with stretch := h.stretch })).setTwiSt i (if s.bit (twiB i) TWI.CFG_EN then 1 else 0)

/-- On entry to SAFE or LOCKOUT, fetched commands not served there complete MODE_REFUSED if they have not started, and
ABORTED if they wait to go on (R335). (DEDUCED, log 31.) -/
def State.refuseWaiting (s : State) (m : Nat) : State :=
  (s.cmds.filter (fun k => k.phase == .waiting && !opServed k.op m)).foldl
    (fun t k => if k.prog = 0 then t.complete k stMODE 1 else t.complete k stABORTED 0) s

/-- The commands that run on in SAFE or LOCKOUT, where no rule of theirs has ended them, end ABORTED (R335).
(DEDUCED, log 31.) -/
def State.abortRunning (s : State) : State :=
  if s.mode = mSAFE ∨ s.mode = mLOCKOUT then
    (s.cmds.filter (fun k => k.phase == .running && !opServed k.op s.mode)).foldl (fun t k =>
      let u := t.complete k stABORTED 0
      if k.op = 0x0C then u.twRest (if k.a0.getLsbD 0 then 1 else 0) else u) s
  else s

end Sys2Proof.Machine
end

