-- ==== Sys2Proof/Machine/Outputs.lean ====
section
/-! DEFINITION. The 46 outputs as one numbering (R143): their targets, their states, discharge (R152, R153), going
off, and the safe state (R151). -/

namespace Sys2Proof.Machine

open Sys2Proof

/-! What the blocks hold beside their registers. -/

def State.railH (s : State) (n : Nat) : RailHid := (s.rails[n]?).getD RailHid.reset
def State.modRail (s : State) (n : Nat) (f : RailHid → RailHid) : State :=
  { s with rails := s.rails.setIfInBounds n (f (s.railH n)) }
def State.sheafH (s : State) (n : Nat) : SheafHid := (s.sheaves[n]?).getD SheafHid.reset
def State.modSheaf (s : State) (n : Nat) (f : SheafHid → SheafHid) : State :=
  { s with sheaves := s.sheaves.setIfInBounds n (f (s.sheafH n)) }
def State.phH (s : State) (p : Nat) : PhaseHid := (s.phases[p]?).getD PhaseHid.reset
def State.modPh (s : State) (p : Nat) (f : PhaseHid → PhaseHid) : State :=
  { s with phases := s.phases.setIfInBounds p (f (s.phH p)) }
def State.buckH (s : State) (n : Nat) : BuckHid := (s.bucks[n]?).getD BuckHid.reset
def State.modBuck (s : State) (n : Nat) (f : BuckHid → BuckHid) : State :=
  { s with bucks := s.bucks.setIfInBounds n (f (s.buckH n)) }
def State.outH (s : State) (x : Nat) : OutHid := (s.outs[x]?).getD OutHid.reset
def State.modOut (s : State) (x : Nat) (f : OutHid → OutHid) : State :=
  { s with outs := s.outs.setIfInBounds x (f (s.outH x)) }

/-- The nearest whole number to `a / b`, halves away from zero. (DESIGN CHOICE, log 75.) -/
def roundDiv (a : Int) (b : Nat) : Int :=
  if 0 ≤ a then (2 * a + b) / (2 * b : Nat) else -((2 * (-a) + b) / (2 * b : Nat))

/-! The outputs: RAIL0 to RAIL11 are 0 to 11, BK0 to BK15 12 to 27, LDO0 to LDO9 28 to 37, LS0 to LS7 38 to 45. -/

inductive OutKind where
  | rail | buck | ldo | ls
  deriving DecidableEq, Repr

def outKind (x : Nat) : OutKind := if x < 12 then .rail else if x < 28 then .buck else if x < 38 then .ldo else .ls

def State.outEn (s : State) (x : Nat) : Bool :=
  match outKind x with
  | .rail => s.bit (rail x) RAIL.CTRL_EN
  | .buck => s.bit (bk (x - 12)) BUCK.BK_CTRL_EN
  | .ldo => s.bit (ldo (x - 28)) LDO.LDO_CTRL_EN
  | .ls => s.bit (ls (x - 38)) LDO.LS_CTRL_EN

def State.setEn (s : State) (x : Nat) (b : Bool) : State :=
  match outKind x with
  | .rail => s.wrB (rail x) RAIL.CTRL_EN b
  | .buck => s.wrB (bk (x - 12)) BUCK.BK_CTRL_EN b
  | .ldo => s.wrB (ldo (x - 28)) LDO.LDO_CTRL_EN b
  | .ls => s.wrB (ls (x - 38)) LDO.LS_CTRL_EN b

/-- The state code of an output (R84, R207, R217). -/
def State.outSt (s : State) (x : Nat) : Nat :=
  match outKind x with
  | .rail => s.rd (rail x) RAIL.STATUS_STATE
  | .buck => s.rd (bk (x - 12)) BUCK.BK_STAT_STATE
  | .ldo => s.rd (ldo (x - 28)) LDO.LDO_STAT_STATE
  | .ls => s.rd (ls (x - 38)) LDO.LS_STAT_STATE

def State.setOutSt (s : State) (x v : Nat) : State :=
  match outKind x with
  | .rail => s.wr (rail x) RAIL.STATUS_STATE v
  | .buck => (s.wr (bk (x - 12)) BUCK.BK_STAT_STATE v).wrB (bkPage (x - 12)) (BUCK.STATUS_ON.at ((x - 12) % 8)) (v != 0)
  | .ldo => (s.wr (ldo (x - 28)) LDO.LDO_STAT_STATE v).wrB ldoB (LDO.STATUS_LDO_ON.at (x - 28)) (v != 0)
  | .ls => (s.wr (ls (x - 38)) LDO.LS_STAT_STATE v).wrB ldoB (LDO.STATUS_LS_ON.at (16 + (x - 38))) (v != 0)

/-- A buck is the follower of a pair (R210). -/
def State.follows (s : State) (x : Nat) : Bool :=
  decide (12 ≤ x ∧ x < 28 ∧ (x - 12) % 2 = 1) && s.bit (bk (x - 13)) BUCK.BK_CTRL_PAR

/-- The output whose settings govern: the leader of a pair (R210). -/
def State.lead (s : State) (x : Nat) : Nat := if s.follows x then x - 1 else x

/-! The supervisor's bitmaps: bit x of a pair of words (R158). -/

def State.supv (s : State) (off x : Nat) : Bool := (s.getW (supvB + off + 4 * (x / 32))).toNat.testBit (x % 32)
def State.setSupv (s : State) (off x : Nat) (b : Bool) : State :=
  let k := supvB + off + 4 * (x / 32)
  s.setW k (putBits (s.getW k) (x % 32) 1 (if b then 1 else 0))

/-- SUPV.STATUS.ALL_PG: some output is enabled and every enabled one is power-good (R158). -/
def State.allPg (s : State) : State :=
  let en := (List.range 46).filter (fun x => s.outEn x && s.outSt x != 0 && !s.follows x)
  s.wrB supvB SUPV.STATUS_ALL_PG (!en.isEmpty && en.all (fun x => s.supv 0x280 x))

/-- The follower's PG and BELOW bits copy the leader's (R210). -/
def State.setPair (s : State) (off x : Nat) (b : Bool) : State :=
  let s1 := s.setSupv off x b
  if s.follows (x + 1) then s1.setSupv off (x + 1) b else s1

def State.setPg (s : State) (x : Nat) (b : Bool) : State := (s.setPair 0x280 x b).allPg

/-- STATUS.ANY_OV and ANY_UV: what the comparators show now (R158). -/
def State.anyShow (s : State) : State :=
  (s.wrB supvB SUPV.STATUS_ANY_OV ((List.range 46).any (fun x => (s.outH x).ovNow))).wrB supvB SUPV.STATUS_ANY_UV
    ((List.range 46).any (fun x => (s.outH x).uvNow))

/-! Targets. -/

/-- The set-point step of an output's reference: its lowest value and its code, in reference steps (R260): 19.53125 µV
for a rail, 39.0625 µV for a buck, 5 mV for an LDO. -/
def refOf (x code : Nat) : Nat :=
  match outKind x with
  | .rail => 20480 + 64 * code
  | .buck => 15360 + 64 * code
  | _ => 120 + code

def State.vsetCode (s : State) (x : Nat) : Nat :=
  match outKind x with
  | .rail => s.rd (rail x) RAIL.VSET_CODE
  | .buck => s.rd (bk (x - 12)) BUCK.BK_VSET_CODE
  | .ldo => s.rd (ldo (x - 28)) LDO.LDO_VSET_CODE
  | .ls => 0

def State.vmin (s : State) (x : Nat) : Nat :=
  match outKind x with
  | .rail => s.rd (rail x) RAIL.VLIM_VMIN
  | .buck => s.rd (bk (x - 12)) BUCK.BK_VLIM_VMIN
  | _ => 0

def State.vmax (s : State) (x : Nat) : Nat :=
  match outKind x with
  | .rail => min 2320 (s.rd (rail x) RAIL.VLIM_VMAX)
  | .buck => min 1760 (s.rd (bk (x - 12)) BUCK.BK_VLIM_VMAX)
  | .ldo => min 540 (s.rd (ldo (x - 28)) LDO.LDO_VSET_VMAX)
  | .ls => 0

/-- The margin offset of R260, rounded to the nearest reference step. -/
def State.margOfs (s : State) (x : Nat) : Int :=
  if x < 38 then roundDiv ((refOf x (s.vsetCode x) : Int) * s.rdI (marg x) MARG.OUT_CUR) 200 else 0

/-- VSET plus the margin, before VLIM. -/
def State.rawTarget (s : State) (x : Nat) : Int := (refOf x (s.vsetCode x) : Int) + s.margOfs x

/-- The target of an output, in its reference steps (R76, R204, R211); a VMIN above VMAX wins. (DESIGN CHOICE, log 78.) -/
def State.target (s : State) (x : Nat) : Nat :=
  (clampI (refOf x (s.vmin x)) (refOf x (max (s.vmin x) (s.vmax x))) (s.rawTarget x)).toNat

/-- Where an output's reference stands. -/
def State.refNow (s : State) (x : Nat) : Nat :=
  match outKind x with
  | .rail => s.rd (rail x) RAIL.REF_NOW_REF
  | .buck => (s.buckH (x - 12)).ref
  | _ => s.target x

def State.setRef (s : State) (x v : Nat) : State :=
  match outKind x with
  | .rail => s.wr (rail x) RAIL.REF_NOW_REF v
  | .buck => s.modBuck (x - 12) (fun h => { h with ref := v })
  | _ => s

def State.setSlewing (s : State) (x : Nat) (b : Bool) : State :=
  match outKind x with
  | .rail => s.wrB (rail x) RAIL.STATUS_SLEWING b
  | .buck => s.wrB (bk (x - 12)) BUCK.BK_STAT_SLEWING b
  | _ => s

/-- The output regulates. -/
def State.regulates (s : State) (x : Nat) : Bool :=
  match outKind x with
  | .rail => s.outSt x == 3
  | .buck => s.outSt x == 3
  | .ldo => s.outSt x == 2
  | .ls => s.outSt x == 2

/-! Ends of SET_V, RAMP and MARGIN, and of an identification run. -/

/-- Does a running SET_V, RAMP or MARGIN concern output `x`? -/
def moves (x : Nat) (k : Cmd) : Bool := decide (1 ≤ k.op ∧ k.op ≤ 3 ∧ getBits k.a0 0 6 = x ∧ k.phase = .running)

/-- The commands that wait for output `x` end with a status and a result (R79). -/
def State.endMoves (s : State) (x st res : Nat) : State :=
  (s.cmds.filter (moves x)).foldl (fun t k => t.complete k st res) s

/-! Ends of a slew (R77, R79). -/

/-- The time a command has waited for the reference, in µs (R79), rounded down: `aux` counts the samples of its output, and for an LDO is
the tick at which it began. (DESIGN CHOICE, log 86.) -/
def State.waited (s : State) (x aux : Nat) : Nat :=
  match outKind x with
  | .rail => min 4294967295 (aux * 500 / clampN 250 2000 (s.rd (rail x) RAIL.FSW_FREQ))
  | .ldo => min 4294967295 (s.tick - aux)
  | _ => min 4294967295 (aux * 10 / 44)

/-- The commands that waited for the reference complete (R79, R267). -/
def State.endWaits (s : State) (x : Nat) : State :=
  (s.cmds.filter (moves x)).foldl (fun t k => t.complete k stDONE (s.waited x k.aux)) s

/-- The reference is at its target: SLEWING clears, the commands that waited complete (R79), a RAMP's slew ends, and the
settling of the window begins (R144). -/
def State.slewDone (s : State) (x : Nat) : State :=
  let s1 := ((s.setSlewing x false).mark (.slewEnd x)).endWaits x
  match outKind x with
  | .rail =>
    let s2 := s1.modRail x (fun h => { h with ramp := none, rem := 0 })
    if s.bit (rail x) RAIL.STATUS_SLEWING then s2.irq (rail x) 16 x else s2
  | .buck => s1.modBuck (x - 12) (fun h => { h with ramp := none, rem := 0 })
  | _ => s1

/-- One sample of the commands that wait for output `x`. A SET_V or RAMP held over a soft start counts its samples and those of
the slew after it, but no pre-bias search, which has none; R79 does not say where its time begins. (DESIGN CHOICE, log 86.) -/
def State.waitSample (s : State) (x : Nat) : State :=
  { s with cmds := s.cmds.map (fun k => if moves x k then { k with aux := k.aux + 1 } else k) }

/-- The identification run of a rail aborts (R94) with a cause of R97: injection stops, ERR.LID_ABORT sets, and the
LOOP_ID completes. -/
def State.lidAbort (s : State) (n cause : Nat) : State :=
  if s.bit (rail n) RAIL.STATUS_LID_RUN then
    let s1 := ((s.wr (rail n) RAIL.STATUS_LID_RUN 0).wr (rail n) RAIL.LID_STAT_STATE 6).wr (rail n) RAIL.LID_STAT_CAUSE cause
    (s1.err (rail n) 5 n none none).endRunning 0x09 stFAILED cause (fun k => getBits k.a0 0 4 == n)
  else s

/-- The target of an output may have changed: its window widens over the slew (R144), a slew that has nowhere to go ends (R77),
an identification run whose target moved aborts (R94), and MARG shows a clamp (R261). -/
def State.retarget (s : State) (x : Nat) : State :=
  let t := s.target x
  let r := s.refNow x
  let s1 := if x < 38 then
      let c := s.rawTarget x != (t : Int) && s.rdI (marg x) MARG.OUT_CUR != 0
      let s0 := s.wrB (marg x) MARG.OUT_CLAMP c
      if c then s0.errQ margB 3 0 else s0
    else s
  let s2 := if outKind x = .rail ∧ t ≠ (s.railH x).lid.vset0 then s1.lidAbort x 5 else s1
  if !s.regulates x then s2
  else if r = t then s2.slewDone x
  else
    (s2.modOut x (fun h => if h.slew then { h with lo := min h.lo t, hi := max h.hi t }
      else { h with slew := true, lo := min r t, hi := max r t })).setSlewing x true

/-! Phases and sheaves: who belongs where (R104, R133). -/

def State.phRail (s : State) (p : Nat) : Nat :=
  if 48 ≤ p then 15 else let r := s.rd (ph p) PHX.MAP_RAIL; if r < 12 then r else 15
def State.phRole (s : State) (p : Nat) : Nat :=
  if 48 ≤ p then 3 else let r := s.rd (ph p) PHX.MAP_ROLE; if r = 3 then 0 else r
/-- The slot a phase holds: a spare in place of a removed phase holds HELD_SLOT (R107, R129). -/
def State.phSlot (s : State) (p : Nat) : Nat :=
  if s.bit (ph p) PHX.MAP_SUBST then s.rd (ph p) PHX.MAP_HELD_SLOT else s.rd (ph p) PHX.MAP_SLOT
def State.phState (s : State) (p : Nat) : Nat := s.rd (ph p) PHX.PSTAT_STATE

abbrev phIDLE : Nat := 0
abbrev phACTIVE : Nat := 1
abbrev phDEPART : Nat := 2
abbrev phJOIN : Nat := 3
abbrev phSHED : Nat := 4
abbrev phSPARE : Nat := 5
abbrev phREMOVED : Nat := 6
abbrev phBUS : Nat := 7

def State.phasesOf (s : State) (r : Nat) : List Nat := (List.range 48).filter (fun p => s.phRail p == r && s.phRole p != 0)

/-- The participating phases of a sheaf (R107). -/
def State.takesPart (s : State) (p : Nat) : Bool := decide (1 ≤ s.phState p ∧ s.phState p ≤ 3)

/-- A phase at rest: mid-level, with its weight, trim, duty and on-time 0 (R102, R111). -/
def State.phRest (s : State) (p st : Nat) : State :=
  (((s.wr (ph p) PHX.PSTAT_STATE st).wr (ph p) PHX.SHARE_WEIGHT 0).wr (ph p) PHX.PSTAT_TRIM 0).modPh p
    (fun h => { h with pwm := .mid, kept := false, duty := 0, on := 0, oofI := 0, oofT := 0, oofO := 0 })

/-- The state of a phase whose rail does not run (R133): REMOVED, SPARE_IDLE or IDLE. -/
def State.restState (s : State) (p : Nat) : Nat :=
  if s.bit (ph p) PHX.MAP_REMOVED then phREMOVED
  else if s.phRole p = 2 ∧ s.phRail p < 12 ∧ s.bit (ph p) PHX.MAP_SUBST = false then phSPARE else phIDLE

/-- Every phase of a stopped rail at mid-level, its sheaf at FULL with no window open and no trim (R102, R111). -/
def State.sheafRest (s : State) (r : Nat) : State :=
  let s1 := s.each (s.phasesOf r) fun p t => t.phRest p (t.restState p)
  let s2 := ((((s1.wr (sheaf r) PHX.SH_STAT_SST 0).wr (sheaf r) PHX.SH_STAT_LEVEL 0).wr (sheaf r) PHX.SH_STAT_CYCLE 0).wr
    (sheaf r) PHX.SH_STAT_M 0).wr (sheaf r) PHX.SH_STAT_HINT_WIN 0
  (s2.modSheaf r (fun _ => SheafHid.reset)).wr (rail r) RAIL.STATUS_NPH 0

/-! Going off. -/

/-- The last protective cause of a rail, with the tick (R157). -/
def State.protLast (s : State) (n cause : Nat) : State :=
  (s.wr (rail n) RAIL.PROT_LAST_CAUSE cause).wr (rail n) RAIL.PROT_LAST_TICK (s.tick % 2 ^ 22)

/-- A request to discharge an output (R152): the internal pull-down, or for a rail its external switch. A pin that is not
DISCHARGE counts as none, with GPIO.ERR.CONFLICT (R510). -/
def State.discharge (s : State) (x : Nat) : State :=
  if outKind x = .rail then
    let p := s.rd (out x) SUPV.OUT_OFF_DIS_PIN
    if 16 ≤ p then s.protLast x 9
    else if s.rd (pin p) GPIO.PIN_CFG_FUNC = 3 then s.modOut x (fun h => { h with dis := true })
    else (s.protLast x 9).err gpioB 0 134 none none
  else
    let s1 := s.modOut x (fun h => { h with dis := true })
    if s.follows (x + 1) then s1.modOut (x + 1) (fun h => { h with dis := true }) else s1

/-- MARG of an output that protection took off (R264). -/
def State.margClear (s : State) (x : Nat) : State :=
  if x < 38 then (((s.wr (marg x) MARG.OUT_CUR 0).wr (marg x) MARG.OUT_NEXT 0).wr (marg x) MARG.OUT_PEND 0).wr (marg x) MARG.OUT_CLAMP 0
  else s

/-- MARG.STATUS.ANY: some CUR is not 0 (R273). -/
def State.margAny (s : State) : State :=
  s.wrB margB MARG.STATUS_ANY ((List.range 38).any (fun x => s.rd (marg x) MARG.OUT_CUR != 0))

/-- A half of a buck that does not switch: its switch node at high impedance, nothing measured (R207, R215). -/
def State.buckRest (s : State) (x : Nat) : State :=
  (((s.wr (bk (x - 12)) BUCK.BK_MON_DUTY 0).wr (bk (x - 12)) BUCK.BK_MON_IOUT 0).wr (bk (x - 12)) BUCK.BK_STAT_SKIPPING 0).modBuck (x - 12)
    (fun h => { h with loop := Loop.reset, duty := none, trim := 0, sw := .mid, vins := [] })

/-- The stop of an output that leaves running for the state `st` (R79, R84, R207): its counters as R141 says where it
goes to OFF, its reference at 0, waiting commands completed. -/
def State.outStop (s : State) (x st : Nat) : State :=
  let s0 := (s.setOutSt x st).endMoves x stDONE 0
  let s1 := match outKind x with
    | .rail =>
      let a := ((((s0.sheafRest x).wr (rail x) RAIL.STATUS_SS_DONE 0).wr (rail x) RAIL.REF_NOW_REF 0).wr (rail x)
        RAIL.STATUS_FF_CLAMP 0).wr (rail x) RAIL.STATUS_DUTY_CLAMP 0
      let b := if st = 0 then (((a.wr (rail x) RAIL.HIC_STAT_RETRY 0).wr (rail x) RAIL.HIC_STAT_OFF_LEFT 0)) else a
      (b.wr (rail x) RAIL.HIC_STAT_LCNT 0).modRail x (fun h => { h with ramp := none, rem := 0, cut := false, cap := none, ovOff := false })
    | .buck =>
      let a := s0.wr (bk (x - 12)) BUCK.BK_STAT_SS_DONE 0
      let b := if st = 0 then (a.wr (bk (x - 12)) BUCK.BK_STAT_RETRY 0).wr (bk (x - 12)) BUCK.BK_STAT_OFF_LEFT 0 else a
      let c := (((b.wr (bk (x - 12)) BUCK.BK_STAT_LCNT 0).wr (bk (x - 12)) BUCK.BK_STAT_SKIPPING 0).modBuck (x - 12)
        (fun h => { h with ref := 0, ramp := none, rem := 0 })).buckRest x
      if c.follows (x + 1) then c.buckRest (x + 1) else c
    | .ldo => ((((s0.wr (ldo (x - 28)) LDO.LDO_STAT_IOUT 0).wr (ldo (x - 28)) LDO.LDO_STAT_SS_DONE 0).wr (ldo (x - 28)) LDO.LDO_STAT_LIMITING 0).wr (ldo (x - 28))
        LDO.LDO_STAT_DROPOUT 0).wr (ldo (x - 28)) LDO.LDO_STAT_KA 0
    | .ls => (((s0.wr (ls (x - 38)) LDO.LS_STAT_LIMITING 0).wr (ls (x - 38)) LDO.LS_STAT_REV_BLOCK 0).wr (ls (x - 38)) LDO.LS_STAT_IOUT
        0).modOut x (fun h => { h with uv := 0, vin := 0 })
  (((s1.setSlewing x false).modOut x (fun h => { h with slew := false, uvNow := false })).anyShow).setPg x false

/-- An output goes to OFF, with no discharge of its own. `how`: 0 by its EN, 1 by the safe state, 2 by a hiccup in
DRAINING (R230), 3 by an overvoltage. The follower of a pair goes with its leader (R210). -/
def State.outDown (s : State) (x how : Nat) : State :=
  let s1 := if outKind x = .rail then s.lidAbort x (if how = 0 then 9 else 7) else s
  let s2 := (s1.setEn x false).outStop x 0
  let s3 := if how = 1 ∨ how = 3 then (s2.margClear x).margAny else s2
  if s.outSt x = 0 then s3 else { s3.mark (.offAt x) with offQ := s3.offQ ++ [(x, how)] }

/-- An output goes to OFF, discharged as its DIS_EN selects (R153). -/
def State.outOff (s : State) (x how : Nat) : State :=
  if s.bit (out x) SUPV.OUT_OFF_DIS_EN then (s.outDown x how).discharge x else s.outDown x how

/-- An output latches off (R140, R211, R213): EN keeps its value, MARG clears (R264), and it is discharged as its DIS_EN
selects (R153). -/
def State.outLatch (s : State) (x : Nat) : State :=
  let st := match outKind x with | .rail => 5 | .buck => 5 | _ => 3
  let s1 := if outKind x = .rail then s.lidAbort x 7 else s
  let s2 := ((s1.outStop x st).margClear x).margAny
  let s3 := if s.outSt x = 0 then s2 else { s2 with offQ := s2.offQ ++ [(x, 4)] }
  if s.bit (out x) SUPV.OUT_OFF_DIS_EN then s3.discharge x else s3

/-- UV is armed once the soft start has completed (R145). -/
def State.uvArmed (s : State) (x : Nat) : Bool := s.regulates x && s.rd (out x) SUPV.OUT_WIN_UV != 0 && !s.follows x

/-- The safe state of an output (R151). Its comparators are heard to the end of the tick (R155). PROT_LAST takes cause 7 first,
and 9 after it where the discharge finds no pin (R152), an order that is not stated. (DESIGN CHOICE, log 86.) -/
def State.safeState (s0 : State) (x : Nat) : State :=
  let s := (s0.iff (s0.outEn x) fun t => t.mark (.forced x)).iff (s0.uvArmed x) fun t => t.mark (.armed x)
  let s1 := if s.outSt x = 0 ∨ (s.outSt x = 6 ∧ outKind x = .buck) then s.setEn x false
    else
      let a := s.outDown x 1
      match outKind x with
      | .rail => a.protLast x 7
      | .buck => a.wr (bk (x - 12)) BUCK.BK_STAT_CAUSE 7
      | _ => a
  if s.bit (out (s.lead x)) SUPV.OUT_CFG_SAFE_DIS then s1.discharge x else s1

/-- LDO0 on the keep-alive path, where neither LIMITING nor the OC_OFF rule acts (R212). -/
def State.ldo0Ka (s : State) : State := (s.wr (ldo 0) LDO.LDO_STAT_KA 1).wr (ldo 0) LDO.LDO_STAT_LIMITING 0

/-- The rail group of an output; of a pair, the leader's (R150, R210). -/
def State.groupOf (s : State) (x : Nat) : Nat := s.rd (out (s.lead x)) SUPV.OUT_CFG_GROUP

/-- Every output of a group to its safe state (R375). -/
def State.forceGroup (s : State) (g : Nat) : State :=
  s.each (List.range 46) fun x t => if t.groupOf x = g then t.safeState x else t

/-- Is output `x` held off by its group (R375)? -/
def State.held (s : State) (x : Nat) : Bool := (s.rd fltB FLT.STATUS_GHOLD).testBit (s.groupOf x)

end Sys2Proof.Machine
end

