-- ==== Sys2Proof/Machine/Operands.lean ====
section
/-! DEFINITION. The arithmetic on measured operands: the compensator of R65 to R71, and the thermistor equation of
R180. -/

namespace Sys2Proof.Machine

open Sys2Proof

/-! The compensator. -/

/-- A coefficient set: signed Q2.14 numbers, the shared exponent and the integrator's limit in error LSB, 0 for the full
range (R70). -/
structure Coef where
  kp : Int
  ki : Int
  kd : Int
  a1 : Int
  a2 : Int
  kexp : Nat
  lim : Nat
  deriving DecidableEq, Repr

/-- The range of R69, in steps of 2 to the power −14. -/
def satR (i : Int) : Int := clampI (-4294967296) 4294967295 i

/-- One sample of the compensator: the new terms, its output with 14 fraction bits, and whether an addition saturated
(R65, R69, R70). The clamp flags are those of the preceding duty. A pole's product is brought back to 14 fraction bits by
rounding down. (DESIGN CHOICE, log 75.) -/
def compStep (c : Coef) (h : Loop) (e : Int) : Loop × Int × Bool :=
  let p := c.kp * e
  let d := c.kd * (e - h.ePrev)
  let hi := if c.lim = 0 then 4294967295 else min 4294967295 ((c.lim : Int) * 16384)
  let lo := if c.lim = 0 then -4294967296 else -((c.lim : Int) * 16384)
  let raw := h.acc + c.ki * e
  let moves := !(h.hiC && decide (0 < e)) && !(h.loC && decide (e < 0))
  let acc := if moves then clampI lo hi raw else h.acc
  let pa := p + acc
  let u0 := satR pa + d
  let u := satR u0
  let w1 := u - h.y1
  let v1 := h.y1 + c.a1 * satR w1 / 16384
  let y1 := satR v1
  let w2 := y1 - h.y2
  let v2 := h.y2 + c.a2 * satR w2 / 16384
  let y2 := satR v2
  let sat := (moves && decide (satR raw ≠ raw)) || decide (satR pa ≠ pa ∨ u ≠ u0 ∨ satR w1 ≠ w1 ∨ y1 ≠ v1 ∨ satR w2 ≠ w2 ∨ y2 ≠ v2)
  ({ h with acc := acc, y1 := y1, y2 := y2, ePrev := e }, y2 * 2 ^ c.kexp, sat)

/-- Coefficients from three words laid out as RAIL's PI, DX and POLE registers (R101). -/
def coefOf (pi dx pole : Word) (lim : Nat) : Coef :=
  { kp := signOf 16 (getBits pi 0 16), ki := signOf 16 (getBits pi 16 16), kd := signOf 16 (getBits dx 0 16),
    kexp := getBits dx 16 3, a1 := signOf 16 (getBits pole 0 16), a2 := signOf 16 (getBits pole 16 16), lim := lim }

/-! Roots, exponentials and logarithms. -/

/-- The integer square root, by its bits from `k` down. -/
def isqrt (n : Nat) : Nat → Nat → Nat
  | 0, r => r
  | k + 1, r => if (r + 2 ^ k) * (r + 2 ^ k) ≤ n then isqrt n k (r + 2 ^ k) else isqrt n k r

/-- The series of exp from its term `t` of order `k − 1` on, for an argument with 60 fraction bits. -/
def expTerm (k : Nat) : Nat → Nat → Nat → Nat
  | 0, _, _ => 0
  | fuel + 1, x, t => t + expTerm (k + 1) fuel x (t * x / (2 ^ 60 * k))

/-- exp(num / 64 den) with 60 fraction bits. -/
def expPos (num den : Nat) : Nat := expTerm 1 30 (num * 2 ^ 54 / max 1 den) (2 ^ 60)

/-- A square with 60 fraction bits. -/
def sq60 (x : Nat) : Nat := x * x / 2 ^ 60

/-- 1 − exp(−num/den) with 60 fraction bits: a 64th of the argument, raised to the 64th power. -/
def oneMinusExp (num den : Nat) : Nat :=
  2 ^ 60 - sq60 (sq60 (sq60 (sq60 (sq60 (sq60 (2 ^ 120 / expPos num den))))))

/-- 2π with 32 fraction bits. -/
def twoPi : Nat := 26986075409

/-- Twice the area hyperbolic tangent of `num / den` with 40 fraction bits, by its power series. -/
def lnSeries : Nat → Int → Int → Nat → Int
  | 0, _, _, _ => 0
  | fuel + 1, zz, pw, k => pw / (k : Int) + lnSeries fuel zz (pw * zz / 1099511627776) (k + 2)

/-- The natural logarithm of `num / den`, at least 1, with 40 fraction bits. -/
def lnRatio (num den : Nat) : Nat :=
  let k := Nat.log2 (num / max 1 den)
  let d := den * 2 ^ k
  2 * (lnSeries 40 (((num - d) * 2 ^ 40 / (num + d)) ^ 2 / 2 ^ 40) ((num - d) * 2 ^ 40 / (num + d)) 1).toNat + k * 762123384786

/-! A proposal of R95. -/

/-- A frequency over that of the second pole, with 32 fraction bits: fc/fp, fp being the frequency that R71 gives the coefficient
`a2` at the sample rate `fs`; 0 where it is transparent. -/
def poleRatio (fs fc : Nat) (a2 : Int) : Nat :=
  let m := (16384 - a2).toNat
  if m = 0 then 0 else twoPi * fc * 2 ^ 40 / (fs * max 1 (lnRatio 16384 m))

/-- The squared magnitude's root of the second pole, with 32 fraction bits: √(1 + (fc/fp)²). -/
def poleGain (fs fc : Nat) (a2 : Int) : Nat :=
  let x := poleRatio fs fc a2
  isqrt (2 ^ 64 + x * x) 80 0

/-- The gain that brings the loop to 1 at the crossover, over 2π fc, with 32 fraction bits (R95): the double zero lies at f0, the
pole A1 meets the ESR zero, and the second pole stays. -/
def lidGain (fs fc f0 q : Nat) (a2 : Int) : Nat :=
  let a := ((f0 * f0 : Int) - fc * fc).natAbs * q
  let b := fc * f0 * 65536
  isqrt (a * a + b * b) 100 0 * poleGain fs fc a2 / (max 1 q * max 1 (f0 * f0 + fc * fc))

/-- A gain with 32 fraction bits as a Q2.14 code under the exponent `k`, to the nearest, held at the largest. -/
def gainCode (k g : Nat) : Int := min 32767 (roundDiv g (2 ^ (18 + k)))

/-- The coefficients of a proposal (R71, R95): gains from the crossover `fc`, f0 and Q (in 2^−16), A1 at fesr, A2 kept. How
their numbers round is not stated. (DESIGN CHOICE, log 45.) -/
def lidCoef (fs fc f0 q fesr : Nat) (a2 : Int) : Coef :=
  let g := lidGain fs fc f0 q a2
  let ki := twoPi * fc * g / (fs * 2 ^ 32)
  let kp := 2 * fc * g / max 1 f0
  let kd := fc * g * fs * 2 ^ 32 / (max 1 (f0 * f0) * twoPi)
  let top := max kp (max ki kd)
  let k := ((List.range 8).find? (fun k => decide (top < 2 ^ (33 + k)))).getD 7
  { kp := gainCode k kp, ki := gainCode k ki, kd := gainCode k kd, kexp := k, lim := 0, a2 := a2,
    a1 := clampI 1 16384 (roundDiv (oneMinusExp (twoPi * fesr) (fs * 2 ^ 32)) (2 ^ 46)) }

/-! What a proposal predicts (R66, R95): the loop of the fitted filter and the proposal's codes, by the gains of R71. Its pole A1
meets the ESR zero. -/

/-- The arctangents of 2^−k in 2^−32 turns. -/
def atanTab : List Int :=
  [536870912, 316933406, 167458907, 85004756, 42667331, 21354465, 10679838, 5340245, 2670163, 1335087, 667544, 333772, 166886, 83443,
   41722, 20861, 10430, 5215, 2608, 1304, 652, 326, 163, 81, 41, 20, 10, 5, 3, 1]

/-- The angle of the vector (x, y), x at least 0, by rotations towards the axis. -/
def turnBy : List Int → Nat → Int → Int → Int
  | [], _, _, _ => 0
  | a :: t, k, x, y =>
    if 0 ≤ y then a + turnBy t (k + 1) (x + y / 2 ^ k) (y - x / 2 ^ k) else turnBy t (k + 1) (x - y / 2 ^ k) (y + x / 2 ^ k) - a

/-- The angle of the vector (x, y) in 2^−32 turns. -/
def turnOf (x y : Int) : Int :=
  if 0 ≤ x then turnBy atanTab 0 (x * 2 ^ 32) (y * 2 ^ 32)
  else (if 0 ≤ y then 2 ^ 31 else -(2 ^ 31)) + turnBy atanTab 0 (-x * 2 ^ 32) (-y * 2 ^ 32)

/-- The compensator at `f` Hz: its parts in phase and a quarter turn ahead, with 16 fraction bits below those of the codes. -/
def pidAt (fs f : Nat) (c : Coef) : Int × Int :=
  let w := max 1 (twoPi * f / fs)
  (c.kp * 2 ^ 16, c.kd * (w : Int) / 2 ^ 16 - c.ki * 2 ^ 48 / (w : Int))

/-- The gain of the loop at `f` Hz is at least 1. -/
def overUnity (fs f f0 q : Nat) (c : Coef) : Bool :=
  let p := pidAt fs f c
  let a := ((f0 * f0 : Int) - f * f) * q
  let b : Int := f * f0 * 65536
  let g := poleGain fs f c.a2
  decide (2 ^ 60 * (a * a + b * b) * (g * g) ≤ (p.1 * p.1 + p.2 * p.2) * 4 ^ c.kexp * (f0 * f0 * q : Nat) ^ 2 * 2 ^ 64)

/-- The predicted crossover in 0.1 kHz, to the nearest, found by its bits from `k` down. -/
def lidCross (fs f0 q : Nat) (c : Coef) : Nat → Nat → Nat
  | 0, r => r
  | k + 1, r => lidCross fs f0 q c k (if overUnity fs (100 * (r + 2 ^ k) - 50) f0 q c then r + 2 ^ k else r)

/-- The predicted phase margin at `f` Hz in 0.5°, to the nearest, with the delay of R66: 120 ns and half a sample period. -/
def lidMargin (fs f f0 q : Nat) (c : Coef) : Nat :=
  let p := pidAt fs f c
  let lag := turnOf (((f0 * f0 : Int) - f * f) * q) (f * f0 * 65536) + turnOf (2 ^ 32) (poleRatio fs f c.a2) +
    ((f * 120 * 2 ^ 32 / 10 ^ 9 + f * 2 ^ 31 / fs : Nat) : Int)
  (clampI 0 255 (roundDiv ((2 ^ 31 + turnOf p.1 p.2 - lag) * 720) (2 ^ 32))).toNat

/-! The thermistor. -/

/-- TPACK in 0.1 °C from the NTC pin's voltage in mV: 10 kΩ at 25 °C, biased from 1.800 V through 10.0 kΩ, the beta
equation (R180). -/
def betaTemp (beta mv : Nat) : Int :=
  let z := ((mv : Int) - 900) * 1099511627776 / 900
  let ln := 2 * lnSeries 200 (z * z / 1099511627776) z 1
  let den := (beta : Int) * 1099511627776 + 29815 * ln / 100
  if den ≤ 0 then 2047 else clampI (-2048) 2047 ((beta : Int) * 29815 * 1099511627776 / (10 * den) - 2731)

end Sys2Proof.Machine
end

