-- ==== Sys2Proof/Machine/Modes.lean ====
section
/-! DEFINITION. The change of mode (R40, R43) and what the islands lose at WAKING (R404). -/

namespace Sys2Proof.Machine

open Sys2Proof

/-! What an entry to WAKING finds (R404). -/

/-- Registers outside the islands that PARKED switches off: the backup domain's page, and those held in I0 (R33, R63,
R201). -/
def inI0 (k : Nat) : Bool :=
  k == 0x80 || k == 0x88 || k == 0x9C || k == 0xA0 || (decide (ldo 0 ≤ k) && decide (k < ldo 1)) || k == ldoB + 0x160

/-- The islands' registers and memories after PARKED, where they were off: POR values (R404). The start-up path of the bus
converter keeps STATE, EN and CS_SRC (R176), and LDO0 its own registers and its bit of LDO.STATUS (R201, R212). -/
def State.islandsUp (s : State) : State :=
  let st := s.rd buscB BUSC.STATUS_STATE
  let en := s.rd buscB BUSC.CTRL_EN
  let cs := s.rd buscB BUSC.STATUS_CS_SRC
  let s1 := s.resetKeys fun k => k % 0x10000 / 0x400 != 0x28 && !inI0 k
  let s2 := { s1 with
    ctxs := Vector.replicate 8 CtxHid.reset, cmds := [], rr := 7, chan := [], chg := ChgHid.reset,
    seq := SeqHid.reset, pinSeq := 0, gpioHit := (0, 0, 0), retired := [], retShort := false, ceMs := (none, none),
    accs := Vector.replicate 192 AccHid.reset, adc := AdcHid.reset,
    nodes := Vector.replicate 24 NodeHid.reset, thm := ThmHid.reset, timeNs := 0, timeSec := 0,
    twis := Vector.replicate 2 TwiHid.reset, twiGot := [],
    clk := { s.clk with latch := Vector.replicate 8 none, loaded := false, part := 0, slew := 0, slewLeft := 0, ppsLast := 0,
                        missed := 0, setTick := none, edges := [] },
    since := s.since.filter (fun p => match p.1 with | .frz _ => true | _ => false),
    supOut := 0, dieTrip := false, otpOvr := [], grants := Vector.replicate 9 none, queues := Vector.replicate 6 [],
    slotW := 0x3FFFFFFF, raiseQ := [], holds := [], logQ := [], logShut := false, rails := Vector.replicate 12 RailHid.reset,
    sheaves := Vector.replicate 12 SheafHid.reset, phases := Vector.replicate 56 PhaseHid.reset,
    bucks := Vector.replicate 16 BuckHid.reset, owls := Vector.replicate 32 OwlHid.reset, owlQ := [], warmReq := 0, lsLast := none,
    droops := Vector.replicate 16 (0, false), lsWarm := false, warmTest := false, ldrWait := none, snapLeft := none,
    outs := Vector.replicate 46 OutHid.reset, offQ := [], snaps := [], flail := { FlailHid.reset with wakeOut := s.flail.wakeOut },
    bus := s.bus.path }
  (((s2.wr buscB BUSC.STATUS_STATE st).wr buscB BUSC.CTRL_EN en).wr buscB BUSC.STATUS_CS_SRC cs).wr ldoB LDO.STATUS_LDO_ON
    (s.rd ldoB LDO.STATUS_LDO_ON % 2)

/-- The WAKE pins whose filtered level is active (R50). (DEDUCED, log 33.) -/
def State.wakeActive (s : State) : Nat := ((s.wakeLvl.xor (s.rd devB DEV.WAKE_CFG_POL)).xor 15) % 16

/-- WAKE_CFG has been written: a pin that its POL now makes active has been active, and is not released (R533).
(DEDUCED, log 33.) -/
def State.wakeCfg (s : State) : State :=
  let act := s.wakeActive
  { s with wakeSeen := s.wakeSeen ||| act,
           since := s.since.filter (fun e => match e.1 with | .released i => !act.testBit i | _ => true) }

/-- The HOLDON pins that count: those selected for level detection. (DEDUCED, log 33.) -/
def State.holdOn (s : State) : Nat := s.rd devB DEV.WAKE_CFG_HOLDON &&& (15 - s.rd devB DEV.WAKE_CFG_EDGE)

/-- Every HOLDON pin has stayed released for RELEASE_T (R533). -/
def State.holdOver (s : State) : Bool :=
  s.holdOn != 0 &&
    [0, 1, 2, 3].all (fun (i : Fin 4) => !s.holdOn.testBit i || s.ran (.released i) (s.rd devB DEV.WAKE_CFG_RELEASE_T * 250000))

/-- What WAKING starts from. After PARKED the islands come up, and which WAKE pins have been active counts from now (R533). A
WARM that enters WAKING finds the islands on, and every register, ring and context keeps its contents but for a listed WARM
value, of which the spec has none (R19, R21, R60): chapters that give POR values "at each entry to WAKING" speak of
the entry from PARKED, whose islands were off (R404). The thermal model, of which no island's being off is said, starts afresh at
every entry (R292, R304). (DEDUCED, log 73.) -/
def State.wakeReset (s : State) (fromParked : Bool) : State :=
  let s1 := if fromParked then { s.islandsUp with wakeSeen := s.wakeActive }
    else { (s.resetKeys fun k => k % 0x10000 / 0x400 == 0x27) with
             nodes := Vector.replicate 24 NodeHid.reset, thm := ThmHid.reset, since := s.since.filter (fun e => e.1 != .dieOver) }
  { s1 with due := [], later := [], boot := 0, wakeRead := false, wakeDone := false,
            adc := { s1.adc with auto := true } }

/-! The change of mode. -/

/-- The participating modes of a Flail system (R245). -/
def participates (m : Nat) : Bool := decide (mRISING ≤ m ∧ m ≤ mDRAINING)

/-- What leaving a mode undoes: R94, R263, R266, R287 and R382 for SERVICE, R48 for DRAINING, R52 for HOLD, R56 for HOLDUP. -/
def State.leaveMode (s : State) : State :=
  if s.mode = mSERVICE then
    let s1 := s.each (List.range 12) fun n t => t.lidAbort n 1
    let s2 := s1.each (List.range 38) fun x t =>
      if t.rd (marg x) MARG.OUT_CUR = 0 then t else (t.wr (marg x) MARG.OUT_CUR 0).retarget x
    let s2 := s2.iff (s.bit margB MARG.SYNC_ARM) fun t => t.mark .unarmed
    let s3 := { s2 with adc := { s2.adc with cal := CalHid.reset } }.wr adcB ADC.STATUS_CAL_HELD 0
    (((s3.margAny).wr margB MARG.SYNC_ARM 0).wr margB MARG.STATUS_ARMED 0).wr fltB FLT.FCTRL_LIVE 0
  else if s.mode = mHOLDUP then s.wr devB DEV.HOLDUP_LEFT_LEFT 0
  else if s.mode = mDRAINING then s.wr devB DEV.STATUS_ON_HELD 0
  else if s.mode = mHOLD then (((s.wr devB DEV.MODE_HOLD_CAUSE 0).wr devB DEV.MODE_HOLD_DETAIL 0).wr devB DEV.HOLD_INFO_INDEX
    0).wr devB DEV.HOLD_INFO_KIND 0
  else s

/-- DEV.MODE.CODE and PREV change, and event 135 is raised with the change and its cause (R43); a change into FALLOW is
not raised. -/
def State.setMode (s : State) (new cause : Nat) : State :=
  let old := s.mode
  let s0 := ((s.leaveMode).wr devB DEV.MODE_CODE new).wr devB DEV.MODE_PREV old
  let s1 := if participates new then { s0 with flail := { s0.flail with entered := true } } else s0
  if new = mFALLOW then s1 else (s1.irq devB 16 135).post 135 none (some (new + old * 16 + cause * 256))

end Sys2Proof.Machine
end

