-- ==== Sys2Proof/Machine/Bus.lean ====
section
/-! DEFINITION. The bus converter, its donor sessions and the input ports (R159 to R177), as operations. -/

namespace Sys2Proof.Machine

open Sys2Proof

abbrev bOFF : Nat := 0
abbrev bCSTART : Nat := 1
abbrev bFSTART : Nat := 2
abbrev bFWD : Nat := 3
abbrev bHALT : Nat := 4
abbrev bFSTOP : Nat := 5
abbrev bDEAD : Nat := 6
abbrev bMATCH : Nat := 7
abbrev bCONNECT : Nat := 8
abbrev bRRAMP : Nat := 9
abbrev bDELIVER : Nat := 10
abbrev bRSTOP : Nat := 11

abbrev pABSENT : Nat := 0
abbrev pCONFIRMING : Nat := 1
abbrev pON : Nat := 2
abbrev pSTANDBY : Nat := 3
abbrev pLOSING : Nat := 4
abbrev pBLOCKED : Nat := 5
abbrev pOVOFF : Nat := 6
abbrev pDISABLED : Nat := 7

def State.modBus (s : State) (f : BusHid → BusHid) : State := { s with bus := f s.bus }
def State.busSt (s : State) : Nat := s.rd buscB BUSC.STATUS_STATE
def State.session (s : State) : Bool := s.bit buscB BUSC.STATUS_SESSION
/-- A pack counts as present (R186). -/
def State.pack (s : State) : Bool := s.rd chgB CHG.STATUS_STATE != 0
/-- A pack that hardware has not found gone (R181, R195): the converter acts on the declaration at once (R168, R195). -/
def State.packHeld (s : State) : Bool := s.pack && !s.chg.gone

/-- The state code of port A (0) or B (1). -/
def State.portSt (s : State) (p : Nat) : Nat := s.rd portB (if p = 0 then PORT.STATUS_A_ST else PORT.STATUS_B_ST)
def State.setPort (s : State) (p v : Nat) : State := s.wr portB (if p = 0 then PORT.STATUS_A_ST else PORT.STATUS_B_ST) v
/-- A feed is ON. (DEDUCED, log 48.) -/
def State.feedOn (s : State) : Bool := s.portSt 0 == pON || s.portSt 1 == pON

/-! Bus phases (R163, R169, R171). -/

def State.busNph (s : State) : Nat := clampN 1 8 (s.rd buscB BUSC.FSW_NPH)
def State.donorNph (s : State) : Nat := clampN 1 8 (s.rd buscB BUSC.DONOR_CFG_NPH)
/-- The converter's frequency in kHz. -/
def State.busFreq (s : State) : Nat := clampN 150 600 (s.rd buscB BUSC.FSW_FREQ)
/-- The bus phases that have not left, lowest first. -/
def State.busLeft (s : State) : List Nat := ((List.range 8).map (· + 48)).filter (fun p => s.phState p != phREMOVED)
/-- The bus phases that are not removed: those whose PH_REM bit is clear (R169, R172). -/
def State.busKept (s : State) : List Nat := ((List.range 8).map (· + 48)).filter (fun p => !s.bit buscB (BUSC.PH_REM_REM.at (p - 48)))
/-- The phases that take part in a state: FSW.NPH of them forward, DONOR_CFG.NPH in a session's states, none at rest. -/
def State.busParts (s : State) (st : Nat) : List Nat :=
  if st = bCSTART ∨ st = bFSTART ∨ st = bFWD then s.busLeft.filter (fun p => decide (p < 48 + s.busNph))
  else if st = bFSTOP ∨ (bMATCH ≤ st ∧ st ≤ bRSTOP) then s.busLeft.take s.donorNph
  else []
/-- A removed phase whose PH_REM bit was cleared rejoins at FSTART or MATCH (R169). -/
def State.busRejoin (s : State) : State :=
  s.each (List.range 8) fun i t =>
    if t.phState (48 + i) = phREMOVED ∧ !t.bit buscB (BUSC.PH_REM_REM.at i) then t.phRest (48 + i) phBUS else t

/-- The outer loop of a state (R164): pack current or VBUS forward, the node in reverse. -/
def State.busOuter (s : State) (st : Nat) : Nat :=
  if st = bCSTART then 2
  else if st = bFSTART ∨ st = bFWD ∨ st = bFSTOP then (if s.packHeld then 1 else 2)
  else if bMATCH ≤ st then 3 else 0

/-- The reference of the VBUS loop in mV: the start-up path's (R166, R167), or VNOPACK, lowered by a probe (R164, R196). -/
def State.vbusRef (s : State) (st : Nat) : Nat :=
  if st = bCSTART then s.bus.pathMv
  else clampN 900 2100 (s.rd buscB BUSC.VNOPACK_V) * 10 - (if s.chg.probe then orIf0 (s.rd chgB CHG.ABS_PROBE_DV) 1 * 100 else 0)

/-- A loop with the coefficients `c` whose next step, at the error `e`, has the output `y` with 14 fraction bits (R164). -/
def preset (c : Coef) (y e : Int) : Loop :=
  let v := satR (y / 2 ^ c.kexp)
  { acc := satR (v - (c.kp + c.ki) * e), y1 := v, y2 := v, ePrev := e, hiC := false, loC := false }

/-- The outer loop changes, between the two forward ones without a step in the duty of the next sample (R164). -/
def State.takeOuter (s : State) (st : Nat) : State :=
  let was := s.bus.outer
  let o := s.busOuter st
  let s1 := (s.wr buscB BUSC.STATUS_OUTER o).modBus (fun b => { b with outer := o })
  if was = o then s1
  else if (was = 1 ∧ o = 2) ∨ (was = 2 ∧ o = 1) then s1.modBus (fun b => { b with bump := true })
  else s1.modBus (fun b => { b with bump := false, fLoop := Loop.reset, iLoop := Loop.reset, rLoop := Loop.reset })

/-- The current that the ramp of a state starts from, in mA (R170): 0 where the converter starts, the present one where it
stops. -/
def State.rampFrom (s : State) (st : Nat) : Nat :=
  if st = bFSTOP ∨ st = bRSTOP then (s.rdI buscB BUSC.MON_IBUS).natAbs * 100 else 0

/-- The converter takes a state, with its outer loop, its phases and STATUS.NPH; at rest no cap acts. -/
def State.setBus (s : State) (st : Nat) : State :=
  let ps := s.busParts st
  let s1 := (((s.wr buscB BUSC.STATUS_STATE st).wr buscB BUSC.STATUS_NPH ps.length).takeOuter st).mark .busAt
  let s2 := s1.each (List.range 8) fun i t => t.modPh (48 + i) (fun h => { h with pwm := if ps.contains (48 + i) then .run else .mid })
  let s3 := s2.modBus (fun b => { b with ramp := s.rampFrom st, rampRem := 0, ovr := 0, cap := none, overCap := false })
  if ps.isEmpty then
    (((s3.wr buscB BUSC.STATUS_ILIM_ACT 0).wr buscB BUSC.STATUS_PLIM_ACT 0).wr chgB CHG.STATUS_LOADLIM 0).modBus
      (fun b => { b with iSet := 0, duty := 0 })
  else s3

/-- The conditions of R168. -/
def State.mustHalt (s : State) : Bool :=
  s.bit portB PORT.STATUS_FEEDS_LOST || s.mode == mHOLDUP || (s.mode == mDRAINING && !s.feedOn) ||
  (decide (mSAFE ≤ s.mode) && s.packHeld) || s.bus.ovTrip

/-- Fewer bus phases left than NPH_MIN (R169). (DEDUCED, log 49.) -/
def State.nphShort (s : State) : Bool :=
  decide ((s.busKept.filter (fun p => decide (p < 48 + s.busNph))).length < s.rd buscB BUSC.FSW_NPH_MIN)

/-- FSTART where its conditions hold (R170); where EN cut a session short, DEAD comes first (R171). (DEDUCED, log 49.) -/
def State.busTryStart (s : State) : State :=
  if s.bit buscB BUSC.CTRL_EN && s.feedOn && !s.mustHalt && !s.nphShort && s.mode != mPARKED && s.mode != mFALLOW then
    if s.bus.turn then (s.modBus (fun b => { b with turn := false })).setBus bDEAD else (s.busRejoin).setBus bFSTART
  else s

/-! Donor sessions. -/

/-- The end cause of the running session is recorded, the first of them (R174); VBUS OV stands before a STOP of the same tick
(R175). -/
def State.endCause (s : State) (cause : Nat) : State :=
  if s.bus.ended && !(cause == 9 && s.rd buscB BUSC.DONOR_STAT_CAUSE == 6 && s.bus.endTick == s.tick) then s
  else (s.wr buscB BUSC.DONOR_STAT_CAUSE cause).modBus (fun b => { b with ended := true, endTick := s.tick })

/-- The opcode of DONOR_CTRL (R334), and which of its two actions a command asks for (R172). -/
abbrev opDonor : Nat := 0x17
def isStart (k : Cmd) : Bool := decide (getBits k.a0 0 8 = 1)

/-- Ports that only the session blocked go ON (R160). -/
def State.unblock (s : State) : State :=
  s.each [0, 1] fun p t => if t.portSt p = pBLOCKED ∧ !t.bit (port p) PORT.P_CFG_BLOCK then t.setPort p pON else t

/-- The session is over (R170, R172, R174): SESSION clears, DONOR_END is raised with a C0 record on event 102 that gives the
cause and DONOR_E, a STOP completes with DONOR_E, and a START that never delivered fails with the cause. (DESIGN CHOICE,
log 74.) -/
def State.sessionClose (s : State) : State :=
  if s.session then
    let cause := s.rd buscB BUSC.DONOR_STAT_CAUSE
    let s1 := ((s.wr buscB BUSC.STATUS_SESSION 0).irq buscB 17 102).unmark .donor
    let s2 := (s1.post 102 (some 0) (some (Config.detailOf 2 (cause + 16 * s1.rd buscB BUSC.DONOR_E_E)))).endRunning opDonor stDONE (s1.rd buscB BUSC.DONOR_E_E) (fun k => !isStart k)
    ((s2.endRunning opDonor stFAILED cause isStart).modBus (fun b => { b with ended := false })).unblock
  else s

/-- Port N is disconnected. -/
def State.ornOff (s : State) (v : Nat) : State :=
  if s.rd portB PORT.STATUS_N_ST = pDISABLED then s else s.wr portB PORT.STATUS_N_ST v

/-- An end condition of R174 that is no fast end. -/
def State.endSession (s : State) (cause : Nat) : State :=
  if s.session && !s.bus.ended then
    let st := s.busSt
    let s1 := s.endCause cause
    if st = bCONNECT ∨ st = bRRAMP ∨ st = bDELIVER ∨ (st = bMATCH ∧ cause ≠ 6) then s1.setBus bRSTOP
    else if st = bMATCH ∨ st = bFSTOP then (s1.ornOff 0).setBus bDEAD
    else s1
  else s

/-- A fast end (R170). One that comes in DEAD lets it run its time. -/
def State.fastEnd (s : State) (cause orn : Nat) : State :=
  if s.session && decide (bFSTOP ≤ s.busSt) then
    let s1 := (s.endCause cause).ornOff orn
    (if s.busSt = bDEAD then s1 else s1.setBus bDEAD).err buscB 5 102 none none
  else s

/-- BUSC.CTRL.EN cleared: the converter goes OFF, a session ends with FORCED (R170, R174); from the states past FSTOP it does not
start before a DEAD of its own (R171). -/
def State.busOff (s : State) : State :=
  let s1 := (s.wr buscB BUSC.CTRL_EN 0).fastEnd 0xD 0
  ((((s1.ornOff 0).setBus bOFF).sessionClose)).modBus (fun b => { b with turn := b.turn || decide (bDEAD ≤ s.busSt) })

/-- What the converter does on its own where the modes, the feeds or the pack have changed (R168, R170, R174). -/
def State.busWatch (s : State) : State :=
  let st := s.busSt
  let forced := s.mode == mDRAINING || (s.mode == mHOLDUP && !s.bit buscB BUSC.DONOR_CFG_HOLDUP_OK)
  let s1 := if s.session && decide (mSAFE ≤ s.mode) then (if st = bDEAD ∧ s.bus.ended then s else s.fastEnd 0xD 0)
    else if s.session && forced then s.endSession 0xD else s
  if (st = bFWD ∨ st = bFSTART ∨ (st = bCSTART ∧ s.mode ≠ mPARKED ∧ s.mode ≠ mFALLOW)) ∧ s.mustHalt then s1.setBus bHALT
  else if st = bOFF ∨ st = bHALT then s1.busTryStart
  else s1

/-! The start-up path (R166, R167, R176). -/

/-- The threshold of a feed for the start-up path: the POR value of PRES, in mV. -/
def feedMv : Nat := 36000

/-- The feeds above 36.0 V by their last measurement: bit 0 port A, bit 1 port B. -/
def State.feedsHi (s : State) : Nat :=
  (if feedMv < 20 * s.rd (port 0) PORT.P_MON_V then 1 else 0) + (if feedMv < 20 * s.rd (port 1) PORT.P_MON_V then 2 else 0)

/-- The BUSC page as the part of I3 that PARKED switches off leaves it: its POR values, but for what the path and I0 hold (R176). -/
def State.buscPor (s : State) : State :=
  let st := s.busSt
  let en := s.rd buscB BUSC.CTRL_EN
  let cs := s.rd buscB BUSC.STATUS_CS_SRC
  (((s.resetKeys (fun k => decide (k / 0x400 = 0x1C))).wr buscB BUSC.STATUS_STATE st).wr buscB BUSC.CTRL_EN en).wr buscB
    BUSC.STATUS_CS_SRC cs

/-- The path starts at `mv`. -/
def State.pathStart (s : State) (mv : Nat) : State :=
  (((s.modBus (fun b => { b with pathMv := mv })).setBus bCSTART).wr buscB BUSC.STATUS_CS_SRC 0).wr buscB BUSC.CTRL_EN 1

/-- The path stops. -/
def State.pathStop (s : State) : State := (s.setBus bOFF).wr buscB BUSC.CTRL_EN 0

/-- The converter at an entry to PARKED (R167, R170): the start-up path takes over where a feed is present, from a state past FSTOP
through DEAD (R171). -/
def State.busPark (s : State) : State :=
  let hi := s.feedsHi
  let run := s.busSt = bCSTART
  let turn := decide (bDEAD ≤ s.busSt)
  let s1 := (((s.endCause 0xD).ornOff 0).sessionClose.buscPor).modBus (fun b => { b.path with feedHi := hi })
  if hi = 0 then s1.pathStop else if run then s1 else if turn then s1.setBus bDEAD else s1.pathStart 6500

/-- The bus converter at the entry to WAKING from PARKED: its phases read BUS, and a path that runs, or a DEAD, goes on (R163,
R166). -/
def State.busWake (s : State) : State :=
  let s1 := s.each (List.range 8) fun i t => t.wr (ph (48 + i)) PHX.PSTAT_STATE phBUS
  if s1.busSt = bCSTART ∨ s1.busSt = bDEAD then s1.setBus s1.busSt else s1

/-! The ports. -/

/-- FEEDS_LOST follows the two ports; its rise sets BOTH_LOST (R161). Answers whether it rose. (DEDUCED, log 48.) -/
def State.feedsRefresh (s : State) : State × Bool :=
  let gone := fun p => let v := s.portSt p; v == pABSENT || v == pOVOFF || v == pDISABLED
  let now := gone 0 && gone 1 && (s.bus.lostA || s.bus.lostB)
  let was := s.bit portB PORT.STATUS_FEEDS_LOST
  let s1 := s.wrB portB PORT.STATUS_FEEDS_LOST now
  if now && !was then (s1.err portB 2 104 none none, true) else (s1, false)

/-- (DEDUCED, log 48.) -/
def State.setLost (s : State) (p : Nat) (b : Bool) : State :=
  s.modBus (fun h => if p = 0 then { h with lostA := b } else { h with lostB := b })

/-- A conducting port that may be held off (R162): the other feed is ON or STANDBY. -/
def State.otherConducts (s : State) (p : Nat) : Bool := let v := s.portSt (1 - p); v == pON || v == pSTANDBY

/-- The state that a LOSING port left. (DEDUCED, log 48.) -/
def State.portPrev (s : State) (p : Nat) : Nat := if p = 0 then s.bus.prevA else s.bus.prevB
def State.setPrev (s : State) (p v : Nat) : State := s.modBus (fun h => if p = 0 then { h with prevA := v } else { h with prevB := v })

/-- A port is held off: an ON or STANDBY one goes to BLOCKED at once, a LOSING one once it is above LOSS again (R160, R170). -/
def State.holdPort (s : State) (p : Nat) : State :=
  if s.portSt p = pON ∨ s.portSt p = pSTANDBY then s.setPort p pBLOCKED
  else if s.portSt p = pLOSING then s.setPrev p pBLOCKED
  else s

/-- xCFG.BLOCK written (R160, R162). -/
def State.setBlock (s : State) (p : Nat) (b : Bool) : State :=
  if b then
    if s.otherConducts p then
      let s1 := s.wr (port p) PORT.P_CFG_BLOCK 1
      (s1.holdPort p).busWatch
    else s.err portB 6 (104 + p) none none
  else
    let s1 := s.wr (port p) PORT.P_CFG_BLOCK 0
    if s1.portSt p = pBLOCKED ∧ !s1.session then (s1.setPort p pON).busWatch else s1

/-- NCFG.EN written: 0 holds port N DISABLED and ends a session (R174). -/
def State.setNEn (s : State) (b : Bool) : State :=
  let s1 := s.wrB portB PORT.NCFG_EN b
  if b then (if s1.rd portB PORT.STATUS_N_ST = pDISABLED then s1.wr portB PORT.STATUS_N_ST 0 else s1)
  else (s1.endSession 3).wr portB PORT.STATUS_N_ST pDISABLED

/-- A write of the BUSC page during WAKING, the first of which ends CSTART (R166). -/
def State.busTouched (s : State) : State :=
  if s.mode = mWAKING ∧ s.busSt = bCSTART then s.setBus bFWD else s

/-- VBUS OV (R156, R168): forward conversion and any session stop. -/
def State.vbusOv (s : State) : State :=
  let s1 := (s.modBus (fun b => { b with ovTrip := true })).errQ buscB 2 102
  if s1.busSt = bFWD ∨ s1.busSt = bFSTART ∨ (s1.busSt = bCSTART ∧ s1.mode ≠ mPARKED ∧ s1.mode ≠ mFALLOW) then s1.setBus bHALT
  else s1.fastEnd 9 0

/-- A bus phase is removed (R169): its bit and its state. The others are spread anew, and in a session the next one comes
in, at the next master period start (R171). -/
def State.busRemove (s : State) (p : Nat) : State :=
  let s1 := ((s.phRest p phREMOVED).wr buscB (BUSC.PH_REM_REM.at (p - 48)) 1)
  s1.wr buscB BUSC.STATUS_NPH (s1.busParts s1.busSt).length

/-- What follows a removal of bus phases: NPH_LOW and HALT below NPH_MIN, STAGE for a session (R169, R174), which a phase whose
bit was cleared may still join at MATCH. -/
def State.busShort (s : State) : State :=
  let n := (if s.busSt = bFSTOP ∨ s.busSt = bDEAD then s.busKept else s.busLeft).length
  let s1 := if s.session && decide (n < s.donorNph) then s.endSession 0xC else s
  if (s1.busLeft.filter (fun p => decide (p < 48 + s1.busNph))).length < s1.rd buscB BUSC.FSW_NPH_MIN then
    let c := s1.rd buscB BUSC.PROT_NPH_CLS
    let s2 := s1.err buscB 1 102 (some (clampN 1 4 c)) none
    if s2.busSt = bFWD ∨ s2.busSt = bFSTART ∨ s2.busSt = bCSTART then s2.setBus bHALT else s2
  else s1

end Sys2Proof.Machine
end

