-- ==== Sys2Proof/Machine/Charger.lean ====
section
/-! DEFINITION. The hold-up pack charger (R178 to R200), as operations. -/

namespace Sys2Proof.Machine

open Sys2Proof

abbrev cABSENT : Nat := 0
abbrev cQUALIFY : Nat := 1
abbrev cPRE : Nat := 2
abbrev cCC : Nat := 3
abbrev cCV : Nat := 4
abbrev cTOPOFF : Nat := 5
abbrev cDONE : Nat := 6
abbrev cREST : Nat := 7
abbrev cSUSPEND : Nat := 8
abbrev cTIMEOUT : Nat := 9
abbrev cFAULT : Nat := 10

def State.modChg (s : State) (f : ChgHid → ChgHid) : State := { s with chg := f s.chg }
def State.chgSt (s : State) : Nat := s.rd chgB CHG.STATUS_STATE
def charging (c : Nat) : Bool := decide (cPRE ≤ c ∧ c ≤ cTOPOFF)

def State.iset (s : State) : Nat := clampN 5 400 (s.rd chgB CHG.ICHG_SET)
/-- I_state of R182, in 0.1 A. -/
def State.iState (s : State) (c : Nat) : Nat :=
  if c = cPRE then clampN 1 40 (s.rd chgB CHG.ICHG_IPRE) else if c = cCC ∨ c = cCV ∨ c = cTOPOFF then s.iset else 0

/-- The zone's fraction of SET, in quarters (R182, R193). -/
def State.zoneQuarters (s : State) : Nat :=
  let z := s.rd chgB CHG.TEMP_ZONE
  if z = 1 then s.rd chgB CHG.NTC_CFG_COOL_F + 1 else if z = 3 then s.rd chgB CHG.NTC_CFG_WARM_F + 1 else 4

/-- I_therm of R182 in mA. -/
def State.iTherm (s : State) : Nat := min (s.zoneQuarters * s.iset * 25) (s.rd chgB CHG.TLIM_CEIL * 100)

def State.cells (s : State) : Nat := s.rd chgB CHG.CFG_CELLS
def State.vcv (s : State) : Nat := s.rd chgB CHG.VCHG_VCV
def State.rchg (s : State) : Nat := clampN 5 20 (s.rd chgB CHG.CYCLE_RCHG) * 10

/-- The charger takes a state; I_cv is preset to SET where I_state leaves 0 (R182). -/
def State.setChg (s : State) (c : Nat) : State :=
  let s1 := (s.wr chgB CHG.STATUS_STATE c).modChg (fun h => { h with stMs := 0, okMs := 0 })
  let s2 := if s.iState s.chgSt = 0 ∧ s.iState c ≠ 0 then s1.modChg (fun h => { h with icv := (s.iset : Int) * 100000 }) else s1
  if s.iState c = 0 then s2.wr chgB CHG.STATUS_CV_ACT 0 else s2

def State.safeZero (s : State) : State := (s.wr chgB CHG.TIMER_ELAPSED 0).modChg (fun h => { h with safeHms := 0 })
def State.phaseZero (s : State) : State := (s.wr chgB CHG.TIMER_PHASE 0).modChg (fun h => { h with phaseMs := 0 })
def State.restZero (s : State) : State := s.modChg (fun h => { h with restMs := 0, vSum := 0, vN := 0, vMean := 0 })

/-- CC entered with the safety timer from 0 (R184). -/
def State.toCC (s : State) : State := (s.safeZero).setChg cCC

/-- The charger's event with a cause in STATUS.CAUSE (R184). -/
def State.chgErr (s : State) (bit cause : Nat) : State := (s.wr chgB CHG.STATUS_CAUSE cause).err chgB bit 103 (some 1) none

/-- A saturating count of the CHG page (R200). -/
def State.chgCount (s : State) (f sat : Fld) : State := s.count chgB f sat chgB 6 103

/-! Suspension (R192). -/

def State.susp (s : State) : Nat := s.rd chgB CHG.STATUS_SUSP

/-- The reasons as they stand now; HOST keeps its bit. -/
def State.suspNow (s : State) : Nat :=
  let z := s.rd chgB CHG.TEMP_ZONE
  s.susp % 2 + (if s.session then 2 else 0) + (if s.mode = mHOLDUP then 4 else 0) +
    (if mRISING ≤ s.mode ∧ s.mode ≤ mHOLDUP then 0 else 8) + (if z = 0 ∨ z = 4 then 16 else 0)

/-- FE2 runs (R181). -/
def State.fe2 (s : State) : Bool := s.up && !s.stopped 2

/-- What FE2 does in a mode that it runs in; while it is stopped the row `i` waits for its end (R31, R181). -/
def State.onFe2 (s : State) (i : Instr) (f : State → State) : State :=
  if s.fe2 then f s else if s.up then s.putOff i else s

/-! Presence. -/

/-- ABSENT with a cause; the converter takes VBUS over at its next sample (R164, R195). -/
def State.chgAbsent (s : State) (cause : Nat) : State :=
  (((s.wr chgB CHG.STATUS_CAUSE cause).setChg cABSENT).modChg (fun h => { h with
    ntcSeen := false, probe := false, probeMs := 0, probed := false, gone := false, cut := false })).restZero.busWatch

/-- What FE2 follows: CFG.EN at 0 (R184), the suspension reasons and their effect on the state (R192), the lamps (R199). -/
def State.chgWatch (s0 : State) : State :=
  if s0.fe2 then
    let s := s0.modChg (fun h => { h with lamps := s0.getW (chgB + 0x60) })
    let n := s.suspNow
    let s1 := s.wr chgB CHG.STATUS_SUSP n
    let c := s.chgSt
    if !s.bit chgB CHG.CFG_EN && (c != cABSENT || s.rd chgB CHG.STATUS_CAUSE != 1) then s1.chgAbsent 1
    else if n ≠ 0 ∧ (charging c ∨ c = cDONE) then (s1.wr chgB CHG.STATUS_PRIOR c).setChg cSUSPEND
    else if n ≠ 0 ∧ c = cREST then s1.restZero.setChg cSUSPEND
    else if n = 0 ∧ c = cSUSPEND then s1.setChg (s.rd chgB CHG.STATUS_PRIOR)
    else s1
  else s0

/-- CFG.EN written (R184). -/
def State.chgEn (s : State) (b : Bool) : State := (s.wrB chgB CHG.CFG_EN b).chgWatch

/-- The pack is found (R184, R196): QUALIFY, with every timer cleared. -/
def State.chgFound (s : State) : State :=
  let s1 := ((s.safeZero.phaseZero.restZero).wr chgB CHG.STATUS_CAUSE 0).setChg cQUALIFY
  ((s1.modChg (fun h => { h with ntcSeen := s.rd chgB CHG.TEMP_NTC_ST == 0, probe := false, gone := false, cut := false })).irq chgB 16 103).busWatch

/-- The charger at the end of WAKING, where it is ABSENT (R186). -/
def State.chgLeaveAbsent (s : State) : State :=
  if s.bit chgB CHG.CFG_EN && s.rd chgB CHG.STATUS_STATE == cABSENT then
    if s.bit buscB BUSC.STATUS_CS_SRC then s.wr chgB CHG.STATUS_CAUSE 3
    else
      let ntc := s.rd chgB CHG.TEMP_NTC_ST
      if s.bit chgB CHG.CFG_NTC_EN && ntc != 0 then
        ((s.wr chgB CHG.STATUS_CAUSE (if ntc = 2 then 8 else 7)).setChg cFAULT).err chgB 3 103 (some 1) none |>.busWatch
      else s.chgFound
  else s

/-! Zones (R193). -/

/-- The zone of a temperature in 0.1 °C, from the zone it is in: a boundary is left only past it by HYS. -/
def zoneOf (tc tl tw th hys t : Int) (z : Nat) : Nat :=
  let below := fun (b : Int) (k : Nat) => if k ≤ z then decide (t < b - hys) else decide (t < b + hys)
  if below tc 1 then 0 else if below tl 2 then 1 else if below tw 3 then 2 else if below th 4 then 3 else 4

/-- The zone as TPACK and the boundaries stand. -/
def State.zoneNow (s : State) : Nat :=
  if s.bit chgB CHG.CFG_NTC_EN then
    zoneOf (s.rdI chgB CHG.NTC_ZONE_TCOLD * 10) (s.rdI chgB CHG.NTC_ZONE_TCOOL * 10) (s.rdI chgB CHG.NTC_ZONE_TWARM * 10)
      (s.rdI chgB CHG.NTC_ZONE_THOT * 10) (s.rd chgB CHG.NTC_CFG_HYS * 5 : Nat) (s.rdI chgB CHG.TEMP_TPACK)
      (s.rd chgB CHG.TEMP_ZONE)
  else 2

def State.zoneRefresh (s : State) : State := (s.wr chgB CHG.TEMP_ZONE s.zoneNow).chgWatch

/-! The millisecond of FE2 (R181, R187, R188, R191, R192). -/

/-- One second's worth is taken off a count of milliseconds. -/
def secOf (ms per : Nat) : Nat × Bool := if per ≤ ms then (ms - per, true) else (ms, false)

def State.safeTick (s : State) : State :=
  let half := decide (s.iTherm * 2 < s.iset * 100)
  let s1 := s.wrB chgB CHG.STATUS_HALF half
  if s.chgSt = cCC ∨ s.chgSt = cCV then
    let r := secOf (s.chg.safeHms + if half then 1 else 2) 2000
    let s2 := s1.modChg (fun h => { h with safeHms := r.1 })
    if r.2 then s2.bump chgB CHG.TIMER_ELAPSED else s2
  else s1

def State.phaseTick (s : State) : State :=
  if s.chgSt = cPRE ∨ s.chgSt = cTOPOFF then
    let r := secOf (s.chg.phaseMs + 1) 1000
    let s1 := s.modChg (fun h => { h with phaseMs := r.1 })
    if r.2 then s1.bump chgB CHG.TIMER_PHASE else s1
  else s

def State.restTick (s : State) (vcell : Nat) : State :=
  if charging s.chgSt then s.modChg (fun h => { h with restMs := h.restMs + 1 })
  else if s.chgSt = cREST then
    s.modChg (fun h => if h.vN + 1 = 1000 then { h with vMean := (h.vSum + vcell) / 1000, vSum := 0, vN := 0 }
      else { h with vSum := h.vSum + vcell, vN := h.vN + 1 })
  else s

/-- The 1 s mean of IPACK is below ITERM (R189). -/
def State.iLow (s : State) : Bool :=
  let l := s.chg.iHist
  let q := 2 ^ (3 + s.rd chgB CHG.ICHG_ITERM)
  let sum := l.foldl (· + ·) 0
  decide (1000 ≤ l.length) &&
    (if s.iset * 10 < 5 * q then decide (sum < 5000) else decide (sum * (q : Int) < ((s.iset * 10000 : Nat) : Int)))

/-- The exit condition of the present state that has to hold for a time (R184, R189). -/
def State.chgExit (s : State) (vcell : Nat) : Bool :=
  let c := s.chgSt
  if c = cPRE then decide (s.rd chgB CHG.VCHG_VPRE + 50 ≤ vcell)
  else if c = cCC then s.bit chgB CHG.STATUS_CV_ACT
  else if c = cCV then s.bit chgB CHG.STATUS_CV_ACT && !s.bit chgB CHG.STATUS_LOADLIM && s.iLow
  else c == cDONE && decide (vcell + s.rchg < s.vcv)

/-- Its milliseconds in a row, those in the state, those of the probes, and the record of IPACK. -/
def State.spanTick (s : State) (vcell : Nat) : State :=
  let s1 := s.modChg (fun h => { h with iHist := (s.rdI chgB CHG.MON_IPACK :: h.iHist).take 1000 })
  let ok := s1.chgExit vcell
  s1.modChg (fun h => { h with stMs := h.stMs + 1, okMs := if ok then h.okMs + 1 else 0, probeMs := h.probeMs + 1 })

def State.countTick (s : State) : State :=
  let r := secOf (s.chg.ageMs + 1) 1000
  let s1 := s.modChg (fun h => { h with ageMs := r.1 })
  if r.2 then s1.bump chgB CHG.OCV_AGE else s1

/-- LL.SECS, which hardware counts (R183). -/
def State.llTick (s : State) : State :=
  if s.bit chgB CHG.STATUS_LOADLIM then
    let q := secOf (s.chg.llMs + 1) 1000
    let s1 := s.modChg (fun h => { h with llMs := q.1 })
    if q.2 then s1.chgCount CHG.LL_SECS CHG.LL_SECS_SAT else s1
  else s

/-- VCELL in mV from V(BSN) (R179), rounded down. (DESIGN CHOICE, log 75.) -/
def State.vcellOf (s : State) (vbsn : Nat) : Nat := vbsn / max 1 s.cells

/-- A millisecond, with V(BSN) in mV: what hardware counts, and FE2's tick. (DESIGN CHOICE, log 65.) -/
def State.chgTick (s0 : State) (vbsn : Nat) : State :=
  let s := if s0.up then s0.llTick else s0
  if s.fe2 then
    let v := s.vcellOf vbsn
    (((((s.wr chgB CHG.MON_VCELL v).safeTick.phaseTick).restTick v).spanTick v).countTick).zoneRefresh
  else s

/-! The states (R184). -/

/-- QUALIFY has held the set-point at 0 for 200 ms and chooses its next state; where a reason holds, SUSPEND is entered with
that state as PRIOR (R185). -/
def State.qualifyEnd (s : State) (vbsn : Nat) : State :=
  if s.chgSt = cQUALIFY ∧ 200 ≤ s.chg.stMs then
    let vcell := s.vcellOf vbsn
    let s1 := s.wr chgB CHG.MON_VCELL vcell
    let s2 := if s.vcv ≤ vcell + s.rchg then s1.setChg cDONE
      else if vcell < s.rd chgB CHG.VCHG_VPRE then (s1.phaseZero).setChg cPRE
      else s1.toCC
    s2.chgWatch
  else s

/-- A transition that FE2 takes from one of some states. -/
def State.chgStep (s : State) (i : Instr) (fr : List Nat) (f : State → State) : State :=
  s.onFe2 i fun s => if fr.contains s.chgSt then f s else s

/-- The exit condition of the present state has held for `ms` milliseconds. -/
def State.okFor (s : State) (ms : Nat) : Bool := decide (ms ≤ s.chg.okMs)

def State.chgTimeout (s : State) (cause : Nat) : State := (s.setChg cTIMEOUT).chgErr 1 cause

/-- The pre-charge timer has reached PRE_T (R184). -/
def State.preOver (s : State) : Bool := decide (clampN 1 120 (s.rd chgB CHG.CYCLE_PRE_T) * 60 ≤ s.rd chgB CHG.TIMER_PHASE)

/-- The safety timer has expired (R187). -/
def State.safeOver (s : State) : Bool := decide (clampN 1 20 (s.rd chgB CHG.CYCLE_SAFE_T) * 3600 ≤ s.rd chgB CHG.TIMER_ELAPSED)

/-- The top-off time in seconds (R184, R200), and whether it has passed. -/
def State.topoffS (s : State) : Nat := min 60 (s.rd chgB CHG.CYCLE_TOPOFF) * 60
def State.topoffOver (s : State) : Bool := decide (s.topoffS ≤ s.rd chgB CHG.TIMER_PHASE)

/-- The conditions of R189 have held for 10 s. -/
def State.termDue (s : State) : Bool := s.chgSt == cCV && s.okFor 10000

/-- Termination (R184, R189): TOPOFF, or DONE where TOPOFF is 0; the record carries ELAPSED. -/
def State.terminate (s : State) : State :=
  if s.termDue then
    if s.rd chgB CHG.CYCLE_TOPOFF = 0 then s.setChg cDONE
    else ((s.phaseZero).setChg cTOPOFF).post 103 (some 0) (some (s.rd chgB CHG.TIMER_ELAPSED))
  else s

/-- The safety timer expires (R187); a termination of the same tick comes first (R198). -/
def State.safeExpiry (s : State) : State :=
  if s.termDue then s.terminate else if s.safeOver then s.chgTimeout 4 else s

def State.topoffDone (s : State) : State :=
  ((s.setChg cDONE).chgCount CHG.CYC_CYCLES CHG.CYC_CYC_SAT).irq chgB 17 103

def State.recharge (s : State) : State := (s.toCC).chgCount CHG.CYC_RECHARGES CHG.CYC_RCH_SAT

/-- A rest is due (R191): REST.INT minutes of charging. -/
def State.restDue (s : State) : Bool :=
  s.bit chgB CHG.CFG_REST_EN && decide (clampN 1 60 (s.rd chgB CHG.REST_INT) * 60000 ≤ s.chg.restMs)

/-- A rest has lasted REST.DUR seconds (R191). -/
def State.restOver (s : State) : Bool := decide (clampN 2 60 (s.rd chgB CHG.REST_DUR) * 1000 ≤ s.chg.stMs)

/-- A measurement rest begins (R191). -/
def State.restStart (s : State) : State := (s.wr chgB CHG.STATUS_PRIOR s.chgSt).restZero.setChg cREST

/-- A rest ends (R191). -/
def State.restEnd (s : State) : State :=
  let v := s.chg.vMean
  let s1 := (((s.wr chgB CHG.OCV_VCELL v).wr chgB CHG.OCV_AGE 0).modChg (fun h => { h with ageMs := 0 })).irq chgB 18 103
  ((s1.post 103 (some 0) none).restZero).setChg (s.rd chgB CHG.STATUS_PRIOR)

/-! Absence and overvoltage: found by hardware, which acts at once; FE2 takes the state (R181, R194, R195). -/

/-- The pack's current is at or above the detection level (R195, R196). -/
def State.iSeen (s : State) : Bool := decide (orIf0 (s.rd chgB CHG.ABS_IDET) 1 ≤ (s.rdI chgB CHG.MON_IPACK).natAbs)

/-- The three conditions of R195 on commanded current; `rise`: VBUS's rise over 100 µs in mV. -/
def State.absCurrent (s : State) (rise us : Nat) : Bool :=
  decide (500 ≤ s.bus.iSet) && !s.iSeen && decide (1000 ≤ us) &&
    ((s.bit chgB CHG.CFG_NTC_EN && s.rd chgB CHG.TEMP_NTC_ST == 1) || decide (orIf0 (s.rd chgB CHG.ABS_DVDT) 1 < rise))

/-- The NTC has gone from VALID to OPEN and stayed there for 1 ms (R195). -/
def State.absNtc (s : State) : Bool :=
  s.bit chgB CHG.CFG_NTC_EN && s.rd chgB CHG.TEMP_NTC_ST == 1 && s.chg.ntcSeen && s.ran .ntc 1000

/-- The pack is gone (R195); `i`: the row. -/
def State.packAbsence (s : State) (i : Instr) (found : Bool) : State :=
  if s.up && s.chgSt != cABSENT && (found || s.chg.gone) then
    (s.modChg (fun h => { h with gone := true })).onFe2 i fun s => (s.chgErr 0 2).chgAbsent 2
  else s

/-- V(BSN) over the pack overvoltage cut (R178, R194). -/
def State.overCut (s : State) (vbsn us : Nat) : Bool := decide (s.cells * (s.vcv + 100) < vbsn ∧ 100 ≤ us)

/-- The pack overvoltage cut (R194); `i`: the row. -/
def State.packOv (s : State) (i : Instr) (found : Bool) : State :=
  if s.up && s.chgSt != cABSENT && s.chgSt != cFAULT && (found || s.chg.cut) then
    (s.modChg (fun h => { h with cut := true })).onFe2 i fun s =>
      ((s.modChg (fun h => { h with cut := false })).restZero.setChg cFAULT).chgErr 2 6
  else s

/-- The NTC has read SHORT for 10 ms (R184). -/
def State.ntcShort (s : State) : State :=
  if s.chgSt ≠ cABSENT ∧ s.chgSt ≠ cFAULT ∧ s.bit chgB CHG.CFG_NTC_EN ∧ s.rd chgB CHG.TEMP_NTC_ST = 2 ∧ s.ran .ntc 10000 then
    (s.restZero.setChg cFAULT).chgErr 3 8
  else s

/-- The class of the NTC pin at `mv` (R180): 0 VALID, 1 OPEN, 2 SHORT. -/
def ntcOf (mv : Nat) : Nat := if 1710 < mv then 1 else if mv < 50 then 2 else 0

/-- The NTC comparators (R180) after their filter of 100 µs; DISABLED while NTC_EN is 0. A change from VALID to OPEN is one without
another class between (R195). -/
def State.ntcClass (s : State) (mv us : Nat) : State :=
  if !s.bit chgB CHG.CFG_NTC_EN then (s.wr chgB CHG.TEMP_NTC_ST 3).modChg (fun h => { h with ntcSeen := false })
  else if us < 100 ∨ s.rd chgB CHG.TEMP_NTC_ST = ntcOf mv then s
  else
    ((s.wr chgB CHG.TEMP_NTC_ST (ntcOf mv)).mark .ntc).modChg (fun h => { h with
      ntcSeen := if ntcOf mv = 2 then false else h.ntcSeen || (ntcOf mv == 0 && s.chgSt != cABSENT), probed := false })

/-! Probes (R196). -/

/-- Re-insertion is looked for: the charger is enabled, the bale loaded, and the NTC VALID for `us` where it is fitted. -/
def State.seeks (s : State) (us : Nat) : Bool :=
  s.bit chgB CHG.CFG_EN && decide (mHOLD ≤ s.mode) &&
    (!s.bit chgB CHG.CFG_NTC_EN || (s.rd chgB CHG.TEMP_NTC_ST == 0 && s.ran .ntc us))

/-- A probe is due: at once where the NTC has become VALID, else PROBE_T after the one before. -/
def State.probeDue (s : State) : Bool :=
  s.seeks 50000 && !s.iSeen && ((s.bit chgB CHG.CFG_NTC_EN && !s.chg.probed) ||
    decide (100 * orIf0 (s.rd chgB CHG.ABS_PROBE_T) 1 ≤ s.chg.probeMs))

/-! The lamps (R199). -/

/-- The charger's condition for the lamps, of a state and cause; REST shows that of PRIOR. -/
def lampCond (st prior cause : Nat) : Nat :=
  let c := if st = cREST then prior else st
  if c = cABSENT then (if cause = 1 then 0 else 1)
  else if c = cQUALIFY ∨ c = cPRE then 2
  else if c = cCC ∨ c = cCV then 3
  else if c = cTOPOFF then 4
  else if c = cDONE then 5
  else if c = cSUSPEND then 6 else 7

/-- The pattern on CHST0 (0) or CHST1 (1): 0 off, 1 on, 2 blinking at 1 Hz, 3 at 4 Hz. While FE2 is stopped the state and the
patterns that the drivers took stay. -/
def State.lamp (s : State) (p : Nat) : Nat :=
  if s.mode ≤ mPARKED then 0
  else getBits s.chg.lamps (16 * p + 2 * lampCond s.chgSt (s.rd chgB CHG.STATUS_PRIOR) (s.rd chgB CHG.STATUS_CAUSE)) 2

/-- The driver of CHST0 or CHST1 sinks: the two blink from one divider, with a 50 % duty. (DESIGN CHOICE, log 84.) -/
def State.lampLit (s : State) (p : Nat) : Bool :=
  match s.lamp p with
  | 0 => false
  | 1 => true
  | 2 => s.tick / 500000 % 2 == 0
  | _ => s.tick / 125000 % 2 == 0

/-! The demand (R182, R183). -/

/-- I_cv after 10 µs (R182), in µA: CVK mA per ms and mV. (DESIGN CHOICE, log 65.) -/
def State.icvNext (s : State) (vbsn : Nat) : Int :=
  let v : Nat := s.cells * (s.vcv - if s.rd chgB CHG.TEMP_ZONE = 3 then 25 * s.rd chgB CHG.NTC_CFG_WARM_DV else 0)
  clampI 0 ((s.iset : Int) * 100000) (s.chg.icv + (orIf0 (s.rd chgB CHG.CFG_CVK) 1 : Nat) * ((v : Int) - vbsn) * 10)

/-- The terms of the demand at a sample: I_state and I_therm follow a running FE2, and I_cv moves every 10 µs. -/
def State.terms (s : State) (vbsn : Nat) : State :=
  let s1 := if s.fe2 then s.modChg (fun h => { h with iSt := s.iState s.chgSt, iTh := s.iTherm }) else s
  let s2 := if s.chg.icvAt + 10 ≤ s.tick then s1.modChg (fun h => { h with icv := s.icvNext vbsn, icvAt := s.tick }) else s1
  let h := s2.chg
  (s2.wrB chgB CHG.STATUS_CV_ACT (decide (h.iSt ≠ 0 ∧ h.icv < (h.iSt : Int) * 100000 ∧ h.icv < (h.iTh : Int) * 1000))).wrB chgB
    CHG.STATUS_THERM (decide (h.iTh < s.iset * 100))

/-- I_dem in mA (R182); the demand is 0 while a suspension reason holds (R192), and after the cut (R194). -/
def State.iDem (s : State) : Int :=
  let h := s.chg
  if s.susp ≠ 0 ∨ h.cut = true then 0 else min (min ((h.iSt : Int) * 100) h.iTh) (h.icv / 1000)

/-! CHG_CTRL (R197). -/

/-- Its argument check: the cause of a refusal, or none. (DEDUCED, log 15.) -/
def State.chgRefusal (s : State) (k : Cmd) : Option Nat :=
  let a := getBits k.a0 0 8
  let i := getBits k.a1 0 9
  if 4 < a ∨ k.a2 ≠ 0 then some 1
  else if !s.bit chgB CHG.CFG_EN then some 4
  else if i ≠ 0 ∧ (i < 5 ∨ 400 < i) then some 3
  else if (a = 3 ∧ !charging s.chgSt) ∨ (a = 4 ∧ s.chgSt ≠ cDONE) then some 2
  else none

/-- Its effect. -/
def State.chgAct (s : State) (a : Nat) : State :=
  if a = 0 then (s.wr chgB (CHG.STATUS_SUSP.at 8) 1).chgWatch
  else if a = 1 then (s.wr chgB (CHG.STATUS_SUSP.at 8) 0).chgWatch
  else if a = 2 then
    (if s.chgSt = cTIMEOUT ∨ s.chgSt = cFAULT then ((s.safeZero.phaseZero.restZero).wr chgB CHG.STATUS_CAUSE 0).setChg cQUALIFY else s)
  else if a = 3 then s.restStart
  else s.recharge

/-- A CHG_CTRL of action `a` that has its turn. A CLEAR outside TIMEOUT and FAULT changes nothing. -/
def State.chgCtrl (s : State) (t : BitVec 8) (a : Nat) : State :=
  s.start t 0x16 fun k s =>
    if getBits k.a0 0 8 = a ∨ (4 < getBits k.a0 0 8 ∧ a = 0) then
      match s.chgRefusal k with
      | some c => s.failK k c
      | none =>
        let i := getBits k.a1 0 9
        let s1 := (if i = 0 ∨ (a = 2 ∧ s.chgSt ≠ cTIMEOUT ∧ s.chgSt ≠ cFAULT) then s else s.wr chgB CHG.ICHG_SET i).chgAct a
        s1.doneK k (s1.chgSt + 16 * s1.rd chgB CHG.STATUS_CAUSE)
    else s

end Sys2Proof.Machine
end

