-- ==== Sys2Proof/Machine/Sheaf.lean ====
section
/-! DEFINITION. Phases and sheaves (R102 to R133, R154, R169), as operations. -/

namespace Sys2Proof.Machine

open Sys2Proof

/-! A sheaf as it is configured (R104, R121). -/

abbrev shFULL : Nat := 0
abbrev shSHEDDING : Nat := 1
abbrev shREDUCED : Nat := 2
abbrev shADDING : Nat := 3

def State.actives (s : State) (r : Nat) : List Nat :=
  (List.range 48).filter (fun p => s.phRail p == r && s.phRole p == 1)
def State.spares (s : State) (r : Nat) : List Nat :=
  (List.range 48).filter (fun p => s.phRail p == r && s.phRole p == 2)
def State.removed (s : State) (p : Nat) : Bool := s.bit (ph p) PHX.MAP_REMOVED

def State.lvlCount (s : State) (r k : Nat) : Nat := getBits (s.getW (sheaf r + 0x0C + 4 * k)) 0 5
def State.lvlDrop (s : State) (r k : Nat) : Nat := getBits (s.getW (sheaf r + 0x0C + 4 * k)) 8 12
def State.lvlAdd (s : State) (r k : Nat) : Nat := getBits (s.getW (sheaf r + 0x0C + 4 * k)) 20 12

/-- The level rules of R121, for a sheaf of `n` slots. -/
def State.levelsOk (s : State) (r n : Nat) : Bool :=
  let c1 := s.lvlCount r 1
  let c2 := s.lvlCount r 2
  let c3 := s.lvlCount r 3
  let th := fun k => s.lvlCount r k == 0 || decide (s.lvlDrop r k < s.lvlAdd r k)
  (c1 == 0 || decide (c1 < n)) && (c2 == 0 || decide (0 < c1 ∧ c2 < c1)) && (c3 == 0 || decide (0 < c2 ∧ c3 < c2)) &&
    th 1 && th 2 && th 3

/-- The sheaf of a rail is valid (R104). -/
def State.sheafValid (s : State) (r : Nat) : Bool :=
  let a := s.actives r
  let slots := a.map (fun p => s.rd (ph p) PHX.MAP_SLOT)
  decide (1 ≤ a.length ∧ a.length ≤ 24) && (List.range a.length).all (fun k => slots.contains k) &&
    decide ((s.spares r).length ≤ 2) && s.levelsOk r a.length

/-! Who takes part. -/

/-- Phases sorted by the slot each holds. -/
def State.insSlot (s : State) (p : Nat) : List Nat → List Nat
  | [] => [p]
  | q :: t => if s.phSlot p < s.phSlot q then p :: q :: t else q :: s.insSlot p t
def State.bySlot (s : State) (l : List Nat) : List Nat := l.foldl (fun a p => s.insSlot p a) []

/-- The phases that hold a slot of the sheaf: active phases and substituted spares, not removed (R107, R129). -/
def State.holders (s : State) (r : Nat) : List Nat :=
  s.bySlot ((s.phasesOf r).filter (fun p => !s.removed p && (s.phRole p == 1 || s.bit (ph p) PHX.MAP_SUBST)))

/-- The participating phases in slot order (R107). -/
def State.ranked (s : State) (r : Nat) : List Nat := s.bySlot ((s.phasesOf r).filter s.takesPart)

/-- The spares of a sheaf that are idle, lowest first. -/
def State.idleSpares (s : State) (r : Nat) : List Nat :=
  (s.spares r).filter (fun p => !s.removed p && !s.bit (ph p) PHX.MAP_SUBST)

def State.weigh (s : State) (p w : Nat) : State := s.wr (ph p) PHX.SHARE_WEIGHT w
def State.trimZero (s : State) (p : Nat) : State := s.wr (ph p) PHX.PSTAT_TRIM 0

/-- A phase takes full part (R109, R111). -/
def State.phActive (s : State) (p : Nat) : State :=
  ((s.wr (ph p) PHX.PSTAT_STATE phACTIVE).weigh p 8).modPh p (fun h => { h with pwm := .run, kept := false })

/-- STATUS.NPH of the rail and M of the sheaf count the participating phases. -/
def State.countM (s : State) (r : Nat) : State :=
  let m := (s.ranked r).length
  (s.wr (sheaf r) PHX.SH_STAT_M m).wr (rail r) RAIL.STATUS_NPH m

/-- Sheaf membership or FSW changed: a proposal goes stale (R99). -/
def State.lidStale (s : State) (n : Nat) : State := s.modRail n (fun h => { h with lid := { h.lid with stale := true } })

/-- SHr_STAT.SPARES. -/
def State.countSpares (s : State) (r : Nat) : State := s.wr (sheaf r) PHX.SH_STAT_SPARES (s.idleSpares r).length

/-- A rail leaves rest with every slot holder at full weight and trim 0 (R107, R111, R131). -/
def State.sheafStart (s : State) (r : Nat) : State :=
  let s1 := s.each (s.holders r) fun p t => (t.phActive p).trimZero p
  let s2 := s1.each (s.idleSpares r) fun p t => t.phRest p phSPARE
  let s3 := s2.each ((s.phasesOf r).filter s.removed) fun p t => t.phRest p phREMOVED
  ((s3.modSheaf r (fun _ => SheafHid.reset)).countSpares r).countM r

/-- Slots without a holder are given to idle spares, or dropped (R131). The set that will run is another one (R99). -/
def State.fillSlots (s : State) (r : Nat) : State :=
  ((s.actives r).filter s.removed).foldl (fun t p =>
    let slot := t.rd (ph p) PHX.MAP_SLOT
    let taken := (t.spares r).any (fun q => t.bit (ph q) PHX.MAP_SUBST && !t.removed q && t.rd (ph q) PHX.MAP_HELD_SLOT == slot)
    if taken then t
    else match t.idleSpares r with
      | q :: _ => ((((t.wr (ph q) PHX.MAP_SUBST 1).wr (ph q) PHX.MAP_HELD_SLOT slot).phRest q phIDLE).lidStale r)
      | [] => if t.bit (sheaf r) PHX.SH_STAT_DERATED then t else (t.wr (sheaf r) PHX.SH_STAT_DERATED 1).lidStale r) s

/-- The on-time of a phase in steps of 250 ps (R75), from the frequency in kHz, TONMIN in ns and the duty: rounded to the
nearest step, and below TONMIN to the nearer of 0 and TONMIN. Where both are as near, which is not stated. (DESIGN CHOICE,
log 71.) -/
def onSteps (f ton d : Nat) : Nat :=
  let t := (d * 4000000 + f * 32768) / (f * 65536)
  if 4 * ton ≤ t then t
  else if t < 2 * ton then 0
  else if t = 2 * ton then (if Config.freeBool t then 4 * ton else 0)
  else 4 * ton

/-- The duty of each participating phase at its leading edge, from the rail's duty D (R75, R109); D × w / 8 rounds down.
(DESIGN CHOICE, log 75.) Between the entry to SOFTSTART and its first sample D is the last one of LOOP_MON, of which nothing is
stated. (DESIGN CHOICE, log 86.) -/
def State.dutySet (s : State) (n : Nat) : State :=
  let b := rail n
  let d := match (s.railH n).cap with
    | some k => min k (s.rd b RAIL.LOOP_MON_D_LAST)
    | none => s.rd b RAIL.LOOP_MON_D_LAST
  s.each (s.ranked n) fun p t =>
    let di := (clampI 0 65535 ((d : Int) * t.rd (ph p) PHX.SHARE_WEIGHT / 8 + t.rdI (ph p) PHX.PSTAT_TRIM + (s.sheafH n).pb)).toNat
    t.modPh p (fun g => { g with duty := di, on := onSteps (s.rd b RAIL.FSW_FREQ) (s.rd b RAIL.DLIM_TONMIN) di })

/-! Sheaf counters: a count that saturates sets CNT_SAT with a C0 record of the rail's event (R133). -/

def State.shCount (s : State) (r : Nat) (f sat : Fld) : State := s.count (sheaf r) f sat (shPage r) 7 r

/-! Returns to FULL (R120, R122). -/

/-- A return to FULL: every phase that takes part is at weight 8 for its next leading edge, the shed ones come back at the next
master period start, and HOLD begins (R108, R122, R124). (DEDUCED, log 47.) -/
def State.goFull (s : State) (r : Nat) : State :=
  let s1 := s.each (s.holders r) fun p t =>
    if t.takesPart p && t.phState p != phACTIVE && !(s.railH r).ovOff then (t.phActive p).trimZero p else t
  let s2 := ((s1.wr (sheaf r) PHX.SH_STAT_SST shFULL).wr (sheaf r) PHX.SH_STAT_LEVEL 0).wr (sheaf r) PHX.SH_STAT_CYCLE 0
  ((s2.modSheaf r (fun h => { h with
    dwell := 0, hold := s.rd (sheaf r) PHX.SH_SHED_HOLD != 0, goal := 0, cyc := 0, left := [], back := true })).mark (.shedHold r)).dutySet r

/-- The shed phases and the spares that hold a slot take part again, at a master period start (R108, R122). -/
def State.comeBack (s : State) (r : Nat) : State :=
  if (s.sheafH r).back then
    (s.each (s.holders r) fun p t => if t.takesPart p then t else (t.phActive p).trimZero p).modSheaf r
      (fun h => { h with back := false })
  else s

/-- An abort condition of R122 holds: SHEDDING and ADDING return to FULL, the first with its count and its record, which
gives the cause: 0 a load step, 1 a hint edge, 2 FILT above ADD, 3 a removal. `red`: a REDUCED sheaf returns as well.
(DEDUCED, log 47; DESIGN CHOICE, log 74.) -/
def State.shedAbort (s : State) (r : Nat) (red : Bool) (cause : Nat) : State :=
  let st := s.rd (sheaf r) PHX.SH_STAT_SST
  if st = shSHEDDING then
    ((s.goFull r).shCount r PHX.SH_CNT1_ABORTS PHX.SH_CNT1_ABORTS_SAT).post r (some 0) (some (Config.detailOf 0 cause))
  else if st = shADDING ∨ (st = shREDUCED ∧ red = true) then s.goFull r
  else s

/-! Out-of-turn firing (R115, R116). -/

/-- `n` phases of the present period's set fire out of turn, in the order from ROT_PTR; a phase that is high (in `high`), that
fell less than TOFFMIN ago (in `low`, with the ns since), or that a limit or an identification holds for the rest of its period
(R125, R134, R137) is passed over. ROT_PTR advances by `n`. -/
def State.fireOut (s : State) (r n : Nat) (high : List Nat) (low : List (Nat × Nat)) : State :=
  let p := (s.sheafH r).last
  let m := p.length
  let k := s.rd (sheaf r) PHX.SH_STAT_ROT_PTR
  let toff := 5 * s.rd (sheaf r) PHX.SH_FIRE_TOFFMIN
  let turn := (p.drop (k % max 1 m) ++ p.take (k % max 1 m)).filter (fun q =>
    s.takesPart q && !(s.phH q).kept && !high.contains q && low.all (fun e => e.1 != q || decide (toff ≤ e.2)))
  let s1 := s.each (turn.take n) fun q t => t.modPh q (fun h => { h with pwm := .pulse })
  s1.wr (sheaf r) PHX.SH_STAT_ROT_PTR ((k + n) % max 1 m)

/-! Shedding and adding (R121 to R123). -/

/-- The next enabled level below the running one, skipping those that the remaining slots rule out (R130). -/
def State.nextLevel (s : State) (r : Nat) : Option Nat :=
  let k := s.rd (sheaf r) PHX.SH_STAT_LEVEL
  ((List.range 4).filter (fun j => decide (k < j) && s.lvlCount r j != 0 && decide (s.lvlCount r j < (s.holders r).length))).head?

/-- Shedding is suspended in soft start and in an identification run (R124). -/
def State.shedSusp (s : State) (r : Nat) : Bool :=
  !s.bit (rail r) RAIL.STATUS_SS_DONE || s.bit (rail r) RAIL.STATUS_LID_RUN

/-- The phase that leaves first (R123): of the highest slot, or of the lowest EFF with ties to the higher slot. -/
def State.firstOut (s : State) (r : Nat) : List Nat → Option Nat
  | [] => none
  | p :: t =>
    match s.firstOut r t with
    | none => some p
    | some q =>
      let hot := s.bit (sheaf r) PHX.SH_CFG_ORDER
      let ep := s.rdI (ph p) PHX.SHARE_EFF
      let eq := s.rdI (ph q) PHX.SHARE_EFF
      if (hot && decide (ep < eq)) || ((!hot || ep == eq) && decide (s.phSlot q < s.phSlot p)) then some p else some q

/-- The first `n` phases to leave, in their order. -/
def State.departing (s : State) (r : Nat) : Nat → List Nat → List Nat
  | 0, _ => []
  | n + 1, l => match s.firstOut r l with | none => [] | some p => p :: s.departing r n (l.filter (· != p))

/-- A shed begins (R122). A phase that leaves is ACTIVE no more, so its counts of R128 end. -/
def State.shedBegin (s : State) (r k : Nat) : State :=
  let a := (s.holders r).filter (fun p => s.phState p == phACTIVE)
  let out := s.departing r (a.length - s.lvlCount r k) a
  let s1 := s.each out fun p t => ((t.wr (ph p) PHX.PSTAT_STATE phDEPART).trimZero p).modPh p
    (fun h => { h with oofI := 0, oofT := 0, oofO := 0 })
  (((s1.wr (sheaf r) PHX.SH_STAT_SST shSHEDDING).wr (sheaf r) PHX.SH_STAT_CYCLE 0).modSheaf r
    (fun h => { h with goal := k, cyc := 0, dwell := 0, left := h.left ++ out })).countM r

/-- The level above the running one: the lower number, or FULL. -/
def State.levelAbove (s : State) (r : Nat) : Nat :=
  let k := s.rd (sheaf r) PHX.SH_STAT_LEVEL
  ((List.range k).filter (fun j => j == 0 || (s.lvlCount r j != 0 && decide (s.lvlCount r j < (s.holders r).length)))).getLast?.getD 0

/-- An add begins: phases come back in the reverse order of their departure (R122, R123). -/
def State.addBegin (s : State) (r : Nat) : State :=
  let k := s.levelAbove r
  let now := ((s.holders r).filter (fun p => s.phState p == phACTIVE)).length
  let n := (if k = 0 then (s.holders r).length else s.lvlCount r k) - now
  let l := (s.sheafH r).left
  let back := (l.reverse).take n
  let s1 := s.each back fun p t => (((t.wr (ph p) PHX.PSTAT_STATE phJOIN).weigh p 0).trimZero p).modPh p (fun h => { h with pwm := .run })
  (((s1.wr (sheaf r) PHX.SH_STAT_SST shADDING).wr (sheaf r) PHX.SH_STAT_CYCLE 0).modSheaf r
    (fun h => { h with goal := k, cyc := 0, left := l.take (l.length - n) })).countM r

/-- Cycle 8 of a shed has ended (R122). -/
def State.shedEnd (s : State) (r : Nat) : State :=
  let s1 := s.each ((s.phasesOf r).filter (fun p => s.phState p == phDEPART)) fun p t => t.phRest p phSHED
  ((((s1.wr (sheaf r) PHX.SH_STAT_SST shREDUCED).wr (sheaf r) PHX.SH_STAT_LEVEL (s.sheafH r).goal).wr (sheaf r)
    PHX.SH_STAT_CYCLE 0).modSheaf r (fun h => { h with dwell := 0, cyc := 0 })).countM r

/-- Cycle 8 of an add has ended (R122). -/
def State.addEnd (s : State) (r : Nat) : State :=
  let s1 := s.each ((s.phasesOf r).filter (fun p => s.phState p == phJOIN)) fun p t => (t.phActive p).trimZero p
  let g := (s.sheafH r).goal
  ((((s1.wr (sheaf r) PHX.SH_STAT_SST (if g = 0 then shFULL else shREDUCED)).wr (sheaf r) PHX.SH_STAT_LEVEL g).wr (sheaf r)
    PHX.SH_STAT_CYCLE 0).modSheaf r (fun h => { h with dwell := 0, cyc := 0 })).countM r

/-! Removal and substitution (R125 to R131, R154, R169). -/

/-- A class field whose codes are held inside a range. -/
def State.phcls (s : State) (f : Fld) (lo hi : Nat) : Nat := clampN lo hi (s.rd supvB f)

/-- A sheaf left with no slot: the rail latches, whatever its state (R154). -/
def State.noSlot (s : State) (r : Nat) : State :=
  if (s.holders r).isEmpty then (((s.outLatch r).protLast r 8).post r (some 2) none) else s

/-- A spare takes the slot of a phase that has gone (R129): in a running sheaf at the slot's angle and in its place of the
present period's set, from the slot's next leading edge; where the slot did not take part, from the next period start. -/
def State.substitute (s : State) (r p q slot ang : Nat) : State :=
  let s1 := ((s.wr (ph q) PHX.MAP_SUBST 1).wr (ph q) PHX.MAP_HELD_SLOT slot).setRepl DEV.REPLACE_SRC_SPARE true
  let s2 := if (s.outSt r ≠ 2 ∧ s.outSt r ≠ 3) ∨ (s.railH r).ovOff = true then s1.phRest q phIDLE
    else if (s.sheafH r).last.contains p then
      ((((s1.phActive q).trimZero q).modPh q (fun h => { h with ang := ang })).modSheaf r
        (fun h => { h with last := h.last.map (fun x => if x = p then q else x) })).dutySet r
    else (s1.phRest q phIDLE).modSheaf r (fun h => { h with back := true })
  s2.countSpares r

/-- Removal of a point-of-load phase (R129, R154). `cls`: the class where the removal is of an unresolved group. M falls at the
next master period start. A run of identification ends as disturbed where a spare steps in, and for a fault of the rail where none
does (R94, R97). (DEDUCED, log 47.) NO_SPARE sets on the phase's page, where its sheaf's is another one. (DESIGN CHOICE, log 86.) -/
def State.removePhase (s : State) (p : Nat) (cls : Option Nat) : State :=
  let r := s.phRail p
  let b := phPage p
  let e := 46 + p
  if s.removed p then s
  else
    let holds := s.phRole p = 1 ∨ s.bit (ph p) PHX.MAP_SUBST = true
    let slot := s.phSlot p
    let sub := some (cls.getD (s.phcls SUPV.PHCLS_REMOVE 0 2))
    let s1 := (s.wr (ph p) PHX.MAP_REMOVED 1).phRest p phREMOVED
    if r = 15 ∨ s.phRole p = 0 then s1.err b 5 e cls none
    else
      let s2 := (s1.protLast r 6).wr (rail r) RAIL.PROT_LAST_PHASE p
      if !holds then (((s2.err b 5 e sub none).lidAbort r 7).countSpares r).setRepl DEV.REPLACE_SRC_SPARE true
      else
        let s3 := (s2.shedAbort r true 3).lidStale r
        match s3.idleSpares r with
        | q :: _ => ((s3.lidAbort r 4).err b 5 e sub none).substitute r p q slot (s.phH p).ang
        | [] =>
          let s4 := (((s3.lidAbort r 7).err b 5 e (some (cls.getD (s.phcls SUPV.PHCLS_DERATE 0 2))) none).wr (sheaf r) PHX.SH_STAT_DERATED 1).errQ b 6 e
          s4.noSlot r

/-- The seven phases of a stage-fault group (R125). -/
def groupPhases (g : Nat) : List Nat := (List.range 7).map (· + 7 * g)

/-- The level on a phase's IMON in mV. -/
def imonOf (l : List (Fin 56 × Nat)) (p : Nat) : Nat := match l.find? (fun x => x.1.val == p) with | some x => x.2 | none => 0

/-- The identification of a group (R125, R126, R169). Its phases are at mid-level from the fault on; those that stay resume with
their next period. STAGE_FAULT sets on each rail concerned and adds no raise to those of R154. -/
def State.identify (s0 : State) (g : Nat) (imon : List (Fin 56 × Nat)) : State :=
  let ps := groupPhases g
  let s := s0.each ps fun p t => t.modPh p (fun h => { h with pwm := .mid, kept := true })
  let hit := ps.filter (fun p => decide (10 * s.rd (grp g) PHX.GRP_IMFLT ≤ imonOf imon p))
  let mask := hit.foldl (fun m p => m + 2 ^ (p - 7 * g)) 0
  let s1 := s.wr (grp g) PHX.GRP_LAST mask
  let gone := if hit.isEmpty then ps.filter (fun p => decide (48 ≤ p) || s.takesPart p || (s.phRole p == 1 && !s.removed p) ||
      s.bit (ph p) PHX.MAP_SUBST) else hit
  let un := s.phcls SUPV.PHCLS_UNRES 1 3
  let cls := if hit.isEmpty then some un else none
  let s2 := if hit.isEmpty then s1.errQ (pg 0x0D) 2 (46 + 7 * g) else s1
  let rails := ((gone.filter (fun p => decide (p < 48))).map s.phRail).eraseDups.filter (fun r => decide (r < 12))
  let s3 := s2.each rails fun r t => t.errQ (rail r) 13 r
  let s4 := s3.each gone fun p t =>
    if p < 48 then t.removePhase p cls
    else if t.bit buscB (BUSC.PH_REM_REM.at (p - 48)) then t
    else (t.busRemove p).err buscB 0 (46 + p) (some (cls.getD (t.phcls SUPV.PHCLS_DERATE 0 2))) none
  if gone.any (fun p => decide (48 ≤ p)) then s4.busShort else s4

/-- The groups with a low SFLT input that hold phases of a rail are identified before it starts (R127). -/
def State.identifyRail (s : State) (r : Nat) (imon : List (Fin 56 × Nat)) : State :=
  let low := s.rd (pg 0x0C) PHX.STATUS_SFLT_LOW
  s.each ((List.range 8).filter (fun g => low.testBit g && (groupPhases g).any (fun p => s.phRail p == r))) fun g t => t.identify g imon

/-- SPARE has been cleared by a host: at the next RISING every REMOVED and SUBST clears and the configured roles come back (R59,
R131), those of a rail that runs at its next master period start. (DEDUCED, log 47.) -/
def State.restorePhases (s : State) : State :=
  if !s.spareClr then s
  else
    let s1 := { s with spareClr := false }.each (List.range 48) fun p t =>
      if t.removed p || t.bit (ph p) PHX.MAP_SUBST then
        let u := ((t.wr (ph p) PHX.MAP_REMOVED 0).wr (ph p) PHX.MAP_SUBST 0).wr (ph p) PHX.MAP_HELD_SLOT 0
        (u.phRest p (u.restState p)).lidStale (u.phRail p)
      else t
    s1.each (List.range 12) fun r t =>
      ((t.wr (sheaf r) PHX.SH_STAT_DERATED 0).countSpares r).iff (t.outSt r == 2 || t.outSt r == 3) fun u =>
        u.modSheaf r (fun h => { h with back := true })

/-! Currents, balance and angles (R103, R107, R110). -/

/-- The current of a phase in 0.1 A from its sampler's code (R103): 1024 steps over 2.000 V, rounded down. (DESIGN CHOICE,
log 75.) -/
def State.phaseI (s : State) (p code : Nat) : Int :=
  let gain : Nat := orIf0 (s.rd (ph p) PHX.IMCFG_GAIN) 1
  clampI (-2048) 2047 (((code : Int) * 2000 - 5120 * s.rd (ph p) PHX.IMCFG_OFS) * 200 / ((1024 * gain : Nat) : Int))

/-- The angle of rank `k` of `m` (R107). -/
def angleOf (k m : Nat) : Nat := (k * 1024 + m / 2) / m

/-- Angles at a master period start, where the participating set changed (R107, R108). -/
def State.respread (s : State) (r : Nat) : State :=
  let p := s.ranked r
  if p = (s.sheafH r).last then s
  else
    let m := p.length
    let s1 := s.each (List.range m) fun k t => match p[k]? with
      | some q => t.modPh q (fun h => { h with ang := angleOf k m })
      | none => t
    let s2 := s1.wr (sheaf r) PHX.SH_STAT_ROT_PTR (s.rd (sheaf r) PHX.SH_STAT_ROT_PTR % max 1 m)
    (s2.modSheaf r (fun h => { h with last := p })).countM r

def sumI (l : List Int) : Int := l.foldl (· + ·) 0

/-- The normalised share offsets of the ACTIVE phases (R110); their mean rounds a half away from zero. (DESIGN CHOICE,
log 75.) -/
def State.effs (s : State) (r : Nat) (a : List Nat) : List Int :=
  let m : Int := s.rd (sheaf r) PHX.SH_BAL_SMAX
  let sh := a.map (fun p => clampI (-m) m (s.rdI (ph p) PHX.SHARE_OFFSET))
  let mean := roundDiv (sumI sh) (max 1 a.length)
  sh.map (· - mean)

/-- A count of periods in a row. -/
def streak (b : Bool) (n : Nat) : Nat := if b then n + 1 else 0

/-- The trims of the ACTIVE phases move towards their targets (R110), and the counts of R128 follow, each criterion with its
own: a current out of family, a trim at its bound, an IMON below 20 mV in an on-time. (DEDUCED, log 47.) The offset in use may
pass the 8 bits of EFF where SMAX is above 64: the trims follow the whole of it and EFF shows its low bits, no saturation being
stated. (DESIGN CHOICE, log 86.) -/
def State.balance (s : State) (r : Nat) (imv : List (Fin 48 × Nat)) : State :=
  let a := (s.phasesOf r).filter (fun p => s.phState p == phACTIVE)
  let eff := s.effs r a
  let tot := sumI (a.map (fun p => s.rdI (ph p) PHX.PSTAT_I))
  let den := sumI (eff.map (256 + ·))
  let kb : Int := s.rd (sheaf r) PHX.SH_BAL_KB
  let tm : Int := s.rd (sheaf r) PHX.SH_BAL_TRIM_MAX
  let th : Int := 5 * s.rd (sheaf r) PHX.SH_OOF_TH
  let loaded := decide (((10 * s.rd (sheaf r) PHX.SH_OOF_MIN * a.length : Nat) : Int) ≤ tot)
  let on := s.bit (sheaf r) PHX.SH_CFG_OOF_EN
  (a.zip eff).foldl (fun t pe =>
    let p := pe.1
    let i := t.rdI (ph p) PHX.PSTAT_I
    let dev := tot * (256 + pe.2) - i * den
    let trim := clampI (-tm) tm (t.rdI (ph p) PHX.PSTAT_TRIM + (if den = 0 then 0 else kb * dev / (64 * den)))
    let opn := (imv.find? (fun x => x.1.val == p)).any (fun x => decide (x.2 ≤ 10)) && (t.phH p).on != 0
    let off := loaded && decide (th * den < dev ∨ th * den < -dev)
    ((t.wrI (ph p) PHX.SHARE_EFF pe.2).wrI (ph p) PHX.PSTAT_TRIM trim).modPh p (fun h => { h with
      oofI := streak (on && off) h.oofI, oofT := streak (on && decide (trim = tm ∨ trim = -tm)) h.oofT,
      oofO := streak (on && opn) h.oofO })) s

end Sys2Proof.Machine
end

