-- ==== Sys2Proof/Machine/Rails.lean ====
section
/-! DEFINITION. The rail controllers (R65 to R100) and the protection of rails and bucks (R134 to R142), as operations. -/

namespace Sys2Proof.Machine

open Sys2Proof

/-! Counters without an ERR bit of their own: a count that saturates makes a C0 record of the rail's event (R101, R157). -/

def State.count0 (s : State) (b : Nat) (f sat : Fld) (ev : Nat) : State :=
  if s.fills b f then ((s.bump b f).wr b sat 1).post ev (some 0) none else s.bump b f

/-! Soft start (R80, R81). -/

/-- The reference at sample `n` of `N` towards `vt` (R80), rounded down to a step of REF_NOW. (DESIGN CHOICE, log 75.) -/
def profile (curve : Bool) (vt n N : Nat) : Nat :=
  if N ≤ n then vt
  else if !curve then vt * n / N
  else if 2 * n ≤ N then vt * 2 * n * n / (N * N)
  else vt - vt * 2 * (N - n) * (N - n) / (N * N)

/-- The last sample at which the profile is at or below `v` (R81). -/
def startAt (curve : Bool) (vt v N : Nat) : Nat :=
  if vt = 0 then N
  else if !curve then v * N / vt
  else if 2 * v ≤ vt then isqrt (v * N * N / (2 * vt)) 40 0
  else N - isqrt (((vt - v) * N * N + 2 * vt - 1) / (2 * vt)) 40 0

/-- Whole samples of a soft start: TIME × 0.1 ms at 2 FREQ for a rail, at 4.4 MHz for a buck, rounded down. (DESIGN CHOICE,
log 75.) -/
def State.ssN (s : State) (x : Nat) : Nat :=
  match outKind x with
  | .rail => max 1 (orIf0 (s.rd (rail x) RAIL.SS_TIME) 1 * clampN 250 2000 (s.rd (rail x) RAIL.FSW_FREQ) / 5)
  | _ => orIf0 (s.rd (bk (x - 12)) BUCK.BK_SS_TIME) 1 * 440

/-- Discharge is released at an enable (R153), of both halves of a pair (R214). (DEDUCED, log 51.) -/
def State.undischarge (s : State) (x : Nat) : State :=
  let s1 := (s.wr (out x) SUPV.OUT_OFF_DIS_FORCE 0).modOut x (fun h => { h with dis := false })
  if s.follows (x + 1) then s1.modOut (x + 1) (fun h => { h with dis := false }) else s1

/-- A rail's soft start to the target `vt` begins at sample `n0` of its clock (R80, R84, R139): the loop's terms cleared, e_prev
with them, of which R84 says nothing where the search comes before. (DESIGN CHOICE, log 76.) A start beyond the half, `late`,
makes no check (R142). The counts of 64 periods of R136 and R137 are full at each soft start, of which neither rule says anything.
(DESIGN CHOICE, log 86.) -/
def State.railSoft (s : State) (n n0 vt : Nat) (late : Bool) : State :=
  let N := s.ssN n
  let s1 := (((s.setOutSt n 2).setRef n (profile (s.bit (rail n) RAIL.CTRL_PROFILE) vt n0 N)).wr (rail n) RAIL.INT_STATE_ACC
    0).sheafStart n
  s1.modRail n (fun h => { h with
    loop := Loop.reset, tau := n0, vt := vt, ssLate := late, ssTold := false, rem := 0, cut := false, unlim := 64,
    negFree := 64, cap := none, dMin := 65535 })

/-- The output regulates from here (R83, R207): SS_DONE, and the target that was held meanwhile (R78). -/
def State.ssDone (s0 : State) (x : Nat) : State :=
  let s := (s0.mark (.ssAt x)).mark (.retry x)
  match outKind x with
  | .rail => (((s.setOutSt x 3).wr (rail x) RAIL.STATUS_SS_DONE 1).retarget x).irq (rail x) 17 x
  | .buck => ((s.setOutSt x 3).wr (bk (x - 12)) BUCK.BK_STAT_SS_DONE 1).retarget x
  | .ldo => ((s.setOutSt x 2).wr (ldo (x - 28)) LDO.LDO_STAT_SS_DONE 1).endWaits x
  | .ls => s.setOutSt x 2

/-- CTRL.EN of a rail set (R84, R106, R127). -/
def State.railEnable (s : State) (n : Nat) (imon : List (Fin 56 × Nat)) : State :=
  let s1 := s.wr (rail n) RAIL.CTRL_EN 1
  if s.outSt n ≠ 0 then s1
  else if !s.sheafValid n then (s1.wr (rail n) RAIL.CTRL_EN 0).err (shPage n) 1 n none none
  else
    let s2 := (s1.undischarge n).identifyRail n imon
    if (s2.holders n).isEmpty then (if s2.outSt n = 0 then s2.noSlot n else s2)
    else if s2.bit (rail n) RAIL.CTRL_PREBIAS_EN then (s2.setOutSt n 1).modRail n (fun h => { h with vt := s2.target n })
    else s2.railSoft n 0 (s2.target n) false

/-- The pre-bias search has found the output at `v` µV (R81, R84). The target is that of the enable: a later one is held
(R78, R79). The clock starts beyond the half where the output stands above half the target: both profiles pass it there (R80). -/
def State.railPrebias (s : State) (n v : Nat) : State :=
  if s.outSt n = 1 ∧ (s.railH n).ovOff = false then
    let vp := v * 32 / 625
    let vt := (s.railH n).vt
    if vp < vt then
      (s.railSoft n (startAt (s.bit (rail n) RAIL.CTRL_PROFILE) vt vp (s.ssN n)) vt (decide (625 * vt < 64 * v))).setRef n vp
    else
      let s1 := ((s.railSoft n 0 vt false).setRef n (min vp 262143)).ssDone n
      s1.err (rail n) 6 n none none
  else s

/-! Slews (R77). -/

/-- A reference moved towards its target by at most `num / den` steps: the new reference, and the remainder, which the next
sample takes up where the step is no whole number (R77). (DESIGN CHOICE, log 75.) -/
def moveRef (r t rem num den : Nat) : Nat × Nat :=
  let tot := rem + num
  let st := tot / max 1 den
  if r < t then (if t - r ≤ st then (t, 0) else (r + st, tot % max 1 den))
  else (if r - t ≤ st then (t, 0) else (r - st, tot % max 1 den))

/-- One sample of a rail's reference (R77, R80): soft start or slew. -/
def State.refSample (s : State) (n : Nat) : State :=
  let h := s.railH n
  if s.outSt n = 2 then
    let N := s.ssN n
    let v := profile (s.bit (rail n) RAIL.CTRL_PROFILE) h.vt (h.tau + 1) N
    let s1 := (s.setRef n (max v (s.refNow n))).modRail n (fun g => { g with tau := h.tau + 1 })
    if N ≤ h.tau + 1 then s1.ssDone n else s1
  else
    let t := s.target n
    let r := s.refNow n
    if r = t then s
    else
      let code := match h.ramp with
        | some c => c
        | none => s.rd (rail n) (if r < t then RAIL.SLEW_UP else RAIL.SLEW_DOWN)
      let m := moveRef r t h.rem (orIf0 code 1 * 1280) (clampN 250 2000 (s.rd (rail n) RAIL.FSW_FREQ))
      let s1 := ((s.setRef n m.1).setSlewing n true).modRail n (fun g => { g with rem := m.2 })
      if m.1 = t then s1.slewDone n else s1

/-! The coefficient banks (R87 to R89). -/

/-- The three words of bank A (0) or B (1). -/
def bankOff (b : Nat) : Nat := 0x70 + 0xC * b
def State.bank (s : State) (n b : Nat) : Coef :=
  let o := rail n + bankOff b
  coefOf (s.getW o) (s.getW (o + 4)) (s.getW (o + 8)) (s.rd (rail n) RAIL.INTLIM_LIM)
def State.bankNow (s : State) (n : Nat) : Nat := s.rd (rail n) RAIL.STATUS_BANK
def State.copyBank (s : State) (n fr dst : Nat) : State :=
  let a := rail n + bankOff fr
  let b := rail n + bankOff dst
  ((s.setW b (s.getW a)).setW (b + 4) (s.getW (a + 4))).setW (b + 8) (s.getW (a + 8))

/-- The range check of an APPLY (R88). -/
def coefOk (c : Coef) : Bool := decide (1 ≤ c.a1 ∧ c.a1 ≤ 16384 ∧ 1 ≤ c.a2 ∧ c.a2 ≤ 16384)

/-- A write of APPLY and of COPY (R88): the swap waits for the next sample boundary, and a copy with it; a copy by itself, or
beside a refused swap, is done. -/
def State.coefWrite (s : State) (n : Nat) (apply copy : Bool) : State :=
  let ok := coefOk (s.bank n (1 - s.bankNow n))
  let s1 := if apply then s.lidAbort n 9 else s
  let s2 := if apply && !ok then s1.err (rail n) 3 n none none else s1
  if apply && ok then s2.modRail n (fun h => { h with swap := true, copy := h.copy || copy })
  else if copy then s2.copyBank n (s.bankNow n) (1 - s.bankNow n)
  else s2

/-- A loop term in the scale of another KEXP, `d` less (R89), rounded down where it is divided. (DESIGN CHOICE, log 75.) -/
def rescale (d : Int) (i : Int) : Int := if 0 ≤ d then i * 2 ^ d.toNat else i / 2 ^ (-d).toNat

/-- The swap and the copy that wait for a sample boundary (R88, R89). -/
def State.swapNow (s : State) (n : Nat) : State :=
  let h := s.railH n
  let b := s.bankNow n
  let s1 := if h.swap then
      let sc := rescale (((s.bank n b).kexp : Int) - ((s.bank n (1 - b)).kexp : Int))
      let l := { h.loop with acc := satR (sc h.loop.acc), y1 := satR (sc h.loop.y1), y2 := satR (sc h.loop.y2) }
      let a := ((s.wr (rail n) RAIL.STATUS_BANK (1 - b)).wrI (rail n) RAIL.INT_STATE_ACC (l.acc / 16384)).modRail n
        (fun g => { g with swap := false, loop := l })
      if l.acc ≠ sc h.loop.acc ∨ l.y1 ≠ sc h.loop.y1 ∨ l.y2 ≠ sc h.loop.y2 then a.err (rail n) 1 n none none else a
    else s
  if h.copy then (s1.copyBank n (s1.bankNow n) (1 - s1.bankNow n)).modRail n (fun g => { g with copy := false }) else s1

/-! Identification (R91 to R97). -/

def lidOrder (v : Nat) : Nat := clampN 7 11 v
def lidReps (v : Nat) : Nat := if v = 0 then 64 else max 4 v
/-- Samples of one period of the sequence (R92). -/
def State.lidPeriod (s : State) (n : Nat) : Nat :=
  (2 ^ lidOrder (s.rd (rail n) RAIL.LID_CFG_ORDER) - 1) * (s.rd (rail n) RAIL.LID_CFG_CHIP + 1)

/-- One step of a shift register of the Galois kind; its bit 0 is the sequence. -/
def lfsrNext (taps r : Nat) : Nat := if r % 2 = 1 then (r / 2) ^^^ taps else r / 2

/-- The steps from `r` until 1 comes, if at most `fuel` are needed. -/
def lfsrLen (taps : Nat) : Nat → Nat → Nat
  | 0, _ => 0
  | fuel + 1, r => if r = 1 then 1 else 1 + lfsrLen taps fuel (lfsrNext taps r)

/-- A sequence of maximal length: it passes through every state but 0 (R92). -/
def maximal (n taps : Nat) : Bool := lfsrLen taps (2 ^ n) (lfsrNext taps 1) == 2 ^ n - 1

/-- The sequence's taps: R92 asks for a maximal length and leaves open which, so any taps of that kind may be the device's.
(DESIGN CHOICE, log 45.) -/
def lidTaps (n : Nat) (w : Word) : Nat :=
  let t := w.toNat % 2 ^ n
  if maximal n t then t
  else match n with
    | 7 => 0x60
    | 8 => 0xB8
    | 9 => 0x110
    | 10 => 0x240
    | _ => 0x500

/-- The perturbation runs: (REPS + 1) periods, the first of them to settle (R92). -/
def State.lidRuns1 (s : State) (n : Nat) : Bool :=
  s.bit (rail n) RAIL.STATUS_LID_RUN && decide ((s.railH n).lid.pers < lidReps (s.rd (rail n) RAIL.LID_CFG_REPS) + 1)

/-- The perturbation of a sample, in error LSB: plus or minus the amplitude, by the chip (R92). -/
def State.lidInj (s : State) (n : Nat) : Int :=
  let l := (s.railH n).lid
  if s.lidRuns1 n then (if l.reg % 2 = 1 then (l.amp : Int) else -l.amp) else 0

/-- One sample of a run: the guard against the mean of the preceding period, the chip boundary, the period (R92, R93). In the
first period, which has none before it, the mean counts as 0. (DEDUCED, log 46.) -/
def State.lidSample (s : State) (n : Nat) (e : Int) : State :=
  if s.lidRuns1 n then
    let l := (s.railH n).lid
    let dev := e * (s.lidPeriod n : Int) - l.prev
    let far := decide (13 * (s.lidPeriod n : Int) < dev ∨ dev < -(13 * (s.lidPeriod n : Int)))
    let ovr := if far then l.ovr + 1 else 0
    let trip := decide (4 ≤ ovr)
    if trip && l.amp == 1 then s.lidAbort n 6
    else
      let halve := l.halve || trip
      let edge := decide (s.rd (rail n) RAIL.LID_CFG_CHIP ≤ l.chip)
      let amp := if edge && halve then l.amp / 2 else l.amp
      let full := decide (s.lidPeriod n ≤ l.n + 1)
      (s.wr (rail n) RAIL.LID_STAT_AMP_USED amp).modRail n (fun h => { h with lid := { l with
        ovr := if trip then 0 else ovr, halve := halve && !edge, amp := amp, chip := if edge then 0 else l.chip + 1,
        reg := if edge then lfsrNext l.taps l.reg else l.reg, n := if full then 0 else l.n + 1,
        pers := if full then l.pers + 1 else l.pers, sum := if full then 0 else l.sum + e,
        prev := if full then l.sum + e else l.prev } })
  else s

/-- The runs active in the device (R91). -/
def State.lidRuns (s : State) : Nat := ((List.range 12).filter (fun n => s.bit (rail n) RAIL.STATUS_LID_RUN)).length

/-- Is the stored proposal valid for a LOOP_COMMIT (R99)? -/
def State.propFresh (s : State) (n id : Nat) : Bool :=
  let l := (s.railH n).lid
  let moved := if l.propV < s.target n then s.target n - l.propV else l.propV - s.target n
  s.bit (rail n) RAIL.STATUS_PROP_VALID && s.rd (rail n) RAIL.LID_STAT_PROP_ID == id && !l.stale && decide (moved ≤ 2560) &&
    decide (s.rd (rail n) RAIL.LID_AGE_SEC ≤ 600)

/-- The proposal goes into the bank not in use and is applied (R98). -/
def State.commitProp (s : State) (n : Nat) : State :=
  let o := rail n + bankOff (1 - s.bankNow n)
  let p := rail n + 0xBC
  let s1 := ((s.setW o (s.getW p)).setW (o + 4) (s.getW (p + 4))).setW (o + 8) (s.getW (p + 8))
  ((s1.coefWrite n true false).wr (rail n) RAIL.STATUS_PROP_VALID 0).wr (rail n) RAIL.LID_STAT_STATE 5

/-! Load steps (R113 to R115). -/

/-- The test for load steps of a sample; `high`: the phases that are high; `low`: phases that fell, with the ns since. A sample that
is a step both up and down fires as R115 says and releases as R114 says, of which neither speaks. (DESIGN CHOICE, log 86.) -/
def State.stepSample (s : State) (n : Nat) (e ePrev : Int) (high : List Nat) (low : List (Nat × Nat)) : State :=
  let b := sheaf n
  let h := s.sheafH n
  if s.outSt n ≠ 3 then s
  else if h.blank ≠ 0 then s.modSheaf n (fun g => { g with blank := h.blank - 1 })
  else
    let th := s.rd b PHX.SH_STEP_STEP_TH
    let ds := s.rd b PHX.SH_STEP_DSTEP
    let rl := s.rd b PHX.SH_STEP_REL_TH
    let up := (th != 0 && decide ((th : Int) ≤ e)) || (ds != 0 && decide ((ds : Int) ≤ e - ePrev))
    let dn := rl != 0 && decide (e ≤ -(rl : Int))
    if up || dn then
      let s1 := if up then
          let c := s.shCount n PHX.SH_CNT1_STEPS PHX.SH_CNT1_STEPS_SAT
          if c.bit b PHX.SH_CFG_ROT_EN then c.fireOut n (s.rd b PHX.SH_FIRE_FIRE_N + 1) high low else c
        else s
      let s2 := ((s1.lidAbort n 4).shedAbort n up 0).modSheaf n (fun g => { g with blank := s.rd b PHX.SH_STEP_STEP_HOLD })
      if dn then s2.each ((s2.ranked n).filter high.contains) fun p t => t.modPh p (fun g => { g with pwm := .low }) else s2
    else s

/-- The hint pre-bias of the next sample: a new class's value, or a fall to 0 by equal parts, rounded down (R116 to R119).
(DESIGN CHOICE, log 75.) -/
def State.pbSample (s : State) (n : Nat) : State :=
  s.modSheaf n (fun h => match h.pbNext with
    | some v => { h with pb := v, pbNext := none, pbLeft := 0 }
    | none =>
      if h.pbLeft ≤ 1 then { h with pbLeft := 0, pb := if h.pbLeft = 1 then 0 else h.pb }
      else { h with pbLeft := h.pbLeft - 1, pb := h.pbFrom * ((h.pbLeft - 1 : Nat) : Int) / (max 1 h.pbLen : Nat) })

/-- The pre-bias begins to fall over `n` samples (R117, R118). -/
def State.pbFall (s : State) (r n : Nat) : State :=
  s.modSheaf r (fun h => let v := h.pbNext.getD h.pb
    { h with pb := v, pbNext := none, pbFrom := v, pbLen := n, pbLeft := n })

/-! The sample (R65). -/

/-- The time constant of FF.TAU in units of 250 ns; 0 is no filter (R72). -/
def ffTau (code : Nat) : Nat :=
  match code with
  | 0 => 0
  | 1 => 4
  | 2 => 8
  | 3 => 20
  | 4 => 40
  | 5 => 80
  | 6 => 200
  | _ => 400

/-- One sample of VBUS through the single pole (R72), in 2^−16 of a step, rounded down. (DESIGN CHOICE, log 75.) -/
def ffPole (tau y x : Nat) : Nat :=
  if tau = 0 then x * 65536
  else ((y : Int) + ((x * 65536 : Nat) - (y : Int)) * (oneMinusExp 1 tau : Nat) / 2 ^ 60).toNat

/-- The feed-forward converter's samples of VBUS since the last sample of the rail, 250 ns apart (R72). -/
def State.ffSample (s : State) (n : Nat) (vins : List (BitVec 12)) : State :=
  let y := vins.foldl (fun a x => ffPole (ffTau (s.rd (rail n) RAIL.FF_TAU)) a x.toNat) (s.railH n).vf
  (s.modRail n (fun h => { h with vf := y })).wr (rail n) RAIL.VIN_FF_V (y / 65536)

/-- The duty of a voltage of `v14` × 2^−14 error LSB over a divisor of `vin` steps of 7.8125 mV, to the nearest unit, as in the
worked tuning, where 0.750 V over 14.0 V is 3511 (R74). (DEDUCED, log 82.) -/
def dutyOf (v14 : Int) (vin : Nat) : Int := roundDiv (v14 * 4) (50 * vin)

/-- One sample of a running rail: the output at `v` µV (R65). -/
def State.loopRun (s : State) (n : Nat) (v : Int) (high : List Nat) (low : List (Nat × Nat)) : State :=
  let b := rail n
  let s1 := ((s.swapNow n).waitSample n).refSample n
  let h := s1.railH n
  let ref : Int := s1.refNow n
  let e := clampI (-512) 511 (roundDiv (ref * 625 - v * 32) 5000)
  let c := compStep (s1.bank n (s1.bankNow n)) { h.loop with hiC := h.loop.hiC || h.cut || h.cap.isSome } e
  let dv := if s1.bit b RAIL.CTRL_FF_EN then s1.rd b RAIL.VIN_FF_V else s1.rd b RAIL.FF_VFF_NOM
  let under := decide (dv < 512)
  let v14 : Int := c.2.1 + s1.lidInj n * 16384 + ref * 2048
  let dmax := s1.rd b RAIL.DLIM_DMAX
  let top := match h.cap with | some k => min k dmax | none => dmax
  let d := (clampI 0 top (dutyOf v14 (max 512 dv))).toNat
  let atEnd := e == -512 || e == 511
  let run := if atEnd then min 16 (h.endRun + 1) else 0
  let s2 := s1.modRail n (fun g => { g with
    loop := { c.1 with hiC := d == dmax, loC := decide (v14 ≤ 0) }, endRun := run, endTold := g.endTold && atEnd, dMin := min g.dMin d })
  let s3 := ((((s2.wrI b RAIL.LOOP_MON_E_LAST e).wr b RAIL.LOOP_MON_D_LAST d).wrI b RAIL.INT_STATE_ACC (c.1.acc / 16384)).wrB b
    RAIL.STATUS_DUTY_CLAMP (d == dmax)).wrB b RAIL.STATUS_FF_CLAMP under
  let s4 := if c.2.2 then s3.err b 1 n none none else s3
  let s5 := if under && !s.bit b RAIL.STATUS_FF_CLAMP then s4.err b 2 n none none else s4
  let s6 := if d == dmax then s5.count0 b RAIL.SAT_CNT_COUNT RAIL.SAT_CNT_SAT n else s5
  let s7 := if atEnd then s6.count0 b RAIL.WIN_CNT_COUNT RAIL.WIN_CNT_SAT n else s6
  (((s7.lidSample n e).stepSample n e h.loop.ePrev high low).pbSample n).dutySet n

/-- One sample of a rail (R65, R72). An OV reaction takes a rail to OFF here (R146). -/
def State.railSample (s : State) (n : Nat) (v : Int) (vins : List (BitVec 12)) (high : List Nat) (low : List (Nat × Nat)) : State :=
  let s1 := s.ffSample n vins
  if (s.railH n).ovOff then s1.outOff n 3
  else if s.outSt n = 2 ∨ s.outSt n = 3 then s1.loopRun n v high low
  else s1

/-! Hiccup and latch-off of rails and bucks (R138 to R142, R208, R230). -/

/-- The hiccup registers of a rail or a buck. -/
structure HicRegs where
  b : Nat
  page : Nat
  n : Fld
  offT : Fld
  m : Fld
  sshort : Fld
  cls : Fld
  clr : Fld
  lcnt : Fld
  retry : Fld
  left : Fld
  eOc : Nat
  eHic : Nat
  eShort : Nat
  eLatch : Nat
  deriving DecidableEq, Repr

def hic (x : Nat) : HicRegs :=
  if x < 12 then
    { b := rail x, page := rail x, n := RAIL.HICCUP_N, offT := RAIL.HICCUP_OFF_T, m := RAIL.HICCUP_M, sshort := RAIL.HICCUP_SSHORT_EN,
      cls := RAIL.HICCUP_HIC_CLS, clr := RAIL.HICCUP_CLR, lcnt := RAIL.HIC_STAT_LCNT, retry := RAIL.HIC_STAT_RETRY, left := RAIL.HIC_STAT_OFF_LEFT,
      eOc := 8, eHic := 9, eShort := 10, eLatch := 11 }
  else
    { b := bk (x - 12), page := bkPage (x - 12), n := BUCK.BK_HICCUP_N, offT := BUCK.BK_HICCUP_OFF_T, m := BUCK.BK_HICCUP_M,
      sshort := BUCK.BK_HICCUP_SSHORT_EN, cls := BUCK.BK_HICCUP_HIC_CLS, clr := BUCK.BK_HICCUP_CLR, lcnt := BUCK.BK_STAT_LCNT, retry := BUCK.BK_STAT_RETRY,
      left := BUCK.BK_STAT_OFF_LEFT, eOc := 0, eHic := 1, eShort := 2, eLatch := 3 }

/-- The last cause of a rail or a buck (R157, R216). -/
def State.lastCause (s : State) (x c : Nat) : State :=
  if x < 12 then s.protLast x c else s.wr (bk (x - 12)) BUCK.BK_STAT_CAUSE c

/-- An entry to HICCUP, by limited periods or by a start short. -/
def State.enterHiccup (s : State) (x : Nat) (short : Bool) : State :=
  let r := hic x
  let cls := some (s.rd r.b r.cls)
  let s0 := if short then s.errQ r.page r.eShort x else s
  let s1 := s0.err r.page r.eHic x cls none
  if s.mode = mDRAINING then (s1.lastCause x (if short then 4 else 3)).outOff x 2
  else
    let full := s.rd r.b r.m != 0 && s.rd r.b r.retry == s.rd r.b r.m
    let s2 := if x < 12 then (s1.lidAbort x 7).wrB (rail x) RAIL.HIC_STAT_CAUSE short else s1
    if full then ((s2.lastCause x 5).outLatch x).err r.page r.eLatch x (some 2) none
    else ((((s2.outStop x 4).wr r.b r.left (orIf0 (s.rd r.b r.offT) 1)).wr r.b r.lcnt 0).lastCause x
      (if short then 4 else 3)).mark (.hic x)

/-- A period or cycle with a current limit (R136, R208), or without one. -/
def State.limited (s : State) (x : Nat) (lim : Bool) (unlim : Nat) : State :=
  let r := hic x
  if lim then
    let s1 := if 64 ≤ unlim then s.err r.page r.eOc x none none else s
    (s1.wr r.b r.lcnt (min (orIf0 (s.rd r.b r.n) 1) (s.rd r.b r.lcnt + 1))).mark (.retry x)
  else s.wr r.b r.lcnt 0

/-! The master period (R107, R110, R117, R121, R122, R135, R136). -/

/-- The total of the last period and its mean over 2^FILT periods, rounded down (R121). (DESIGN CHOICE, log 75.) Before so many have
passed since the start it is the mean of those that have. (DESIGN CHOICE, log 86.) -/
def State.totals (s : State) (r : Nat) : State :=
  let tot := sumI ((s.ranked r).map (fun p => s.rdI (ph p) PHX.PSTAT_I))
  let hist := (tot :: (s.sheafH r).hist).take (2 ^ s.rd (sheaf r) PHX.SH_SHED_FILT)
  let mean := sumI hist / (max 1 hist.length : Nat)
  ((s.wrI (sheaf r) PHX.SH_ITOT_INST (clampI (-32768) 32767 tot)).wrI (sheaf r) PHX.SH_ITOT_FILT (clampI (-32768) 32767 mean)).modSheaf r
    (fun h => { h with hist := hist })

/-- The total exceeds the limit of R135, which a derated sheaf scales by the slots it has left (R130); a limit of 0 is none. -/
def State.totOver (s : State) (r : Nat) : Bool :=
  let i := 10 * s.rd (rail r) RAIL.OCP_TOT_ITOT
  let derated := s.bit (sheaf r) PHX.SH_STAT_DERATED
  let left := if derated then (s.holders r).length else 1
  let all := if derated then (s.actives r).length else 1
  i != 0 && decide (((i * left : Nat) : Int) < s.rdI (sheaf r) PHX.SH_ITOT_INST * all)

/-- The end of a period: its limits counted, the cap of the next one (R135 to R137). The cap of R135 acts in the period
that runs under it, so that period is the limited one. (DEDUCED, log 47.) -/
def State.periodLimits (s : State) (r : Nat) : State :=
  let h := s.railH r
  let ovr := s.totOver r
  let lim := h.cut || h.cap.isSome
  let s1 := s.limited r lim h.unlim
  let s2 := if lim then (s1.lidAbort r 7).count0 (rail r) RAIL.OC_CNT_LIMITED RAIL.OC_CNT_LIM_SAT r else s1
  s2.modRail r (fun g => { g with
    cut := false, unlim := if lim then 0 else min 64 (h.unlim + 1), negFree := if h.negCut then 0 else min 64 (h.negFree + 1), negCut := false,
    cap := if ovr then some h.dMin else none, dMin := 65535 })

/-- The weights of a shed or add in its next cycle (R122). -/
def State.cycleStep (s : State) (r : Nat) : State :=
  let st := s.rd (sheaf r) PHX.SH_STAT_SST
  let c := (s.sheafH r).cyc + 1
  if (st = shSHEDDING ∨ st = shADDING) ∧ c ≤ 8 then
    let s1 := s.each (s.phasesOf r) fun p t =>
      if t.phState p = phDEPART then t.weigh p (8 - c) else if t.phState p = phJOIN then t.weigh p c else t
    (s1.wr (sheaf r) PHX.SH_STAT_CYCLE (c - 1)).modSheaf r (fun h => { h with cyc := c })
  else s

/-- The ADD threshold of a level in 0.1 A, as a filtered total passes it. -/
def State.overAdd (s : State) (r k : Nat) : Bool :=
  decide (k ≠ 0) && decide (((10 * s.lvlAdd r k : Nat) : Int) < s.rdI (sheaf r) PHX.SH_ITOT_FILT)

/-- The decisions of a period on the level (R121, R122, R124): aborts, an add, and the count of periods below DROP, which are
consecutive: a suspension ends it. While adding, the level being left is still LEVEL. -/
def State.levelStep (s : State) (r : Nat) : State :=
  let st := s.rd (sheaf r) PHX.SH_STAT_SST
  let k := s.rd (sheaf r) PHX.SH_STAT_LEVEL
  let s1 := s.wrB (sheaf r) PHX.SH_STAT_SUSP (s.shedSusp r)
  if s.shedSusp r then s1.modSheaf r (fun h => { h with dwell := 0 })
  else if (st = shSHEDDING ∨ st = shADDING) ∧ s.overAdd r k then s1.shedAbort r false 2
  else if st = shREDUCED ∧ s.overAdd r k then s1.addBegin r
  else
    let low := match s.nextLevel r with
      | some j => decide (s.rdI (sheaf r) PHX.SH_ITOT_FILT < ((10 * s.lvlDrop r j : Nat) : Int))
      | none => false
    s1.modSheaf r (fun h => { h with dwell := if low && !h.hold then h.dwell + 1 else 0 })

/-- A hint is confirmed where the total has changed by DI/2 in its direction (R117). -/
def State.hintCheck (s : State) (r : Nat) : State :=
  let h := s.sheafH r
  match h.win with
  | some w =>
    let d := s.rdI (sheaf r) PHX.SH_ITOT_INST - w.total
    let need : Int := 5 * s.rd (stepCls w.cls) PHX.CLS_B_DI
    if !w.conf && decide (if w.rising then need ≤ d else need ≤ -d) then
      let n := orIf0 (s.rd (stepCls w.cls) PHX.CLS_B_DECAY) 1
      ((s.shCount r PHX.SH_CNT2_HCONF PHX.SH_CNT2_HCONF_SAT).modSheaf r
        (fun g => { g with win := some { w with conf := true } })).pbFall r n
    else s
  | none => s

/-- The currents of a rail's phases from their samplers' codes of the period that ends, those at mid-level too (R103). -/
def State.imSample (s : State) (r : Nat) (imv : List (Fin 48 × Nat)) : State :=
  imv.foldl (fun t x => if t.phRail x.1 = r then t.wrI (ph x.1) PHX.PSTAT_I (t.phaseI x.1 x.2) else t) s

/-- The start of a master period of a rail; `imv`: the samplers' codes of the period that ends. -/
def State.period (s : State) (r : Nat) (imv : List (Fin 48 × Nat)) : State :=
  let s1 := s.imSample r imv
  if (s.outSt r ≠ 2 ∧ s.outSt r ≠ 3) ∨ (s.railH r).ovOff then s1
  else
    let s2 := ((((s1.totals r).periodLimits r).balance r imv).hintCheck r).levelStep r
    let s3 := ((s2.cycleStep r).comeBack r).respread r
    (s3.each (s3.ranked r) fun p t => t.modPh p (fun g => { g with pwm := .run, kept := false })).dutySet r

/-! Hints (R116 to R120). -/

/-- An unconfirmed hint is told: the record gives its class and its edge (R118). (DESIGN CHOICE, log 74.) -/
def State.hintUnconf (s : State) (r : Nat) (w : HintWin) : State :=
  (s.shCount r PHX.SH_CNT2_HUNCONF PHX.SH_CNT2_HUNCONF_SAT).post r (some 0)
    (some (Config.detailOf 1 (2 * w.cls + (if w.rising then 1 else 0))))

/-- A filtered edge of HINTr; what fires does so in the present period's set (R115, R116). -/
def State.hintEdge (s : State) (r : Nat) (rising : Bool) (high : List Nat) (low : List (Nat × Nat)) : State :=
  let s0 := s.wrB (pg 0x0D) (PHX.HINTLVL_LVL.at r) rising
  if s.bit (sheaf r) PHX.SH_CFG_HINT_EN && s.outSt r == 3 && s.bit (rail r) RAIL.STATUS_SS_DONE && !(s.railH r).ovOff then
    let s1 := match (s.sheafH r).win with
      | some w => if w.conf then s0 else s0.hintUnconf r w
      | none => s0
    let k := s.rd (sheaf r) (if rising then PHX.SH_HINT_RISE else PHX.SH_HINT_FALL)
    let n := if rising then min 4 (s.rd (stepCls k) PHX.CLS_A_PRE_N) else 0
    let s2 := if n = 0 then s1 else s1.fireOut r n high low
    let s3 := (s2.shedAbort r rising 1).lidAbort r 4
    ((s3.wr (sheaf r) PHX.SH_STAT_HINT_WIN 1).modSheaf r (fun h => { h with
      win := some ⟨k, rising, s.rdI (sheaf r) PHX.SH_ITOT_INST, false⟩, pbNext := some (s.rdI (stepCls k) PHX.CLS_A_PB),
      blank := s.rd (sheaf r) PHX.SH_STEP_STEP_HOLD })).mark (.hint r)
  else s0

/-- A hint window of WIN × 0.5 µs ends; an unconfirmed hint is undone (R116, R118). -/
def State.hintEnd (s : State) (r : Nat) : State :=
  match (s.sheafH r).win with
  | some w =>
    if s.ran (.hint r) (orIf0 (s.rd (stepCls w.cls) PHX.CLS_A_WIN) 1 / 2) then
      let s1 := (s.wr (sheaf r) PHX.SH_STAT_HINT_WIN 0).modSheaf r (fun h => { h with win := none })
      if w.conf then s1 else (s1.hintUnconf r w).pbFall r (s.rd (stepCls w.cls) PHX.CLS_B_UNDO + 1)
    else s
  | none => s

/-! Current limits of a phase (R134, R137, R165). -/

/-- A phase's IMON level in µV at a current of `ma` mA (R103, R134). -/
def State.imonAt (s : State) (p : Nat) (ma : Int) : Int :=
  ((5000 * s.rd (ph p) PHX.IMCFG_OFS : Nat) : Int) + ma * (orIf0 (s.rd (ph p) PHX.IMCFG_GAIN) 1 : Nat) / 20

/-- The peak comparator's threshold in µV: the level at IPK, at most 2.000 V (R134). -/
def State.peakUv (s : State) (p ipk : Nat) : Int := min 2000000 (s.imonAt p (500 * orIf0 ipk 1))

/-- The phase is high `ns` after the edge that began its on-time, or its pulse out of turn. -/
def State.highAt (s : State) (p ns tp : Nat) : Bool :=
  let h := s.phH p
  match h.pwm with
  | .run => decide (4 * ns ≤ h.on)
  | .pulse => decide (ns ≤ tp ∨ 4 * ns ≤ h.on)
  | _ => false

/-- The peak comparator of a point-of-load phase sees `uv` µV on IMON, `ns` after the edge (R134). -/
def State.peakTrip (s : State) (p uv ns : Nat) : State :=
  let r := s.phRail p
  if s.takesPart p ∧ r < 12 ∧ (s.outSt r = 2 ∨ s.outSt r = 3) ∧ 5 * s.rd (rail r) RAIL.OCP_LEB ≤ ns ∧
      s.highAt p ns (5 * s.rd (sheaf r) PHX.SH_FIRE_TPULSE) ∧ s.peakUv p (s.rd (rail r) RAIL.OCP_IPK) ≤ (uv : Int) then
    (((s.lidAbort r 7).modPh p (fun h => { h with pwm := .low, kept := true })).modRail r (fun h => { h with cut := true })).wr (rail r)
      RAIL.PROT_LAST_PHASE p
  else s

/-- A phase's current is `ma` mA in its low time: the limit of R137, which the OV reaction applies to every phase whatever NEG_EN
holds (R146), and which ends a run of identification (R94); in soft start the zero-cross rule (R82). -/
def State.negTrip (s : State) (p : Nat) (ma : Int) : State :=
  let r := s.phRail p
  let h := s.railH r
  let below := decide (ma < -((500 * orIf0 (s.rd (rail r) RAIL.NEGI_NEG) 1 : Nat) : Int))
  if !((s.takesPart p || h.ovOff) && decide (r < 12) && (s.phH p).pwm != .mid) then s
  else if (s.outSt r = 3 ∧ s.bit (rail r) RAIL.NEGI_NEG_EN = true ∨ h.ovOff = true) ∧ below = true then
    let s1 := ((s.lidAbort r 7).modPh p (fun g => { g with pwm := .mid, kept := true })).modRail r (fun g => { g with negCut := true })
    if 64 ≤ h.negFree ∧ !h.negCut then (s1.count0 (rail r) RAIL.OC_CNT_NEG RAIL.OC_CNT_NEG_SAT r).err (rail r) 12 r (some 0) none
    else s1
  else if s.outSt r = 2 ∧ s.bit (rail r) RAIL.CTRL_NEGI_SS = true ∧ ma < 250 * s.rdI (sheaf r) PHX.SH_CFG_ZC then
    s.modPh p (fun g => { g with pwm := .mid, kept := true })
  else s

end Sys2Proof.Machine
end

