-- ==== Sys2Proof/Machine/Regs.lean ====
section
/-! DEFINITION. The integrated regulators (R202 to R213), the enabling of any output (R84, R85, R207, R211, R213, R375), and
the window supervisors (R143 to R149, R156), as operations. -/

namespace Sys2Proof.Machine

open Sys2Proof

/-! Bucks. -/

/-- The peak limit of a buck in 0.1 A: the lower of IPK, inside its range, and CEIL (R208). -/
def State.buckIpk (s : State) (x : Nat) : Nat :=
  let b := bk (x - 12)
  min (clampN 10 45 (s.rd b BUCK.BK_ILIM_IPK)) (s.rd b BUCK.BK_ILIM_CEIL)

/-- The angle of a buck's leading edge in 1/1024 of the period (R205): n × 22.5°, a follower 180° from its leader. -/
def State.buckAngle (s : State) (x : Nat) : Nat :=
  if !s.bit (pg 0x20) BUCK.CLK_STAGGER then 0
  else if s.follows x then ((x - 13) * 64 + 512) % 1024
  else (x - 12) * 64

/-- The bucks' period in ps, spread by SSC with a triangle of 100 µs, by 200 or 400 parts of 10,000 (R205). Where the triangle begins
is not stated. (DESIGN CHOICE, log 50.) -/
def State.buckPer (s : State) : Nat :=
  let a : Int := match s.rd (pg 0x20) BUCK.CLK_SSC with | 0 => 0 | 1 => 200 | _ => 400
  let t : Int := (s.tick % 100 : Nat)
  let f := if t < 50 then a * (t - 25) / 25 else a * (75 - t) / 25
  (454545 * (10000 + f) / 10000).toNat

/-- The start of a half's cycle: its switch node, its limit, its place and its length. -/
def State.buckEdge (s : State) (x : Nat) (sw : Pwm) : State :=
  s.modBuck (x - 12) (fun h => { h with sw := sw, ipk := s.buckIpk (s.lead x), ang := s.buckAngle x, per := s.buckPer })

/-- Both halves of a pair, or the one buck. -/
def State.halves (s : State) (x : Nat) : List Nat := if s.follows (x + 1) then [x, x + 1] else [x]

/-- A buck's soft start to the target `vt` begins at sample `n0` of its clock (R207). A start beyond the half, `late`, makes no check
(R142). -/
def State.buckSoft (s : State) (x n0 vt : Nat) (late : Bool) : State :=
  let N := s.ssN x
  let s1 := ((s.setOutSt x 2).setRef x (profile false vt n0 N)).modBuck (x - 12) (fun h => { h with
    loop := Loop.reset, duty := none, tau := n0, vt := vt, ssLate := late, ssTold := false, rem := 0, unlim := 64,
    noSkip := 64, cut := false })
  s1.each (s.halves x) fun y t => t.buckEdge y .run

/-- The output read in PREBIAS, in µV (R207): steps of 39.0625 µV. The target is that of the enable: a later one is held (R78,
R204). -/
def State.buckPrebias (s : State) (x v : Nat) : State :=
  if s.outSt x = 1 then
    let vp := v * 16 / 625
    let vt := (s.buckH (x - 12)).vt
    if vp < vt then (s.buckSoft x (startAt false vt vp (s.ssN x)) vt (decide (625 * vt < 32 * v))).setRef x vp
    else ((s.buckSoft x 0 vt false).setRef x vp).ssDone x
  else s

/-- One sample of a buck's reference: soft start, or slew at SS.SLEW (R204, R207). -/
def State.buckRef (s : State) (x : Nat) : State :=
  let h := s.buckH (x - 12)
  if s.outSt x = 2 then
    let N := s.ssN x
    let s1 := (s.setRef x (max (profile false h.vt (h.tau + 1) N) (s.refNow x))).modBuck (x - 12) (fun g => { g with tau := h.tau + 1 })
    if N ≤ h.tau + 1 then s1.ssDone x else s1
  else
    let t := s.target x
    let r := s.refNow x
    if r = t then s
    else
      let code := h.ramp.getD (s.rd (bk (x - 12)) BUCK.BK_SS_SLEW)
      let m := moveRef r t h.rem (orIf0 code 1 * 16) 55
      let s1 := ((s.setRef x m.1).setSlewing x true).modBuck (x - 12) (fun g => { g with rem := m.2 })
      if m.1 = t then s1.slewDone x else s1

/-- An on-time of a duty, in 2^−16 of a period of `per` ps, is below 12 ns (R206). -/
def shortOn (per d : Nat) : Bool := decide (d * per < 786432000)

/-- The duty of a half of a buck from that of its loop: a follower's is trimmed (R210). -/
def State.halfDuty (s : State) (x d : Nat) : Nat := (clampI 0 65535 ((d : Int) + (s.buckH (x - 12)).trim)).toNat

/-- A half's next cycle (R206): its on-time skipped or not, its count of cycles without a skip, what it shows. -/
def State.halfCycle (s : State) (x : Nat) (d : Option Nat) : State :=
  let skip := d.any (fun d => shortOn s.buckPer (s.halfDuty x d))
  let h := s.buckH (x - 12)
  let free := if skip then 0 else min 64 (h.noSkip + 1)
  let s1 := if skip && decide (64 ≤ h.noSkip) then s.err (bkPage (x - 12)) 7 (s.lead x) none none else s
  ((s1.wrB (bk (x - 12)) BUCK.BK_STAT_SKIPPING (decide (free < 64))).modBuck (x - 12) (fun g => { g with noSkip := free })).buckEdge x
    (if skip then .low else .run)

/-- The trim of a follower after a cycle in which the halves carried `a` and `b` mA: a step towards agreement where they differ by
more than 5 % of the larger (R210). How much it moves is not stated. (DESIGN CHOICE, log 50.) -/
def pairTrim (t a b : Int) : Int :=
  if 20 * (a - b).natAbs ≤ max a.natAbs b.natAbs then t else if b < a then t + 1 else t - 1

/-- The cycle that ends at a sample: limited or not (R208); the next one skipped or not (R206). `a`, `b`: the currents of the halves
of a pair. -/
def State.buckCycle (s : State) (x : Nat) (a b : Int) : State :=
  let h := s.buckH (x - 12)
  let s1 := (s.limited x h.cut h.unlim).modBuck (x - 12) (fun g => { g with
    cut := false, unlim := if h.cut then 0 else min 64 (h.unlim + 1) })
  let s4 := s1.each (s.halves x) fun y t => t.halfCycle y h.duty
  if s.follows (x + 1) then s4.modBuck (x - 11) (fun g => { g with trim := pairTrim g.trim a b }) else s4

/-- The coefficients of a buck: those of its preset, for a pair those that make up for its gain (R202, R203). -/
def State.buckCoefs (s : State) (x : Nat) : Coef :=
  let k := s.rd (bk (x - 12)) BUCK.BK_CTRL_COMP + (if s.follows (x + 1) then 8 else 0)
  coefOf (Config.buckCoef k 0) (Config.buckCoef k 1) (Config.buckCoef k 2) 0

/-- VBUS as the divisor of a buck: the mean of its last 2 µs, at least 4.000 V (R202). What kind of filter it is is not stated.
(DESIGN CHOICE, log 50.) -/
def buckVin (l : List Nat) : Nat := max 4000 (l.foldl (· + ·) 0 / max 1 l.length)

/-- The loop of a buck, its output at `uv` µV and VBUS at `vin` mV (R202): its error in steps of 0.15625 mV, its duty. The duty
rounds to the nearest. (DESIGN CHOICE, log 75.) -/
def State.buckLoop (s : State) (x : Nat) (uv : Int) (vin : Nat) : State :=
  let h := s.buckH (x - 12)
  let ref : Int := s.refNow x
  let e := clampI (-512) 511 (roundDiv (ref * 625 - uv * 16) 2500)
  let c := compStep (s.buckCoefs x) { h.loop with hiC := h.loop.hiC || h.cut } e
  let v14 := c.2.1 + ref * 4096
  let vins := (vin :: h.vins).take 9
  let d := (clampI 0 65535 (roundDiv (v14 * 5) (8 * buckVin vins))).toNat
  s.modBuck (x - 12) (fun g => { g with
    loop := { c.1 with hiC := decide (d = 65535), loC := decide (v14 ≤ 0) }, vins := vins, duty := some d })

/-- What a half of a buck shows: its duty, with a follower's trim, and a current in mA (R210, R216). -/
def State.buckShow (s : State) (x d : Nat) (ma : Int) : State :=
  (s.wr (bk (x - 12)) BUCK.BK_MON_DUTY (s.halfDuty x d / 16)).wrI (bk (x - 12)) BUCK.BK_MON_IOUT (clampI (-2048) 2047 (ma / 4))

/-- A half is in its low-side interval at a sample: its cycle has no on-time or it is cut, or at the half of the cycle it is over. -/
def State.buckLow (s : State) (x : Nat) (first : Bool) : Bool :=
  let h := s.buckH (x - 12)
  h.sw == .low || (h.sw == .run && !first && decide (s.halfDuty x (((s.buckH (s.lead x - 12)).duty).getD 0) ≤ 32768))

/-- A half's current of `ma` mA in its low-side interval: below −NEG, or below zero before SS_DONE, the switch node goes to high
impedance for the rest of the cycle (R207, R208). -/
def State.buckNeg (s : State) (x : Nat) (ma : Int) (first : Bool) : State :=
  let l := s.lead x
  if !s.buckLow x first then s else
  let neg : Int := (100 * orIf0 (s.rd (bk (l - 12)) BUCK.BK_ILIM_NEG) 1 : Nat)
  if ma < -neg ∨ (s.outSt l = 2 ∧ ma < 0) then s.modBuck (x - 12) (fun h => { h with sw := .mid }) else s

/-- The OV reaction goes on after OFF: the low side stays on until the current reaches −NEG (R209). -/
def State.buckSink (s : State) (x : Nat) (ma : Int) : State :=
  let neg : Int := (100 * orIf0 (s.rd (bk (s.lead x - 12)) BUCK.BK_ILIM_NEG) 1 : Nat)
  if (s.buckH (x - 12)).sw = .low ∧ ma ≤ -neg then s.modBuck (x - 12) (fun h => { h with sw := .mid }) else s

/-- One sample of a buck (R202): its output at `uv` µV, VBUS at `vin` mV, the currents of the buck and of its follower in mA;
`first`: a cycle begins here. (DESIGN CHOICE, log 50.) -/
def State.buckSample (s : State) (x : Nat) (uv : Int) (vin : Nat) (a b : Int) (first : Bool) : State :=
  if s.outSt x ≠ 2 ∧ s.outSt x ≠ 3 then
    ((s.modBuck (x - 12) (fun h => { h with vins := (vin :: h.vins).take 9 })).buckSink x a).iff (s.follows (x + 1)) fun t =>
      t.buckSink (x + 1) b
  else
    let s1 := if first then s.buckCycle x a b else s
    let s2 := ((s1.waitSample x).buckRef x).buckLoop x uv vin
    let d := ((s2.buckH (x - 12)).duty).getD 0
    if s2.follows (x + 1) then (((s2.buckShow x d (a + b)).buckShow (x + 1) d b).buckNeg x a first).buckNeg (x + 1) b first
    else (s2.buckShow x d a).buckNeg x a first

/-- PAR of a pair written (R210). `k`: the pair. A new follower's PG and BELOW are its leader's, and its pull-down acts as its
leader's does (R214). (DESIGN CHOICE, log 50.) -/
def State.setPar (s : State) (k : Nat) (b : Bool) : State :=
  let x := 12 + 2 * k
  let off := s.outSt x = 0 ∧ (s.outSt (x + 1) = 0 ∨ s.outSt (x + 1) = 6)
  if off then
    let s1 := (s.wrB (bk (2 * k)) BUCK.BK_CTRL_PAR b).setOutSt (x + 1) (if b then 6 else 0)
    let s2 := s1.modOut (x + 1) (fun h => { h with dis := b && (s.outH x).dis })
    if b then ((s2.setSupv 0x280 (x + 1) (s.supv 0x280 x)).setSupv 0x298 (x + 1) (s.supv 0x298 x)).allPg else s2
  else s.err (bkPage (2 * k)) 5 x none none

/-! Enabling. -/

/-- A switch's output is at its input, as both were seen since it last opened (R213). -/
def State.atInput (s : State) (x : Nat) : Bool := let h := s.outH x; decide (0 < h.vin ∧ h.vin ≤ h.uv)

/-- EN of an output set, by the host, the bale or the sequencer (R85). Before RISING the device provides LDO0 only, and any other is
refused (R40). A group that is held ignores it (R375). (DEDUCED, log 85.) -/
def State.enable (s : State) (x : Nat) (imon : List (Fin 56 × Nat)) : State :=
  if x ≠ 28 ∧ s.mode < mRISING then s
  else if s.held x then s.errQ fltB 2 0
  else (match outKind x with
  | .rail => s.railEnable x imon
  | .buck =>
    let s1 := s.setEn x true
    if s.follows x then s1
    else if s.outSt x = 0 then ((s1.undischarge x).setOutSt x 1).modBuck (x - 12) (fun h => { h with vt := s1.target x, sw := .mid }) else s1
  | .ldo =>
    let s1 := s.setEn x true
    if s.outSt x = 0 then
      let s2 := ((s1.undischarge x).setOutSt x 1).mark (.rise x)
      if x = 28 then s2.wr (ldo 0) LDO.LDO_STAT_KA 1 else s2
    else s1
  | .ls =>
    let s1 := s.setEn x true
    if s.outSt x = 0 then (if s.atInput x then (s1.undischarge x).ssDone x else (s1.undischarge x).setOutSt x 1) else s1).allPg

/-- EN of an output cleared. -/
def State.disable (s : State) (x : Nat) : State :=
  if s.follows x then s.setEn x false
  else if s.outSt x = 0 then s.setEn x false
  else s.outOff x 0

/-- A switch that blocks closes again under SLEW (R213). -/
def State.lsClose (s : State) (k : Nat) : State :=
  if s.bit (ls k) LDO.LS_STAT_REV_BLOCK then (s.wr (ls k) LDO.LS_STAT_REV_BLOCK 0).setOutSt (38 + k) 1 else s

/-! Targets written (R76, R204, R211). -/

/-- A VSET write: the nearer limit is stored, a changed value is told. -/
def State.setVset (s : State) (x code : Nat) : State :=
  match outKind x with
  | .rail =>
    let c := clampN (s.vmin x) (max (s.vmin x) (s.vmax x)) code
    let s1 := (s.wr (rail x) RAIL.VSET_CODE c).retarget x
    if c ≠ code then s1.err (rail x) 4 x none none else s1
  | .buck =>
    let c := clampN (s.vmin x) (max (s.vmin x) (s.vmax x)) code
    let s1 := (s.wr (bk (x - 12)) BUCK.BK_VSET_CODE c).retarget x
    if c ≠ code then s1.err (bkPage (x - 12)) 6 x none none else s1
  | .ldo =>
    let c := min (s.vmax x) code
    let s1 := (s.wr (ldo (x - 28)) LDO.LDO_VSET_CODE c).retarget x
    if c ≠ code then s1.err ldoB 5 x none none else s1
  | .ls => s

/-- SET_V and RAMP (R79, R204). An argument bit that R334 does not name must be 0; what the command does otherwise is not stated, and
it fails with a cause that is not given. (DESIGN CHOICE, log 14.) `slew` is the slew code of a RAMP, which acts where the output moves or will move. A target that
is reached already completes the command. -/
def State.moveTo (s : State) (k : Cmd) (slew : Option Nat) : State :=
  let x := getBits k.a0 0 6
  if 38 ≤ x then s.failK k 2
  else if k.a0.toNat / 64 ≠ 0 ∨ k.a1.toNat / 0x1000 ≠ 0 ∨ (match slew with | some _ => k.a2.toNat / 256 | none => k.a2.toNat) ≠ 0 then s.failFree k
  else
    let s0 := s.endMoves x stSUPERSEDED 0
    let s1 := (s0.runK k).setVset x (getBits k.a1 0 12)
    let st := s.outSt x
    let idle := match outKind x with
      | .rail => st == 0 || st == 4 || st == 5
      | .buck => st == 0 || st == 4 || st == 5 || st == 6
      | _ => true
    if idle then s1.endMoves x stDONE 0
    else if s1.regulates x && s1.refNow x == s1.target x then s1
    else match outKind x with
      | .rail => s1.modRail x (fun h => { h with ramp := slew })
      | .buck => s1.modBuck (x - 12) (fun h => { h with ramp := slew })
      | _ => s1

/-! The supervisors. -/

def offPG : Nat := 0x280
def offOVF : Nat := 0x288
def offUVF : Nat := 0x290
def offBELOW : Nat := 0x298

/-- The reference of an output's window in 1/32 µV, at the lower and the higher end of a slew (R143, R144). `vin`: the voltage of
a switch's input group in µV. -/
def State.vref (s : State) (x vin : Nat) : Nat × Nat :=
  let h := s.outH x
  let t := s.target x
  let lo := if h.slew then min t h.lo else t
  let hi := if h.slew then max t h.hi else t
  match outKind x with
  | .rail => (lo * 625, hi * 625)
  | .buck => (lo * 1250, hi * 1250)
  | .ldo => (t * 160000, t * 160000)
  | .ls => (vin * 32, vin * 32)

/-- OV_ABS, Vov, Vuv and the hysteresis in 1/12800 µV (R144). -/
def State.ovAbs (s : State) (x : Nat) : Nat := s.rd (out x) SUPV.OUT_WIN_OV_ABS * 128000000
def State.vov (s : State) (x vin : Nat) : Nat := min ((s.vref x vin).2 * (400 + orIf0 (s.rd (out x) SUPV.OUT_WIN_OV) 1)) (s.ovAbs x)
def State.vuv (s : State) (x vin : Nat) : Nat := (s.vref x vin).1 * (400 - s.rd (out x) SUPV.OUT_WIN_UV)
def State.vhys (s : State) (x vin : Nat) : Nat := (s.vref x vin).2 * 2 ^ s.rd (out x) SUPV.OUT_WIN_HYS

/-- The output was forced into its safe state in the present tick, whose trips are still heard (R155). -/
def State.forcedNow (s : State) (k : Tmr) : Bool := s.began k == some s.tick

/-- The voltages of an output and of its input as last seen. -/
def State.see (s : State) (x uv vin : Nat) : State := s.modOut x (fun h => { h with uv := uv, vin := vin })

/-- What an OV trip shows and raises (R146, R209). The rule states the raise, so the ERR bits add none. -/
def State.ovTell (s : State) (x : Nat) : State :=
  ((s.setSupv offOVF x true).setPg x false).err supvB 0 x (some (clampN 1 4 (s.rd (out x) SUPV.OUT_CFG_CLS_OV))) none

/-- The OV reaction of a rail (R146), in whatever state it is: every phase of its sheaf that is not removed goes low with EN cleared,
and it goes to OFF at its next sample. Its period does not count as limited, and no start-short check follows (R155). -/
def State.railOv (s : State) (x : Nat) : State :=
  let s1 := s.protLast x 1
  if s.outSt x = 0 then s1.outOff x 3
  else
    (((s1.lidAbort x 7).each ((s1.phasesOf x).filter (fun p => !s1.removed p)) fun p t => t.modPh p (fun h => { h with pwm := .low, kept := true })).modRail x
      (fun h => { h with ovOff := true, cut := false, ssTold := true })).setEn x false

/-- An OV trip (R145, R146, R209). -/
def State.ovTrip (s : State) (x : Nat) : State :=
  let s1 := s.ovTell x
  if s.outEn x then
    match outKind x with
    | .rail => (s1.railOv x).anyShow
    | .buck =>
      let hs := s1.halves x
      let s2 := (((s1.wr (bk (x - 12)) BUCK.BK_STAT_CAUSE 1)).outOff x 3).errQ (bkPage (x - 12)) 4 x
      (s2.each hs fun y t => t.modBuck (y - 12) (fun h => { h with sw := .low })).anyShow
    | _ => ((s1.outOff x 3).errQ ldoB 1 x).anyShow
  else (if outKind x = .rail ∧ s.rd (out x) SUPV.OUT_OFF_DIS_PIN < 16 then s1.discharge x else s1).anyShow

/-- The OV comparator of an output is watched: enabled, or off with OV_OFF (R145). -/
def State.ovWatched (s : State) (x : Nat) : Bool :=
  !s.follows x && (s.outEn x || s.forcedNow (.forced x) || s.bit (out x) SUPV.OUT_CFG_OV_OFF)

/-- The level of the OV comparator: OV_ABS alone while the output is off with OV_OFF (R144, R145). -/
def State.ovTop (s : State) (x vin : Nat) : Nat :=
  if (s.outEn x || s.forcedNow (.forced x)) || !s.bit (out x) SUPV.OUT_CFG_OV_OFF then s.vov x vin else s.ovAbs x

/-- The comparators of an output at `uv` µV: each shows from its threshold on and clears by HYS (R144, R158), the OV comparator of
an output that is off as well, and the UV comparator while armed. (DEDUCED, log 48.) -/
def State.comps (s : State) (x uv vin : Nat) : State :=
  let v := uv * 12800
  let ov := (s.ovWatched x && decide (s.ovTop x vin < v)) || ((s.outH x).ovNow && decide (s.ovTop x vin < v + s.vhys x vin))
  let un := (s.uvArmed x || s.forcedNow (.armed x)) &&
    (decide (v < s.vuv x vin) || ((s.outH x).uvNow && decide (v < s.vuv x vin + s.vhys x vin)))
  (s.modOut x (fun h => { h with ovNow := ov, uvNow := un })).anyShow

/-- The OV comparator of an output sees `uv` µV for `ns` (R144, R145): above its level for OVF it trips. -/
def State.ovSense (s : State) (x uv vin ns : Nat) : State :=
  let s1 := s.comps x uv vin
  if s.ovWatched x && decide (s.ovTop x vin < uv * 12800) && decide (25 * s.rd (out x) SUPV.OUT_CFG_OVF ≤ ns) then s1.ovTrip x else s1

/-- A UV trip (R147); it is a protection event of a rail (R94). -/
def State.uvTrip (s : State) (x : Nat) : State :=
  let s1 := ((s.setSupv offUVF x true).setPg x false).err supvB 1 x (some (min 3 (s.rd (out x) SUPV.OUT_CFG_CLS_UV))) none
  let s2 := if x < 12 then (s1.protLast x 2).lidAbort x 7 else s1
  s2

/-- The UV comparator of an armed output sees `uv` µV for `us` (R144, R145): below its level for UVF it trips. -/
def State.uvSense (s : State) (x uv vin us : Nat) : State :=
  let s1 := s.comps x uv vin
  if (s.uvArmed x || s.forcedNow (.armed x)) && decide (uv * 12800 < s.vuv x vin) && decide (orIf0 (s.rd (out x) SUPV.OUT_CFG_UVF) 1 ≤ us) then
    s1.uvTrip x
  else s1

/-- Inside the window: neither comparator shows; with UV 0, its upper end alone (R144, R148). -/
def State.inWindow (s : State) (x : Nat) : Bool := !(s.outH x).ovNow && !(s.outH x).uvNow

/-- Power-good: inside the window at `uv` µV, for `us` so far and since the soft start (R148). -/
def State.powerGood (s : State) (x uv vin us : Nat) : State :=
  let d := 10 * s.rd (out x) SUPV.OUT_CFG_PGD
  let s1 := s.comps x uv vin
  if s.regulates x && !s.follows x && s1.inWindow x && decide (d ≤ us) && s.ran (.ssAt x) d then s1.setPg x true else s1

/-- The output stands at `uv` µV against its OFF threshold (R149). -/
def State.belowCross (s : State) (x uv : Nat) : State :=
  let below := decide (uv < 10000 * s.rd (out x) SUPV.OUT_OFF_OFF_TH)
  if s.follows x then s
  else
    let s1 := (s.setPair offBELOW x below).modOut x (fun h => { h with uv := uv })
    if !below then s1.unmark (.below x)
    else if s.supv offBELOW x then s1 else s1.mark (.below x)

/-- Below OFF_TH for 1 ms: discharge is released (R153). (DEDUCED, log 51.) -/
def State.disRelease (s : State) (x : Nat) : State :=
  if s.supv offBELOW x && s.ran (.below x) 1000 then s.undischarge x else s

/-- DIS_FORCE set (R153, R229); a follower's OUTx registers have no effect (R210). (DEDUCED, log 51.) -/
def State.disForce (s : State) (x : Nat) : State :=
  let s1 := s.wr (out x) SUPV.OUT_OFF_DIS_FORCE 1
  if s.follows x then s1 else s1.discharge x

/-- The pin that an output's discharge drives is high while any discharge names it (R509). -/
def State.pinDischarges (s : State) (p : Nat) : Bool :=
  (List.range 12).any (fun x => s.rd (out x) SUPV.OUT_OFF_DIS_PIN == p && (s.outH x).dis)

/-- Driven, and at which level, by its function (R509). -/
def State.pinByFunc (s : State) (p : Nat) : Bool × Bool :=
  let f := s.rd (pin p) GPIO.PIN_CFG_FUNC
  let d : Bool × Bool :=
    if f = 1 then (true, (s.rd gpioB GPIO.OUT_LVL).testBit p)
    else if f = 2 then (decide (mHOLD ≤ s.mode), s.pinSeq.testBit p)
    else if f = 3 then (true, s.pinDischarges p)
    else if f = 4 then (true, !(s.bit thmB THM.STATUS_THROTTLE && s.rd thmB THM.CFG_THR_PIN == p))
    else (false, false)
  if s.bit (pin p) GPIO.PIN_CFG_OD && d.2 then (false, false) else d

/-- Driven, and at which level: the forced states of SAFE and LOCKOUT (R510), and no pin without VIO (R516) or in PARKED. -/
def State.pinDrive (s : State) (p : Nat) : Bool × Bool :=
  let z := s.rd (pin p) GPIO.PIN_CFG_SAFE
  if s.vioOut || !s.up then (false, false)
  else if mSAFE ≤ s.mode ∧ s.rd (pin p) GPIO.PIN_CFG_FUNC ≠ 3 then
    if z = 0 then (s.pinKeep.toNat.testBit p, s.pinKeep.toNat.testBit (16 + p))
    else if z = 1 then (true, false)
    else if z = 2 then (!s.bit (pin p) GPIO.PIN_CFG_OD, !s.bit (pin p) GPIO.PIN_CFG_OD)
    else (false, false)
  else s.pinByFunc p

/-- GPIO.DRV. (DEDUCED, log 30.) -/
def State.drvWord (s : State) : Word :=
  BitVec.ofNat 32 ((List.range 16).foldl (fun a p => let d := s.pinDrive p
    a + (if d.1 then 2 ^ p else 0) + (if d.1 && d.2 then 2 ^ (16 + p) else 0)) 0)

end Sys2Proof.Machine
end

