-- ==== Sys2Proof/Machine/Flail.lean ====
section
/-! DEFINITION. The Flail line's roles, holds, violations and alarms (R243 to R259), as operations. -/

namespace Sys2Proof.Machine

open Sys2Proof

abbrev rSILENT : Nat := 0
abbrev rFOLLOWER : Nat := 1
abbrev rELECTING : Nat := 2
abbrev rMASTER : Nat := 3

def State.role (s : State) : Nat := s.rd flailB FLAIL.STATUS_ROLE
def State.setRole (s : State) (r : Nat) : State := s.wr flailB FLAIL.STATUS_ROLE r
def State.modFlail (s : State) (f : FlailHid → FlailHid) : State := { s with flail := f s.flail }
def State.flailSt (s : State) : Nat := s.rd flailB FLAIL.STATE_STATE
/-- The node belongs to a Flail system (R219). -/
def State.joins (s : State) : Bool := s.bit flailB FLAIL.CFG_JOIN
/-- A bale is loaded: a SILENT node decodes the line as well (R245). -/
def State.listens (s : State) : Bool := decide (6 ≤ s.boot) && s.up

/-! Widths and times. -/

abbrev plSTROBE : Nat := 1
abbrev plFRAME : Nat := 2
abbrev plELECT : Nat := 3
abbrev plALARM : Nat := 4
abbrev plWAKE : Nat := 5
abbrev plILLEGAL : Nat := 6

/-- The class of a low of `ns` nanoseconds outside a frame and a hold window (R243); 0: ignored. -/
def pulseOf (ns : Nat) : Nat :=
  if ns < 200 then 0
  else if 1500 ≤ ns ∧ ns ≤ 3000 then plSTROBE
  else if 5000 ≤ ns ∧ ns ≤ 7000 then plFRAME
  else if 9000 ≤ ns ∧ ns ≤ 15000 then plELECT
  else if 20000 ≤ ns ∧ ns ≤ 40000 then plALARM
  else if 50000 ≤ ns then plWAKE
  else plILLEGAL

def State.hops (s : State) : Nat := min 6 (s.rd flailB FLAIL.TIMING_HOPS)

/-- The time from a start pulse to the first slot, and to the master's sample of a step (R244, R248). -/
def State.lineSC (s : State) : Nat := 8 + 2 * s.hops

/-- A line on which a reserved TYPE was met is treated as busy, for a low that began `us` ago, until it has been high for 50 µs
before it (R244, R258). The lows that count are those that rows tell of. (DEDUCED, log 63.) -/
def State.shutFor (s : State) (us : Nat) : Bool :=
  match s.began .shut with | some t => decide (s.tick < t + 50 + us) | none => false

/-- A low that began `us` ago began in a hold window (R248). -/
def State.inHold (s : State) (us : Nat) : Bool :=
  match s.began .strobe with | some t => decide (t + 3 + us ≤ s.tick ∧ s.tick < t + s.lineSC + us) | none => false

/-- A frame of this node, or its WAKE, is on the line. -/
def State.inFrame (s : State) : Bool := s.flail.frame == 2 || s.flail.frame == 3 || s.flail.frame == 4 || s.flail.frame == 6

/-- A low of `ns` that has just risen is classified by its width (R243): outside a hold window and on a line not treated as busy. -/
def State.classes (s : State) (ns : Nat) : Bool := s.listens && !s.inHold (ns / 1000) && !s.shutFor (ns / 1000)

/-- A low that ends now keeps a busy line busy, or, after 50 µs of high, finds it free (R244). -/
def State.lineLow (s : State) (us : Nat) : State :=
  if (s.began .shut).isNone then s else if s.shutFor us then s.mark .shut else s.unmark .shut

def frType (h : FlStart) : Nat := h.hdr.toNat / 16
def frParam (h : FlStart) : Nat := h.hdr.toNat % 16

/-- A frame is decoded (R243, R244): its start has the width of a FRAME start, on a line not treated as busy. -/
def State.decodes (s : State) (h : FlStart) : Bool :=
  s.listens && pulseOf h.ns == plFRAME && ((s.began .shut).isNone || decide (50 ≤ h.gap))

/-- An ANNOUNCE (1), DIGEST (2) or IDENT (3) frame is decoded; this node sends one only 20 µs after the line rose (R244). -/
def State.frameIs (s : State) (h : FlStart) (k : Nat) (own : Bool) : Bool :=
  s.decodes h && frType h == k && (!own || decide (20 ≤ h.gap))

/-- The slot (R244) and the shortest step (R248). -/
def State.slotT (s : State) : Nat := max (s.rd flailB FLAIL.TIMING_TS) s.lineSC
def State.stepT (s : State) : Nat := max (s.rd flailB FLAIL.TIMING_STEP_T) (10 + 2 * s.hops)

/-- The announcement period (R250) and the longest hold (R249), in µs. -/
def State.annT (s : State) : Nat := 10000 * clampN 1 100 (s.rd flailB FLAIL.ANN_PER)
def State.holdMax (s : State) : Nat := 1000 * clampN 1 10000 (s.rd flailB FLAIL.ANN_HOLD_MAX)

/-- A time of the line that began at all has lasted `us`. -/
def State.past (s : State) (k : Tmr) (us : Nat) : Bool :=
  match s.began k with | some t => decide (t + us ≤ s.tick) | none => true

/-- The frame in progress has had its header and `n` more slots (R244), after the gap to the frame before (R251). -/
def State.slotsOver (s : State) (n : Nat) : Bool :=
  let d := s.lineSC + (8 + n) * s.slotT
  s.ran .frame d && s.past .frEnd (20 + d)

/-- `ago` microseconds before now, the last strobe was the shortest step away, the last step had ended 2 µs before (R248), and this
node's last frame 20 µs before (R251). -/
def State.mayStrobe (s : State) (ago : Nat) : Bool :=
  s.past .strobe (s.stepT + ago) && s.past .stepEnd (2 + ago) && s.past .frEnd (20 + ago)

/-- A saturating count of the page (R259). -/
def State.flCount (s : State) (f sat : Fld) : State := s.count flailB f sat flailB 12 110

/-- A violation (R258). -/
def State.viol (s : State) (i cls : Nat) : State :=
  (s.flCount FLAIL.VIOL_COUNT FLAIL.VIOL_SAT).err flailB i 110 (some cls) none

/-- What the node has in progress on the line; STATUS.BUSY shows its frames and steps. -/
def State.setFrame (s : State) (k : Nat) : State :=
  ((s.modFlail (fun h => { h with frame := k, colls := 0 })).wrB flailB FLAIL.STATUS_BUSY (decide (2 ≤ k ∧ k ≤ 5))).mark .frame

/-- A hold is released (R249). -/
def State.unhold (s : State) : State := s.wr flailB FLAIL.STATUS_HOLDING 0

/-- FLAIL_READY for state `x` executes (R249): a hold for it ends, and readiness is armed where STATE is not `x`. -/
def State.ready (s : State) (x : Nat) : State :=
  let s1 := if s.bit flailB FLAIL.STATUS_HOLDING ∧ s.flail.held = x then s.unhold else s
  if s.flailSt = x then s1 else s1.modFlail (fun h => { h with armed := x :: h.armed })

/-- A master operation that waits is dropped with the role. -/
def State.dropOps (s : State) : State := s.modFlail (fun h => { h with mq := [], stop := false })

/-- The node takes part (R245). -/
def State.takes (s : State) : Bool := participates s.mode

abbrev opDigest : Nat := 0x08

/-- A round of this node is on the line, or waits to begin again, or waits for FE0. -/
def State.inRound (s : State) : Bool := s.flail.frame == 3 || s.flail.frame == 4 || s.flail.again != 0 || s.flail.fin != 0

/-- DGRES of a frame that was abandoned (R254). FIRST and NDIFF keep what they held. (DESIGN CHOICE, log 79.) -/
def State.digestLost (s : State) (g : Nat) : State := (s.wr flailB FLAIL.DGRES_RESULT 5).wr flailB FLAIL.DGRES_GROUP g

/-- A DIGEST or IDENT frame that began with `h` is abandoned (R254, R256). -/
def State.frameLost (s : State) (h : FlStart) : State :=
  if frType h = 2 ∨ frType h = 3 then s.digestLost (frParam h) else s

/-- DIGEST_ROUND fails with ABORTED (R254, R256). -/
def State.roundAbort (s : State) : State :=
  let s1 := if s.inRound then s.digestLost s.flail.grp else s
  (s1.endRunning opDigest stFAILED 5 (fun _ => true)).modFlail (fun h => { h with restarts := 0, again := 0, fin := 0 })

/-- The role where the mode or JOIN has changed (R245): a participating mode entered with JOIN set, or all of them left, or JOIN cleared. -/
def State.roleWatch (s : State) : State :=
  let came := s.flail.entered
  let s0 := s.iff came fun t => t.modFlail fun h => { h with entered := false }
  if s0.role = rSILENT then
    (if came && s0.takes && s0.joins then ((s0.setRole rFOLLOWER).modFlail fun h => { h with lost := false }).mark .lost else s0)
  else if s0.takes && s0.joins then s0
  else (((((s0.setRole rSILENT).unhold).roundAbort).dropOps).setFrame 0).wr flailB FLAIL.MSTAT_AUTO 0

/-- A master sees an operation it did not send (R245). Its lost timer runs from here. (DEDUCED, log 63.) -/
def State.dethrone (s : State) : State :=
  if s.role = rMASTER then
    ((((s.setRole rFOLLOWER).roundAbort.dropOps.setFrame 0).wr flailB FLAIL.MSTAT_AUTO 0).mark .lost).err flailB 9 110 (some 1) none
  else s

/-- An alarm is to be sent (R252): by the host and a failed run where the node is not SILENT, at an entry to SAFE always.
(DEDUCED, log 63.) -/
def State.alarmAsk (s : State) (always : Bool) : State :=
  if always || s.role != rSILENT then s.modFlail (fun h => { h with alarmReq := true }) else s

/-- This node's alarm, `ns` wide as it came back, goes out (R252): counted, and to be repeated where it was not seen as an ALARM. It is
held off in a hold window, and while this node's own step or hold is on the line. (DEDUCED, log 63.) -/
def State.alarmSend (s : State) (ns : Nat) : State :=
  if s.flail.alarmReq ∧ s.flail.frame ≠ 5 ∧ !s.bit flailB FLAIL.STATUS_HOLDING ∧ !s.inHold (ns / 1000) then
    (s.flCount FLAIL.CNT2_TX FLAIL.CNT2_TX_SAT).modFlail (fun h => { h with alarmReq := false, alarmPend := pulseOf ns != plALARM })
  else s

/-- The digest as one number (R254). -/
def State.digest (s : State) : Nat := s.rd flailB FLAIL.DGOWN_LO_OWN + 2 ^ 32 * s.rd flailB FLAIL.DGOWN_HI_OWN

end Sys2Proof.Machine
end

