-- ==== Sys2Proof/Machine/Snap.lean ====
section
/-! DEFINITION. Snapshots (R269 to R272): the record's words and the two capture buffers. -/

namespace Sys2Proof.Machine

open Sys2Proof

/-- The latest sample of a telemetry channel (R276). -/
def chanIn : List (Nat × Nat) → Nat → Nat
  | [], _ => 0
  | (c, v) :: t, n => if c = n then v else chanIn t n

def State.chanVal (s : State) (n : Nat) : Nat := chanIn s.chan n

/-- A new sample of a channel, in the list's rising order. -/
def putChan : List (Nat × Nat) → Nat → Nat → List (Nat × Nat)
  | [], n, v => [(n, v)]
  | (c, w) :: t, n, v => if n < c then (n, v) :: (c, w) :: t else if n = c then (n, v) :: t else (c, w) :: putChan t n v

def State.setChan (s : State) (n v : Nat) : State := { s with chan := putChan s.chan n v }

/-- Two 16-bit numbers as a word. -/
def pair16 (lo hi : Nat) : Word := BitVec.ofNat 32 (lo % 0x10000 + hi % 0x10000 * 0x10000)

/-- A list of 16-bit numbers, two to a word. -/
def pack16 (n : Nat) (f : Nat → Nat) : List Word := (List.range n).map (fun i => pair16 (f (2 * i)) (f (2 * i + 1)))

/-- `n` registers, each at `f i`. -/
def State.words (s : State) (n : Nat) (f : Nat → Nat) : List Word := (List.range n).map (fun i => s.getW (f i))

/-- TIME's low word: nanoseconds, and its high word: seconds (R380). -/
def State.timeLo (s : State) : Word := BitVec.ofNat 32 s.timeNs
def State.timeHi (s : State) : Word := BitVec.ofNat 32 s.timeSec

/-- The 255 words of a record before its CRC (R272). `trig`: 1 fault, 2 sequence, 3 host. (DEDUCED, log 52.) -/
def State.snapWords (s : State) (trig seq ev cls tag ctx : Nat) : List Word :=
  [BitVec.ofNat 32 (0x5A9C + 0x10000 + trig * 0x1000000), BitVec.ofNat 32 seq, s.timeLo, s.timeHi,
    BitVec.ofNat 32 (ev + cls * 0x100 + s.mode * 0x1000 + s.rd devB DEV.MODE_PREV * 0x10000),
    BitVec.ofNat 32 (tag + ctx * 0x10000)] ++
  s.words 5 (fun i => fltB + 0x60 + 4 * i) ++
  [s.getW (devB + 8), s.getW (devB + 0x9C), s.getW (seqB + 8), s.getW (seqB + 0x54), s.getW (flailB + 0x50)] ++
  pack16 96 s.chanVal ++
  s.words 12 (fun n => rail n + 8) ++ s.words 12 (fun n => rail n + 0x88) ++ s.words 16 (fun n => bk n + 0x18) ++
  s.words 10 (fun j => ldo j + 0xC) ++ s.words 8 (fun k => ls k + 8) ++ s.words 6 (fun i => supvB + 0x280 + 4 * i) ++
  s.words 12 (fun n => sheaf n + 0x28) ++
  pack16 28 (fun p => s.rd (ph p) PHX.PSTAT_I + s.phState p * 0x1000) ++
  [s.getW (buscB + 8), s.getW (buscB + 0x74), s.getW (chgB + 8), s.getW (portB + 8)] ++
  pack16 12 (fun k => s.rd (node k) THM.NODE_T_T) ++
  (List.range 9).map (fun i => BitVec.ofNat 32 (s.rd (marg (4 * i)) MARG.OUT_CUR + s.rd (marg (4 * i + 1)) MARG.OUT_CUR * 0x100 +
    s.rd (marg (4 * i + 2)) MARG.OUT_CUR * 0x10000 + s.rd (marg (4 * i + 3)) MARG.OUT_CUR * 0x1000000)) ++
  [pair16 (s.rd (marg 36) MARG.OUT_CUR + s.rd (marg 37) MARG.OUT_CUR * 0x100) 0] ++ List.replicate 13 0

/-- The write port serves FE7 until the C4 record and its snapshot are written (R377). -/
def State.snapAsk (s : State) : State := s.engineAsk 3 feSeven

/-- A capture into a free buffer, or its loss counted (R269). FE7 asks for the port until a C4 has been captured, and has asked
then. -/
def State.snapshot (s : State) (trig ev cls tag ctx : Nat) (cmd : Option Nat) : State :=
  if s.snaps.length < 2 then
    let s1 := { s with snaps := s.snaps ++ [Snap.mk (s.snapWords trig s.snapNext ev cls tag ctx) s.snapNext cmd 0],
                       snapNext := (s.snapNext + 1) % 2 ^ 32 }
    let s2 := (s1.wr margB MARG.STATUS_BUF s1.snaps.length).count margB MARG.SNAPCNT_TAKEN MARG.SNAPCNT_TAKEN_SAT margB 5 0
    if s2.snapLeft = none then s2.snapAsk else s2
  else (s.count margB MARG.SNAPCNT_LOST MARG.SNAPCNT_LOST_SAT margB 5 0).errQ margB 4 0

end Sys2Proof.Machine
end

