-- ==== Sys2Proof/Machine/Seq.lean ====
section
/-! DEFINITION. The sequencer (R218 to R237) and the changes of mode that run it (R45, R48, R49, R56), as operations. -/

namespace Sys2Proof.Machine

open Sys2Proof

/-- Runs and rests of the sequencer: SEQ.STATUS.STATE (R238). -/
abbrev qIDLE : Nat := 0
abbrev qUP : Nat := 1
abbrev qDOWN : Nat := 2
abbrev qUNWIND : Nat := 3
abbrev qSBYIN : Nat := 4
abbrev qSBYOUT : Nat := 5
abbrev qMINOFF : Nat := 6
abbrev qFLOOR : Nat := 7

abbrev opSeqUp : Nat := 0x05
abbrev opSeqDown : Nat := 0x06
abbrev opSeqState : Nat := 0x07

def State.seqSt (s : State) : Nat := s.rd seqB SEQ.STATUS_STATE
def State.setSeqSt (s : State) (v : Nat) : State := s.wr seqB SEQ.STATUS_STATE v
def State.seqTab (s : State) : Nat := s.rd seqB SEQ.STATUS_TAB
def State.seqPhase (s : State) : Nat := s.rd seqB SEQ.STATUS_PHASE
def State.setPhase (s : State) (v : Nat) : State := s.wr seqB SEQ.STATUS_PHASE v
def State.modSeq (s : State) (f : SeqHid → SeqHid) : State := { s with seq := f s.seq }

/-- FE0 is stopped in a mode that it serves (R31, R46). A WARM stops it in every mode. An FE0 that is halted under NO_IMAGE, or in
SAFE or LOCKOUT, does not keep the requests of those modes from being served, which end that state (R64, R400).
(DEDUCED, log 64.) -/
def State.fe0Off (s : State) : Bool :=
  s.frozen || (s.eng 0 == eHALTED && (s.active || (s.mode == mHOLD && s.rd devB DEV.MODE_HOLD_CAUSE != 7)))

/-- Timeouts count again from the resume (R31). -/
def State.restartTmos (s : State) : State :=
  { s with since := s.since.map (fun e => match e.1 with
      | .act => (e.1, s.tick) | .pend _ => (e.1, s.tick) | .second => (e.1, s.tick) | _ => e) }

/-! The tables (R218). The two words of a step are kept at a base of their own, behind the step window. -/

def stepB (tab k : Nat) : Nat := 0xD000 + (tab * 64 + k) * 8
def State.stepOp (s : State) (tab k : Nat) : Nat := if 64 ≤ k then 0 else s.rd (stepB tab k) SEQ.STEP_A_OP
def State.stepObj (s : State) (tab k : Nat) : Nat := if 64 ≤ k then 0 else s.rd (stepB tab k) SEQ.STEP_A_OBJ

/-- A time of a step in µs: a code and its scale (R221, R222). -/
def stepUs (code scale : Nat) : Nat := code * 10 ^ (scale + 1)

/-- CFG.DEF_TMO, DNCFG.TMO2 and DNCFG.MINOFF in µs (R238). -/
def State.defTmo (s : State) : Nat := orIf0 (s.rd seqB SEQ.CFG_DEF_TMO) 1 * 1000
def State.tmo2 (s : State) : Nat := orIf0 (s.rd seqB SEQ.DNCFG_TMO2) 1 * 1000
def State.minoffUs (s : State) : Nat := clampN 1 1000 (s.rd seqB SEQ.DNCFG_MINOFF) * 1000

/-- The delay of a step and its timeout in µs (R221, R222). -/
def State.stepDelay (s : State) (tab k : Nat) : Nat :=
  stepUs (s.rd (stepB tab k) SEQ.STEP_B_DELAY) (s.rd (stepB tab k) SEQ.STEP_B_DSCALE)
def State.stepTmo (s : State) (tab k : Nat) : Nat :=
  let t := s.rd (stepB tab k) SEQ.STEP_B_TMO
  if t = 0 then s.defTmo else stepUs t (s.rd (stepB tab k) SEQ.STEP_B_TSCALE)

/-- The steps before a table's first END. -/
def State.tabLen (s : State) (tab : Nat) : Nat := ((List.range 64).takeWhile (fun k => s.stepOp tab k != 0)).length

/-- SEQ.TABLEN. -/
def State.lenShow (s : State) : State :=
  (((s.wr seqB SEQ.TABLEN_UP (s.tabLen 0)).wr seqB SEQ.TABLEN_DOWN (s.tabLen 1)).wr seqB SEQ.TABLEN_SBY_IN
    (s.tabLen 2)).wr seqB SEQ.TABLEN_SBY_OUT (s.tabLen 3)

/-- Is the word A of a step invalid (R220)? -/
def State.stepBad (s : State) (a : Word) : Bool :=
  let op := getBits a 0 4
  let obj := getBits a 4 6
  let kind := getBits a 10 4
  decide (8 ≤ op) ||
  ((op == 1 || op == 2) && (decide (46 ≤ obj) || obj == 28 || s.follows obj)) ||
  (op == 2 && getBits a 14 2 == 3) ||
  (op == 4 && (decide (6 ≤ kind) || (decide (kind ≤ 1) && decide (46 ≤ obj)) ||
    ((kind == 2 || kind == 3) && decide (16 ≤ obj)))) ||
  (op == 5 && decide (16 ≤ obj))

/-- Is a step found invalid when it is reached (R220)? -/
def State.stepSkips (s : State) (tab k : Nat) : Bool :=
  let a := s.getW (stepB tab k)
  s.stepBad a || (getBits a 0 4 == 5 && s.rd (pin (getBits a 4 6)) GPIO.PIN_CFG_FUNC != 2)

/-- The table that counts as running: in DRAINING, the DOWN table (R220, R237). -/
def State.tabRuns (s : State) (tab : Nat) : Bool :=
  let q := s.seqSt
  if q = qUP ∨ q = qDOWN ∨ q = qSBYIN ∨ q = qSBYOUT then s.seqTab == tab
  else tab == 1 && s.mode == mDRAINING

/-! Records. -/

def State.setLast (s : State) (tab step cause obj : Nat) : State :=
  (((s.wr seqB SEQ.LAST_TAB tab).wr seqB SEQ.LAST_STEP step).wr seqB SEQ.LAST_CAUSE cause).wr seqB SEQ.LAST_OBJ obj

/-- The object of the step in progress. -/
def State.seqObj (s : State) : Nat :=
  if s.seqSt = qUNWIND then (match s.seq.uw with | t :: _ => t.obj | [] => 0)
  else s.stepObj s.seqTab s.seq.pc

/-- An anomaly with its class C1, and its snapshot (R225, R229, R231). -/
def State.seqFail (s : State) (i : Nat) : State := (s.snapshot 2 109 1 0 0 none).err seqB i 109 (some 1) none

/-- Ring commands of an opcode that wait complete with a status and a result. -/
def State.endWith (s : State) (op st : Nat) (res : Cmd → Nat) : State :=
  (s.cmds.filter (fun k => k.op == op && k.phase == .running)).foldl (fun t k => t.complete k st (res k)) s

/-- µs from a command's acceptance, held at the largest number (R236). -/
def State.elapsed (s : State) (k : Cmd) : Nat := min 0xFFFFFFFF (s.tick - k.aux)

/-! Switching by the sequencer. -/

/-- An output switched off by an OFF step (R228): `disc` 0 as its DIS_EN selects, 1 discharged, 2 not. -/
def State.seqOff (s : State) (x disc : Nat) : State :=
  let s1 := (if s.outSt x = 0 then s.setEn x false else s.outDown x 0).mark (.seqEn x)
  let s2 := if disc = 1 ∨ (disc = 0 ∧ s.bit (out x) SUPV.OUT_OFF_DIS_EN) then s1.discharge x else s1
  { s2 with offQ := s.offQ }

/-- An output with EN = 0 that is below its threshold needs no OFF step (R224). -/
def State.offAlready (s : State) (x : Nat) : Bool := !s.outEn x && s.supv offBELOW x

/-- The level a GPIO step drives. -/
def State.drivePin (s : State) (p : Nat) (l : Bool) : State :=
  { s with pinSeq := if l then s.pinSeq ||| 2 ^ p else s.pinSeq &&& (0xFFFF - 2 ^ p) }

/-! Running a table. -/

/-- The next step begins (R221): invalid steps and OFF steps with nothing to do are passed in the same tick (R220, R224). -/
def State.seqBegin : Nat → State → Nat → State
  | 0, s, _ => s
  | fuel + 1, s, k =>
    let tab := s.seqTab
    let s0 := (((s.modSeq (fun h => { h with pc := k, hit := false })).wr seqB SEQ.STATUS_STEP (min k 63)).setPhase 0).mark .delay
    if 64 ≤ k then s0.setPhase 3
    else if s0.stepSkips tab k then
      State.seqBegin fuel ((s0.setLast tab k 8 (s0.stepObj tab k)).err seqB 4 109 (some 0) (some (s0.stepObj tab k))) (k + 1)
    else if s0.stepOp tab k = 2 ∧ s0.offAlready (s0.stepObj tab k) then State.seqBegin fuel s0 (k + 1)
    else s0

def State.seqNext (s : State) : State := State.seqBegin 66 s (s.seq.pc + 1)

/-- STATUS.PEND. -/
def State.setPends (s : State) (l : List Nat) : State :=
  (s.modSeq (fun h => { h with pends := l })).wr seqB SEQ.STATUS_PEND l.length

/-- A run of a table from step 0 (R218). A hold of an abandoned run ends (R249). -/
def State.startRun (s : State) (tab : Nat) : State :=
  let q := if tab = 0 then qUP else if tab = 1 then qDOWN else if tab = 2 then qSBYIN else qSBYOUT
  let s1 := ((((s.unhold).setSeqSt q).wr seqB SEQ.STATUS_TAB tab).setPends []).modSeq
    (fun h => { h with uw := [], t0 := s.tick, hit := false })
  State.seqBegin 66 s1 0

/-- The run is over: SEQ.RUNT (R226). -/
def State.runEnds (s : State) : State :=
  ((s.wr seqB SEQ.RUNT_T (min 0xFFFFFF ((s.tick - s.seq.t0) / 10))).wr seqB SEQ.RUNT_TAB s.seqTab).setPhase 0

/-- Entry to RISING with its table (R45, R59, R129). -/
def State.enterRising (s : State) (tab cause : Nat) : State :=
  let s1 := (s.setMode mRISING cause).restorePhases
  let s2 := s1.each (List.range 12) fun r t => (t.fillSlots r).countSpares r
  (s2.modSeq (fun h => { h with hostOn := [], onSby := false, fromSby := false })).startRun tab

/-- Entry to RUN: every SEQ_UP that waits completes (R236). -/
def State.enterRun (s : State) (cause : Nat) : State :=
  let s1 := s.setMode mRUN cause
  s1.endWith opSeqUp stDONE s1.elapsed

/-- Entry to DRAINING from a mode whose power-up is complete (R45). -/
def State.enterDraining (s : State) (cause : Nat) : State :=
  ((s.setMode mDRAINING cause).modSeq (fun h => { h with onSby := false, fromSby := false })).startRun 1

/-- Entry to PARKED (R45, R212, R404): LDO0 goes on from the keep-alive path where KA_CFG selects it. -/
def State.enterParked (s : State) (cause : Nat) : State :=
  let s1 := ((s.setMode mPARKED cause).busPark).setSeqSt qIDLE
  if s1.bit ldoB LDO.KA_CFG_EN then
    if s1.outSt 28 = 1 ∨ s1.outSt 28 = 2 then s1.ldo0Ka else s1
  else { ((s1.outOff 28 0).wr (ldo 0) LDO.LDO_STAT_KA 0) with offQ := s1.offQ }

/-! Unwinding and the floor. -/

/-- The OFF step of the DOWN table that first names an output, if one does. -/
def State.downStep (s : State) (x : Nat) : Option Nat :=
  (List.range (s.tabLen 1)).find? (fun k => s.stepOp 1 k == 2 && s.stepObj 1 k == x)

/-- Its DISC and its timeout, or the defaults (R227). -/
def State.downDisc (s : State) (x : Nat) : Nat :=
  match s.downStep x with | some k => min 2 (s.rd (stepB 1 k) SEQ.STEP_A_DISC) | none => 0
def State.downTmo (s : State) (x : Nat) : Nat := match s.downStep x with | some k => s.stepTmo 1 k | none => s.defTmo

/-- The floor is waited for (R232). -/
def State.waitFloor (s : State) : State := ((s.setSeqSt qFLOOR).setPhase 1).mark .act

/-- The DOWN table's END completes: what is still enabled goes off in one tick (R232). -/
def State.endDown (s : State) : State :=
  let s1 := s.each ((List.range 46).filter (fun x => x != 28)) fun x t =>
    if t.outEn x then { (t.disable x).mark (.seqEn x) with offQ := t.offQ } else t
  s1.runEnds.waitFloor

/-- No action of the sequencer has fallen in the present tick of 10 µs: no two share one (R221). -/
def State.actFree (s : State) : Bool := match s.began .lastAct with | some t => decide (t / 10 < s.tick / 10) | none => true

/-- The unwinding is over: the floor, or the DOWN table (R227). -/
def State.unwindEnd (s : State) : State := if s.seq.fromSby then s.startRun 1 else s.waitFloor

/-- The outputs that the host enabled in RISING go off together, in the tick after the list's end (R227). -/
def State.hostClear (s : State) : State :=
  let s1 := s.each s.seq.hostOn fun x t => { (t.disable x).mark (.seqEn x) with offQ := t.offQ }
  (s1.modSeq (fun h => { h with hostOn := [] })).unwindEnd

/-- The unwinding goes on with the next entry of its list (R227); the action of an output waits where the tick has had one
(R221). A GPIO step is reversed at once. (DEDUCED, log 64.) -/
def State.unwindNext : List Taken → State → State
  | [], s =>
    let s1 := s.modSeq (fun h => { h with uw := [] })
    if s1.seq.hostOn.isEmpty then s1.unwindEnd else (s1.setPhase 0).mark .lastAct
  | t :: rest, s =>
    let s1 := ((s.modSeq (fun h => { h with uw := t :: rest })).wr seqB SEQ.STATUS_TAB t.tab).wr seqB SEQ.STATUS_STEP t.step
    if t.gpio then State.unwindNext rest (s1.drivePin t.obj (!t.level))
    else if s1.offAlready t.obj then State.unwindNext rest s1
    else if s1.actFree then (((s1.seqOff t.obj (s1.downDisc t.obj)).setPhase 1).mark .act).mark .lastAct
    else s1.setPhase 0

/-- A power-up run fails (R225): its record, its event, the end of its hold (R249), DRAINING, and the unwinding (R227). `cause` is that of R238,
`mc` the cause of the mode change. -/
def State.runFail (s : State) (cause tab step obj mc : Nat) : State :=
  let s1 := s.setLast tab step cause obj
  let s2 := if cause = 1 ∨ cause = 2 then s1.seqFail 0 else s1.post 109 (some 0) none
  let s3 := if s.bit flailB FLAIL.ALCFG_TX_FAIL then s2.alarmAsk false else s2
  let s4 := (s3.unhold.setMode mDRAINING mc).endWith opSeqUp stFAILED (fun _ => 3)
  let s5 := (((s4.setSeqSt qUNWIND).setPends []).setPhase 0).modSeq (fun h => { h with
    hit := false, fromSby := s.seqSt == qSBYOUT, hostOn := h.hostOn.filter (fun x => !h.uw.any (fun t => !t.gpio && t.obj == x)) })
  State.unwindNext s.seq.uw s5

/-- SEQ run in progress in RISING. -/
def State.rises (s : State) : Bool := s.seqSt == qUP || s.seqSt == qSBYOUT

/-- The floor is reached (R232): LDO0 on the keep-alive path, SEQ_DOWN completed, then PARKED or the minimum off time. -/
def State.reachFloor (s : State) : State :=
  let s1 := (s.irq seqB 17 109).endWith opSeqDown stDONE s.elapsed
  let s2 := if s1.outSt 28 = 0 ∨ s1.outSt 28 = 3 then s1 else s1.ldo0Ka
  if s2.bit devB DEV.STATUS_ON_HELD then ((s2.setSeqSt qMINOFF).setPhase 0).mark .minoff else s2.enterParked 0x16

/-- C3 or C4 during a run, an unwinding or MINOFF (R237). -/
def State.seqDiscard (s : State) : State :=
  let s1 := if s.seqSt = qIDLE then s
    else ((s.setLast s.seqTab (s.rd seqB SEQ.STATUS_STEP) 5 s.seqObj).setSeqSt qIDLE).setPhase 0
  let s2 := (s1.setPends []).modSeq (fun h => { SeqHid.reset with t0 := h.t0 })
  (s2.endWith opSeqUp stFAILED (fun _ => 4)).endWith opSeqDown stFAILED (fun _ => 4)

/-! Requests (R45). -/

/-- An off request, with its cause of R43. In DRAINING that of a thermal SHUTDOWN has no further effect (R306). -/
def State.offNow (s : State) (cause : Nat) : State :=
  if s.mode = mRISING ∧ s.rises then s.runFail 3 s.seqTab (s.rd seqB SEQ.STATUS_STEP) s.seqObj cause
  else if s.mode = mRUN ∨ s.mode = mSTANDBY ∨ s.mode = mSERVICE ∨ s.mode = mHOLDUP then s.enterDraining cause
  else if s.mode = mDRAINING ∧ cause ≠ 0x18 then
    if s.bit devB DEV.STATUS_ON_HELD then
      let s1 := (s.wr devB DEV.STATUS_ON_HELD 0).endWith opSeqUp stFAILED (fun _ => 5)
      if s1.seqSt = qMINOFF then (s1.endWith opSeqDown stDONE s1.elapsed).enterParked 0x16 else s1
    else s
  else if s.mode = mHOLD then s.enterParked cause
  else s

/-- An on request. While SBY_IN runs, in STANDBY or in a HOLDUP that came from it, it is held (R234). -/
def State.onNow (s : State) (cause : Nat) : State :=
  if (s.mode = mSTANDBY ∨ s.mode = mHOLDUP) ∧ s.seqSt = qSBYIN then
    s.modSeq (fun h => { h with onSby := true, onCause := if h.onSby then h.onCause else cause })
  else if s.mode = mSTANDBY then s.enterRising 3 cause
  else if s.mode = mDRAINING then s.wr devB DEV.STATUS_ON_HELD 1
  else s

/-- STANDBY requested: served from RUN only. -/
def State.standbyNow (s : State) (cause : Nat) : State :=
  if s.mode = mRUN then (s.setMode mSTANDBY cause).startRun 2 else s

/-- SERVICE_CFG.TMO in µs (R507). -/
def State.serviceUs (s : State) : Nat := clampN 1 1440 (s.rd devB DEV.SERVICE_CFG_TMO) * 60000000

/-- SERVICE, and its timeout (R45, R507). -/
def State.serviceNow (s : State) (cause : Nat) : State :=
  if s.mode = mRUN then (s.setMode mSERVICE cause).till .service s.serviceUs else s

/-- SERVICE ends (R45). -/
def State.svcEndNow (s : State) (cause : Nat) : State := if s.mode = mSERVICE then s.enterRun cause else s

/-- HOLDUP ends: the countdown, or VBUS below the floor (R56). -/
def State.drainNow (s : State) (cause : Nat) : State := if s.mode = mHOLDUP then s.enterDraining cause else s

/-- The countdown has reached 0 in the present tick of 1 ms: which interval that is, the spec does not say; the model takes the
1,000 ticks from the zero on (R56). (DESIGN CHOICE, log 86.) -/
def State.cdNow (s : State) : Bool := (s.began .cdZero).isSome && !s.ran .cdZero 1000

/-- A feed confirmed returned: the mode of origin, SERVICE as RUN (R45). Where the countdown is at 0 in the same tick of 1 ms,
HOLDUP ends in DRAINING and the feed counts as an on request (R56). In DRAINING it does so too where FEED is an enabled wake
source (R45). -/
def State.feedBackNow (s : State) : State :=
  if s.mode = mHOLDUP then
    if s.cdNow then (s.drainNow 0x11).onNow 0x10
    else if s.rd devB DEV.MODE_PREV = mSTANDBY then
      let s1 := s.setMode mSTANDBY 0x10
      if s1.seq.onSby && s1.seqSt != qSBYIN then s1.enterRising 3 s1.seq.onCause else s1
    else s.enterRun 0x10
  else if s.mode = mDRAINING ∧ (s.bit devB DEV.WAKE_CFG_FEED_EN ∨ s.cdNow) then s.onNow 0x10
  else s

/-- Both feeds are lost and the pack can carry the outputs (R45). -/
def State.ridesThrough (s : State) : Bool :=
  (s.mode == mRUN || s.mode == mSTANDBY || s.mode == mSERVICE) && s.pack

/-- HOLDUP (R45). DEV.HOLDUP_CFG.TIME above 600,000, which the field can hold and its range leaves out, counts as written.
(DESIGN CHOICE, log 72.) -/
def State.enterHoldup (s : State) : State :=
  (((s.setMode mHOLDUP 0x0F).wr devB DEV.HOLDUP_LEFT_LEFT (max 10 (s.rd devB DEV.HOLDUP_CFG_TIME))).mark .holdup).unmark .cdZero

/-- Both feeds lost (R45). -/
def State.feedsLostNow (s : State) : State :=
  if s.mode = mRISING ∧ s.rises then s.runFail 4 s.seqTab (s.rd seqB SEQ.STATUS_STEP) s.seqObj 0x0F
  else if s.ridesThrough then s.enterHoldup
  else if s.mode = mRUN ∨ s.mode = mSTANDBY ∨ s.mode = mSERVICE then s.enterDraining 0x0F
  else s

/-- The UP or SBY_OUT table is complete (R226). -/
def State.tableDoneNow (s : State) : State :=
  if s.mode = mRISING ∧ s.rises then ((s.runEnds.irq seqB 16 109).setSeqSt qIDLE).enterRun 0x0D else s

/-- A condition holds in the present tick. It is served with the others of the tick, in the order of R47, when the tick ends;
or once FE0 resumes (R31, R46, R61). (DEDUCED, log 64.) -/
def State.ask (s : State) (d : Due) (cause : Nat) : State := { s with due := s.due ++ [(d, cause)] }

/-- Both ports are lost (R45, R161). -/
def State.feedsLost (s : State) : State := s.ask .feedsLost 0x0F

/-! What a run sees of outputs that went off. -/

/-- OUT_OFF and FORCED_OFF (R225, R230), at the end of the tick, once FE0 runs. -/
def State.seqWatch (s : State) : State :=
  if s.offQ.isEmpty ∨ s.fe0Off then s
  else
    let l := s.offQ
    let s0 := { s with offQ := [] }
    l.foldl (fun t e =>
      if t.mode = mRISING ∧ t.rises then
        match t.seq.uw.find? (fun k => !k.gpio && k.obj == e.1) with
        | some k => t.runFail 2 k.tab k.step e.1 0x0E
        | none => t
      else if t.mode = mDRAINING ∧ (e.2 = 2 ∨ e.2 = 3) then
        (t.setLast t.seqTab (t.rd seqB SEQ.STATUS_STEP) 9 e.1).err seqB 5 109 (some 0) (some e.1)
      else t) s0

end Sys2Proof.Machine
end

