-- ==== Sys2Proof/Machine/Store.lean ====
section
/-! DEFINITION. NVM as a memory of bytes in canonical form (R413), and the event-and-snapshot log that FE7 keeps in it
(R270, R381, R505 to R507). -/

namespace Sys2Proof.Machine

open Sys2Proof

/-! Memory: bytes by address, addresses strictly rising, no byte listed that equals the erased byte. -/

/-- What an address that is not listed reads as: an erased byte (R505). (DESIGN CHOICE, log 4.) -/
def erased : Byte := 0xFF

/-- The canonical form. -/
def Memory.wfFrom : Nat → List Host.Cell → Bool
  | _, [] => true
  | lo, (a, b) :: t => decide (lo ≤ a) && b != erased && Memory.wfFrom (a + 1) t

def Memory.wf (m : List Host.Cell) : Bool := Memory.wfFrom 0 m

/-- (DESIGN CHOICE, log 4.) -/
def Memory.read : List Host.Cell → Nat → Byte
  | [], _ => erased
  | (a, b) :: t, n => if a = n then b else Memory.read t n

/-- One byte written among rising addresses. -/
def Memory.write : List Host.Cell → Nat → Byte → List Host.Cell
  | [], n, x => if x = erased then [] else [(n, x)]
  | (a, b) :: t, n, x =>
    if n < a then (if x = erased then (a, b) :: t else (n, x) :: (a, b) :: t)
    else if n = a then (if x = erased then t else (n, x) :: t)
    else (a, b) :: Memory.write t n x

/-- Bytes written at rising addresses. -/
def Memory.writes : List Host.Cell → Nat → List Byte → List Host.Cell
  | m, _, [] => m
  | m, a, b :: t => Memory.writes (Memory.write m a b) (a + 1) t

/-- A range erased. -/
def Memory.erase (m : List Host.Cell) (lo n : Nat) : List Host.Cell := m.filter (fun c => decide (c.1 < lo ∨ lo + n ≤ c.1))

/-! NVM. -/

def State.nvmByte (s : State) (a : Nat) : Byte := Memory.read s.nvm a
def State.nvmPut (s : State) (a : Nat) (l : List Byte) : State := { s with nvm := Memory.writes s.nvm a l }
/-- A sector is erased whole (R413). -/
def State.nvmErase (s : State) (a : Nat) : State := { s with nvm := Memory.erase s.nvm (a / 0x1000 * 0x1000) 0x1000 }

/-- `n` bytes of NVM from `a`. -/
def State.nvmBytes (s : State) (a n : Nat) : List Byte := (List.range n).map (fun i => s.nvmByte (a + i))

/-- A little-endian number from bytes. -/
def leNat : List Byte → Nat
  | [] => 0
  | b :: t => b.toNat + 256 * leNat t

/-- The `n` little-endian bytes of a number. -/
def leBytes : Nat → Nat → List Byte
  | 0, _ => []
  | n + 1, v => BitVec.ofNat 8 v :: leBytes n (v / 256)

def State.nvmWord (s : State) (a : Nat) : Word := BitVec.ofNat 32 (leNat (s.nvmBytes a 4))
def State.nvmDword (s : State) (a : Nat) : Nat := leNat (s.nvmBytes a 8)

def wordBytes (l : List Word) : List Byte := l.flatMap (fun w => leBytes 4 w.toNat)

/-! Cyclic redundancy checks over bytes, bit-reversed: shift right, one bit at a time. -/

def crcBit (poly : Nat) (c : Nat) : Nat := if c % 2 = 1 then (c / 2).xor poly else c / 2
def crcByte (poly c : Nat) (b : Byte) : Nat := (List.range 8).foldl (fun x _ => crcBit poly x) (c.xor b.toNat)

/-- CRC-32 of IEEE 802.3 (R272). (PRESUMED, log 62.) -/
def crc32 (l : List Byte) : Nat := (l.foldl (crcByte 0xEDB88320) 0xFFFFFFFF).xor 0xFFFFFFFF

/-! The event records (R381, R505, R507). -/

def logB0 : Nat := 0x3D0000
def snapAt (slot : Nat) : Nat := 0x3A0000 + 0x400 * slot

/-- The position of the next record moves on. -/
def State.logNext (s : State) : State := s.wr logB LOG.EV_POS_NEXT ((s.rd logB LOG.EV_POS_NEXT + 1) % 8192)

/-- A record that does not reach the log counts as lost (R507). -/
def State.logLost (s : State) : State := (s.count logB LOG.EV_CNT_LOST LOG.EV_CNT_LOST_SAT logB 2 123).err logB 0 123 none none

/-- Where the next position begins a sector, the sector is erased first (R505). -/
def State.logErase (s : State) : State :=
  let p := s.rd logB LOG.EV_POS_NEXT
  if p % 512 = 0 then
    let held := ((List.range 512).filter (fun i => s.nvmByte (logB0 + 8 * (p + i)) != erased)).length
    (s.nvmErase (logB0 + 8 * p)).wr logB LOG.EV_POS_VALID (s.rd logB LOG.EV_POS_VALID - held)
  else s

/-- A record is written at the next position. -/
def State.logPut (s : State) (w : Word × Word) : State :=
  let p := s.rd logB LOG.EV_POS_NEXT
  let s1 := s.logErase
  let s2 := s1.nvmPut (logB0 + 8 * p) (leBytes 4 w.1.toNat ++ leBytes 4 w.2.toNat)
  let s3 := s2.wr logB LOG.EV_POS_VALID (min 8192 (s2.rd logB LOG.EV_POS_VALID + 1))
  (s3.logNext).count logB LOG.EV_CNT_WRITTEN LOG.EV_CNT_WR_SAT logB 2 123

/-- The position after the last written one. -/
def State.logFirst (s : State) : Nat :=
  let er := fun p => s.nvmByte (logB0 + 8 * (p % 8192)) == erased
  ((List.range 8192).find? (fun p => er p && !er (p + 8191))).getD 0

/-- The records that wait are written before the islands go off (R43), after the last written position where the log has not
been scanned since WAKING. (DEDUCED, log 52.) -/
def State.logFlush (s : State) : State :=
  let s0 := if s.logQ = [] ∨ s.bit logB LOG.STATUS_SCAN_DONE then s else s.wr logB LOG.EV_POS_NEXT s.logFirst
  { (s0.logQ.foldl (fun t w => t.logPut w) s0) with logQ := [] }

/-! Snapshots in the log (R270, R505). -/

/-- Is a valid snapshot held in a slot? -/
def State.snapHeld (s : State) (slot : Nat) : Bool :=
  s.nvmByte (snapAt slot) == 0x9C && s.nvmByte (snapAt slot + 1) == 0x5A &&
    leNat (s.nvmBytes (snapAt slot + 0x3FC) 4) == crc32 (s.nvmBytes (snapAt slot) 0x3FC)

def State.snapCount (s : State) : Nat := ((List.range 192).filter s.snapHeld).length

/-- The bytes of a record, its CRC included. -/
def Snap.bytes (x : Snap) : List Byte := let b := wordBytes x.words; b ++ leBytes 4 (crc32 b)

/-- Pages of a capture buffer reach its slot, from the first not yet written: the sector is erased before the first page of a
slot that begins it. -/
def State.snapPages (s : State) (x : Snap) (n : Nat) : State :=
  let slot := x.seq % 192
  let s1 := if slot % 4 = 0 ∧ x.pages = 0 then s.nvmErase (snapAt slot) else s
  s1.nvmPut (snapAt slot + 32 * x.pages) ((x.bytes.drop (32 * x.pages)).take (32 * n))

/-- The whole of a capture buffer has reached its slot. -/
def State.snapPut (s : State) (x : Snap) : State :=
  let slot := x.seq % 192
  let s2 := s.snapPages x 32
  ((s2.wr logB LOG.SN_STAT_NEWEST slot).wr logB LOG.SN_STAT_COUNT s2.snapCount).wr margB MARG.SNAPSEQ_SEQ x.seq

/-- The oldest buffer is written to its slot and freed; a SNAPSHOT that waits on it completes (R270, R271). -/
def State.snapWrite (s : State) : State :=
  match s.snaps with
  | [] => s
  | x :: t =>
    let s1 := { s.snapPut x with snaps := t, snapLeft := s.snapLeft.map (· - 1) }
    let s2 := s1.wr margB MARG.STATUS_BUF t.length
    match x.tag.bind s2.findCmd with
    | some k => s2.doneK k x.seq
    | none => s2

/-- One page of the oldest buffer is written, and FE7 gives way (R347, R348). -/
def State.snapYield (s : State) (r : Nat) : State :=
  match s.snaps with
  | [] => s
  | x :: t => (({ s.snapPages x 1 with snaps := { x with pages := x.pages + 1 } :: t }).revoke r (x.pages + 1) true).arbServe (resGroup r)

end Sys2Proof.Machine
end

