-- ==== Sys2Proof/Machine/Boot.lean ====
section
/-! DEFINITION. Engines, the entry to WAKING, WARM (R45, R60, R61, R398 to R400), and the Owl's grids (R386 to R395), as
operations. -/

namespace Sys2Proof.Machine

open Sys2Proof

/-! Engines (R398, R412): FEn_STAT.STATE 0 OFF, 1 BOOT, 2 RUN, 3 HALTED, 4 ROM. -/

abbrev eOFF : Nat := 0
abbrev eBOOT : Nat := 1
abbrev eRUN : Nat := 2
abbrev eROM : Nat := 4

/-- An engine's state, with its bits of STATUS and FEn_PC.STOPPED. -/
def State.setEng (s : State) (n v : Nat) : State :=
  ((((s.wr (fe n) ENG.FE_STAT_STATE v).wrB engB (ENG.STATUS_RUN.at n) (v == eRUN)).wrB engB (ENG.STATUS_HALTED.at (8 + n))
    (v == eHALTED)).wrB (fe n) ENG.FE_PC_STOPPED (v != eRUN && v != eROM)).wrB engB ENG.STATUS_ROM
    (if n = 7 then v == eROM else s.bit engB ENG.STATUS_ROM)

def State.setEngs (s : State) (v : Nat) : State := s.each [0, 1, 2, 3, 4, 5, 6, 7] fun n t => t.setEng n v

/-! The Owl. -/

def State.owlH (s : State) (i : Nat) : OwlHid := (s.owls[i]?).getD OwlHid.reset
def State.modOwl (s : State) (i : Nat) (f : OwlHid → OwlHid) : State := { s with owls := s.owls.setIfInBounds i (f (s.owlH i)) }

def State.owlBind (s : State) (i : Nat) : Nat := s.rd (owl i) WDG.SLOT_CFG_BIND
def State.served (s : State) (i : Nat) : Bool := s.bit wdgB (WDG.SERVED_SRV.at i)
def State.setServed (s : State) (i : Nat) (b : Bool) : State := s.wrB wdgB (WDG.SERVED_SRV.at i) b

/-- Enabled (R386, R388): the boot slot in WAKING, the others outside it. -/
def State.owlOn (s : State) (i : Nat) : Bool :=
  if i = 0 then s.bit wdgB WDG.STATUS_BOOT_ARMED
  else decide (mHOLD ≤ s.mode) && (decide (24 ≤ i) || s.bit (owl i) WDG.SLOT_CFG_EN)

/-- The engine of code 8 + e is out of service for its slots (R395). -/
def State.engOut (s : State) (e : Nat) : Bool :=
  s.frozen || (s.mode == mLOCKOUT && s.eng e == eHALTED) || s.eng e == eROM || (s.mode == mHOLD && s.rd devB DEV.MODE_HOLD_CAUSE == 7)

/-- Suspended, under the SUSP bits `k` (R395). -/
def State.owlSusp (s : State) (i k : Nat) : Bool :=
  let b := s.owlBind i
  if i = 0 then false
  else if 24 ≤ i then s.engOut (i - 24)
  else (decide (8 ≤ b) && s.engOut (b - 8)) || (s.mode == mSTANDBY && k.testBit 0) || (s.mode == mHOLDUP && k.testBit 1) ||
    (s.mode == mDRAINING && k.testBit 2) || (decide (b < 8) && s.mode == mLOCKOUT)

/-- The settings of a slot's block, as its next period takes them (R388, R390). (DEDUCED, log 66.) -/
def State.owlTake (s : State) (i : Nat) (h : OwlHid) : OwlHid :=
  let p := clampN 1 60000 (s.rd (owl i) WDG.SLOT_TIME_PERIOD)
  { h with per := p * 1000, wopen := min (p - 1) (s.rd (owl i) WDG.SLOT_TIME_WOPEN) * 1000,
           cls := clampN 1 4 (s.rd (owl i) WDG.SLOT_CFG_CLS), warm := s.bit (owl i) WDG.SLOT_CFG_WARM,
           dup1 := s.bit (owl i) WDG.SLOT_CFG_DUP_C1, susp := s.rd (owl i) WDG.SLOT_CFG_SUSP }

/-- A grid begins with a first period (R388). -/
def State.owlStart (s : State) (i : Nat) : State :=
  (s.modOwl i (fun h =>
    { s.owlTake i h with en := true, run := true, first := true, start := s.tick, late := false, pass := none })).setServed i false

/-- Grids stop and begin as slots are enabled and suspended (R388, R395). -/
def State.owlSlot (s : State) (i : Nat) : State :=
  if !s.owlOn i then (if (s.owlH i).en then s.modOwl i (fun h => { h with en := false, run := false }) else s)
  else
    let s1 := if (s.owlH i).en then s else s.modOwl i (fun h => { s.owlTake i h with en := true, run := false })
    if s1.owlSusp i (s1.owlH i).susp then s1.modOwl i (fun h => { h with run := false })
    else if (s1.owlH i).run then s1 else s1.owlStart i

def State.owlWatch (s : State) : State := s.each (List.range 32) fun i t => t.owlSlot i

/-! WAKING. -/

/-- The boot slot is armed or disarmed (R394). (DEDUCED, log 40.) -/
def State.bootArm (s : State) (b : Bool) : State :=
  ((s.wrB wdgB WDG.STATUS_BOOT_ARMED b).wrB (owl 0) WDG.SLOT_CFG_EN b).modOwl 0 (fun h => { h with en := false, run := false })

/-- The RTC flags set in FALLOW or PARKED are raised, but for those that ERR_MASK suppresses (R368): OSF with class C1 and DETAIL cause 1, BPOR and
CNT_SAT with the default class, the others with C0 (R466, R468,
R473, R474). -/
def State.rtcTell (s : State) : State :=
  let d := s.clk.due
  let told := fun (b : Nat) => d.testBit b && !s.bit rtcB (HDR.ERR_MASK.at b)
  let s1 := { s with clk := { s.clk with due := 0 } }
  let s2 := if told 0 then s1.post 125 (some 1) (some 1) else s1
  let s3 := if told 6 ∨ told 8 ∨ (2 ≤ s.dcls 125 ∧ (d.testBit 6 ∨ d.testBit 8)) then s2.post 125 none none else s2
  if [1, 2, 3, 4, 5, 7].any told then s3.post 125 (some 0) none else s3

/-- What a WARM ends of the engines' work in progress (R94, R287). -/
def State.engWork (s : State) : State :=
  let s1 := s.each (List.range 12) fun n t => t.lidAbort n 0xA
  let s2 := { s1 with adc := { s1.adc with cal := CalHid.reset } }.wr adcB ADC.STATUS_CAL_HELD 0
  s2.endRunning 0x0B stFAILED 7 (fun _ => true)

/-- The reference is lost (R407). -/
def State.refLoss (s : State) : State :=
  let s1 := (({ s with xiGood := false }.wr clkB CLK.STATUS_REF_OK 0).wr clkB CLK.STATUS_REF_RC 1).wr timeB TIME.STATUS_REF_RC 1
  s1.err clkB 0 132 (some (min 2 (s.rd clkB CLK.CFG_REF_CLS))) (some 3)

/-- What the reference monitor finds as the islands come up (R407). (DEDUCED, log 67.) -/
def State.refWake (s : State) : State := if s.xiGood then s.wr clkB CLK.STATUS_REF_OK 1 else s.refLoss

/-- Entry to WAKING (R45, R394, R404), from PARKED or by a WARM. An entry from WAKING itself changes no mode. A keep-alive
overload of PARKED is raised here (R212). -/
def State.enterWaking (s : State) (cause : Nat) : State :=
  let was := s.mode
  let s0 := ((s.wr fltB FLT.STATUS_DEV_FORCE 0).wakeReset (was = mPARKED)).iff (was = mPARKED) State.busWake
  let s1 := if was = mPARKED then s0 else s0.engWork
  let s2 := { s1 with lsHalt := 0, act := if was = mWAKING then s1.act else none }.mark .waking
  let s3 := ((s2.setEngs eBOOT).wr clkB CLK.ISL_ON 0xFFFF).wr devB DEV.STATUS_WARM_BUSY 0
  let s4 := if was = mWAKING then s3 else s3.setMode mWAKING cause
  let s5 := (((s4.bootArm true).owlWatch).rtcTell).iff (was = mPARKED) State.refWake
  if s5.kaHeld then { s5 with kaHeld := false }.err ldoB 4 28 none none else s5

/-- Wake sources accepted in PARKED, by their bits of WAKE_CAUSE (R45, R50, R63). (DEDUCED, log 33.) -/
def State.wakeBy (s : State) (bits : Nat) : State :=
  if s.mode = mPARKED ∧ bits ≠ 0 then (s.wr devB DEV.MODE_WAKE_CAUSE bits).enterWaking 1 else s

/-- The enabled WAKE pins that wake by their level now. -/
def State.wakeLevels (s : State) : Nat :=
  s.wakeActive &&& s.rd devB DEV.WAKE_CFG_EN &&& (15 - s.rd devB DEV.WAKE_CFG_EDGE)

/-- A level source that is active in PARKED wakes the device. (DEDUCED, log 33.) -/
def State.wakeWatch (s : State) : State := s.wakeBy s.wakeLevels

/-- A WARM in the modes that keep theirs (R60, R61): the engines restart, what they had in progress ends. -/
def State.warmBusy (s : State) : State :=
  let s1 := ((s.wr devB DEV.STATUS_WARM_BUSY 1).setEngs eBOOT).engWork
  { s1 with lsHalt := 0, warmTest := false }.owlWatch

/-- A WARM (R45, R60), with the bit of RESET_CAUSE that records it and the cause of a change from HOLD. In PARKED, SAFE and
LOCKOUT none is started here. One that meets a WARM in progress adds its bit only (R396, R410). -/
def State.warmStart (s : State) (bit : Option Fld) (cause : Nat) : State :=
  let m := s.mode
  if m = mWAKING ∨ (mHOLD ≤ m ∧ m < mSAFE) then
    let s1 := match bit with | some f => s.wr devB f 1 | none => s
    if s1.frozen then s1
    else
      let s2 := { s1 with lsWarm := s1.lsWarm || s1.lsHalt != 0 }
      if m = mHOLD ∨ m = mWAKING then s2.enterWaking cause else s2.warmBusy
  else s

/-- The engines that a restart has brought up run firmware again (R398, R400); one that a mismatch has halted since stays
halted. -/
def State.engUp (s : State) : State :=
  let s1 := s.each [0, 1, 2, 3, 4, 5, 6, 7] fun n t => if t.eng n = eBOOT then t.setEng n eRUN else t
  if s.lsWarm then
    { (s1.wr devB DEV.RESET_CAUSE_WARM_LOCKSTEP 1).setRepl DEV.REPLACE_SRC_LOCKSTEP true with lsWarm := false }
  else s1

/-- The WARM that findings and mismatches have asked for (R391, R400); a mismatch in WAKING asks for none. -/
def State.warmServe (s : State) : State :=
  let q := s.warmReq
  let s0 := { s with warmReq := 0 }
  let s1 := if q % 2 = 1 then s0.warmStart (some DEV.RESET_CAUSE_WARM_OWL) 9 else s0
  if 2 ≤ q ∧ s1.mode ≠ mWAKING then s1.warmStart none 9 else s1

/-- In LOCKOUT every engine but FE7 is halted (R40). -/
def State.engWatch (s : State) : State :=
  if s.mode = mLOCKOUT then s.each [0, 1, 2, 3, 4, 5, 6] fun n t => if t.eng n = eHALTED then t else t.setEng n eHALTED else s

end Sys2Proof.Machine
end

