-- ==== Sys2Proof/Machine/Fault.lean ====
section
/-! DEFINITION. The fault collector (R367 to R384): what one raise does, and what the device does of its own once a
command has had its effect. -/

namespace Sys2Proof.Machine

open Sys2Proof

/-! The registers of an event. -/

def latK (ev : Nat) : Nat := fltB + 0x60 + 4 * (ev / 32)
def State.lat (s : State) (ev : Nat) : Bool := (s.getW (latK ev)).toNat.testBit (ev % 32)
def State.setLat (s : State) (ev : Nat) (b : Bool) : State :=
  s.setW (latK ev) (putBits (s.getW (latK ev)) (ev % 32) 1 (if b then 1 else 0))

def evstK (ev : Nat) : Nat := fltB + 0x140 + 4 * (ev / 4)
/-- The UNACK bits and the RPT count of an event. -/
def State.unack (s : State) (ev : Nat) : Nat := getBits (s.getW (evstK ev)) (8 * (ev % 4)) 4
def State.rpt (s : State) (ev : Nat) : Nat := getBits (s.getW (evstK ev)) (8 * (ev % 4) + 4) 4
def State.setUnack (s : State) (ev v : Nat) : State := s.setW (evstK ev) (putBits (s.getW (evstK ev)) (8 * (ev % 4)) 4 v)
def State.setRpt (s : State) (ev v : Nat) : State := s.setW (evstK ev) (putBits (s.getW (evstK ev)) (8 * (ev % 4) + 4) 4 v)

/-- FLT.STATUS.UNACK: the OR over all events. -/
def State.unackShow (s : State) : State :=
  s.wr fltB FLT.STATUS_UNACK ((List.range 160).foldl (fun a e => a ||| s.unack e) 0)

/-- Some event has the UNACK bit of class `k` set. -/
def State.anyUnack (s : State) (k : Nat) : Bool := (s.rd fltB FLT.STATUS_UNACK).testBit (k - 1)

/-- The rail group of an event (R370). -/
def State.evGroup (s : State) (ev : Nat) : Nat :=
  if ev < 46 then s.groupOf ev
  else if ev < 94 ∧ s.phRail (ev - 46) < 12 then s.groupOf (s.phRail (ev - 46))
  else if ev = 107 then s.rd thmB THM.CFG_C2_GROUP
  else getBits (s.getW (fltB + 0xA0 + 4 * (ev / 4))) (8 * (ev % 4) + 4) 3

/-- FLT.STATUS.GHOLD follows the holds (R375). -/
def State.holdShow (s : State) : State :=
  s.wr fltB FLT.STATUS_GHOLD ((List.range 8).foldl (fun a g => if s.holds.any (fun h => h.2 == g) then a + 2 ^ g else a) 0)

/-- A hold joins the others, by event. -/
def insHold : List (Nat × Nat) → Nat × Nat → List (Nat × Nat)
  | [], h => [h]
  | g :: t, h => if h.1 < g.1 then h :: g :: t else if h.1 = g.1 then (if h.2 = g.2 then g :: t else g :: insHold t h) else g :: insHold t h

/-- An event is acknowledged (R374). -/
def State.ackEv (s : State) (ev : Nat) : State :=
  let s1 := ((s.setLat ev false).setUnack ev 0).setRpt ev 0
  { s1 with holds := s1.holds.filter (fun h => h.1 != ev) }

/-- The views of the acknowledgement state. -/
def State.ackShow (s : State) : State := s.unackShow.holdShow

/-! History and log (R380, R381). -/

def histB (i : Nat) : Nat := fltB + 0x200 + 0x10 * i

/-- Microseconds of TIME and its seconds modulo 4,096, as a record's second word (R381). (DEDUCED, log 52.) -/
def State.logTime (s : State) : Word := BitVec.ofNat 32 (s.timeNs / 1000 + s.timeSec % 4096 * 0x100000)

/-- A history entry, and its record handed to FE7. (DEDUCED, log 52.) -/
def State.record (s : State) (r : RaiseReq) (eff : Nat) (esc dry chg : Bool) (detail : Word) : State :=
  let i := if s.rd fltB FLT.HSTAT_FILL = 0 then 0 else (s.rd fltB FLT.HSTAT_NEWEST + 1) % 32
  let b := fun (v : Bool) (k : Nat) => if v then 2 ^ k else 0
  let w0 := r.ev + r.cls * 0x100 + eff * 0x1000 + b esc 16 + b r.forced 17 + b dry 18 + b chg 19 + s.mode * 0x100000
  let s1 := ((((s.setW (histB i) (BitVec.ofNat 32 w0)).setW (histB i + 4) detail).wr (histB i) FLT.HIST2_NS s.timeNs).setW
    (histB i + 0xC) s.timeHi)
  let s2 := (s1.wr fltB FLT.HSTAT_NEWEST i).wr fltB FLT.HSTAT_FILL (min 32 (s.rd fltB FLT.HSTAT_FILL + 1))
  if s.logShut then s2
  else
    let rec0 := r.ev + (eff + r.cls * 8 + b r.forced 6 + b dry 7) * 0x100 + detail.toNat % 0x10000 * 0x10000
    let s3 := { s2 with logQ := s2.logQ ++ [(BitVec.ofNat 32 rec0, s.logTime)], logShut := decide (eff = 4) && !dry }
    let s4 := if 32 < s3.logQ.length then { (s3.logLost) with logQ := s3.logQ.tail } else s3
    s4.engineAsk 3 feSeven

/-- RPT and RAISES (R371, R384). -/
def State.countRaise (s : State) (ev : Nat) : State :=
  let s1 := if s.rpt ev < 14 then s.setRpt ev (s.rpt ev + 1)
    else (s.setRpt ev 15).errQ fltB 3 0
  s1.count fltB FLT.RAISES_COUNT FLT.RAISES_SAT fltB 3 0

/-! Forcing (R375 to R377). -/

/-- The cause of the mode change that a raise forces (R43): a self-test of WAKING that failed has its own. -/
def State.forceCause (s : State) (r : RaiseReq) (eff : Nat) : Nat :=
  let d := (r.detail.getD 0) % 16
  if eff ≠ 4 then 0x14
  else if s.mode = mWAKING ∧ !r.forced ∧ r.cls = 4 ∧ ((112 ≤ r.ev ∧ r.ev ≤ 119 ∧ d = 2) ∨ ((r.ev = 120 ∨ r.ev = 121) ∧ d = 4)) then 5
  else 0x15

/-- WAKING ends in SAFE or LOCKOUT: slot 0 is disarmed, and BOOT_FAILS clears where no expiry ended it (R394). -/
def State.bootOver (s : State) (r : RaiseReq) : State :=
  if s.mode = mWAKING then
    let t := s.bootArm false
    if (r.ev = 111 ∧ (r.detail.getD 0) / 32 % 8 = 6) ∨ s.warmReq % 2 = 1 then t else t.wr wdgB WDG.STATUS_BOOT_FAILS 0
  else s

/-- The device force line: every output to its safe state, SAFE or LOCKOUT, and what follows from it (R376). What else the
tick asks of FE0 is served against the new mode (R47). -/
def State.deviceForce (s : State) (eff : Nat) (r : RaiseReq) : State :=
  let m := if eff = 4 then mLOCKOUT else mSAFE
  let s0 := if s.mode < mSAFE then { s with pinKeep := s.drvWord } else s
  let s1 := (s0.wr fltB FLT.STATUS_DEV_FORCE 1).each (List.range 46) fun x t => t.safeState x
  let s2 := ((s1.bootOver r).setMode m (s.forceCause r eff)).seqDiscard
  let s3 := { (s2.refuseWaiting m) with offQ := [] }
  if s3.bit flailB FLAIL.ALCFG_TX_SAFE then s3.alarmAsk true else s3

/-- Does a raise of this effective class change the mode (R377)? `lock`: a C4 of the same cycle does, which comes before a C3
(R47). -/
def State.forces (s : State) (eff : Nat) (lock : Bool) : Bool :=
  if eff = 4 then s.up && s.mode != mLOCKOUT else eff == 3 && s.up && decide (s.mode < mSAFE) && !lock

/-- One raise at the collector (R371, R372, R379, R382). Its snapshot (R269) holds the latch and what the raise forced, as
in the examples of chapters 1 and 17. (DESIGN CHOICE, log 42; DEDUCED, log 52.) -/
def State.raise1 (lock : Bool) (r : RaiseReq) (s : State) : State :=
  let esc := decide (1 ≤ r.cls ∧ r.cls ≤ 3) && s.anyUnack r.cls
  let eff := if esc then r.cls + 1 else r.cls
  let dry := r.forced && decide (2 ≤ eff) && !s.bit fltB FLT.FCTRL_LIVE
  let g := s.evGroup r.ev
  let s2 := (s.setLat r.ev true).countRaise r.ev
  let s3 := if eff = 0 ∨ dry then s2 else (s2.setUnack r.ev (s2.unack r.ev ||| 2 ^ (eff - 1))).unackShow
  let s4 := if 2 ≤ eff ∧ !dry then { s3 with holds := insHold s3.holds (r.ev, g) }.holdShow else s3
  let chg := !dry && s4.forces eff lock
  let s5 := if dry then s4 else if eff = 2 then s4.forceGroup g else if chg then s4.deviceForce eff r else s4
  let s6 := if chg then ((s5.wr fltB FLT.CAUSE_EVENT r.ev).wr fltB FLT.CAUSE_ECLS eff).setW (fltB + 0x54) s5.logTime else s5
  let s7 := if 2 ≤ eff then s6.snapshot 1 r.ev eff 0 0 none else s6
  let s8 := if chg ∧ eff = 4 then { s7 with snapLeft := some s7.snaps.length } else s7
  let d := match r.detail with
    | some v => (BitVec.ofNat 32 v, s8)
    | none => s8.draw
  (State.record d.2 r eff esc dry chg d.1).edge r.ev

/-- The raises of one collector cycle, in ascending event number (R373). I1 is off in PARKED and FALLOW, but a change into
PARKED and what came with it are still recorded (R43). Of a C3 and a C4 the C4 alone changes the mode (R47). -/
def State.collect1 (s : State) : State :=
  let l := s.raiseQ
  let s0 := { s with raiseQ := [] }
  if s.up ∨ l.any (fun r => r.ev == 135) then
    let t := l.foldl (fun t r => State.raise1 false r t) s0
    if t.mode = mLOCKOUT ∧ s.mode < mSAFE then l.foldl (fun t r => State.raise1 true r t) s0 else t
  else s0

/-- Cycles until no raise waits; `n` bounds them. (DESIGN CHOICE, log 9.) -/
def State.collect : Nat → State → State
  | 0, s => s
  | n + 1, s => if s.raiseQ.isEmpty then s else State.collect n s.collect1

/-- The islands other than I0 are off (R43, R404): FE7, which no command keeps from the write port any more, has written what
waited for the log, the rest is gone. (DEDUCED, log 52.) -/
def State.parkWatch (s : State) : State :=
  if s.up then s
  else
    let t := { s with cmds := [], snaps := [], offQ := [], due := [], later := [], doomed := [], act := none, ldrWait := none, owlQ := [],
                      queues := Vector.replicate 6 [], grants := Vector.replicate 9 none }
    if s.supOut.testBit 4 ∨ s.stopped 7 then { t with logQ := [] } else t.logFlush

/-- What follows from raises, to its end: the collector, and the blocks that follow the mode. (DESIGN CHOICE, log 9.) -/
def State.follow (s : State) : State :=
  let s1 := State.collect 12 s
  let s3 := s1.busWatch
  let s4 := s3.roleWatch
  let s5 := State.collect 12 s4.chgWatch
  State.collect 12 ((s5.abortRunning.engWatch.owlWatch).parkWatch.wakeWatch)

/-- What the device does of its own after a command's effect; nothing, where the effect raised nothing and took no output off. (DESIGN CHOICE, log 9.) -/
def State.settle (s : State) : State :=
  if s.raiseQ.isEmpty && s.offQ.isEmpty then s else s.follow

end Sys2Proof.Machine
end

