-- ==== Sys2Proof/Machine/Access.lean ====
section
/-! DEFINITION. Who may write which register in which mode: R16, R40, R41, R319, R320, R323, R501. -/

namespace Sys2Proof.Machine

open Sys2Proof

/-- The five per-context selection registers of R502: INT.CTXSEL, the two ACC.TSEL, OTP.ROWSEL, LOG.EV_SEL and SN_SEL.
(DESIGN CHOICE, log 6.) -/
def selReg (a : Nat) : Bool :=
  a == 0x1840 || a == 0x9448 || a == 0x9848 || a == 0xB054 || a == 0xC044 || a == 0xC048

/-- The CQE data buffer window. (DESIGN CHOICE, log 6.) -/
def dbufReg (a : Nat) : Bool := decide (0x1180 ≤ a ∧ a < 0x1200)

/-- INT.CLAIM, CLAIM_DONE and SETPEND: the writer's own (R366). -/
def intOwn (a : Nat) : Bool := a == 0x1848 || a == 0x184C || a == 0x1854

/-- The other registers of the INT page, which act on the context CTXSEL names (R364). -/
def intNamed (a : Nat) : Bool := decide (0x1844 ≤ a ∧ a < 0x1C00) && !intOwn a

/-- The context that a context's INT.CTXSEL names. -/
def State.intSel (s : State) (c : Nat) : Nat := s.rd (ck c + intB) INT.CTXSEL_CTX

/-- A register that OWNER and LOCK do not hold against its writer (R501). -/
def State.ownReg (s : State) (c a : Nat) : Bool :=
  a == 0x2040 || a == 0x0C44 || decide (0x1040 ≤ a ∧ a < 0x1060) || a == 0x144C || a == 0x1450 || dbufReg a || selReg a ||
    intOwn a || (intNamed a && s.intSel c == c)

/-- Does the mode take a write of `v` to register `a` (R40, R41)? -/
def State.modeTakes (s : State) (c a : Nat) (v : Word) : Bool :=
  let m := s.mode
  let p := a / 0x400
  let o := a % 0x400
  if m = mHOLD then
    p == 0x00 || decide (0x03 ≤ p ∧ p ≤ 0x08) || p == 0x2C || p == 0x2D || p == 0x30 || p == 0x31
  else if m = mSAFE then
    o == 0x0C || o == 0x18 || a == 0x1C44 || decide (0x1C60 ≤ a ∧ a ≤ 0x1C70) ||
      (a == 0x84 && (getBits v 0 4 == 1 || getBits v 0 4 == 6)) || a == 0x2040 || a == 0x0C44 ||
      a == 0x184C || a == 0x1854 ||
      ((decide (0x1880 ≤ a ∧ a ≤ 0x1890) || decide (0x18C0 ≤ a ∧ a ≤ 0x18D0)) && s.intSel c == c) ||
      selReg a || a == 0x144C || a == 0x1050 || dbufReg a
  else decide (mRISING ≤ m ∧ m ≤ mDRAINING)

/-- The bits of a register whose access type `q` holds of. -/
def accBits (q : Acc → Bool) (a : Nat) : Word :=
  match pageOf (a / 0x400) with
  | none => 0
  | some p => match rowAt p.rows (a % 0x400) with
    | none => 0
    | some r => r.flds.foldl (fun w f => if q f.acc then w ||| bitMask f.lo f.w else w) 0

/-- The bits of a register that are RWL (R14). -/
def rwlBits (a : Nat) : Word := accBits (fun x => x == .rwl) a

/-- The bits that a write stores: RW, RWL and RWH. -/
def rwBits (a : Nat) : Word := accBits (fun x => x == .rw || x == .rwl || x == .rwh) a

/-- An address that names a register (R11, R12, R497). -/
def addrOk (a : Nat) : Bool :=
  a % 4 == 0 && decide (a < 0x10000) && match pageOf (a / 0x400) with
    | none => false
    | some p => decide (a % 0x400 ≤ p.last)

/-- The page that holds `a` is owned by another context (R319). -/
def State.owned (s : State) (c a : Nat) : Bool :=
  let o := s.rd (a / 0x400 * 0x400) HDR.OWNER
  o != 0xF && o != c

def State.pageLocked (s : State) (a : Nat) : Bool := !s.bit (a / 0x400 * 0x400) HDR.LOCK_UNLOCKED

abbrev fsOK : Nat := 0x00
abbrev fsADDR : Nat := 0x04
abbrev fsLOCKED : Nat := 0x05
abbrev fsOWNER : Nat := 0x06

/-- A coefficient register whose bank or set is in use, which behaves as locked (R87, R163). -/
def State.coefInUse (s : State) (a : Nat) : Bool :=
  let p := a / 0x400
  let o := a % 0x400
  if 0x10 ≤ p ∧ p ≤ 0x1B then
    if s.rd (pg p) RAIL.STATUS_BANK = 0 then decide (0x70 ≤ o ∧ o < 0x7C) else decide (0x7C ≤ o ∧ o < 0x88)
  else if p = 0x1C then
    match s.rd buscB BUSC.STATUS_OUTER with
    | 1 => decide (0x8C ≤ o ∧ o < 0x98)
    | 2 => decide (0x80 ≤ o ∧ o < 0x8C)
    | 3 => decide (0x98 ≤ o ∧ o < 0xA4)
    | _ => false
  else false

/-- The status of one word of a write (R320): `m` selects the bits written. -/
def State.wrStatus (s : State) (c a : Nat) (m v : Word) : Nat :=
  if !addrOk a then fsADDR
  else if !s.ownReg c a && s.owned c a then fsOWNER
  else if !s.modeTakes c a v then fsLOCKED
  else if !s.ownReg c a && s.pageLocked a && (rwlBits a &&& m) != 0 then fsLOCKED
  else if s.coefInUse a && (rwlBits a &&& m) != 0 then fsLOCKED
  else if intNamed a && s.pageLocked a && (rwlBits a &&& m) != 0 then fsLOCKED
  else fsOK

/-- The context exists on the bus (R308), which needs VIO (R516); it is quarantined (R323). -/
def State.ctxOn (s : State) (c : Nat) : Bool := s.bit hifB (HIF.CFG_CTX_EN.at c) && !s.vioOut
def State.quar (s : State) (c : Nat) : Bool := s.bit hifB (HIF.STATUS_QUAR.at c)

/-- A whole-register write of `v` by context `c` takes effect. (DESIGN CHOICE, log 16.) -/
def State.mayWrite (s : State) (c a : Nat) (v : Word) : Bool :=
  s.up && s.ctxOn c && !s.quar c && s.wrStatus c a 0xFFFFFFFF v == fsOK

/-- The effect of a write of the bits `m` of one register, where it is accepted (R318). (DESIGN CHOICE, log 16.) -/
def State.ifWritesM (s : State) (c a : Nat) (m v : Word) (f : State → State) : State :=
  if s.up && s.ctxOn c && !s.quar c && s.wrStatus c a m v == fsOK then f s else s

/-- The effect of a write of one field, where it is accepted. (DESIGN CHOICE, log 16.) -/
def State.ifField (s : State) (c b : Nat) (f : Fld) (v : Nat) (g : State → State) : State :=
  s.ifWritesM c (b + f.off) (bitMask f.lo f.w) (BitVec.ofNat 32 (v * 2 ^ f.lo)) g

/-- The effect of a write of one register, where it is accepted. (DESIGN CHOICE, log 16.) -/
def State.ifWrites (s : State) (c a : Nat) (v : Word) (f : State → State) : State := if s.mayWrite c a v then f s else s

/-- Does the mode take a read of register `a` (R40)? -/
def State.modeReads (s : State) (a : Nat) : Bool :=
  if s.mode = mWAKING then s.wakeRead && (a / 0x400 == 0x00 || a / 0x400 == 0x07 || a / 0x400 == 0x30) else decide (mHOLD ≤ s.mode)

/-- A read of register `a` by context `c` is answered. (DESIGN CHOICE, log 16.) -/
def State.mayRead (s : State) (c a : Nat) : Bool := s.ctxOn c && !s.quar c && addrOk a && s.modeReads a

end Sys2Proof.Machine
end

