-- ==== Sys2Proof/Machine/Owl.lean ====
section
/-! DEFINITION. The Owl's rows (R386 to R397, R534). -/

namespace Sys2Proof.Machine

open Sys2Proof

/-- (DEDUCED, log 66.) -/
def capPc (n : Nat) : Nat := wdgB + (if n < 2 then 0x54 + 4 * n else 0x60 + 4 * (n - 2))

/-- A running engine's program counter at an instant: a value the spec does not state. A stopped one keeps its own.
(DEDUCED, log 66.) -/
def State.pcNow (s : State) (n : Nat) : Word × State :=
  if s.eng n = eRUN ∨ s.eng n = eROM then
    let d := s.draw
    (d.1 &&& 0xFFFFFFFC, d.2)
  else (s.getW (fe n + 4), s)

/-- The capture of R393, or MISSED. -/
def State.owlCapture (s : State) (i cause : Nat) : State :=
  if s.bit wdgB WDG.CAP_VALID then s.bump wdgB WDG.CAP_MISSED
  else
    let s1 := s.each [0, 1, 2, 3, 4, 5, 6, 7] fun n t => let p := t.pcNow n; p.2.setW (capPc n) p.1
    let s2 := s1.each (List.range 32) fun k t => t.setW (wdgB + 0x280 + 4 * k) (t.getW (owl k + 0xC))
    ((((s2.wr wdgB WDG.CAP_SLOT i).wr wdgB WDG.CAP_CAUSE cause).wr wdgB WDG.CAP_MISSED 0).wr wdgB WDG.CAP_VALID 1).setW
      (wdgB + 0x50) s.logTime

/-- A finding of the tick (R389, R392): its ERR bit where it has one, class, slot, cause and requester. -/
def State.owlFind (s : State) (bit : Option Nat) (cls i cause who : Nat) : State :=
  let masked := match bit with | some b => s.bit wdgB (HDR.ERR_MASK.at b) && decide (cls ≤ 1) | none => false
  let s1 := match bit with | some b => s.errQ wdgB b 111 | none => s
  { s1 with owlQ := s1.owlQ ++ [⟨cls, i, cause, who, !masked⟩] }

/-- A count of a slot; its saturation is a C0 of the same raise (R396). -/
def State.owlCount (s : State) (i : Nat) (f : Fld) : State :=
  let s1 := s.bump (owl i) f
  if s.fills (owl i) f then (s1.wr (owl i) WDG.SLOT_CNT_SAT 1).owlFind (some 6) 0 i 0 0 else s1

/-- The reaction of R391. -/
def State.owlReact (s : State) (i bit cause : Nat) : State :=
  let h := s.owlH i
  let s1 := s.owlFind (some bit) h.cls i cause (s.owlBind i)
  if h.warm then { s1 with warmReq := s1.warmReq ||| 1 } else s1

/-- The finding that DETAIL names (R392): the highest class, then one that DETAIL can name, then the lowest slot. -/
def owlBest (l : List OwlNote) : Option OwlNote :=
  l.foldl (fun b n => match b with
    | none => some n
    | some m => if m.cls < n.cls ∨ (m.cls = n.cls ∧ m.cause = 0 ∧ n.cause ≠ 0) then some n else some m) none

/-- The findings of a tick, at its end: the capture, which EXPIRY, EARLY and BOOT make, and one raise (R391 to R393). The lowest slot comes
first. (DEDUCED, log 66.) -/
def State.owlServe (s : State) : State :=
  if s.owlQ.isEmpty then s
  else
    let l := (List.range 32).flatMap fun i => s.owlQ.filter fun n => n.slot == i
    let s1 := (l.filter (fun n => n.cause == 1 || n.cause == 2 || n.cause == 6)).foldl (fun t n => t.owlCapture n.slot n.cause) { s with owlQ := [] }
    match owlBest (l.filter OwlNote.shown) with
    | none => s1
    | some n => (s1.post 111 (some n.cls) (if n.cause = 0 then none else some (n.slot + n.cause * 32 + n.who * 256))).settle

/-- The next period begins at the end of the last, under the settings that it takes (R388, R390, R395). (DEDUCED, log 66.) -/
def State.owlNext (s : State) (i : Nat) (late : Bool) : State :=
  ((s.modOwl i (fun h => { s.owlTake i h with start := h.start + h.per, first := false, late := late, pass := none })).setServed i false).owlSlot i

/-- An unserved period's end (R389). -/
def State.owlExpire (s : State) (i : Nat) : State :=
  let s1 := (s.owlCount i WDG.SLOT_CNT_EXP).wr wdgB (WDG.EXPMAP_EXP.at i) 1
  (s1.owlReact i 0 1).owlNext i true

/-- The end of a slot's current period has been reached. (DEDUCED, log 12.) -/
def State.owlEnds (s : State) (i : Nat) : Bool :=
  decide (1 ≤ i) && (s.owlH i).run && decide ((s.owlH i).start + (s.owlH i).per ≤ s.tick)

/-- The period's end is judged (R389). -/
def State.owlEnd (s : State) (i : Nat) : State := if s.served i then s.owlNext i false else s.owlExpire i

/-- SLOT_PERIOD_END. (DEDUCED, log 12.) -/
def execSlotPeriodEnd (i : Fin 32) (s : State) : Host.Outcome State Fault Refusal :=
  .next (if s.owlEnds i then s.owlEnd i else s).settle

/-- When the firmware of a slot's engine checks in, once the window is open (R534): within 1 ms, at a tick the spec does not fix; or not at
all in this period, where something holds the engine's loop. (DEDUCED, log 66.) -/
def State.owlPassAt (s : State) (i : Nat) : State :=
  let d := s.draw
  d.2.modOwl i (fun h => { h with pass := some (if d.1.toNat / 1000 % 2 = 1 then none else some (s.tick + d.1.toNat % 1000)) })

/-- The check-in of a slot whose engine runs (R534), in the tick that ends now. -/
def State.owlFw (s : State) (i : Nat) : State :=
  let b := s.owlBind i
  let h := s.owlH i
  if h.run && decide (1 ≤ i) && decide (8 ≤ b) && s.eng (b - 8) == eRUN && !s.served i &&
      decide (h.start + h.wopen ≤ s.tick) then
    let s1 := if h.pass.isNone then s.owlPassAt i else s
    match (s1.owlH i).pass with
    | some (some t) => if t ≤ s.tick then (s1.setServed i true).wr (owl i) WDG.SLOT_SVC_TICK s.tick else s1
    | _ => s1
  else s

def State.owlPasses (s : State) : State := s.each (List.range 32) fun i t => t.owlFw i

/-- A check-in in a slot by the requester it is bound to (R389). -/
def State.owlCheck (s : State) (i who : Nat) : State :=
  let h := s.owlH i
  if h.late ∧ s.tick = h.start then (s.owlCount i WDG.SLOT_CNT_LATE).owlFind none 0 i 5 who
  else if s.served i then (s.owlCount i WDG.SLOT_CNT_DUP).owlFind (some 2) (if h.dup1 then 1 else 0) i 3 who
  else if !h.first ∧ s.tick < h.start + h.wopen then (s.owlCount i WDG.SLOT_CNT_EARLY).owlReact i 1 2
  else (s.setServed i true).wr (owl i) WDG.SLOT_SVC_TICK s.tick

/-- A write of KICK (R389, R390): the end of a period in its tick is judged first. -/
def State.kick (s : State) (c : Nat) (v : Word) : State :=
  let i := getBits v 0 5
  if getBits v 16 16 ≠ 0x0D15 then s.err wdgB 4 111 none none
  else
    if i = 0 ∨ 24 ≤ i ∨ s.owlBind i ≠ c ∨ !(s.owlH i).run then s.owlFind (some 3) 0 i 4 c
    else
      let s1 := if s.owlEnds i then s.owlEnd i else s
      if (s1.owlH i).run then s1.owlCheck i c else s1.owlFind (some 3) 0 i 4 c

def execKick (c : Fin 8) (v : Word) (s : State) : Host.Outcome State Fault Refusal :=
  .next (s.ifWrites c 0x2040 v fun s => s.kick c v).settle

/-- SLOTs_CFG written (R387, R390): EN, BIND at once; CLS, WARM, DUP_C1 and SUSP stored for the next period. -/
def State.owlCfg (s : State) (i : Nat) (v : Word) : State :=
  let en := s.bit (owl i) WDG.SLOT_CFG_EN
  let clr := en && getBits v 0 1 == 0
  let no := clr && s.mode != mSERVICE && s.mode != mHOLD
  let s1 := (((s.wr (owl i) WDG.SLOT_CFG_CLS (getBits v 5 3)).wr (owl i) WDG.SLOT_CFG_WARM (getBits v 8 1)).wr
    (owl i) WDG.SLOT_CFG_DUP_C1 (getBits v 9 1)).wr (owl i) WDG.SLOT_CFG_SUSP (getBits v 10 3)
  if i = 0 then s1.wr (owl 0) WDG.SLOT_CFG_CLS 1
  else if 24 ≤ i then s1
  else
    let bind := getBits v 1 4 != s.owlBind i
    let s2 := s1.wr (owl i) WDG.SLOT_CFG_BIND (getBits v 1 4)
    let s3 := if no then s2.err wdgB 5 111 none none else s2.wr (owl i) WDG.SLOT_CFG_EN (getBits v 0 1)
    let s4 := if bind then s3.modOwl i (fun h => { h with run := false }) else s3
    s4.owlSlot i

/-- SLOTs_TIME written: stored for the next period; the boot slot's PERIOD reads 2,000. -/
def State.owlTime (s : State) (i : Nat) (v : Word) : State :=
  (s.setW (owl i + 4) v).iff (i == 0) fun t => t.wr (owl 0) WDG.SLOT_TIME_PERIOD 2000

/-- A write of SLOTs_CFG that changes BIND. -/
def execWdgBindWrite (c : Fin 8) (i : Fin 32) (v : Word) (s : State) : Host.Outcome State Fault Refusal :=
  .next (s.ifWrites c (owl i) v fun s => if getBits v 1 4 = s.owlBind i then s else s.owlCfg i v).settle

/-- A write of SLOTs_CFG that changes EN. -/
def execWdgSlotEnWrite (c : Fin 8) (i : Fin 32) (v : Word) (s : State) : Host.Outcome State Fault Refusal :=
  .next (s.ifWrites c (owl i) v fun s => if (getBits v 0 1 == 1) = s.bit (owl i) WDG.SLOT_CFG_EN then s else s.owlCfg i v).settle

/-- BOOT_FAILS and the boot slot's reaction (R394). (DEDUCED, log 40.) -/
def State.bootExpire (s : State) : State :=
  let n := s.rd wdgB WDG.STATUS_BOOT_FAILS + 1
  let s1 := ((s.wr wdgB WDG.STATUS_BOOT_FAILS (min 3 n)).owlCount 0 WDG.SLOT_CNT_EXP).wr wdgB (WDG.EXPMAP_EXP.at 0) 1
  let s2 := s1.owlFind (some 0) (if 3 ≤ n then 3 else 1) 0 6 (s.owlBind 0)
  if 3 ≤ n then s2 else { s2 with warmReq := s2.warmReq ||| 1 }

/-- The boot slot expires, 2,000 ms after it was armed (R394). -/
def execBootSlotExpiry (s : State) : Host.Outcome State Fault Refusal :=
  .next (if s.mode = mWAKING ∧ s.bit wdgB WDG.STATUS_BOOT_ARMED ∧ s.ran .waking 2000000 then s.bootExpire else s).settle

end Sys2Proof.Machine
end

