-- ==== Sys2Proof/Machine/Engines.lean ====
section
/-! DEFINITION. Engines, islands and clocks: the rows of R399 to R411. -/

namespace Sys2Proof.Machine

open Sys2Proof

/-- An engine halts at a program counter that the spec does not state (R399, R402). (DEDUCED, log 67.) -/
def State.haltEng (s : State) (n : Nat) : State :=
  let d := s.draw
  ((d.2.setEng n eHALTED).wr (fe n) ENG.FE_PC_PC (d.1.toNat / 4)).setW (fe n + 0xC) s.logTime

/-- The DETAIL of an engine event (R403). (DEDUCED, log 67.) -/
def State.engDetail (s : State) (n cause : Nat) : Nat := cause + n * 16 + s.rd (fe n) ENG.FE_PC_PC % 2 ^ 24 * 256

/-- The class of LS_CLS and of EXC_CLS (R412). -/
def State.lsCls (s : State) : Nat := clampN 1 3 (s.rd engB ENG.CFG_LS_CLS)

/-- A WARM restarts the engines (R61, R410): in the modes that keep theirs, or in a WAKING that a WARM has entered, as long
as no firmware runs. (DEDUCED, log 67.) -/
def State.inWarm (s : State) : Bool :=
  s.frozen || (s.mode == mWAKING && decide (s.boot < 5) &&
    (s.rd devB DEV.MODE_PREV == mHOLD || s.rd devB DEV.MODE_PREV == mSAFE || s.rd wdgB WDG.STATUS_BOOT_FAILS != 0))

/-- A mismatch repeats an earlier one (R399, R410). -/
def State.lsRepeats (s : State) : Bool :=
  s.inWarm || match s.lsLast with
    | some t => decide (s.tick - t ≤ orIf0 (s.rd engB ENG.CFG_LS_WIN) 1 * 1000000)
    | none => false

/-- A lockstep mismatch of engine `n` (R399, R400), which repeats an earlier one or not. -/
def State.mismatchAs (s : State) (rep : Bool) (n : Nat) : State :=
  let cls := if rep then 3 else s.lsCls
  let s1 := ((s.haltEng n).count (fe n) ENG.FE_CNT_MISMATCH ENG.FE_CNT_MM_SAT engB 3 (112 + n))
  let s2 := { s1 with lsHalt := s1.lsHalt ||| 2 ^ n, lsLast := some s.tick,
                      warmReq := if rep then s1.warmReq else s1.warmReq ||| 2 }
  s2.err engB 0 (112 + n) (some cls) (some (s2.engDetail n 1))

/-- Mismatches of one cycle: none of them is an earlier one of another (R410). (DEDUCED, log 67.) -/
def State.mismatches (s : State) (l : List Nat) : State :=
  s.each l fun e t => if t.eng e ≠ eHALTED ∧ t.eng e ≠ eOFF then t.mismatchAs s.lsRepeats e else t

def execLockstepMismatch (n : Fin 8) (also : List (Fin 8)) (s : State) : Host.Outcome State Fault Refusal :=
  .next (if s.up then s.mismatches (n.val :: also.map (·.val)) else s).settle

/-- The self-test before firmware runs (R401). -/
def State.selfTest (s : State) (failed : Option (Fin 8)) : State :=
  match failed with
  | none => if s.mode = mWAKING then { s with boot := max s.boot 3 } else { s with warmTest := true }
  | some n => (s.haltEng n).err engB 1 (112 + n.val) (some 4) (some ((s.haltEng n).engDetail n 2))

def execLockstepSelfTest (failed : Option (Fin 8)) (s : State) : Host.Outcome State Fault Refusal :=
  .next (if (s.mode = mWAKING ∧ s.boot = 2) ∨ s.frozen = true then s.selfTest failed else s).settle

/-- An engine takes an exception (R402). -/
def execEngineException (n : Fin 8) (s : State) : Host.Outcome State Fault Refusal :=
  .next (if s.eng n = eRUN ∨ s.eng n = eROM then
      let s1 := (s.haltEng n).count (fe n) ENG.FE_CNT_EXCEPT ENG.FE_CNT_EXC_SAT engB 3 (112 + n.val)
      s1.err engB 2 (112 + n.val) (some (min 3 (s.rd engB ENG.CFG_EXC_CLS))) (some (s1.engDetail n 3))
    else s).settle

/-- A handshake of a sending island has lasted `us` with neither clock stretched (R405): it times out after 20 µs. DETAIL carries cause 4
and names the island, in bits that the spec does not place. (DESIGN CHOICE, log 74.) -/
def execHandshakeTimeout (sender : Fin 16) (us : Nat) (s : State) : Host.Outcome State Fault Refusal :=
  .next (if s.up ∧ 20 ≤ us then
      s.err clkB 2 132 (some (clampN 1 4 (s.rd clkB CLK.CFG_HS_CLS))) (some (4 + 16 * Config.detailOf 7 sender.val))
    else s).settle

/-- `ns` without an edge of XI, `khz` its measured frequency (R407): 2 µs, or 5 % off 25 MHz, is a loss. -/
def execRefLoss (ns khz : Nat) (s : State) : Host.Outcome State Fault Refusal :=
  .next (if s.up ∧ s.xiGood ∧ (2000 ≤ ns ∨ khz < 23750 ∨ 26250 < khz) then s.refLoss else s).settle

/-- Every island and the tick go back to XI (R407). -/
def State.refBack (s : State) : State :=
  let s1 := ((s.wr clkB CLK.STATUS_REF_RC 0).wr clkB CLK.STATUS_REF_OK 1).wr timeB TIME.STATUS_REF_RC 0
  s1.err clkB 1 132 (some 0) none

/-- XI has been good for `us` (R407): after 100 ms AUTO_RET goes back to it. -/
def execRefAutoReturn (us : Nat) (s : State) : Host.Outcome State Fault Refusal :=
  .next (if s.up ∧ s.bit clkB CLK.STATUS_REF_RC then
      let s1 := { s with xiGood := true }.wr clkB CLK.STATUS_REF_OK 1
      if s.bit clkB CLK.CFG_AUTO_RET ∧ 100000 ≤ us then s1.refBack else s1
    else s).settle

/-- A write of CLK.CTRL (R407). -/
def State.clkRet (s : State) (v : Word) : State :=
  if getBits v 0 1 = 1 ∧ s.xiGood ∧ s.bit clkB CLK.STATUS_REF_RC then s.refBack else s

def execClkRet (c : Fin 8) (v : Word) (s : State) : Host.Outcome State Fault Refusal :=
  .next (s.ifWrites c 0x444 v fun s => s.clkRet v).settle

/-! Droop (R408). -/

def State.droopOf (s : State) (i : Nat) : Nat × Bool := (s.droops[i]?).getD (0, false)
def State.setDroop (s : State) (i : Nat) (d : Nat × Bool) : State := { s with droops := s.droops.setIfInBounds i d }

/-- The droop threshold, in thousandths below nominal (R411). -/
def State.droopLvl (s : State) : Nat := match s.rd clkB CLK.CFG_DROOP_LVL with | 0 => 30 | 1 => 50 | 2 => 70 | _ => 100

/-- A sag stretches an island's clock to its cap. An episode begins where none runs: its C0 raise and its count. -/
def State.droop (s : State) (i : Nat) : State :=
  if (s.droopOf i).1 ≠ 0 then s.setDroop i (4, (s.droopOf i).2)
  else
    ((((s.setDroop i (4, false)).wr clkB (CLK.ISL_STRETCH.at (16 + i)) 1).count (drp i) CLK.DRP_COUNT CLK.DRP_SAT clkB 4 132)).post
      132 (some 0) (some 1)

/-- An island's supply is `pm` thousandths below nominal. -/
def execDroop (i : Fin 16) (pm : Nat) (s : State) : Host.Outcome State Fault Refusal :=
  .next (if s.up ∧ s.droopLvl < pm then s.droop i else s).settle

/-- One step of the release: the supply is `pm` thousandths below nominal, `gap` is the time in 10 ns since it rose above the threshold plus
1 %, or since the last step; `ns10` the episode's length so far in 10 ns. -/
def execDroopReleaseStep (i : Fin 16) (pm gap ns10 : Nat) (s : State) : Host.Outcome State Fault Refusal :=
  .next (
    let d := s.droopOf i
    if d.1 = 0 ∨ s.droopLvl < pm + 10 ∨ gap < orIf0 (s.rd clkB CLK.CFG_REL_T) 1 then s
    else if d.1 = 1 then
      ((s.setDroop i (0, false)).wr clkB (CLK.ISL_STRETCH.at (16 + i)) 0).wr (drp i) CLK.DRP_LONGEST
        (max (s.rd (drp i) CLK.DRP_LONGEST) (min 0x7FFF ns10))
    else s.setDroop i (d.1 - 1, d.2)).settle

/-- An episode, `ns10` long in 10 ns, lasts beyond LONG_T: told once. -/
def execDroopLong (i : Fin 16) (ns10 : Nat) (s : State) : Host.Outcome State Fault Refusal :=
  .next (
    let d := s.droopOf i
    if d.1 ≠ 0 ∧ !d.2 ∧ 100 * orIf0 (s.rd clkB CLK.CFG_LONG_T) 1 < ns10 then (s.setDroop i (d.1, true)).err clkB 3 132 (some 1) (some 2) else s).settle

end Sys2Proof.Machine
end

