-- ==== Sys2Proof/Machine/Marg.lean ====
section
/-! DEFINITION. Margins (R260 to R267) and the snapshot commands (R270, R271). -/

namespace Sys2Proof.Machine

open Sys2Proof

abbrev opMargin : Nat := 0x03
abbrev opSnapshot : Nat := 0x04

/-- NEXT of an output becomes its margin in use; a change of it ends a rail's identification run (R268). -/
def State.margTake (s : State) (x : Nat) : State :=
  let s1 := s.iff (decide (x < 12) && s.rd (marg x) MARG.OUT_NEXT != s.rd (marg x) MARG.OUT_CUR) fun t => t.lidAbort x 5
  (((s1.wr (marg x) MARG.OUT_CUR (s1.rd (marg x) MARG.OUT_NEXT)).wr (marg x) MARG.OUT_PEND 0).retarget x).margAny

def State.margPends (s : State) : List Nat := (List.range 38).filter (fun x => s.bit (marg x) MARG.OUT_PEND)

/-- The copy of R265 for every output with PEND set. -/
def State.margCopy (s : State) : State := s.each s.margPends fun x t => t.margTake x

/-- An apply would change a margin in use (R262). -/
def State.margChanges (s : State) : Bool := s.margPends.any (fun x => s.rd (marg x) MARG.OUT_NEXT != s.rd (marg x) MARG.OUT_CUR)

/-- A write of CTRL.APPLY (R262, R265). -/
def State.margApply (s : State) : State :=
  if s.mode ≠ mSERVICE ∧ s.margChanges then s.errQ margB 0 0
  else s.margCopy

/-- SYNC.ARM and its copy in STATUS. -/
def State.setArm (s : State) (b : Bool) : State := (s.wrB margB MARG.SYNC_ARM b).wrB margB MARG.STATUS_ARMED b

/-- The synchronised state has been reached (R262, R266). -/
def State.margSync (s : State) : State :=
  if !s.flail.sync then s
  else
    let s1 := (s.modFlail (fun h => { h with sync := false })).setArm false
    if s.mode = mSERVICE then s1.margCopy
    else
      let s2 := s1.errQ margB 2 0
      if s.margChanges then s2.errQ margB 0 0 else s2

/-- A signed code of −20 to +20. -/
def margOk (v : Int) : Bool := decide (-20 ≤ v ∧ v ≤ 20)

/-- MARGIN (R267). -/
def execMargin (t : BitVec 8) (s : State) : Host.Outcome State Fault Refusal :=
  .next (s.start t opMargin fun k s =>
    let x := getBits k.a0 0 6
    let code := getBits k.a1 0 6
    let defer := getBits k.a1 8 1 == 1
    if s.mode ≠ mSERVICE ∧ !defer then s.failK k 1
    else if 38 ≤ x ∨ !margOk (signOf 6 code) then s.failK k 2
    else if k.a0.toNat / 64 ≠ 0 ∨ getBits k.a1 6 2 ≠ 0 ∨ k.a1.toNat / 512 ≠ 0 ∨ k.a2 ≠ 0 then s.failK k 3
    else
      let s1 := (s.endMoves x stSUPERSEDED 0).wr (marg x) MARG.OUT_NEXT code
      if defer then (s1.wr (marg x) MARG.OUT_PEND 1).doneK k 0
      else
        let s2 := (s1.runK (if outKind x = .ldo then { k with aux := s.tick } else k)).margTake x
        let idle := !s2.regulates x && s2.outSt x != 1 && s2.outSt x != 2
        if idle then s2.endMoves x stDONE 0 else s2).settle

/-- SNAPSHOT (R271), in its turn (R330). The numbers of its causes MODE, BUSY and ARGS are not given. (DESIGN CHOICE, log 14.) -/
def execSnapshot (t : BitVec 8) (s : State) : Host.Outcome State Fault Refusal :=
  .next (match s.findCmd t.toNat with
  | none => s
  | some k =>
    if k.op = opSnapshot ∧ k.phase = Phase.waiting ∧ !s.cmdStopped k ∧ s.inTurn k then
      if s.mode = mLOCKOUT ∨ 2 ≤ s.snaps.length ∨ k.a0.toNat / 0x10000 ≠ 0 ∨ k.a1 ≠ 0 ∨ k.a2 ≠ 0 then s.failFree k
      else (s.runK k).snapshot 3 0xFF 0 (getBits k.a0 0 16) k.ctx.val (some k.tag)
    else s).settle

end Sys2Proof.Machine
end

