-- ==== Sys2Proof/Machine/Memory.lean ====
section
/-! DEFINITION. ECC, retirement, scrubbing, the NVM host area and the lofts (R413 to R430), and FE7's log writes. -/

namespace Sys2Proof.Machine

open Sys2Proof

/-- The NVM supply is out of window: writes are refused (R156). -/
def State.nvmOff (s : State) : Bool := s.supOut.testBit 4

/-- What is left at a place whose programming failed verify: bytes that the spec does not state. (DESIGN CHOICE, log 55.) -/
def State.nvmJunk (s : State) (a : Nat) : Nat → State
  | 0 => s
  | n + 1 => let d := s.draw; (d.2.nvmPut a [BitVec.ofNat 8 d.1.toNat]).nvmJunk (a + 1) n

/-! ECC reports (R414, R415). `sp`: 0 SRAM, 1 NVM. -/

def cntK (sp : Nat) : Nat := eccB + 0x44 + 4 * sp
def lastK (sp : Nat) : Nat := eccB + 0x4C + 4 * sp

def eccDetail (cause addr : Nat) : Option Nat := some (cause + addr % 2 ^ 22 * 16)

/-- The class field of UE or HARD: 1 to 4 (R429). -/
def State.ueCls (s : State) (sp : Nat) : Nat := clampN 1 4 (s.rd eccB (if sp = 0 then ECC.CFG_UE_CLS_S else ECC.CFG_UE_CLS_N))

def State.ceDue (s : State) (sp : Nat) : Bool := (if sp = 0 then s.ceMs.1 else s.ceMs.2) != some (s.tick / 1000)

/-- A hard fault (R414). -/
def State.hardFault (s : State) (sp addr : Nat) : State :=
  let s1 := ((s.wr eccB ECC.HARD_LAST_ADDR addr).wr eccB ECC.HARD_LAST_NVM sp).wr eccB ECC.HARD_LAST_VALID 1
  s1.err eccB 4 (120 + sp) (some (clampN 1 4 (s.rd eccB ECC.CFG_HARD_CLS))) (eccDetail 3 addr)

/-- A word found wrong: counted, recorded and raised. `quiet`: during a scrub, no raise of its own (R422). -/
def State.eccHit (s : State) (sp : Nat) (h : EccHit) (quiet : Bool) : State :=
  let a := s.wr (lastK sp) ECC.LAST_ADDR h.addr |>.wr (lastK sp) ECC.LAST_KIND (if h.ue then 2 else 1)
  let b := if h.ue then a.count (cntK sp) ECC.CNT_UE ECC.CNT_UE_SAT eccB 6 (120 + sp)
    else a.count (cntK sp) ECC.CNT_CE ECC.CNT_CE_SAT eccB 6 (120 + sp)
  let c := if quiet then b.errQ eccB (2 * sp + if h.ue then 1 else 0) (120 + sp)
    else if h.ue then b.err eccB (2 * sp + 1) (120 + sp) (some (s.ueCls sp)) (eccDetail 2 h.addr)
    else if s.ceDue sp then
      { b with ceMs := if sp = 0 then (some (s.tick / 1000), s.ceMs.2) else (s.ceMs.1, some (s.tick / 1000)) }.err eccB (2 * sp)
        (120 + sp) (some (min 2 (s.rd eccB ECC.CFG_CE_CLS))) (eccDetail 1 h.addr)
    else b.errQ eccB (2 * sp) (120 + sp)
  if h.ue || (h.hard && sp == 0) then c.hardFault sp h.addr else c

/-- (DESIGN CHOICE, log 55.) -/
def State.eccHits (s : State) (sp : Nat) (l : List EccHit) (quiet : Bool) : State := l.foldl (fun t h => t.eccHit sp h quiet) s

/-- The uncorrectable NVM words of FE7's reads at a start. -/
def ueAt (l : List EccHit) (lo n : Nat) : Option Nat :=
  l.foldl (fun b h => if h.ue ∧ lo ≤ h.addr ∧ h.addr < lo + n then
    (match b with | none => some h.addr | some a => some (min a h.addr)) else b) none

/-- The checkers' self-test in WAKING (R417): checkers 0 to 7 are the engines', 8 shared SRAM's, 9 NVM's. -/
def execCheckerSelfTest (failed : Option (Fin 10)) (s : State) : Host.Outcome State Fault Refusal :=
  .next (if s.mode = mWAKING ∧ s.boot = 1 then
      match failed with
      | none => { s.wr eccB ECC.STATUS_ST_PASS 1 with boot := 2 }
      | some k => s.err eccB 5 (if k.val = 9 then 121 else 120) (some 4) (some 4)
    else s).settle

/-! Retirement (R418 to R420). -/

def sramTop : Nat := 0x140000
def nvmTop : Nat := 0x400000
def spaceTop (nv : Bool) : Nat := if nv then nvmTop else sramTop
def retAt (i : Nat) : Nat := 0x3E0000 + 16 * i

/-- Does entry `i` of the table in NVM hold a retirement: its CRC stands (R420). -/
def State.retValid (s : State) (i : Nat) : Bool :=
  let e := s.nvmBytes (retAt i) 16
  !e.all (· == erased) && leNat (e.drop 12) == crc32 (e.take 12)

/-- The lowest spare that no valid entry of the space names (R418). -/
def State.retSpare (s : State) (nv : Bool) : Nat :=
  ((List.range 32).find? fun n => !(List.range 64).any fun i =>
    let w := leNat (s.nvmBytes (retAt i) 4)
    s.retValid i && (w / 2 ^ 22 % 2 == 1) == nv && w / 2 ^ 24 % 2 ^ 6 == n).getD 0

def State.retCount (s : State) (nv : Bool) : Nat := (s.retired.filter (fun r => r.2 == nv)).length

/-- ECC.RET, and DEV.REPLACE_SRC.RETIRE (R420). (DESIGN CHOICE, log 56.) -/
def State.retShow (s : State) : State :=
  let ns := s.retCount false
  let nn := s.retCount true
  ((s.wr eccB ECC.RET_NS ns).wr eccB ECC.RET_NN nn).setRepl DEV.REPLACE_SRC_RETIRE
    (s.retShort || decide (orIf0 (s.rd eccB ECC.CFG_RET_THR_S) 1 ≤ ns) || decide (orIf0 (s.rd eccB ECC.CFG_RET_THR_N) 1 ≤ nn))

/-- An entry's 12 bytes before its CRC: address, space and spare, then TIME. (DESIGN CHOICE, log 56.) -/
def State.retEntry (s : State) (base : Nat) (nv : Bool) (spare : Nat) : List Byte :=
  leBytes 4 (base + (if nv then 1 else 0) * 2 ^ 22 + spare * 2 ^ 24) ++ leBytes 4 s.timeNs ++ leBytes 4 s.timeSec

/-- The entries of the table in NVM (R420): an erased entry ends it, one whose CRC fails is told and ignored.
(DESIGN CHOICE, log 56.) -/
def State.retLoad : Nat → Nat → State → State
  | 0, _, s => s
  | n + 1, i, s =>
    let e := s.nvmBytes (retAt i) 16
    if e.all (· == erased) then s
    else if s.retValid i then
      let w := leNat (e.take 4)
      State.retLoad n (i + 1) { s with retired := s.retired ++ [(w % 2 ^ 22, (w / 2 ^ 22) % 2 == 1)] }
    else State.retLoad n (i + 1) (s.post 121 (some 1) (eccDetail 3 (retAt i)))

/-- The place of the next entry. -/
def State.retFree (s : State) : Nat :=
  ((List.range 64).find? (fun i => (s.nvmBytes (retAt i) 16).all (· == erased))).getD 64

/-- The index of the entry of a page or sector in the table. (DESIGN CHOICE, log 56.) -/
def State.retIndex (s : State) (base : Nat) (nv : Bool) : Nat :=
  ((List.range 64).find? (fun i => s.retValid i &&
    leNat (s.nvmBytes (retAt i) 4) % 2 ^ 23 == base + (if nv then 2 ^ 22 else 0))).getD 0

/-- RETIRE. Its cause while NVM writes are refused (R156) is not stated. (DESIGN CHOICE, log 56.) -/
def execRetire (t : BitVec 8) (s : State) : Host.Outcome State Fault Refusal :=
  .next (s.start t 0x10 fun k s =>
    let nv := getBits k.a1 0 1 == 1
    let a := k.a0.toNat
    let base := a / 0x1000 * 0x1000
    if spaceTop nv ≤ a then s.failK k 1
    else if k.a1.toNat / 2 ≠ 0 ∨ k.a2 ≠ 0 then s.failK k 3
    else if s.retired.contains (base, nv) then s.doneK k (s.retIndex base nv)
    else if (if nv then 32 else 8) ≤ s.retCount nv then ({ s with retShort := true }.retShow).failK k 2
    else if s.nvmOff then s.failFree k
    else
      let e := s.retEntry base nv (s.retSpare nv)
      let s1 := s.nvmPut (retAt s.retFree) (e ++ leBytes 4 (crc32 e))
      ({ s1 with retired := s1.retired ++ [(base, nv)] }.retShow).doneK k s.retFree).settle

/-! The winnower (R421, R422). -/

def maxN (l : List Nat) : Option Nat := l.foldl (fun b a => match b with | none => some a | some x => some (min x a)) none

/-- What a scrub has found: the numbers of uncorrectable and of corrected words, and the lowest address of each. -/
structure Scrubbed where
  ues : Nat
  ces : Nat
  ue : Option Nat
  ce : Option Nat
  deriving DecidableEq, Repr

/-- The findings as the number that a scrub keeps while it gives way (R348). -/
def Scrubbed.toAux (t : Scrubbed) : Nat :=
  let a := fun (x : Option Nat) => match x with | some v => v + 1 | none => 0
  t.ues + t.ces * 2 ^ 24 + a t.ue * 2 ^ 48 + a t.ce * 2 ^ 72

def Scrubbed.ofAux (n : Nat) : Scrubbed :=
  let a := fun (v : Nat) => if v = 0 then none else some (v - 1)
  { ues := n % 2 ^ 24, ces := n / 2 ^ 24 % 2 ^ 24, ue := a (n / 2 ^ 48 % 2 ^ 24), ce := a (n / 2 ^ 72) }

def Scrubbed.plus (t : Scrubbed) (l : List EccHit) : Scrubbed :=
  let u := (l.filter (fun h => h.ue)).map (fun h => h.addr)
  let c := (l.filter (fun h => !h.ue)).map (fun h => h.addr)
  { ues := t.ues + u.length, ces := t.ces + c.length, ue := maxN (t.ue.toList ++ u), ce := maxN (t.ce.toList ++ c) }

/-- SCRUB of a range whose wrong words are `hits`, word by word (R347). -/
def execScrub (t : BitVec 8) (hits : List EccHit) (s : State) : Host.Outcome State Fault Refusal :=
  .next (s.start t 0x0E fun k s =>
    let sp := getBits k.a2 0 1
    let w := if sp = 1 then 8 else 4
    let lo := k.a0.toNat
    let n := k.a1.toNat
    let o := getBits k.a2 8 7
    let rew := getBits k.a2 1 1 == 1
    if n = 0 ∨ spaceTop (sp == 1) < lo + n then s.failK k 1
    else if lo % w ≠ 0 ∨ n % w ≠ 0 then s.failK k 2
    else if getBits k.a2 2 6 ≠ 0 ∨ k.a2.toNat / 0x8000 ≠ 0 ∨ (rew ∧ sp = 0) then s.failK k 3
    else if rew ∧ s.nvmOff then s.failK k 4
    else if 128 < o + 16 then s.failK k 0xFE
    else
      let m := s.unitsNow k (n / w)
      let l := hits.filter (fun h => decide (lo + w * k.prog ≤ h.addr ∧ h.addr < lo + w * (k.prog + m) ∧ h.addr % w = 0))
      let t := Scrubbed.plus (Scrubbed.ofAux k.aux) l
      let s1 := s.eccHits sp l true
      if k.prog + m < n / w then s1.yield { k with aux := t.toAux } (k.prog + m)
      else
        let first := match t.ue, t.ce with
          | some a, _ => a
          | none, some a => a + 2 ^ 31
          | none, none => 0xFFFFFFFF
        let s2 := match t.ue with
          | some a => s1.post (120 + sp) (some (s.ueCls sp)) (eccDetail 5 a)
          | none => s1
        s2.completeB k stDONE t.ues o (leBytes 4 (n / w) ++ leBytes 4 t.ces ++ leBytes 4 t.ues ++ leBytes 4 first)).settle

/-! The NVM host area (R427). -/

/-- NVM_WRITE, in program pages of 32 bytes (R347). `fail`: a program or erase failed verify. -/
def execNvmWrite (t : BitVec 8) (fail : Bool) (s : State) : Host.Outcome State Fault Refusal :=
  .next (s.start t 0x0D fun k s =>
    let n := getBits k.a1 0 8
    let o := getBits k.a1 8 7
    let a := k.a0.toNat
    if a < 0x68000 ∨ 0x80000 < a + n ∨ n = 0 ∨ 128 < n then s.failK k 1
    else if k.a1.toNat / 0x8000 ≠ 0 ∨ k.a2 ≠ 0 then s.failK k 2
    else if s.nvmOff then s.failK k 3
    else if 128 < o + n then s.failK k 0xFE
    else
      let m := s.unitsNow k ((n + 31) / 32)
      let p := 32 * k.prog
      if fail then ((s.nvmJunk (0x380000 + a + p) (n - p)).err loftB 2 124 (some 1) none).failK k 4
      else
        let s1 := s.nvmPut (0x380000 + a + p) (((k.buf.drop o).take n).drop p |>.take (32 * m))
        if p + 32 * m < n then s1.yield k (k.prog + m) else s1.doneK k 0).settle

/-! The lofts (R423 to R426). -/

def loftAt (seq : Nat) : Nat := 0x380000 + seq % 2 * 0x10000 + seq / 2 % 128 * 0x200

/-- The update state of R452 as the NVM page mirrors it. -/
def State.updByte (s : State) : Nat :=
  s.rd nvmB NVM.STATUS_STAGE + s.rd nvmB NVM.UPD_CONF * 4 + s.rd nvmB NVM.UPD_CUR * 16 + s.rd nvmB NVM.UPD_KEPT * 32 +
    s.rd nvmB NVM.UPD_FW_NEW * 64 + s.rd nvmB NVM.STATUS_COPYING * 128

/-- A bit of each of the phases 0 to 47. -/
def State.phBits (s : State) (f : Fld) : Nat := (List.range 48).foldl (fun a p => if s.bit (ph p) f then a + 2 ^ p else a) 0

/-- The device fields of a record, bytes 0x00C to 0x06F (R424). -/
def State.loftFields (s : State) : List Byte :=
  leBytes 4 (s.rd devB DEV.REPLACE_SRC_SPARE + 2 * s.rd devB DEV.REPLACE_SRC_LOCKSTEP) ++
  leBytes 8 (s.phBits PHX.MAP_REMOVED) ++ leBytes 8 (s.phBits PHX.MAP_SUBST) ++
  (List.range 48).map (fun p => BitVec.ofNat 8 (s.rd (ph p) PHX.MAP_HELD_SLOT)) ++
  leBytes 4 s.updByte ++ leBytes 4 (s.rd nvmB NVM.PKG_LEN) ++ leBytes 4 (s.rd nvmB NVM.PKG_KINDS) ++ List.replicate 20 0

/-- The host data of the current record. -/
def State.loftHost (s : State) : List Byte :=
  (wordBytes (s.words 32 (fun w => loftB + 0x80 + 4 * w))).take (s.rd loftB LOFT.CUR_POS_LEN)

/-- A whole record (R424). -/
def State.loftRec (s : State) (seq : Nat) (host : List Byte) : List Byte :=
  let b := leBytes 4 0x000110F7 ++ leBytes 4 seq ++ leBytes 4 s.logTime.toNat ++ s.loftFields ++ List.replicate 0x90 0 ++
    leBytes 4 host.length ++ host ++ List.replicate (128 - host.length) 0 ++ List.replicate 0x78 0
  b ++ leBytes 4 (crc32 b)

/-- The registers of the current record. -/
def State.loftShow (s : State) (seq t : Nat) (host : List Byte) : State :=
  let s1 := (((s.wr loftB LOFT.CUR_SEQ_SEQ seq).wr loftB LOFT.CUR_POS_SLOT (seq / 2 % 128)).wr loftB LOFT.CUR_POS_LOFT (seq % 2)).wr
    loftB LOFT.CUR_POS_LEN host.length
  (s1.wr loftB LOFT.CUR_T_T t).each (List.range 32) fun w u =>
    u.setW (loftB + 0x80 + 4 * w) (BitVec.ofNat 32 (leNat ((host.drop (4 * w)).take 4)))

/-- A commit (R423, R426). A failed one uses up its number and its slot. (DESIGN CHOICE, log 56.) -/
def State.loftCommit (s : State) (host : List Byte) (fail : Bool) : State :=
  let q := s.loftNext
  let s0 := { s with loftNext := (q + 1) % 2 ^ 32 }
  let s1 := if q / 2 % 8 = 0 then s0.nvmErase (loftAt q) else s0
  if fail then (s1.nvmJunk (loftAt q) 0x200).err loftB 2 124 (some 1) none
  else
    let s2 := s1.nvmPut (loftAt q) (s.loftRec q host)
    ((s2.loftShow q s.logTime.toNat host).wr loftB LOFT.STATUS_NONE 0 |>.wr loftB LOFT.STATUS_TORN 0).count loftB
      LOFT.COMMITS_COUNT LOFT.COMMITS_SAT loftB 3 124

/-- NVMW is FE7's, or free: then the arbiter grants it in the tick in which FE7 asks (R35, R342). (DEDUCED, log 80.) -/
def State.nvmwFree (s : State) : Bool := s.engineHolds 6 feSeven || (s.grantOf 6).isNone

/-- FE7 may write a record now: under a grant of its own, or of a command of its update work (R35, R338). (DEDUCED, log 80.) -/
def State.loftPort (s : State) : Bool :=
  !s.nvmOff && (s.nvmwFree || (match s.grantOf 6 with
    | some g => (match g.org with
      | .tag t => (match s.findCmd t with
        | some k => s.mode != mWAKING && decide (k.op = 0x11 ∨ k.op = 0x12 ∨ k.op = 0x13)
        | none => false)
      | _ => false)
    | none => false))

/-- A commit with the host data unchanged, as a rule of its own asks for; without the port it waits as FE7's own
commit. (DESIGN CHOICE, log 56; DEDUCED, log 80.) -/
def State.loftKeep (s : State) : State := if s.loftPort then s.loftCommit s.loftHost false else s

/-- LOFT_COMMIT. -/
def execLoftCommit (t : BitVec 8) (fail : Bool) (s : State) : Host.Outcome State Fault Refusal :=
  .next (s.start t 0x0F fun k s =>
    let n := getBits k.a0 0 8
    let o := getBits k.a1 0 7
    if n = 0 ∨ 128 < n then s.failK k 1
    else if k.a0.toNat / 0x100 ≠ 0 ∨ k.a1.toNat / 0x80 ≠ 0 ∨ k.a2 ≠ 0 then s.failK k 2
    else if s.nvmOff then s.failK k 3
    else if 128 < o + n then s.failK k 0xFE
    else
      let s1 := s.loftCommit ((k.buf.drop o).take n) fail
      if fail then s1.failK k 4 else s1.doneK k s.loftNext).settle

/-- Device fields differ from the current record's (R426). -/
def State.loftStale (s : State) : Bool :=
  if s.bit loftB LOFT.STATUS_NONE then s.loftFields.any (· != 0)
  else s.nvmBytes (loftAt (s.rd loftB LOFT.CUR_SEQ_SEQ) + 0xC) 0x64 != s.loftFields

/-- FE7 has a record of its own to write. In LOCKOUT it serves log reads only (R40). -/
def State.loftDue (s : State) : Bool :=
  decide (mHOLD ≤ s.mode) && !s.stopped 7 && s.mode != mLOCKOUT && s.loftStale

/-- FE7 asks for the port for it. -/
def State.loftAsk (s : State) : State := if s.loftDue then s.engineAsk 3 feSeven else s

/-- FE7 gives the port up once nothing waits. -/
def State.fe7Done (s : State) : State := if s.logQ.isEmpty && (s.snaps.isEmpty || s.snapLeft == some 0) && !s.loftDue then s.engineDone 6 feSeven else s

/-- FE7's own commit. -/
def execLoftAutoCommit (fail : Bool) (s : State) : Host.Outcome State Fault Refusal :=
  .next (if s.loftDue && !s.nvmOff && s.engineHolds 6 feSeven then (s.loftCommit s.loftHost fail).fe7Done else s).settle

/-- LOFT.STATUS.BUSY: a commit has the port (R430). -/
def State.loftBusy (s : State) : Bool :=
  (s.loftDue && !s.nvmOff && s.engineHolds 6 feSeven) ||
    s.cmds.any (fun k => k.op == 0x0F && k.phase == .waiting && s.holdsAll k && !s.cmdStopped k)

/-- Newer in the ordering of R425. -/
def newer (a b : Nat) : Bool := let d := (a + 2 ^ 32 - b) % 2 ^ 32; decide (1 ≤ d ∧ d < 2 ^ 31)

/-- Is the slot at an address valid (R425)? -/
def State.loftValid (s : State) (hits : List EccHit) (a : Nat) : Bool :=
  let e := s.nvmBytes a 0x200
  leNat (e.take 4) == 0x000110F7 && leNat (e.drop 0x1FC) == crc32 (e.take 0x1FC) && (ueAt hits a 0x200).isNone

def State.loftSeqAt (s : State) (a : Nat) : Nat := leNat (s.nvmBytes (a + 4) 4)

/-- The current record: of the valid ones the newest, and of two equal ones that of loft A (R425). -/
def State.loftPick (s : State) (hits : List EccHit) : Option Nat :=
  ((List.range 256).map (fun i => 0x380000 + 0x200 * i)).foldl (fun b a =>
    if s.loftValid hits a then
      (match b with | none => some a | some x => if newer (s.loftSeqAt a) (s.loftSeqAt x) then some a else some x)
    else b) none

/-- Device fields take effect from a record (R425). -/
def State.loftApply (s : State) (f : List Byte) : State :=
  let w := leNat (f.take 4)
  let rem := leNat ((f.drop 4).take 8)
  let sub := leNat ((f.drop 12).take 8)
  let s1 := (s.setRepl DEV.REPLACE_SRC_SPARE (w.testBit 0)).setRepl DEV.REPLACE_SRC_LOCKSTEP (w.testBit 1)
  let s2 := s1.each (List.range 48) fun p t =>
    let t1 := ((t.wrB (ph p) PHX.MAP_REMOVED (rem.testBit p)).wrB (ph p) PHX.MAP_SUBST (sub.testBit p)).wr (ph p)
      PHX.MAP_HELD_SLOT (leNat ((f.drop (20 + p)).take 1))
    if rem.testBit p then t1.wr (ph p) PHX.PSTAT_STATE phREMOVED else t1
  let u := leNat ((f.drop 68).take 4)
  let g := fun (t : State) (fl : Fld) (lo w : Nat) => t.wr nvmB fl (u / 2 ^ lo % 2 ^ w)
  ((g (g (g (g (g (g s2 NVM.STATUS_STAGE 0 2) NVM.UPD_CONF 2 2) NVM.UPD_CUR 4 1) NVM.UPD_KEPT 5 1) NVM.UPD_FW_NEW 6 1)
    NVM.STATUS_COPYING 7 1).wr nvmB NVM.PKG_LEN (leNat ((f.drop 72).take 4))).wr nvmB NVM.PKG_KINDS (leNat ((f.drop 76).take 4))

/-- FE7 reads the lofts in WAKING. -/
def State.loftScan (s : State) (hits : List EccHit) : State :=
  let s0 := s.eccHits 1 hits false
  match s0.loftPick hits with
  | none =>
    { (((s0.loftApply (List.replicate 0x64 0)).loftShow 0 0 []).wr loftB LOFT.STATUS_TORN 0).wr loftB LOFT.STATUS_NONE 1 with loftNext := 0 }.err
      loftB 0 124 none none
  | some a =>
    let e := s0.nvmBytes a 0x200
    let q := leNat ((e.drop 4).take 4)
    let s1 := (s0.loftApply ((e.drop 0xC).take 0x64)).loftShow q (leNat ((e.drop 8).take 4))
      ((e.drop 0x104).take (min 128 (leNat ((e.drop 0x100).take 1))))
    let s2 := { (s1.wr loftB LOFT.STATUS_NONE 0).wr loftB LOFT.STATUS_TORN 0 with loftNext := (q + 1) % 2 ^ 32 }
    let b := loftAt (q + 1)
    let torn := (s.nvmBytes b 4).any (· != erased) && !s.loftValid hits b
    if torn then (s2.wr loftB LOFT.STATUS_TORN 1).err loftB 1 124 (some 0) none else s2

/-- The words of NVM that FE7's scan finds wrong are `hits`. -/
def execLoftScan (hits : List EccHit) (s : State) : Host.Outcome State Fault Refusal :=
  .next (if s.mode = mWAKING ∧ s.boot = 3 ∧ s.eng 7 ≠ eHALTED then { s.loftScan hits with boot := 4 } else s).settle

/-! FE7's log (R505 to R507). -/

/-- The write port serves FE7's records, once FE7 knows where the next one goes (R506). (DEDUCED, log 52.) -/
def State.fe7Writes (s : State) : Bool :=
  s.up && !s.stopped 7 && !s.nvmOff && s.bit logB LOG.STATUS_SCAN_DONE && s.engineHolds 6 feSeven

/-- The oldest waiting record reaches the log; `fail`: its program failed verify, its position is skipped. -/
def execEventRecordWrite (fail : Bool) (s : State) : Host.Outcome State Fault Refusal :=
  .next (match s.logQ with
    | [] => s
    | w :: rest =>
      if !s.fe7Writes then s
      else
        let s1 := { s with logQ := rest }
        if fail then ((((s1.logErase).nvmJunk (logB0 + 8 * s1.rd logB LOG.EV_POS_NEXT) 8).logNext.logLost).err logB 1 123 none none).fe7Done else (s1.logPut w).fe7Done).settle

/-- The port serves the oldest buffer: FE7's own grant, or that of the SNAPSHOT that waits on it. -/
def State.snapPort (s : State) : Bool :=
  s.engineHolds 6 feSeven || (match s.snaps with
    | x :: _ => (match x.tag with | some t => s.tagHolds t 3 | none => false)
    | [] => false)

/-- The write of a capture buffer has all it needs. After a C4's capture nothing later is written (R270, R377). -/
def State.snapMay (s : State) : Bool := s.up && !s.stopped 7 && !s.nvmOff && s.snapPort && s.snapLeft != some 0

/-- LOG.SN_STAT.BUSY: the slot being written, 0xFF none (R506, R508). -/
def State.snapBusy (s : State) : Nat := match s.snaps with | x :: _ => if s.snapMay then x.seq % 192 else 0xFF | [] => 0xFF

/-- The holder of NVMW has to give way before the last page of the oldest buffer is written (R346, R347). -/
def State.snapDue (s : State) : Option Nat :=
  match s.snaps with
  | x :: _ => if x.pages + 1 < 32 ∧ s.mustRevoke 6 then some 6 else none
  | [] => none

/-- FE7 has written the oldest capture buffer to its slot (R270), or a page of it where it has to give way (R347). -/
def execSnapshotWritten (s : State) : Host.Outcome State Fault Refusal :=
  .next (if s.snapMay then
      (match s.snapDue with
        | some r => s.snapYield r
        | none => s.snapWrite.fe7Done)
    else s).settle

/-- The slot of the newest valid snapshot. -/
def State.snapNewest (s : State) : Option Nat :=
  ((List.range 192).filter s.snapHeld).foldl (fun b i => match b with
    | none => some i
    | some x => if newer (leNat (s.nvmBytes (snapAt i + 4) 4)) (leNat (s.nvmBytes (snapAt x + 4) 4)) then some i else some x) none

/-- FE7 scans the log in WAKING (R506). -/
def State.logScan (s : State) : State :=
  let v := ((List.range 8192).filter (fun p => s.nvmByte (logB0 + 8 * p) != erased)).length
  let s1 := ((s.wr logB LOG.EV_POS_NEXT s.logFirst).wr logB LOG.EV_POS_VALID v).wr logB LOG.SN_STAT_COUNT s.snapCount
  let s2 := match s.snapNewest with
    | some i =>
      let q := leNat (s.nvmBytes (snapAt i + 4) 4)
      { ((s1.wr logB LOG.SN_STAT_NEWEST i).wr margB MARG.SNAPSEQ_SEQ q) with snapNext := (q + 1) % 2 ^ 32 }
    | none => s1
  s2.wr logB LOG.STATUS_SCAN_DONE 1

def execLogScan (s : State) : Host.Outcome State Fault Refusal :=
  .next (if s.mode = mWAKING ∧ 3 ≤ s.boot ∧ s.eng 7 ≠ eHALTED then s.logScan else s).settle

end Sys2Proof.Machine
end

