-- ==== Sys2Proof/Machine/Crypto.lean ====
section
/-! DEFINITION. The published algorithms that the spec names (R22, R448, R450): CRC-64 of ECMA-182, SHA-256, and ECDSA
over the curve P-256. -/

namespace Sys2Proof.Machine

open Sys2Proof

/-! CRC-64: no reflection, no inversion (R450). -/

def crc64Bit (c : Nat) : Nat := if c.testBit 63 then (c * 2 % 2 ^ 64).xor 0x42F0E1EBA9EA3693 else c * 2
def crc64Byte (c : Nat) (b : Byte) : Nat := (List.range 8).foldl (fun x _ => crc64Bit x) (c.xor (b.toNat * 2 ^ 56))
def crc64 (l : List Byte) : Nat := l.foldl crc64Byte 0

/-! SHA-256 (FIPS 180-4), whose constants are the first 32 fraction bits of roots of the first primes. -/

/-- The greatest whole number whose power `k` is at most `v`, bit by bit from 2^35 down. -/
def rootOf (k v : Nat) : Nat := (List.range 36).foldr (fun i r => if (r + 2 ^ i) ^ k ≤ v then r + 2 ^ i else r) 0

/-- The first 32 fraction bits of the root of order `k` of `p`. -/
def rootFrac (k p : Nat) : Word := BitVec.ofNat 32 (rootOf k (p * 2 ^ (32 * k)))

/-- The first 64 primes. -/
def shaPrimes : List Nat := (List.range 312).filter (fun n => decide (2 ≤ n) && (List.range n).all (fun d => decide (d < 2) || n % d != 0))

/-- A big-endian number. -/
def beNat (l : List Byte) : Nat := l.foldl (fun a b => a * 256 + b.toNat) 0

/-- The `n` big-endian bytes of a number. -/
def beBytes (n v : Nat) : List Byte := (leBytes n v).reverse

/-- The message with its padding. -/
def shaPad (l : List Byte) : List Byte :=
  l ++ [0x80] ++ List.replicate ((119 - l.length % 64) % 64) 0 ++ beBytes 8 (8 * l.length)

/-- The exclusive or of some rotations of a word to the right, and of `y`. -/
def turns (l : List Nat) (y x : Word) : Word := l.foldl (fun a n => a ^^^ x.rotateRight n) y

/-- The 64 words of a block's schedule, latest first. -/
def shaSchedule (l : List Byte) : List Word :=
  (List.range 64).foldl (fun w i =>
    (if i < 16 then BitVec.ofNat 32 (beNat ((l.drop (4 * i)).take 4))
     else
      let back := fun n => w.getD (n - 1) 0
      back 16 + back 7 + turns [7, 18] (back 15 >>> 3) (back 15) + turns [17, 19] (back 2 >>> 10) (back 2)) :: w) []

/-- What a block's rounds carry: the latest four values of each of two sequences, latest first. A round adds a value to each. -/
structure ShaSeq where
  lead : List Word
  tail : List Word
  deriving DecidableEq, Repr

/-- One round, with its constant and its word of the schedule. -/
def ShaSeq.round (s : ShaSeq) (k w : Word) : ShaSeq :=
  let p := fun n => s.lead.getD n 0
  let q := fun n => s.tail.getD n 0
  let t := k + w + q 3 + turns [6, 11, 25] 0 (q 0) + ((q 0 &&& q 1) ||| (~~~(q 0) &&& q 2))
  { lead := (t + turns [2, 13, 22] 0 (p 0) + ((p 0 &&& (p 1 ||| p 2)) ||| (p 1 &&& p 2))) :: s.lead.take 3,
    tail := (p 3 + t) :: s.tail.take 3 }

/-- A block is added to the hash. -/
def ShaSeq.block (s : ShaSeq) (l : List Byte) : ShaSeq :=
  let ks := shaPrimes.map (rootFrac 3)
  let r := (ks.zip (shaSchedule l).reverse).foldl (fun t kw => t.round kw.1 kw.2) s
  { lead := s.lead.zipWith (· + ·) r.lead, tail := s.tail.zipWith (· + ·) r.tail }

/-- The 32 bytes of a message's digest. (PRESUMED, log 62.) -/
def sha256 (l : List Byte) : List Byte :=
  let p := shaPad l
  let h := (shaPrimes.take 8).map (rootFrac 2)
  let s := (List.range (p.length / 64)).foldl (fun t i => t.block ((p.drop (64 * i)).take 64)) (ShaSeq.mk (h.take 4) (h.drop 4))
  (s.lead ++ s.tail).flatMap (fun w => beBytes 4 w.toNat)

/-! P-256 (FIPS 186). A point is none at infinity. -/

def pP : Nat := 0xffffffff00000001000000000000000000000000ffffffffffffffffffffffff
def pN : Nat := 0xffffffff00000000ffffffffffffffffbce6faada7179e84f3b9cac2fc632551
def pB : Nat := 0x5ac635d8aa3a93e7b3ebbd55769886bc651d06b0cc53b0f63bce3c3e27d2604b
def pG : Option (Nat × Nat) :=
  some (0x6b17d1f2e12c4247f8bce6e563a440f277037d812deb33a0f4a13945d898c296,
    0x4fe342e2fe1a7f9b8ee7eb4a7c0f9e162bce33576b315ececbb6406837bf51f5)

/-- A power modulo `m`, over the bits of the exponent from `k` down. -/
def powMod (m x e : Nat) : Nat → Nat → Nat
  | 0, r => r
  | k + 1, r => powMod m x e k (if e.testBit k then r * r % m * x % m else r * r % m)

/-- The inverse modulo a prime. -/
def invMod (m x : Nat) : Nat := powMod m x (m - 2) 256 1

def subMod (m a b : Nat) : Nat := (a + m - b % m) % m

def pAdd : Option (Nat × Nat) → Option (Nat × Nat) → Option (Nat × Nat)
  | none, q => q
  | p, none => p
  | some (x1, y1), some (x2, y2) =>
    if x1 = x2 ∧ (y1 + y2) % pP = 0 then none
    else
      let l := if x1 = x2 then subMod pP (3 * x1 * x1 % pP) 3 * invMod pP (2 * y1 % pP) % pP
        else subMod pP y2 y1 * invMod pP (subMod pP x2 x1) % pP
      let x3 := subMod pP (subMod pP (l * l % pP) x1) x2
      some (x3, subMod pP (l * subMod pP x1 x3 % pP) y1)

/-- `k` times a point, over the bits of `k` from `n` down. -/
def pMul (k : Nat) (p : Option (Nat × Nat)) : Nat → Option (Nat × Nat) → Option (Nat × Nat)
  | 0, r => r
  | n + 1, r => pMul k p n (if k.testBit n then pAdd (pAdd r r) p else pAdd r r)

/-- A point of the curve, within the field. -/
def onCurve (x y : Nat) : Bool :=
  decide (x < pP) && decide (y < pP) && decide (y * y % pP = (subMod pP (x * x % pP * x % pP) (3 * x % pP) + pB) % pP)

/-- The verification of a signature over a message digest. (PRESUMED, log 62.) -/
def ecdsaOk (x y r s h : Nat) : Bool :=
  if !onCurve x y ∨ r = 0 ∨ pN ≤ r ∨ s = 0 ∨ pN ≤ s then false
  else
    let w := invMod pN s
    match pAdd (pMul (h * w % pN) pG 256 none) (pMul (r * w % pN) (some (x, y)) 256 none) with
    | none => false
    | some p => decide (p.1 % pN = r)

end Sys2Proof.Machine
end

