-- ==== Sys2Proof/Machine/Otp.lean ====
section
/-! DEFINITION. The one-time-programmable array (R431 to R446). -/

namespace Sys2Proof.Machine

open Sys2Proof

/-! Rows. STATE: 0 BLANK, 1 GOOD, 2 CORRECTED, 3 WEAK1, 4 WEAK0, 5 FAIL, 6 RAW. -/

abbrev oBLANK : Nat := 0
abbrev oGOOD : Nat := 1
abbrev oCORRECTED : Nat := 2
abbrev oWEAK1 : Nat := 3
abbrev oWEAK0 : Nat := 4
abbrev oFAIL : Nat := 5
abbrev oRAW : Nat := 6

/-- (DESIGN CHOICE, log 5.) -/
def blankRow (r : Nat) : OtpRow := ⟨if 224 ≤ r ∧ r < 256 then oRAW else oBLANK, 0, 0⟩

def otpFind : List (Nat × OtpRow) → Nat → Option OtpRow
  | [], _ => none
  | (k, v) :: t, n => if k = n then some v else otpFind t n

def otpIns : List (Nat × OtpRow) → Nat → OtpRow → List (Nat × OtpRow)
  | [], n, x => [(n, x)]
  | (k, v) :: t, n, x => if n < k then (n, x) :: (k, v) :: t else (k, v) :: otpIns t n x

/-- The physical row `r`. -/
def State.otpRow (s : State) (r : Nat) : OtpRow := (otpFind s.otp r).getD (blankRow r)

/-- A row as an attempt or time has left it; a blank one is not listed. -/
def State.setRow (s : State) (r : Nat) (x : OtpRow) : State :=
  let l := s.otp.filter (fun p => p.1 != r)
  { s with otp := if x = blankRow r then l else otpIns l r x }

/-! The control array: each bit is the majority of its copies (R431). -/

def State.ctlBit (s : State) (i : Nat) : Bool :=
  let a := s.otpCtl.1.getLsbD i
  let b := s.otpCtl.2.1.getLsbD i
  let c := s.otpCtl.2.2.getLsbD i
  (a && b) || (a && c) || (b && c)

def State.ctlNum (s : State) (lo n : Nat) : Nat := (List.range n).foldl (fun a i => if s.ctlBit (lo + i) then a + 2 ^ i else a) 0

/-- A control bit is burned in all three copies. -/
def State.ctlBurn (s : State) (i : Nat) : State :=
  let b := fun (c : BitVec 192) => c ||| BitVec.ofNat 192 (2 ^ i)
  { s with otpCtl := (b s.otpCtl.1, b s.otpCtl.2.1, b s.otpCtl.2.2) }

def State.rdrRow (s : State) (k : Nat) : Nat := s.ctlNum (9 * k) 8
def State.rdrValid (s : State) (k : Nat) : Bool := s.ctlBit (9 * k + 8)
def State.regLocked (s : State) (g : Nat) : Bool := s.ctlBit (144 + g)

/-- Spare Sk is used (R431): non-blank. -/
def State.spareUsed (s : State) (k : Nat) : Bool := (s.otpRow (256 + k)).st != oBLANK
def State.spareFree (s : State) : List Nat := (List.range 16).filter (fun k => !s.spareUsed k)

/-- The spare that a row is read from: of several entries for it the last one burned, which has the highest number.
(DEDUCED, log 57.) -/
def State.redir (s : State) (r : Nat) : Option Nat :=
  if r < 224 then ((List.range 16).filter (fun k => s.rdrValid k && s.rdrRow k == r)).getLast? else none

/-- Where a row is read. (DEDUCED, log 57.) -/
def State.physRow (s : State) (r : Nat) : Nat := match s.redir r with | some k => 256 + k | none => r
def State.rowAt (s : State) (r : Nat) : OtpRow := s.otpRow (s.physRow r)

/-- A row's shadow (R434): its corrected normal read, 0 for a FAIL row. -/
def State.shadow (s : State) (r : Nat) : BitVec 64 := let x := s.rowAt r; if x.st = oFAIL then 0 else x.v

def ovrFind : List (Nat × BitVec 64) → Nat → Option (BitVec 64)
  | [], _ => none
  | (k, v) :: t, n => if k = n then some v else ovrFind t n
def ovrIns : List (Nat × BitVec 64) → Nat → BitVec 64 → List (Nat × BitVec 64)
  | [], n, x => [(n, x)]
  | (k, v) :: t, n, x => if n < k then (n, x) :: (k, v) :: t else if n = k then (n, x) :: t else (k, v) :: ovrIns t n x

/-- The effective value (R436). -/
def State.effRow (s : State) (r : Nat) : BitVec 64 := (ovrFind s.otpOvr r).getD (s.shadow r)

/-! Regions (R432, R433). -/

def regFirst (g : Nat) : Nat := if g = 0 then 0 else if g = 1 then 4 else if g = 2 then 36 else if g = 3 then 48 else 112
def regLast (g : Nat) : Nat := if g = 0 then 3 else if g = 1 then 35 else if g = 2 then 47 else if g = 3 then 111 else 223
def regOf (r : Nat) : Nat := if r < 4 then 0 else if r < 36 then 1 else if r < 48 then 2 else if r < 112 then 3 else if r < 224 then 4 else 15

/-- Does a region's checksum row `c` agree with its other rows `f` (R433)? -/
def checkOk (g : Nat) (f : Nat → BitVec 64) (c : BitVec 64) : Bool :=
  let rows := (List.range (regLast g - regFirst g)).map (fun i => f (regFirst g + i))
  decide (c.toNat % 2 ^ 56 = crc32 (rows.flatMap (fun v => leBytes 7 v.toNat)) + g * 2 ^ 32)

def State.burnedOk (s : State) (g : Nat) : Bool := checkOk g s.shadow (s.shadow (regLast g))
def State.effOk (s : State) (g : Nat) : Bool := checkOk g s.effRow (s.effRow (regLast g))
/-- A region is valid: unlocked, or its effective checksum passes (R437). -/
def State.regValid (s : State) (g : Nat) : Bool := !s.regLocked g || s.effOk g

/-! Counters (R440). -/

def cntRow (k : Nat) : Nat := if k = 0 then 224 else if k = 1 then 240 else 248
def cntSteps (k : Nat) : Nat := if k = 0 then 512 else 256
/-- The row and bit of the first bit of a step's pair. -/
def pairAt (k i : Nat) : Nat × Nat := (cntRow k + i / 32, i % 32 * 2)

def State.pairDone (s : State) (k i : Nat) : Bool :=
  let x := s.otpRow (pairAt k i).1
  x.v.getLsbD (pairAt k i).2 && x.v.getLsbD ((pairAt k i).2 + 1)
def State.pairWeak (s : State) (k i : Nat) : Bool :=
  let x := s.otpRow (pairAt k i).1
  s.pairDone k i && (x.m.getLsbD (pairAt k i).2 || x.m.getLsbD ((pairAt k i).2 + 1))

/-- The value: 1 plus the index of the highest complete pair. -/
def State.cntVal (s : State) (k : Nat) : Nat :=
  (List.range (cntSteps k)).foldl (fun a i => if s.pairDone k i then i + 1 else a) 0

/-- The pairs that make a counter weak. -/
def State.cntBad (s : State) (k : Nat) : List Nat :=
  (List.range (s.cntVal k)).filter (fun i => !s.pairDone k i || s.pairWeak k i)

/-! Raises: each a raise of its own, in its own collector cycle. DETAIL: cause and row or command code (R434). -/

def otpDetail (cause row : Nat) : Option Nat := some (cause + row % 512 * 16)
def State.otpErr (s : State) (bit cause row : Nat) : State := State.collect 12 (s.err otpB bit 122 none (otpDetail cause row))
def State.otpPost (s : State) (cause row : Nat) : State := State.collect 12 (s.post 122 none (otpDetail cause row))

/-! The registers (R446). -/

def State.otpShow (s : State) : State :=
  let st := fun (r : Nat) => (s.rowAt r).st
  let weak := ((List.range 224).filter (fun r => st r == oCORRECTED || st r == oWEAK1 || st r == oWEAK0)).length
  let fail := ((List.range 224).filter (fun r => st r == oFAIL)).length
  let free := s.spareFree.length
  let mask := fun (f : Nat → Bool) => (List.range 5).foldl (fun a g => if f g then a + 2 ^ g else a) 0
  let s1 := ((s.wr otpB OTP.SUM_NWEAK weak).wr otpB OTP.SUM_NFAIL fail).wr otpB OTP.SUM_SPFREE (min 15 free)
  let s2 := (((s1.wr otpB OTP.REGION_LOCKED (mask s.regLocked)).wr otpB OTP.REGION_BURN_OK (mask s.burnedOk)).wr otpB
    OTP.REGION_VALID (mask s.regValid)).wrB otpB OTP.REGION_SPFREE_ALL (free == 16)
  let s3 := s2.each [0, 1, 2] fun k t =>
    ((t.wr (otpB + 0x48 + 4 * k) OTP.CNT_VALUE (s.cntVal k)).wrB (otpB + 0x48 + 4 * k) OTP.CNT_FULL (s.cntVal k == cntSteps k)).wrB
      (otpB + 0x48 + 4 * k) OTP.CNT_WEAK (!(s.cntBad k).isEmpty)
  let s4 := s3.each (List.range 16) fun k t =>
    let same := (List.range 9).all (fun i => s.otpCtl.1.getLsbD (9 * k + i) == s.otpCtl.2.1.getLsbD (9 * k + i) &&
      s.otpCtl.1.getLsbD (9 * k + i) == s.otpCtl.2.2.getLsbD (9 * k + i))
    (((t.wr (otpB + 0x80 + 4 * k) OTP.RDR_ROW (s.rdrRow k)).wrB (otpB + 0x80 + 4 * k) OTP.RDR_VALID (s.rdrValid k)).wrB
      (otpB + 0x80 + 4 * k) OTP.RDR_USED (s.spareUsed k)).wrB (otpB + 0x80 + 4 * k) OTP.RDR_AGREE same
  s4.wr otpB OTP.OVR_CTRL_COUNT s.otpOvr.length

/-- ROWSTAT, SHD_LO and SHD_HI of a row. -/
def State.rowStat (s : State) (r : Nat) : Word :=
  let b := fun (v : Bool) (k : Nat) => if v then 2 ^ k else 0
  if s.bit otpB OTP.STATUS_PASS_DONE ∧ r < 256 then
    BitVec.ofNat 32 ((s.rowAt r).st + (match s.redir r with | some k => 8 + 16 * k | none => 0) +
      b (ovrFind s.otpOvr r).isSome 8 + b (decide (r < 224) && s.regLocked (regOf r)) 9 + regOf r * 2 ^ 12)
  else 0
def State.shdLo (s : State) (r : Nat) : Word :=
  if s.bit otpB OTP.STATUS_PASS_DONE ∧ r < 256 then BitVec.ofNat 32 (s.shadow r).toNat else 0
def State.shdHi (s : State) (r : Nat) : Word :=
  if s.bit otpB OTP.STATUS_PASS_DONE ∧ r < 256 then BitVec.ofNat 32 ((s.shadow r).toNat / 2 ^ 32 % 2 ^ (if r < 224 then 24 else 32)) else 0

/-! The read pass (R434, R435, R437). -/

/-- The raises of a row's state. -/
def State.rowTell (s : State) (r : Nat) : State :=
  let x := (s.rowAt r).st
  if x = oCORRECTED then s.otpErr 0 10 r
  else if x = oWEAK1 ∨ x = oWEAK0 then s.otpErr 0 1 r
  else if x = oFAIL then s.otpErr 1 2 r
  else s

/-- The bits of DEV.REPLACE_SRC that the array decides (R435). -/
def State.otpRepl (s : State) : State :=
  let w := (List.range 224).any (fun r => (s.rowAt r).st == oWEAK0)
  let g := [0, 1, 2, 3, 4].any (fun g => s.regLocked g && !s.burnedOk g)
  ((s.setRepl DEV.REPLACE_SRC_OTP_WEAK w).setRepl DEV.REPLACE_SRC_OTP_SPARE s.spareFree.isEmpty).setRepl DEV.REPLACE_SRC_OTP_REGION g

/-- DEV.SERIAL_LO and SERIAL_HI (R504). -/
def State.serialLoad (s : State) : State :=
  let v := (s.effRow 0).toNat
  ((s.wr devB DEV.SERIAL_LO_SN v).wr devB DEV.SERIAL_HI_SN (v / 2 ^ 32)).wr devB DEV.SERIAL_HI_STEP (v / 2 ^ 48)

/-- The pass: `rows` and `ctl` are the rows and the control copies that read otherwise than when they were last read. -/
def State.readPass (s : State) (rows : List (Fin 272 × OtpRow)) (ctl : Option (BitVec 192 × BitVec 192 × BitVec 192)) : State :=
  let s0 := { rows.foldl (fun t r => t.setRow r.1 r.2) s with otpCtl := ctl.getD s.otpCtl }
  let c := s0.otpCtl
  let s1 := if c.1 = c.2.1 ∧ c.1 = c.2.2 then s0 else s0.otpErr 5 7 0
  let s2 := s1.each (List.range 224) fun r t => t.rowTell r
  let s3 := s2.each [0, 1, 2] fun k t => match t.cntBad k with
    | [] => t
    | i :: _ => t.otpErr 0 1 (pairAt k i).1
  let s4 := s3.each [0, 1, 2, 3, 4] fun g t => if t.regLocked g && !t.burnedOk g then t.otpErr 2 3 (regLast g) else t
  { (s4.otpRepl.serialLoad.otpShow).wr otpB OTP.STATUS_PASS_DONE 1 with boot := 1 }

def execOtpReadPass (rows : List (Fin 272 × OtpRow)) (ctl : Option (BitVec 192 × BitVec 192 × BitVec 192)) (s : State) :
    Host.Outcome State Fault Refusal :=
  .next (if s.mode = mWAKING ∧ s.boot = 0 then s.readPass rows ctl else s).settle

/-! Burning (R441 to R444). -/

/-- A row burned perfectly. -/
def goodRow (v : BitVec 64) : OtpRow := ⟨if v = 0 then oBLANK else oGOOD, v, 0⟩

/-- Does a row read as burned? -/
def burnOk (x : OtpRow) (v : BitVec 64) : Bool := (x.st == oGOOD || (x.st == oBLANK && v == 0)) && x.v == v

/-- The lowest blank spares are tried in turn (R442). `reads`: what each attempted row reads at its last verify; one not
given reads as burned. Answers whether a spare took the value. -/
def State.toSpare (s : State) (r : Nat) (v : BitVec 64) : List Nat → List OtpRow → State × Bool
  | [], _ => (s, false)
  | k :: ks, reads =>
    let x := (reads.head?).getD ⟨oGOOD, v, 0⟩
    let s1 := s.setRow (256 + k) x
    if burnOk x v ∨ x = ⟨oGOOD, v, 0⟩ then
      let s2 := (List.range 8).foldl (fun t i => if r.testBit i then t.ctlBurn (9 * k + i) else t) s1
      let s3 := (s2.ctlBurn (9 * k + 8)).otpPost 4 r
      (if s3.spareFree.isEmpty then s3.otpErr 3 5 r else s3, true)
    else s1.toSpare r v ks reads.tail

/-- A value goes into row `r`, or into a spare (R442). `direct`: the row itself is tried first. -/
def State.burnRow (s : State) (k : Cmd) (r : Nat) (v : BitVec 64) (direct : Bool) (reads : List OtpRow) : State :=
  let x := (reads.head?).getD (goodRow v)
  let s1 := if direct then s.setRow (s.physRow r) x else s
  if direct && burnOk x v then s1.otpShow.doneK k 0
  else
    let q := s1.toSpare r v s1.spareFree (if direct then reads.tail else reads)
    if q.2 then q.1.otpShow.doneK k 0
    else (State.collect 12 (q.1.err otpB 7 122 none (otpDetail 8 r))).otpShow.failK k 6

/-- May a coded row be burned with `v` (R441)? Answers the cause of a refusal. (DEDUCED, log 15.) -/
def State.burnRefusal (s : State) (r : Nat) (v : BitVec 64) : Option Nat :=
  let st := (s.rowAt r).st
  let g := regOf r
  if s.regLocked g then
    if st = oFAIL ∧ checkOk g (fun q => if q = r then v else s.effRow q) (if r = regLast g then v else s.shadow (regLast g)) then none
    else some 3
  else if st = oBLANK ∨ st = oFAIL then none else some 4

/-- OTP_BURN of a coded row. -/
def execOtpBurnRow (t : BitVec 8) (reads : List OtpRow) (s : State) : Host.Outcome State Fault Refusal :=
  .next (s.start t 0x14 fun k s =>
    let r := getBits k.a0 0 9
    let o := getBits k.a1 0 7
    if (256 ≤ r ∧ r ≤ 258) ∨ (272 ≤ r ∧ r ≤ 276) then s
    else if 224 ≤ r then s.failK k 1
    else if k.a0.toNat / 512 ≠ 0 ∨ k.a1.toNat / 128 ≠ 0 ∨ k.a2 ≠ 0 then s.failK k 2
    else
      let v := BitVec.ofNat 64 (leNat ((k.buf.drop o).take 7))
      match (if 128 < o + 7 then some 0xFE else s.burnRefusal r v) with
      | some c => s.failK k c
      | none =>
        if s.nvmOff then s.failK k 7
        else s.burnRow k r v ((s.rowAt r).st == oBLANK) reads).settle

/-- A counter moves on by one; its largest value is told (R440). -/
def State.cntStep (s : State) (k : Nat) : State × Bool :=
  let n := s.cntVal k
  if n = cntSteps k then (s.otpErr 4 6 (256 + k), false)
  else
    let p := pairAt k n
    let x := s.otpRow p.1
    ((s.setRow p.1 { x with v := x.v ||| BitVec.ofNat 64 (3 * 2 ^ p.2) }).otpShow, true)

def execOtpCounterIncrement (t : BitVec 8) (s : State) : Host.Outcome State Fault Refusal :=
  .next (s.start t 0x14 fun k s =>
    let r := getBits k.a0 0 9
    if r < 256 ∨ 258 < r then s
    else if k.a0.toNat / 512 ≠ 0 ∨ k.a1 ≠ 0 ∨ k.a2 ≠ 0 then s.failK k 2
    else
      let q := if s.cntVal (r - 256) = cntSteps (r - 256) ∨ !s.nvmOff then s.cntStep (r - 256) else (s, true)
      if !q.2 then q.1.failK k 5 else if s.nvmOff then s.failK k 7 else q.1.doneK k 0).settle

/-- The lock of a region is burned in all three copies: a burn that lost its power is completed by another (R445).
(DEDUCED, log 57.) -/
def State.lockDone (s : State) (g : Nat) : Bool :=
  s.otpCtl.1.getLsbD (144 + g) && s.otpCtl.2.1.getLsbD (144 + g) && s.otpCtl.2.2.getLsbD (144 + g)

def execOtpLockBurn (t : BitVec 8) (s : State) : Host.Outcome State Fault Refusal :=
  .next (s.start t 0x14 fun k s =>
    let r := getBits k.a0 0 9
    if r < 272 ∨ 276 < r then s
    else if k.a0.toNat / 512 ≠ 0 ∨ k.a1 ≠ 0 ∨ k.a2 ≠ 0 then s.failK k 2
    else if s.nvmOff then s.failK k 7
    else if s.lockDone (r - 272) then s.failK k 9
    else
      let s1 := s.ctlBurn (144 + (r - 272))
      let s2 := if s1.burnedOk (r - 272) then s1 else s1.otpPost 9 r
      s2.otpShow.doneK k 0).settle

/-- OTP_REBURN (R443). -/
def execOtpReburn (t : BitVec 8) (reads : List OtpRow) (s : State) : Host.Outcome State Fault Refusal :=
  .next (s.start t 0x15 fun k s =>
    let r := getBits k.a0 0 9
    let x := s.rowAt r
    if 256 ≤ r then s.failK k 1
    else if k.a0.toNat / 512 ≠ 0 ∨ k.a1 ≠ 0 ∨ k.a2 ≠ 0 then s.failK k 2
    else if s.nvmOff then s.failK k 7
    else if x.st = oRAW then
      let c := if r < 240 then 0 else if r < 248 then 1 else 2
      let keep := (List.range 32).foldl (fun a i =>
        if s.pairDone c (32 * (r - cntRow c) + i) then a else a ||| (BitVec.ofNat 64 (3 * 2 ^ (2 * i)))) (0 : BitVec 64)
      (s.setRow r { x with m := x.m &&& keep }).otpShow.doneK k 0
    else if x.st = oCORRECTED ∨ x.st = oWEAK1 then s.burnRow k r x.v true reads
    else if x.st = oWEAK0 then s.burnRow k r x.v false reads
    else s.failK k 8).settle

/-- OTP.STATUS.BUSY: a burn has all it needs and runs (R446). -/
def State.otpBusy (s : State) : Bool :=
  s.cmds.any (fun k => (k.op == 0x14 || k.op == 0x15) && k.phase == .waiting && s.holdsAll k && !s.cmdStopped k)

/-! Overrides (R438). -/

def State.ovrTaken (s : State) (r : Nat) : Bool :=
  (s.mode == mSERVICE || s.mode == mHOLD) && decide (r < 224) && !(s.regLocked (regOf r) && s.burnedOk (regOf r))

/-- A write of OVR_CTRL by context `c`. -/
def State.ovrCtrl (s : State) (c op : Nat) : State :=
  let r := s.rd (ck c + otpB) OTP.ROWSEL_ROW
  let v := BitVec.ofNat 64 (s.rd otpB OTP.OVR_LO_DATA + s.rd otpB OTP.OVR_HI_DATA * 2 ^ 32)
  if op = 0 then s
  else if op = 3 then (if s.mode = mSERVICE ∨ s.mode = mHOLD then { s with otpOvr := [] }.otpShow else s.err otpB 6 122 none none)
  else if !s.ovrTaken r then s.err otpB 6 122 none none
  else if op = 1 then { s with otpOvr := ovrIns s.otpOvr r v }.otpShow
  else { s with otpOvr := s.otpOvr.filter (fun p => p.1 != r) }.otpShow

def execOvrSet (c : Fin 8) (s : State) : Host.Outcome State Fault Refusal :=
  .next (s.ifWrites c 0xB06C 1 fun s => s.ovrCtrl c 1).settle

def execOvrClear (c : Fin 8) (s : State) : Host.Outcome State Fault Refusal :=
  .next (s.ifWrites c 0xB06C 2 fun s => s.ovrCtrl c 2).settle

def execOvrClearAll (c : Fin 8) (s : State) : Host.Outcome State Fault Refusal :=
  .next (s.ifWrites c 0xB06C 3 fun s => s.ovrCtrl c 3).settle

end Sys2Proof.Machine
end

