-- ==== Sys2Proof/Machine/Update.lean ====
section
/-! DEFINITION. Firmware images, bales and updates (R447 to R462): headers, authentication, the silo, copies, ACTIVATE,
CONFIRM and the ROM loader. -/

namespace Sys2Proof.Machine

open Sys2Proof

/-! Items (R447). -/

def siloB : Nat := 0x1C0000
/-- Bale slot `n` of bank A (R452). -/
def slotB (n : Nat) : Nat := 0x180000 + 0x20000 * n
def up256 (n : Nat) : Nat := (n + 255) / 256 * 256

def State.itemLen (s : State) (a : Nat) : Nat := (s.nvmWord (a + 4)).toNat
def State.itemKind (s : State) (a : Nat) : Nat := (s.nvmByte (a + 3)).toNat
def State.itemLast (s : State) (a : Nat) : Bool := (s.nvmByte (a + 0x10)).toNat % 2 == 1
/-- An item of magic 0x5110 and of this kind stands at `a`. -/
def State.itemIs (s : State) (a kind : Nat) : Bool := (s.nvmWord a).toNat % 0x10000 == 0x5110 && s.itemKind a == kind
def State.itemRoll (s : State) (a : Nat) : Nat := (s.nvmWord (a + 0xC)).toNat % 1024
def State.itemEpoch (s : State) (a : Nat) : Nat := (s.nvmByte (a + 9)).toNat
def State.itemBfmt (s : State) (a : Nat) : Nat := (s.nvmByte (a + 8)).toNat

/-- The header's rules but for ROLL's bound. -/
def State.hdrForm (s : State) (a : Nat) : Bool :=
  let w := fun o => (s.nvmWord (a + o)).toNat
  let zero := fun o n => (s.nvmBytes (a + o) n).all (· == 0)
  let kind := w 0 / 2 ^ 24
  decide (w 0 % 2 ^ 24 = 0x015110) && decide (kind = 1 ∨ kind = 2) && decide (w 4 % 8 = 0 ∧ 0x100 ≤ w 4) &&
    decide (w 4 ≤ if kind = 1 then 0x180000 else 0x20000) && decide (w 0x10 < 2) && zero 0x14 12 && zero 0xA0 0x60 &&
    (kind == 1 || (zero 0xA 2 && zero 0xC 4))

/-- The header's rules. (DEDUCED, log 38.) -/
def State.hdrOk (s : State) (a : Nat) : Bool := s.hdrForm a && (s.itemKind a != 1 || decide (s.itemRoll a ≤ 512))

/-! Authentication (R448). -/

/-- The integrator has burned a key hash: some row of 36 to 40 is not BLANK. -/
def State.keyBurned (s : State) : Bool := [36, 37, 38, 39, 40].any (fun r => (s.rowAt r).st != oBLANK)

/-- The hash of the key, from the burned values (R439) or from ROM. -/
def State.keyHash (s : State) : List Byte :=
  if s.keyBurned then ([36, 37, 38, 39, 40].flatMap (fun r => leBytes 7 (s.shadow r).toNat)).take 32 else Config.factoryKeyHash

/-- The signed message: the header before the signature, and the body. -/
def State.itemMsg (s : State) (a : Nat) : List Byte := s.nvmBytes a 0x60 ++ s.nvmBytes (a + 0x100) (s.itemLen a - 0x100)

def State.sigOk (s : State) (a : Nat) : Bool :=
  let n := fun o => beNat (s.nvmBytes (a + o) 32)
  ecdsaOk (n 0x20) (n 0x40) (n 0x60) (n 0x80) (beNat (sha256 (s.itemMsg a)))

/-- Why the item at `a` is not authentic, in the codes of R459; none where it is. `hits`: wrong words met in reading it.
(DEDUCED, log 38.) -/
def State.authCause (s : State) (hits : List EccHit) (a : Nat) : Option Nat :=
  if !s.hdrForm a || (ueAt hits a (s.itemLen a)).isSome then some 2
  else if sha256 (s.nvmBytes (a + 0x20) 64) ≠ s.keyHash ∨ s.sigOk a = false then some 2
  else if s.itemKind a = 1 then (if s.itemRoll a < s.cntVal 0 ∨ 512 < s.itemRoll a then some 3 else none)
  else if s.itemEpoch a < s.cntVal 2 then some 4 else none

/-- A rejection: recorded in SEC.LAST, and the bit of its cause. (DEDUCED, log 38.) -/
def State.reject (s : State) (cause item : Nat) : State :=
  ((s.wr secB SEC.LAST_CAUSE cause).wr secB SEC.LAST_ITEM item).err secB (cause - 2) 133 none none

/-! The update state (R452). -/

def State.stage (s : State) : Nat := s.rd nvmB NVM.STATUS_STAGE
abbrev uEMPTY : Nat := 0
abbrev uWRITING : Nat := 1
abbrev uSTAGED : Nat := 2
abbrev uCOPIED : Nat := 3
abbrev cCONFIRMED : Nat := 0
abbrev cUNCONFIRMED : Nat := 1
abbrev cLOADPEND : Nat := 2

def State.setStage (s : State) (v : Nat) : State := s.wr nvmB NVM.STATUS_STAGE v
def State.cur (s : State) : Nat := s.rd nvmB NVM.UPD_CUR

/-- The items of the staged package: their places and kinds (0 firmware, 1 bale). -/
def State.staged (s : State) : List (Nat × Nat) :=
  let k := s.rd nvmB NVM.PKG_KINDS
  (if k % 2 = 1 then [(siloB, 0)] else []) ++
  (if 2 ≤ k then [(if k % 2 = 1 then siloB + up256 (s.itemLen siloB) else siloB, 1)] else [])

/-- An activation or a copy is in progress. -/
def State.updBusy (s : State) : Bool :=
  s.bit nvmB NVM.STATUS_COPYING || s.cmds.any (fun k => k.op == 0x12 && (k.phase == .running || k.prog != 0))

/-! Writing the silo (R454, R455). -/

/-- A whole package has arrived: `ends` is its length. -/
def State.stagedNow (s : State) (ends kinds : Nat) : State :=
  ((((s.setStage uSTAGED).wr nvmB NVM.PKG_LEN ends).wr nvmB NVM.PKG_KINDS kinds).loftKeep).irq nvmB 16 123

/-- The package breaks R447. -/
def State.hdrBad (s : State) : State := ((s.setStage uEMPTY).loftKeep).err nvmB 4 123 none none

/-- The kind bit of a package of one item. -/
def State.itemKindBit (s : State) : Nat := if s.itemKind siloB = 1 then 1 else 2

/-- An item is checked when its header is complete, and ends the package when it carries LAST and is complete. `lo` and `hi`
are NEXT before and after the write. Answers whether a header broke R447. (DEDUCED, log 38.) -/
def State.siloLook (s : State) (lo hi : Nat) : State × Bool :=
  let n1 := s.itemLen siloB
  let h1 := decide (lo < 256 ∧ 256 ≤ hi)
  let ok1 := s.hdrOk siloB && (s.itemKind siloB == 1 || s.itemLast siloB)
  if h1 && !ok1 then (s.hdrBad, true)
  else if hi < 256 then (s, false)
  else if s.itemLast siloB then (if n1 ≤ hi then s.stagedNow n1 s.itemKindBit else s, false)
  else
    let b := up256 n1
    let n2 := s.itemLen (siloB + b)
    let h2 := decide (lo < b + 256 ∧ b + 256 ≤ hi)
    let ok2 := s.hdrOk (siloB + b) && s.itemKind (siloB + b) == 2 && s.itemLast (siloB + b)
    if h2 && !ok2 then (s.hdrBad, true)
    else if b + 256 ≤ hi ∧ b + n2 ≤ hi then (s.stagedNow (b + n2) 3, false) else (s, false)

/-- Sectors that the bytes from `o` enter are erased. -/
def State.siloErase (s : State) (o n : Nat) : State :=
  s.each ((List.range 2).map (fun i => (o + 0xFFF) / 0x1000 * 0x1000 + 0x1000 * i)) fun b t =>
    if b < o + n then t.nvmErase (siloB + b) else t

/-- A write of bytes at a silo offset: the state after it, and the cause where it fails. `m`: the bytes of it to write now.
(DEDUCED, log 38.) -/
def State.siloWrite (s : State) (o n m : Nat) (bytes : List Byte) (args fail : Bool) : State × Option Nat :=
  if 0x1C0000 < o + n ∨ n < 8 ∨ 128 < n then (s, some 1)
  else if o % 8 ≠ 0 ∨ n % 8 ≠ 0 then (s, some 2)
  else if o ≠ 0 ∧ (s.stage ≠ uWRITING ∨ o ≠ s.rd nvmB NVM.SILO_NEXT) then (s.err nvmB 2 123 none none, some 3)
  else if s.nvmOff then (s.post 123 none none, some 5)
  else if s.updBusy then (s, some 6)
  else if args then (s, some 7)
  else
    let s1 := if o = 0 then (((s.setStage uWRITING).wr nvmB NVM.PKG_LEN 0).wr nvmB NVM.PKG_KINDS 0).loftKeep.wr nvmB NVM.SILO_NEXT 0
      else s
    let s2 := s1.siloErase o m
    if fail then ((s2.nvmJunk (siloB + o) n).err nvmB 0 123 none none, some 5)
    else
      let q := ((s2.nvmPut (siloB + o) (bytes.take m)).wr nvmB NVM.SILO_NEXT (o + m)).siloLook o (o + m)
      (q.1, if q.2 then some 4 else none)

/-- IMAGE_WRITE, in program pages of 32 bytes (R347). `fail`: verify failed after three attempts. -/
def execImageWrite (t : BitVec 8) (fail : Bool) (s : State) : Host.Outcome State Fault Refusal :=
  .next (s.start t 0x11 fun k s =>
    let n := getBits k.a1 0 8
    let b := getBits k.a1 8 7
    let args := decide (k.a1.toNat / 0x8000 ≠ 0 ∨ k.a2 ≠ 0)
    if 128 < b + n ∧ 8 ≤ n ∧ n ≤ 128 then s.failK k 0xFE
    else
      let p := 32 * k.prog
      let m := min (32 * s.unitsNow k ((n + 31) / 32)) (n - p)
      let q := s.siloWrite (k.a0.toNat + p) (n - p) m (((k.buf.drop b).take n).drop p) args fail
      match q.2 with
      | some c => q.1.failK k c
      | none => if p + m < n then q.1.yield k (k.prog + m / 32) else q.1.doneK k 0).settle

/-! Copies (R457). -/

def State.eraseArea (s : State) (a n : Nat) : State := { s with nvm := Memory.erase s.nvm a n }

/-- The area an item of a kind goes to: its base and its size. -/
def State.copyArea (s : State) (kind : Nat) : Nat × Nat := if kind = 0 then (0, 0x180000) else (slotB (1 - s.cur), 0x20000)

/-- An item's bytes go to its area. (DEDUCED, log 39.) -/
def State.copyItem (s : State) (it : Nat × Nat) : State :=
  let a := s.copyArea it.2
  (s.eraseArea a.1 a.2).nvmPut a.1 (s.nvmBytes it.1 (s.itemLen it.1))

/-- A copy that failed verify leaves what the spec does not state. (DESIGN CHOICE, log 55.) -/
def State.copyBad (s : State) (it : Nat × Nat) : State :=
  let a := s.copyArea it.2
  (s.eraseArea a.1 a.2).nvmJunk a.1 (s.itemLen it.1)

/-- A copy begins: COPYING is committed before the first erase. -/
def State.copyBegin (s : State) (items : List (Nat × Nat)) : State :=
  items.foldl (fun t i => let a := t.copyArea i.2; t.eraseArea a.1 a.2) (s.wr nvmB NVM.STATUS_COPYING 1).loftKeep

/-- What is copied: bit 0 firmware, bit 1 a bale. -/
def itemBits (items : List (Nat × Nat)) : Nat :=
  (if items.any (fun i => i.2 == 0) then 1 else 0) + (if items.any (fun i => i.2 == 1) then 2 else 0)

/-- A copy that has begun ends; `bad` names the kind whose copy fails verify. `conf`: what CONF becomes. Answers whether
every copy verified. (DEDUCED, log 39.) -/
def State.copyEnd (s : State) (items : List (Nat × Nat)) (bad : Option (Fin 2)) (conf : Nat) : State × Bool :=
  let fw := items.any (fun i => i.2 == 0)
  let bale := items.any (fun i => i.2 == 1)
  let hit := items.filter (fun i => bad.any (fun b => b.val == i.2))
  let s2 := items.foldl (fun t i => if hit.contains i then t.copyBad i else t.copyItem i) s
  let s3 := s2.wr nvmB NVM.STATUS_COPYING 0
  if hit.isEmpty then
    let s4 := (s3.setStage uCOPIED).wr nvmB NVM.UPD_CONF conf
    let s5 := if fw then s4.wr nvmB NVM.UPD_FW_NEW 1 else s4
    let s6 := if bale then (s5.wr nvmB NVM.UPD_CUR (1 - s.cur)).wr nvmB NVM.UPD_KEPT 1 else s5
    (s6.loftKeep, true)
  else (s3.loftKeep.err nvmB 1 123 none none, false)

/-- What CONF becomes by a copy outside a WAKING of items `bits`: a bale waits for the next WAKING, and one that waits goes on
waiting (R457, R459). -/
def State.confAfter (s : State) (bits : Nat) : Nat :=
  if bits < 2 ∧ s.rd nvmB NVM.UPD_CONF ≠ cLOADPEND then cUNCONFIRMED else cLOADPEND

/-! The running firmware. -/

/-- SEC.FWHASH, FWREL and FWINFO take the firmware item at `a`. (DEDUCED, log 39.) -/
def State.takeFw (s : State) (a : Nat) : State :=
  let h := sha256 (s.nvmBytes a (s.itemLen a))
  let s1 := s.each (List.range 8) fun i t => t.setW (secB + 0x60 + 4 * i) (BitVec.ofNat 32 (leNat ((h.drop (4 * i)).take 4)))
  (s1.setW (secB + 0x40) (s.nvmWord (a + 8))).setW (secB + 0x44) (s.nvmWord (a + 0xC))

/-- Does the running firmware's reload check pass (R458)? -/
def State.reloadOk (s : State) : Bool :=
  let h := sha256 (s.nvmBytes 0 (min 0x180000 (s.itemLen 0)))
  (List.range 8).all (fun i => s.getW (secB + 0x60 + 4 * i) == BitVec.ofNat 32 (leNat ((h.drop (4 * i)).take 4)))

/-- The engines run firmware, whose release DEV.FWVER shows. -/
def State.fwRuns (s : State) : State := s.engUp.setW (devB + 0x44) (s.getW (secB + 0x40))

/-- A bale format is in a firmware's range, its header word 0x00C being `info` (R451). -/
def inRange (info : Word) (fmt : Nat) : Bool := decide (getBits info 16 8 ≤ fmt ∧ fmt ≤ getBits info 24 8)

/-! The ends of ACTIVATE (R459) and of the ROM loader's operations (R461). -/

def State.ldrDone (s : State) (cause : Nat) : State :=
  ((s.wr nvmB NVM.LDR_STAT_BUSY 0).wr nvmB NVM.LDR_STAT_DONE 1).wr nvmB NVM.LDR_STAT_CAUSE cause

/-- Its result: the running release, and what was copied. -/
def State.actResult (s : State) (bits : Nat) : Nat := (s.getW (secB + 0x40)).toNat % 0x10000 + bits % 4 * 0x10000

/-- A step of the WAKING that ACTIVATE began copies items, or fails with a cause; the first word stands. -/
def State.actNote (s : State) (v : Nat) : State := { s with act := s.act.map (fun a => if a = 0 then v else a) }

/-- ACTIVATE fails with a cause: for a ring's command or for the loader. -/
def State.actFail (s : State) (c : Nat) : State :=
  match s.runningCmd 0x12 with | some k => s.failK k c | none => s.ldrDone c

/-- WAKING ends, and with it the ACTIVATE that began it. A return to HOLD for a reason that the causes of R459 do not name
completes with one that the spec does not state. (DESIGN CHOICE, log 83.) -/
def State.actEnd (s : State) (ok : Bool) : State :=
  match s.act with
  | none => s
  | some v =>
    let t := { s with act := none }
    if 4 ≤ v then t.actFail (v / 4)
    else if ok then (match t.runningCmd 0x12 with | some k => t.doneK k (t.actResult v) | none => t.ldrDone 0)
    else let d := t.draw; d.2.actFail (d.1.toNat % 256)

/-! The end of WAKING. -/

/-- The boot slot is disarmed (R394), no copy is in progress any more, and every page is locked (R500). (DEDUCED, log 39.) -/
def State.wakingEnds (s : State) : State :=
  (((s.bootArm false).wr wdgB WDG.STATUS_BOOT_FAILS 0).wr nvmB NVM.STATUS_COPYING 0).each (List.range 64) fun p t =>
    if (pageOf p).isSome then t.wr (pg p) HDR.LOCK_UNLOCKED 0 else t

/-- WAKING ends in HOLD with a cause, its detail, and the detail's kind (R52, R63). -/
def State.toHold (s : State) (cause detail kind : Nat) : State :=
  let s1 := (s.wakingEnds).setMode mHOLD 4
  ((((s1.wr devB DEV.MODE_HOLD_CAUSE cause).wr devB DEV.MODE_HOLD_DETAIL detail).wr devB DEV.HOLD_INFO_INDEX
    (if kind = 3 then 0 else detail)).wr devB DEV.HOLD_INFO_KIND kind).actEnd false

/-- No firmware authenticates (R456): FE7 runs its ROM loader, the other engines are halted. -/
def State.noImage (s : State) : State := (((s.setEngs eHALTED).setEng 7 eROM).toHold 7 0 0).setW (devB + 0x44) 0

/-- Step 1 of R456: the staged items. (DEDUCED, log 39.) -/
def State.stagedStep (s : State) (hits : List EccHit) (failed : Option (Fin 2)) : State :=
  match s.staged.filterMap (fun i => (s.authCause hits i.1).map (fun c => (c, i.2))) with
  | (c, k) :: _ => (((s.setStage uEMPTY).loftKeep).reject c k).actNote (4 * c)
  | [] =>
    if s.nvmOff then s.actNote 28
    else
      let q := (s.copyBegin s.staged).copyEnd s.staged failed cUNCONFIRMED
      q.1.actNote (if q.2 then itemBits s.staged else 28)

/-- Steps 2 and 3 of R456. `again`: the repeated copy fails verify. (DEDUCED, log 39.) -/
def State.fwStep (s : State) (hits : List EccHit) (again : Bool) : State :=
  let silo := !s.nvmOff && (uSTAGED ≤ s.stage : Bool) && s.rd nvmB NVM.PKG_KINDS % 2 == 1 && (s.authCause hits siloB).isNone
  let bad := fun (t : State) => if t.itemIs 0 1 then t.authCause hits 0 else some 2
  match bad s with
  | none => s
  | some c =>
    let s1 := s.reject c 0
    if silo then
      let s2 := (s1.wr nvmB NVM.STATUS_COPYING 1).loftKeep
      let s3 := if again then (s2.copyBad (siloB, 0)).err nvmB 1 123 none none else ((s2.copyItem (siloB, 0)).wr nvmB NVM.UPD_FW_NEW 1).wr nvmB NVM.UPD_CONF (s.confAfter 1)
      ((s3.wr nvmB NVM.STATUS_COPYING 0).loftKeep)
    else s1

/-- FE7 at an entry to WAKING, before the bale (R420, R456). -/
def State.imageAuth (s : State) (hits : List EccHit) (failed : Option (Fin 2)) (again : Bool) : State :=
  let s1 := (State.retLoad 64 0 { s.eccHits 1 hits false with retired := [] }).retShow
  let s2 := if s1.stage = uWRITING then (s1.setStage uEMPTY).loftKeep else s1
  let s3 := (s2.wrB secB SEC.STATUS_KEY_OTP s2.keyBurned).wr secB SEC.STATUS_BALE_AUTH 0
  let s4 := if s3.stage = uSTAGED then s3.stagedStep hits failed else s3
  let s5 := s4.fwStep hits again
  if s5.itemIs 0 1 ∧ s5.authCause hits 0 = none then
    { ((s5.wr secB SEC.STATUS_FW_AUTH 1).takeFw 0).fwRuns with boot := 5 }
  else (s5.wr secB SEC.STATUS_FW_AUTH 0).noImage

/-- `hits`: the wrong words of NVM that FE7 reads; `failed`: the item whose copy fails verify; `again`: the repeated copy
of the firmware fails too. -/
def execImageAuthentication (hits : List EccHit) (failed : Option (Fin 2)) (again : Bool) (s : State) :
    Host.Outcome State Fault Refusal :=
  .next (if s.mode = mWAKING ∧ s.boot = 4 ∧ s.eng 7 ≠ eHALTED ∧ (s.nvmwFree ∨ s.stage < uSTAGED) then s.imageAuth hits failed again else s).settle

/-! ACTIVATE (R459). -/

/-- Some bale that would be available after the copy is accepted by the firmware that would run. -/
def State.fmtRemains (s : State) : Bool :=
  let items := s.staged
  let fw := items.find? (fun i => i.2 == 0)
  let info := match fw with | some i => s.nvmWord (i.1 + 0xC) | none => s.getW (secB + 0x44)
  let bales := match items.find? (fun i => i.2 == 1) with
    | some i => [i.1, slotB s.cur]
    | none => [slotB 0, slotB 1]
  bales.any (fun a => s.itemIs a 2 && inRange info (s.itemBfmt a))

/-- Why ACTIVATE fails in SERVICE before its copy: of several causes the lowest code. -/
def State.actCause (s : State) (hits : List EccHit) : Option Nat :=
  let bad := s.staged.filterMap (fun i => s.authCause hits i.1)
  if s.stage ≠ uSTAGED then some 1
  else match bad.foldl (fun b c => match b with | none => some c | some d => some (min c d)) none with
    | some c => some c
    | none =>
      if !s.fmtRemains then some 5
      else if (s.staged.any (fun i => i.2 == 1)) ∧ s.bit nvmB NVM.UPD_KEPT then some 6
      else if s.nvmOff then some 7 else none

/-- The first staged item that is not authentic is recorded in SEC. -/
def State.actReject (s : State) (hits : List EccHit) : State :=
  match s.staged.filterMap (fun i => (s.authCause hits i.1).map (fun c => (c, i.2))) with
  | (c, k) :: _ => s.reject c k
  | [] => s

/-- ACTIVATE in SERVICE: the checks; then it asks for the write port (R459). `prog` counts the acts on the command.
(DEDUCED, log 38.) -/
def State.actBegin (s : State) (k : Cmd) (hits : List EccHit) : State :=
  let s1 := s.eccHits 1 hits false
  match s1.actCause hits with
  | some c => (if 2 ≤ c ∧ c ≤ 4 then s1.actReject hits else s1).failK k c
  | none => (s1.setCmd { k with prog := 1, aux := itemBits s1.staged }).askNext { k with prog := 1, aux := itemBits s1.staged }

/-- The copy ends: `failed` names the item whose copy fails verify. A WARM follows, in the mode of the moment (R462). -/
def State.actCopy (s : State) (k : Cmd) (failed : Option (Fin 2)) : State :=
  let items := s.staged
  if s.nvmOff then s.failK k 7
  else
    let q := s.copyEnd items failed (s.confAfter k.aux)
    if q.2 then
      let s2 := if k.aux % 2 = 1 then q.1.takeFw 0 else q.1
      ((s2.setCmd { k with phase := .running }).dropOrg (fun _ o => o == .tag k.tag)).warmStart
        (some DEV.RESET_CAUSE_WARM_ACTIVATE) 6
    else q.1.failK k 7

/-- ACTIVATE in HOLD, by a ring or by the ROM loader: into WAKING. (DEDUCED, log 38.) -/
def State.actHold (s : State) : State :=
  { s.warmStart (some DEV.RESET_CAUSE_WARM_ACTIVATE) 6 with act := some 0 }

/-- The first act on an ACTIVATE checks, in SERVICE the second begins the copy and the third ends it, both with NVMW; the result
follows when the engines run again. -/
def execActivate (t : BitVec 8) (hits : List EccHit) (failed : Option (Fin 2)) (s : State) : Host.Outcome State Fault Refusal :=
  .next (s.start t 0x12 fun k s =>
    if k.prog = 1 then (s.setCmd { k with prog := 2 }).copyBegin s.staged
    else if 2 ≤ k.prog then s.actCopy k failed
    else if k.a0 ≠ 0 ∨ k.a1 ≠ 0 ∨ k.a2 ≠ 0 ∨ s.updBusy then s.failFree k
    else if s.mode = mHOLD then
      if s.stage = uSTAGED then ((s.setCmd { k with phase := .running }).dropOrg (fun _ o => o == .tag k.tag)).actHold else s.failK k 1
    else s.actBegin k hits).settle

/-- The engines are back after the WARM of an ACTIVATE. -/
def State.activated (s : State) : State :=
  match s.runningCmd 0x12 with
  | none => s
  | some k => s.doneK k (s.actResult k.aux)

/-! CONFIRM (R460). -/

/-- Counter `k` is raised to `v`, a step at a time. -/
def State.cntTo (s : State) (k v : Nat) : State := (List.range (v - s.cntVal k)).foldl (fun t _ => (t.cntStep k).1) s

def State.confirm (s : State) : State :=
  let s1 := s.cntTo 0 (getBits (s.getW (secB + 0x44)) 0 10)
  let s2 := if s1.bit nvmB NVM.UPD_FW_NEW then (s1.cntStep 1).1 else s1
  let s3 := s2.cntTo 2 (s.rd secB SEC.BALEINFO_EPOCH)
  let s4 := if s3.bit nvmB NVM.UPD_KEPT then s3.eraseArea (slotB (1 - s3.cur)) 0x20000 else s3
  (((s4.wr nvmB NVM.UPD_CONF cCONFIRMED).wr nvmB NVM.UPD_KEPT 0).wr nvmB NVM.UPD_FW_NEW 0).loftKeep

def execConfirm (t : BitVec 8) (s : State) : Host.Outcome State Fault Refusal :=
  .next (s.start t 0x13 fun k s =>
    let c := s.rd nvmB NVM.UPD_CONF
    if c = cCONFIRMED then s.failK k 1
    else if c = cLOADPEND then s.failK k 2
    else if k.a0 ≠ 0 ∨ k.a1 ≠ 0 ∨ k.a2 ≠ 0 ∨ s.nvmOff then s.failFree k
    else s.confirm.doneK k 0).settle

/-! The ROM loader (R461). -/

/-- LDR_BUF's bytes. -/
def State.ldrBytes (s : State) : List Byte := wordBytes (s.words 32 (fun i => nvmB + 0x100 + 4 * i))

/-- A write of LDR_CTRL. `fail`: its silo write fails verify. Without the write port the write waits for it (R35). -/
def State.ldrCtrl (s : State) (v : Word) (fail : Bool) : State :=
  let op := getBits v 0 2
  let n := getBits v 8 8
  if !s.bit engB ENG.STATUS_ROM then s.err nvmB 3 123 none none
  else if op = 1 ∧ !s.nvmwFree then { s.engineAsk 3 feSeven with ldrWait := some (v, fail) }.wr nvmB NVM.LDR_STAT_BUSY 1
  else if op = 1 then
    let q := s.siloWrite (s.rd nvmB NVM.LDR_OFS_OFFSET) n n (s.ldrBytes.take n) false fail
    q.1.ldrDone (q.2.getD 0)
  else if op = 2 ∧ s.mode = mHOLD then
    if s.stage = uSTAGED then s.actHold else s.ldrDone 1
  else s

/-- A silo write of the loader that waited has the write port (R35). -/
def State.ldrGo (s : State) : State :=
  match s.ldrWait with
  | some w => if s.nvmwFree && !s.nvmOff then (({ s with ldrWait := none }.ldrCtrl w.1 w.2).fe7Done) else s
  | none => s

def execLdrWrite (c : Fin 8) (v : Word) (fail : Bool) (s : State) : Host.Outcome State Fault Refusal :=
  .next (if getBits v 0 2 = 1 then s.ifWrites c 0xB44C v fun s => s.ldrCtrl v fail else s).settle

def execLdrActivate (c : Fin 8) (v : Word) (s : State) : Host.Outcome State Fault Refusal :=
  .next (if getBits v 0 2 = 2 then s.ifWrites c 0xB44C v fun s => s.ldrCtrl v false else s).settle

end Sys2Proof.Machine
end

