-- ==== Sys2Proof/Machine/Rtc.lean ====
section
/-! DEFINITION. The real-time clock and TIME (R465 to R482). -/

namespace Sys2Proof.Machine

open Sys2Proof

def State.modClk (s : State) (f : ClkHid → ClkHid) : State := { s with clk := f s.clk }

/-- A flag of RTC.ERR: raised at once, or at the next WAKING where it is set in FALLOW or PARKED (R468, R474). -/
def State.rtcErr (s : State) (bit : Nat) (cls detail : Option Nat) : State :=
  if s.up then s.err rtcB bit 125 cls detail
  else ((s.wr rtcB (HDR.ERR.at bit) 1).wr rtcB (HDR.IRQ_PEND.at bit) 1).modClk (fun h => { h with due := h.due ||| 2 ^ bit })

/-! The calendar (R470). -/

def leap (y : Nat) : Bool := y % 4 == 0 && y != 100
def monthLen (y m : Nat) : Nat :=
  if m = 2 then (if leap y then 29 else 28) else if m = 4 ∨ m = 6 ∨ m = 9 ∨ m = 11 then 30 else 31
def yearLen (y : Nat) : Nat := if leap y then 366 else 365

/-- Days from 2000-01-01 to a date. -/
def dayNum (y m d : Nat) : Nat :=
  ((List.range y).foldl (fun a i => a + yearLen i) 0) + ((List.range (m - 1)).foldl (fun a i => a + monthLen y (i + 1)) 0) + (d - 1)

/-- 2000-01-01 is a Saturday. (DEDUCED, log 58.) -/
def weekDay (y m d : Nat) : Nat := (dayNum y m d + 6) % 7

def State.cal (s : State) : Cal :=
  { sec := s.rd rtcB RTC.SEC_SEC, min := s.rd rtcB RTC.MIN_MIN, hour := s.rd rtcB RTC.HOUR_HOUR, day := s.rd rtcB RTC.DAY_DAY,
    month := s.rd rtcB RTC.MONTH_MONTH, year := s.rd rtcB RTC.YEAR_YEAR }

def Cal.ok (c : Cal) : Bool :=
  decide (c.sec ≤ 59 ∧ c.min ≤ 59 ∧ c.hour ≤ 23 ∧ 1 ≤ c.month ∧ c.month ≤ 12 ∧ c.year ≤ 199 ∧ 1 ≤ c.day ∧ c.day ≤ monthLen c.year c.month)

/-- The live calendar takes a value, WDAY with it. -/
def State.setCal (s : State) (c : Cal) : State :=
  ((((((s.wr rtcB RTC.SEC_SEC c.sec).wr rtcB RTC.MIN_MIN c.min).wr rtcB RTC.HOUR_HOUR c.hour).wr rtcB RTC.DAY_DAY c.day).wr rtcB
    RTC.MONTH_MONTH c.month).wr rtcB RTC.YEAR_YEAR c.year).wr rtcB RTC.WDAY_WDAY (weekDay c.year c.month c.day)

/-- One second later; the end of the range is 2199-12-31. -/
def Cal.next (c : Cal) : Cal :=
  if c.sec < 59 then { c with sec := c.sec + 1 }
  else if c.min < 59 then { c with sec := 0, min := c.min + 1 }
  else if c.hour < 23 then { c with sec := 0, min := 0, hour := c.hour + 1 }
  else
    let d := { c with sec := 0, min := 0, hour := 0 }
    if c.day < monthLen c.year c.month then { d with day := c.day + 1 }
    else if c.month < 12 then { d with day := 1, month := c.month + 1 }
    else if c.year < 199 then { d with day := 1, month := 1, year := c.year + 1 }
    else { d with day := 1, month := 1, year := 0 }

/-! Alarms (R474). -/

def alm (k : Nat) : Nat := rtcB + 0x6C + 8 * k

def State.almMatch (s : State) (k : Nat) : Bool :=
  let m := s.rd (alm k) RTC.ALM_B_MASK
  let t := fun (i : Nat) (a b : Nat) => m.testBit i || a == b
  let c := s.cal
  s.bit (alm k) RTC.ALM_B_EN && t 0 (s.rd (alm k) RTC.ALM_A_SEC) c.sec && t 1 (s.rd (alm k) RTC.ALM_A_MIN) c.min &&
    t 2 (s.rd (alm k) RTC.ALM_A_HOUR) c.hour && t 3 (s.rd (alm k) RTC.ALM_A_DAY) c.day &&
    t 4 (s.rd (alm k) RTC.ALM_B_MONTH) c.month && t 5 (s.rd (alm k) RTC.ALM_B_WDAY) (s.rd rtcB RTC.WDAY_WDAY) &&
    t 6 (s.rd (alm k) RTC.ALM_B_YEAR) c.year

/-- A match: the flag, its raise, and the wake source, which a flag already set is not. -/
def State.almHit (s : State) (k : Nat) : State :=
  let was := s.bit rtcB (HDR.ERR.at (1 + k))
  let s1 := s.rtcErr (1 + k) (some 0) none
  if was || !s.bit devB (if k = 0 then DEV.WAKE_CFG_ALM0_EN else DEV.WAKE_CFG_ALM1_EN) then s1
  else if s1.mode = mPARKED then s1.wakeBy (2 ^ (4 + k))
  else if s1.active then s1.ask .on 1 else s1

/-- SEC advances (R470): the carries and WDAY. The calendar before it stands till the tick's end, for a commit in this tick
discards the boundary (R480). -/
def State.secondTick (s : State) (sub : Nat) : State :=
  ((s.setCal s.cal.next).wr rtcB RTC.SUBSEC_COUNT sub).modClk (fun h => { h with second := some s.cal })

/-- The end of a tick in which SEC advanced and no commit came: the year's wrap (R470) and the alarms (R474). -/
def State.secondEnd (s : State) : State :=
  match s.clk.second with
  | none => s
  | some c =>
    let s1 := s.modClk (fun h => { h with second := none })
    let s2 := if s.cal.year < c.year then s1.rtcErr 5 (some 0) none else s1
    let a0 := s2.almMatch 0
    let a1 := s2.almMatch 1
    (s2.iff a0 (fun t => t.almHit 0)).iff a1 (fun t => t.almHit 1)

def State.oscRuns (s : State) : Bool := s.bit rtcB RTC.STATUS_OSC_RUN

/-- The last oscillator cycle of a second ends (R470). -/
def execSecondBoundary (s : State) : Host.Outcome State Fault Refusal :=
  .next (if s.oscRuns ∧ s.rd rtcB RTC.SUBSEC_COUNT = 32767 then s.secondTick 0 else s).settle

/-- The correction of 2^20 cycles (R469): a positive TRIM is skipped at once, a negative one inserts cycles that do not
count. (DEDUCED, log 58.) -/
def execTrimCorrection (s0 : State) : Host.Outcome State Fault Refusal :=
  .next (if s0.oscRuns ∧ 2 ^ 20 ≤ s0.clk.cyc then
      let s := s0.modClk (fun h => { h with cyc := h.cyc - 2 ^ 20 })
      let t := s.rdI rtcB RTC.TRIM_TRIM
      let n := s.rd rtcB RTC.SUBSEC_COUNT + t.toNat
      if t < 0 then s.modClk (fun h => { h with ins := h.ins + (-t).toNat })
      else if 32768 ≤ n then s.secondTick (n - 32768) else s.wr rtcB RTC.SUBSEC_COUNT n
    else s0).settle

/-! The oscillator (R468). -/

/-- No edge for `us` microseconds. -/
def execOscStop (us : Nat) (s : State) : Host.Outcome State Fault Refusal :=
  .next (if s.oscRuns ∧ 2000 ≤ us then ((s.wr rtcB RTC.STATUS_OSC_RUN 0).wr rtcB RTC.STATUS_OSF 1).rtcErr 0 (some 1) (some 1) else s).settle

def execOscResume (s : State) : Host.Outcome State Fault Refusal :=
  .next (s.wr rtcB RTC.STATUS_OSC_RUN 1).settle

/-- OSF is cleared only while the oscillator runs. -/
def State.osfClear (s : State) : State :=
  if s.oscRuns then (s.wr rtcB RTC.ERR_OSF 0).wr rtcB RTC.STATUS_OSF 0 else s

def execOsfClear (c : Fin 8) (s : State) : Host.Outcome State Fault Refusal :=
  .next (s.ifWrites c 0xA00C 1 fun s => s.osfClear).settle

/-! Freezes (R471). -/

def State.frzOf (s : State) (c : Fin 8) : Option (List Word) := s.clk.freeze[c]
def State.setFrz (s : State) (c : Fin 8) (f : Option (List Word)) : State := s.modClk (fun h => { h with freeze := h.freeze.set c f })
def State.calWords (s : State) : List Word := s.words 8 (fun i => rtcB + 0x40 + 4 * i)

/-- The freeze of a context closes. -/
def State.unfreeze (s : State) (c : Fin 8) : State := s.setFrz c none

/-- A read of calendar register `i` (0 SUBSEC to 7 YEAR) by a context: the word, and the freeze it opens or closes. -/
def State.calRead (s : State) (c : Fin 8) (i : Nat) : Word × State :=
  let l := (s.frzOf c).getD s.calWords
  ((l[i]?).getD 0, if i = 7 then s.unfreeze c
    else if (s.frzOf c).isSome then s else (s.setFrz c (some l)).mark (.frz c))

def execCalendarRead (c : Fin 8) (i : Fin 8) (s : State) : Host.Outcome State Fault Refusal :=
  .next (if s.mayRead c (0xA040 + 4 * i.val) then
      let q := s.calRead c i
      q.2.answer c [q.1]
    else s).settle

/-- 250 ms after it opened. -/
def execFreezeTimeout (c : Fin 8) (s : State) : Host.Outcome State Fault Refusal :=
  .next (if (s.frzOf c).isSome ∧ s.ran (.frz c) 250000 then (s.unfreeze c).rtcErr 7 (some 0) none else s).settle

/-! Writes of the calendar (R472). -/

def State.unpend (s : State) : State := s.wr rtcB RTC.PEND_HELD 0

/-- A write of CTRL: DISCARD and FREEZE_REL. -/
def State.rtcCtrl (s : State) (c : Fin 8) (v : Word) : State :=
  let s1 := if getBits v 0 1 = 1 then s.unpend else s
  if getBits v 1 1 = 1 then s1.unfreeze c else s1

def execFreezeRel (c : Fin 8) (s : State) : Host.Outcome State Fault Refusal :=
  .next (s.ifWrites c 0xA064 2 fun s => s.rtcCtrl c 2).settle

def execRtcDiscard (c : Fin 8) (s : State) : Host.Outcome State Fault Refusal :=
  .next (s.ifWrites c 0xA064 1 fun s => s.rtcCtrl c 1).settle

/-- The register of a held field: MIN, HOUR, DAY, MONTH, YEAR. -/
def heldReg (k : Nat) : Nat := if k = 4 then 0x5C else 0x48 + 4 * k
def heldWidth (k : Nat) : Nat := if k = 0 then 6 else if k = 1 ∨ k = 2 then 5 else if k = 3 then 4 else 8

/-- A field is held. -/
def State.rtcHold (s : State) (c : Nat) (k : Fin 5) (v : Word) : State :=
  ((s.wr rtcB (RTC.PEND_HELD.at k) 1).wr rtcB RTC.PEND_CTX c).modClk
    (fun h => { h with held := h.held.set k (getBits v 0 (heldWidth k)) })

def execRtcFieldWrite (c : Fin 8) (k : Fin 5) (v : Word) (s : State) : Host.Outcome State Fault Refusal :=
  .next (s.ifWrites c (rtcB + heldReg k) v fun s => s.rtcHold c k v).settle

/-- The calendar that a commit forms, from the live fields before a boundary of this tick (R480). -/
def State.formed (s : State) (v : Word) : Cal :=
  let c := s.clk.second.getD s.cal
  let f := fun (k : Fin 5) (live : Nat) => if s.bit rtcB (RTC.PEND_HELD.at k) then s.clk.held[k] else live
  { sec := getBits v 0 6, min := f 0 c.min, hour := f 1 c.hour, day := f 2 c.day, month := f 3 c.month, year := f 4 c.year }

/-- A write of SEC. (DEDUCED, log 58.) -/
def State.rtcCommit (s : State) (v : Word) : State :=
  let c := s.formed v
  if c.ok then
    (((s.setCal c).wr rtcB RTC.SUBSEC_COUNT 0).unpend).modClk (fun h => { h with freeze := Vector.replicate 8 none, ins := 0, frac := 0, second := none })
  else s.unpend.rtcErr 4 (some 0) none

def execRtcCommit (c : Fin 8) (v : Word) (s : State) : Host.Outcome State Fault Refusal :=
  .next (s.ifWrites c 0xA044 v fun s => s.rtcCommit v).settle

/-! The backup supply (R465, R466, R473). -/

/-- The domain changes to VBAK: the change counted, the first one stamped. -/
def State.toVbak (s : State) : State :=
  let s0 := s.wr rtcB RTC.STATUS_ON_BAK 1
  let s1 := if s0.fills rtcB RTC.SWO_CNT_COUNT then
      ((s0.bump rtcB RTC.SWO_CNT_COUNT).wr rtcB RTC.SWO_CNT_SAT 1).rtcErr 8 none none
    else s0.bump rtcB RTC.SWO_CNT_COUNT
  if s1.bit rtcB RTC.SWO_B_VALID then s1
  else
    let c := s1.cal
    let s2 := (((s1.wr rtcB RTC.SWO_A_SEC c.sec).wr rtcB RTC.SWO_A_MIN c.min).wr rtcB RTC.SWO_A_HOUR c.hour).wr rtcB RTC.SWO_A_DAY c.day
    (((s2.wr rtcB RTC.SWO_B_MONTH c.month).wr rtcB RTC.SWO_B_YEAR c.year).wr rtcB RTC.SWO_B_VALID 1).rtcErr 3 (some 0) none

/-- The registers marked BPOR. -/
def bporKey (k : Nat) : Bool := k == rtcB + 8 || k == rtcB + 0xC || (decide (rtcB + 0x40 ≤ k ∧ k < rtcB + 0x60)) || decide (rtcB + 0x68 ≤ k ∧ k < rtcB + 0x88)

/-- The retention monitor declares BPOR. (DEDUCED, log 58.) -/
def State.bpor (s : State) : State :=
  let s1 := (s.resetKeys bporKey).modClk (fun h => { h with ins := 0, cyc := 0, frac := 0, due := 0, second := none })
  let s2 := (s1.rtcErr 0 (some 1) (some 1)).rtcErr 6 none none
  if s.mode = mFALLOW then s2 else s2.wr devB DEV.RESET_CAUSE_BPOR_SEEN 1

def execBpor (s : State) : Host.Outcome State Fault Refusal := .next (s.bpor).settle

/-! TIME (R475, R476). -/

abbrev nsPerS : Nat := 1000000000

/-- TIME set from a number of nanoseconds; its seconds wrap at 2^34. -/
def State.setTime (s : State) (t : Int) : State :=
  let n := (t % ((2 ^ 34 * nsPerS : Nat) : Int)).toNat
  { s with timeNs := n % nsPerS, timeSec := n / nsPerS }

def State.timeTotal (s : State) : Nat := s.timeSec * nsPerS + s.timeNs

/-- One system tick of TIME: 25 reference cycles of 40 ns with FTRIM (R475) and the slew in force (R479). (DEDUCED, log 58.) -/
def State.timeTick (s : State) : State :=
  let adj : Int := s.rdI timeB TIME.FTRIM_FTRIM * 390625 - (if s.clk.slewLeft = 0 then 0 else s.clk.slew * 1024)
  let p := (s.clk.part : Int) + adj + 1000 * 1024000000
  let d := (p / 1024000000).toNat
  let s1 := s.modClk (fun h => { h with part := (p % 1024000000).toNat, slewLeft := h.slewLeft - 1 })
  let t := s.timeTotal + d
  let s2 := s1.setTime t
  if 2 ^ 34 * nsPerS ≤ t then s2.err timeB 3 126 (some 0) none else s2

/-- One system tick of the 32.768 kHz prescaler: SUBSEC waits at its end for the second's boundary. -/
def State.oscTick (s : State) : State :=
  if s.oscRuns then
    let f := s.clk.frac + 32768
    if f < 1000000 then s.modClk (fun h => { h with frac := f })
    else
      let s1 := s.modClk (fun h => { h with frac := f - 1000000, ins := h.ins - 1, cyc := h.cyc + 1 })
      if s.clk.ins = 0 then s1.wr rtcB RTC.SUBSEC_COUNT (min 32767 (s.rd rtcB RTC.SUBSEC_COUNT + 1)) else s1
  else s

/-- TIME takes the calendar's count, and the doubt of OSF. -/
def State.timeLoad (s : State) : State :=
  let c := s.cal
  let sec := dayNum c.year c.month c.day * 86400 + c.hour * 3600 + c.min * 60 + c.sec
  let s1 := { s with timeSec := sec, timeNs := s.rd rtcB RTC.SUBSEC_COUNT * nsPerS / 32768 }
  (s1.modClk (fun h => { h with loaded := true })).wrB timeB TIME.STATUS_RTC_SUSPECT (s.bit rtcB RTC.ERR_OSF)

def execTimeLoad (s : State) : Host.Outcome State Fault Refusal :=
  .next (if s.mode = mWAKING ∧ s.clk.loaded = false then s.timeLoad else s).settle

def State.latchOf (s : State) (c : Fin 8) : Option (Nat × Nat) := s.clk.latch[c]
def State.setLatch (s : State) (c : Fin 8) (v : Option (Nat × Nat)) : State := s.modClk (fun h => { h with latch := h.latch.set c v })

/-- A read of TIME.NS latches SEC and SECH. -/
def State.nsRead (s : State) (c : Fin 8) : Word × State :=
  (BitVec.ofNat 32 s.timeNs, s.setLatch c (some (s.timeSec % 2 ^ 32, s.timeSec / 2 ^ 32)))

/-- What a context reads in TIME.SEC and TIME.SECH. -/
def State.secRead (s : State) (c : Fin 8) : Nat × Nat := (s.latchOf c).getD (s.timeSec % 2 ^ 32, s.timeSec / 2 ^ 32)

def execTimeNsRead (c : Fin 8) (s : State) : Host.Outcome State Fault Refusal :=
  .next (if s.mayRead c 0xA440 then
      let q := s.nsRead c
      q.2.answer c [q.1]
    else s).settle

/-! Setting TIME (R477). -/

def State.setSec (s : State) : Nat := s.rd timeB TIME.SET_SEC_SEC + s.rd timeB TIME.SET_SECH_SEC * 2 ^ 32

/-- A write of CTRL. -/
def State.timeCtrl (s : State) (op : Nat) : State :=
  if op = 1 then
    if s.rd timeB TIME.SET_NS_NS < nsPerS then
      { s with timeSec := s.setSec, timeNs := s.rd timeB TIME.SET_NS_NS }.modClk (fun h => { h with setTick := some s.tick, part := 0 })
    else s.err timeB 0 126 (some 0) none
  else if op = 2 then s.wr timeB TIME.STATUS_SET_ARMED 1
  else if op = 3 then s.wr timeB TIME.STATUS_SET_ARMED 0
  else s

def execSetNow (c : Fin 8) (s : State) : Host.Outcome State Fault Refusal :=
  .next (s.ifWrites c 0xA464 1 fun s => s.timeCtrl 1).settle
def execSetAtPps (c : Fin 8) (s : State) : Host.Outcome State Fault Refusal :=
  .next (s.ifWrites c 0xA464 2 fun s => s.timeCtrl 2).settle
def execCancel (c : Fin 8) (s : State) : Host.Outcome State Fault Refusal :=
  .next (s.ifWrites c 0xA464 3 fun s => s.timeCtrl 3).settle

/-! PPS (R478, R479). -/

/-- A step of TIME: it reads `at edge` nanoseconds at the edge, `lead` before now's end. -/
def State.timeStep (s : State) (t : Int) (off : Int) : State :=
  ((s.setTime t).modClk (fun h => { h with slewLeft := 0, part := 0 })).err timeB 2 126 (some 0) (some (codeOf 32 off))

/-- A slew over the following second. -/
def State.timeSlew (s : State) (off : Int) : State :=
  let m : Int := (orIf0 (s.rd timeB TIME.CFG_SLEW) 1 * 10000 : Nat)
  s.modClk (fun h => { h with slew := clampI (-m) m off, slewLeft := 1000000 })

/-- A qualified edge, `lead` ns after the tick's start. -/
def State.ppsGood (s : State) (lead : Nat) (now : Nat) : State :=
  let first := !s.bit timeB TIME.STATUS_LOCKED
  let cap := s.timeTotal + lead
  let ns := cap % nsPerS
  let sec := if ns < 500000000 then cap / nsPerS else cap / nsPerS + 1
  let off : Int := (cap : Int) - (sec * nsPerS : Nat)
  let s1 := ((((s.wr timeB TIME.STATUS_LOCKED 1).wr timeB TIME.PPS_CAP_NS_NS ns).wr timeB TIME.PPS_CAP_SEC_SEC (cap / nsPerS)).wrI
    timeB TIME.PPS_OFF_OFF off).count timeB TIME.PPS_CNT_EDGES TIME.PPS_CNT_EDGES_SAT timeB 4 126
  let s2 := s1.modClk (fun h => { h with ppsLast := now, missed := 0 })
  let m := s.rd timeB TIME.CFG_MODE
  let step := ((sec * nsPerS : Nat) : Int) - lead
  if s.bit timeB TIME.STATUS_SET_ARMED ∧ s.clk.setTick ≠ some s.tick then
    (s2.wr timeB TIME.STATUS_SET_ARMED 0).timeStep (((s.setSec * nsPerS : Nat) : Int) - lead) off
  else if m = 0 then s2
  else if m = 1 ∨ (m = 3 ∧ (first ∨ (s.rd timeB TIME.CFG_STEP_TH * 10000 : Nat) < off.natAbs)) then s2.timeStep step off
  else s2.timeSlew off

/-- WIN in ns. (DEDUCED, log 58.) -/
def State.ppsWin (s : State) : Nat := orIf0 (s.rd timeB TIME.WIN_WIN) 1 * 1000

def State.ppsBad (s : State) : State :=
  (s.count timeB TIME.PPS_CNT_BAD TIME.PPS_CNT_BAD_SAT timeB 4 126).err timeB 0 126 (some 0) none

/-- A PPS edge, `lead` cycles of 40 ns after the tick's start, is qualified or not (R478). -/
def State.ppsTake (s : State) (lead : Nat) : State :=
  let now := s.tick * 1000 + lead * 40
  let d := now - s.clk.ppsLast
  if !s.bit timeB TIME.STATUS_LOCKED ∨ (nsPerS ≤ d + s.ppsWin ∧ d ≤ nsPerS + s.ppsWin) then s.ppsGood (lead * 40) now
  else if d + s.ppsWin < nsPerS then s.ppsBad
  else s

/-- The PPS edges of a tick act at its end, after a SET_NOW of the tick (R480). (DEDUCED, log 58.) -/
def State.ppsEnd (s : State) : State :=
  s.clk.edges.foldl State.ppsTake (s.modClk (fun h => { h with edges := [] }))

/-- A PPS edge, `lead` reference cycles of 40 ns after the tick's start, is captured. -/
def execPpsEdge (lead : Fin 25) (s : State) : Host.Outcome State Fault Refusal :=
  .next (if s.up && !s.vioOut then s.modClk (fun h => { h with edges := h.edges ++ [lead.val] }) else s).settle

/-- 1 s + WIN without an edge; every further second without one is a missed edge more. (DEDUCED, log 58.) -/
def execPpsMissed (s : State) : Host.Outcome State Fault Refusal :=
  .next (if s.up ∧ s.bit timeB TIME.STATUS_LOCKED ∧
      s.clk.ppsLast + (s.clk.missed + 1) * nsPerS + s.ppsWin ≤ s.tick * 1000 then
      let n := s.clk.missed + 1
      let s1 := (s.ppsBad).modClk (fun h => { h with missed := n })
      if orIf0 (s.rd timeB TIME.CFG_LOSS_N) 1 ≤ n then
        ((s1.wr timeB TIME.STATUS_LOCKED 0).modClk (fun h => { h with missed := 0 })).err timeB 1 126
          (some (min 2 (s.rd timeB TIME.CFG_LOSS_CLS))) none
      else s1
    else s).settle

end Sys2Proof.Machine
end

