-- ==== Sys2Proof/Machine/Twi.lean ====
section
/-! DEFINITION. The two-wire controllers (R483 to R495). -/

namespace Sys2Proof.Machine

open Sys2Proof

/-! Descriptors (R484). -/

abbrev opTwi : Nat := 0x0C

/-- Which controller a command names. -/
def twiOf (k : Cmd) : Fin 2 := if getBits k.a0 0 1 = 0 then 0 else 1
def twAddr (k : Cmd) : Nat := getBits k.a0 1 7
def twWr (k : Cmd) : Nat := getBits k.a0 8 8
def twRd (k : Cmd) : Nat := getBits k.a0 16 8
def twWofs (k : Cmd) : Nat := getBits k.a1 0 7
def twRofs (k : Cmd) : Nat := getBits k.a1 8 7
def twPlen (k : Cmd) : Nat := getBits k.a2 0 2
def twPec (k : Cmd) : Bool := getBits k.a2 2 1 == 1
def twRdstop (k : Cmd) : Bool := getBits k.a2 3 1 == 1
def twPage (k : Cmd) : Nat := getBits k.a2 4 3
def twPoll (k : Cmd) : Nat := getBits k.a2 8 8
def twPtr (k : Cmd) : Nat := getBits k.a2 16 16

/-- CRC-8 of the packet error code (R487). -/
def crc8Bit (c : Nat) : Nat := if 128 ≤ c then (c * 2 % 256).xor 7 else c * 2
/-- (PRESUMED, log 62.) -/
def crc8 (l : List Byte) : Nat := l.foldl (fun c b => (List.range 8).foldl (fun x _ => crc8Bit x) (c.xor b.toNat)) 0

/-! Transactions (R485, R486). -/

/-- A byte on the bus: an address, another byte sent (`data` where it counts), a data byte received, a code received. -/
inductive TwiItem where
  | addr (b : Byte)
  | out (b : Byte) (data : Bool)
  | inp
  | code
  deriving DecidableEq, Repr

def TwiItem.isData : TwiItem → Bool
  | .out _ d => d
  | .inp => true
  | _ => false

/-- The data bytes of the write that begins at byte `p`: up to the next page boundary and the top of the pointer's space. -/
def twChunk (k : Cmd) (p : Nat) : Nat :=
  let left := twWr k - p
  let ptr := (twPtr k + p) % 2 ^ (8 * twPlen k)
  let a := if twPage k = 0 then left else min left (2 ^ (twPage k + 2) - ptr % 2 ^ (twPage k + 2))
  if twPlen k = 0 then a else min a (2 ^ (8 * twPlen k) - ptr)

def twPtrBytes (k : Cmd) (v : Nat) : List TwiItem :=
  if twPlen k = 0 then [] else if twPlen k = 1 then [.out (BitVec.ofNat 8 v) false]
  else [.out (BitVec.ofNat 8 (v / 256)) false, .out (BitVec.ofNat 8 v) false]

def twBytes (l : List TwiItem) : List Byte := l.filterMap (fun x => match x with | .addr b => some b | .out b _ => some b | _ => none)

/-- The read phase, `q` bytes being read already. (DEDUCED, log 59.) -/
def twReads (k : Cmd) (q : Nat) : List TwiItem :=
  .addr (BitVec.ofNat 8 (twAddr k * 2 + 1)) :: (List.replicate (twRd k - q) TwiItem.inp ++ if twPec k then [.code] else [])

/-- The write part of the transaction at byte `p` in phase `ph`. -/
def twWrite (k : Cmd) (p ph : Nat) : List TwiItem :=
  let c := if ph = 2 then 0 else twChunk k p
  .addr (BitVec.ofNat 8 (twAddr k * 2)) :: (twPtrBytes k (twPtr k + if ph = 2 then p - twWr k else p) ++
    ((k.buf.drop (twWofs k + p)).take c).map (fun b => TwiItem.out b true))

/-- The write part is followed by a repeated START and the read phase. -/
def twJoined (k : Cmd) (p ph : Nat) : Bool :=
  (ph == 2 || p + twChunk k p == twWr k) && twRd k != 0 && !twRdstop k

/-- The bytes of the current transaction. -/
def twItems (k : Cmd) (p ph : Nat) : List TwiItem :=
  if ph = 1 then twReads k (p - twWr k)
  else
    let w := twWrite k p ph
    if twJoined k p ph then w ++ twReads k (p - twWr k)
    else if twPec k then w ++ [.out (BitVec.ofNat 8 (crc8 (twBytes w))) false] else w

/-- Where the descriptor stands after the transaction; none where it has ended. -/
def twAfter (k : Cmd) (p ph : Nat) : Option (Nat × Nat) :=
  if ph = 1 ∨ twJoined k p ph then none
  else if ph = 2 then some (p, 1)
  else
    let q := p + twChunk k p
    if q < twWr k then some (q, 0) else if twRd k = 0 then none else some (q, 1)

/-- Where a transfer starts, or starts again after `p` data bytes (R494). (DEDUCED, log 59.) -/
def twFrom (k : Cmd) (p : Nat) (again : Bool) : Nat :=
  if p < twWr k then 0
  else if twRd k = 0 then 0
  else if twPlen k = 0 then (if twWr k = 0 ∨ again then 1 else 0)
  else if again then 2 else 0

/-! The controller. -/

def twEv (i : Fin 2) : Nat := 127 + i.val

/-- LAST takes a failure; the bit of one that is not a loss is not stated. (DEDUCED, log 59.) -/
def State.twLast (s : State) (i : Fin 2) (k : Cmd) (cause byte : Nat) (bit : Option Nat) : State :=
  let d := s.draw
  let b := match bit with | some x => (x, s) | none => (d.1.toNat % 8, d.2)
  (((b.2.wr (twiB i) TWI.LAST_CAUSE cause).wr (twiB i) TWI.LAST_BYTE byte).wr (twiB i) TWI.LAST_BIT b.1).wr (twiB i) TWI.LAST_ADDR (twAddr k)

/-- Data bytes among the first `n` of a transaction. -/
def twCount (l : List TwiItem) (n : Nat) : Nat := ((l.take n).filter TwiItem.isData).length

/-- The data bytes completed so far. -/
def State.twDone (s : State) (i : Fin 2) (k : Cmd) : Nat :=
  (s.twi i).p + twCount (twItems k (s.twi i).p (s.twi i).ph) (s.twi i).n

/-- The data bytes among those received in the current transaction. -/
def State.twGot (s : State) (i : Fin 2) (k : Cmd) : List Byte :=
  let h := s.twi i
  let m := ((twItems k h.p h.ph).filter (fun x => x == .inp)).length
  h.got ++ h.ins.take m

/-- The command of a transfer ends: what was read goes to the buffer (R330, R487). -/
def State.twClose (s : State) (i : Fin 2) (k : Cmd) (st res : Nat) : State :=
  ({ s with twiGot := s.twiGot.filter (fun g => g.1 != k.tag) }.completeB k st res (twRofs k) (s.twGot i k)).twRest i

/-- The transfer ends. While its engine is stopped it keeps its grants, and its command ends when the engine resumes (R495).
(DEDUCED, log 59.) -/
def State.twEnd (s : State) (i : Fin 2) (k : Cmd) (st res : Nat) : State :=
  if (s.twi i).tag = some k.tag ∧ s.cmdStopped k then
    s.modTwi i (fun h => { h with fin := some (st, res), poll := false, wait := false })
  else s.twClose i k st res

/-- A failure (R488). -/
def State.twFail (s : State) (i : Fin 2) (k : Cmd) (cause : Nat) : State :=
  (s.twLast i k cause (s.twi i).n none).twEnd i k stFAILED (cause + s.twDone i k * 256)

/-- All transactions are done. -/
def State.twGood (s : State) (i : Fin 2) (k : Cmd) : State :=
  (s.count (twiB i) TWI.CNT_XFERS TWI.CNT_XF_SAT (twiB i) 8 (twEv i)).twEnd i k stDONE (twWr k + twRd k)

/-- The next transaction begins. -/
def State.twTurn (s : State) (i : Fin 2) (p ph : Nat) (got : List Byte) : State :=
  s.modTwi i (fun h => { h with p := p, ph := ph, n := 0, ins := [], got := got, poll := false })

/-- Bytes acknowledged or received: `n` more of the current transaction; an idle line reads as ones. -/
def State.twMove (s : State) (i : Fin 2) (k : Cmd) (n : Nat) (ins : List Byte) : State :=
  let h := s.twi i
  let l := ((twItems k h.p h.ph).drop h.n).take n
  let m := (l.filter (fun x => x == .inp || x == .code)).length
  s.modTwi i (fun h => { h with n := h.n + l.length, ins := h.ins ++ (ins ++ List.replicate m 0xFF).take m })

/-- The code received disagrees with the code of the transaction (R487). -/
def State.twPecBad (s : State) (i : Fin 2) (k : Cmd) : Bool :=
  let h := s.twi i
  let l := twItems k h.p h.ph
  l.contains .code && (match h.ins.getLast? with
    | some c => c.toNat != crc8 (twBytes l ++ h.ins.dropLast)
    | none => false)

/-- Arbitration lost at a bit (R490). -/
def State.twLost (s : State) (i : Fin 2) (k : Cmd) (bit : Nat) : State :=
  let h := s.twi i
  let s1 := ((s.twLast i k 6 h.n (some bit)).err (twiB i) 1 (twEv i) (some 0) none).count (twiB i) TWI.CNT_ARBLOST TWI.CNT_AL_SAT
    (twiB i) 8 (twEv i)
  if h.retries = 0 then s1.twEnd i k stFAILED (6 + s.twDone i k * 256)
  else (s1.modTwi i (fun h => { h with retries := h.retries - 1, wait := true, n := 0, ins := [] })).setTwiSt i 4

/-- One report of the bus: what became of the current transaction. -/
def State.twStep (s : State) (i : Fin 2) (k : Cmd) (x : TwiTx) : State :=
  let h := s.twi i
  let l := twItems k h.p h.ph
  match x.fin with
  | .hold => s.twMove i k x.n x.ins
  | .nack =>
    let s1 := s.twMove i k x.n x.ins
    let isAddr := match l[(s1.twi i).n]? with | some (.addr _) => true | _ => false
    (s1.twFail i k (if isAddr then 4 else 5)).err (twiB i) 0 (twEv i) none none
  | .lost b => (s.twMove i k x.n x.ins).twLost i k b.val
  | .cond => ((s.twMove i k x.n x.ins).twFail i k 7).err (twiB i) 2 (twEv i) (some 0) none
  | .done =>
    let s1 := s.twMove i k l.length x.ins
    if s1.twPecBad i k then (s1.twFail i k 8).err (twiB i) 3 (twEv i) none none
    else match twAfter k h.p h.ph with
      | none => s1.twGood i k
      | some (p, ph) => s1.twTurn i p ph (s1.twGot i k)
  | .poll =>
    let s1 := s.twMove i k l.length x.ins
    if twPoll k ≠ 0 ∧ h.ph = 0 ∧ twJoined k h.p h.ph = false ∧ h.poll = false then
      (s1.modTwi i (fun h => { h with poll := true })).mark (.poll i)
    else s1

/-- The bus's reports in turn, while the transfer runs. -/
def State.twRun (s : State) (i : Fin 2) (k : Cmd) : List TwiTx → State
  | [] => s
  | x :: t => if (s.twi i).tag = some k.tag ∧ (s.twi i).wait = false ∧ (s.twi i).fin = none then (s.twStep i k x).twRun i k t else s

/-- The retries left and the data bytes read: those a revocation kept, else all and none. (DEDUCED, log 59.) -/
def State.twKept (s : State) (k : Cmd) : Nat × List Byte :=
  match s.twiGot.find? (fun g => g.1 == k.tag) with
  | some g => g.2
  | none => (s.rd (twiB (twiOf k)) TWI.CFG_ARB_RETRY, [])

/-- A transfer that finds its controller disabled fails (R493), with the data bytes it has completed (R488). -/
def State.twDisabled (s : State) (i : Fin 2) (k : Cmd) : State :=
  let s1 := s.twLast i k 3 0 none
  { s1 with twiGot := s1.twiGot.filter (fun g => g.1 != k.tag) }.completeB k stFAILED (3 + k.prog * 256) (twRofs k) (s.twKept k).2

/-- Why a descriptor is refused. (DEDUCED, log 15.) -/
def State.twRefusal (s : State) (k : Cmd) : Option Nat :=
  if twAddr k < 8 ∨ 0x77 < twAddr k then some 1
  else if k.a0.toNat / 2 ^ 24 ≠ 0 ∨ getBits k.a1 7 1 ≠ 0 ∨ k.a1.toNat / 2 ^ 15 ≠ 0 ∨ getBits k.a2 7 1 ≠ 0 ∨ twPlen k = 3 ∨
    (twPage k ≠ 0 ∧ twPlen k = 0) then some 2
  else if !s.bit (twiB (twiOf k)) TWI.CFG_EN then some 3
  else if 128 < twWofs k + twWr k ∨ 128 < twRofs k + twRd k then some 0xFE
  else none

/-- The controller begins, or begins again, with a command. -/
def State.twBegin (s : State) (k : Cmd) : State :=
  ((s.runK k).modTwi (twiOf k) (fun _ => { TwiHid.reset with
    tag := some k.tag, p := k.prog, ph := twFrom k k.prog (decide (k.prog ≠ 0)), got := (s.twKept k).2,
    retries := (s.twKept k).1 })).setTwiSt (twiOf k) 2

/-- TWI_XFER: `l` is what the bus reports, from the start or from where the transfer stands. -/
def execTwiXfer (t : BitVec 8) (l : List TwiTx) (s : State) : Host.Outcome State Fault Refusal :=
  .next (match s.findCmd t.toNat with
    | none => s
    | some k =>
      if k.op ≠ opTwi then s
      else if k.phase = Phase.running then s.twRun (twiOf k) k l
      else s.start t opTwi fun k s =>
        match s.twRefusal k with
        | some c =>
          if c = 3 then s.twDisabled (twiOf k) k
          else (if c = 0xFE then s else s.twLast (twiOf k) k c 0 none).failK k c
        | none => (s.twBegin k).twRun (twiOf k) k l).settle

/-- The command whose transfer a controller runs. -/
def State.twCmd (s : State) (i : Fin 2) : Option Cmd := if (s.twi i).fin.isSome then none else (s.twi i).tag.bind s.findCmd

/-- The bus-free time in ns (R483). -/
def State.twFree (s : State) (i : Fin 2) : Nat :=
  let v := s.rd (twiB i) TWI.CFG_SPEED
  if v = 0 then 4700 else if v = 1 then 1300 else 500

/-- STRETCH_T in microseconds (R489). -/
def State.twStretch (s : State) (i : Fin 2) : Nat := orIf0 (s.rd (twiB i) TWI.CFG_STRETCH_T) 1 * 1000

/-- The bus has been free for `ns` nanoseconds. -/
def execTwiRetry (i : Fin 2) (ns : Nat) (l : List TwiTx) (s : State) : Host.Outcome State Fault Refusal :=
  .next (match s.twCmd i with
    | none => s
    | some k =>
      if (s.twi i).wait ∧ s.twFree i ≤ ns then ((s.modTwi i (fun h => { h with wait := false })).setTwiSt i 2).twRun i k l else s).settle

def execTwiPollTimeout (i : Fin 2) (s : State) : Host.Outcome State Fault Refusal :=
  .next (match s.twCmd i with
    | none => s
    | some k => if (s.twi i).poll ∧ s.ran (.poll i) (twPoll k * 1000) then (s.twFail i k 4).err (twiB i) 0 (twEv i) none none else s).settle

/-- SCL has stayed low for `us` microseconds after the controller released it. -/
def execTwiStretchTimeout (i : Fin 2) (us : Nat) (s : State) : Host.Outcome State Fault Refusal :=
  .next (match s.twCmd i with
    | none => s
    | some k =>
      if (s.twi i).wait ∨ us < s.twStretch i then s
      else ((s.twFail i k 9).modTwi i (fun h => { h with stretch := true })).err (twiB i) 4 (twEv i) none none).settle

/-- The controller is disabled: waiting transfers fail (R493). -/
def State.twOff (s : State) (i : Fin 2) : State :=
  let s1 := s.wr (twiB i) TWI.CFG_EN 0
  let s2 := (s1.cmds.filter (fun k => k.op == opTwi && k.phase == .waiting && twiOf k == i)).foldl
    (fun t k => t.twDisabled i k) s1
  if (s2.twi i).tag.isNone then s2.twRest i else s2

/-- SCL has stayed low for `us` microseconds more. -/
def execSclStuck (i : Fin 2) (us : Nat) (s : State) : Host.Outcome State Fault Refusal :=
  .next (if (s.twi i).stretch ∧ s.twStretch i ≤ us then
      ((s.modTwi i (fun h => { h with stretch := false })).err (twiB i) 5 (twEv i) (some 1) none).twOff i
    else s).settle

/-- A transfer that has ended while its engine was stopped is closed when it resumes. (DEDUCED, log 59.) -/
def State.twResume (s : State) (i : Fin 2) : State :=
  match (s.twi i).fin, (s.twi i).tag.bind s.findCmd with
  | some f, some k => if s.cmdStopped k then s else s.twClose i k f.1 f.2
  | _, _ => s

/-! Recovery and reset (R491, R492). -/

/-- The transfer that waits for its START on a controller. -/
def State.twNext (s : State) (i : Fin 2) : Option Cmd :=
  match s.twCmd i with
  | some k => if (s.twi i).n = 0 then some k else none
  | none => s.cmds.find? (fun k => k.op == opTwi && twiOf k == i && s.holdsAll k && (s.twi i).fin.isNone)

/-- A recovery ends; `freed`: SDA reads high. -/
def State.twRecover (s : State) (i : Fin 2) (freed : Bool) : State :=
  if freed then
    let s1 := s.err (twiB i) 7 (twEv i) (some 0) none
    if s.rd (twiB i) TWI.STATUS_STATE = 3 then s1.twRest i else s1
  else
    let s1 := s.err (twiB i) 6 (twEv i) (some 1) none
    let s2 := match s.twNext i with
      | some k => (s1.twLast i k 0xA 0 none).twEnd i k stFAILED (0xA + s1.twDone i k * 256)
      | none => s1
    s2.twOff i

/-- SDA has stayed low for `us` microseconds while SCL stayed high; a recovery on demand asks for no such time. -/
def execTwiRecovery (i : Fin 2) (us : Nat) (freed : Bool) (s : State) : Host.Outcome State Fault Refusal :=
  .next (if s.bit (twiB i) TWI.CFG_EN ∧ (s.rd (twiB i) TWI.STATUS_STATE = 3 ∨
      ((s.twNext i).isSome ∧ orIf0 (s.rd (twiB i) TWI.CFG_RECOV_T) 1 * 10 ≤ us)) then s.twRecover i freed else s).settle

/-- A write of CTRL. -/
def State.twCtrl (s : State) (i : Fin 2) (v : Word) : State :=
  let s1 := if getBits v 0 1 = 1 then
      (match s.twCmd i with
       | some k => s.twFail i k 0xB
       | none => if s.rd (twiB i) TWI.STATUS_STATE = 3 then s.twRest i else s)
    else s
  if getBits v 1 1 = 1 ∧ s1.rd (twiB i) TWI.STATUS_STATE = 1 then s1.setTwiSt i 3 else s1

def execTwiReset (c : Fin 8) (i : Fin 2) (s : State) : Host.Outcome State Fault Refusal :=
  .next (s.ifWrites c (twiB i + 0x44) 1 fun s => s.twCtrl i 1).settle

def execTwiRecover (c : Fin 8) (i : Fin 2) (s : State) : Host.Outcome State Fault Refusal :=
  .next (s.ifWrites c (twiB i + 0x44) 2 fun s => s.twCtrl i 2).settle

/-- A write of CFG: EN, and the fields of a page's settings (R493). -/
def State.twCfg (s : State) (i : Fin 2) (v : Word) : State :=
  let s1 := s.setW (twiB i + 0x40) (v &&& 0xFFFFF7)
  if getBits v 0 1 = 0 then s1.twOff i
  else if s.bit (twiB i) TWI.CFG_EN then s1 else s1.twRest i

/-- A transfer is taken back at a byte's acknowledge (R494): its progress, and what it keeps. (DEDUCED, log 59.) -/
def State.twPause (s : State) (k : Cmd) : State × Nat :=
  let i := twiOf k
  if (s.twi i).tag = some k.tag then
    let n := s.twDone i k
    let g := ((s.twi i).retries, s.twGot i k)
    ({ s with twiGot := (k.tag, g) :: s.twiGot.filter (fun x => x.1 != k.tag) }.twRest i, n)
  else (s, k.prog)

end Sys2Proof.Machine
end

