-- ==== Sys2Proof/Machine/BusLoop.lean ====
section
/-! DEFINITION. The sample of the bus converter (R163 to R167, R170, R173, R182, R183) and the current limits of its
phases (R165), as operations. -/

namespace Sys2Proof.Machine

open Sys2Proof

/-! The caps (R165, R169). -/

/-- ITOT and PLIM as the count of remaining phases scales them (R165, R169): ITOT in mA, PLIM in mW. -/
def State.busCaps (s : State) : Nat × Nat :=
  let n := s.busNph
  let left := (s.busLeft.filter (fun p => decide (p < 48 + n))).length
  (clampN 1 200 (s.rd buscB BUSC.ILIM_ITOT) * 1000 * left / n, min 2800 (s.rd buscB BUSC.PLIM_P) * 1000 * left / n)

/-- The bus-side limits in force, in mA: ITOT, or 2.0 A in CSTART (R166); PLIM at this VBUS; and the current ramp of the states
that have one (R170). -/
def State.busLims (s : State) (vbus : Nat) : Nat × Nat × Nat :=
  let st := s.busSt
  let c := s.busCaps
  let ramp := if st = bFSTOP ∨ st = bRSTOP ∨ (st = bFSTART ∧ s.bus.outer = 2) then s.bus.ramp else 1000000
  (if st = bCSTART then 2000 else c.1, c.2 * 1000 / max 1 vbus, ramp)

/-- The current ramp of a sample (R170): up from 0 in FSTART, down to 0 in FSTOP and RSTOP, by TURN.RAMP. -/
def State.rampStep (s : State) : State :=
  let st := s.busSt
  if st = bFSTART ∨ st = bFSTOP ∨ st = bRSTOP then
    let b := s.bus
    let m := moveRef b.ramp (if st = bFSTART then 200000 else 0) b.rampRem (orIf0 (s.rd buscB BUSC.TURN_RAMP) 1 * 250000) s.busFreq
    s.modBus (fun b => { b with ramp := m.1, rampRem := m.2 })
  else s

/-- The forward soft start is over (R170): the current is at the loop's demand, or the ramp at 200 A. -/
def State.fstartOver (s : State) : Bool :=
  decide (200000 ≤ s.bus.ramp) ||
    (if s.bus.outer = 1 then decide (s.iDem ≤ s.bus.ramp) else decide ((s.rdI buscB BUSC.MON_IBUS).natAbs * 100 < s.bus.ramp))

/-! The monitors. -/

/-- IPACK in 10 mA from the shunt's voltage in µV, of which the amplifier spans ±80 mV (R179), rounded down. (DESIGN CHOICE,
log 75.) -/
def State.ipackOf (s : State) (uv : Int) : Int :=
  clampI (-32768) 32767 (clampI (-80000) 80000 uv * 10 / (orIf0 (s.rd chgB CHG.CFG_RSH) 1 : Nat))

/-- The monitors of BUSC, PORT and CHG, and the currents of the bus phases (R103, R173, R176, R177, R179). -/
def State.busMon (s : State) (m : BusMeas) : State :=
  let vds := fun (a b : Nat) => clampI (-2048) 2047 ((a : Int) - b)
  let nvds := vds m.vnode m.vn
  let i := (nvds * 1000 / (orIf0 (s.rd portB PORT.NCFG_RDS) 1 : Nat)).toNat
  let s1 := (s.wrI buscB BUSC.MON_IBUS (clampI (-2048) 2047 m.ibus)).wr buscB BUSC.MON_VNODE (min 4095 (m.vnode / 20))
  let s2 := ((s1.wr (port 0) PORT.P_MON_V (min 4095 (m.va / 20))).wrI (port 0) PORT.P_MON_VDS (vds m.va m.vnode)).wr (port 1)
    PORT.P_MON_V (min 4095 (m.vb / 20))
  let s3 := ((s2.wrI (port 1) PORT.P_MON_VDS (vds m.vb m.vnode)).wr portB PORT.NMON_V (min 4095 (m.vn / 20))).wrI portB
    PORT.NMON_VDS nvds
  let s4 := ((s3.wr buscB BUSC.DONOR_MON_IN (min 4095 i)).wr buscB BUSC.DONOR_MON_PN (min 4095 (m.vn * i / 100000))).wrI chgB
    CHG.MON_IPACK (s.ipackOf m.shunt)
  m.im.foldl (fun t x => t.wrI (ph (48 + x.1)) PHX.PSTAT_I (t.phaseI (48 + x.1) x.2)) s4

/-- The start-up path delivers more than 0.1 A, in a cold start or in PARKED (R167). -/
def State.csSeen (s : State) (ma : Int) : State :=
  if s.busSt = bCSTART ∧ s.mode ≤ mPARKED ∧ 100 < ma then s.wr buscB BUSC.STATUS_CS_SRC 1 else s

/-- DONOR_E accumulates VPN × IN every millisecond of a session (R173); FE2 reads it, so it rests in a WARM (R175). -/
def State.energy (s : State) (m : BusMeas) : State :=
  let ms := s.tick / 1000
  if s.session && s.fe2 && decide (s.bus.eMs < ms) then
    let acc := s.bus.eRem + m.vn * s.rd buscB BUSC.DONOR_MON_IN
    let e := s.rd buscB BUSC.DONOR_E_E + acc / 100000000
    let s1 := s.modBus (fun b => { b with eMs := ms, eRem := acc % 100000000 })
    if e < 2147483647 then s1.wr buscB BUSC.DONOR_E_E e
    else if s.bit buscB BUSC.DONOR_E_SAT then s1.wr buscB BUSC.DONOR_E_E 2147483647
    else ((s1.wr buscB BUSC.DONOR_E_E 2147483647).wr buscB BUSC.DONOR_E_SAT 1).err buscB 7 102 (some 0) none
  else s

/-- The time that IN has been below TAPER_I in DELIVER (R174). -/
def State.taperWatch (s : State) : State :=
  if s.busSt = bDELIVER ∧ s.rd buscB BUSC.DONOR_MON_IN < 5 * s.rd buscB BUSC.DONOR_CFG_TAPER_I then
    (match s.began .taper with | some _ => s | none => s.mark .taper)
  else s.unmark .taper

/-! The references. -/

/-- A limit of R173 acts on the node's reference. -/
def State.donorLimit (s : State) : Bool :=
  decide (s.rd buscB BUSC.DONOR_SET_I < s.rd buscB BUSC.DONOR_MON_IN ∨ s.rd buscB BUSC.DONOR_LIM_P < s.rd buscB BUSC.DONOR_MON_PN) ||
    s.bit buscB BUSC.STATUS_ILIM_ACT || s.bit buscB BUSC.STATUS_PLIM_ACT

/-- The node reference moves towards its target by SLEW (R170), and is lowered while a donor limit acts (R173), by that step,
which is not stated. (DESIGN CHOICE, log 65.) -/
def State.nodeStep (s : State) (m : BusMeas) : State :=
  let st := s.busSt
  let r := s.bus.nodeRef
  let goal := if st = bMATCH then max m.vn (m.vbus + 1000)
    else if st = bCONNECT ∨ st = bRSTOP then r
    else if s.donorLimit then 0
    else s.rd buscB BUSC.DONOR_SET_V * 10
  let n := moveRef r goal s.bus.nodeRem (orIf0 (s.rd buscB BUSC.DONOR_CFG_SLEW) 1 * 5000) s.busFreq
  if r = goal then s else s.modBus (fun b => { b with nodeRef := n.1, nodeRem := n.2 })

/-- The start-up path's reference changes at 1 V/ms, to 6.50 V in PARKED and to 14.0 V in the other modes (R167). -/
def State.pathStep (s : State) : State :=
  let goal := if s.mode = mPARKED then 6500 else 14000
  let step := 500 / s.busFreq
  s.modBus (fun b => { b with pathMv := if b.pathMv < goal then min goal (b.pathMv + step) else max goal (b.pathMv - step) })

/-! The loops. -/

/-- The error of a loop in its unit, held in the range of R163. -/
def loopErr (ref meas : Int) (unit : Nat) : Int := clampI (-512) 511 (roundDiv (ref - meas) unit)

def State.coefs (s : State) (o : Nat) : Coef := coefOf (s.getW (buscB + o)) (s.getW (buscB + o + 4)) (s.getW (buscB + o + 8)) 0

/-- One step of the loop in use (R163, R164): its terms, and the voltage that the duty stands for in 2^−14 mV. A unit of a
loop's output is 10 mV; the VBUS loop's is added to its reference, and the node loop's drives energy away from VBUS. How the
pack-current and node loops' outputs become a duty is not stated. (DESIGN CHOICE, log 65.) -/
def State.loopStep (s : State) (m : BusMeas) : State × Int :=
  let b := s.bus
  let held := fun (l : Loop) => { l with hiC := l.hiC || b.cap.isSome }
  let start := fun (k : Coef) (l : Loop) (y e : Int) => if b.bump then preset k (y / 10) e else held l
  if b.outer = 1 then
    let k := s.coefs 0x8C
    let e := loopErr b.iSet (s.rdI chgB CHG.MON_IPACK * 10) 25
    let c := compStep k (start k b.iLoop b.vOut e) e
    (s.modBus (fun b => { b with iLoop := c.1, bump := false }), c.2.1 * 10)
  else if b.outer = 2 then
    let ref := s.vbusRef s.busSt
    let k := s.coefs 0x80
    let e := loopErr ref m.vbus 10
    let c := compStep k (start k b.fLoop (b.vOut - (ref * 16384 : Nat)) e) e
    (s.modBus (fun b => { b with fLoop := c.1, bump := false }), c.2.1 * 10 + (ref * 16384 : Nat))
  else
    let c := compStep (s.coefs 0x98) (held b.rLoop) (loopErr b.nodeRef m.vnode 10)
    (s.modBus (fun b => { b with rLoop := c.1 }), (m.vbus * 16384 : Nat) - c.2.1 * 10)

/-- The drive of the converter in its direction that a duty stands for: the duty forward, its complement in reverse. -/
def drive (rev : Bool) (d : Nat) : Nat := if rev then 65535 - d else d

/-- The duty of a loop's voltage over the node, of which less than 20.0 V counts as that (R164), with its clamps (R70) and the
cap of R165. -/
def State.busDuty (s : State) (v : Int) (vnode : Nat) : State :=
  let b := s.bus
  let rev := b.outer == 3
  let d0 := (clampI 0 65535 (roundDiv (v * 4) (max 20000 vnode))).toNat
  let k := min (b.cap.getD 65535) (drive rev d0)
  let clamp := fun (l : Loop) => { l with hiC := decide (k = 65535 ∨ b.cap = some k), loC := decide (k = 0) }
  s.modBus (fun b => { b with
    vOut := v, duty := drive rev k, dMin := min b.dMin k,
    iLoop := if b.outer = 1 then clamp b.iLoop else b.iLoop, fLoop := if b.outer = 2 then clamp b.fLoop else b.fLoop,
    rLoop := if b.outer = 3 then clamp b.rLoop else b.rLoop })

/-- The start of a master period, every second sample (R107, R163, R165): the phases in their places, those that a limit cut
running again, and the cap of the period. -/
def State.busPeriod (s : State) : State :=
  if !s.bus.half then s.modBus (fun b => { b with half := true })
  else
    let ps := s.busParts s.busSt
    let m := ps.length
    let s1 := s.each (List.range m) fun k t => match ps[k]? with
      | some q => t.modPh q (fun h => { h with pwm := .run, ang := angleOf k m })
      | none => t
    s1.modBus (fun b => { b with
      half := false, last := ps, cap := if b.overCap then some b.dMin else none, overCap := false, dMin := 65535 })

/-- Each participating phase takes the duty at its leading edge (R75, R163). -/
def State.busEdges (s : State) : State :=
  s.each (s.busParts s.busSt) fun p t =>
    t.modPh p (fun h => { h with duty := s.bus.duty, on := onSteps s.busFreq 0 s.bus.duty })

/-- The demand of R182 and what the caps leave of it (R165, R183). The override adds up the current beyond the cap, so that the
bus-side current settles at the cap, and LOADLIM holds while it does; how it moves is not stated. (DESIGN CHOICE, log 65.) -/
def State.busCapped (s : State) (m : BusMeas) : State :=
  let l := s.busLims m.vbus
  let cap := min l.1 (min l.2.1 l.2.2)
  let i := if s.bus.outer = 3 then -(m.ibus * 100) else m.ibus * 100
  let ovr := if s.bus.outer = 1 then max 0 (s.bus.ovr + i - cap) else 0
  let act := decide (0 < ovr ∨ (cap : Int) < i) || s.bus.cap.isSome
  let dem := if s.busSt = bFSTART then min s.iDem s.bus.ramp else s.iDem
  let load := s.bus.outer == 1 && decide (0 < ovr) && decide (cap < l.2.2)
  let rise := load && !s.bit chgB CHG.STATUS_LOADLIM
  let s1 := ((s.wrB buscB BUSC.STATUS_ILIM_ACT (act && decide (l.1 = cap))).wrB buscB BUSC.STATUS_PLIM_ACT (act && decide (l.2.1 = cap))).wrB
    chgB CHG.STATUS_LOADLIM load
  let s2 := if rise then s1.chgCount CHG.LL_COUNT CHG.LL_COUNT_SAT else s1
  s2.modBus (fun b => { b with ovr := ovr, iSet := if b.outer = 1 then dem - ovr else 0, overCap := b.overCap || decide ((cap : Int) < i) })

/-- One sample of the converter (R163 to R165, R182, R183). Where the converter rests, the monitors and the demand's terms go on.
(DESIGN CHOICE, log 65.) FF_LOW occurs at each sample of a running converter with the node below 20.0 V, in either direction; R164
does not say that it is told once. (DESIGN CHOICE, log 65.) -/
def State.busSample (s : State) (m : BusMeas) : State :=
  let s0 := ((((s.busMon m).energy m).taperWatch).terms m.vbsn).csSeen (m.ibus * 100)
  let st := s.busSt
  if st = bOFF ∨ st = bHALT ∨ st = bDEAD then s0
  else
    let s1 := if st = bFWD ∨ st = bFSTART then s0.takeOuter st else s0
    let s2 := ((((if st = bCSTART then s1.pathStep else s1).rampStep).busPeriod).busCapped m)
    let s3 := if bMATCH ≤ st then s2.nodeStep m else s2
    let s4 := if m.vnode < 20000 then s3.err buscB 6 102 none none else s3
    let r := s4.loopStep m
    (r.1.busDuty r.2 m.vnode).busEdges

/-! Limits of a phase (R165). -/

/-- The converter runs backwards. -/
def State.busRev (s : State) : Bool := s.bus.outer == 3

/-- The peak comparator of a bus phase sees `uv` µV on IMON, `ns` after the edge: it trips at IPK forward, at −IPK in reverse. -/
def State.busPeak (s : State) (p uv ns : Nat) : State :=
  let ma : Nat := 500 * s.rd buscB BUSC.ILIM_IPK
  let hit := if s.busRev then decide ((uv : Int) ≤ s.imonAt p (-(ma : Int)))
    else decide (min 2000000 (s.imonAt p ma) ≤ (uv : Int))
  if (s.busParts s.busSt).contains p && s.highAt p ns 0 && hit then s.modPh p (fun h => { h with pwm := .low }) else s

/-- A bus phase's current is `ma` mA: against the direction it is limited to NEG, in the manner of R137; the start-up path conducts
forward current only (R167). -/
def State.busNeg (s : State) (p : Nat) (ma : Int) : State :=
  let lim : Int := if s.busSt = bCSTART then 0 else (500 * s.rd buscB BUSC.ILIM_NEG : Nat)
  let hit := if s.busRev then decide (lim < ma) else decide (ma < -lim)
  if (s.busParts s.busSt).contains p && (s.phH p).pwm != .mid && hit then s.modPh p (fun h => { h with pwm := .mid }) else s

end Sys2Proof.Machine
end

