-- ==== Sys2Proof/Machine/Loops.lean ====
section
/-! DEFINITION. The rows of the rail controllers (R65 to R100). -/

namespace Sys2Proof.Machine

open Sys2Proof

/-- The sequencer has written this EN in the present tick: its value is kept (R85). -/
def State.seqWrote (s : State) (x : Nat) : Bool := s.began (.seqEn x) == some s.tick

/-- EN of an output set by a host (R84, R85). In RISING the outputs that a host enables are undone by an unwinding
(R227). `imon`: the levels on IMON where groups with a low SFLT input are identified (R127). -/
def State.hostOn (s : State) (x : Nat) (imon : List (Fin 56 × Nat)) : State :=
  let was := s.outEn x
  let s1 := if s.seqWrote x then s else s.enable x imon
  if s1.outEn x && !was && s1.mode == mRISING then s1.modSeq (fun h => { h with hostOn := h.hostOn ++ [x] }) else s1

def execRailEnSet (c : Fin 8) (n : Fin 12) (imon : List (Fin 56 × Nat)) (s : State) : Host.Outcome State Fault Refusal :=
  .next (s.ifField c (rail n) RAIL.CTRL_EN 1 fun s => s.hostOn n imon).settle

/-- EN of an output cleared by a host (R84, R85). -/
def State.hostOff (s : State) (x : Nat) : State := if s.seqWrote x then s else s.disable x

/-- CTRL.EN of a rail cleared by a host (R84). -/
def execRailEnClear (c : Fin 8) (n : Fin 12) (s : State) : Host.Outcome State Fault Refusal :=
  .next (s.ifField c (rail n) RAIL.CTRL_EN 0 fun s => s.hostOff n).settle

/-- VSET of a rail written (R76). -/
def execRailVsetWrite (c : Fin 8) (n : Fin 12) (v : Word) (s : State) : Host.Outcome State Fault Refusal :=
  .next (s.ifWrites c (rail n + 0x44) v fun s => s.setVset n (getBits v 0 12)).settle

/-- FSW of a rail written (R86); a change of it makes a proposal stale (R99). -/
def State.setFsw (s : State) (n : Nat) (v : Word) : State :=
  if s.outSt n ≠ 0 then s.err (rail n) 7 n none none
  else
    let f := getBits v 0 11
    let g := clampN 250 2000 f
    let s0 := (s.wr (rail n) RAIL.FSW_FREQ g).wr (rail n) RAIL.FSW_SOFF (getBits v 16 5)
    let s1 := if s0.getW (rail n + 0x54) = s.getW (rail n + 0x54) then s0 else s0.lidStale n
    if f ≠ g then s1.err (rail n) 7 n none none else s1

def execRailFswWrite (c : Fin 8) (n : Fin 12) (v : Word) (s : State) : Host.Outcome State Fault Refusal :=
  .next (s.ifWrites c (rail n + 0x54) v fun s => s.setFsw n v).settle

/-- The pre-bias search of a rail ends with the output at `uv` µV (R81). -/
def execPrebiasSearchDone (n : Fin 12) (uv : Nat) (s : State) : Host.Outcome State Fault Refusal :=
  .next (s.railPrebias n uv).settle

/-- The phases that a command says fell, with the ns since. -/
def lowOf (l : List (Fin 48 × Nat)) : List (Nat × Nat) := l.map (fun e => (e.1.val, e.2))

/-- One sample of a rail (R65). -/
def execLoopSample (n : Fin 12) (uv : Int) (vins : List (BitVec 12)) (high : List (Fin 48)) (low : List (Fin 48 × Nat)) (s : State) :
    Host.Outcome State Fault Refusal :=
  .next (if s.up then s.railSample n uv vins (high.map (·.val)) (lowOf low) else s).settle

/-- COEF_CTRL written (R88); where the loop does not run there is no sample to wait for. (DEDUCED, log 46.) -/
def State.coefCtrl (s : State) (n : Nat) (apply copy : Bool) : State :=
  let s1 := s.coefWrite n apply copy
  if s.outSt n = 2 ∨ s.outSt n = 3 then s1 else s1.swapNow n

def execCoefApply (c : Fin 8) (n : Fin 12) (s : State) : Host.Outcome State Fault Refusal :=
  .next (s.ifWrites c (rail n + 0x68) 1 fun s => s.coefCtrl n true false).settle

def execCoefCopy (c : Fin 8) (n : Fin 12) (s : State) : Host.Outcome State Fault Refusal :=
  .next (s.ifWrites c (rail n + 0x68) 2 fun s => s.coefCtrl n false true).settle

/-- Sixteen samples in a row at an end code (R67): told once for each such run. -/
def execWinOvr (n : Fin 12) (s : State) : Host.Outcome State Fault Refusal :=
  .next (
    let h := s.railH n
    if 16 ≤ h.endRun ∧ !h.endTold then (s.modRail n (fun h => { h with endTold := true })).err (rail n) 0 n none none else s).settle

/-- SET_V (R79, R204). -/
def execSetV (t : BitVec 8) (s : State) : Host.Outcome State Fault Refusal :=
  .next (s.start t 0x01 fun k s => s.moveTo k none).settle

/-- RAMP (R79). -/
def execRamp (t : BitVec 8) (s : State) : Host.Outcome State Fault Refusal :=
  .next (s.start t 0x02 fun k s => s.moveTo k (some (getBits k.a2 0 8))).settle

/-! Identification. -/

/-- The cause that refuses a LOOP_ID on rail `n`, the lowest code first (R91, R97). (DEDUCED, log 15; DEDUCED, log 46.) -/
def State.lidRefusal (s : State) (n : Nat) : Option Nat :=
  let sst := s.rd (sheaf n) PHX.SH_STAT_SST
  if s.mode ≠ mSERVICE then some 1
  else if 12 ≤ n ∨ s.outSt n ≠ 3 ∨ s.bit (rail n) RAIL.STATUS_SS_DONE = false then some 2
  else if 2 ≤ s.lidRuns ∨ s.bit (rail n) RAIL.STATUS_LID_RUN = true then some 3
  else if sst = shSHEDDING ∨ sst = shADDING then some 4
  else none

/-- A cause in LID_STAT, where the rail has no run in progress. (DEDUCED, log 46.) -/
def State.lidCause (s : State) (n cause : Nat) : State :=
  if 12 ≤ n ∨ s.bit (rail n) RAIL.STATUS_LID_RUN = true then s else s.wr (rail n) RAIL.LID_STAT_CAUSE cause

/-- A run starts (R92), at a place of its sequence that the spec leaves open; a stored proposal stays as it is. (DESIGN CHOICE,
log 45.) -/
def State.lidStart (s0 : State) (n fc : Nat) : State :=
  let a := s0.draw
  let b := a.2.draw
  let s := b.2
  let ord := lidOrder (s.rd (rail n) RAIL.LID_CFG_ORDER)
  let amp := clampN 1 12 (s.rd (rail n) RAIL.LID_CFG_AMP)
  ((((((s.wr (rail n) RAIL.LID_TGT_FC fc).wr (rail n) RAIL.STATUS_LID_RUN 1).wr (rail n) RAIL.LID_STAT_STATE 1).wr (rail n)
    RAIL.LID_STAT_CAUSE 0).wr (rail n) RAIL.LID_STAT_AMP_USED amp).wrB (sheaf n) PHX.SH_STAT_SUSP true).modRail n
    (fun h => { h with lid := { LidHid.reset with
      propV := h.lid.propV, stale := h.lid.stale, amp := amp, vset0 := s.target n, taps := lidTaps ord a.1, reg := 1 + b.1.toNat % (2 ^ ord - 1) } })

def execLoopId (t : BitVec 8) (s : State) : Host.Outcome State Fault Refusal :=
  .next (s.start t 0x09 fun k s =>
    let n := getBits k.a0 0 4
    match s.lidRefusal n with
    | some c => (s.lidCause n c).failK k c
    | none => (s.runK k).lidStart n (getBits k.a1 0 16)).settle

/-- The settling period of a run, its first, ends (R92). -/
def execLidSettleEnd (n : Fin 12) (s : State) : Host.Outcome State Fault Refusal :=
  .next (if s.bit (rail n) RAIL.STATUS_LID_RUN ∧ s.rd (rail n) RAIL.LID_STAT_STATE = 1 ∧ 1 ≤ (s.railH n).lid.pers then s.wr (rail n) RAIL.LID_STAT_STATE 2
    else s).settle

/-- The injection of a run, of REPS + 1 periods, ends (R92). -/
def execLidInjectionEnd (n : Fin 12) (s : State) : Host.Outcome State Fault Refusal :=
  .next (if s.bit (rail n) RAIL.STATUS_LID_RUN ∧ s.rd (rail n) RAIL.LID_STAT_STATE = 2 ∧ s.lidRuns1 n = false then s.wr (rail n) RAIL.LID_STAT_STATE 3
    else s).settle

/-- Does a proposal's coefficient stay within the fraction of the bank in use that DEV selects (R100)? -/
def devOk (dev : Nat) (new old : Int) : Bool :=
  let d := (new - old).natAbs
  decide (d * 8 ≤ old.natAbs * 2 ^ dev)

/-- The proposal that a fitted model leads to (R95): by the conversions of R71 at the rail's sample rate. -/
def State.lidDesign (s : State) (n : Nat) (f : LidFit) : Coef :=
  lidCoef (2000 * clampN 250 2000 (s.rd (rail n) RAIL.FSW_FREQ)) (s.rd (rail n) RAIL.LID_TGT_FC * 100) f.f0 f.q f.fesr
    (s.bank n (s.bankNow n)).a2

/-- What a proposal predicts (R66, R95): its crossover in 0.1 kHz and its phase margin in 0.5°. -/
def State.lidPredict (s : State) (n : Nat) (f : LidFit) : Nat × Nat :=
  let fs := 2000 * clampN 250 2000 (s.rd (rail n) RAIL.FSW_FREQ)
  let fc := lidCross fs f.f0 f.q (s.lidDesign n f) 16 0
  (fc, lidMargin fs (100 * fc) f.f0 f.q (s.lidDesign n f))

/-- May a proposal with the predicted crossover and margin `pr` be applied without LOOP_COMMIT (R100)? -/
def State.autoOk (s : State) (n : Nat) (f : LidFit) (p : Coef) (pr : Nat × Nat) : Bool :=
  let b := rail n
  let c := s.bank n (s.bankNow n)
  let dev := s.rd b RAIL.LID_CFG_DEV
  s.bit b RAIL.LID_CFG_AUTO && decide (s.rd b RAIL.LID_BOUND_PM_MIN ≤ pr.2) &&
    decide (s.rd b RAIL.LID_BOUND_GM_MIN ≤ f.gm.toNat) && decide (20 * s.rd b RAIL.LID_BOUND_FC_MIN ≤ pr.1) &&
    decide (pr.1 ≤ 20 * s.rd b RAIL.LID_BOUND_FC_MAX) && decide (p.kexp = c.kexp) &&
    devOk dev p.kp c.kp && devOk dev p.ki c.ki && devOk dev p.kd c.kd && devOk dev p.a1 c.a1

/-- A fitted number in the units of its field of `w` bits: to the nearest, and no more than the field holds. -/
def fitCode (w num den : Nat) : Nat := min (2 ^ w - 1) (roundDiv num den).toNat

/-- The computation of a run ends with a fit (R95, R96, R100). (DESIGN CHOICE, log 45.) -/
def State.lidDone (s : State) (n : Nat) (f : LidFit) : State :=
  let b := rail n
  let p := s.lidDesign n f
  let pr := s.lidPredict n f
  let s1 := (((((s.wr b RAIL.LID_STAT_FIT f.fit.toNat).wr b RAIL.LID_RES1_F0 (fitCode 16 f.f0 100)).wr b RAIL.LID_RES1_Q
    (fitCode 8 f.q 4096)).wr b RAIL.LID_RES2_FESR (fitCode 16 f.fesr 100)).wr b RAIL.LID_RES2_DELAY (fitCode 8 f.td 5)).wr b
    RAIL.STATUS_LID_RUN 0
  let mine := fun (k : Cmd) => getBits k.a0 0 4 == n
  if f.fit.toNat < 64 then
    ((s1.wr b RAIL.LID_STAT_STATE 6).wr b RAIL.LID_STAT_CAUSE 8).endRunning 0x09 stFAILED 8 mine
  else
    let id := (s1.rd b RAIL.LID_STAT_PROP_ID + 1) % 256
    let s2 := ((s1.wr b RAIL.LID_RES0_FC pr.1).wr b RAIL.LID_RES0_PM pr.2).wr b RAIL.LID_RES0_GM f.gm.toNat
    let s3 := ((((s2.wrI b RAIL.PROP_PI_KP p.kp).wrI b RAIL.PROP_PI_KI p.ki).wrI b RAIL.PROP_DX_KD p.kd).wr b
      RAIL.PROP_DX_KEXP p.kexp)
    let s4 := ((s3.wrI b RAIL.PROP_POLE_A1 p.a1).wrI b RAIL.PROP_POLE_A2 p.a2).wr b RAIL.LID_STAT_PROP_ID id
    let s5 := ((((s4.wr b RAIL.STATUS_PROP_VALID 1).wr b RAIL.LID_STAT_STATE 4).wr b RAIL.LID_AGE_SEC 0).mark (.lidAge n)).modRail n
      (fun h => { h with lid := { h.lid with propV := s.target n, stale := false } })
    let s6 := s5.irq b 18 n
    let s7 := if !s.bit b RAIL.LID_CFG_AUTO then s6
      else if s.autoOk n f p pr then s6.commitProp n
      else s6.wr b RAIL.LID_STAT_CAUSE 0xC
    s7.endRunning 0x09 stDONE (pr.1 + pr.2 * 0x10000 + id * 0x1000000) mine

/-- The executing engine has fitted the response and designed a proposal. -/
def execLidComputeDone (n : Fin 12) (f : LidFit) (s : State) : Host.Outcome State Fault Refusal :=
  .next (if s.bit (rail n) RAIL.STATUS_LID_RUN ∧ s.rd (rail n) RAIL.LID_STAT_STATE = 3 ∧
      !s.cmds.any (fun k => k.op == 0x09 && getBits k.a0 0 4 == n.val && s.cmdStopped k) then s.lidDone n f else s).settle

/-- LOOP_COMMIT (R98, R99). -/
def execLoopCommit (t : BitVec 8) (s : State) : Host.Outcome State Fault Refusal :=
  .next (s.start t 0x0A fun k s =>
    let n := getBits k.a0 0 4
    if n < 12 ∧ s.propFresh n (getBits k.a1 0 8) then
      let s1 := s.commitProp n
      (if s.outSt n = 2 ∨ s.outSt n = 3 then s1 else s1.swapNow n).doneK k 0
    else (s.lidCause n 0xB).failK k 0xB).settle

end Sys2Proof.Machine
end

