-- ==== Sys2Proof/Machine/Sheaves.lean ====
section
/-! DEFINITION. The rows of the sheaves: periods, hints, shedding, stage faults (R102 to R133). -/

namespace Sys2Proof.Machine

open Sys2Proof

/-- A master period of a rail starts (R107). -/
def execMasterPeriodStart (r : Fin 12) (imv : List (Fin 48 × Nat)) (s : State) : Host.Outcome State Fault Refusal :=
  .next (if s.up then s.period r imv else s).settle

/-- A filtered edge of HINTr (R116). -/
def execHintEdge (r : Fin 12) (rising : Bool) (high : List (Fin 48)) (low : List (Fin 48 × Nat)) (s : State) :
    Host.Outcome State Fault Refusal :=
  .next (if s.up && !(s.vioOut && rising) then s.hintEdge r rising (high.map (·.val)) (lowOf low) else s).settle

/-- A hint window closes (R118). -/
def execHintWindowEnd (r : Fin 12) (s : State) : Host.Outcome State Fault Refusal := .next (s.hintEnd r).settle

/-- The conditions of a shed (R121, R122, R124), with its level. -/
def State.shedReady (s : State) (r : Nat) : Option Nat :=
  let h := s.sheafH r
  let st := s.rd (sheaf r) PHX.SH_STAT_SST
  if s.outSt r = 3 ∧ s.bit (sheaf r) PHX.SH_CFG_SHED_EN ∧ (st = shFULL ∨ st = shREDUCED) ∧ !s.shedSusp r ∧ !h.hold ∧
      orIf0 (s.rd (sheaf r) PHX.SH_SHED_DWELL) 1 ≤ h.dwell then s.nextLevel r
  else none

def execShedDecision (r : Fin 12) (s : State) : Host.Outcome State Fault Refusal :=
  .next (match s.shedReady r with | some k => s.shedBegin r k | none => s).settle

/-- Cycle 8 of a shed ends (R122). -/
def execShedComplete (r : Fin 12) (s : State) : Host.Outcome State Fault Refusal :=
  .next (if s.rd (sheaf r) PHX.SH_STAT_SST = shSHEDDING ∧ 8 ≤ (s.sheafH r).cyc then s.shedEnd r else s).settle

/-- Cycle 8 of an add ends (R122). -/
def execAddComplete (r : Fin 12) (s : State) : Host.Outcome State Fault Refusal :=
  .next (if s.rd (sheaf r) PHX.SH_STAT_SST = shADDING ∧ 8 ≤ (s.sheafH r).cyc then s.addEnd r else s).settle

/-- HOLD ms after a return to FULL (R124). -/
def execShedHoldEnd (r : Fin 12) (s : State) : Host.Outcome State Fault Refusal :=
  .next (if s.ran (.shedHold r) (1000 * s.rd (sheaf r) PHX.SH_SHED_HOLD) then
      s.modSheaf r (fun h => if h.hold then { h with hold := false, dwell := 0 } else h)
    else s).settle

/-- The filtered level of SFLTg changes: a fall starts the identification of the group (R125). -/
def execSfltFault (g : Fin 8) (low : Bool) (ns : Nat) (imon : List (Fin 56 × Nat)) (s : State) : Host.Outcome State Fault Refusal :=
  .next (if s.up ∧ 25 * orIf0 (s.rd (grp g) PHX.GRP_FILT) 1 ≤ ns then
      let was := s.bit (pg 0x0C) (PHX.STATUS_SFLT_LOW.at g)
      let s1 := (s.wrB (pg 0x0C) (PHX.STATUS_SFLT_LOW.at g) low).wrB (pg 0x0D) (PHX.STATUS_SFLT_LOW.at g) low
      if low && !was then s1.identify g imon else s1
    else s).settle

/-- A phase out of family, or open, for CNT periods (R128). -/
def execOutOfFamily (p : Fin 48) (s : State) : Host.Outcome State Fault Refusal :=
  .next (
    let r := s.phRail p
    let h := s.phH p
    let n := orIf0 (s.rd (sheaf r) PHX.SH_OOF_CNT) 1
    if r < 12 ∧ s.phState p = phACTIVE ∧ s.bit (sheaf r) PHX.SH_CFG_OOF_EN ∧ (n ≤ h.oofI ∨ n ≤ h.oofT ∨ n ≤ h.oofO) then
      (s.err (phPage p) (if n ≤ h.oofO then 4 else 3) (46 + p) none none).removePhase p none
    else s).settle

end Sys2Proof.Machine
end

