-- ==== Sys2Proof/Machine/Protect.lean ====
section
/-! DEFINITION. The rows of the protections of rails and outputs (R134 to R153). -/

namespace Sys2Proof.Machine

open Sys2Proof

/-- The peak comparator of a phase (R134, R165). -/
def execPeakTrip (p : Fin 56) (uv ns : Nat) (s : State) : Host.Outcome State Fault Refusal :=
  .next (if p.val < 48 then s.peakTrip p uv ns else s.busPeak p uv ns).settle

/-- The negative limit of a phase; in soft start the zero-cross rule acts (R82, R137, R165). -/
def execNegCurrentLimit (p : Fin 56) (ma : Int) (s : State) : Host.Outcome State Fault Refusal :=
  .next (if p.val < 48 then s.negTrip p ma else s.busNeg p ma).settle

/-- A rail or a buck that counts limited periods (R138, R208). -/
def State.hicRuns (s : State) (x : Nat) : Bool :=
  (s.outSt x == 2 || s.outSt x == 3) && !s.follows x && !(decide (x < 12) && (s.railH x).ovOff)

/-- The clock of a soft start: its samples, whether it began past the half, and whether the check was made. -/
def State.ssClock (s : State) (x : Nat) : Nat × Bool × Bool :=
  if x < 12 then let h := s.railH x; (h.tau, h.ssLate, h.ssTold)
  else let h := s.buckH (x - 12); (h.tau, h.ssLate, h.ssTold)

/-- The clock of a soft start has reached half its time, TIME × 0.1 ms (R80, R142). -/
def State.ssHalf (s : State) (x n : Nat) : Bool :=
  if x < 12 then decide (orIf0 (s.rd (rail x) RAIL.SS_TIME) 1 * clampN 250 2000 (s.rd (rail x) RAIL.FSW_FREQ) ≤ 10 * n)
  else decide (s.ssN x ≤ 2 * n)

/-- The start-short check is due and has not been made (R142). -/
def State.ssDue (s : State) (x : Nat) : Bool :=
  let k := s.ssClock x
  s.outSt x == 2 && s.bit (hic x).b (hic x).sshort && !k.2.1 && !k.2.2 && s.ssHalf x k.1

/-- LCNT has reached N in a soft start or in regulation (R138, R208). -/
def State.lcntFull (s : State) (x : Nat) : Bool :=
  s.hicRuns x && decide (orIf0 (s.rd (hic x).b (hic x).n) 1 ≤ s.rd (hic x).b (hic x).lcnt)

/-- LCNT has reached N (R138, R208). A check of the same sample that is still to be made comes first (R155). -/
def execHiccupEntry (x : Fin 28) (s : State) : Host.Outcome State Fault Refusal :=
  .next (if s.lcntFull x && !s.ssDue x then s.enterHiccup x false else s).settle

/-- The off time of a hiccup ends (R139). RETRY stays at 15 once it is there, which is not stated of unlimited retries.
(DESIGN CHOICE, log 86.) -/
def execHiccupOffEnd (x : Fin 28) (s : State) : Host.Outcome State Fault Refusal :=
  .next (
    let r := hic x
    if s.outSt x = 4 ∧ s.rd r.b r.left = 0 ∧ !(decide (x.val < 12) && (s.railH x).ovOff) then
      let s1 := s.bump r.b r.retry
      if x.val < 12 then s1.railSoft x 0 (s1.target x) false else s1.buckSoft x 0 (s1.target x) false
    else s).settle

/-- SS_DONE of a rail or a buck. -/
def State.ssDoneOf (s : State) (x : Nat) : Bool :=
  if x < 12 then s.bit (rail x) RAIL.STATUS_SS_DONE else s.bit (bk (x - 12)) BUCK.BK_STAT_SS_DONE

/-- The output has regulated for CLR with no limited period (R141). -/
def execRetryClear (x : Fin 28) (s : State) : Host.Outcome State Fault Refusal :=
  .next (
    let r := hic x
    if s.outSt x = 3 ∧ s.ssDoneOf x ∧ s.ran (.retry x) (10000 * orIf0 (s.rd r.b r.clr) 1) then s.wr r.b r.retry 0 else s).settle

def State.ssMark (s : State) (x : Nat) : State :=
  if x < 12 then s.modRail x (fun h => { h with ssTold := true }) else s.modBuck (x - 12) (fun h => { h with ssTold := true })

/-- The output at `uv` µV is below 25 % of the target of its soft start (R142). -/
def State.ssShort (s : State) (x uv : Nat) : Bool :=
  if x < 12 then decide (128 * uv < 625 * (s.railH x).vt) else decide (64 * uv < 625 * (s.buckH (x - 12)).vt)

/-- The check at half the soft start (R142). An output that passes it with LCNT at N enters HICCUP for its limited periods. -/
def State.ssCheck (s : State) (x uv : Nat) : State :=
  if !s.ssDue x then s
  else if s.ssShort x uv then (s.ssMark x).enterHiccup x true
  else if s.lcntFull x then (s.ssMark x).enterHiccup x false
  else s.ssMark x

def execStartShortCheck (x : Fin 28) (uv : Nat) (s : State) : Host.Outcome State Fault Refusal := .next (s.ssCheck x uv).settle

/-- An output at `uv` µV for `ns`; `vin` µV on its input group, where it is a switch (R144 to R146, R209, R211). -/
def execOvTrip (x : Fin 46) (uv vin ns : Nat) (s : State) : Host.Outcome State Fault Refusal :=
  .next (if s.up then (s.see x uv vin).ovSense x uv vin ns else s).settle

/-- An output at `uv` µV for `us` (R147). -/
def execUvTrip (x : Fin 46) (uv vin us : Nat) (s : State) : Host.Outcome State Fault Refusal :=
  .next (if s.up then (s.see x uv vin).uvSense x uv vin us else s).settle

/-- An output inside its window for `us` (R148). -/
def execPowerGood (x : Fin 46) (uv vin us : Nat) (s : State) : Host.Outcome State Fault Refusal :=
  .next (if s.up then (s.see x uv vin).powerGood x uv vin us else s).settle

/-- An output at `uv` µV against its OFF threshold (R149). -/
def execOffThresholdCrossing (x : Fin 46) (uv : Nat) (s : State) : Host.Outcome State Fault Refusal :=
  .next (if s.up then s.belowCross x uv else s).settle

/-- An output below OFF_TH for 1 ms (R153). -/
def execDischargeRelease (x : Fin 46) (s : State) : Host.Outcome State Fault Refusal := .next (s.disRelease x).settle

/-- 1 written to DIS_FORCE (R153). -/
def execDisForceWrite (c : Fin 8) (x : Fin 46) (s : State) : Host.Outcome State Fault Refusal :=
  .next (s.ifField c (out x) SUPV.OUT_OFF_DIS_FORCE 1 fun s => s.disForce x).settle

/-- SETTLE after a slew: the window returns to the target (R144). -/
def execWindowSettle (x : Fin 46) (s : State) : Host.Outcome State Fault Refusal :=
  .next (if s.refNow x = s.target x ∧ s.ran (.slewEnd x) (s.rd (out x) SUPV.OUT_OFF_SETTLE) then s.modOut x (fun h => { h with slew := false }) else s).settle

/-- VBAK at `mv` is below its weak threshold (R156). -/
def State.vbakLow (s : State) (mv : Nat) : Bool := decide (mv < 10 * s.rd supvB SUPV.VBAK_THR_WEAK)

/-- VBAK at `mv` for `us`: below its weak threshold for 100 ms (R156). -/
def execVbakWeak (mv us : Nat) (s : State) : Host.Outcome State Fault Refusal :=
  .next (if s.up && s.vbakLow mv && decide (100000 ≤ us) then (s.setRepl DEV.REPLACE_SRC_RTC_WEAK true).err supvB 5 125 (some 0) none else s).settle

end Sys2Proof.Machine
end

