-- ==== Sys2Proof/Machine/Feeds.lean ====
section
/-! DEFINITION. The rows of the ports and of VBUS (R156, R159 to R162, R166 to R168). -/

namespace Sys2Proof.Machine

open Sys2Proof

/-- FEEDS_LOST, what its rise starts (R45, R161), and the converter (R168). -/
def State.feedsShow (s : State) : State :=
  let r := s.feedsRefresh
  (if r.2 then r.1.feedsLost else r.1).busWatch

/-- A feed appears while the device is in PARKED: the start-up path runs, and the device wakes where FEED_EN is set (R50,
R167). `mask`: bit 0 port A, bit 1 port B. (DEDUCED, log 48.) -/
def State.pathFeed (s : State) (mask : Nat) : State :=
  let s1 := s.modBus (fun b => { b with feedHi := b.feedHi ||| mask })
  let s2 := if s1.busSt = bOFF then s1.pathStart 6500 else s1
  s2.wakeBy (if s2.bit devB DEV.WAKE_CFG_FEED_EN then 64 else 0)

/-- Feeds fall away in PARKED: without one the path stops (R167). -/
def State.pathLoss (s : State) (mask : Nat) : State :=
  let s1 := s.modBus (fun b => { b with feedHi := b.feedHi &&& (3 - mask) })
  if s1.bus.feedHi = 0 ∧ s1.busSt = bCSTART then s1.pathStop else s1

/-! A port's thresholds in mV (R177). -/

def State.presMv (s : State) (p : Nat) : Nat := 50 * s.rd (port p) PORT.P_THR_PRES
def State.lossMv (s : State) (p : Nat) : Nat :=
  let a := s.rd (port p) PORT.P_THR_PRES
  let l := s.rd (port p) PORT.P_THR_LOSS
  50 * (if a ≤ l then a - 20 else l)

/-- The class of a loss or of a reverse trip: code 3 acts as 2 (R177). -/
def State.portCls (s : State) (f : Fld) : Nat := min 2 (s.rd portB f)

/-- A sense pin's voltage, as its monitor shows it. -/
def State.portSee (s : State) (p mv : Nat) : State :=
  if p < 2 then s.wr (port p) PORT.P_MON_V (min 4095 (mv / 20)) else s.wr portB PORT.NMON_V (min 4095 (mv / 20))

/-- VPx rises above PRES (R160); in PARKED, above 36.0 V (R50). -/
def execPortAbovePres (p : Fin 2) (mv : Nat) (s : State) : Host.Outcome State Fault Refusal :=
  .next (if s.mode = mPARKED then (if feedMv < mv then s.pathFeed (p + 1) else s)
    else if s.up then
      let s1 := s.portSee p mv
      if s1.portSt p = pABSENT ∧ s1.presMv p < mv then ((s1.setPort p pCONFIRMING).mark (.ret p)).feedsShow else s1
    else s).settle

/-- VPx falls below PRES while CONFIRMING (R160); in PARKED, below 36.0 V (R167). -/
def execPortBelowPres (p : Fin 2) (mv : Nat) (s : State) : Host.Outcome State Fault Refusal :=
  .next (if s.mode = mPARKED then (if mv < feedMv then s.pathLoss (p + 1) else s)
    else if s.up then
      let s1 := s.portSee p mv
      if s1.portSt p = pCONFIRMING ∧ mv < s1.presMv p then (s1.setPort p pABSENT).feedsShow else s1
    else s).settle

/-- The return of a feed is confirmed (R45, R160, R175). -/
def execFeedReturn (p : Fin 2) (s : State) : Host.Outcome State Fault Refusal :=
  .next (if s.up ∧ s.portSt p = pCONFIRMING ∧ s.ran (.ret p) (1000 * orIf0 (s.rd (port p) PORT.P_TIME_RETURN) 1) then
      let held := s.session || s.bit (port p) PORT.P_CFG_BLOCK
      let s1 := ((s.setPort p (if held then pBLOCKED else pON)).setLost p false).feedsShow
      (s1.ask .feedBack 0x10).busWatch
    else s).settle

/-- VDS of a conducting port at `uv` µV, below −REV_MV (R159, R160, R170): ports A, B, and N while it is ON (R177). A port that
loses its voltage while it still conducts goes to STANDBY as well. -/
def execPortReverseTrip (p : Fin 3) (uv : Int) (s : State) : Host.Outcome State Fault Refusal :=
  let below := fun (mv : Nat) => decide (uv < -((1000 * mv : Nat) : Int))
  .next (if !s.up then s
    else if p = 2 then
      if s.rd portB PORT.STATUS_N_ST = 2 ∧ below (s.rd portB PORT.NCFG_REV_MV) then
        ((s.wr portB PORT.STATUS_N_ST 4).err portB 5 106 (some (s.portCls PORT.CLS_REV)) none).fastEnd 0xA 4
      else s
    else if below (s.rd (port p) PORT.P_CFG_REV_MV) then
      let told := fun (t : State) => t.err portB (3 + p) (104 + p) (some (s.portCls PORT.CLS_REV)) none
      if s.portSt p = pON then (told (s.setPort p pSTANDBY)).busWatch
      else if s.portSt p = pLOSING ∧ s.portPrev p = pON then told (s.setPrev p pSTANDBY)
      else s
    else s).settle

/-- VDS of a STANDBY port at `uv` µV, above 0 (R160). -/
def execPortVdsPositive (p : Fin 2) (uv : Int) (s : State) : Host.Outcome State Fault Refusal :=
  .next (if s.up ∧ s.portSt p = pSTANDBY ∧ 0 < uv then (s.setPort p pON).busWatch else s).settle

/-- VPx falls below LOSS (R160). -/
def execPortBelowLoss (p : Fin 2) (mv : Nat) (s : State) : Host.Outcome State Fault Refusal :=
  .next (if s.up then
      let s1 := s.portSee p mv
      let v := s1.portSt p
      if (v = pON ∨ v = pSTANDBY ∨ v = pBLOCKED) ∧ mv < s1.lossMv p then
        (((s1.setPrev p v).setPort p pLOSING).mark (.conf p)).busWatch
      else s1
    else s).settle

/-- A port that nothing holds off leaves BLOCKED (R160). -/
def State.freePort (s : State) (p : Nat) : State :=
  if s.portSt p = pBLOCKED ∧ !s.session ∧ !s.bit (port p) PORT.P_CFG_BLOCK then s.setPort p pON else s

/-- VPx back above LOSS (R160): the previous state. -/
def execPortAboveLoss (p : Fin 2) (mv : Nat) (s : State) : Host.Outcome State Fault Refusal :=
  .next (if s.up then
      let s1 := s.portSee p mv
      if s1.portSt p = pLOSING ∧ s1.lossMv p < mv then ((s1.setPort p (s1.portPrev p)).freePort p).busWatch else s1
    else s).settle

/-- The loss of a feed is confirmed (R160, R161). -/
def execPortLossConfirmed (p : Fin 2) (s : State) : Host.Outcome State Fault Refusal :=
  .next (if s.up ∧ s.portSt p = pLOSING ∧ s.ran (.conf p) (orIf0 (s.rd (port p) PORT.P_TIME_CONFIRM) 1) then
      (((s.setPort p pABSENT).setLost p true).err portB p (104 + p) (some (s.portCls PORT.CLS_LOSS)) none).feedsShow
    else s).settle

/-- A port leaves for OV_OFF or DISABLED; from LOSING it is a lost feed, and one that was lost stays so (R161). -/
def State.portGone (s : State) (p v : Nat) : State :=
  ((s.setLost p (decide (s.portSt p = pLOSING) || (decide (s.portSt p = pABSENT ∨ s.portSt p = pOVOFF ∨ s.portSt p = pDISABLED) &&
    (if p = 0 then s.bus.lostA else s.bus.lostB)))).setPort p v).feedsShow

/-- The overvoltage threshold of the sense pins and its hysteresis, in mV (R158). -/
def State.portOvMv (s : State) : Nat := 100 * s.rd supvB SUPV.PORT_OV_OV
def State.portHysMv (s : State) : Nat := 500 * 2 ^ s.rd supvB SUPV.PORT_OV_HYS

/-- A sense pin above SUPV.PORT_OV.OV for 2 µs (R156, R160, R170): ports A, B and N. -/
def execPortOv (p : Fin 3) (mv us : Nat) (s : State) : Host.Outcome State Fault Refusal :=
  .next (if s.up ∧ s.portOvMv < mv ∧ 2 ≤ us then
      let s1 := s.err supvB 4 (104 + p) (some (clampN 1 3 (s.rd supvB SUPV.PORT_OV_CLS))) none
      if p = 2 then
        let s2 := s1.fastEnd 0xA 6
        if s.rd portB PORT.STATUS_N_ST = pDISABLED then s2 else s2.wr portB PORT.STATUS_N_ST 6
      else if s.portSt p = pDISABLED then s1
      else s1.portGone p pOVOFF
    else s).settle

/-- A sense pin below OV minus HYS again (R160). -/
def execPortOvClear (p : Fin 3) (mv : Nat) (s : State) : Host.Outcome State Fault Refusal :=
  .next (if s.up ∧ mv + s.portHysMv < s.portOvMv then
      if p = 2 then (if s.rd portB PORT.STATUS_N_ST = 6 then s.wr portB PORT.STATUS_N_ST 0 else s)
      else if s.portSt p = pOVOFF then (s.setPort p pABSENT).feedsShow
      else s
    else s).settle

/-- xCFG.EN of port A or B written (R160). -/
def State.setPEn (s : State) (p : Nat) (b : Bool) : State :=
  let s1 := s.wrB (port p) PORT.P_CFG_EN b
  if b then (if s1.portSt p = pDISABLED then (s1.setPort p pABSENT).feedsShow else s1)
  else s1.portGone p pDISABLED

def execPortEnWrite (c : Fin 8) (p : Fin 3) (b : Bool) (s : State) : Host.Outcome State Fault Refusal :=
  .next (
    let v := if b then 1 else 0
    if p = 2 then s.ifField c portB PORT.NCFG_EN v fun s => s.setNEn b
    else s.ifField c (port p) PORT.P_CFG_EN v fun s => s.setPEn p b).settle

/-- xCFG.BLOCK written (R162). -/
def execPortBlockWrite (c : Fin 8) (p : Fin 2) (b : Bool) (s : State) : Host.Outcome State Fault Refusal :=
  .next (s.ifField c (port p) PORT.P_CFG_BLOCK (if b then 1 else 0) fun s => s.setBlock p b).settle

/-! The start-up path (R166, R167). -/

/-- A cold start: VBUS is below its POR threshold, and the feeds of `f` (0 A, 1 B, 2 both) are present. -/
def execColdStart (f : Fin 3) (s : State) : Host.Outcome State Fault Refusal :=
  .next (if s.mode = mFALLOW ∧ s.busSt = bOFF then
      (s.modBus (fun b => { b with feedHi := f + 1 })).pathStart 14000
    else s).settle

/-- VPA and VPB both fall below 36.0 V in PARKED. -/
def execStartupPathStop (s : State) : Host.Outcome State Fault Refusal :=
  .next (if s.mode = mPARKED then s.pathLoss 3 else s).settle

/-- A feed rises above 36.0 V in PARKED. -/
def execStartupPathRestart (f : Fin 3) (s : State) : Host.Outcome State Fault Refusal :=
  .next (if s.mode = mPARKED then s.pathFeed (f + 1) else s).settle

/-- The path delivers `ma` mA, in a cold start or in PARKED. -/
def execStartupPathDelivery (ma : Nat) (s : State) : Host.Outcome State Fault Refusal := .next (s.csSeen ma).settle

/-! VBUS (R156, R168). -/

/-- The overvoltage threshold of VBUS in mV. -/
def State.vbusOvMv (s : State) : Nat := 50 * s.rd supvB SUPV.VBUS_THR_OV

/-- VBUS above VBUS_THR.OV for 5 µs. -/
def execVbusOv (mv us : Nat) (s : State) : Host.Outcome State Fault Refusal :=
  .next (if s.up ∧ s.vbusOvMv < mv ∧ 5 ≤ us then
      (s.err supvB 2 102 (some (clampN 2 4 (s.rd supvB SUPV.VBUS_THR_CLS_OV))) none).vbusOv
    else s).settle

/-- VBUS under VBUS_THR.UV for 20 µs. -/
def execVbusUv (mv us : Nat) (s : State) : Host.Outcome State Fault Refusal :=
  .next (if s.up ∧ mv < 50 * s.rd supvB SUPV.VBUS_THR_UV ∧ 20 ≤ us then
      s.err supvB 3 102 (some (s.rd supvB SUPV.VBUS_THR_CLS_UV)) none
    else s).settle

/-- VBUS at least 1.0 V below the threshold for 1 ms. -/
def execVbusOvRecovered (mv us : Nat) (s : State) : Host.Outcome State Fault Refusal :=
  .next (if mv + 1000 ≤ s.vbusOvMv ∧ 1000 ≤ us then (s.modBus (fun b => { b with ovTrip := false })).busWatch else s).settle

end Sys2Proof.Machine
end

