-- ==== Sys2Proof/Machine/Donor.lean ====
section
/-! DEFINITION. The rows of the bus converter and its donor sessions (R163 to R175). -/

namespace Sys2Proof.Machine

open Sys2Proof

/-- CTRL.EN written by a host (R170). -/
def State.setBusEn (s : State) (b : Bool) : State :=
  if b then (s.wr buscB BUSC.CTRL_EN 1).busWatch else s.busOff.chgWatch

def execBuscEnWrite (c : Fin 8) (b : Bool) (s : State) : Host.Outcome State Fault Refusal :=
  .next (s.ifField c buscB BUSC.CTRL_EN (if b then 1 else 0) fun s => s.setBusEn b).settle

/-- One sample of the converter (R163 to R165, R173, R182, R183). -/
def execBusConverterSample (m : BusMeas) (s : State) : Host.Outcome State Fault Refusal :=
  .next (if s.up ∨ s.busSt = bCSTART then s.busSample m else s).settle

/-- The forward soft start is done (R170). -/
def execFstartDone (s : State) : Host.Outcome State Fault Refusal :=
  .next (if s.busSt = bFSTART ∧ s.fstartOver then s.setBus bFWD else s).settle

/-! DONOR_CTRL (R172). -/

/-- A floor below DEV.HOLDUP_CFG.FLOOR acts as that floor (R174), in mV. -/
def State.donorFloor (s : State) : Nat := 50 * max (s.rd buscB BUSC.DONOR_LIM_FLOOR) (s.rd devB DEV.HOLDUP_CFG_FLOOR)

/-- The cause that refuses a START with set-points `v` in 10 mV and `i` in 10 mA, at the voltages measured in mV. A second
START during a session is refused with BUSY (R175). (DEDUCED, log 15; DEDUCED, log 49.) -/
def State.donorRefusal (s : State) (v i vbus vpn : Nat) : Option Nat :=
  let m := s.mode
  let ok := m = mRUN ∨ m = mSTANDBY ∨ m = mSERVICE ∨ (m = mHOLDUP ∧ s.bit buscB BUSC.DONOR_CFG_HOLDUP_OK = true)
  let coef := s.coefs 0x98
  if s.session then some 0xE
  else if !ok then some 1
  else if !s.pack then some 2
  else if !s.bit portB PORT.NCFG_EN then some 3
  else if v < 2000 ∨ 5400 < v ∨ 10 * v < vbus + 4000 ∨ i < 10 ∨ 2500 < i ∨ (coef.kp = 0 ∧ coef.ki = 0) then some 4
  else if vbus ≤ s.donorFloor + 500 then some 5
  else if 10 * v ≤ vpn ∨ 100 * s.rd supvB SUPV.PORT_OV_OV ≤ vpn then some 0xA
  else if s.busKept.length < s.donorNph then some 0xC
  else if s.busSt ≠ bFWD ∧ s.busSt ≠ bHALT then some 0xE
  else none

/-- A START is accepted (R170, R172). (DEDUCED, log 49.) -/
def State.donorBegin (s : State) (v i tmax : Nat) : State :=
  let s1 := (((s.wr buscB BUSC.DONOR_SET_V v).wr buscB BUSC.DONOR_SET_I i).wr buscB BUSC.DONOR_LIM_TMAX tmax)
  let s2 := (((s1.wr buscB BUSC.DONOR_STAT_CAUSE 0).wr buscB BUSC.DONOR_STAT_ELAPSED 0).wr buscB BUSC.DONOR_E_E 0).wr buscB
    BUSC.STATUS_SESSION 1
  (((s2.modBus (fun b => { b with ended := false, accepted := s.tick, eMs := s.tick / 1000, eRem := 0 })).setBus bFSTOP).mark
    .donor).chgWatch

def execDonorStart (t : BitVec 8) (vbus vpn : Nat) (s : State) : Host.Outcome State Fault Refusal :=
  .next (s.start t 0x17 fun k s =>
    if isStart k then
      let arg := fun (a : Nat) (f : Fld) => if a = 0 then s.rd buscB f else a
      let v := arg (getBits k.a1 0 16) BUSC.DONOR_SET_V
      let i := arg (getBits k.a1 16 16) BUSC.DONOR_SET_I
      match s.donorRefusal v i vbus vpn with
      | some c => s.failK k c
      | none => (s.runK k).donorBegin v i (arg (getBits k.a2 0 7) BUSC.DONOR_LIM_TMAX)
    else s).settle

/-- A STOP; an action other than the two is refused with a cause that the spec does not give. (DESIGN CHOICE, log 14.) -/
def execDonorStop (t : BitVec 8) (s : State) : Host.Outcome State Fault Refusal :=
  .next (s.start t 0x17 fun k s =>
    if isStart k then s
    else if getBits k.a0 0 8 ≠ 0 then s.failFree k
    else if s.session then (s.runK k).endSession 6
    else s.doneK k 0).settle

/-! The states of a session (R170). -/

/-- Ports A and B are BLOCKED. -/
def State.blockPorts (s : State) : State :=
  s.each [0, 1] fun p t => t.holdPort p

/-- The forward current has been ramped to 0. -/
def execFstopDone (s : State) : Host.Outcome State Fault Refusal :=
  .next (if s.busSt = bFSTOP ∧ s.bus.ramp = 0 then s.blockPorts.setBus bDEAD else s).settle

/-- The converter has been in its state for `us` microseconds. -/
def State.busFor (s : State) (us : Nat) : Bool := s.ran .busAt us

/-- TURN.DEAD elapses. -/
def execDeadEnd (s : State) : Host.Outcome State Fault Refusal :=
  .next (if s.busSt = bDEAD ∧ s.busFor (max 10 (s.rd buscB BUSC.TURN_DEAD)) then
      if s.mode = mPARKED then (if s.bus.feedHi = 0 then s.pathStop else s.pathStart 6500)
      else if s.session ∧ !s.bus.ended then
        ((s.busRejoin).setBus bMATCH).modBus (fun b => { b with nodeRef := 20 * s.rd buscB BUSC.MON_VNODE, nodeRem := 0 })
      else ((s.sessionClose.setBus bHALT).busTryStart).chgWatch
    else s).settle

/-- The node is within NMATCH.WIN of VPN. -/
def State.nodeNear (s : State) (vnode vn : Nat) : Bool :=
  decide (((vnode : Int) - vn).natAbs ≤ 20 * s.rd portB PORT.NMATCH_WIN)

def execNodeMatch (vnode vn : Nat) (s : State) : Host.Outcome State Fault Refusal :=
  .next (if s.busSt = bMATCH ∧ s.nodeNear vnode vn then (s.wr portB PORT.STATUS_N_ST 1).setBus bCONNECT else s).settle

/-- TURN.MATCH_T elapses. -/
def execMatchTimeout (s : State) : Host.Outcome State Fault Refusal :=
  .next (if s.busSt = bMATCH ∧ s.busFor (1000 * orIf0 (s.rd buscB BUSC.TURN_MATCH_T) 1) then
      ((s.endCause 0xB).err buscB 4 102 none none).setBus bDEAD
    else s).settle

/-- NCFG.SOFT elapses. -/
def execConnectDone (s : State) : Host.Outcome State Fault Refusal :=
  .next (if s.busSt = bCONNECT ∧ s.busFor (10 * orIf0 (s.rd portB PORT.NCFG_SOFT) 1) then
      (s.wr portB PORT.STATUS_N_ST 2).setBus bRRAMP
    else s).settle

/-- The reference is at V, or a donor limit acts (R170). -/
def State.rrampOver (s : State) : Bool := s.bus.nodeRef == 10 * s.rd buscB BUSC.DONOR_SET_V || s.donorLimit

def execDeliverEntry (s : State) : Host.Outcome State Fault Refusal :=
  .next (if s.busSt = bRRAMP ∧ s.rrampOver then
      ((s.setBus bDELIVER).irq buscB 16 102).endRunning opDonor stDONE (min 0xFFFFFFFF (s.tick - s.bus.accepted)) isStart
    else s).settle

/-- VBUS below the floor for 1 ms (R174). -/
def execDonorFloor (mv us : Nat) (s : State) : Host.Outcome State Fault Refusal :=
  .next (if mv < s.donorFloor ∧ 1000 ≤ us then s.endSession 5 else s).settle

/-- IN below TAPER_I for TAPER_T (R174); FE2 tests it (R175). -/
def State.tapered (s : State) : Bool := s.busSt == bDELIVER && s.ran .taper (1000000 * orIf0 (s.rd buscB BUSC.DONOR_CFG_TAPER_T) 1)

def execDonorTaper (s : State) : Host.Outcome State Fault Refusal :=
  .next (s.onFe2 .donorTaper fun s => if s.tapered then s.endSession 7 else s).settle

/-- ELAPSED reaches TMAX (R174); FE2 tests it (R175). -/
def State.donorOver (s : State) : Bool := decide (60 * orIf0 (s.rd buscB BUSC.DONOR_LIM_TMAX) 1 ≤ s.rd buscB BUSC.DONOR_STAT_ELAPSED)

def execDonorTime (s : State) : Host.Outcome State Fault Refusal :=
  .next (s.onFe2 .donorTime fun s => if s.donorOver then s.endSession 8 else s).settle

/-- The reverse current has been ramped to 0. -/
def execRstopDone (s : State) : Host.Outcome State Fault Refusal :=
  .next (if s.busSt = bRSTOP ∧ s.bus.ramp = 0 then (s.ornOff 0).setBus bDEAD else s).settle

/-- Bits of PH_REM written 1 (R169). -/
def execPhRemClear (c : Fin 8) (v : BitVec 8) (s : State) : Host.Outcome State Fault Refusal :=
  .next (s.ifField c buscB BUSC.PH_REM_REM v.toNat fun s =>
    (s.wr buscB BUSC.PH_REM_REM (s.rd buscB BUSC.PH_REM_REM &&& (255 - v.toNat))).busWatch).settle

end Sys2Proof.Machine
end

