-- ==== Sys2Proof/Machine/Pack.lean ====
section
/-! DEFINITION. The rows of the hold-up pack charger (R178 to R198). -/

namespace Sys2Proof.Machine

open Sys2Proof

/-- FE2's tick of 1 ms, with V(BSN) in mV (R179, R181). -/
def execChargerTick (vbsn : Nat) (s : State) : Host.Outcome State Fault Refusal := .next (s.chgTick vbsn).settle

/-- 200 ms at zero set-point end (R185). -/
def execQualifyEnd (vbsn : Nat) (s : State) : Host.Outcome State Fault Refusal :=
  .next (s.onFe2 (.qualifyEnd vbsn) fun s => s.qualifyEnd vbsn).settle

/-- VCELL at or above VPRE + 50 mV for 1 s. -/
def execPrechargeDone (s : State) : Host.Outcome State Fault Refusal :=
  .next (s.chgStep .prechargeDone [cPRE] fun s => if s.okFor 1000 then s.toCC else s).settle

/-- The pre-charge timer reaches PRE_T. -/
def execPrechargeTimeout (s : State) : Host.Outcome State Fault Refusal :=
  .next (s.chgStep .prechargeTimeout [cPRE] fun s => if s.preOver then s.chgTimeout 5 else s).settle

/-- CV_ACT for 1 s. -/
def execCvEntry (s : State) : Host.Outcome State Fault Refusal :=
  .next (s.chgStep .cvEntry [cCC] fun s => if s.okFor 1000 then s.setChg cCV else s).settle

/-- ELAPSED reaches SAFE_T hours (R187). -/
def execSafetyTimerExpiry (s : State) : Host.Outcome State Fault Refusal :=
  .next (s.chgStep .safetyTimerExpiry [cCC, cCV] State.safeExpiry).settle

/-- The conditions of R189 for 10 s. -/
def execTermination (s : State) : Host.Outcome State Fault Refusal := .next (s.chgStep .termination [cCV] State.terminate).settle

/-- The top-off timer reaches TOPOFF. -/
def execTopoffDone (s : State) : Host.Outcome State Fault Refusal :=
  .next (s.chgStep .topoffDone [cTOPOFF] fun s => if s.topoffOver then s.topoffDone else s).settle

/-- VCELL below VCV − RCHG for 1 s in DONE. -/
def execAutoRecharge (s : State) : Host.Outcome State Fault Refusal :=
  .next (s.chgStep .autoRecharge [cDONE] fun s => if s.bit chgB CHG.CFG_AUTO_RCHG && s.okFor 1000 then s.recharge else s).settle

/-- REST.INT minutes of charging (R191). -/
def execRestDue (s : State) : Host.Outcome State Fault Refusal :=
  .next (s.chgStep .restDue [cPRE, cCC, cCV, cTOPOFF] fun s => if s.restDue then s.restStart else s).settle

/-- REST.DUR seconds (R191). -/
def execRestEnd (s : State) : Host.Outcome State Fault Refusal :=
  .next (s.chgStep .restEnd [cREST] fun s => if s.restOver then s.restEnd else s).settle

/-- The conditions of R195 for 1 ms: `byNtc`, those on the NTC alone. -/
def execPackAbsence (byNtc : Bool) (rise us : Nat) (s : State) : Host.Outcome State Fault Refusal :=
  .next (s.packAbsence (.packAbsence byNtc rise us) (if byNtc then s.absNtc else s.absCurrent rise us)).settle

/-- The conditions of R196: the NTC VALID for 50 ms, then the current for 1 ms. -/
def execPackReinsertion (us : Nat) (s : State) : Host.Outcome State Fault Refusal :=
  .next (s.chgStep (.packReinsertion us) [cABSENT] fun s =>
    if s.seeks 51000 && s.iSeen && decide (1000 ≤ us) then s.chgFound else s).settle

/-- A probe falls due (R196). -/
def execProbeStart (s : State) : Host.Outcome State Fault Refusal :=
  .next (s.chgStep .probeStart [cABSENT] fun s =>
    if s.probeDue then s.modChg (fun h => { h with probe := true, probeMs := 0, probed := true }) else s).settle

/-- A probe of 20 ms ends with nothing found (R196). -/
def execProbeEnd (s : State) : Host.Outcome State Fault Refusal :=
  .next (s.onFe2 .probeEnd fun s => if 20 ≤ s.chg.probeMs then s.modChg (fun h => { h with probe := false }) else s).settle

/-- V(BSN) over the cut for 100 µs (R194). -/
def execPackOv (vbsn us : Nat) (s : State) : Host.Outcome State Fault Refusal :=
  .next (s.packOv (.packOv vbsn us) (s.overCut vbsn us)).settle

/-- The NTC SHORT for 10 ms (R184). -/
def execNtcShortFault (s : State) : Host.Outcome State Fault Refusal := .next (s.onFe2 .ntcShortFault State.ntcShort).settle

/-- The NTC comparators (R180). -/
def execNtcClassChange (mv us : Nat) (s : State) : Host.Outcome State Fault Refusal :=
  .next (if s.up then s.ntcClass mv us else s).settle

/-- TPACK from the voltage on NTC (R180). -/
def execTpackUpdate (mv : BitVec 11) (s : State) : Host.Outcome State Fault Refusal :=
  .next (if s.up then s.wrI chgB CHG.TEMP_TPACK (betaTemp (s.rd chgB CHG.NTC_CFG_BETA) mv.toNat) else s).settle

/-! CHG_CTRL (R197). -/

def execChgCtrlStop (t : BitVec 8) (s : State) : Host.Outcome State Fault Refusal := .next (s.chgCtrl t 0).settle
def execChgCtrlStart (t : BitVec 8) (s : State) : Host.Outcome State Fault Refusal := .next (s.chgCtrl t 1).settle
def execChgCtrlClear (t : BitVec 8) (s : State) : Host.Outcome State Fault Refusal := .next (s.chgCtrl t 2).settle
def execChgCtrlRest (t : BitVec 8) (s : State) : Host.Outcome State Fault Refusal := .next (s.chgCtrl t 3).settle
def execChgCtrlRecharge (t : BitVec 8) (s : State) : Host.Outcome State Fault Refusal := .next (s.chgCtrl t 4).settle

end Sys2Proof.Machine
end

