-- ==== Sys2Proof/Machine/Regulators.lean ====
section
/-! DEFINITION. The rows of the integrated regulators (R202 to R213). -/

namespace Sys2Proof.Machine

open Sys2Proof

/-! Bucks. -/

/-- BKn_CTRL.EN set (R207). -/
def execBuckEnSet (c : Fin 8) (n : Fin 16) (s : State) : Host.Outcome State Fault Refusal :=
  .next (s.ifField c (bk n) BUCK.BK_CTRL_EN 1 fun s => s.hostOn (12 + n) []).settle

/-- BKn_CTRL.EN cleared (R207). -/
def execBuckEnClear (c : Fin 8) (n : Fin 16) (s : State) : Host.Outcome State Fault Refusal :=
  .next (s.ifField c (bk n) BUCK.BK_CTRL_EN 0 fun s => s.hostOff (12 + n)).settle

/-- The buck has read its output, in µV (R207). -/
def execBuckPrebiasDone (n : Fin 16) (uv : Nat) (s : State) : Host.Outcome State Fault Refusal := .next (s.buckPrebias (12 + n) uv).settle

/-- One sample of a buck at `uv` µV, VBUS at `vin` mV, its current and its follower's in mA; `cycle`: a cycle of 2.2 MHz begins
with it (R202). -/
def execBuckSample (n : Fin 16) (uv : Int) (vin : Nat) (ma fma : Int) (cycle : Bool) (s : State) : Host.Outcome State Fault Refusal :=
  .next (s.buckSample (12 + n) uv vin ma fma cycle).settle

/-- The peak comparator of a buck sees `ma` mA; of a pair, that of either half (R208, R210). -/
def execBuckPeakTrip (n : Fin 16) (ma : Nat) (s : State) : Host.Outcome State Fault Refusal :=
  .next (
    let x := s.lead (12 + n)
    if (s.outSt x = 2 ∨ s.outSt x = 3) ∧ (s.buckH n).sw = .run ∧ 100 * (s.buckH n).ipk ≤ ma then
      (s.modBuck (x - 12) (fun h => { h with cut := true })).modBuck n (fun h => { h with sw := .low })
    else s).settle

/-- PAR of a pair written (R210). -/
def execBuckParWrite (c : Fin 8) (k : Fin 8) (b : Bool) (s : State) : Host.Outcome State Fault Refusal :=
  .next (s.ifField c (bk (2 * k)) BUCK.BK_CTRL_PAR (if b then 1 else 0) fun s => s.setPar k b).settle

/-! LDOs. -/

/-- LDOj_CTRL.EN set (R211). -/
def execLdoEnSet (c : Fin 8) (j : Fin 10) (s : State) : Host.Outcome State Fault Refusal :=
  .next (s.ifField c (ldo j) LDO.LDO_CTRL_EN 1 fun s => s.hostOn (28 + j) []).settle

/-- LDOj_CTRL.EN cleared (R211). -/
def execLdoEnClear (c : Fin 8) (j : Fin 10) (s : State) : Host.Outcome State Fault Refusal :=
  .next (s.ifField c (ldo j) LDO.LDO_CTRL_EN 0 fun s => s.hostOff (28 + j)).settle

/-- The rise of an LDO over SS_T is complete (R211). -/
def execLdoRiseDone (j : Fin 10) (s : State) : Host.Outcome State Fault Refusal :=
  .next (if s.outSt (28 + j) = 1 ∧ s.ran (.rise (28 + j)) (10 * orIf0 (s.rd (ldo j) LDO.LDO_CTRL_SS_T) 1) then s.ssDone (28 + j) else s).settle

/-- An LDO runs: not OFF and not LATCHED. -/
def State.ldoRuns (s : State) (x : Nat) : Bool := s.outSt x == 1 || s.outSt x == 2

/-- The current limit of an LDO in mA, and the time it may act, in µs (R211). -/
def State.ldoLim (s : State) (j : Nat) : Nat := 5 * clampN 60 90 (s.rd (ldo j) LDO.LDO_ILIM_ILIM)
def State.ldoLimUs (s : State) (j : Nat) : Nat := 10 * orIf0 (s.rd (ldo j) LDO.LDO_ILIM_LIM_T) 1

/-- The target of an LDO in mV. -/
def State.ldoMv (s : State) (j : Nat) : Nat := 5 * s.target (28 + j)

/-- What a running LDO shows of its load and its input (R211); on the keep-alive path LIMITING is 0 (R212). -/
def State.ldoSee (s : State) (j ma vin : Nat) : State :=
  if s.ldoRuns (28 + j) then
    ((s.wr (ldo j) LDO.LDO_STAT_IOUT (min 4095 (5 * ma))).wrB (ldo j) LDO.LDO_STAT_LIMITING
      (decide (s.ldoLim j ≤ ma) && !s.bit (ldo j) LDO.LDO_STAT_KA)).wrB (ldo j) LDO.LDO_STAT_DROPOUT (decide (vin < s.ldoMv j + Config.dropout ma))
  else s

/-- An LDO's limit acts at `ma` mA for `us`, its input group at `vin` mV (R211); it does not act on the keep-alive path (R212). -/
def execLdoOcOff (j : Fin 10) (ma vin us : Nat) (s : State) : Host.Outcome State Fault Refusal :=
  .next (
    let s1 := s.ldoSee j ma vin
    if s1.ldoRuns (28 + j) ∧ s1.bit (ldo j) LDO.LDO_STAT_LIMITING ∧ s1.ldoLimUs j ≤ us then
      (s1.outLatch (28 + j)).err ldoB 0 (28 + j) (some (min 2 (s.rd (ldo j) LDO.LDO_ILIM_OC_CLS))) none
    else s1).settle

/-- KA_CFG.HR in mV (R212). -/
def State.headroom (s : State) : Nat := 10 * orIf0 (s.rd ldoB LDO.KA_CFG_HR) 1

/-- The group 0 input has stayed at or above the target plus HR for 100 µs (R212). -/
def execLdo0ToGroup (mv us : Nat) (s : State) : Host.Outcome State Fault Refusal :=
  .next (if s.up ∧ s.ldoRuns 28 ∧ s.ldoMv 0 + s.headroom ≤ mv ∧ 100 ≤ us then s.wr (ldo 0) LDO.LDO_STAT_KA 0 else s).settle

/-- The group 0 input falls below the target plus HR/2 (R212). -/
def execLdo0ToKeepalive (mv : Nat) (s : State) : Host.Outcome State Fault Refusal :=
  .next (if s.up ∧ s.ldoRuns 28 ∧ 2 * mv < 2 * s.ldoMv 0 + s.headroom then s.ldo0Ka else s).settle

/-- LDO0 held at the keep-alive limit of 50 mA for LIM_T (R212). In PARKED the record waits for WAKING. -/
def execKaTrip (ma us : Nat) (s : State) : Host.Outcome State Fault Refusal :=
  .next (if s.ldoRuns 28 ∧ s.bit (ldo 0) LDO.LDO_STAT_KA ∧ 50 ≤ ma ∧ s.ldoLimUs 0 ≤ us then
      if s.up then ((s.outOff 28 0).wr (ldo 0) LDO.LDO_STAT_KA 0).err ldoB 4 28 none none
      else { ((s.outOff 28 0).wr (ldo 0) LDO.LDO_STAT_KA 0) with kaHeld := true }
    else s).settle

/-! Load switches. -/

/-- LSk_CTRL.EN set (R213). -/
def execLsEnSet (c : Fin 8) (k : Fin 8) (s : State) : Host.Outcome State Fault Refusal :=
  .next (s.ifField c (ls k) LDO.LS_CTRL_EN 1 fun s => s.hostOn (38 + k) []).settle

/-- LSk_CTRL.EN cleared (R213). -/
def execLsEnClear (c : Fin 8) (k : Fin 8) (s : State) : Host.Outcome State Fault Refusal :=
  .next (s.ifField c (ls k) LDO.LS_CTRL_EN 0 fun s => s.hostOff (38 + k)).settle

/-- A switch runs: in RAMP or ON. -/
def State.lsRuns (s : State) (k : Nat) : Bool := s.outSt (38 + k) == 1 || s.outSt (38 + k) == 2

/-- A switch's output at `uv` µV reaches its input at `vin` (R213); a switch that blocks does not. -/
def execLsRampDone (k : Fin 8) (uv vin : Nat) (s : State) : Host.Outcome State Fault Refusal :=
  .next (
    let s1 := s.see (38 + k) uv vin
    if s1.outSt (38 + k) = 1 ∧ vin ≤ uv ∧ !s1.bit (ls k) LDO.LS_STAT_REV_BLOCK then s1.ssDone (38 + k) else s1).settle

/-- The current limit of a switch in mA (R213). -/
def State.lsLim (s : State) (k : Nat) : Nat := 100 * clampN 5 30 (s.rd (ls k) LDO.LS_ILIM_ILIM)

/-- What a running switch that does not block shows of its load, in mA. -/
def State.lsSee (s : State) (k : Nat) (ma : Int) : State :=
  if s.lsRuns k ∧ s.bit (ls k) LDO.LS_STAT_REV_BLOCK = false then
    (s.wrI (ls k) LDO.LS_STAT_IOUT (clampI (-2048) 2047 (ma / 2))).wrB (ls k) LDO.LS_STAT_LIMITING (decide ((s.lsLim k : Int) ≤ ma))
  else s

/-- The class of a switch that latches off. -/
def State.switchCls (s : State) (k : Nat) : Option Nat := some (min 2 (s.rd (ls k) LDO.LS_ILIM_OC_CLS))

/-- Regulation at ILIM for FLT_T (R213): the switch latches off. -/
def execLsOcOff (k : Fin 8) (ma : Int) (us : Nat) (s : State) : Host.Outcome State Fault Refusal :=
  .next (
    let s1 := s.lsSee k ma
    if s1.lsRuns k ∧ s1.bit (ls k) LDO.LS_STAT_LIMITING ∧ 100 * orIf0 (s.rd (ls k) LDO.LS_ILIM_FLT_T) 1 ≤ us then
      (s1.outLatch (38 + k)).err ldoB 0 (38 + k) (s.switchCls k) none
    else s1).settle

/-- A current above twice ILIM (R213). One of the tick in which EN was cleared is raised, and the switch stays OFF (R215). -/
def State.lsFast (s : State) (k : Nat) (ma : Int) : State :=
  if ma ≤ (2 * s.lsLim k : Nat) then s.lsSee k ma
  else if s.lsRuns k then (s.outLatch (38 + k)).err ldoB 2 (38 + k) (s.switchCls k) none
  else if s.began (.offAt (38 + k)) = some s.tick then s.err ldoB 2 (38 + k) (s.switchCls k) none
  else s

def execLsFastTrip (k : Fin 8) (ma : Int) (s : State) : Host.Outcome State Fault Refusal := .next (s.lsFast k ma).settle

/-- The output more than 50 mV above the input: the switch opens (R213). -/
def execLsReverseStart (k : Fin 8) (uv vin : Nat) (s : State) : Host.Outcome State Fault Refusal :=
  .next (
    let s1 := s.see (38 + k) uv vin
    if s1.lsRuns k ∧ s1.bit (ls k) LDO.LS_CTRL_REV_EN ∧ !s1.bit (ls k) LDO.LS_STAT_REV_BLOCK ∧ vin + 50000 < uv then
      (((s1.wr (ls k) LDO.LS_STAT_REV_BLOCK 1).wr (ls k) LDO.LS_STAT_LIMITING 0).wr (ls k) LDO.LS_STAT_IOUT 0).err ldoB 3 (38 + k) (some 0) none
    else s1).settle

/-- The condition ends: the switch closes under SLEW (R213). -/
def execLsReverseEnd (k : Fin 8) (uv vin : Nat) (s : State) : Host.Outcome State Fault Refusal :=
  .next (if uv ≤ vin + 50000 then (s.see (38 + k) uv vin).lsClose k else s.see (38 + k) uv vin).settle

end Sys2Proof.Machine
end

