-- ==== Sys2Proof/Machine/Line.lean ====
section
/-! DEFINITION. The Flail line (R239 to R259): strobes, announcements, elections, frames, alarms and violations. -/

namespace Sys2Proof.Machine

open Sys2Proof

/-! STATE. -/

/-- The running table holds a FLAIL_READY for state `x` at or after its current step (R249). -/
def State.holdsFor (s : State) (x : Nat) : Bool :=
  (s.seqSt == qUP || s.seqSt == qDOWN || s.seqSt == qSBYIN || s.seqSt == qSBYOUT) &&
    (List.range (s.tabLen s.seqTab)).any (fun k =>
      decide (s.seq.pc ≤ k) && s.stepOp s.seqTab k == 7 && s.rd (stepB s.seqTab k) SEQ.STEP_B_STATE == x)

/-- The requests that a state stands for (R235). -/
def State.flailAsk (s : State) (x : Nat) : State :=
  let s1 := if s.bit seqB SEQ.FLMAP_UP_EN ∧ s.rd seqB SEQ.FLMAP_UP_ST = x then s.ask .on 0x0C else s
  let s2 := if s1.bit seqB SEQ.FLMAP_SBY_EN ∧ s1.rd seqB SEQ.FLMAP_SBY_ST = x then s1.ask .standby 0x0C else s1
  if s.bit seqB SEQ.FLMAP_DOWN_EN ∧ s.rd seqB SEQ.FLMAP_DOWN_ST = x then s2.ask .off 0x0C else s2

/-- STATE becomes `x` (R247): requests, the wait of a FLAIL_WAIT step, the synchronised copy (R266), which a mode change of
the same tick comes before, one that has already cleared SYNC.ARM too (R263, R268), and readiness cleared (R249). `strobe`: a hold may begin, judged once the requests have been
served. -/
def State.flailSet (s : State) (x : Nat) (strobe : Bool) : State :=
  if s.flailSt = x then s
  else
    let arm := (s.bit margB MARG.SYNC_ARM || s.began .unarmed == some s.tick) && s.rd margB MARG.SYNC_ST == x
    let ready := s.flail.armed.contains x
    let s1 := ((s.wr flailB FLAIL.STATE_STATE x).irq flailB 16 110).flailAsk x
    let met := s1.stepOp s1.seqTab s1.seq.pc == 6 && s1.seqPhase == 1 && s1.rd (stepB s1.seqTab s1.seq.pc) SEQ.STEP_B_STATE == x
    let s2 := if met then s1.modSeq (fun h => { h with hit := true }) else s1
    s2.modFlail (fun h => { h with armed := [], sync := arm || h.sync, judge := if strobe && !ready then some x else none })

/-- A strobe's hold is judged, with the table that runs after R235 (R249). -/
def State.holdJudge (s : State) : State :=
  match s.flail.judge with
  | none => s
  | some x =>
    let s1 := s.modFlail (fun h => { h with judge := none })
    if s1.role ≠ rSILENT ∧ s1.holdsFor x then
      ((s1.wr flailB FLAIL.STATUS_HOLDING 1).modFlail (fun h => { h with held := x })).mark .hold
    else s1

/-! Master operations. -/

/-- TARGET ends at its state or after a STOP (R251). -/
def State.autoEnd (s : State) : State :=
  if s.flail.stop ∨ s.flailSt = s.rd flailB FLAIL.MSTAT_TARGET then
    (s.wr flailB FLAIL.MSTAT_AUTO 0).modFlail (fun h => { h with stop := false })
  else s

/-- A master operation starts (R251): 1 STEP, 2 GOTO, 3 TARGET, 4 STOP, 5 WAKE, whose low lasts 100 µs. -/
def State.mctrlRun (s : State) (op arg : Nat) : State :=
  if op = 1 then s.setFrame 1
  else if op = 2 then (s.modFlail (fun h => { h with goto := arg })).setFrame 2
  else if op = 3 then
    let s1 := s.wr flailB FLAIL.MSTAT_TARGET arg
    if s1.flailSt = arg then s1 else (s1.wr flailB FLAIL.MSTAT_AUTO 1).setFrame 1
  else if op = 4 then s.wr flailB FLAIL.MSTAT_AUTO 0
  else if op = 5 then s.setFrame 6
  else s

/-- The line carries an operation of this node: a frame, a step, or a round that begins again. -/
def State.lineBusy (s : State) : Bool := s.flail.frame != 0 || s.flail.again != 0

/-- MCTRL written (R251). An operation waits for the end of a frame; STOP ends TARGET after the current step. -/
def State.mctrl (s : State) (c op arg : Nat) : State :=
  let granted := match s.grantOf 8 with | some g => decide (g.who = c ∧ g.org = .direct) | none => false
  if s.role ≠ rMASTER ∨ !granted then s.viol 11 0
  else if op = 0 ∨ 6 ≤ op then s
  else if op = 4 ∧ (s.flail.frame = 1 ∨ s.flail.frame = 5) then s.modFlail (fun h => { h with stop := true })
  else
    let s1 := s.iff (op == 3) fun t => t.modFlail fun h => { h with tctx := c }
    if s1.lineBusy then s1.modFlail (fun h => { h with mq := h.mq ++ [(op, arg)] })
    else s1.mctrlRun op arg

/-- The line is free for the operations that wait: each in turn, until one begins a frame or a step. After a frame, and a WAKE, the
next low comes 20 µs later. -/
def State.lineFree (s : State) : State :=
  let s0 := (s.iff s.inFrame fun t => t.mark .frEnd).setFrame 0
  s0.flail.mq.foldl (fun t m =>
    if t.flail.frame = 0 then (t.modFlail (fun h => { h with mq := h.mq.drop 1 })).mctrlRun m.1 m.2 else t) s0

/-- A frame of this node collided (R258): it is sent again at most twice. (DEDUCED, log 63.) -/
def State.collide (s : State) (own : Bool) : State :=
  let s1 := s.viol 1 0
  if own then
    if s.flail.colls < 2 then (s1.modFlail (fun h => { h with colls := h.colls + 1 })).mark .frame
    else s1.roundAbort.lineFree
  else s1

/-- A WAKE of this node, and the low by which the wake logic passes one on (R242), end after 100 µs. -/
def State.lineTick (s : State) : State :=
  let s1 := if s.flail.wakeOut.1 ≠ 0 ∧ s.flail.wakeOut.2 ≤ s.tick then s.modFlail (fun h => { h with wakeOut := (0, 0) }) else s
  if s1.flail.frame = 6 ∧ s1.ran .frame 100 then s1.lineFree else s1

/-- This node itself keeps the line low: its hold, its WAKE (R248, R251). -/
def State.drivesLow (s : State) : Bool := s.bit flailB FLAIL.STATUS_HOLDING || s.flail.frame == 6

/-- A step transaction is in progress as this node sees it: its own, or another's up to the master's sample, or one that it holds (R248). -/
def State.inStep (s : State) : Bool :=
  s.flail.frame == 5 || s.bit flailB FLAIL.STATUS_HOLDING ||
    match s.began .strobe with | some t => decide (s.tick < t + s.lineSC) | none => false

/-- A bridge repeats what it sees on a port (R241, R242, R258): while its island is on and the port is not stuck. -/
def State.repeats (s : State) (p : Nat) : Bool :=
  s.listens && s.bit flailB FLAIL.CFG_BRIDGE && s.bit flailB FLAIL.CFG_A_EN && s.bit flailB FLAIL.CFG_B_EN && !s.flail.stuck.testBit p

/-! Rows. -/

/-- A low of `ns` is a STROBE (R243, R247, R248), classified at its rise. `own`: this node, as master, sent it. -/
def execStrobe (own : Bool) (ns : Nat) (s : State) : Host.Outcome State Fault Refusal :=
  .next (if s.classes ns && !s.inFrame && pulseOf ns == plSTROBE &&
        (!own || (s.role == rMASTER && s.flail.frame == 1 && s.mayStrobe (ns / 1000))) then
      let s1 := ((if own then s.setFrame 5 else s.dethrone).markAgo .strobe (ns / 1000)).unmark .shut
      (s1.flCount FLAIL.CNT1_STEPS FLAIL.CNT1_STEPS_SAT).flailSet ((s.flailSt + 1) % 256) true
    else s.lineLow (ns / 1000)).settle

/-- A step of the master is complete (R248): the line is high at its sample, or at the first rise after; `low` is how long a hold kept it low,
in µs. -/
def execStepDone (low : Nat) (s : State) : Host.Outcome State Fault Refusal :=
  .next (if s.role = rMASTER ∧ s.flail.frame = 5 ∧ s.bit flailB FLAIL.STATUS_HOLDING = false ∧ s.ran .strobe (max s.lineSC low) then
      ((((s.wr flailB FLAIL.MSTAT_HOLDT (min 0xFFFF (low / 10))).irq flailB 17 110).autoEnd).mark .stepEnd).lineFree
    else s).settle

/-- TARGET goes on (R251, R348): its context holds the mastership, or has given it up; it stands still while the grant is another's, and
where it was taken back. (DEDUCED, log 63.) -/
def State.targetMay (s : State) : Bool :=
  match s.grantOf 8 with
  | some g => g.who == s.flail.tctx && g.org == .direct
  | none => !(s.queueOf 5).any (fun q => q.who == s.flail.tctx && q.org == .direct)

/-- The next strobe of TARGET falls due (R248, R251). -/
def execTargetStrobe (s : State) : Host.Outcome State Fault Refusal :=
  .next (if s.stopped 0 then s.putOff .targetStrobe
    else if s.role = rMASTER ∧ s.lineBusy = false ∧ s.bit flailB FLAIL.MSTAT_AUTO ∧ s.targetMay ∧ s.mayStrobe 0 then s.setFrame 1
    else s).settle

/-- The line has carried no announcement for ANN.PER (R250). -/
def execAnnouncePeriodExpiry (s : State) : Host.Outcome State Fault Refusal :=
  .next (if s.role = rMASTER ∧ s.lineBusy = false ∧ s.ran .ann s.annT then s.mctrlRun 2 s.flailSt else s).settle

/-- An ANNOUNCE frame ends (R250): 8 state bits and their ones' complement, as read. -/
def execAnnounce (h : FlStart) (st comp : BitVec 8) (own coll : Bool) (s : State) : Host.Outcome State Fault Refusal :=
  .next (if s.frameIs h 1 own = false then s
    else if own then
      if s.role ≠ rMASTER ∨ s.flail.frame ≠ 2 then s
      else if coll then s.collide true
      else if s.slotsOver 16 then (((s.flailSet s.flail.goto false).autoEnd).mark .ann).lineFree
      else s
    else
      let s1 := (s.unmark .shut).dethrone
      if coll then s1.collide false
      else if comp ≠ ~~~ st then s1.viol 2 0
      else
        let s2 := ((s1.modFlail (fun h => { h with lost := false })).mark .lost).mark .ann
        let s3 := if s2.role ≠ rSILENT ∧ s2.flailSt ≠ st.toNat then
            (s2.flCount FLAIL.CNT1_RESYNCS FLAIL.CNT1_RES_SAT).post 110 (some 0) none
          else s2
        s3.flailSet st.toNat false).settle

/-- The order of an election: the lower ID, then the lower serial number. -/
def lowerId (a b : BitVec 10 × BitVec 16) : Bool := decide (a.1 < b.1 ∨ (a.1 = b.1 ∧ a.2 < b.2))

def winner : List (BitVec 10 × BitVec 16) → Option (BitVec 10 × BitVec 16)
  | [] => none
  | a :: t => match winner t with
    | none => some a
    | some b => if lowerId b a then some b else some a

/-- This node as a candidate: CFG.NODE_ID and the low 16 bits of its serial number (R246). -/
def State.ownId (s : State) : BitVec 10 × BitVec 16 :=
  (BitVec.ofNat 10 (s.rd flailB FLAIL.CFG_NODE_ID), BitVec.ofNat 16 (s.rd devB DEV.SERIAL_LO_SN))

/-- An election frame ends (R245, R246), begun by a low of `ns`. `cands` are the other candidates. A candidate that joins in stays in the
election where a collision ends the frame. -/
def execElect (ns : Nat) (cands : List (BitVec 10 × BitVec 16)) (coll : Bool) (s : State) : Host.Outcome State Fault Refusal :=
  .next (if !s.listens || pulseOf ns != plELECT then s
    else
      let joins := s.role == rELECTING || (s.role == rFOLLOWER && s.bit flailB FLAIL.CFG_MCAND)
      if coll then ((s.iff joins fun t => t.setRole rELECTING)).collide false
      else match winner (if joins then s.ownId :: cands else cands) with
      | none => s
      | some w =>
        let s1 := s.wr flailB FLAIL.STATE_MASTER_ID w.1.toNat
        if !joins then s1
        else if w = s.ownId then ((s1.setRole rMASTER).modFlail (fun h => { h with lost := false })).mctrlRun 2 s1.flailSt
        else
          let s2 := s1.setRole rFOLLOWER
          if w.1 = s.ownId.1 then s2.viol 8 1 else s2).settle

/-- A follower's lost timer expires (R245), told once per episode. `low`: how long the line has been low in hold windows since its start, in
µs; it does not run then. -/
def execMasterLost (low : Nat) (s : State) : Host.Outcome State Fault Refusal :=
  .next (if s.role = rFOLLOWER ∧ s.flail.lost = false ∧ s.ran .lost (3 * s.annT + low) then
      let s1 := (s.modFlail (fun h => { h with lost := true })).err flailB 9 110 (some 1) none
      if s1.bit flailB FLAIL.CFG_MCAND then s1.setRole rELECTING else s1
    else s).settle

/-- This node's hold reaches HOLD_MAX (R249). -/
def execHoldExp (s : State) : Host.Outcome State Fault Refusal :=
  .next (if s.bit flailB FLAIL.STATUS_HOLDING ∧ s.ran .hold s.holdMax then s.unhold.viol 5 1 else s).settle

/-- A reserved TYPE (R244, R258): decoding stops, and the line is treated as busy. -/
def execFrameType (h : FlStart) (s : State) : Host.Outcome State Fault Refusal :=
  .next (if s.decodes h ∧ !(1 ≤ frType h ∧ frType h ≤ 3 : Bool) then (s.dethrone.mark .shut).viol 3 0 else s).settle

/-- A low of `ns`, a width of no class (R243, R258), outside a frame and a hold window. -/
def execIllegalWidth (ns : Nat) (s : State) : Host.Outcome State Fault Refusal :=
  .next ((if s.classes ns && !s.inFrame && pulseOf ns == plILLEGAL then s.viol 0 0 else s).lineLow (ns / 1000)).settle

/-- An enabled port has been low for `us`, in a hold or outside one (R258): told once, until it has been high. -/
def execFlailStuck (p : Fin 2) (us : Nat) (hold : Bool) (s : State) : Host.Outcome State Fault Refusal :=
  let en := if p = 0 then s.bit flailB FLAIL.CFG_A_EN else s.bit flailB FLAIL.CFG_B_EN
  .next (if s.listens && en && !s.flail.stuck.testBit p.val && decide ((if hold then s.holdMax + 1000 else 10000) ≤ us) then (s.modFlail (fun h => { h with stuck := h.stuck ||| 2 ^ p.val })).viol (6 + p.val) 1 else s).settle

/-- A stuck port has been high for `us` (R258): 1 ms ends it. -/
def execFlailPortHigh (p : Fin 2) (us : Nat) (s : State) : Host.Outcome State Fault Refusal :=
  .next (if s.flail.stuck.testBit p.val ∧ 1000 ≤ us then s.modFlail (fun h => { h with stuck := h.stuck - 2 ^ p.val }) else s).settle

/-! Alarms. -/

/-- An ALARM aborts the frame in progress (R252, R256): a round begins again at most twice; a strobe stretched into the alarm counts as
not sent, and its step stays. -/
def State.alarmAborts (s : State) : State :=
  let f := s.flail.frame
  let s1 := (s.iff (f == 3 || f == 4) fun t => t.digestLost t.flail.grp).mark .alarm
  if f = 3 ∨ f = 4 then
    if s.flail.restarts < 2 then (s1.setFrame 0).modFlail (fun h => { h with again := f, restarts := h.restarts + 1 })
    else s1.roundAbort.lineFree
  else if f = 2 then s1.lineFree
  else s1

/-- A low of `ns` is an ALARM from another node (R243, R252, R257). `h`: the frame of another node that it aborts. -/
def execAlarm (ns : Nat) (h : Option FlStart) (s : State) : Host.Outcome State Fault Refusal :=
  .next (if s.classes ns ∧ pulseOf ns = plALARM then
      let act := s.rd flailB FLAIL.ALCFG_ACT
      let s0 := match h with | some b => (s.unmark .shut).iff (!s.inFrame && s.decodes b) fun t => t.frameLost b | none => s.unmark .shut
      let s1 := (s0.flCount FLAIL.CNT2_RX FLAIL.CNT2_RX_SAT).irq flailB 20 110
      let s2 := (s1.post 110 (some (if act = 0 then 0 else 1)) none).alarmAborts
      if 2 ≤ act then s2.ask .off 0x0C else s2
    else s.lineLow (ns / 1000)).settle

/-- This node's alarm goes out again once the line has been high for 20 µs (R252): high for `us`, `ns` wide as it came back. -/
def execAlarmRepeat (us ns : Nat) (s : State) : Host.Outcome State Fault Refusal :=
  .next (if s.flail.alarmPend ∧ 20 ≤ us then
      (s.modFlail (fun h => { h with alarmPend := pulseOf ns != plALARM })).iff (pulseOf ns == plALARM) fun t => t.alarmAborts
    else s).settle

/-- A round stopped by an alarm begins again, 100 µs after the line rose (R256). -/
def execDigestRestart (s : State) : Host.Outcome State Fault Refusal :=
  .next (if s.stopped 0 then s.putOff .digestRestart
    else if s.flail.again ≠ 0 ∧ s.role = rMASTER ∧ s.flail.frame = 0 ∧ s.past .alarm 100 ∧ (s.runningCmd opDigest).isSome then
      (s.setFrame s.flail.again).modFlail (fun h => { h with again := 0 })
    else s).settle

/-! Digest rounds. -/

/-- The pairs of a DIGEST frame (R253): the bits both of whose slots read low, both high, and exactly one high. -/
def pairCount (p : Bool → Bool → Bool) (a b : BitVec 64) : List Nat :=
  (List.range 64).filter (fun i => p (a.getLsbD i) (b.getLsbD i))

/-- RESULT of a frame (R254). -/
def digestResult (a b : BitVec 64) : Nat :=
  let low := (pairCount (fun x y => !x && !y) a b).length
  let high := (pairCount (fun x y => x && y) a b).length
  if high = 64 then 3 else if high ≠ 0 then 4 else if low ≠ 0 then 2 else 1

/-- The node is a member of a round (R253). -/
def State.inGroup (s : State) (g : Nat) : Bool := s.role != rSILENT && (g == 0 || g == s.rd flailB FLAIL.DGCFG_GROUP)

/-- A DIGEST_ROUND that waits completes with the round's result (R256). -/
def State.roundDone (s : State) : State :=
  let r := s.rd flailB FLAIL.DGRES_RESULT + s.rd flailB FLAIL.DGRES_FIRST * 0x100 + s.rd flailB FLAIL.DGRES_NDIFF * 0x10000
  (s.endWith opDigest stDONE (fun k => r + (if k.aux = 1 then min 255 (s.rd flailB FLAIL.IDRES_NDISS) * 0x1000000 else 0))).modFlail
    (fun h => { h with restarts := 0, again := 0 })

/-- DIGEST_ROUND that runs asks for an IDENT frame after a mismatch, or every master does (R256, R259). -/
def State.wantsIdent (s : State) : Bool :=
  s.rd flailB FLAIL.DGRES_RESULT == 2 && (s.bit flailB FLAIL.DGCFG_ID_AUTO ||
    s.cmds.any (fun k => k.op == opDigest && k.phase == .running && getBits k.a0 4 1 == 1))

/-- FE0 goes on after an own DIGEST (3) or IDENT (4) frame (R255, R256). The end of the DIGEST frame is a boundary, where a command that
has to give way does so, to go on with the IDENT frame (R347, R348). -/
def State.roundNext (s : State) (f : Nat) : State :=
  let s1 := s.modFlail (fun h => { h with fin := 0 })
  if f = 3 ∧ s1.wantsIdent then
    let s2 := (s1.iff s1.inFrame fun t => t.mark .frEnd).setFrame 0
    match s2.runningCmd opDigest with
    | some k => if s2.mustYield k then (s2.yield k 1).lineFree else s2.setFrame 4
    | none => s2.setFrame 4
  else s1.roundDone.lineFree

/-- An own frame of a round ends; while FE0 is stopped, what follows waits for it (R31, R257). -/
def State.roundFrame (s : State) (f : Nat) : State :=
  if s.stopped 0 then s.lineFree.modFlail (fun h => { h with fin := f }) else s.roundNext f

/-- What the pairs of a DIGEST frame read, of what the other nodes leave of the slots: a member sends 0 in the first slot of a bit that is
0, and in the second of one that is 1 (R253). -/
def State.dgRead (s : State) (g : Nat) (first second : BitVec 64) : BitVec 64 × BitVec 64 :=
  let d := BitVec.ofNat 64 s.digest
  if s.inGroup g then (first &&& d, second &&& ~~~ d) else (first, second)

/-- A DIGEST frame of group PARAM ends (R254). `first` and `second` are the slots as the other nodes leave them, by digest bit. -/
def execDigest (h : FlStart) (first second : BitVec 64) (own coll : Bool) (s : State) : Host.Outcome State Fault Refusal :=
  .next (
    let g := frParam h
    if !s.frameIs h 2 own || (own && (s.flail.frame != 3 || g != s.flail.grp || !(coll || s.slotsOver 128))) then s
    else if coll then ((if own then s else (s.unmark .shut).dethrone).collide own).digestLost g
    else
      let s0 := if own then s else (s.unmark .shut).dethrone
      let p := s.dgRead g first second
      let res := digestResult p.1 p.2
      let low := pairCount (fun x y => !x && !y) p.1 p.2
      let fst := (low.getLast?).getD 0
      let s1 := (((s0.wr flailB FLAIL.DGRES_RESULT res).wr flailB FLAIL.DGRES_FIRST fst).wr flailB FLAIL.DGRES_NDIFF
        low.length).wr flailB FLAIL.DGRES_GROUP g
      let s2 := (s1.flCount FLAIL.CNT3_ROUNDS FLAIL.CNT3_RND_SAT).irq flailB 18 110
      let s3 := if res = 2 then (s2.flCount FLAIL.CNT3_MISM FLAIL.CNT3_MISM_SAT).err flailB 10 110 (some 1)
            (some (Config.detailOf 3 (g + 16 * fst + 1024 * low.length)))
        else if res = 4 then s2.viol 4 1 else s2
      if own then s3.roundFrame 3 else s3).settle

/-- DISSj: two named IDs to a word (R255, R259). -/
def State.putDiss (s : State) : Nat → List (BitVec 10) → State
  | _, [] => s
  | i, d :: t =>
    let k := flailB + 0x7C + 4 * (i / 2)
    let v := d.toNat + 0x8000
    (s.setW k (putBits (s.getW k) (16 * (i % 2)) 16 v)).putDiss (i + 1) t

/-- The reference that this node sends as master (R255). -/
def State.identRef (s : State) (g : Nat) : Nat :=
  if !s.bit flailB FLAIL.DGCFG_REF_SRC && s.inGroup g then s.digest
  else s.rd flailB FLAIL.DGREF_LO_REF + 2 ^ 32 * s.rd flailB FLAIL.DGREF_HI_REF

/-- The most rounds of a pass (R259). -/
def State.maxRounds (s : State) : Nat := let n := s.rd flailB FLAIL.DGCFG_MAXN; if n = 0 then 1024 else n

/-- The slots after the header of an IDENT frame in which `n` IDs are named, with the presence slot that follows the last (R255). -/
def identSlots (n : Nat) : Nat := 64 + 11 * n + 1

/-- An ID in its place in a rising list, once. -/
def insId : List (BitVec 10) → BitVec 10 → List (BitVec 10)
  | [], x => [x]
  | y :: t, x => if x < y then x :: y :: t else if x = y then y :: t else y :: insId t x

/-- The IDs that the rounds name, in that order (R255): a slot that one node sends as 0 reads 0, so that the lowest ID left wins a round,
and the nodes that share it are named at once. -/
def namedIds (l : List (BitVec 10)) : List (BitVec 10) := l.foldl insId []

/-- This node is a dissenter (R255). -/
def State.dissents (s : State) (g : Nat) (ref : Nat) : Bool := s.inGroup g && s.digest != ref

/-- The reference of an IDENT frame and the IDs that its rounds name (R255); the reference of an own frame is this node's.
(DEDUCED, log 63.) -/
def State.identNames (s : State) (g : Nat) (ref : BitVec 64) (ids : List (BitVec 10)) (own : Bool) : Nat × List (BitVec 10) :=
  let r := if own then s.identRef g else ref.toNat
  (r, namedIds (ids ++ if s.dissents g r then [BitVec.ofNat 10 (s.rd flailB FLAIL.CFG_NODE_ID)] else []))

/-- An IDENT frame of group PARAM ends (R255): the reference as read, the IDs of the dissenters among the other nodes in any order, and the
MAXN of its master, where that is another node. -/
def execIdent (h : FlStart) (ref : BitVec 64) (ids : List (BitVec 10)) (maxn : BitVec 10) (own coll : Bool) (s : State) :
    Host.Outcome State Fault Refusal :=
  .next (
    let g := frParam h
    let q := s.identNames g ref ids own
    let most := if own then s.maxRounds else if maxn = 0 then 1024 else maxn.toNat
    let named := q.2.take most
    if !s.frameIs h 3 own || (own && (s.flail.frame != 4 || g != s.flail.grp || !(coll || s.slotsOver (identSlots named.length)))) then s.settle
    else if coll then ((if own then s else (s.unmark .shut).dethrone).collide own).settle
    else
      let s0 := if own then s else (s.unmark .shut).dethrone
      let s1 := s0.wrB flailB FLAIL.DGRES_DISSENT (s.dissents g q.1)
      let s2 := (s1.wr flailB FLAIL.IDRES_NDISS named.length).wrB flailB FLAIL.IDRES_TRUNC (decide (most < q.2.length))
      let s3 := s2.each (List.range 8) fun j t => t.setW (flailB + 0x7C + 4 * j) 0
      let s4 := (s3.putDiss 0 (named.take 16)).irq flailB 19 110
      let s5 := named.foldl (fun t _ => (t.post 110 (some 0) none).settle) s4
      (if own then
        let s6 := { s5 with cmds := s5.cmds.map (fun (k : Cmd) => if k.op = opDigest ∧ k.phase = Phase.running then { k with aux := 1 } else k) }
        s6.roundFrame 4
      else s5).settle)

/-- A follower has seen no tick for `us` inside a frame that began with `h` (R256). -/
def execFrameAbandon (h : FlStart) (us : Nat) (s : State) : Host.Outcome State Fault Refusal :=
  .next (if s.role = rFOLLOWER ∧ s.decodes h ∧ 3 * s.slotT ≤ us then s.frameLost h else s).settle

/-- A DIGEST_ROUND is taken back at a boundary (R348): it goes on with the frame that is next, and its count of restarts. -/
def State.dgPause (s : State) (k : Cmd) : State × Nat :=
  (s.modFlail (fun h => { h with again := 0, restarts := 0 }),
    (if s.flail.again = 4 then 1 else k.prog % 2) + 2 * s.flail.restarts)

/-- A DIGEST_ROUND begins, or goes on: its next frame, 100 µs after the last alarm at the earliest (R256). -/
def State.dgGo (s : State) (k : Cmd) : State :=
  let f := if k.prog % 2 = 1 then 4 else 3
  let s1 := (s.runK (if k.prog = 0 then { k with aux := 0 } else k)).modFlail
    (fun h => { h with restarts := k.prog / 2, again := 0, grp := getBits k.a0 0 4 })
  if s.flail.frame = 0 ∧ (s1.past .alarm 100 ∨ k.prog = 0) then s1.setFrame f else s1.modFlail (fun h => { h with again := f })

/-- DIGEST_ROUND (R256); one that was taken back goes on (R348). -/
def execDigestRound (t : BitVec 8) (s : State) : Host.Outcome State Fault Refusal :=
  .next (s.start t opDigest fun k s =>
    if k.prog ≠ 0 then (if s.role = rMASTER then s.dgGo k else s.failK k 5)
    else if s.mode ≠ mRUN ∧ s.mode ≠ mSTANDBY ∧ s.mode ≠ mSERVICE then s.failK k 1
    else if s.role ≠ rMASTER then s.failK k 2
    else if s.lineBusy ∨ s.bit flailB FLAIL.MSTAT_AUTO then s.failK k 3
    else if k.a0.toNat / 32 ≠ 0 ∨ k.a1 ≠ 0 ∨ k.a2 ≠ 0 then s.failK k 4
    else s.dgGo k).settle

end Sys2Proof.Machine
end

