-- ==== Sys2Proof/Machine/Sequence.lean ====
section
/-! DEFINITION. The sequencer's rows (R219 to R236): actions, completions, timeouts, the floor, and its commands. -/

namespace Sys2Proof.Machine

open Sys2Proof

/-- A table's step is in progress: its delay, its wait, or its END. -/
def State.tableRuns (s : State) : Bool :=
  s.seqSt == qUP || s.seqSt == qDOWN || s.seqSt == qSBYIN || s.seqSt == qSBYOUT

/-- The condition of a COND step (R219). -/
def State.condHolds (s : State) (kind obj : Nat) : Bool :=
  if kind = 0 then s.supv 0x280 obj
  else if kind = 1 then s.supv offBELOW obj
  else if kind = 2 then (s.rd gpioB GPIO.STATUS_IN).testBit obj
  else if kind = 3 then !(s.rd gpioB GPIO.STATUS_IN).testBit obj
  else if kind = 4 then s.feedOn
  else s.pack

/-- The completion condition of a step of the running table (R219). -/
def State.stepHolds (s : State) (k : Nat) : Bool :=
  let op := s.stepOp s.seqTab k
  let obj := s.stepObj s.seqTab k
  if op = 1 then s.supv 0x280 obj
  else if op = 2 then s.supv offBELOW obj
  else if op = 4 then s.condHolds (s.rd (stepB s.seqTab k) SEQ.STEP_A_KIND) obj
  else if op = 6 then s.seq.hit
  else true

/-- The steps that a timeout concerns (R222). -/
def State.stepTimed (s : State) (k : Nat) : Bool :=
  let op := s.stepOp s.seqTab k
  op == 1 || op == 4 || op == 6

/-- A completed action goes into the unwind list (R227). -/
def State.taken (s : State) (gpio : Bool) (obj : Nat) (level : Bool) : State :=
  s.modSeq (fun h => { h with uw := ⟨s.seqTab, h.pc, gpio, obj, level⟩ :: h.uw })

/-- The action of the step in progress (R219, R221, R223). -/
def State.stepAct (s : State) (imon : List (Fin 56 × Nat)) : State :=
  let tab := s.seqTab
  let k := s.seq.pc
  let op := s.stepOp tab k
  let obj := s.stepObj tab k
  let b := stepB tab k
  let st := s.rd b SEQ.STEP_B_STATE
  let wait := (s.setPhase 1).mark .act
  if op = 1 then
    let s1 := (s.enable obj imon).mark (.seqEn obj)
    let s2 := if s1.outEn obj then s1.taken false obj true else s1
    if s.bit b SEQ.STEP_A_PAR ∧ s.seq.pends.length < 8 then ((s2.setPends (s.seq.pends ++ [k])).mark (.pend k)).seqNext
    else (s2.setPhase 1).mark .act
  else if op = 2 then (((s.seqOff obj (s.rd b SEQ.STEP_A_DISC)).mark (.seqEn obj)).setPhase 1).mark .act
  else if op = 3 then s.seqNext
  else if op = 4 then wait
  else if op = 5 then
    let l := s.bit b SEQ.STEP_A_LEVEL
    ((s.drivePin obj l).taken true obj l).seqNext
  else if op = 6 then
    if s.joins then wait.modSeq (fun h => { h with hit := s.flailSt == st })
    else (s.post 109 (some 0) none).seqNext
  else if op = 7 then
    if s.joins then (s.ready st).seqNext else (s.post 109 (some 0) none).seqNext
  else s.setPhase 3

/-- The delay of the step in progress has ended, and no action has been taken in this tick of the sequencer, of 10 µs
(R221). -/
def State.actDue (s : State) : Bool :=
  s.tableRuns && s.seqPhase == 0 && s.ran .delay (s.stepDelay s.seqTab s.seq.pc) && s.actFree

/-- The action of an unwinding that waited for its tick (R221, R227). -/
def State.unwindAct (s : State) : State := if s.seq.uw.isEmpty then s.hostClear else State.unwindNext s.seq.uw s

/-- A step's delay ends (R221), or an unwinding's action has its tick. -/
def execSeqStepAction (imon : List (Fin 56 × Nat)) (s : State) : Host.Outcome State Fault Refusal :=
  .next (if s.fe0Off then s.putOff (.seqStepAction imon)
    else if s.actDue then (s.mark .lastAct).stepAct imon
    else if s.seqSt = qUNWIND ∧ s.seqPhase = 0 ∧ s.actFree then s.unwindAct else s).settle

/-- SBY_IN is complete (R226, R234). -/
def State.sbyDone (s : State) : State :=
  let s1 := (s.runEnds.irq seqB 18 109).setSeqSt qIDLE
  if s1.seq.onSby ∧ s1.mode = mSTANDBY then s1.enterRising 3 s1.seq.onCause else s1

/-- The END of the running table completes (R226, R232). -/
def State.endRun (s : State) : State :=
  if s.seqSt = qDOWN then s.endDown
  else if s.seqSt = qSBYIN then s.sbyDone
  else s.ask .tableDone 0x0D

/-- The unwinding's output is below its threshold, or its second timeout is over: the next entry of the list. -/
def State.unwound (s : State) : State := State.unwindNext s.seq.uw.tail s

/-- A completion condition holds (R221, R223): of the pending step `p`, or of the step in progress. -/
def execSeqStepComplete (p : Option (Fin 64)) (s : State) : Host.Outcome State Fault Refusal :=
  .next (if s.fe0Off then s.putOff (.seqStepComplete p) else match p with
  | some k => if s.tableRuns && s.seq.pends.contains k.val && s.stepHolds k.val then s.setPends (s.seq.pends.erase k.val) else s
  | none =>
    if s.tableRuns then
      if s.seqPhase = 3 then (if s.seq.pends.isEmpty then s.endRun else s)
      else if s.seqPhase ≠ 0 ∧ s.stepHolds s.seq.pc then s.seqNext else s
    else if s.seqSt = qUNWIND ∧ s.seqPhase ≠ 0 then
      match s.seq.uw with
      | t :: _ => if s.supv offBELOW t.obj then s.unwound else s
      | [] => s
    else s).settle

/-- The timeout of the pending step `p`, or of the step in progress, has ended and its condition does not hold (R222, R223). -/
def State.timedOut (s : State) (p : Option (Fin 64)) : Bool :=
  match p with
  | some j => s.tableRuns && s.seq.pends.contains j.val && s.ran (.pend j) (s.stepTmo s.seqTab j) && !s.stepHolds j
  | none => s.tableRuns && s.seqPhase == 1 && s.stepTimed s.seq.pc && s.ran .act (s.stepTmo s.seqTab s.seq.pc) &&
      !s.stepHolds s.seq.pc

/-- A timeout is served (R225, R231). -/
def State.tmoNow (s : State) (p : Option (Fin 64)) : State :=
  let k := match p with | some j => j.val | none => s.seq.pc
  if s.timedOut p then
    if s.rises then s.runFail 1 s.seqTab k (s.stepObj s.seqTab k) 0x0E
    else
      let s1 := (s.setLast s.seqTab k 1 (s.stepObj s.seqTab k)).seqFail 0
      match p with
      | some j => s1.setPends (s1.seq.pends.erase j.val)
      | none => s1.seqNext
  else s

/-- A timeout: of the pending step `p`, or of the step in progress. It counts from the resume of an FE0 that was stopped
(R31). -/
def execSeqStepTimeout (p : Option (Fin 64)) (s : State) : Host.Outcome State Fault Refusal :=
  .next (if s.timedOut p ∧ s.fe0Off = false then s.ask (.stepTmo p) 0x0E else s).settle

/-! Slow outputs (R229, R232). -/

/-- The outputs still above their thresholds at the floor. -/
def State.aboves (s : State) : List Nat := (List.range 46).filter (fun x => x != 28 && !s.supv offBELOW x)

/-- The output of the OFF step in progress, in a table or an unwinding. -/
def State.offInHand (s : State) : Option Nat :=
  if s.seqSt = qUNWIND then (match s.seq.uw with | t :: _ => some t.obj | [] => none)
  else if s.tableRuns ∧ s.stepOp s.seqTab s.seq.pc = 2 then some (s.stepObj s.seqTab s.seq.pc)
  else none

/-- The timeout of the OFF step in hand (R222, R227). -/
def State.offTmo (s : State) (x : Nat) : Nat :=
  if s.seqSt = qUNWIND then s.downTmo x else s.stepTmo s.seqTab s.seq.pc

/-- An output is slow: DIS_FORCE and its record. -/
def State.slow (s : State) (x : Nat) : State := (s.disForce x).setLast s.seqTab (s.rd seqB SEQ.STATUS_STEP) 6 x

/-- An output is stuck: its bit and its record. -/
def State.stuckOut (s : State) (x : Nat) : State :=
  let k := seqB + 0x5C + 4 * (x / 32)
  ((s.setW k (putBits (s.getW k) (x % 32) 1 1)).setLast s.seqTab (s.rd seqB SEQ.STATUS_STEP) 7 x)

/-- The timeout of an OFF step (R229). -/
def execSlowOff (s : State) : Host.Outcome State Fault Refusal :=
  .next (match s.offInHand with
  | some x =>
    if s.seqPhase = 1 ∧ !s.fe0Off ∧ s.ran .act (s.offTmo x) ∧ !s.supv offBELOW x then
      (((s.slow x).seqFail 1).setPhase 2).mark .second
    else s
  | none => s).settle

/-- DEF_TMO after the DOWN END (R232). -/
def execFloorTimeout (s : State) : Host.Outcome State Fault Refusal :=
  .next (if s.seqSt = qFLOOR ∧ s.seqPhase = 1 ∧ !s.fe0Off ∧ s.ran .act s.defTmo ∧ !s.aboves.isEmpty then
      (((s.each s.aboves fun x t => t.slow x).seqFail 1).setPhase 2).mark .second
    else s).settle

/-- TMO2 has elapsed (R229, R232). -/
def execStuck (s : State) : Host.Outcome State Fault Refusal :=
  .next (if s.seqPhase ≠ 2 ∨ s.fe0Off ∨ !s.ran .second s.tmo2 then s
    else if s.seqSt = qFLOOR then
      let l := s.aboves
      ((s.each l fun x t => t.stuckOut x).iff (!l.isEmpty) (fun t => t.err seqB 2 109 (some 1) none)).ask .floor 0x16
    else match s.offInHand with
      | some x =>
        if s.supv offBELOW x then s
        else
          let s1 := (s.stuckOut x).err seqB 2 109 (some 1) none
          if s1.seqSt = qUNWIND then s1.unwound else s1.seqNext
      | none => s).settle

/-- Every output other than LDO0 is below its threshold (R232). -/
def execFloor (s : State) : Host.Outcome State Fault Refusal :=
  .next (if s.seqSt = qFLOOR ∧ s.aboves.isEmpty then s.ask .floor 0x16 else s).settle

/-- The minimum off time ends (R233). -/
def execMinoffEnd (s : State) : Host.Outcome State Fault Refusal :=
  .next (if s.seqSt = qMINOFF ∧ s.ran .minoff s.minoffUs then s.ask .minoff 0x17 else s).settle

/-! Commands (R236). -/

def noArgs (k : Cmd) : Bool := k.a0 == 0 && k.a1 == 0 && k.a2 == 0

/-- SEQ_UP. -/
def execSeqUp (t : BitVec 8) (s : State) : Host.Outcome State Fault Refusal :=
  .next (s.start t opSeqUp fun k s =>
    if s.mode = mWAKING ∨ s.mode = mHOLD ∨ mSAFE ≤ s.mode then s.failK k 1
    else if !noArgs k then s.failK k 2
    else if s.mode = mRUN ∨ s.mode = mSERVICE then s.doneK k 0
    else (s.runK { k with aux := s.tick }).ask .on 0x0A).settle

/-- SEQ_DOWN. -/
def execSeqDown (t : BitVec 8) (s : State) : Host.Outcome State Fault Refusal :=
  .next (s.start t opSeqDown fun k s =>
    if s.mode = mWAKING ∨ mSAFE ≤ s.mode then s.failK k 1
    else if !noArgs k then s.failK k 2
    else if s.mode = mHOLD then (s.doneK k 0).ask .off 0x0A
    else (s.runK { k with aux := s.tick }).ask .off 0x0A).settle

/-- The result of SEQ_STATE. -/
def State.seqResult (s : State) : Nat :=
  s.seqSt + s.rd seqB SEQ.STATUS_STEP * 0x10 + s.seqTab * 0x1000 + s.mode * 0x10000 + s.rd seqB SEQ.LAST_CAUSE * 0x100000 +
    s.rd devB DEV.STATUS_ON_HELD * 0x1000000

/-- SEQ_STATE: served by the CQE itself. -/
def execSeqState (t : BitVec 8) (s : State) : Host.Outcome State Fault Refusal :=
  .next (s.start t opSeqState fun k s => if noArgs k then s.doneK k s.seqResult else s.failK k 2).settle

/-- A word of the step window written (R220): the table that TABSEL names. `b`: word B. (DEDUCED, log 64.) -/
def State.stepWrite (s : State) (k : Nat) (b : Bool) (v : Word) : State :=
  let tab := s.rd seqB SEQ.TABSEL_TAB
  if s.tabRuns tab then s.err seqB 3 109 none none
  else if b then s.setW (stepB tab k + 4) v
  else if s.stepBad v then s.err seqB 4 109 none none
  else (s.setW (stepB tab k) (v &&& 0x3FFFF)).lenShow

end Sys2Proof.Machine
end

