-- ==== Sys2Proof/Machine/Telemetry.lean ====
section
/-! DEFINITION. The telemetry converters (R274 to R289): channels, the reference, tables, urgent conversions, accumulators,
trackers and system calibration. -/

namespace Sys2Proof.Machine

open Sys2Proof

def State.modAdc (s : State) (f : AdcHid → AdcHid) : State := { s with adc := f s.adc }
def State.modCal (s : State) (f : CalHid → CalHid) : State := s.modAdc (fun a => { a with cal := f a.cal })
def State.acc (s : State) (ch : Nat) : AccHid := (s.accs[ch]?).getD AccHid.reset
def State.modAcc (s : State) (ch : Nat) (f : AccHid → AccHid) : State := { s with accs := s.accs.setIfInBounds ch (f (s.acc ch)) }

/-! Channel configuration, behind the CHSEL window: kept with the reset words 1 and 0x8000 turned to 0. -/

def chanB (ch : Nat) : Nat := 0xE000 + 8 * ch
def State.chCfg (s : State) (ch : Nat) : Word := s.getW (chanB ch) ^^^ 1
def State.setChCfg (s : State) (ch : Nat) (v : Word) : State := s.setW (chanB ch) ((v &&& 0x10F) ^^^ 1)
def State.chCal (s : State) (ch : Nat) : Word := s.getW (chanB ch + 4) ^^^ 0x8000
def State.setChCal (s : State) (ch : Nat) (v : Word) : State := s.setW (chanB ch + 4) (v ^^^ 0x8000)

/-- The window of a channel in ms, 0 for the running accumulator itself (R282). -/
def State.chWin (s : State) (ch : Nat) : Nat := min 13 (getBits (s.chCfg ch) 0 4)

/-- The corrected code, and whether the clamp changed it (R276). `raw` is in 1/16 code. -/
def correct (cal : Word) (raw : Nat) : Nat × Bool :=
  let v := roundDiv ((raw : Int) * (getBits cal 0 16 : Nat) + signOf 16 (getBits cal 16 16) * 32768) 524288
  ((clampI 0 16383 v).toNat, decide (clampI 0 16383 v ≠ v))

/-! The tables. -/

def convCfg (v : Nat) : Nat := adcB + 0x48 + 4 * v
def convStat (v : Nat) : Nat := adcB + 0x50 + 4 * v
/-- Word `w` of a converter's table, kept behind the window (R290). -/
def adcTab (v w : Nat) : Nat := 0xE800 + 0x100 * v + 4 * w
def State.adcEntry (s : State) (v k : Nat) : Nat := getBits (s.getW (adcTab v (k / 2))) (16 * (k % 2)) 16
def State.convOn (s : State) (v : Nat) : Bool := s.bit (convCfg v) ADC.CONV_CFG_EN
def State.convLen (s : State) (v : Nat) : Nat := clampN 1 128 (s.rd (convCfg v) ADC.CONV_CFG_LEN)

/-- How long an entry takes, in 250 ns (R279). -/
def State.entryT (s : State) (v k : Nat) : Nat := 1 + s.adcEntry v k / 256 % 8

/-- The 250 ns in which the tick of now lies, its last one. -/
def State.quarter (s : State) : Nat := 4 * s.tick + 3

/-- When the entry in progress of a converter ends and when its pass began, in 250 ns (R279). -/
def State.convAt (s : State) (v : Nat) : Nat × Nat := if v = 0 then s.adc.conv0 else s.adc.conv1
def State.setConvAt (s : State) (v : Nat) (p : Nat × Nat) : State :=
  s.modAdc (fun a => if v = 0 then { a with conv0 := p } else { a with conv1 := p })

/-- STATUS.RUN0 and RUN1; a converter that starts begins its pass. -/
def State.setConv (s : State) (v : Nat) (b : Bool) : State :=
  ((((s.setConvAt v (if b then (4 * s.tick + s.entryT v 0, 4 * s.tick) else (0, 0))).wrB (convCfg v) ADC.CONV_CFG_EN b).wrB adcB (if v = 0 then ADC.STATUS_RUN0 else ADC.STATUS_RUN1) b).wr (convStat v)
    ADC.CONV_STAT_ENTRY (if b then 0 else s.rd (convStat v) ADC.CONV_STAT_ENTRY))

/-- Is a channel in a converter's table? -/
def State.inTable (s : State) (v ch : Nat) : Bool := (List.range (s.convLen v)).any (fun k => s.adcEntry v k % 256 == ch)

/-- An entry that may be stored (R280). -/
def entryOk (e : Nat) : Bool := decide (e % 256 ≤ 191) && decide (e / 2048 = 0)

/-- A word of the table window written (R280). -/
def State.adcTabWrite (s : State) (w : Nat) (v : Word) : State :=
  let cv := s.rd adcB ADC.TABSEL_CONV
  if s.convOn cv then s.err adcB 1 108 none none
  else
    let k := adcTab cv w
    let lo := getBits v 0 16
    let hi := getBits v 16 16
    let s1 := if entryOk lo then s.setW k (putBits (s.getW k) 0 16 lo) else s
    let s2 := if entryOk hi then s1.setW k (putBits (s1.getW k) 16 16 hi) else s1
    if entryOk lo && entryOk hi then s2 else s2.err adcB 2 108 none none

/-! The reference (R278). -/

def State.urgOf (s : State) (v : Nat) : Option (Nat × Bool × Nat) := if v = 0 then s.adc.urg0 else s.adc.urg1
def State.setUrg (s : State) (v : Nat) (u : Option (Nat × Bool × Nat)) : State :=
  s.modAdc (fun a => if v = 0 then { a with urg0 := u } else { a with urg1 := u })

/-- A pending urgent request ends REFUSED. -/
def State.urgRefuse (s : State) (v : Nat) : State :=
  if (s.urgOf v).isSome then ((s.setUrg v none).wr adcB ADC.URG_RES_STAT 3).err adcB 0 108 none none else s

/-- REF_EN set: the warm-up starts. A reference supply out of window holds it at 0. -/
def State.refOn (s : State) : State :=
  if s.bit adcB ADC.CTRL_REF_EN ∨ s.supOut.testBit 3 then s
  else ((s.wr adcB ADC.CTRL_REF_EN 1).wr adcB ADC.REFSTAT_LEFT 200).mark .ref

/-- REF_EN cleared. -/
def State.refOff (s : State) : State :=
  let s1 := (((s.wr adcB ADC.CTRL_REF_EN 0).wr adcB ADC.STATUS_REF_READY 0).wr adcB ADC.REFSTAT_LEFT 0).unmark .ref
  (((s1.setConv 0 false).setConv 1 false).urgRefuse 0).urgRefuse 1

/-- CONVn_CFG.EN written. -/
def State.setConvEn (s : State) (v : Nat) (b : Bool) : State :=
  if !b then s.setConv v false
  else if s.bit adcB ADC.STATUS_REF_READY then (if s.convOn v then s else s.setConv v true)
  else s.err adcB 0 108 none none

/-- The warm-up ends, 2 ms after REF_EN rose. -/
def execRefReady (s : State) : Host.Outcome State Fault Refusal :=
  .next (if s.bit adcB ADC.CTRL_REF_EN ∧ !s.bit adcB ADC.STATUS_REF_READY ∧ s.ran .ref 2000 then
      let s1 := (s.wr adcB ADC.STATUS_REF_READY 1).wr adcB ADC.REFSTAT_LEFT 0
      if s1.adc.auto then ((s1.setConvEn 0 true).setConvEn 1 true).modAdc (fun a => { a with auto := false }) else s1
    else s).settle

/-! Accumulators and trackers. -/

/-- The page and index of a channel's accumulator. -/
def accPg (ch : Nat) : Nat := accB (ch / 96)
def accIx (ch : Nat) : Nat := ch % 96

/-- The result set of a channel. -/
def State.setResult (s : State) (ch sum cnt : Nat) : State :=
  let k := accPg ch + 0x80 + 8 * accIx ch
  (s.setW k (BitVec.ofNat 32 sum)).setW (k + 4) (BitVec.ofNat 32 (sum / 2 ^ 32 % 256 + cnt * 256))
def State.resSum (s : State) (ch : Nat) : Nat :=
  let k := accPg ch + 0x80 + 8 * accIx ch
  (s.getW k).toNat + getBits (s.getW (k + 4)) 0 8 * 2 ^ 32
def State.resCnt (s : State) (ch : Nat) : Nat := getBits (s.getW (accPg ch + 0x84 + 8 * accIx ch)) 8 24

/-- A channel's SAT bit, and ANY_SAT. -/
def State.setSat (s : State) (ch : Nat) (b : Bool) : State :=
  let k := accPg ch + 0x4C + 4 * (accIx ch / 32)
  let s1 := s.setW k (putBits (s.getW k) (accIx ch % 32) 1 (if b then 1 else 0))
  s1.wrB (accPg ch) ACC.STATUS_ANY_SAT (s1.words 3 (fun i => accPg ch + 0x4C + 4 * i) != [0, 0, 0])

/-- FE4's check of the result of a reference that stands in a table (R277). -/
def State.selfCheck (s : State) (ch sum cnt : Nat) : State :=
  if (ch = 158 ∨ ch = 159) ∧ (s.inTable 0 ch ∨ s.inTable 1 ch) ∧ cnt ≠ 0 ∧ s.chWin ch = 1 ∧ !s.stopped 4 then
    let exp := if ch = 158 then 0 else 14400
    let bad := decide ((sum : Int) - exp * cnt > 16 * cnt ∨ (exp * cnt : Int) - sum > 16 * cnt)
    let n := if bad then (if ch = 158 then s.adc.chk0 else s.adc.chk1) + 1 else 0
    let s1 := s.modAdc (fun a => if ch = 158 then { a with chk0 := n % 3 } else { a with chk1 := n % 3 })
    if n = 3 then s1.err adcB 5 108 (some 1) none else s1
  else s

/-- The boundary of a channel's window (R282), once in each tick that is a whole multiple of it: whatever else the tick brings the channel
comes after (R282, R285, R289). -/
def State.accSync (s : State) (ch : Nat) : State :=
  let w := s.chWin ch
  let a := s.acc ch
  if w = 0 ∨ s.tick % (1000 * 2 ^ (w - 1)) ≠ 0 ∨ a.bnd = s.tick + 1 then s
  else ((s.setResult ch a.sum a.cnt).modAcc ch (fun h => { h with sum := 0, cnt := 0, bnd := s.tick + 1 })).selfCheck ch a.sum a.cnt

/-- What the tick has brought a channel, with one more sample. -/
def accNew (tick code : Nat) (h : AccHid) : AccHid :=
  let h1 := if h.upd = tick + 1 then h else { h with upd := tick + 1, nsum := 0, ncnt := 0, nmn := 0x3FFF, nmx := 0 }
  { h1 with nsum := h1.nsum + code, ncnt := h1.ncnt + 1, nmn := min h1.nmn code, nmx := max h1.nmx code }

/-- A corrected sample enters its accumulator and tracker (R282, R284, R286). -/
def State.accumulate (s0 : State) (ch code : Nat) : State :=
  let s := s0.accSync ch
  let a := s.acc ch
  let full := decide (0xFFFFFF ≤ a.cnt)
  let cnt := if full then a.cnt else a.cnt + 1
  let sum := if full then a.sum else a.sum + code
  let s1 := s.modAcc ch (fun h => { accNew s.tick code h with
    cnt := cnt, sum := sum, mn := min h.mn code, mx := max h.mx code, empty := false })
  let s2 := if s.chWin ch = 0 then s1.setResult ch sum cnt else s1
  if !full ∧ cnt = 0xFFFFFF then (s2.setSat ch true).err (accPg ch) 0 108 (some 0) none else s2

/-- A sample: its corrected code is kept, a clamped one told. -/
def State.sampleCode (s : State) (ch raw : Nat) : Nat × State :=
  let r := correct (s.chCal ch) raw
  let s1 := s.setChan ch r.1
  (r.1, if r.2 then s1.err adcB 4 108 none none else s1)

/-- A raw sample of the channel under calibration (R287). -/
def State.calSample (s : State) (ch raw : Nat) : State :=
  if s.adc.cal.act ∧ s.adc.cal.ch = ch ∧ s.adc.cal.n < 2 ^ s.adc.cal.ns then
    s.modCal (fun h => { h with sum := h.sum + raw, n := h.n + 1 })
  else s

/-- The next entry of a converter begins when the one before ends, the first of a pass no earlier than PER after the last pass began
(R279). -/
def State.nextEntry (s : State) (v k : Nat) : State :=
  let c := s.convAt v
  let start := if k = 0 then max c.1 (c.2 + 4 * s.rd (convCfg v) ADC.CONV_CFG_PER) else c.1
  (s.setConvAt v (start + s.entryT v k, if k = 0 then start else c.2)).wr (convStat v) ADC.CONV_STAT_ENTRY k

/-- The entry in progress of converter `v` is converted (R279); `raw` is its result in 1/16 code. An urgent request abandons it (R281). -/
def execConversion (v : Fin 2) (raw : BitVec 18) (s : State) : Host.Outcome State Fault Refusal :=
  .next (if s.convOn v ∧ s.bit adcB ADC.STATUS_REF_READY ∧ s.urgOf v = none ∧ (s.convAt v).1 ≤ s.quarter then
      let k := s.rd (convStat v) ADC.CONV_STAT_ENTRY
      let ch := s.adcEntry v k % 256
      let r := (s.calSample ch raw.toNat).sampleCode ch raw.toNat
      let s1 := r.2.accumulate ch r.1
      if k + 1 < s.convLen v then s1.nextEntry v (k + 1)
      else (s1.nextEntry v 0).count (convStat v) ADC.CONV_STAT_PASSES ADC.CONV_STAT_SAT adcB 6 108
    else s).settle

/-- A channel's window boundary (R282). -/
def execAccWindowBoundary (ch : Fin 192) (s : State) : Host.Outcome State Fault Refusal :=
  .next (if s.up then s.accSync ch else s).settle

/-- ACLR (R285): a sample of this tick is counted after the clear. -/
def State.aclr1 (s0 : State) (ch : Nat) : State :=
  let s := s0.accSync ch
  let a := s.acc ch
  let sum := if a.upd = s.tick + 1 then a.nsum else 0
  let cnt := if a.upd = s.tick + 1 then a.ncnt else 0
  let s1 := s.modAcc ch (fun h => { h with sum := sum, cnt := cnt })
  if s.chWin ch = 0 then s1.setResult ch sum cnt else s1
/-- TCLR (R286): a sample of this tick is tracked after the clear. -/
def State.tclr1 (s : State) (ch : Nat) : State :=
  s.modAcc ch (fun h => if h.upd = s.tick + 1 then { h with mn := h.nmn, mx := h.nmx, empty := false }
    else { h with mn := 0x3FFF, mx := 0, empty := true })

/-- The channels that a write to ACLR or TCLR of instance `i` names. -/
def clrChans (i : Nat) (v : Word) : List Nat :=
  if getBits v 8 1 = 1 then (List.range 96).map (· + 96 * i)
  else if getBits v 0 7 < 96 then [96 * i + getBits v 0 7] else []

/-- A write of 1 to SAT bits also clears the running accumulators (R284). -/
def State.satClear (s : State) (i k : Nat) (v : Word) : State :=
  s.each ((onesFrom v (32 * k)).filter (· < 96)) fun j t =>
    let ch := 96 * i + j
    if (t.getW (accB i + 0x4C + 4 * k)).toNat.testBit (j % 32) then ((t.setSat ch false).aclr1 ch) else t

/-- A tracker as TRKj shows it. -/
def State.trkWord (s : State) (ch : Nat) : Word :=
  let a := s.acc ch
  BitVec.ofNat 32 (a.mn + a.mx * 0x10000 + (if a.empty then 0x80000000 else 0))

/-! Urgent conversions (R281). -/

/-- A write of ADC.URG by context `c`. -/
def State.adcUrg (s : State) (c : Nat) (v : Word) : State :=
  let granted := match s.grantOf 7 with | some g => decide (g.who = c ∧ g.org = .direct) | none => false
  let ch := getBits v 0 8
  let cv := getBits v 8 1
  if !granted then s.err adcB 3 108 none none
  else if !s.bit adcB ADC.STATUS_REF_READY then (s.wr adcB ADC.URG_RES_STAT 3).err adcB 0 108 none none
  else if (s.urgOf cv).isSome then s.wr adcB ADC.URG_RES_STAT 3
  else (s.setUrg cv (some (ch, getBits v 9 1 == 1, 4 * s.tick + 2 + getBits v 10 3))).wr adcB ADC.URG_RES_STAT 2

/-- The entry that an urgent conversion displaced begins again after it (R281). -/
def State.entryAgain (s : State) (v q : Nat) : State :=
  if s.convOn v then
    let c := s.convAt v
    s.setConvAt v (max c.1 (q + s.entryT v (s.rd (convStat v) ADC.CONV_STAT_ENTRY)), c.2)
  else s

/-- The urgent conversion of converter `v` completes: it began at the next 250 ns boundary. -/
def execUrgDone (v : Fin 2) (raw : BitVec 18) (s : State) : Host.Outcome State Fault Refusal :=
  .next (match s.urgOf v with
    | none => s
    | some u => if s.quarter < u.2.2 then s else
      let r := ((s.setUrg v none).entryAgain v u.2.2).sampleCode u.1 raw.toNat
      let s1 := ((r.2.wr adcB ADC.URG_RES_CODE r.1).wr adcB ADC.URG_RES_CH u.1).wr adcB ADC.URG_RES_STAT 1
      (if u.2.1 then s1.accumulate u.1 r.1 else s1).irq adcB 16 108).settle

/-! System calibration (R287). -/

abbrev opAdcCal : Nat := 0x0B

/-- The points are dropped. -/
def State.calDrop (s : State) : State := (s.modCal (fun _ => CalHid.reset)).wr adcB ADC.STATUS_CAL_HELD 0
/-- A failed step discards the points; NOREF is told (R278). -/
def State.calFail (s : State) (k : Cmd) (cause : Nat) : State :=
  (if cause = 5 then s.calDrop.err adcB 0 108 none none else s.calDrop).failK k cause

/-- Where a channel's stored calibration lies in NVM. (DEDUCED, log 53.) -/
def calAt (ch : Nat) : Nat := 0x3E4000 + 8 * ch

/-- The channel's pair in the calibration region, if one is stored (R288). (DEDUCED, log 53.) -/
def State.calLoad (s : State) (ch : Nat) : State :=
  if s.nvmByte (calAt ch + 4) = 1 then s.setChCal ch (s.nvmWord (calAt ch)) |>.setChCfg ch (s.chCfg ch ||| 0x100) else s

/-- Every channel's stored pair. -/
def State.calLoads (s : State) : State := s.each (List.range 192) fun ch t => t.calLoad ch

/-- What FE4 does in WAKING once its firmware runs (R274): the reference, and each channel's calibration, which is the stored pair, or
GAIN 0x8000 and OFFSET 0 whatever a host wrote before (R288). -/
def State.adcWake (s : State) : State :=
  if s.stopped 4 then s
  else (s.refOn.each (List.range 192) fun ch t => (t.setChCal ch 0x8000).setChCfg ch (t.chCfg ch &&& 0xF)).calLoads

def calStep (k : Cmd) : Nat := getBits k.a0 8 2
def calChan (k : Cmd) : Nat := getBits k.a0 0 8

/-- The refusals that every step shares; `ord` is the step's own order check. (DEDUCED, log 15.) -/
def State.calRefusal (s : State) (k : Cmd) (ord : Bool) (point : Bool) : Option Nat :=
  let ns := getBits k.a2 0 4
  if s.mode ≠ mSERVICE then some 1
  else if 192 ≤ calChan k ∨ 0x4000 ≤ k.a1.toNat then some 2
  else if ord then some 3
  else if point && !((s.convOn 0 && s.inTable 0 (calChan k)) || (s.convOn 1 && s.inTable 1 (calChan k))) then some 4
  else if !s.bit adcB ADC.STATUS_REF_READY then some 5
  else if k.a0.toNat / 0x400 ≠ 0 ∨ k.a2.toNat / 16 ≠ 0 ∨ ns < 4 ∨ 12 < ns then some 8
  else none

/-- A step's row: the waiting ADC_CAL of this tag that asks for step `st`. (DEDUCED, log 53.) -/
def State.calStart (s : State) (t : BitVec 8) (st : Nat) (f : Cmd → State → State) : State :=
  s.start t opAdcCal fun k u => if calStep k = st then f k u else u

/-- ZERO. -/
def execAdcCalZero (t : BitVec 8) (s : State) : Host.Outcome State Fault Refusal :=
  .next (s.calStart t 0 fun k s =>
    match s.calRefusal k false true with
    | some c => s.calFail k c
    | none => (((s.runK k).mark .cal).wr adcB ADC.STATUS_CAL_HELD 0).modCal (fun _ => { CalHid.reset with
        ch := calChan k, act := true, ns := getBits k.a2 0 4, e := getBits k.a1 0 14 })).settle

/-- FULL. -/
def execAdcCalFull (t : BitVec 8) (s : State) : Host.Outcome State Fault Refusal :=
  .next (s.calStart t 1 fun k s =>
    match s.calRefusal k (s.adc.cal.zero.isNone || s.adc.cal.ch != calChan k) true with
    | some c => s.calFail k c
    | none => ((s.runK k).mark .cal).modCal (fun h => { h with
        act := true, full := true, pair := none, ns := getBits k.a2 0 4, e := getBits k.a1 0 14, sum := 0, n := 0 })).settle

/-- GAIN and OFFSET from the two points, or none outside the limits of SPAN. -/
def calPair (zero full : Nat × Nat × Nat) : Option (Nat × Int) :=
  let den : Int := (full.1 : Int) * 2 ^ zero.2.1 - zero.1 * 2 ^ full.2.1
  let span : Int := (full.2.2 : Int) - zero.2.2
  if span < 4096 ∨ den ≤ 0 then none
  else
    let g := roundDiv (32768 * span * 16 * 2 ^ (zero.2.1 + full.2.1)) den.toNat
    let o := roundDiv (16 * (zero.2.2 : Int) * 2 ^ zero.2.1 * 32768 - zero.1 * g) (2 ^ zero.2.1 * 32768)
    if g < 29491 ∨ 36045 < g ∨ o < -16384 ∨ 16384 < o then none else some (g.toNat, o)

/-- The samples of a point are collected (R287). -/
def execAdcCalPointDone (s : State) : Host.Outcome State Fault Refusal :=
  .next (
    let h := s.adc.cal
    match s.runningCmd opAdcCal with
    | none => s
    | some k =>
      if !h.act ∨ h.n < 2 ^ h.ns ∨ s.cmdStopped k then s
      else if !h.full then
        ((s.modCal (fun g => { g with act := false, zero := some (h.sum, h.ns, h.e) })).wr adcB ADC.STATUS_CAL_HELD 1).doneK k 0
      else match calPair (h.zero.getD (0, 0, 0)) (h.sum, h.ns, h.e) with
        | none => s.calFail k 6
        | some p => (s.modCal (fun g => { g with act := false, pair := some p })).doneK k (p.1 + codeOf 16 p.2 * 0x10000)).settle

/-- The samples are not collected within 1 s. -/
def execAdcCalTimeout (s : State) : Host.Outcome State Fault Refusal :=
  .next (match s.runningCmd opAdcCal with
    | none => s
    | some k => if s.ran .cal 1000000 ∧ s.cmdStopped k = false then s.calFail k 7 else s).settle

/-- COMMIT: CHCAL and the calibration region. While the NVM supply is out its write is refused (R156). (DESIGN CHOICE, log 14.) -/
def execAdcCalCommit (t : BitVec 8) (s : State) : Host.Outcome State Fault Refusal :=
  .next (s.calStart t 2 fun k s =>
    match s.calRefusal k (s.adc.cal.pair.isNone || s.adc.cal.ch != calChan k) false, s.adc.cal.pair with
    | some c, _ => s.calFail k c
    | none, none => s.calFail k 3
    | none, some p => if s.supOut.testBit 4 then s.calDrop.failFree k else
      let ch := calChan k
      let w := BitVec.ofNat 32 (p.1 + codeOf 16 p.2 * 0x10000)
      let s1 := (s.setChCal ch w).setChCfg ch (s.chCfg ch ||| 0x100)
      ((s1.nvmPut (calAt ch) (leBytes 4 w.toNat ++ leBytes 4 1)).calDrop).doneK k 0).settle

/-- DISCARD. Without the reference it fails as every ADC_CAL does (R278). -/
def execAdcCalDiscard (t : BitVec 8) (s : State) : Host.Outcome State Fault Refusal :=
  .next (s.calStart t 3 fun k s =>
    if s.mode ≠ mSERVICE then s.calFail k 1 else if 192 ≤ calChan k ∨ 0x4000 ≤ k.a1.toNat then s.calFail k 2
    else if !s.bit adcB ADC.STATUS_REF_READY then s.calFail k 5
    else if k.a0.toNat / 0x400 ≠ 0 ∨ k.a2.toNat / 16 ≠ 0 ∨ getBits k.a2 0 4 < 4 ∨ 12 < getBits k.a2 0 4 then s.calFail k 8
    else s.calDrop.doneK k 0).settle

end Sys2Proof.Machine
end

