-- ==== Sys2Proof/Machine/Thermal.lean ====
section
/-! DEFINITION. The thermal model (R292 to R306). Temperatures are held in steps of 2 to the power −16 °C, the poles in steps of 2 to the
power −40 °C, powers in µW. -/

namespace Sys2Proof.Machine

open Sys2Proof

def State.nodeH (s : State) (k : Nat) : NodeHid := (s.nodes[k]?).getD NodeHid.reset
def State.modNode (s : State) (k : Nat) (f : NodeHid → NodeHid) : State := { s with nodes := s.nodes.setIfInBounds k (f (s.nodeH k)) }
def State.modThm (s : State) (f : ThmHid → ThmHid) : State := { s with thm := f s.thm }
def State.nodeOn (s : State) (k : Nat) : Bool := k == 0 || s.bit (node k) THM.NODE_CFG_EN
def State.level (s : State) (k : Nat) : Nat := s.rd (node k) THM.NODE_T_LEVEL
/-- The action of level `l` of a node is enabled. -/
def State.lvlOn (s : State) (k l : Nat) : Bool := (s.rd (node k) THM.NODE_LIM_LVL_EN).testBit (l - 1)

/-! Measured values (R275). -/

/-- The step of a channel, in µV or µA, and the code of its zero. -/
def chScale (ch : Nat) : Nat × Nat :=
  if ch < 56 then (125, 0) else if ch < 68 then (250, 0) else if ch < 84 then (500, 0)
  else if ch < 100 then (1000, 8192) else if ch < 110 then (250, 0) else if ch < 120 then (50, 0)
  else if ch < 128 then (1000, 8192) else if ch < 136 then (1000, 0) else if ch = 136 then (2000, 0)
  else if ch < 141 then (5000, 0) else if ch = 141 then (10, 8192) else if ch = 142 then (2000, 0)
  else if ch = 143 then (125, 0) else if ch = 144 then (250, 0) else if ch < 153 then (15625, 4096)
  else if ch < 158 then (250, 0) else (125, 0)

/-- The mean of a channel's result set in µV, µA or µ°C. -/
def State.chMean (s : State) (ch : Nat) : Int :=
  let c := s.resCnt ch
  ((s.resSum ch : Int) - (chScale ch).2 * c) * (chScale ch).1 / (max 1 c : Nat)

/-- A current in µA: an IMON channel through its phase's sampler settings (R103). -/
def State.chCurrent (s : State) (ch : Nat) : Int :=
  if ch < 56 then
    let gain : Nat := orIf0 (s.rd (ph ch) PHX.IMCFG_GAIN) 1
    (s.chMean ch * 1000 - 5000000 * s.rd (ph ch) PHX.IMCFG_OFS) * 20 / (gain : Int)
  else s.chMean ch

/-! Terms (R295). -/

def termB (j : Nat) : Nat := thmB + 0x280 + 8 * j
def State.termType (s : State) (j : Nat) : Nat := s.rd (termB j) THM.TERM_A_TYPE
def State.termNode (s : State) (j : Nat) : Nat := s.rd (termB j) THM.TERM_A_NODE
/-- The channels of a LOSS term. -/
def State.termChans (s : State) (j : Nat) : List Nat :=
  ((List.range (s.rd (termB j) THM.TERM_B_N + 1)).map (· + s.rd (termB j) THM.TERM_A_CH_I)).filter (· < 192)

/-- The power of a term, or none where a result set holds no sample. -/
def State.termPower (s : State) (j : Nat) : Option Int :=
  let b := termB j
  if s.termType j = 1 then
    let cs := s.termChans j
    if cs.any (fun c => s.resCnt c == 0) then none
    else some (cs.foldl (fun a c =>
      let i := s.chCurrent c
      a + 10000 * s.rd b THM.TERM_B_P0 + s.rd b THM.TERM_B_K1 * i.natAbs / 1000 + s.rd b THM.TERM_B_K2 * i * i / 100000000000) 0)
  else if s.termType j = 2 then
    let i := s.rd b THM.TERM_A_CH_I
    let v := s.rd b THM.TERM_A_CH_V
    let w := s.rd b THM.TERM_A_CH_V2
    if [i, v, w].any (fun c => s.resCnt c == 0) then none
    else some (max 0 ((s.chMean v - s.chMean w) * s.chCurrent i / 1000000))
  else some 0

/-- The channels whose result sets a node's term reads and that hold no sample. -/
def State.staleChans (s : State) : List Nat :=
  let used := (List.range 32).filter (fun j => decide (s.termNode j < 24))
  let reads := fun j => if s.termType j = 1 then s.termChans j
    else if s.termType j = 2 then [s.rd (termB j) THM.TERM_A_CH_I, s.rd (termB j) THM.TERM_A_CH_V, s.rd (termB j) THM.TERM_A_CH_V2] else []
  (List.range 192).filter (fun c => s.resCnt c == 0 && used.any (fun j => (reads j).contains c))

/-- The powers are read (R292); a term without a sample keeps its value, told once per episode of a result set. -/
def State.readPowers (s : State) : State :=
  let stale := s.staleChans
  let s1 := s.each (List.range 32) fun j t => match t.termPower j with
    | some p => t.modThm (fun h => { h with terms := h.terms.setIfInBounds j p })
    | none => t
  let s2 := s1.modThm (fun h => { h with stale := stale })
  if stale.any (fun c => !s.thm.stale.contains c) then s2.err thmB 3 107 none none else s2

/-- The power of a node's own terms. -/
def State.ownPower (s : State) (k : Nat) : Int :=
  (List.range 32).foldl (fun a j => if s.termNode j = k then a + (s.thm.terms[j]?).getD 0 else a) 0

/-- P of a node (R295); node 0 is the die (R298). -/
def State.nodePower (s : State) (k : Nat) : Int :=
  if k = 0 then
    10000 * s.rd thmB THM.DIE_P0 + s.ownPower 0 +
      (List.range 24).foldl (fun a i => if i ≠ 0 ∧ s.bit (node i) THM.NODE_CFG_IN_DIE then a + s.ownPower i else a) 0
  else s.ownPower k

/-! Anchors (R296). -/

/-- A temperature in 2^−16 °C from µ°C. -/
def fromMicro (v : Int) : Int := v * 65536 / 1000000

/-- A channel's result is usable: it holds a sample, and its code is neither end. -/
def State.codeOk (s : State) (ch : Nat) : Bool :=
  s.resCnt ch != 0 && s.resSum ch / max 1 (s.resCnt ch) != 0 && s.resSum ch / max 1 (s.resCnt ch) != 16383

/-- The anchor's temperature, if it is valid. -/
def State.anchor (s : State) (k : Nat) : Option Int :=
  let ch := s.rd (node k) THM.NODE_CFG_ANC_CH
  let src := s.rd (node k) THM.NODE_CFG_ANC_SRC
  let t : Option Int :=
    if src = 1 then (if s.codeOk ch then some (fromMicro (s.chMean ch)) else none)
    else if src = 2 ∨ src = 3 then
      let a := thmB + 0x394 + 4 * (src - 2)
      let v0 := getBits (s.getW a) 0 12
      let gain : Nat := orIf0 (getBits (s.getW a) 16 12) 1
      if s.codeOk ch then some ((s.chMean ch - 500 * v0) * 65536 / ((10 * gain : Nat) : Int)) else none
    else if src = 4 then (if s.tick < (s.nodeH k).hostEnd then some (s.nodeH k).hostT else none)
    else if src = 5 then
      ((List.range 8).filter (fun i => s.codeOk (145 + i))).foldl (fun b i =>
        let v := fromMicro (s.chMean (145 + i))
        match b with | none => some v | some w => some (max v w)) none
    else none
  match t with
  | some v => if v < -50 * 65536 ∨ 200 * 65536 < v then none else some v
  | none => none

/-! The node equation (R294). -/

/-- 1 − exp(−1 ms / τ) with 40 fraction bits, by its series; τ in ms. (DESIGN CHOICE, log 54.) -/
def decaySeries : Nat → Nat → Int → Nat → Int
  | 0, _, _, _ => 0
  | fuel + 1, tau, term, n => term + decaySeries fuel tau (-(term / ((tau * (n + 1) : Nat) : Int))) (n + 1)

/-- (DESIGN CHOICE, log 54.) -/
def decay (tau : Nat) : Int := if tau = 0 then 0 else decaySeries 24 tau (1099511627776 / (tau : Int)) 1

/-- One pole, in 2^−40 °C, so that a slow one comes as near to its end as the resolution asks: `code` is its TAU field, `r` its resistance in 0.01 K/W, `p` the power in µW. (DESIGN CHOICE, log 54.) -/
def pole (th : Int) (code r : Nat) (p : Int) : Int :=
  let tau := code % 64 * 2 ^ (code / 64)
  if tau = 0 then 0 else th + decay tau * (p * r * 1099511627776 / 100000000 - th) / 1099511627776

/-- T_ref. -/
def State.nodeRef (s : State) (k : Nat) : Int :=
  if s.rd (node k) THM.NODE_CFG_REF_SRC = 1 then (((s.nodeH (s.rd (node k) THM.NODE_CFG_REF_NODE)).hist.head?).getD 0)
  else s.rdI thmB THM.CFG_TREF * 65536

/-- The judged temperature is kept, for the rate and for the levels. -/
def State.keepT (s : State) (k : Nat) (t : Int) : State :=
  (s.modNode k (fun h => { h with hist := (t :: h.hist).take 101, seen := min 3 (h.seen + 1) })).wrI (node k) THM.NODE_T_T (clampI (-32768) 32767 (t / 1024))

/-- One node of an update (R294, R297). (DESIGN CHOICE, log 54.) -/
def State.thermNode (s : State) (k : Nat) : State :=
  if !s.nodeOn k then s
  else
    let h := s.nodeH k
    let p := s.nodePower k
    let b := node k
    let a1 := pole h.th1 (s.rd b THM.NODE_TAU_TAU1) (s.rd b THM.NODE_R_R1) p
    let a2 := pole h.th2 (s.rd b THM.NODE_TAU_TAU2) (s.rd b THM.NODE_R_R2) p
    let a3 := pole h.th3 (s.rd b THM.NODE_TAU_TAU3) (s.rd b THM.NODE_R_R3) p
    let model := s.nodeRef k + (a1 + a2 + a3) / 16777216 + h.corr
    let s1 := (s.modNode k (fun g => { g with th1 := a1, th2 := a2, th3 := a3 })).wr b THM.NODE_T_P (min 2047 (p.toNat / 50000))
    match s.anchor k with
    | some m =>
      let s2 := (s1.modNode k (fun g => { g with
        corr := h.corr + (s.rd thmB THM.CFG_KA : Int) * (m - model) / 256, ancTold := false })).wr b THM.NODE_T_ANC_OK 1
      s2.keepT k (max model m)
    | none =>
      let s2 := (s1.keepT k model).wr b THM.NODE_T_ANC_OK 0
      let src := s.rd b THM.NODE_CFG_ANC_SRC
      if src = 0 ∨ 6 ≤ src ∨ h.ancTold then s2
      else (s2.modNode k (fun g => { g with ancTold := true })).err thmB 2 107 (some 0) none

/-- The node that a node refers to (R294). -/
def State.refOf (s : State) (k : Nat) : Option Nat :=
  let r := s.rd (node k) THM.NODE_CFG_REF_NODE
  if s.rd (node k) THM.NODE_CFG_REF_SRC = 1 ∧ r < 24 then some r else none

/-- The reference chain from a node, at most `n` long. -/
def State.refChain (s : State) : Nat → Nat → List Nat
  | 0, _ => []
  | n + 1, k => match s.refOf k with
    | none => []
    | some r => r :: s.refChain n r

/-- A node takes the temperature of its anchor (R292, R305): no update has judged it since. -/
def State.nodeInit (s : State) (k : Nat) (keep : Bool) : State :=
  match s.anchor k with
  | some m => ((s.modNode k (fun g => { g with th1 := 0, th2 := 0, th3 := 0, corr := m - s.nodeRef k })).keepT k m).modNode k
      (fun g => { g with seen := 0 })
  | none => if keep then s else (s.keepT k (s.nodeRef k)).modNode k (fun g => { g with seen := 0 })

/-- The nodes in use, each after the node that it refers to. -/
def State.byRef (s : State) : List Nat :=
  (List.range 25).flatMap fun d => (List.range 24).filter fun k => s.nodeOn k && (s.refChain 24 k).length == d

/-- The model starts (R292): a node's reference is known before it. (DESIGN CHOICE, log 54.) -/
def State.thermStart (s : State) : State := (s.each s.byRef fun k t => t.nodeInit k false).wr thmB THM.STATUS_RUN 1

/-! The die's power budget (R298). -/

/-- (DESIGN CHOICE, log 54.) -/
def State.dieStep (s : State) : State :=
  let s1 := s.modThm (fun h => { h with dSum := h.dSum + (s.nodePower 0).toNat, dN := h.dN + 1 })
  if s1.thm.dN < 1000 then s1
  else
    let mean := s1.thm.dSum / s1.thm.dN / 10000
    let ovr := decide (min 750 (s.rd thmB THM.DIE_PLIM) * 10000 * s1.thm.dN < s1.thm.dSum)
    let s2 := (((s1.wr thmB THM.DIEMON_P (min 4095 mean)).wrB thmB THM.DIEMON_OVER ovr).wrB thmB THM.STATUS_DIE_OVER ovr).modThm
      (fun h => { h with dSum := 0, dN := 0, dShed := h.dShed && ovr })
    if ovr && !s.bit thmB THM.DIEMON_OVER then (s2.mark .dieOver).err thmB 4 107 none none else s2

/-! Levels (R299, R300). -/

/-- The threshold of level `l`. -/
def State.threshold (s : State) (k l : Nat) : Int :=
  ((s.rd (node k) THM.NODE_LIM_T1 + (l - 1) * orIf0 (s.rd (node k) THM.NODE_LIM_STEP) 1 : Nat) : Int) * 65536

/-- The highest level whose threshold T has reached in the last three updates; the value at a start is no update's. -/
def State.absLevel (s : State) (k : Nat) : Nat :=
  match (s.nodeH k).hist with
  | a :: b :: c :: _ => if (s.nodeH k).seen < 3 then 0 else ((List.range 6).filter (fun l => decide (s.threshold k (l + 1) ≤ min a (min b c)))).length
  | _ => 0

/-- The rate of rise in 2^−16 K/s. -/
def State.rate (s : State) (k : Nat) : Int :=
  match (s.nodeH k).hist.head?, (s.nodeH k).hist[100]? with
  | some a, some b => (a - b) * 10
  | _, _ => 0

/-- The level a node is held at, at least: by its rate, and node 0 by the die's budget. -/
def State.floorLevel (s : State) (k : Nat) : Nat :=
  let r := if s.bit (node k) THM.NODE_T_RATE then clampN 1 4 (s.absLevel k + 1) else 0
  let d := if k = 0 then (if s.thm.dShed then 5 else if s.bit thmB THM.DIEMON_OVER then 3 else 0) else 0
  max (s.absLevel k) (max r d)

/-- SHED (R304). -/
def State.shedOut (s : State) (x : Nat) : State := if x < 46 ∧ x ≠ 28 then s.disable x else s

/-- The action of a level as it is entered. -/
def State.levelAct (s : State) (k l : Nat) : State :=
  if !s.lvlOn k l then s
  else if l = 5 then
    ((s.shedOut (s.rd (node k) THM.NODE_ACT_SHED_A)).shedOut (s.rd (node k) THM.NODE_ACT_SHED_B)).errQ thmB 5 107
  else if l = 6 then
    if s.bit (node k) THM.NODE_ACT_SD_ACT then s else s.ask .off 0x18
  else s

/-- The class of a rise to level `l` (R300). -/
def State.levelCls (s : State) (k l : Nat) : Nat :=
  if l ≤ 2 then 0 else if l ≤ 5 then 1 else if s.bit (node k) THM.NODE_ACT_SD_ACT ∧ s.lvlOn k 6 then 3 else 1

/-- A rise to level `l`; its record carries the node, the level, T and RATE. (DESIGN CHOICE, log 74.) -/
def State.rise (s : State) (k l : Nat) : State :=
  let was := s.level k
  if l ≤ was then s
  else
    let d := Config.detailOf 4 (k + 32 * l + 256 * s.rd (node k) THM.NODE_T_T + 2 ^ 24 * s.rd (node k) THM.NODE_T_RATE)
    let s1 := ((s.wr (node k) THM.NODE_T_LEVEL l).modNode k (fun h => { h with low := 0 })).err thmB 0 107 (some (s.levelCls k l)) (some d)
    let s2 := if l = 6 then s1.errQ thmB 6 107 else s1
    s2.each ((List.range 7).filter (fun i => decide (was < i ∧ i ≤ l))) fun i t => t.levelAct k i

/-- T is below the threshold of the node's level minus HYS; the rate is below 0.75 × RMAX (R299). -/
def State.cooler (s : State) (k : Nat) : Bool :=
  decide (((s.nodeH k).hist.head?).getD 0 < s.threshold k (s.level k) - s.rd (node k) THM.NODE_LIM_HYS * 32768)
def State.steadier (s : State) (k : Nat) : Bool := decide (s.rate k * 40 < s.rd (node k) THM.NODE_LIM_RMAX * 65536 * 3)

/-- The rate test, then the level, of a node (R299). -/
def State.judge (s : State) (k : Nat) : State :=
  if !s.nodeOn k then s
  else
    let rmax := s.rd (node k) THM.NODE_LIM_RMAX
    let fast := rmax != 0 && decide ((rmax : Int) * 65536 < s.rate k * 10)
    let n := if fast then (s.nodeH k).fast + 1 else 0
    let s1 := s.modNode k (fun h => { h with
      fast := min 3 n, low := if s.cooler k then h.low + 1 else 0, slow := if s.steadier k then h.slow + 1 else 0 })
    let s2 := if n = 3 ∧ !s.bit (node k) THM.NODE_T_RATE then (s1.wr (node k) THM.NODE_T_RATE 1).err thmB 1 107 none none else s1
    (s2.rise k (min 6 (s2.floorLevel k))).settle

/-! Reactions (R301 to R303). -/

/-- The lowest ceiling that nodes at LIMIT or above name for a target. -/
def State.ceilFor (s : State) (p : Nat → Bool) : Option Nat :=
  (List.range 24).foldl (fun b k =>
    if s.nodeOn k ∧ 3 ≤ s.level k ∧ s.lvlOn k 3 ∧ p k then
      let c := s.rd (node k) THM.NODE_ACT_CEIL
      match b with | none => some c | some d => some (min c d)
    else b) none

/-- Ceilings of bucks and charger, lowered or restored, at every update. -/
def State.ceilings (s : State) : State :=
  let s1 := s.each (List.range 16) fun n t =>
    let names := fun k => t.rd (node k) THM.NODE_ACT_CEIL_TGT == 3 ||
      (t.rd (node k) THM.NODE_ACT_CEIL_TGT == 1 && t.lead (12 + t.rd (node k) THM.NODE_ACT_CEIL_IDX) == t.lead (12 + n))
    t.wr (bk n) BUCK.BK_ILIM_CEIL (min 63 ((t.ceilFor names).getD 45))
  s1.wr chgB CHG.TLIM_CEIL ((s1.ceilFor (fun k => s1.rd (node k) THM.NODE_ACT_CEIL_TGT == 2)).getD 400)

/-- THROTTLE and its record. -/
def State.throttle (s : State) : State :=
  let ns := (List.range 24).filter (fun k => s.nodeOn k && decide (4 ≤ s.level k))
  let on1 := ns.any (fun k => s.lvlOn k 4)
  let was := s.bit thmB THM.STATUS_THROTTLE
  let s1 := ((s.wr thmB THM.THROT_NODES (ns.foldl (fun a k => a + 2 ^ k) 0)).wr thmB THM.THROT_MAX
    ((List.range 24).foldl (fun a k => if s.nodeOn k then max a (s.level k) else a) 0)).wrB thmB THM.STATUS_THROTTLE on1
  if on1 && !was then
    let pn := s.rd thmB THM.CFG_THR_PIN
    let s2 := if pn < 16 ∧ s.rd (pin pn) GPIO.PIN_CFG_FUNC ≠ 4 then s1.err gpioB 0 134 none none else s1
    s2.irq thmB 16 107
  else if was && !on1 then s1.irq thmB 17 107
  else s1

/-- The node whose LOSS term covers a phase. -/
def State.coverNode (s : State) (p : Nat) : Option Nat :=
  ((List.range 32).find? (fun j => s.termType j == 1 && decide (s.termNode j < 24) && (s.termChans j).contains p)).map s.termNode

def State.judgedT (s : State) (k : Nat) : Int := ((s.nodeH k).hist.head?).getD 0

/-- The balancing offsets of a sheaf (R303). The mean is floored. (DESIGN CHOICE, log 75.) -/
def State.offsets (s : State) (r : Nat) : State :=
  if !s.bit (sheaf r) PHX.SH_CFG_TBAL_EN then s
  else
    let act := (s.phasesOf r).filter (fun p => s.phState p == phACTIVE)
    let temps := act.filterMap (fun p => (s.coverNode p).map s.judgedT)
    let mean : Int := temps.foldl (· + ·) 0 / ((max 1 temps.length : Nat) : Int)
    let hot := (s.phasesOf r).any (fun p => (s.coverNode p).any (fun k => decide (2 ≤ s.level k) && s.lvlOn k 2))
    let kt := if hot then s.rd thmB THM.BAL_KT1 else s.rd thmB THM.BAL_KT0
    s.each act fun p t =>
      let ti := ((s.coverNode p).map s.judgedT).getD mean
      t.wrI (ph p) PHX.SHARE_OFFSET (clampI (-128) 127 (roundDiv (-(kt : Int) * (ti - mean)) 1048576))

def State.reactions (s : State) : State := (s.ceilings.throttle).each (List.range 12) fun r t => t.offsets r

/-- One update (R292). `fresh`: the powers are read. -/
def State.thermUpdate (s : State) (fresh : Bool) : State :=
  let s1 := if fresh then s.readPowers else s
  let s2 := s1.each (List.range 24) fun k t => t.thermNode k
  ((s2.dieStep).each (List.range 24) fun k t => t.judge k).reactions

/-- FE3's update, once in each tick that is a whole number of ms, after the boundaries of the windows it reads (R282, R292). -/
def execThermalUpdate (s : State) : Host.Outcome State Fault Refusal :=
  .next (if !s.bit thmB THM.STATUS_RUN ∨ !s.up ∨ s.tick % 1000 ≠ 0 ∨ s.thm.done = s.tick + 1 then s
    else if s.stopped 3 then s.modThm (fun h => { h with missed := h.missed + 1, done := s.tick + 1 })
    else ((s.modThm (fun h => { h with done := s.tick + 1 })).each (List.range 192) fun c t => t.accSync c).thermUpdate true).settle

/-- FE3 resumes (R305). -/
def State.thermReplay (s : State) : State :=
  let n := s.thm.missed
  let s1 := (s.readPowers).modThm (fun h => { h with missed := 0 })
  if n ≤ 64 then (List.range n).foldl (fun t _ => t.thermUpdate false) s1
  else s1.each s1.byRef fun k t => t.nodeInit k true

/-- A node's level falls by one, after 1 s of updates below it (R299, R300). -/
def execLevelFall (k : Fin 24) (s : State) : Host.Outcome State Fault Refusal :=
  .next (
    let l := s.level k
    if s.stopped 3 then s.putOff (.levelFall k)
    else if 1 ≤ l ∧ l ≤ 5 ∧ 1000 ≤ (s.nodeH k).low ∧ s.floorLevel k < l then
      ((((s.wr (node k) THM.NODE_T_LEVEL (l - 1)).modNode k (fun h => { h with low := 0 })).post 107 (some 0) none)).reactions
    else s).settle

/-- The rate has stayed low for 100 ms of updates (R299). -/
def execRateClear (k : Fin 24) (s : State) : Host.Outcome State Fault Refusal :=
  .next (if s.stopped 3 then s.putOff (.rateClear k)
    else if s.bit (node k) THM.NODE_T_RATE ∧ 100 ≤ (s.nodeH k).slow then s.wr (node k) THM.NODE_T_RATE 0 else s).settle

/-- The die's excess has lasted SHED_T (R298). -/
def execDieShed (s : State) : Host.Outcome State Fault Refusal :=
  .next (if s.stopped 3 then s.putOff .dieShed
    else if s.bit thmB THM.DIEMON_OVER ∧ !s.thm.dShed ∧ s.ran .dieOver (1000000 * orIf0 (s.rd thmB THM.DIE_SHED_T) 1) then
      ((s.modThm (fun h => { h with dShed := true })).rise 0 5).reactions
    else s).settle

/-- A host anchor written (R296). -/
def State.hostAnchor (s : State) (v : Word) : State :=
  let k := getBits v 0 5
  if k < 24 then s.modNode k (fun h => { h with hostT := signOf 16 (getBits v 16 16) * 1024, hostEnd := s.tick + 1000000 }) else s

end Sys2Proof.Machine
end

