-- ==== Sys2Proof/Machine/ModeRows.lean ====
section
/-! DEFINITION. The rows of the operating modes (R40 to R64), of the internal supplies (R156), and of the die comparator
(R526). -/

namespace Sys2Proof.Machine

open Sys2Proof

/-! Resets and FALLOW (R44, R60). -/

/-- What no reset of the main domain reaches: the commands, the backup domain, NVM with its lofts, OTP, the pins, the test
port's own state, and the model's own counters. (DEDUCED, log 32.) -/
def State.mainReset (s : State) : State :=
  { State.reset with
    pending := s.pending, regs := s.regs.filter (fun e => bporKey e.1), tick := s.tick, freeCtr := s.freeCtr,
    nvm := s.nvm, otp := s.otp, otpCtl := s.otpCtl, loftNext := s.loftNext, wakeLvl := s.wakeLvl, xiGood := s.xiGood,
    vioOut := s.vioOut, wasLock := s.wasLock, spareClr := s.spareClr,
    clk := { ClkHid.reset with due := s.clk.due, ins := s.clk.ins, cyc := s.clk.cyc, frac := s.clk.frac } }

/-- POR: the device enters PARKED (R44, R45, R60). `feeds`: the feeds above 36.0 V, bit 0 port A, bit 1 port B, which count as
appearing (R167). (DEDUCED, log 32.) -/
def State.por (s : State) (feeds : Nat) (core : Bool) : State :=
  let lock := s.mode == mLOCKOUT || (s.mode == mFALLOW && s.wasLock)
  let seen := s.mode == mFALLOW && s.clk.due.testBit 6
  let cs := s.rd buscB BUSC.STATUS_CS_SRC
  let en := s.rd buscB BUSC.CTRL_EN
  let run := s.rd buscB BUSC.STATUS_STATE = bCSTART
  let s1 := (((s.mainReset.wr devB DEV.RESET_CAUSE_POR 1).wrB devB DEV.RESET_CAUSE_BPOR_SEEN seen).wrB devB
    DEV.RESET_CAUSE_LOCKOUT_CYCLE lock).wrB supvB (SUPV.INSUP_SEEN.at 8) core
  let s2 := ({ s1 with wasLock := false, tap := .reset, tapIns := .bypass, tapBit := false, tdo := [] }.wr rtcB RTC.STATUS_ON_BAK 0).wr buscB BUSC.STATUS_CS_SRC cs
  let s3 := s2.modBus (fun _ => { (if run then s.bus.path else BusHid.reset) with feedHi := feeds })
  let s4 := if feeds = 0 then s3.pathStop else if run then (s3.setBus bCSTART).wr buscB BUSC.CTRL_EN en else s3.pathStart 6500
  let feed := if feeds ≠ 0 ∧ s4.bit devB DEV.WAKE_CFG_FEED_EN then 64 else 0
  s4.wakeBy (feed ||| s4.wakeLevels)

/-- VBUS rises above its threshold, or a core supply fault forces POR in a device that runs. -/
def execPor (feeds : Fin 4) (s : State) : Host.Outcome State Fault Refusal :=
  .next (s.por feeds (s.mode != mFALLOW)).settle

/-- VBUS falls below its falling POR threshold (R44, R465). `vbak`: VBAK is present, so the backup domain changes to it. -/
def execFallowEntry (vbak : Bool) (s : State) : Host.Outcome State Fault Refusal :=
  .next (if s.mode = mFALLOW then s
    else
      let s1 := if vbak then s.toVbak else s
      let s2 := { s1.mainReset with wasLock := s.mode == mLOCKOUT }
      (s2.wr devB DEV.RESET_CAUSE_POR 0).wr devB DEV.MODE_CODE mFALLOW).settle

/-! WAKE pins (R50, R533). -/

/-- A WAKE pin's filtered level becomes `lvl`. Each pin's release is followed, whether HOLDON selects it yet or not. -/
def State.wakePin (s : State) (i : Fin 4) (lvl : Bool) : State :=
  let was := s.wakeLvl.testBit i
  let bit := 2 ^ i.val
  let s1 := { s with wakeLvl := if lvl then s.wakeLvl ||| bit else s.wakeLvl &&& (15 - bit) }
  let act := s1.wakeActive.testBit i
  let s2 := if was == lvl then s1
    else if act then { s1 with wakeSeen := s1.wakeSeen ||| bit, wakeDone := s1.wakeDone && !s1.holdOn.testBit i }.unmark (.released i)
    else if s1.wakeSeen.testBit i then s1.mark (.released i)
    else s1
  let source := s2.rd devB DEV.WAKE_CFG_EN &&& bit != 0 && act && was != lvl
  if !source then s2
  else if s2.mode = mPARKED then s2.wakeBy bit
  else if s2.active then s2.ask .on 1
  else s2

def execWakePinChange (i : Fin 4) (lvl : Bool) (s : State) : Host.Outcome State Fault Refusal :=
  .next (s.wakePin i lvl).settle

/-- Every HOLDON pin has stayed released for RELEASE_T: an off request, once for each release (R45, R533). In WAKING the
release is judged where the bale has been loaded. -/
def execHoldonRelease (s : State) : Host.Outcome State Fault Refusal :=
  .next (if (s.mode = mHOLD ∨ s.active) ∧ s.holdOver ∧ s.wakeDone = false then { s with wakeDone := true }.ask .off 0x0B
    else s).settle

/-- A low of `us` on FLA (0) or FLB (1) (R50, R242, R243): at least 50 µs is the wake source of a parked node, whose wake logic then drives
the other port low for 100 µs. (DEDUCED, log 63.) -/
def execFlailWakePulse (p : Fin 2) (us : Nat) (s : State) : Host.Outcome State Fault Refusal :=
  .next (if us < 50 ∨ !s.bit devB DEV.WAKE_CFG_FLAIL_EN then s
    else if s.mode = mPARKED then { s with flail := { s.flail with wakeOut := (2 - p.val, s.tick + 100) } }.wakeBy 128
    else if s.active then s.ask .on 1 else s).settle

/-! WAKING. -/

/-- FE1 has asserted each force line in turn (R383). `missing`: the line (8 is the device force line) and the output whose
acknowledgement is missing or stuck, which DETAIL names. (DESIGN CHOICE, log 74.) -/
def execSafeStateLineTest (missing : Option (Fin 9 × Fin 46)) (s : State) : Host.Outcome State Fault Refusal :=
  .next (if s.mode = mWAKING ∧ s.eng 1 ≠ eHALTED then (match missing with
      | some m => s.post 113 (some 4) (some (Config.detailOf 6 (m.1.val + 16 * m.2.val)))
      | none => s) else s).settle

/-- 2.5 ms after the entry to WAKING (R40). RTC_WEAK shows VBAK, at `mv`, from here on (R59). (DEDUCED, log 77.) -/
def execWakingReadAccess (mv : Nat) (s : State) : Host.Outcome State Fault Refusal :=
  .next (if s.mode = mWAKING ∧ s.ran .waking 2500 then
      { s with wakeRead := true }.setRepl DEV.REPLACE_SRC_RTC_WEAK (s.vbakLow mv)
    else s).settle

/-! The end of a WARM outside WAKING (R61, R305, R395, R458). -/

/-- The engines reload: a hash that does not match leaves FE7 in its ROM loader and the others halted. While a copy is in
progress nothing is reloaded (R462). -/
def State.reload (s : State) : State :=
  if s.bit nvmB NVM.STATUS_COPYING || s.reloadOk then s.fwRuns
  else (((s.setEngs eHALTED).setEng 7 eROM).setW (devB + 0x44) 0).err secB 3 133 (some 3) none

def State.warmDone (s : State) : State :=
  let s1 := (s.reload).wr devB DEV.STATUS_WARM_BUSY 0
  ((s1.iff (!s1.stopped 3) State.thermReplay).restartTmos.owlWatch).activated

/-- No engine runs firmware before the lockstep self-test of the WARM has passed (R400, R401). -/
def execWarmComplete (s : State) : Host.Outcome State Fault Refusal :=
  .next (if s.frozen ∧ s.warmTest then s.warmDone else s).settle

/-! The ends of HOLDUP and of SERVICE (R45, R56). -/

/-- The countdown reaches 0. -/
def execHoldupCountdownEnd (s : State) : Host.Outcome State Fault Refusal :=
  .next (if s.mode = mHOLDUP ∧ s.rd devB DEV.HOLDUP_LEFT_LEFT = 0 then s.ask .drain 0x11 else s).settle

/-- VBUS, at most `mv` for `us` microseconds: below DEV.HOLDUP_CFG.FLOOR for 1 ms. -/
def execVbusFloor (mv us : Nat) (s : State) : Host.Outcome State Fault Refusal :=
  .next (if s.mode = mHOLDUP ∧ mv < s.rd devB DEV.HOLDUP_CFG_FLOOR * 50 ∧ 1000 ≤ us then s.ask .drain 0x12 else s).settle

/-- The SERVICE timeout (R507). -/
def execServiceTimeout (s : State) : Host.Outcome State Fault Refusal :=
  .next (if s.mode = mSERVICE ∧ s.lapsed .service then s.ask .svcEnd 0x13 else s).settle

/-! DEV.MODE_REQ (R64). -/

abbrev reqKey : Nat := 0xA5C3

/-- A request is valid in the current mode; SERVICE is so for a permitted context (R334, R337). -/
def State.reqValid (s : State) (c : Nat) (req : Nat) : Bool :=
  let m := s.mode
  let act := decide (mRISING ≤ m ∧ m ≤ mDRAINING)
  if req = 1 then act || m == mHOLD || m == mSAFE
  else if req = 2 then m == mRUN || m == mSTANDBY
  else if req = 3 then act
  else if req = 4 then (m == mRUN || m == mSERVICE) && s.bit (cqeC c) CQE.CTX_PERM_SERVICE
  else if req = 5 then m == mHOLD
  else if req = 6 then m == mSAFE && !s.anyUnack 3
  else if req = 7 then act || m == mHOLD
  else req == 0

/-- RESTART (R45, R378): a WARM from SAFE into WAKING. -/
def State.restart (s : State) : State :=
  let s1 := s.wr devB DEV.RESET_CAUSE_WARM_HOST 1
  { s1 with lsWarm := s1.lsWarm || s1.lsHalt != 0 }.enterWaking 8

/-- A valid request acts: FE0 makes the changes of mode (R46), a WARM starts at once. (DEDUCED, log 33.) -/
def State.reqAct (s : State) (req : Nat) : State :=
  if req = 1 then s.ask .safeOff 0x0A
  else if req = 2 then s.ask .standby 0x0A
  else if req = 3 then ((s.ask .on 0x0A).ask .svcEnd 0x0A)
  else if req = 4 then s.ask .service 0x0A
  else if req = 5 then s.ask .reval 7
  else if req = 6 then s.ask .restart 0x0A
  else if req = 7 then (if s.mode = mHOLD then s.ask .warm 9 else s.warmStart (some DEV.RESET_CAUSE_WARM_HOST) 9)
  else s

/-- A write of MODE_REQ. -/
def State.modeReq (s : State) (c : Nat) (v : Word) : State :=
  let req := getBits v 0 4
  if getBits v 16 16 = reqKey ∧ s.reqValid c req then s.reqAct req else s.err devB 0 135 (some 0) none

/-- A write of the bits of one request, whose REQ is `req`. -/
def State.modeReqAs (s : State) (c : Fin 8) (v : Word) (req : Nat) : State :=
  let w := BitVec.ofNat 32 (getBits v 4 28 * 16 + req)
  s.ifWrites c 0x84 w fun t => t.modeReq c w

def execModeReqOff (c : Fin 8) (v : Word) (s : State) : Host.Outcome State Fault Refusal := .next (s.modeReqAs c v 1).settle
def execModeReqStandby (c : Fin 8) (v : Word) (s : State) : Host.Outcome State Fault Refusal := .next (s.modeReqAs c v 2).settle
def execModeReqRun (c : Fin 8) (v : Word) (s : State) : Host.Outcome State Fault Refusal := .next (s.modeReqAs c v 3).settle
def execModeReqService (c : Fin 8) (v : Word) (s : State) : Host.Outcome State Fault Refusal := .next (s.modeReqAs c v 4).settle
def execModeReqRevalidate (c : Fin 8) (v : Word) (s : State) : Host.Outcome State Fault Refusal := .next (s.modeReqAs c v 5).settle
def execModeReqRestart (c : Fin 8) (v : Word) (s : State) : Host.Outcome State Fault Refusal := .next (s.modeReqAs c v 6).settle
def execModeReqWarm (c : Fin 8) (v : Word) (s : State) : Host.Outcome State Fault Refusal := .next (s.modeReqAs c v 7).settle

/-! DEV.REPLACE_SRC (R59). -/

/-- A write of 1 to SPARE or LOCKSTEP clears it; that of SPARE restores the configured roles at the next RISING (R131). -/
def State.replaceClear (s : State) (v : Word) : State :=
  let s1 := if getBits v 0 1 = 1 then { s with spareClr := true }.setRepl DEV.REPLACE_SRC_SPARE false else s
  if getBits v 3 1 = 1 then s1.setRepl DEV.REPLACE_SRC_LOCKSTEP false else s1

def execReplaceSrcClear (c : Fin 8) (v : Word) (s : State) : Host.Outcome State Fault Refusal :=
  .next (s.ifWrites c 0x9C v fun s => s.replaceClear v).settle

/-! Internal supplies (R156). -/

/-- INSUP.BAD and STATUS.INSUP_BAD. -/
def State.insupShow (s : State) : State := (s.wr supvB SUPV.INSUP_BAD s.supOut).wrB supvB SUPV.STATUS_INSUP_BAD (s.supOut != 0)

/-- A supply leaves its window: 0 core digital, 1 analogue, 2 PWM driver, 3 reference, 4 NVM. A POR by the core supply finds
the feeds `feeds` (R167). -/
def State.supplyBad (s : State) (k feeds : Nat) : State :=
  if k = 0 then s.por feeds true
  else
    let s1 := ({ s with supOut := s.supOut ||| 2 ^ k }.insupShow).wr supvB (SUPV.INSUP_SEEN.at (8 + k)) 1
    let s2 := s1.err supvB 6 132 (some (if k = 4 then 1 else 3)) none
    if k = 3 then s2.refOff else s2

/-- The window of a supply in mV (R515). -/
def supWindow (k : Nat) : Nat × Nat :=
  if k = 0 then (760, 950) else if k = 1 then (1700, 1900) else if k = 2 then (3050, 3550) else if k = 3 then (1782, 1818) else (2350, 2650)

def supIn (k mv : Nat) : Bool := decide ((supWindow k).1 ≤ mv ∧ mv ≤ (supWindow k).2)

/-- Supply `k` reads `mv`. -/
def execInternalSupplyFault (k : Fin 5) (mv : Nat) (feeds : Fin 4) (s : State) : Host.Outcome State Fault Refusal :=
  .next (if supIn k mv = false ∧ s.mode ≠ mFALLOW ∧ (k = 0 ∨ (s.up ∧ !s.supOut.testBit k)) then s.supplyBad k feeds else s).settle

/-- A supply returns to its window. -/
def execInternalSupplyRecovery (k : Fin 5) (mv : Nat) (s : State) : Host.Outcome State Fault Refusal :=
  .next (if supIn k mv ∧ s.up ∧ s.supOut.testBit k then { s with supOut := s.supOut - 2 ^ k.val }.insupShow else s).settle

/-! The die comparator (R526). -/

def execDieTempTrip (s : State) : Host.Outcome State Fault Refusal :=
  .next (if s.up ∧ s.dieTrip = false then { s with dieTrip := true }.post 107 (some 3) (some 0xFFFFFFFF) else s).settle

/-- The junction is below 140 °C. -/
def execDieTempRearm (s : State) : Host.Outcome State Fault Refusal := .next { s with dieTrip := false }.settle

end Sys2Proof.Machine
end

