-- ==== Sys2Proof/Machine/Writes.lean ====
section
/-! DEFINITION. Rows that are writes of single registers: the sequencer's tables (R220), the Flail master (R251, R252),
margins (R265, R266), telemetry (R278 to R286) and the host anchor (R296). -/

namespace Sys2Proof.Machine

open Sys2Proof

/-! The sequencer. -/

/-- A word of the step window (R220); `b`: word B. -/
def execSeqStepWrite (c : Fin 8) (k : Fin 64) (b : Bool) (v : Word) (s : State) : Host.Outcome State Fault Refusal :=
  .next (s.ifWrites c (seqB + 0x100 + 8 * k + if b then 4 else 0) v fun s => s.stepWrite k b v).settle

/-! The Flail line. -/

/-- FLAIL.MCTRL written with an operation (R251). -/
def State.mctrlWrite (s : State) (c : Fin 8) (op arg : Nat) : State :=
  s.ifWrites c (flailB + 0x58) (BitVec.ofNat 32 (op * 2 ^ FLAIL.MCTRL_OP.lo + arg * 2 ^ FLAIL.MCTRL_ARG.lo)) fun t => t.mctrl c op arg

def execMctrlStep (c : Fin 8) (s : State) : Host.Outcome State Fault Refusal := .next (s.mctrlWrite c 1 0).settle
def execMctrlGoto (c : Fin 8) (arg : BitVec 8) (s : State) : Host.Outcome State Fault Refusal :=
  .next (s.mctrlWrite c 2 arg.toNat).settle
def execMctrlTarget (c : Fin 8) (arg : BitVec 8) (s : State) : Host.Outcome State Fault Refusal :=
  .next (s.mctrlWrite c 3 arg.toNat).settle
def execMctrlStop (c : Fin 8) (s : State) : Host.Outcome State Fault Refusal := .next (s.mctrlWrite c 4 0).settle
def execMctrlWake (c : Fin 8) (s : State) : Host.Outcome State Fault Refusal := .next (s.mctrlWrite c 5 0).settle

/-- An alarm goes out (R252): one that context `c` asks for by CTRL.ALARM, or one that a failed run or an entry to SAFE asked
for, `ns` wide as the node sees it. -/
def execAlarmSend (c : Option (Fin 8)) (ns : Nat) (s : State) : Host.Outcome State Fault Refusal :=
  .next (let s1 := match c with
      | some n => s.ifField n flailB FLAIL.CTRL_ALARM 1 fun t => t.alarmAsk false
      | none => s
    let sent := s1.flail.alarmReq && !(s1.alarmSend ns).flail.alarmReq
    (s1.alarmSend ns).iff (sent && pulseOf ns == plALARM) fun t => t.alarmAborts).settle

/-! Margins. -/

/-- CTRL.APPLY (R262, R265). -/
def execMargApply (c : Fin 8) (s : State) : Host.Outcome State Fault Refusal :=
  .next (s.ifField c margB MARG.CTRL_APPLY 1 fun s => s.margApply).settle

/-- CTRL.DISARM (R266). -/
def execMargDisarm (c : Fin 8) (s : State) : Host.Outcome State Fault Refusal :=
  .next (s.ifField c margB MARG.CTRL_DISARM 1 fun s => s.setArm false).settle

/-! Telemetry. -/

/-- ADC.URG (R281). -/
def execAdcUrg (c : Fin 8) (v : Word) (s : State) : Host.Outcome State Fault Refusal :=
  .next (s.ifWrites c (adcB + 0x58) v fun s => s.adcUrg c v).settle

/-- CTRL.REF_EN set (R278). -/
def execRefEnSet (c : Fin 8) (s : State) : Host.Outcome State Fault Refusal :=
  .next (s.ifField c adcB ADC.CTRL_REF_EN 1 fun s => s.refOn).settle

/-- CTRL.REF_EN cleared. -/
def execRefEnClear (c : Fin 8) (s : State) : Host.Outcome State Fault Refusal :=
  .next (s.ifField c adcB ADC.CTRL_REF_EN 0 fun s => s.refOff).settle

/-- CONVn_CFG written (R278, R280): a LEN other than the one in force is stored only while EN is 0; PER; then EN.
(DEDUCED, log 53.) -/
def State.convWrite (s : State) (k : Nat) (v : Word) : State :=
  let len := getBits v ADC.CONV_CFG_LEN.lo ADC.CONV_CFG_LEN.w
  let s1 := if len = s.rd (convCfg k) ADC.CONV_CFG_LEN then s
    else if s.convOn k then s.err adcB 1 108 none none
    else s.wr (convCfg k) ADC.CONV_CFG_LEN len
  let s2 := s1.wr (convCfg k) ADC.CONV_CFG_PER (getBits v ADC.CONV_CFG_PER.lo ADC.CONV_CFG_PER.w)
  s2.setConvEn k (getBits v 0 1 == 1)

def execConvEnWrite (c : Fin 8) (k : Fin 2) (v : Word) (s : State) : Host.Outcome State Fault Refusal :=
  .next (s.ifWrites c (convCfg k) v fun s => s.convWrite k v).settle

/-- ACC.ACLR of instance `i` (R285). -/
def State.aclr (s : State) (i : Nat) (v : Word) : State := s.each (clrChans i v) fun ch t => t.aclr1 ch

def execAclr (c : Fin 8) (i : Fin 2) (v : Word) (s : State) : Host.Outcome State Fault Refusal :=
  .next (s.ifWrites c (accB i + 0x40) v fun s => s.aclr i v).settle

/-- ACC.TCLR of instance `i` (R286). -/
def State.tclr (s : State) (i : Nat) (v : Word) : State := s.each (clrChans i v) fun ch t => t.tclr1 ch

def execTclr (c : Fin 8) (i : Fin 2) (v : Word) (s : State) : Host.Outcome State Fault Refusal :=
  .next (s.ifWrites c (accB i + 0x44) v fun s => s.tclr i v).settle

/-- THM.HOSTA (R296). -/
def execHostaWrite (c : Fin 8) (v : Word) (s : State) : Host.Outcome State Fault Refusal :=
  .next (s.ifWrites c (thmB + 0x39C) v fun s => s.hostAnchor v).settle

end Sys2Proof.Machine
end

