-- ==== Sys2Proof/Machine/Contention.lean ====
section
/-! DEFINITION. The rows of the arbiter (R338 to R352). -/

namespace Sys2Proof.Machine

open Sys2Proof

/-- A new slot of the stall table comes into force (R341): the one that the tick begins. (DEDUCED, log 12.) -/
def execStallSlotBoundary (s : State) : Host.Outcome State Fault Refusal :=
  .next (if s.up ∧ s.tick % 50 = 0 then
      let n := s.tick / 50 % 64
      { s.wr arbB ARB.STATUS_SLOT n with slotW := s.getW (stall n) }
    else s).settle

/-- The engines that may ask for a group for work of their own (R338). -/
def engineMay (g e : Nat) : Bool := g == 1 || g == 2 || (g == 3 && e == 7) || (g == 4 && (e == 2 || e == 4))

/-- An engine's own grant of a resource is given up, where it is not FE7's for its log and snapshots. -/
def State.engineGives (s : State) (r : Nat) : State :=
  match s.grantOf r with
  | some g => if g.org = .engine ∧ r ≠ 6 then (s.setGrant r none).arbShow else s
  | none => s

/-- A resource is at its boundary as far as the model shows it (R347): no urgent conversion in progress, no frame or step, and none whose
end FE0 has still to act on. -/
def State.atBoundary (s : State) (r : Nat) : Bool :=
  if r = 7 then s.adc.urg0.isNone && s.adc.urg1.isNone else if r = 8 then s.flail.frame == 0 && s.flail.fin == 0 else true

/-- A context's direct grant that is to end does so at its boundary (R350). -/
def State.doomedEnd (s : State) (p : Nat × Nat) : State :=
  let holds := match s.grantOf p.1 with | some g => decide (g.who = p.2 ∧ g.org = .direct) | none => false
  if !holds then { s with doomed := s.doomed.erase p }
  else if s.atBoundary p.1 then { s with doomed := s.doomed.erase p }.revoke p.1 0 false
  else s

/-- The decision of a tick for a group (R342): what free resources there are go to requests that wait. `ask`: engines whose
request for work of their own arrives now; `done`: resources whose engine has finished. (DEDUCED, log 44.) -/
def execArbGrant (g : Fin 6) (ask : List (Fin 8)) (done : List (Fin 9)) (s : State) : Host.Outcome State Fault Refusal :=
  .next (if s.up then
      let s0 := s.doomed.foldl (fun t p => t.doomedEnd p) s
      let s1 := s0.each (done.map (·.val)) fun r t => t.engineGives r
      let s2 := s1.each ((ask.map (·.val)).filter (engineMay g)) fun e t => t.engineAsk g (8 + e)
      s2.each (groupRes g) fun _ t => t.arbServe g
    else s).settle

/-- A holder reaches its boundary and is revoked (R346 to R348); the waiter that outranks it is granted. `done`: the units
an engine has completed; a command counts its own, and a two-wire transfer that has ended is not taken back (R348). -/
def State.revokeAt (s : State) (r done : Nat) : State :=
  let ended := (s.twis.toList).any (fun h => h.fin.isSome && (match h.tag with
    | some t => (match s.grantOf r with | some g => g.org == .tag t | none => false)
    | none => false))
  let due := s.mustRevoke r && s.atBoundary r && (decide (4 ≤ r) || s.poolVictim == some r) && !ended
  if !due then s
  else
    let q : State × Nat := match s.grantOf r with
      | some g => match g.org with
        | .tag t => match s.findCmd t with
          | some k => if k.phase = .running ∧ k.op = 0x0C then s.twPause k else if k.phase = .running ∧ k.op = opDigest then s.dgPause k else (s, k.prog)
          | none => (s, done)
        | _ => (s, done)
      | none => (s, done)
    (q.1.revoke r q.2 true).arbServe (resGroup r)

def execRevocation (r : Fin 9) (done : Nat) (s : State) : Host.Outcome State Fault Refusal :=
  .next (if s.up then s.revokeAt r done else s).settle

/-! Direct requests (R349, R350). -/

/-- OP 1: a request for URG or FLAIL. -/
def State.directAsk (s : State) (c r : Nat) : State :=
  if r ≠ 7 ∧ r ≠ 8 then s.err arbB 2 131 none none
  else if queueFits (s.queueOf (resGroup r)) c then s.request (resGroup r) c Org.direct s.tick 0
  else s.err arbB 0 131 (some 0) none

/-- Does a context hold a resource by a direct grant? -/
def State.directHolds (s : State) (c r : Nat) : Bool :=
  match s.grantOf r with | some g => decide (g.who = c ∧ g.org = .direct) | none => false

/-- OP 2: the grant is released. (DEDUCED, log 44.) -/
def State.directRelease (s : State) (c r : Nat) : State := if s.directHolds c r then (s.setGrant r none).arbShow else s

/-- ARB.SELF_REQ written. -/
def State.selfReq (s : State) (c : Nat) (v : Word) : State :=
  let op := getBits v 0 2
  let r := getBits v 4 4
  if op = 1 then s.directAsk c r else if op = 2 then s.directRelease c r else s

/-- SELF_REQ written with an operation and a resource. -/
def State.selfReqAs (s : State) (c : Fin 8) (op r : Nat) : State :=
  let v := BitVec.ofNat 32 (op + r * 16)
  s.ifWrites c (arbB + 0x4C) v fun t => t.selfReq c v

def execDirectRequest (c : Fin 8) (r : BitVec 4) (s : State) : Host.Outcome State Fault Refusal := .next (s.selfReqAs c 1 r.toNat).settle
def execDirectRelease (c : Fin 8) (r : BitVec 4) (s : State) : Host.Outcome State Fault Refusal := .next (s.selfReqAs c 2 r.toNat).settle

/-- HOLD_MAX has passed and the holder is at its boundary (R350): revoked as R346 and R348 say. (DEDUCED, log 44.) -/
def execDirectHoldExpiry (r : Fin 9) (s : State) : Host.Outcome State Fault Refusal :=
  .next (match s.grantOf r with
    | some g => if g.org = Org.direct ∧ s.rd arbB ARB.CFG_HOLD_MAX ≠ 0 ∧ s.atBoundary r ∧
        g.since + 1000 * s.rd arbB ARB.CFG_HOLD_MAX ≤ s.tick then
        ((s.err arbB 1 131 (some 0) none).revoke r g.prog true)
      else s
    | none => s).settle

/-- A context's quarantine or reset takes its direct requests, and its direct grants at their boundary (R350). (DEDUCED, log 44.) -/
def State.directDrop (s : State) (c : Nat) : State :=
  let s1 := s.each [7, 8] fun r t => if t.directHolds c r then { t with doomed := (r, c) :: t.doomed }.doomedEnd (r, c) else t
  let s2 := s1.each [4, 5] fun g t => t.setQueue g (promote ((t.queueOf g).filter (fun q => !(decide (q.who = c) && q.org == Org.direct))))
  s2.arbShow

end Sys2Proof.Machine
end

