-- ==== Sys2Proof/Machine/Interrupts.lean ====
section
/-! DEFINITION. The rows of the interrupt controller (R353 to R366). -/

namespace Sys2Proof.Machine

open Sys2Proof

/-- A read of INT.CLAIM by context `c`: its word, and the state after it (R358, R365). -/
def State.claim (s : State) (c : Fin 8) : Word × State :=
  match s.claimable c with
  | none => (0x3FF, s)
  | some e =>
    let w := BitVec.ofNat 32 (e + s.prio c e * 0x10000)
    if s.mode = mLOCKOUT then (w, s)
    else (w, ((s.intPut c 0x80 e false).intPut c 0xA0 e true).intRefresh c)

def execClaim (c : Fin 8) (s : State) : Host.Outcome State Fault Refusal :=
  .next (if s.mayRead c 0x1848 then let r := s.claim c; r.2.answer c [r.1] else s).settle

/-- INT.CLAIM_DONE written (R357, R359). (DEDUCED, log 43.) -/
def State.claimDone (s : State) (c : Fin 8) (v : Word) : State :=
  let e := getBits v 0 10
  let s1 := s.modCtx c (fun h => { h with gap := true })
  if e < 160 ∧ s.intBit c 0xA0 e then (s1.intPut c 0xA0 e false).intRefresh c
  else (s1.intRefresh c).errQ intB 0 0

def execClaimDone (c : Fin 8) (v : Word) (s : State) : Host.Outcome State Fault Refusal :=
  .next (s.ifWrites c 0x184C v fun s => s.claimDone c v).settle

/-- INT.SETPEND written (R360). -/
def State.setPend (s : State) (c : Fin 8) (v : Word) : State :=
  let e := getBits v 0 10
  if e < 144 then (s.intPut c 0x80 e true).intRefresh c else s.errQ intB 1 0

def execSetpend (c : Fin 8) (v : Word) (s : State) : Host.Outcome State Fault Refusal :=
  .next (s.ifWrites c 0x1854 v fun s => s.setPend c v).settle

/-- 100 ns have passed since CLAIM_DONE (R357). -/
def execHirqGapEnd (c : Fin 8) (s : State) : Host.Outcome State Fault Refusal :=
  .next ((s.modCtx c (fun h => { h with gap := false })).intRefresh c).settle

/-- I12's clock runs again: the edges latched during its stop are applied (R362). Each event comes with whether several of
its edges were captured. -/
def execEdgeLatchApply (es : List (Fin 160 × Bool)) (s : State) : Host.Outcome State Fault Refusal :=
  .next (if s.up then
      es.foldl (fun t e => if e.1.val < 144 then allCtx.foldl (fun u c => u.edgeIn e.1 e.2 c) t else t) s
    else s).settle

/-! IRQ_EN of any page (R353, R499). -/

def findEv : List (Nat × Nat) → Nat → Option Nat
  | [], _ => none
  | (a, b) :: t, k => if a = k then some b else findEv t k

/-- IRQ_EN of page `p` becomes `v`: each bit that rises while its pending bit is 1 is an edge of the event that the bit
concerns. -/
def State.irqEnable (s : State) (p : Nat) (v : Word) : State :=
  let b := pg p
  let n := v &&& rwBits (b + 0x1C)
  let rise := n &&& ~~~ s.getW (b + 0x1C) &&& s.getW (b + 0x18)
  let s1 := s.setW (b + 0x1C) n
  if silentPage b then s1
  else s1.each (onesFrom rise 0) fun i t => match findEv t.irqEv (p * 32 + i) with | some e => t.edge e | none => t

def execIrqEnWrite (c : Fin 8) (p : BitVec 6) (v : Word) (s : State) : Host.Outcome State Fault Refusal :=
  .next (s.ifWrites c (pg p.toNat + 0x1C) v fun s => s.irqEnable p.toNat v).settle

end Sys2Proof.Machine
end

