-- ==== Sys2Proof/Machine/Collect.lean ====
section
/-! DEFINITION. The rows of the fault collector: raises, acknowledgements (R374), and faults forced for test (R382, R499,
R532). -/

namespace Sys2Proof.Machine

open Sys2Proof

/-- A source's edge reaches the collector (R367, R371); `cls` is none where its rule gives no class. -/
def execRaise (ev : Fin 136) (cls : Option (Fin 5)) (detail : Word) (s : State) : Host.Outcome State Fault Refusal :=
  .next (s.post ev (cls.map (·.val)) (some detail.toNat)).settle

/-! Acknowledgement. -/

/-- ACK.ID: one event. -/
def State.ackId (s : State) (id : Nat) : State :=
  if id < 160 ∧ s.lat id then (s.ackEv id).ackShow else s.errQ fltB 0 0

/-- ACK.ALL: every latched event. -/
def State.ackAll (s : State) : State := (s.each ((List.range 160).filter s.lat) fun e t => t.ackEv e).ackShow

/-- FLT.ACK written. -/
def State.ackWrite (s : State) (v : Word) : State := if getBits v 8 1 = 1 then s.ackAll else s.ackId (getBits v 0 8)

/-- FLT.LATk written: each latched event whose bit is 1. (DEDUCED, log 41.) -/
def State.latAck (s : State) (k : Nat) (v : Word) : State :=
  (s.each ((onesFrom v (32 * k)).filter s.lat) fun e t => t.ackEv e).ackShow

def execAckId (c : Fin 8) (id : BitVec 8) (s : State) : Host.Outcome State Fault Refusal :=
  .next (s.ifWrites c (fltB + 0x44) (BitVec.ofNat 32 id.toNat) fun s => s.ackId id.toNat).settle

def execAckAll (c : Fin 8) (s : State) : Host.Outcome State Fault Refusal :=
  .next (s.ifWrites c (fltB + 0x44) 0x100 fun s => s.ackAll).settle

def execLatAck (c : Fin 8) (k : Fin 5) (v : Word) (s : State) : Host.Outcome State Fault Refusal :=
  .next (s.ifWrites c (fltB + 0x60 + 4 * k) v fun s => s.latAck k v).settle

/-! Forced raises. -/

/-- A forced raise of an event; no chapter states its DETAIL. -/
def State.forceRaise (s : State) (ev cls : Nat) : State := { s with raiseQ := insRaise s.raiseQ ⟨ev, cls, none, true⟩ }

/-- FLT.FORCEk written (R382). -/
def State.fltForce (s : State) (k : Nat) (v : Word) : State :=
  s.each ((onesFrom v (32 * k)).filter (· < 136)) fun e t => t.forceRaise e (min 4 (t.rd fltB FLT.FCTRL_CLS))

def execFltForce (c : Fin 8) (k : Fin 5) (v : Word) (s : State) : Host.Outcome State Fault Refusal :=
  .next (s.ifWrites c (fltB + 0x80 + 4 * k) v fun s => s.fltForce k v).settle

/-- The event that a forced raise through bit `i` of ERR_FORCE of page `p` carries (R532). (DEDUCED, log 41.) -/
def forcedEv (p i : Nat) : Nat :=
  if 0x10 ≤ p ∧ p ≤ 0x1B then p - 0x10
  else match p with
  | 0x00 => 135
  | 0x01 => 132
  | 0x02 => 112
  | 0x03 => 129
  | 0x04 => 130
  | 0x05 => 131
  | 0x08 => 111
  | 0x09 => 109
  | 0x0A => 110
  | 0x0C => if i = 0 ∨ i = 1 ∨ i = 7 then 0 else 46
  | 0x0D => if i = 0 ∨ i = 1 ∨ i = 7 then 6 else 78
  | 0x1C => 102
  | 0x1D => 103
  | 0x1E => if i = 1 ∨ i = 4 then 105 else if i = 5 then 106 else 104
  | 0x20 => 12
  | 0x21 => 20
  | 0x22 => 28
  | 0x23 => if i ≤ 1 then 0 else if i ≤ 3 then 102 else if i = 4 then 104 else if i = 5 then 125 else 132
  | 0x27 => 107
  | 0x28 => 125
  | 0x29 => 126
  | 0x2A => 127
  | 0x2B => 128
  | 0x2C => 122
  | 0x2D => 123
  | 0x2E => if i = 2 ∨ i = 3 then 121 else 120
  | 0x2F => 124
  | 0x30 => 123
  | 0x31 => 133
  | 0x32 => 134
  | _ => 108

/-- A field of classes clamped to `lo` to `hi`. -/
def State.clsIn (s : State) (b : Nat) (f : Fld) (lo hi : Nat) : Option Nat := some (clampN lo hi (s.rd b f))

/-- The class that a natural raise of the forced event carries in the pages of control, host interface and sequencing: what
the cause's rule fixes, or the class field of the event's source; none where neither is given. -/
def State.forcedClsSys (s : State) (p i : Nat) : Option Nat :=
  match p with
  | 0x00 => some 0
  | 0x01 => if i = 0 then s.clsIn clkB CLK.CFG_REF_CLS 0 2 else if i = 2 then s.clsIn clkB CLK.CFG_HS_CLS 1 4 else if i = 4 then none else some (if i = 3 then 1 else 0)
  | 0x02 => if i = 0 then some s.lsCls else if i = 1 then some 4 else if i = 2 then s.clsIn engB ENG.CFG_EXC_CLS 0 3 else none
  | 0x03 => if i = 1 then some (s.rd hifB HIF.CFG_QCLS) else if i = 2 then none else some 0
  | 0x05 => if i = 2 then none else some 0
  | 0x08 => if i ≤ 1 then s.clsIn (owl 0) WDG.SLOT_CFG_CLS 1 4 else if i = 2 then some (s.rd (owl 0) WDG.SLOT_CFG_DUP_C1)
      else if i = 3 ∨ i = 6 then some 0 else none
  | 0x09 => if i ≤ 2 then some 1 else if i = 5 then some 0 else none
  | 0x0A => some (if 4 ≤ i ∧ i ≤ 10 then 1 else 0)
  | _ => none

/-- The same in the pages of power. -/
def State.forcedClsPower (s : State) (p i : Nat) : Option Nat :=
  if 0x10 ≤ p ∧ p ≤ 0x1B then
    if i = 9 ∨ i = 10 then some (s.rd (pg p) RAIL.HICCUP_HIC_CLS) else if i = 11 then some 2 else if i = 12 then some 0 else none
  else match p with
  | 0x0C | 0x0D => if i = 2 then some (s.phcls SUPV.PHCLS_UNRES 1 3) else if i = 5 then some (s.phcls SUPV.PHCLS_REMOVE 0 2)
      else if i = 6 then some (s.phcls SUPV.PHCLS_DERATE 0 2) else if i = 7 then some 0 else none
  | 0x1C => if i = 0 then some (s.phcls SUPV.PHCLS_DERATE 0 2) else if i = 1 then s.clsIn buscB BUSC.PROT_NPH_CLS 1 4
      else if i = 2 then s.clsIn supvB SUPV.VBUS_THR_CLS_OV 2 4 else if i = 7 then some 0 else none
  | 0x1D => if i ≤ 3 then some 1 else if i = 6 then some 0 else none
  | 0x1E => if i ≤ 1 then some (min 2 (s.rd portB PORT.CLS_LOSS)) else if 3 ≤ i ∧ i ≤ 5 then some (min 2 (s.rd portB PORT.CLS_REV)) else none
  | 0x20 | 0x21 => if i = 1 ∨ i = 2 then some (s.rd (bk (8 * (p - 0x20))) BUCK.BK_HICCUP_HIC_CLS) else if i = 3 then some 2
      else if i = 4 then s.clsIn (out (12 + 8 * (p - 0x20))) SUPV.OUT_CFG_CLS_OV 1 4 else none
  | 0x22 => if i = 0 ∨ i = 2 then s.clsIn (ldo 0) LDO.LDO_ILIM_OC_CLS 0 2 else if i = 1 then s.clsIn (out 28) SUPV.OUT_CFG_CLS_OV 1 4
      else if i = 3 then some 0 else none
  | 0x23 => if i = 0 then s.clsIn (out 0) SUPV.OUT_CFG_CLS_OV 1 4 else if i = 1 then s.clsIn (out 0) SUPV.OUT_CFG_CLS_UV 0 3
      else if i = 2 then s.clsIn supvB SUPV.VBUS_THR_CLS_OV 2 4 else if i = 3 then some (s.rd supvB SUPV.VBUS_THR_CLS_UV)
      else if i = 4 then s.clsIn supvB SUPV.PORT_OV_CLS 1 3 else some 0
  | _ => none

/-- The same in the pages of measurement, time and memory. -/
def State.forcedClsData (s : State) (p i : Nat) : Option Nat :=
  match p with
  | 0x24 => if i = 5 then some 1 else if i = 6 then some 0 else none
  | 0x25 | 0x26 => some 0
  | 0x27 => if i = 2 then some 0 else if i = 5 ∨ i = 6 then some (s.levelCls 0 i) else none
  | 0x28 => if i = 0 then some 1 else if i = 6 ∨ i = 8 then none else some 0
  | 0x29 => if i = 1 then s.clsIn timeB TIME.CFG_LOSS_CLS 0 2 else if i = 4 then none else some 0
  | 0x2A | 0x2B => if i = 5 ∨ i = 6 then some 1 else if i = 1 ∨ i = 2 ∨ i = 7 then some 0 else none
  | 0x2E => if i = 0 ∨ i = 2 then s.clsIn eccB ECC.CFG_CE_CLS 0 2 else if i = 1 then some (s.ueCls 0) else if i = 3 then some (s.ueCls 1)
      else if i = 4 then s.clsIn eccB ECC.CFG_HARD_CLS 1 4 else some (if i = 5 then 4 else 0)
  | 0x2F => if i = 0 then none else some (if i = 2 then 1 else 0)
  | _ => none

/-- The class of a forced raise (R532). A rise of a thermal node and a supply out of window have a class that depends on what the
force does not name: of the classes possible there, which one is not stated. (DEDUCED, log 41.) -/
def State.forcedCls (s : State) (p i : Nat) : Nat × State :=
  let ev := forcedEv p i
  if p = 0x27 ∧ i = 0 then let d := s.draw; (d.2.levelCls 0 (d.1.toNat % 6 + 1), d.2)
  else if p = 0x23 ∧ i = 6 then let d := s.draw; (if d.1.toNat % 2 = 0 then 3 else 1, d.2)
  else
    let c := if p < 0x0C then s.forcedClsSys p i else if p < 0x24 then s.forcedClsPower p i else s.forcedClsData p i
    (c.getD (s.dcls ev), s)

/-- A bit of ERR_FORCE written with 1 (R499). (DEDUCED, log 41.) -/
def State.errForce1 (s : State) (p i : Nat) : State :=
  let b := pg p
  let s1 := s.errQ b i (forcedEv p i)
  if silentPage b then s1
  else
    let q := s1.forcedCls p i
    if s.bit b (HDR.ERR_MASK.at i) ∧ q.1 ≤ 1 then q.2 else q.2.forceRaise (forcedEv p i) q.1

/-- ERR_FORCE of page `p` written. -/
def State.errForce (s : State) (p : Nat) (v : Word) : State :=
  s.each (onesFrom (v &&& accBits (fun x => x == .w1s) (pg p + 0x10)) 0) fun i t => t.errForce1 p i

def execErrForceWrite (c : Fin 8) (p : BitVec 6) (v : Word) (s : State) : Host.Outcome State Fault Refusal :=
  .next (s.ifWrites c (pg p.toNat + 0x10) v fun s => s.errForce p.toNat v).settle

/-- FLT.FCTRL written: CLS, and LIVE, which only SERVICE accepts (R382). (DEDUCED, log 41.) -/
def State.fctrl (s : State) (v : Word) : State :=
  let s1 := s.wr fltB FLT.FCTRL_CLS (getBits v 1 3)
  if getBits v 0 1 = 0 then s1.wr fltB FLT.FCTRL_LIVE 0
  else if s.mode = mSERVICE then s1.wr fltB FLT.FCTRL_LIVE 1
  else s1.errQ fltB 1 0

def execFctrlLiveWrite (c : Fin 8) (v : Word) (s : State) : Host.Outcome State Fault Refusal :=
  .next (s.ifWrites c (fltB + 0x40) v fun s => s.fctrl v).settle

end Sys2Proof.Machine
end

