-- ==== Sys2Proof/Machine/Pins.lean ====
section
/-! DEFINITION. Locks and owners of pages (R500, R501), GPIO pins (R509 to R512), the VIO supply (R516), and the test access
port (R524). -/

namespace Sys2Proof.Machine

open Sys2Proof

/-! LOCK and OWNER. -/

/-- LOCK of page `p` written by context `c`: 0x5EED unlocks, 0 locks, any other value is ignored (R500). -/
def State.lockWrite (s : State) (c p : Nat) (v : Word) : State :=
  if v = 0x5EED then (s.wr (pg p) HDR.LOCK_UNLOCKED 1).wr (pg p) HDR.LOCK_CTX c
  else if v = 0 then s.wr (pg p) HDR.LOCK_UNLOCKED 0
  else s

def execLockWrite (c : Fin 8) (p : BitVec 6) (v : Word) (s : State) : Host.Outcome State Fault Refusal :=
  .next (s.ifWrites c (pg p.toNat + 0x20) v fun s => s.lockWrite c p.toNat v).settle

/-- OWNER of page `p` written: 0x8 to 0xE are stored as 0xF (R319). -/
def State.ownerWrite (s : State) (p : Nat) (v : Word) : State :=
  s.wr (pg p) HDR.OWNER (if getBits v 0 4 < 8 then getBits v 0 4 else 0xF)

def execOwnerWrite (c : Fin 8) (p : BitVec 6) (v : Word) (s : State) : Host.Outcome State Fault Refusal :=
  .next (s.ifWrites c (pg p.toNat + 0x24) v fun s => s.ownerWrite p.toNat v).settle

/-! GPIO. -/

/-- A qualified edge of a pin in this tick is noted. -/
def State.gpioMark (s : State) (n : Nat) : State :=
  let h := if s.gpioHit.1 = s.tick then s.gpioHit.2 else (0, 0)
  { s with gpioHit := (s.tick, h.1 ||| 2 ^ n, if s.bit gpioB (HDR.IRQ_PEND.at (16 + n)) then h.2 ||| 2 ^ n else h.2) }

/-- The filtered level of a pin changes; a qualified edge sets its bit (R512). (DEDUCED, log 30.) -/
def State.gpioEdge (s : State) (n : Nat) (lvl : Bool) : State :=
  if s.bit gpioB (GPIO.STATUS_IN.at n) = lvl then s
  else
    let s1 := s.wrB gpioB (GPIO.STATUS_IN.at n) lvl
    let e := s.rd (pin n) GPIO.PIN_CFG_EDGE
    if e = 3 ∨ (e = 1 ∧ lvl) ∨ (e = 2 ∧ !lvl) then (s1.gpioMark n).irq gpioB (16 + n) 134 else s1

/-- A clear of IRQ_PEND comes before the edges of its tick (R511): their bits set again. -/
def State.gpioAgain (s : State) : State :=
  if s.gpioHit.1 = s.tick then
    s.each (List.range 16) fun n t =>
      if s.gpioHit.2.2.testBit n then t.irq gpioB (16 + n) 134
      else if s.gpioHit.2.1.testBit n then t.wr gpioB (HDR.IRQ_PEND.at (16 + n)) 1 else t
  else s

/-- The pin has stood at the level for `us` microseconds; PINn_CFG.FILT filters. -/
def execGpioEdge (n : Fin 16) (lvl : Bool) (us : Nat) (s : State) : Host.Outcome State Fault Refusal :=
  .next (if s.up && !s.vioOut && decide (s.rd (pin n) GPIO.PIN_CFG_FILT ≤ us) then s.gpioEdge n lvl else s).settle

def State.gpioOut (s : State) : Nat := s.rd gpioB GPIO.OUT_LVL
def State.outSet (s : State) (v : Word) : State := s.wr gpioB GPIO.OUT_LVL (s.gpioOut ||| getBits v 0 16)
def State.outClr (s : State) (v : Word) : State := s.wr gpioB GPIO.OUT_LVL (s.gpioOut &&& (0xFFFF - getBits v 0 16))

def execOutSet (c : Fin 8) (v : Word) (s : State) : Host.Outcome State Fault Refusal :=
  .next (s.ifWrites c (gpioB + 0x84) v fun s => s.outSet v).settle

def execOutClr (c : Fin 8) (v : Word) (s : State) : Host.Outcome State Fault Refusal :=
  .next (s.ifWrites c (gpioB + 0x88) v fun s => s.outClr v).settle

/-! VIO (R516, R527). -/

/-- VIO is lost: hints read low, and two-wire transfers end as by CTRL.RESET. (DEDUCED, log 30.) -/
def State.vioLoss (s : State) : State :=
  let s1 := { s with vioOut := true }
  if s.up then
    let s2 := s1.each ((List.range 12).filter (fun r => s1.bit (pg 0x0D) (PHX.HINTLVL_LVL.at r))) fun r t => t.hintEdge r false [] []
    (s2.twCtrl 0 1).twCtrl 1 1
  else s1

/-- VIO stands at `mv`, and has for `us` microseconds. -/
def execVioLoss (mv us : Nat) (s : State) : Host.Outcome State Fault Refusal :=
  .next (if s.vioOut ∨ 1500 ≤ mv ∨ us < 2 then s else s.vioLoss).settle

def execVioReturn (mv : Nat) (s : State) : Host.Outcome State Fault Refusal :=
  .next (if 1500 ≤ mv then { s with vioOut := false } else s).settle

/-! The test access port. -/

/-- The next state of the port at a rising TCK (IEEE 1149.1). (PRESUMED, log 61.) -/
def TapSt.next : TapSt → Bool → TapSt
  | .reset, m => if m then .reset else .idle
  | .idle, m => if m then .selDr else .idle
  | .selDr, m => if m then .selIr else .capDr
  | .capDr, m => if m then .ex1Dr else .shDr
  | .shDr, m => if m then .ex1Dr else .shDr
  | .ex1Dr, m => if m then .updDr else .pauDr
  | .pauDr, m => if m then .ex2Dr else .pauDr
  | .ex2Dr, m => if m then .updDr else .shDr
  | .updDr, m => if m then .selDr else .idle
  | .selIr, m => if m then .reset else .capIr
  | .capIr, m => if m then .ex1Ir else .shIr
  | .shIr, m => if m then .ex1Ir else .shIr
  | .ex1Ir, m => if m then .updIr else .pauIr
  | .pauIr, m => if m then .ex2Ir else .pauIr
  | .ex2Ir, m => if m then .updIr else .shIr
  | .updIr, m => if m then .selDr else .idle

/-- The instruction in force: EXTEST acts in HOLD only, and as BYPASS elsewhere (R524). -/
def State.tapActs (s : State) : TapIns := if s.tapIns = .extest ∧ s.mode ≠ mHOLD then .bypass else s.tapIns

/-- The boundary register in force, which EXTEST and SAMPLE/PRELOAD select. -/
def State.tapCells (s : State) : Bool := s.tapActs != TapIns.bypass

/-- What a state of the port does at a rising TCK with `d` on TDI and the pins at `lv`: a capture, or a shift by one place whose
lowest bit leaves by TDO. The bits of the instruction register are not stated. (PRESUMED, log 61.) -/
def State.tapAct (s : State) (lv : List Bool) (d : Bool) : State :=
  match s.tap with
  | .capDr => if s.tapCells then { s with bsCells := (List.range 69).map (fun i => (lv[i]?).getD false) } else { s with tapBit := false }
  | .shDr => if s.tapCells then { s with tdo := s.tdo ++ s.bsCells.take 1, bsCells := s.bsCells.drop 1 ++ [d] }
      else { s with tdo := s.tdo ++ [s.tapBit], tapBit := d }
  | .shIr => let b := s.draw; { b.2 with tdo := b.2.tdo ++ [b.1.getLsbD 0] }
  | _ => s

/-- One TCK cycle. `ins`: the instruction whose code stands in the instruction register. (PRESUMED, log 61.) -/
def State.tapClock (s : State) (ins : TapIns) (lv : List Bool) (m d : Bool) : State :=
  let s1 := s.tapAct lv d
  let n := s.tap.next m
  match n with
  | .reset => { s1 with tap := n, tapIns := .bypass }
  | .updIr => { s1 with tap := n, tapIns := ins }
  | .updDr => { s1 with tap := n, bsUpd := if s1.tapCells then s1.bsCells else s1.bsUpd }
  | _ => { s1 with tap := n }

/-- (PRESUMED, log 61.) -/
def State.tapRun (s : State) (ins : TapIns) (lv : List Bool) : List (Bool × Bool) → State
  | [] => s
  | x :: t => (s.tapClock ins lv x.1 x.2).tapRun ins lv t

/-- `lv`: the levels of the pins that have cells, in the order of the ball table: HINT0 to 11, HIRQ0 to 7, TWI0_SCL to TWI1_SDA,
SCK, SDI, SDO, CS0 and CS1 of ports A to D, FLA, FLB, GPIO0 to 15, PPS, WAKE0 to 3, SAFE_N, SERVICE_N. (DESIGN CHOICE, log 81.) -/
def execTestAccessPort (tms tdi lv : List Bool) (ins : TapIns) (s : State) : Host.Outcome State Fault Refusal :=
  .next (if s.up && !s.vioOut then { s with tdo := [] }.tapRun ins lv (tms.zip tdi) else s).settle

/-- What EXTEST drives on the pin of a cell (R524); nothing where it does not act. (DESIGN CHOICE, log 81.) -/
def State.extest (s : State) (k : Nat) : Option Bool := if s.tapActs = TapIns.extest then s.bsUpd[k]? else none

end Sys2Proof.Machine
end

