-- ==== Sys2Proof/Machine/RegWrite.lean ====
section
/-! DEFINITION. The effect of an accepted write on every register of every page: what R14, R17 and R18 say of its fields, and
the operation of its own where its chapter gives one. Each function takes the page offset `o`, the selected bits `m` and the
written word `v`. -/

namespace Sys2Proof.Machine

open Sys2Proof

/-- A 15-bit count in each half, each with its SAT bit. -/
def satPair : List (Nat × Word) := [(15, 0x7FFF), (31, 0x7FFF0000)]

/-- The SAT bits of a register, with the bits of the count that a write of 1 to each clears. -/
def satBits (p o : Nat) : List (Nat × Word) :=
  if p = 0x01 ∧ 0x80 ≤ o then [(15, 0x7FFF7FFF)]
  else if p = 0x03 ∧ 0x80 ≤ o ∧ o % 16 = 4 then [(31, 0xFFFF)]
  else if p = 0x04 ∧ 0x80 ≤ o ∧ o < 0x180 ∧ o % 32 = 24 then [(31, 0x7FFF0000)]
  else if p = 0x05 ∧ 0x60 ≤ o ∧ o ≤ 0x80 then [(31, 0x7FFF0000)]
  else if (0x10 ≤ p ∧ p ≤ 0x1B ∧ (o = 0x90 ∨ o = 0x94)) ∨ (p = 0x0A ∧ o = 0x9C) then [(31, 0xFFFF)]
  else if p = 0x24 ∧ (o = 0x50 ∨ o = 0x54) then [(31, 0x7FFFFF00)]
  else if (p = 0x03 ∧ 0x80 ≤ o ∧ o % 16 = 12) ∨ (p = 0x07 ∧ o = 0x4C) ∨ (p = 0x08 ∧ 0x80 ≤ o ∧ o < 0x280 ∧ o % 16 = 8) ∨
      (p = 0x28 ∧ o = 0x84) ∨ (p = 0x2F ∧ o = 0x4C) then [(31, 0x7FFFFFFF)]
  else if (p = 0x02 ∧ 0x80 ≤ o ∧ o % 16 = 8) ∨ (p = 0x0A ∧ 0xA0 ≤ o) ∨ (p = 0x0B ∧ o = 0x4C) ∨
      ((p = 0x0C ∨ p = 0x0D) ∧ 0x240 ≤ o ∧ o < 0x3C0 ∧ (o % 0x40 = 0x30 ∨ o % 0x40 = 0x34)) ∨
      (0x10 ≤ p ∧ p ≤ 0x1B ∧ o = 0x114) ∨ (p = 0x1D ∧ 0x78 ≤ o) ∨ (p = 0x29 ∧ o = 0x74) ∨ (p = 0x2A ∧ o = 0x4C) ∨
      (p = 0x2B ∧ o = 0x4C) ∨ (p = 0x2E ∧ (o = 0x44 ∨ o = 0x48)) ∨ (p = 0x30 ∧ o = 0x4C) then satPair
  else []

/-- The word of register `a` after the selected bits `m` take `v`: RW, RWL and RWH bits store, W1C bits written 1 clear, and so
do the counts of SAT bits (R14, R18). -/
def nextWord (a : Nat) (w m v : Word) : Word :=
  let q := rwBits a &&& m
  let c := accBits (fun x => x == .w1c) a &&& m &&& v
  let k := (satBits (a / 0x400) (a % 0x400)).foldl (fun x e => if c.toNat.testBit e.1 then x ||| e.2 else x) c
  ((w &&& ~~~ q) ||| (v &&& q)) &&& ~~~ k

/-- The register at key `k`, whose fields are those of address `a`, is written. -/
def State.putAt (s : State) (k a : Nat) (m v : Word) : State := s.setW k (nextWord a (s.getW k) m v)

def State.put (s : State) (a : Nat) (m v : Word) : State := s.putAt a a m v

/-- The word a write makes of an old word, whatever the fields (R321). (DEDUCED, log 26.) -/
def mixed (w m v : Word) : Word := (w &&& ~~~ m) ||| (v &&& m)

/-- Is any bit of the field selected? -/
def sel (m : Word) (f : Fld) : Bool := (m &&& bitMask f.lo f.w) != 0

/-- The mask without a field. -/
def cut (m : Word) (f : Fld) : Word := m &&& ~~~ bitMask f.lo f.w

/-- A command register takes the selected bits of the word, where any is selected. (DEDUCED, log 26.) -/
def State.cmdReg (s : State) (m : Word) (f : State → State) : State := if m = 0 then s else f s

/-- EN of an output, written by a host: set or cleared (R85). -/
def State.enWrite (s : State) (x : Nat) (b : Bool) (imon : List (Fin 56 × Nat)) : State := if b then s.hostOn x imon else s.hostOff x

/-! The pages. -/

def State.wrDEV (s : State) (c o : Nat) (m v : Word) : State :=
  if o = 0x84 then s.cmdReg m fun s => s.modeReq c (v &&& m)
  else if o = 0x9C then s.replaceClear (v &&& m)
  else if o = 0x88 then (s.put o m v).wakeCfg
  else s.put o m v

def State.wrCLK (s : State) (o : Nat) (m v : Word) : State :=
  if o = 0x44 then s.clkRet (v &&& m) else s.put (clkB + o) m v

/-- CTXn_CFG (R326): any write of it while EN is 1 is ignored. (DEDUCED, log 24.) -/
def State.ringCfg (s : State) (a : Nat) (m v : Word) : State :=
  if (s.getW a).getLsbD 0 then s.err cqeB 2 130 none none else s.setW a (nextWord a (s.getW a) m v)

def State.wrCQE (s : State) (c : Fin 8) (o : Nat) (m v : Word) : State :=
  if 0x180 ≤ o ∧ o < 0x200 then s.putAt (ck c + cqeB + o) (cqeB + o) m v
  else
    let own := decide (0x40 ≤ o ∧ o < 0x60)
    let n : Fin 8 := if own then c else Fin.ofNat 8 ((o - 0x80) / 32)
    let r := if own then o - 0x40 else (o - 0x80) % 32
    if !own && !decide (0x80 ≤ o ∧ o < 0x180) then s.put (cqeB + o) m v
    else if r = 0 then (if own then s else s.ringCfg (cqeC n) m v)
    else if r = 4 ∧ own then s
    else if r = 0x14 then (s.put (cqeC n + r) m v).ringIrq n
    else s.put (cqeC n + r) m v

def State.wrARB (s : State) (c o : Nat) (m v : Word) : State :=
  if o = 0x4C then s.cmdReg m fun s => s.selfReq c (v &&& m)
  else if o = 0x50 then s.putAt (ck c + arbB + o) (arbB + o) m v
  else s.put (arbB + o) m v

/-- A register of context `n` behind the INT window; events 144 to 159 have no bits and no priority (R366). -/
def State.intRegPut (s : State) (n : Fin 8) (o : Nat) (m v : Word) : State :=
  let q : Word := if o = 0x70 ∨ o = 0x90 ∨ o = 0xD0 then 0xFFFF else if 0x190 ≤ o then 0 else 0xFFFFFFFF
  (s.putAt (intC n + o) (intB + o) (m &&& q) v).intRefresh n

/-- The INT window shows the context that CTXSEL names (R364). -/
def State.wrINT (s : State) (c : Fin 8) (o : Nat) (m v : Word) : State :=
  if o < 0x40 then s.put (intB + o) m v
  else if o = 0x40 then s.putAt (intC c + o) (intB + o) m v
  else if o = 0x4C then s.cmdReg m fun s => s.claimDone c (v &&& m)
  else if o = 0x54 then s.cmdReg m fun s => s.setPend c (v &&& m)
  else s.intRegPut (Fin.ofNat 8 (s.intSel c)) o m v

def State.wrFLT (s : State) (o : Nat) (m v : Word) : State :=
  if o = 0x40 then s.fctrl (mixed (s.getW (fltB + o)) m v)
  else if o = 0x44 then s.cmdReg m fun s => s.ackWrite (v &&& m)
  else if 0x60 ≤ o ∧ o < 0x74 then s.latAck ((o - 0x60) / 4) (v &&& m)
  else if 0x80 ≤ o ∧ o < 0x94 then s.fltForce ((o - 0x80) / 4) (v &&& m)
  else if 0x128 ≤ o ∧ o < 0x140 then s
  else s.put (fltB + o) m v

def State.wrWDG (s : State) (c o : Nat) (m v : Word) : State :=
  if o = 0x40 then s.cmdReg m fun s => s.kick c (v &&& m)
  else if 0x80 ≤ o ∧ o < 0x280 ∧ o % 16 = 0 then s.owlCfg ((o - 0x80) / 16) (mixed (s.getW (wdgB + o)) m v)
  else if 0x80 ≤ o ∧ o < 0x280 ∧ o % 16 = 4 then s.owlTime ((o - 0x80) / 16) (mixed (s.getW (wdgB + o)) m v)
  else s.put (wdgB + o) m v

def State.wrSEQ (s : State) (o : Nat) (m v : Word) : State :=
  if 0x100 ≤ o then
    let k := (o - 0x100) / 8
    s.stepWrite k (o % 8 == 4) (mixed (s.getW (stepB (s.rd seqB SEQ.TABSEL_TAB) k + o % 8)) m v)
  else s.put (seqB + o) m v

def State.wrFLAIL (s : State) (c o : Nat) (m v : Word) : State :=
  if o = 0x54 then (if (v &&& m).getLsbD 0 then s.alarmAsk false else s)
  else if o = 0x58 then s.cmdReg m fun s => s.mctrl c (getBits (v &&& m) 0 3) (getBits (v &&& m) 8 8)
  else if o = 0x40 then (s.put (flailB + o) m v).roleWatch
  else s.put (flailB + o) m v

/-- NEXT of an output: outside −20 to +20 the nearer limit is stored (R273). -/
def State.margNext (s : State) (x : Nat) (m v : Word) : State :=
  let s1 := s.put (marg x) m v
  let i := s1.rdI (marg x) MARG.OUT_NEXT
  let j := clampI (-20) 20 i
  if i = j then s1 else (s1.wrI (marg x) MARG.OUT_NEXT j).errQ margB 1 0

def State.wrMARG (s : State) (o : Nat) (m v : Word) : State :=
  if o = 0x40 then
    let s1 := if (v &&& m).getLsbD 0 then s.margApply else s
    if (v &&& m).getLsbD 1 then s1.setArm false else s1
  else if o = 0x44 then
    let s1 := s.put (margB + o) (cut m MARG.SYNC_ARM) v
    if sel m MARG.SYNC_ARM then s1.setArm (v.getLsbD 8) else s1
  else if 0x80 ≤ o then s.margNext ((o - 0x80) / 4) m v
  else s.put (margB + o) m v

/-- A rail that is not OFF refuses its sheaf's configuration (R105). -/
def State.mapBusy (s : State) (p r : Nat) : State := s.err (pg p) 0 r none none

/-- MAPnn: both the old and the new rail must be OFF (R105); RAIL and ROLE of PH48 to PH55 are not written (R104). -/
def State.mapWrite (s : State) (pgn p : Nat) (m v : Word) : State :=
  if 48 ≤ p then s.put (ph p) (cut (cut m PHX.MAP_RAIL) PHX.MAP_ROLE) v
  else
    let s1 := s.put (ph p) m v
    match [s.phRail p, s1.phRail p].find? (fun r => decide (r < 12) && s.outSt r != 0) with
    | some r => s.mapBusy pgn r
    | none =>
      if s1.getW (ph p) = s.getW (ph p) then s1
      else (s1.phRest p (s1.restState p)).each ([s.phRail p, s1.phRail p].filter (fun r => decide (r < 12))) fun r t => t.lidStale r

/-- IMCFGnn of a phase whose rail is not OFF is refused (R105). -/
def State.imWrite (s : State) (pgn p : Nat) (m v : Word) : State :=
  if p < 48 ∧ s.phRail p < 12 ∧ s.outSt (s.phRail p) ≠ 0 then s.mapBusy pgn (s.phRail p) else s.put (ph p + 4) m v

/-- PHX. OFFSET of a sheaf with TBAL_EN is not the host's to write (R112). -/
def State.wrPHX (s : State) (p o : Nat) (m v : Word) : State :=
  let a := pg p + o
  let i := (o - 0x40) / 16 + 32 * (p - 0x0C)
  let r := (o - 0x240) / 0x40 + 6 * (p - 0x0C)
  if 0x40 ≤ o ∧ o < 0x240 ∧ i < 56 ∧ o % 16 = 0 then s.mapWrite p i m v
  else if 0x40 ≤ o ∧ o < 0x240 ∧ i < 56 ∧ o % 16 = 4 then s.imWrite p i m v
  else if 0x40 ≤ o ∧ o < 0x240 ∧ i < 56 ∧ o % 16 = 8 ∧ s.phRail i < 12 ∧ s.bit (sheaf (s.phRail i)) PHX.SH_CFG_TBAL_EN then
    s.put a (cut m PHX.SHARE_OFFSET) v
  else if 0x240 ≤ o ∧ o < 0x3C0 ∧ o % 0x40 < 0x28 ∧ s.outSt r ≠ 0 then s.mapBusy p r
  else s.put a m v

def State.wrRAIL (s : State) (n o : Nat) (imon : List (Fin 56 × Nat)) (m v : Word) : State :=
  let a := rail n + o
  if o = 0x40 then
    let s1 := s.put a (cut m RAIL.CTRL_EN) v
    if sel m RAIL.CTRL_EN then s1.enWrite n (v.getLsbD 0) imon else s1
  else if o = 0x44 then (if sel m RAIL.VSET_CODE then s.setVset n (getBits (mixed (s.getW a) m v) 0 12) else s)
  else if o = 0x48 then (s.put a m v).retarget n
  else if o = 0x54 then s.cmdReg m fun s => s.setFsw n (mixed (s.getW a) m v)
  else if o = 0x68 then (if (v &&& m) &&& 3 = 0 then s else s.coefCtrl n ((v &&& m).getLsbD 0) ((v &&& m).getLsbD 1))
  else s.put a m v

/-- FSW is written in OFF and HALT only (R176). -/
def State.wrBUSC (s : State) (o : Nat) (m v : Word) : State :=
  if o = 0x40 then (if sel m BUSC.CTRL_EN then s.setBusEn (v.getLsbD 0) else s)
  else if o = 0x44 ∧ s.busSt ≠ bOFF ∧ s.busSt ≠ bHALT then s.err buscB 3 102 none none
  else (s.put (buscB + o) m v).busWatch

/-- A field held inside its range, where it is selected; outside it the nearer limit is stored and told (R178). -/
def State.chgRange (s : State) (m : Word) (f : Fld) (lo hi : Nat) : State :=
  let n := s.rd chgB f
  if sel m f && n != clampN lo hi n then (s.wr chgB f (clampN lo hi n)).err chgB 4 103 none none else s

/-- CHG.CFG: CHEM and CELLS are written while EN is 0 (R200). -/
def State.chgCfg (s : State) (m v : Word) : State :=
  let a := chgB + 0x40
  let on := s.bit chgB CHG.CFG_EN
  let busy := on && (sel m CHG.CFG_CHEM || sel m CHG.CFG_CELLS)
  let q := cut (if on then cut (cut m CHG.CFG_CHEM) CHG.CFG_CELLS else m) CHG.CFG_EN
  let s1 := s.put a q v
  let s2 := if busy then s1.err chgB 5 103 none none else s1.chgRange (if sel q CHG.CFG_CHEM then 0xFFFFFFFF else q) CHG.CFG_CELLS (if s1.bit chgB CHG.CFG_CHEM then 4 else 3) 5
  let s3 := if sel m CHG.CFG_NTC_EN && !v.getLsbD 5 then (s2.wr chgB CHG.TEMP_NTC_ST 3).modChg (fun h => { h with ntcSeen := false }) else s2
  if sel m CHG.CFG_EN && v.getLsbD 0 != on then s3.chgEn (v.getLsbD 0) else s3

def State.wrCHG (s : State) (o : Nat) (m v : Word) : State :=
  let lfp := s.bit chgB CHG.CFG_CHEM
  if o = 0x40 then s.chgCfg m v
  else
    let s1 := s.put (chgB + o) m v
    if o = 0x44 then (s1.chgRange m CHG.VCHG_VCV (if lfp then 3400 else 4100) (if lfp then 3650 else 4250)).chgRange m CHG.VCHG_VPRE
      (if lfp then 2000 else 2500) (if lfp then 2900 else 3200)
    else if o = 0x48 then (s1.chgRange m CHG.ICHG_SET 5 400).chgRange m CHG.ICHG_IPRE 1 40
    else if o = 0x60 then s1.chgWatch
    else s1

def State.wrPORT (s : State) (o : Nat) (m v : Word) : State :=
  if o = 0x40 ∨ o = 0x50 then
    let p := (o - 0x40) / 16
    let s1 := s.put (portB + o) (cut (cut m PORT.P_CFG_EN) PORT.P_CFG_BLOCK) v
    let s2 := if sel m PORT.P_CFG_EN then s1.setPEn p (v.getLsbD 0) else s1
    if sel m PORT.P_CFG_BLOCK then s2.setBlock p (v.getLsbD 1) else s2
  else if o = 0x60 then
    let s1 := s.put (portB + o) (cut m PORT.NCFG_EN) v
    if sel m PORT.NCFG_EN then s1.setNEn (v.getLsbD 0) else s1
  else s.put (portB + o) m v

/-- A pair's PAR written; odd bucks have none (R210). -/
def State.parWrite (s : State) (n : Nat) (b : Bool) : State := if n % 2 = 0 then s.setPar (n / 2) b else s

def State.wrBUCK (s : State) (p o : Nat) (m v : Word) : State :=
  let n := (o - 0x40) / 32 + 8 * (p - 0x20)
  let a := pg p + o
  if 0x40 ≤ o ∧ o < 0x140 then
    if o % 32 = 0 then
      let s1 := s.put a (cut (cut m BUCK.BK_CTRL_EN) BUCK.BK_CTRL_PAR) v
      let s2 := if sel m BUCK.BK_CTRL_PAR then s1.parWrite n (v.getLsbD 1) else s1
      if sel m BUCK.BK_CTRL_EN then s2.enWrite (12 + n) (v.getLsbD 0) [] else s2
    else if o % 32 = 4 then (if sel m BUCK.BK_VSET_CODE then s.setVset (12 + n) (getBits (mixed (s.getW a) m v) 0 11) else s)
    else if o % 32 = 8 then (s.put a m v).retarget (12 + n)
    else s.put a m v
  else s.put a m v

def State.wrLDO (s : State) (o : Nat) (m v : Word) : State :=
  let a := ldoB + o
  let x := if o < 0xE0 then 28 + (o - 0x40) / 16 else 38 + (o - 0xE0) / 16
  if 0x40 ≤ o ∧ o < 0x160 ∧ o % 16 = 0 then
    let s1 := s.put a (m &&& 0xFFFFFFFE) v
    let s2 := if 38 ≤ x && sel m LDO.LS_CTRL_REV_EN && !v.getLsbD 1 then s1.lsClose (x - 38) else s1
    if m.getLsbD 0 then s2.enWrite x (v.getLsbD 0) [] else s2
  else if 0x40 ≤ o ∧ o < 0xE0 ∧ o % 16 = 4 then
    let s1 := s.put a (cut m LDO.LDO_VSET_CODE) v
    if sel m LDO.LDO_VSET_CODE then s1.setVset x (getBits (mixed (s1.getW a) m v) 0 10) else s1.retarget x
  else s.put a m v

/-- DIS_FORCE written (R153): 1 engages discharge; 0 releases one that nothing else engages. That of a follower has no effect
(R210). -/
def State.disForceWrite (s : State) (x : Nat) (b : Bool) : State :=
  if b then s.disForce x
  else if s.follows x then s.wr (out x) SUPV.OUT_OFF_DIS_FORCE 0
  else if s.bit (out x) SUPV.OUT_OFF_DIS_EN ∨ (s.held x ∧ s.bit (out x) SUPV.OUT_CFG_SAFE_DIS) ∨ (mSAFE ≤ s.mode ∧ s.bit (out x) SUPV.OUT_CFG_SAFE_DIS)
    then s.wr (out x) SUPV.OUT_OFF_DIS_FORCE 0
  else if s.bit (out x) SUPV.OUT_OFF_DIS_FORCE then s.undischarge x
  else s

def State.wrSUPV (s : State) (o : Nat) (m v : Word) : State :=
  let a := supvB + o
  if 0x40 ≤ o ∧ o < 0x268 ∧ (o - 0x40) % 12 = 8 then
    let q := if (o - 0x40) / 12 < 12 then m else cut m SUPV.OUT_OFF_DIS_PIN
    let s1 := s.put a (cut q SUPV.OUT_OFF_DIS_FORCE) v
    if sel m SUPV.OUT_OFF_DIS_FORCE then s1.disForceWrite ((o - 0x40) / 12) (v.getLsbD 9) else s1
  else s.put a m v

/-- The channel of CHCFG and CHCAL: CHSEL, above 191 as 191. -/
def State.chSel (s : State) : Nat := min 191 (s.rd adcB ADC.CHSEL_CH)

/-- CHCFG written: with WIN 0 the result set is the running accumulator at once (R282). -/
def State.winWrite (s : State) (v : Word) : State :=
  let ch := s.chSel
  let s1 := s.setChCfg ch v
  if s1.chWin ch = 0 then s1.setResult ch (s1.acc ch).sum (s1.acc ch).cnt else s1

def State.wrADC (s : State) (c o : Nat) (m v : Word) : State :=
  let a := adcB + o
  if o = 0x40 then (if m.getLsbD 0 then (if v.getLsbD 0 then s.refOn else s.refOff) else s)
  else if o = 0x48 ∨ o = 0x4C then s.cmdReg m fun s => s.convWrite ((o - 0x48) / 4) (mixed (s.getW a) m v)
  else if o = 0x58 then s.cmdReg m fun s => s.adcUrg c (v &&& m)
  else if o = 0x68 then s.winWrite (mixed (s.chCfg s.chSel) (m &&& 0xF) v)
  else if o = 0x6C then s.setChCal s.chSel (mixed (s.chCal s.chSel) m v)
  else if 0x100 ≤ o then
    let w := (o - 0x100) / 4
    s.adcTabWrite w (mixed (s.getW (adcTab (s.rd adcB ADC.TABSEL_CONV) w)) m v)
  else s.put a m v

def State.wrACC (s : State) (c i o : Nat) (m v : Word) : State :=
  let a := accB i + o
  if o = 0x40 then s.cmdReg m fun s => s.aclr i (v &&& m)
  else if o = 0x44 then s.cmdReg m fun s => s.tclr i (v &&& m)
  else if o = 0x48 then s.putAt (ck c + a) a m v
  else if 0x4C ≤ o ∧ o < 0x58 then s.satClear i ((o - 0x4C) / 4) (v &&& m)
  else s.put a m v

/-- EN of node 0 reads 1 whatever is written (R307). -/
def State.wrTHM (s : State) (o : Nat) (m v : Word) : State :=
  if o = 0x39C then s.cmdReg m fun s => s.hostAnchor (v &&& m)
  else if o = 0x40 then (s.put (thmB + o) m v).wr (node 0) THM.NODE_CFG_EN 1
  else s.put (thmB + o) m v

/-- The held field whose register lies at an offset. -/
def heldOf (o : Nat) : Option (Fin 5) :=
  if o = 0x48 then some 0 else if o = 0x4C then some 1 else if o = 0x50 then some 2 else if o = 0x54 then some 3
  else if o = 0x5C then some 4 else none

def State.wrRTC (s : State) (c : Fin 8) (o : Nat) (m v : Word) : State :=
  let a := rtcB + o
  if o = 0x0C then
    let s1 := s.put a (m &&& 0xFFFFFFFE) v
    if (v &&& m).getLsbD 0 then s1.osfClear else s1
  else if o = 0x44 then s.cmdReg m fun s => s.rtcCommit (mixed (s.getW a) m v)
  else if o = 0x64 then s.rtcCtrl c (v &&& m)
  else match heldOf o with
    | some k => s.cmdReg m fun s => s.rtcHold c k (mixed (s.getW a) m v)
    | none => s.put a m v

def State.wrTIME (s : State) (o : Nat) (m v : Word) : State :=
  if o = 0x64 then s.timeCtrl (getBits (v &&& m) 0 2) else s.put (timeB + o) m v

def State.wrTWI (s : State) (i : Fin 2) (o : Nat) (m v : Word) : State :=
  let a := twiB i + o
  if o = 0x40 then s.cmdReg m fun s => s.twCfg i (mixed (s.getW a) m v)
  else if o = 0x44 then s.twCtrl i (v &&& m)
  else s.put a m v

def State.wrOTP (s : State) (c o : Nat) (m v : Word) : State :=
  let a := otpB + o
  if o = 0x54 then s.putAt (ck c + a) a m v
  else if o = 0x6C then s.ovrCtrl c (getBits (v &&& m) 0 2)
  else s.put a m v

def State.wrNVM (s : State) (o : Nat) (fail : Bool) (m v : Word) : State :=
  if o = 0x4C then (if getBits (v &&& m) 0 2 = 0 then s else s.ldrCtrl (v &&& m) fail) else s.put (nvmB + o) m v

def State.wrECC (s : State) (o : Nat) (m v : Word) : State :=
  if o = 0x40 then (s.put (eccB + o) m v).retShow else s.put (eccB + o) m v

def State.wrLOG (s : State) (c o : Nat) (m v : Word) : State :=
  let a := logB + o
  if o = 0x44 ∨ o = 0x48 then s.putAt (ck c + a) a m v else s.put a m v

def State.wrGPIO (s : State) (o : Nat) (m v : Word) : State :=
  if o = 0x84 then s.outSet (v &&& m) else if o = 0x88 then s.outClr (v &&& m) else s.put (gpioB + o) m v

/-- The registers of the common header that act (R499 to R501), on any page. -/
def State.wrHDR (s : State) (c p o : Nat) (m v : Word) : State :=
  let a := pg p + o
  if o = 0x10 then s.errForce p (v &&& m)
  else if o = 0x1C then s.irqEnable p (mixed (s.getW a) m v)
  else if o = 0x20 then s.lockWrite c p (mixed (s.getW a) m v)
  else if o = 0x24 then s.ownerWrite p (mixed (s.getW a) m v)
  else if p = 0x32 ∧ o = 0x18 then (s.put a m v).gpioAgain
  else s.put a m v

/-- An accepted write by context `c` of the bits `m` of register `a`, but for CQE.SELF_CQH and HIF.RST, which the frame
itself carries out (R324, R331). The first write of the BUSC page ends a cold start (R166). (DEDUCED, log 26.) -/
def State.regWrite (s0 : State) (c : Fin 8) (a : Nat) (m v : Word) (imon : List (Fin 56 × Nat)) (fail : Bool) : State :=
  let p := a / 0x400
  let o := a % 0x400
  let s := if p = 0x1C then s0.busTouched else s0
  if o < 0x40 ∧ !(p == 0x28 && o == 0x0C) then s.wrHDR c p o m v
  else match p with
  | 0x00 => s.wrDEV c o m v
  | 0x01 => s.wrCLK o m v
  | 0x04 => s.wrCQE c o m v
  | 0x05 => s.wrARB c o m v
  | 0x06 => s.wrINT c o m v
  | 0x07 => s.wrFLT o m v
  | 0x08 => s.wrWDG c o m v
  | 0x09 => s.wrSEQ o m v
  | 0x0A => s.wrFLAIL c o m v
  | 0x0B => s.wrMARG o m v
  | 0x0C | 0x0D => s.wrPHX p o m v
  | 0x1C => s.wrBUSC o m v
  | 0x1D => s.wrCHG o m v
  | 0x1E => s.wrPORT o m v
  | 0x20 | 0x21 => s.wrBUCK p o m v
  | 0x22 => s.wrLDO o m v
  | 0x23 => s.wrSUPV o m v
  | 0x24 => s.wrADC c o m v
  | 0x25 => s.wrACC c 0 o m v
  | 0x26 => s.wrACC c 1 o m v
  | 0x27 => s.wrTHM o m v
  | 0x28 => s.wrRTC c o m v
  | 0x29 => s.wrTIME o m v
  | 0x2A => s.wrTWI 0 o m v
  | 0x2B => s.wrTWI 1 o m v
  | 0x2C => s.wrOTP c o m v
  | 0x2D => s.wrNVM o fail m v
  | 0x2E => s.wrECC o m v
  | 0x30 => s.wrLOG c o m v
  | 0x32 => s.wrGPIO o m v
  | _ => if 0x10 ≤ p ∧ p ≤ 0x1B then s.wrRAIL (p - 0x10) o imon m v else s.put a m v

end Sys2Proof.Machine
end

