-- ==== Sys2Proof/Machine/RegRead.lean ====
section
/-! DEFINITION. What a read of every register returns, and what it does (R14): the stored word, or what the window, the copy of
the reading context or the derived value of its chapter gives. -/

namespace Sys2Proof.Machine

open Sys2Proof

/-- The word with `w` bits of a free value from bit `lo` on. (DESIGN CHOICE, log 7; DESIGN CHOICE, log 28.) -/
def State.freeBits (s : State) (x : Word) (lo w : Nat) : Word × State :=
  let d := s.draw
  (putBits x lo w d.1.toNat, d.2)

/-- HIF.STATUS: ACTIVE shows the reading context's own chip select and the others that are low (R336). -/
def State.rdHIF (s : State) (c : Nat) (low : List (Fin 8)) : Word :=
  let x := s.getW (hifB + 8)
  putBits x 16 8 ((List.range 8).foldl (fun a n => if n == c || low.any (fun l => l.val == n) then a + 2 ^ n else a) 0)

/-- FEn_STAT: the LOAD of a running engine is not stated beyond its range (R412). (DESIGN CHOICE, log 28.) -/
def State.rdFeStat (s : State) (n : Nat) : Word × State :=
  let x := s.getW (fe n)
  if s.eng n = eRUN ∨ s.eng n = eROM then let d := s.draw; (putBits x 8 7 (d.1.toNat % 101), d.2) else (x, s)

/-- CQE: the SELF block, the data buffer, and the completion ring, whose slots at or above CQ_SIZE read 0 (R337). -/
def State.rdCQE (s : State) (c o : Nat) : Word :=
  if 0x40 ≤ o ∧ o < 0x60 then s.getW (cqeC c + (o - 0x40))
  else if 0x180 ≤ o ∧ o < 0x200 then s.getW (ck c + cqeB + o)
  else if 0x200 ≤ o then (if (o - 0x200) / 8 < s.cqSize c then s.getW (ck c + cqeB + o) else 0)
  else s.getW (cqeB + o)

/-- INT: CLAIM, CTXSEL, and the window on the context that CTXSEL names (R358, R364). -/
def State.rdINT (s : State) (c : Fin 8) (o : Nat) : Word × State :=
  if o < 0x40 then (s.getW (intB + o), s)
  else if o = 0x40 then (s.getW (intC c + o), s)
  else if o = 0x48 then s.claim c
  else (s.getW (intC (s.intSel c) + o), s)

/-- PHX: MAPnn of PH48 to PH55 reads RAIL 0xF and ROLE 3 (R104). -/
def State.rdPHX (s : State) (p o : Nat) : Word :=
  let x := s.getW (pg p + o)
  if p = 0x0D ∧ 0x140 ≤ o ∧ o < 0x1C0 ∧ o % 16 = 0 then x ||| 0x3F else x

def State.rdADC (s : State) (o : Nat) : Word :=
  if o = 0x68 then s.chCfg s.chSel
  else if o = 0x6C then s.chCal s.chSel
  else if 0x100 ≤ o then s.getW (adcTab (s.rd adcB ADC.TABSEL_CONV) ((o - 0x100) / 4))
  else s.getW (adcB + o)

/-- ACC: TRKj shows channel TSEL.BASE + j of the instance, BASE above 88 as 88 (R286). -/
def State.rdACC (s : State) (c i o : Nat) : Word :=
  if o = 0x48 then s.getW (ck c + accB i + o)
  else if 0x60 ≤ o ∧ o < 0x80 then s.trkWord (96 * i + min 88 (s.rd (ck c + accB i) ACC.TSEL_BASE) + (o - 0x60) / 4)
  else s.getW (accB i + o)

/-- RTC: the calendar through the context's freeze (R471), and FROZEN. -/
def State.rdRTC (s : State) (c : Fin 8) (o : Nat) : Word × State :=
  if o = 8 then (putBits (s.getW (rtcB + 8)) 3 1 (if (s.frzOf c).isSome then 1 else 0), s)
  else if 0x40 ≤ o ∧ o < 0x60 then s.calRead c ((o - 0x40) / 4)
  else (s.getW (rtcB + o), s)

def State.rdTIME (s : State) (c : Fin 8) (o : Nat) : Word × State :=
  if o = 0x40 then s.nsRead c
  else if o = 0x44 then (BitVec.ofNat 32 (s.secRead c).1, s)
  else if o = 0x48 then (BitVec.ofNat 32 (s.secRead c).2, s)
  else (s.getW (timeB + o), s)

/-- FLAIL.STATUS shows the level of the line, which the model holds only where this node itself keeps the line low, and whether a frame
or a step is in progress, of which it does not hold the frames of other nodes (R259). (DESIGN CHOICE, log 28.) -/
def State.rdFLAIL (s : State) (o : Nat) : Word × State :=
  let x := s.getW (flailB + o)
  if o ≠ 8 then (x, s)
  else
    let q := if s.drivesLow then (putBits x 2 1 0, s) else s.freeBits x 2 1
    if s.inStep then (putBits q.1 4 1 1, q.2)
    else if s.bit flailB FLAIL.STATUS_BUSY ∨ !s.listens then q else q.2.freeBits q.1 4 1

/-- TWI.STATUS shows the levels of the bus, which the model does not hold. (DESIGN CHOICE, log 28.) -/
def State.rdTWI (s : State) (i o : Nat) : Word × State :=
  let x := s.getW (twiB i + o)
  if o = 8 then s.freeBits x 3 2 else (x, s)

def State.rdOTP (s : State) (c o : Nat) : Word :=
  let r := s.rd (ck c + otpB) OTP.ROWSEL_ROW
  if o = 8 then putBits (s.getW (otpB + o)) 1 1 (if s.otpBusy then 1 else 0)
  else if o = 0x54 then s.getW (ck c + otpB + o)
  else if o = 0x58 then s.rowStat r
  else if o = 0x5C then s.shdLo r
  else if o = 0x60 then s.shdHi r
  else s.getW (otpB + o)

/-- The NVM byte address behind a register of the LOG windows (R505, R508). -/
def State.logAt (s : State) (c o : Nat) : Nat :=
  if o < 0x200 then 0x3D0000 + (s.rd (ck c + logB) LOG.EV_SEL_INDEX * 8 + (o - 0x100)) % 0x10000
  else 0x3A0000 + 0x400 * min 191 (s.rd (ck c + logB) LOG.SN_SEL_SLOT) + 256 * s.rd (ck c + logB) LOG.SN_SEL_PART + (o - 0x200)

/-- LOG: both windows read 0 until the scan has ended (R506). -/
def State.rdLOG (s : State) (c o : Nat) : Word :=
  if o = 0x44 ∨ o = 0x48 then s.getW (ck c + logB + o)
  else if (0x100 ≤ o ∧ o < 0x180) ∨ 0x200 ≤ o then (if s.bit logB LOG.STATUS_SCAN_DONE then s.nvmWord (s.logAt c o) else 0)
  else if o = 0x50 then putBits (s.getW (logB + o)) 16 8 s.snapBusy
  else s.getW (logB + o)

/-- A read of register `a` by context `c`: its word, and the state after it. `low`: other chip selects that are low.
(DESIGN CHOICE, log 28.) -/
def State.regRead (s : State) (c : Fin 8) (a : Nat) (low : List (Fin 8)) : Word × State :=
  let o := a % 0x400
  match a / 0x400 with
  | 0x02 => if 0x80 ≤ o ∧ o % 16 = 0 then s.rdFeStat ((o - 0x80) / 16)
      else if 0x80 ≤ o ∧ o % 16 = 4 then s.pcNow ((o - 0x80) / 16) else (s.getW a, s)
  | 0x03 => (if o = 8 then s.rdHIF c low else s.getW a, s)
  | 0x04 => (s.rdCQE c o, s)
  | 0x05 => (if o = 0x50 then s.getW (ck c + a) else s.getW a, s)
  | 0x06 => s.rdINT c o
  | 0x09 => (if 0x100 ≤ o then s.getW (stepB (s.rd seqB SEQ.TABSEL_TAB) ((o - 0x100) / 8) + o % 8) else s.getW a, s)
  | 0x0A => s.rdFLAIL o
  | 0x0C => (s.rdPHX 0x0C o, s)
  | 0x0D => (s.rdPHX 0x0D o, s)
  | 0x24 => (s.rdADC o, s)
  | 0x25 => (s.rdACC c 0 o, s)
  | 0x26 => (s.rdACC c 1 o, s)
  | 0x28 => s.rdRTC c o
  | 0x29 => s.rdTIME c o
  | 0x2A => s.rdTWI 0 o
  | 0x2B => s.rdTWI 1 o
  | 0x2C => (s.rdOTP c o, s)
  | 0x2F => (if o = 8 then putBits (s.getW a) 2 1 (if s.loftBusy then 1 else 0) else s.getW a, s)
  | 0x30 => (s.rdLOG c o, s)
  | 0x32 => (if o = 0x8C then s.drvWord else s.getW a, s)
  | _ => (s.getW a, s)

end Sys2Proof.Machine
end

