-- ==== Sys2Proof/Machine/Frames.lean ====
section
/-! DEFINITION. Frames, violations, the CTX reset and the command rings (R311 to R333). -/

namespace Sys2Proof.Machine

open Sys2Proof

/-! The CRC of R313. -/

def crc16Bit (c : Nat) (b : Bool) : Nat :=
  let x := (c * 2) % 0x10000
  if (c.testBit 15) != b then x.xor 0x1021 else x

/-- The bits of a number, from bit `n − 1` down. -/
def bitsDown : Nat → Nat → List Bool
  | 0, _ => []
  | n + 1, v => v.testBit n :: bitsDown n v

def crc16 (c : Nat) (l : List Bool) : Nat := l.foldl crc16Bit c

/-- The CRC over whole words, most significant first, and then the `n` low bits of a number. -/
def frameCrc (ws : List Word) (n v : Nat) : Nat := crc16 0xFFFF (ws.flatMap (fun w => bitsDown 32 w.toNat) ++ bitsDown n v)

/-! Statuses (R318). -/

abbrev fsCRC : Nat := 0x01
abbrev fsSHORT : Nat := 0x02
abbrev fsSEQ : Nat := 0x03
abbrev fsOPCODE : Nat := 0x07
abbrev fsOVERRUN : Nat := 0x08
abbrev fsBEYOND : Nat := 0x09
abbrev fsTAIL : Nat := 0x0A
abbrev fsRINGOFF : Nat := 0x0B
abbrev fsQUAR : Nat := 0x0C
abbrev fsREPEAT : Nat := 0x0D
abbrev fsLATE : Nat := 0x0F

end Sys2Proof.Machine

namespace Sys2Proof

open Sys2Proof.Machine

/-! The header and the trailer (R312, R313, R316). -/

def Frame.head (f : Frame) : Word := (f.words[0]?).getD 0
def Frame.op (f : Frame) : Nat := getBits f.head 28 4
def Frame.len (f : Frame) : Nat := getBits f.head 24 4 + 1
def Frame.addr (f : Frame) : Nat := getBits f.head 0 16

/-- The payload's length, where the header gives a trailer position. -/
def Frame.pay (f : Frame) : Option Nat :=
  if f.words.isEmpty then none
  else if f.op = 1 then some 0
  else if f.op = 2 then some f.len
  else if f.op = 3 ∧ f.len % 2 = 0 then some f.len
  else if f.op = 4 ∧ f.len % 4 = 0 then some f.len
  else if f.op = 5 ∧ f.len = 1 then some 0
  else none

/-- The words of the whole frame. -/
def Frame.total (f : Frame) : Nat := if f.op = 1 then f.len + 4 else (f.pay).getD 0 + 2

def Frame.payload (f : Frame) : List Word := (f.words.drop 1).take ((f.pay).getD 0)
def Frame.trailer (f : Frame) : Word := (f.words[(f.pay).getD 0 + 1]?).getD 0
def Frame.seq (f : Frame) : Nat := getBits f.trailer 16 16

/-- The sequence field of the status word: as received, or 0xFFFF (R317). -/
def Frame.seqSeen (f : Frame) : Nat :=
  match f.pay with
  | some p => if p + 1 < f.words.length then f.seq else 0xFFFF
  | none => 0xFFFF

def Frame.crcOk (f : Frame) : Bool := frameCrc (f.words.take ((f.pay).getD 0 + 1)) 16 f.seq == getBits f.trailer 0 16

/-- Reserved bits of the header that are not 0, the address bits that STATUS and DOORBELL keep at 0 among them. -/
def Frame.resBad (f : Frame) : Bool :=
  getBits f.head 16 8 != 0 || (f.op == 5 && f.addr != 0) || (f.op == 4 && f.addr / 64 != 0)

/-- A one-word WRITE to HIF.RST (R324). (DEDUCED, log 20.) -/
def Frame.toRst (f : Frame) : Bool := f.op == 2 && f.len == 1 && f.addr == 0x0C44

/-- (DEDUCED, log 20.) -/
def Frame.rstKey (f : Frame) : Bool := f.toRst && getBits ((f.words[1]?).getD 0) 0 16 == 0xC7C7

/-- The frame is a row's own: its opcode, or none that R312 gives. -/
def Frame.of (f : Frame) (op : Nat) : Bool := f.words.isEmpty || f.op == op || f.op == 0 || decide (6 ≤ f.op)

/-- What the frame's form gives: OK, SHORT, OPCODE or CRC (R311 to R313). (DEDUCED, log 17.) -/
def Frame.form (f : Frame) : Nat :=
  if f.words.isEmpty ∨ !f.whole then fsSHORT
  else if f.pay.isNone then fsOPCODE
  else if f.words.length < f.total then fsSHORT
  else if !f.crcOk then fsCRC
  else if f.resBad then fsOPCODE
  else fsOK

/-- The registers a frame writes: address, mask, value. -/
def Frame.writes (f : Frame) : List (Nat × Word × Word) :=
  if f.op = 2 then f.payload.mapIdx (fun k v => (f.addr + 4 * k, 0xFFFFFFFF, v))
  else (List.range (f.len / 2)).map (fun k => (f.addr + 4 * k, (f.payload[2 * k]?).getD 0, (f.payload[2 * k + 1]?).getD 0))

/-- A READ that ends early after its pad word has been read, but is SHORT. (DEDUCED, log 22.) -/
def Frame.cut (f : Frame) : Bool := f.op == 1 && decide (3 ≤ f.words.length) && (!f.whole || decide (f.words.length < f.total))

end Sys2Proof

namespace Sys2Proof.Machine

open Sys2Proof

/-! The status word (R317). -/

def parity (v : Word) : Bool := (onesFrom v 0).length % 2 == 1

/-- (DEDUCED, log 21.) -/
def State.statusWord (s : State) (c : Fin 8) : Word :=
  let b := fun (x : Bool) (k : Nat) => if x then 2 ^ k else 0
  let h := s.ctx c
  let w := BitVec.ofNat 32 (h.lastSeq * 0x10000 + h.lastSt * 0x100 + b (s.quar c) 7 + b (s.rd (cqeC c) CQE.CTX_CQT_FILL != 0) 6 +
    b (s.bit hifB (HIF.STATUS_UNSYNC.at (8 + c))) 5 + s.mode)
  if parity w then w ||| 0x10 else w

/-! Violations and quarantine (R322, R323). -/

def State.quarantine (s : State) (c : Fin 8) : State :=
  ((s.wrB hifB (HIF.STATUS_QUAR.at c) true).err hifB 1 129 (some (s.rd hifB HIF.CFG_QCLS)) none).directDrop c

/-- A frame ends with a violation; the first of a window is recorded with the context, the status and the address. (DEDUCED, log 23;
DESIGN CHOICE, log 74.) -/
def State.violation (s : State) (c : Fin 8) (st addr : Nat) : State :=
  let s1 := s.count (hifC c) HIF.CTX_VIOL_TOTAL HIF.CTX_VIOL_SAT hifB 3 129
  let s2 := (s1.wr (hifC c) HIF.CTX_LAST_CODE st).wr (hifC c) HIF.CTX_LAST_ADDR addr
  let s3 := if (s.ctx c).vwin then s2.errQ hifB 0 129
    else (s2.err hifB 0 129 (some 0) (some (Config.detailOf 5 (c.val + 8 * st + 2048 * addr)))).mark (.vwin c.val)
  let s4 := (s3.modCtx c (fun h => { h with vwin := true })).bump (hifC c) HIF.CTX_VIOL_WINCNT
  if orIf0 (s.rd hifB HIF.CFG_VTHR) 1 ≤ s4.rd (hifC c) HIF.CTX_VIOL_WINCNT ∧ !s.quar c then s4.quarantine c else s4

/-- The frame's end: its status and sequence number for the next status word, and its violation (R317, R322). -/
def State.frameEnd (s : State) (c : Fin 8) (f : Frame) (st : Nat) (viol : Bool) : State :=
  let s1 := s.modCtx c (fun h => { h with lastSt := st, lastSeq := f.seqSeen })
  if viol then s1.violation c st (if f.words.isEmpty then 0xFFFF else f.addr) else s1

/-- A violation status of R318. (DEDUCED, log 19.) -/
def isViol (st : Nat) : Bool := decide (1 ≤ st ∧ st ≤ 0x0B)

/-- The frame is accepted (R314, R336). -/
def State.accept (s : State) (c : Fin 8) (seq : Nat) : State :=
  ((s.wr (hifC c) HIF.CTX_SEQ_LAST seq).wrB hifB (HIF.STATUS_UNSYNC.at (8 + c)) false).count (hifC c) HIF.CTX_FRM_FRAMES
    HIF.CTX_FRM_SAT hifB 3 129

/-- The sequence rule of R314. (DEDUCED, log 17.) -/
def State.seqCheck (s : State) (c : Fin 8) (seq : Nat) : Nat :=
  let l := s.rd (hifC c) HIF.CTX_SEQ_LAST
  if s.bit hifB (HIF.STATUS_UNSYNC.at (8 + c)) ∨ seq = (l + 1) % 0x10000 then fsOK
  else if seq = l then fsREPEAT else fsSEQ

/-- The port answers the context (R40, R308, R516). (DEDUCED, log 18.) -/
def State.answers (s : State) (c : Nat) : Bool := s.up && s.ctxOn c && (s.mode != mWAKING || s.wakeRead)

/-- The other chip select of the port fell during the frame (R310). (DESIGN CHOICE, log 29.) -/
def State.csBoth (s : State) (c : Fin 8) (f : Frame) : State :=
  if f.low.any (fun l => l.val == c.val.xor 1 && s.ctxOn l) then s.err hifB 2 129 none none else s

/-- A row's frame, where the port answers: MISO's words are kept beside the state that `run` leaves (R311, R316).
(DEDUCED, log 17.) -/
def State.frame (s : State) (c : Fin 8) (op : Nat) (f : Frame) (run : State → List Word × State) : State :=
  if s.answers c && f.of op then
    let r := run (s.csBoth c f)
    r.2.answer c (((s.statusWord c :: r.1) ++ List.replicate f.words.length 0).take f.words.length)
  else s

/-- READ: the response from word 1 on (R316). -/
def readMiso (st seq : Nat) (data : List Word) : List Word :=
  let t := st * 0x100 + seq % 0x100
  [0, 0] ++ data ++ [BitVec.ofNat 32 (t * 0x10000 + frameCrc data 16 t)]

/-- The first `n` words of a list, with 0 for those it has not. (DEDUCED, log 22.) -/
def padTo (n : Nat) (l : List Word) : List Word := (l ++ List.replicate n 0).take n

/-! READ. -/

/-- The status of a READ's addresses (R11, R12, R40, R320) and whether it counts as a violation. -/
def State.readCheck (s : State) (a n : Nat) : Nat × Bool :=
  if (List.range n).any (fun k => !addrOk (a + 4 * k) || (a + 4 * k) / 0x400 != a / 0x400) then (fsADDR, true)
  else if !s.modeReads a then (fsADDR, false) else (fsOK, false)

/-- The memory behind a register window: 0 SRAM, 1 NVM. -/
def winMem (a : Nat) : Option Nat :=
  if 0x1180 ≤ a ∧ a < 0x1400 then some 0
  else if (0xC100 ≤ a ∧ a < 0xC180) ∨ (0xC200 ≤ a ∧ a < 0xC300) then some 1
  else none

/-- Words of a READ whose codeword is uncorrectable are received as 0 (R416). -/
def deadWord (f : Frame) (k : Nat) : Bool :=
  let a := f.addr + 4 * k
  f.hits.any (fun h => h.2.ue && (match winMem a with | some 0 => h.1 == k | some _ => (f.addr + 4 * h.1) / 8 == a / 8 | none => false))

/-- The registers read in one instant, from the lowest address. (DEDUCED, log 27.) -/
def State.readRegs (s : State) (c : Fin 8) (f : Frame) : Nat → Nat → List Word × State
  | 0, _ => ([], s)
  | n + 1, k =>
    let r := s.regRead c (f.addr + 4 * k) f.low
    let t := r.2.readRegs c f n (k + 1)
    ((if deadWord f k then 0 else r.1) :: t.1, t.2)

/-- What the checkers found in the windows of the frame (R415). -/
def State.frameHits (s : State) (f : Frame) : State :=
  f.hits.foldl (fun t h => if h.1 < f.len then (match winMem (f.addr + 4 * h.1) with | some m => t.eccHit m h.2 false | none => t) else t) s

/-- The checks of a READ up to its addresses: QUAR, the form, the sequence, the addresses. -/
def State.readStatus (s : State) (c : Fin 8) (f : Frame) (form : Nat) : Nat × Bool :=
  if s.quar c then (fsQUAR, false)
  else if form ≠ fsOK then (form, true)
  else
    let q := s.seqCheck c f.seq
    if q ≠ fsOK then (q, isViol q) else s.readCheck f.addr f.len

/-- The registers are read once the trailer is checked and the pad word clocked, and kept for a repeat (R314, R316).
(DEDUCED, log 27.) -/
def State.readDo (s : State) (c : Fin 8) (f : Frame) : List Word × State :=
  let r := s.readRegs c f f.len 0
  (r.1, (r.2.frameHits f).modCtx c (fun h => { h with replay := r.1 }))

/-- (DEDUCED, log 22.) -/
def State.readRun (s : State) (c : Fin 8) (f : Frame) : List Word × State :=
  let form := if f.cut then (if !f.crcOk then fsCRC else if f.resBad then fsOPCODE else fsOK) else f.form
  let q := s.readStatus c f form
  if q.1 = fsOK then
    let r := s.readDo c f
    let st := if f.late then fsLATE else fsOK
    let data := if f.late then List.replicate f.len 0 else r.1
    (readMiso st f.seq data, if f.cut then r.2.frameEnd c f fsSHORT true else (r.2.accept c f.seq).frameEnd c f st false)
  else
    let data := if q.1 = fsREPEAT then padTo f.len (s.ctx c).replay else List.replicate f.len 0
    let st := if f.cut ∧ q.1 ≠ fsQUAR then (fsSHORT, true) else q
    (if f.pay.isSome then readMiso q.1 f.seq data else [], s.frameEnd c f st.1 st.2)

def execRead (c : Fin 8) (f : Frame) (s : State) : Host.Outcome State Fault Refusal :=
  .next (s.frame c 1 f fun s => s.readRun c f).settle

/-! STATUS. -/

/-- (DEDUCED, log 21.) -/
def State.statusRun (s : State) (c : Fin 8) (f : Frame) : State :=
  if f.form = fsOK then s.frameEnd c f fsOK false
  else if s.quar c ∧ f.op ≠ 5 then s.frameEnd c f fsQUAR false
  else s.frameEnd c f f.form true

def execStatus (c : Fin 8) (f : Frame) (s : State) : Host.Outcome State Fault Refusal :=
  .next (s.frame c 5 f fun s => ([], s.statusRun c f)).settle

/-! The completion head (R331). -/

/-- A head at or above CQ_SIZE, or past the tail, is refused. (DEDUCED, log 23.) -/
def State.cqhOk (s : State) (c : Fin 8) (h : Nat) : Bool :=
  let n := s.cqSize c
  decide (h < n) && decide ((h + n - s.rd (cqeC c) CQE.CTX_CQH_HEAD % n) % n ≤ s.rd (cqeC c) CQE.CTX_CQT_FILL)

def State.setCqh (s : State) (c : Fin 8) (h : Nat) : State :=
  let n := s.cqSize c
  let d := (h + n - s.rd (cqeC c) CQE.CTX_CQH_HEAD % n) % n
  let s1 := (s.wr (cqeC c) CQE.CTX_CQH_HEAD h).wr (cqeC c) CQE.CTX_CQT_FILL (s.rd (cqeC c) CQE.CTX_CQT_FILL - d)
  (s1.modCtx c (fun x => { x with cq := x.cq.drop d })).ringIrq c

def execSelfCqh (c : Fin 8) (v : Word) (s : State) : Host.Outcome State Fault Refusal :=
  .next (s.ifWrites c 0x1050 v fun s => if s.cqhOk c (getBits v 0 6) then s.setCqh c (getBits v 0 6) else s).settle

/-! The CTX reset (R324). -/

/-- Keys with a CTX value in the copies of context `c` and in its blocks. -/
def ctxKey (c k : Nat) : Bool :=
  let o := k % 0x400
  (decide (ck c ≤ k ∧ k < ck c + 0x10000) &&
    (k % 0x10000 / 0x400 != 0x06 || o == 0x40 || o == 0x50 || decide (0x80 ≤ o ∧ o < 0x100))) ||
  decide (hifC c ≤ k ∧ k < hifC c + 16) || k == cqeC c + 8 || k == cqeC c + 0xC || k == cqeC c + 0x10

/-- The pages that the context unlocked are locked (R500). -/
def State.lockPages (s : State) (c : Nat) : State :=
  s.each ((pageIndex.map (fun p => pg p.num)).filter (fun b => s.bit b HDR.LOCK_UNLOCKED && s.rd b HDR.LOCK_CTX == c)) fun b t =>
    t.wr b HDR.LOCK_UNLOCKED 0

def State.ctxReset (s : State) (c : Fin 8) : State :=
  let s1 := ((s.directDrop c).lockPages c).resetKeys (ctxKey c)
  let s2 := ((s1.wrB hifB (HIF.STATUS_QUAR.at c) false).wrB hifB (HIF.STATUS_UNSYNC.at (8 + c)) true).wr (cqeC c) CQE.CTX_STAT_COMPLETED 0
  let s3 := (s2.wr (cqeC c) CQE.CTX_STAT_SAT 0).modCtx c (fun _ => CtxHid.reset)
  let s4 := { s3 with cmds := s3.cmds.map (fun (k : Cmd) => if k.ctx = c then { k with live := false } else k) }
  let s5 := (s4.unfreeze c).setLatch c none
  let s6 := if s5.rd rtcB RTC.PEND_CTX = c.val then s5.unpend else s5
  s6.arbShow.intRefresh c

def execCtxReset (c : Fin 8) (s : State) : Host.Outcome State Fault Refusal :=
  .next (if s.answers c && s.modeTakes c 0x0C44 0xC7C7 then s.ctxReset c else s).settle

/-! WRITE and WRITE_MASKED. -/

/-- The status of one word, and whether it counts as a violation (R320, R322). -/
def State.wordCheck (s : State) (c a0 : Nat) (w : Nat × Word × Word) : Nat × Bool :=
  let a := w.1
  let st := if a / 0x400 ≠ a0 / 0x400 then fsADDR else s.wrStatus c a w.2.1 (w.2.2 &&& w.2.1)
  (st, !(st == fsLOCKED && !s.modeTakes c a (w.2.2 &&& w.2.1)))

/-- The status of the lowest offending word (R320). (DEDUCED, log 17.) -/
def State.wordsCheck (s : State) (c a0 : Nat) : List (Nat × Word × Word) → Nat × Bool
  | [] => (fsOK, false)
  | w :: t => let q := s.wordCheck c a0 w; if q.1 = fsOK then s.wordsCheck c a0 t else q

/-- The completion head a frame writes, if it writes one. -/
def State.cqhOf (s : State) (c : Fin 8) (l : List (Nat × Word × Word)) : Option Nat :=
  (l.find? (fun w => w.1 == 0x1050)).map (fun w => getBits (mixed (s.getW (cqeC c + 0x10)) w.2.1 w.2.2) 0 6)

/-- All words take effect in ascending address order (R315). -/
def State.writeRegs (s : State) (c : Fin 8) (f : Frame) (l : List (Nat × Word × Word)) : State :=
  l.foldl (fun t w => if w.1 = 0x1050 then (match t.cqhOf c [w] with | some h => t.setCqh c h | none => t)
    else t.regWrite c w.1 w.2.1 w.2.2 f.imon f.fail) s

/-- The checks of a WRITE in their order. (DEDUCED, log 20.) -/
def State.writeStatus (s : State) (c : Fin 8) (f : Frame) : Nat × Bool :=
  if s.quar c then (fsQUAR, false)
  else if f.form ≠ fsOK then (f.form, true)
  else if f.toRst then (if s.modeTakes c 0x0C44 0 then (fsOPCODE, true) else (fsLOCKED, false))
  else
    let q := s.seqCheck c f.seq
    if q ≠ fsOK then (q, isViol q)
    else
      let r := s.wordsCheck c f.addr f.writes
      if r.1 ≠ fsOK then r
      else if f.writes.any (fun w => w.1 == 0x0C44) then (fsOPCODE, true)
      else match s.cqhOf c f.writes with
        | some h => if s.cqhOk c h then (fsOK, false) else (fsBEYOND, true)
        | none => (fsOK, false)

def State.writeRun (s : State) (c : Fin 8) (f : Frame) : State :=
  if f.rstKey ∧ f.form = fsOK then
    (if s.modeTakes c 0x0C44 0xC7C7 then s.ctxReset c else s.frameEnd c f fsLOCKED false)
  else
    let q := s.writeStatus c f
    if q.1 = fsOK then ((s.writeRegs c f f.writes).accept c f.seq).frameEnd c f fsOK false else s.frameEnd c f q.1 q.2

def execWrite (c : Fin 8) (f : Frame) (s : State) : Host.Outcome State Fault Refusal :=
  .next (s.frame c 2 f fun s => ([], s.writeRun c f)).settle

def execWriteMasked (c : Fin 8) (f : Frame) (s : State) : Host.Outcome State Fault Refusal :=
  .next (s.frame c 3 f fun s => ([], s.writeRun c f)).settle

/-! DOORBELL (R328). -/

/-- Rings are served (R333); HOLD cause 7 is NO_IMAGE. (DEDUCED, log 19.) -/
def State.ringsServed (s : State) : Bool := decide (mHOLD ≤ s.mode) && !(s.mode == mHOLD && s.rd devB DEV.MODE_HOLD_CAUSE == 7)

def State.ringOn (s : State) (c : Nat) : Bool := s.bit (cqeC c) CQE.CTX_CFG_EN

/-- (DEDUCED, log 19.) -/
def State.bellStatus (s : State) (c : Fin 8) (f : Frame) : Nat × Bool :=
  if s.quar c then (fsQUAR, false)
  else if f.form ≠ fsOK then (f.form, true)
  else
    let q := s.seqCheck c f.seq
    let k := f.len / 4
    let n := s.sqSize c
    let t := f.addr % 64
    if q ≠ fsOK then (q, isViol q)
    else if s.mode = mWAKING ∨ s.mode = mLOCKOUT then (fsLOCKED, false)
    else if !s.ringOn c || !s.ringsServed then (fsRINGOFF, true)
    else if n ≤ t then (fsBEYOND, true)
    else if t ≠ (s.rd (cqeC c) CQE.CTX_SQT_TAIL + k) % n then (fsTAIL, true)
    else if n < s.rd (cqeC c) CQE.CTX_SQT_WAIT + k then (fsOVERRUN, true)
    else (fsOK, false)

/-- Four words make an entry (R327). -/
def entriesOf : List Word → List Entry
  | a :: b :: c :: d :: t => ⟨a, b, c, d⟩ :: entriesOf t
  | _ => []

/-- (DEDUCED, log 23.) -/
def State.bellRun (s : State) (c : Fin 8) (f : Frame) : State :=
  let q := s.bellStatus c f
  if q.1 = fsOK then
    let e := entriesOf f.payload
    let s1 := (s.wr (cqeC c) CQE.CTX_SQT_TAIL (f.addr % 64)).wr (cqeC c) CQE.CTX_SQT_WAIT (s.rd (cqeC c) CQE.CTX_SQT_WAIT + e.length)
    ((s1.modCtx c (fun h => { h with sq := h.sq ++ e })).accept c f.seq).frameEnd c f fsOK false
  else s.frameEnd c f q.1 q.2

def execDoorbell (c : Fin 8) (f : Frame) (s : State) : Host.Outcome State Fault Refusal :=
  .next (s.frame c 4 f fun s => ([], s.bellRun c f)).settle

/-! Times. -/

/-- A violation window closes, VWIN after it opened (R322). -/
def execViolWindowEnd (c : Fin 8) (s : State) : Host.Outcome State Fault Refusal :=
  .next (if (s.ctx c).vwin ∧ s.ran (.vwin c.val) (1000 * orIf0 (s.rd hifB HIF.CFG_VWIN) 1) then (s.modCtx c (fun h => { h with vwin := false })).wr (hifC c) HIF.CTX_VIOL_WINCNT 0 else s).settle

/-- The oldest unconsumed entry that counts has waited TMO µs (R332). -/
def execRingIrqTimeout (c : Fin 8) (s : State) : Host.Outcome State Fault Refusal :=
  .next (if s.ringLate c ∧ (s.ctx c).irqTmo = false then
      (s.modCtx c (fun h => { h with irqTmo := true })).edge (136 + c.val)
    else s).settle

/-! The fetch (R329). -/

/-- An entry of the context may be fetched. (DEDUCED, log 25.) -/
def State.mayFetch (s : State) (c : Fin 8) : Bool :=
  let f := s.rd (cqeC c) CQE.CTX_STAT_INFL
  match (s.ctx c).sq with
  | [] => false
  | e :: _ => s.bit hifB (HIF.CFG_CTX_EN.at c) && s.ringOn c && !s.quar c && s.ringsServed && (!e.w0.getLsbD 8 || f == 0) &&
      decide (f + s.rd (cqeC c) CQE.CTX_CQT_FILL < s.cqSize c) && decide (f < size64 (s.rd (cqeC c) CQE.CTX_CFG_TAGS)) &&
      decide (s.rd cqeB CQE.STATUS_TAGS < 256)

/-- The context served next: round-robin after the one served last. (DEDUCED, log 25.) -/
def State.fetchNext (s : State) : Option (Fin 8) :=
  ([1, 2, 3, 4, 5, 6, 7, 8].map (fun i => Fin.ofNat 8 (s.rr + i))).find? s.mayFetch

/-- The lowest free tag. -/
def State.freeTag (s : State) : Nat := ((List.range 256).find? (fun t => !s.cmds.any (fun k => k.tag == t))).getD 0

/-- What becomes of a fetched entry (R330, R333): it completes refused, or asks for its resources. -/
def State.letIn (s : State) (k : Cmd) (flags : Nat) (ue : Bool) : State :=
  if ue then (s.err cqeB 4 130 none none).complete k stMEM 0
  else if k.op = 0 ∨ 0x17 < k.op then (s.err cqeB 0 130 none none).complete k stBADOP 0
  else if 4 ≤ flags then (s.err cqeB 0 130 none none).complete k stBADFLAGS 0
  else if !(s.getW (cqeC k.ctx + 4)).getLsbD (k.op - 1) then (s.err cqeB 1 130 none none).complete k stDENIED 0
  else if !opServed k.op s.mode then s.complete k stMODE 1
  else s.askNext k

/-- The first entry of a context is fetched. `hits`: wrong words of the entry in SRAM, by their number; the cookie and the
flags of an uncorrectable word 0 are not stated. (DEDUCED, log 25.) -/
def State.fetch (s : State) (c : Fin 8) (hits : List (Fin 4 × EccHit)) : State :=
  match (s.ctx c).sq with
  | [] => s
  | e :: t =>
    let s0 := s.eccHits 0 (hits.map (·.2)) false
    let ue := hits.any (fun h => h.2.ue)
    let d := if hits.any (fun h => h.2.ue && h.1 == 0) then s0.draw else (e.w0, s0)
    let b := cqeC c
    let s1 := ((d.2.wr b CQE.CTX_SQT_HEAD ((s.rd b CQE.CTX_SQT_HEAD + 1) % s.sqSize c)).wr b CQE.CTX_SQT_WAIT (s.rd b CQE.CTX_SQT_WAIT - 1)).wr
      b CQE.CTX_STAT_INFL (s.rd b CQE.CTX_STAT_INFL + 1)
    let s2 := (s1.wr cqeB CQE.STATUS_TAGS (s.rd cqeB CQE.STATUS_TAGS + 1)).modCtx c (fun h => { h with sq := t })
    let k : Cmd := { tag := s.freeTag, ctx := c, cookie := getBits d.1 16 16, quiet := d.1.getLsbD 9, op := getBits d.1 0 8,
                     a0 := e.a0, a1 := e.a1, a2 := e.a2, buf := s.dbuf c, live := true, phase := .waiting, prog := 0, aux := 0, ages := [] }
    { s2 with cmds := s2.cmds ++ [k], rr := c.val }.letIn k (getBits d.1 8 8) ue

def execCommandFetch (hits : List (Fin 4 × EccHit)) (s : State) : Host.Outcome State Fault Refusal :=
  .next (match s.fetchNext with | some c => s.fetch c hits | none => s).settle

end Sys2Proof.Machine
end

