-- ==== Sys2Proof/Machine/Bale.lean ====
section
/-! DEFINITION. The bale load that ends WAKING (R449 to R453, R531). -/

namespace Sys2Proof.Machine

open Sys2Proof

/-! The item (R449). Words of 64 bits are counted from its start; the records begin at word 34. -/

def State.baleN (s : State) (a : Nat) : Nat := (s.nvmWord (a + 0x104)).toNat
def State.baleM (s : State) (a : Nat) : Nat := (s.nvmWord (a + 0x108)).toNat
/-- The word of the end marker, where N and M put it. -/
def State.baleEnd (s : State) (a : Nat) : Nat := 34 + s.baleN a + s.baleM a
def State.baleLo (s : State) (a i : Nat) : Nat := (s.nvmWord (a + 8 * i)).toNat
def State.baleHi (s : State) (a i : Nat) : Nat := (s.nvmWord (a + 8 * i + 4)).toNat

/-- The last word before the first erased one among the first `n`. (DEDUCED, log 36.) -/
def State.lastWhole (s : State) (a n : Nat) : Nat :=
  ((List.range n).find? (fun i => s.baleLo a i == 0xFFFFFFFF && s.baleHi a i == 0xFFFFFFFF)).getD n - 1

/-- The write is incomplete (BALE_HALF): its last complete word. (DEDUCED, log 36.) -/
def State.baleHalf (s : State) (a : Nat) : Option Nat :=
  let e := s.baleEnd a
  if 16000 < s.baleN a ∨ 16 < s.baleM a then some (s.lastWhole a 0x4000)
  else if s.baleLo a e ≠ 0xFFFFFFFF ∨ s.baleHi a e ≠ s.baleN a + s.baleM a ∨ s.itemLen a ≠ 8 * (e + 2) then some (s.lastWhole a e)
  else if s.bit loftB LOFT.STATUS_TORN ∧ s.bit nvmB NVM.STATUS_COPYING then some (e + 1)
  else none

/-- The digest of the canonical form (R450). -/
def State.baleDigest (s : State) (a : Nat) : Nat :=
  crc64 (s.nvmBytes (a + 0x100) 8 ++ [0, 0, 0, 0] ++ s.nvmBytes (a + 0x10C) 4 ++ s.nvmBytes (a + 0x110) (8 * s.baleN a))

/-- The slot of R453: CUR where its format is in range, else the other slot with an authentic bale in range. -/
def State.baleSlot (s : State) (hits : List EccHit) : Option Nat :=
  let info := s.getW (secB + 0x44)
  let fits := fun n => s.itemIs (slotB n) 2 && inRange info (s.itemBfmt (slotB n))
  if fits s.cur then some s.cur
  else if fits (1 - s.cur) && (s.authCause hits (slotB (1 - s.cur))).isNone then some (1 - s.cur)
  else none

/-! Records. -/

/-- A register of which a write can change nothing: reserved, or of RO fields alone. (DEDUCED, log 36.) -/
def roReg (a : Nat) : Bool := accBits (fun x => x != .ro) a == 0

/-- The addresses that R531 refuses. (DEDUCED, log 36.) -/
def baleRefused (a : Nat) : Bool :=
  intOwn a || decide (0x1880 ≤ a ∧ a ≤ 0x1890) || decide (0x18C0 ≤ a ∧ a ≤ 0x18D0) || decide (0x1040 ≤ a ∧ a < 0x1060) ||
    a == 0x144C || a == 0x1450 || dbufReg a

/-- A SHED field that names LDO0 or no output (R293). (DEDUCED, log 37.) -/
def shedBad (x : Nat) : Bool := x == 28 || (decide (46 ≤ x) && x != 0x3F)

/-- A step that is invalid by its own fields (R220). (DEDUCED, log 37.) -/
def State.stepOwnBad (s : State) (v : Word) : Bool := s.stepBad v && !s.follows (getBits v 4 6)

/-- A value that a chapter calls invalid in a bale, by itself (R178, R220, R293). (DEDUCED, log 37.) -/
def State.baleBad (s : State) (a : Nat) (v : Word) : Bool :=
  if a = chgB + 0x40 then
    let n := getBits v 2 3
    !decide ((if v.getLsbD 1 then 4 else 3) ≤ n ∧ n ≤ 5)
  else if a = chgB + 0x44 then
    let n := getBits v 0 13
    let p := getBits v 16 13
    !decide ((3400 ≤ n ∧ n ≤ 3650) ∨ (4100 ≤ n ∧ n ≤ 4250)) || !decide (2000 ≤ p ∧ p ≤ 3200)
  else if a = chgB + 0x48 then !decide (5 ≤ getBits v 0 9 ∧ getBits v 0 9 ≤ 400 ∧ 1 ≤ getBits v 16 6 ∧ getBits v 16 6 ≤ 40)
  else if seqB + 0x100 ≤ a ∧ a < seqB + 0x300 ∧ a % 8 = 0 then s.stepOwnBad v
  else if thmB + 0x40 ≤ a ∧ a < thmB + 0x280 ∧ (a - (thmB + 0x40)) % 0x18 = 0x10 then shedBad (getBits v 0 6) || shedBad (getBits v 6 6)
  else false

/-- The store that a register stands for: a step's own place in its table, else the register. -/
def State.recKey (s : State) (a : Nat) : Nat :=
  if seqB + 0x100 ≤ a ∧ a < seqB + 0x300 then stepB (s.rd seqB SEQ.TABSEL_TAB) ((a - seqB - 0x100) / 8) + a % 8 else a

/-- A record's write, as a host's with the page lock ignored: the state and the bale's own CTXSEL after it (R451, R531).
(DEDUCED, log 36.) -/
def State.recWrite (s : State) (csel a : Nat) (v : Word) (imon : List (Fin 56 × Nat)) (fail : Bool) : State × Nat :=
  if a = 0x1840 then (s, getBits v INT.CTXSEL_CTX.lo INT.CTXSEL_CTX.w)
  else if intNamed a then
    let n : Fin 8 := Fin.ofNat 8 csel
    (s.intRegPut n (a - intB) 0xFFFFFFFF v, csel)
  else if selReg a then (s.each (List.range 8) fun c t => t.regWrite (Fin.ofNat 8 c) a 0xFFFFFFFF v imon fail, csel)
  else if a = chgB + 0x44 then (s.put a 0xFFFFFFFF v, csel)
  else if seqB + 0x100 ≤ a ∧ a < seqB + 0x300 ∧ a % 8 = 0 then ((s.setW (s.recKey a) (v &&& 0x3FFFF)).lenShow, csel)
  else (s.regWrite 0 a 0xFFFFFFFF v imon fail, csel)

/-- The records from word `i` on, `n` of them; `keys` holds what they have written, newest first. Answers the offending
word where one stops the load. (DEDUCED, log 36.) -/
def State.baleRecs (base nodes : Nat) (imon : List (Fin 56 × Nat)) (fail : Bool) :
    Nat → State → Nat → Nat → List (Nat × Nat) → State × List (Nat × Nat) × Option Nat
  | 0, s, _, _, keys => (s, keys, none)
  | n + 1, s, i, csel, keys =>
    let a := s.baleLo base i
    let v := BitVec.ofNat 32 (s.baleHi base i)
    if !addrOk a || roReg a || baleRefused a || s.baleBad a v || (decide (n < nodes) && a != flailB + 0x40) then (s, keys, some i)
    else
      let q := s.recWrite csel a v imon fail
      State.baleRecs base nodes imon fail n q.1 (i + 1) q.2 ((s.recKey a, i) :: keys)

/-! The rules of several records (step 8 of R451). -/

/-- Some phase names the rail. -/
def State.hasSheaf (s : State) (r : Nat) : Bool := (List.range 48).any (fun p => s.phRail p == r && (s.phRole p == 1 || s.phRole p == 2))

/-- The sheaf that breaks R104: what takes part in it. -/
def State.sheafBreaks (s : State) : Option (List Nat) :=
  ((List.range 12).find? (fun r => s.hasSheaf r && !s.sheafValid r)).map (fun r =>
    ((List.range 48).filter (fun p => s.phRail p == r)).map ph ++ (List.range 4).map (fun k => sheaf r + 0x0C + 4 * k))

/-- VCV and VPRE against CHEM and CELLS (R178). (DEDUCED, log 37.) -/
def State.packBreaks (s : State) : Option (List Nat) :=
  let lfp := s.bit chgB CHG.CFG_CHEM
  let n := s.rd chgB CHG.CFG_CELLS
  let v := s.rd chgB CHG.VCHG_VCV
  let p := s.rd chgB CHG.VCHG_VPRE
  let ok := if lfp then decide (4 ≤ n ∧ n ≤ 5 ∧ 3400 ≤ v ∧ v ≤ 3650 ∧ 2000 ≤ p ∧ p ≤ 2900)
    else decide (3 ≤ n ∧ n ≤ 5 ∧ 4100 ≤ v ∧ v ≤ 4250 ∧ 2500 ≤ p ∧ p ≤ 3200)
  if ok then none else some [chgB + 0x40, chgB + 0x44]

/-- Both line ports without BRIDGE (R241). -/
def State.lineBreaks (s : State) : Option (List Nat) :=
  if s.bit flailB FLAIL.CFG_A_EN && s.bit flailB FLAIL.CFG_B_EN && !s.bit flailB FLAIL.CFG_BRIDGE then some [flailB + 0x40] else none

/-- A step that names the follower of a pair (R210). (DEDUCED, log 37.) -/
def State.stepBreaks (s : State) : Option (List Nat) :=
  ((List.range 256).find? (fun i => s.stepBad (s.getW (stepB (i / 64) (i % 64))))).map (fun i =>
    [stepB (i / 64) (i % 64), bk (s.stepObj (i / 64) (i % 64) - 13)])

/-- Is `j` a LOSS term of the channel? -/
def State.lossOf (s : State) (c j : Nat) : Bool := s.termType j == 1 && (s.termChans j).contains c

/-- What R293 calls invalid across records. (DEDUCED, log 37.) -/
def State.thermBreaks (s : State) : Option (List Nat) :=
  let shed := fun k => [s.rd (node k) THM.NODE_ACT_SHED_A, s.rd (node k) THM.NODE_ACT_SHED_B]
  match (List.range 24).find? (fun k => (s.refChain 24 k).contains k) with
  | some k => some ((k :: s.refChain 24 k).map node)
  | none => match (List.range 48).find? (fun c => decide (2 ≤ ((List.range 32).filter (s.lossOf c)).length)) with
    | some c => some (((List.range 32).filter (s.lossOf c)).flatMap (fun j => [termB j, termB j + 4]))
    | none => match (List.range 24).find? (fun k => (shed k).any s.follows) with
      | some k => some ((node k + 0x10) :: ((shed k).filter s.follows).map (fun x => bk (x - 13)))
      | none => ((List.range 24).find? (fun k => s.follows (12 + s.rd (node k) THM.NODE_ACT_CEIL_IDX))).map (fun k =>
          [node k + 0x10, bk (s.rd (node k) THM.NODE_ACT_CEIL_IDX - 1)])

/-- The first of the rules that is broken: what takes part in it. (DEDUCED, log 35.) -/
def State.baleBreaks (s : State) : Option (List Nat) :=
  s.sheafBreaks.orElse fun _ => s.packBreaks.orElse fun _ => s.lineBreaks.orElse fun _ => s.stepBreaks.orElse fun _ => s.thermBreaks

/-! The load. -/

/-- The bale is taken: what it leaves, and the mode that follows WAKING (R45, R186, R253, R292). -/
def State.baleTaken (s : State) (slot digest : Nat) : State :=
  let a := slotB slot
  let s1 := (((s.wr secB SEC.BALEINFO_BFMT (s.itemBfmt a)).wr secB SEC.BALEINFO_EPOCH (s.itemEpoch a)).wr secB SEC.BALEINFO_SLOT slot).wr
    secB SEC.STATUS_BALE_AUTH 1
  let s2 := (s1.wr flailB FLAIL.DGOWN_LO_OWN (digest % 2 ^ 32)).wr flailB FLAIL.DGOWN_HI_OWN (digest / 2 ^ 32)
  let s3 := if s2.rd nvmB NVM.UPD_CONF = cLOADPEND then (s2.wr nvmB NVM.UPD_CONF cUNCONFIRMED).loftKeep else s2
  let s4 := { ((s3.iff (!s3.stopped 4) State.calLoads).wakingEnds.chgLeaveAbsent).thermStart with boot := 6 }
  if s4.holdOver then ({ s4 with wakeDone := true }.actEnd true).enterParked 3 else (s4.actEnd true).enterRising 0 2

/-- The chosen slot's checks and its records (steps 3 to 8 of R451). (DEDUCED, log 35.) -/
def State.baleFrom (s : State) (slot : Nat) (hits : List EccHit) (imon : List (Fin 56 × Nat)) (fail : Bool) : State :=
  let a := slotB slot
  let e := s.baleEnd a
  match s.baleHalf a with
  | some w => s.toHold 3 w 1
  | none => match ueAt hits a (8 * (e + 2)) with
    | some x => s.toHold 2 ((x - a) / 8) 1
    | none => match s.authCause hits a with
      | some c => (s.reject c 1).toHold 2 0xFFF 3
      | none =>
        let d := s.baleDigest a
        if s.nvmDword (a + 8 * (e + 1)) ≠ d then s.toHold 2 (e + 1) 2
        else if s.baleLo a 32 ≠ 0xBA1E + s.itemBfmt a * 0x10000 then s.toHold 4 32 1
        else if s.baleHi a 33 ≠ 0 then s.toHold 4 33 1
        else
          let q := State.baleRecs a (s.baleM a) imon fail (s.baleN a + s.baleM a) s 34 0 []
          match q.2.2 with
          | some i => q.1.toHold 4 i 1
          | none => match q.1.baleBreaks with
            | some ks => q.1.toHold 4 (((q.2.1.find? (fun k => ks.contains k.1)).map (·.2)).getD e) 1
            | none => q.1.baleTaken slot d

/-- FE7 loads the bale, once the mandatory regions are valid (R437). (DEDUCED, log 35.) -/
def State.baleLoad (s : State) (hits : List EccHit) (imon : List (Fin 56 × Nat)) (fail : Bool) : State :=
  match (List.range 4).find? (fun g => !s.regValid g) with
  | some g => s.toHold 6 g 0
  | none =>
    if !s.itemIs (slotB 0) 2 && !s.itemIs (slotB 1) 2 then s.toHold 1 0 0
    else match s.baleSlot hits with
      | none => s.toHold 5 (s.itemBfmt (slotB s.cur)) 0
      | some n =>
        let s1 := if n = s.cur then s else (s.wr nvmB NVM.UPD_CUR n).loftKeep
        s1.baleFrom n hits imon fail

/-- BALE_LOAD (R451), with what FE4 does beside it (R274). `hits`: the wrong words of NVM that FE7 reads; `imon`: what IMON pins read where a record enables a rail (R127);
`fail`: a silo write that a record commands fails verify. -/
def execBaleLoad (hits : List EccHit) (imon : List (Fin 56 × Nat)) (fail : Bool) (s : State) : Host.Outcome State Fault Refusal :=
  .next (if s.mode = mWAKING ∧ s.boot = 5 ∧ s.eng 7 ≠ eHALTED then (s.adcWake.eccHits 1 hits false).baleLoad hits imon fail else s).settle

end Sys2Proof.Machine
end

