-- ==== Sys2Proof/Machine/Serve.lean ====
section
/-! DEFINITION. What FE0 makes of the conditions of a tick (R46, R47), and what the device shows on SAFE_N and SERVICE_N. -/

namespace Sys2Proof.Machine

open Sys2Proof

/-- A condition is served against the mode of the moment. (DEDUCED, log 64.) -/
def State.serveDue (s : State) (d : Due) (cause : Nat) : State :=
  match d with
  | .feedsLost => s.feedsLostNow
  | .drain => s.drainNow cause
  | .off => s.offNow cause
  | .feedBack => s.feedBackNow
  | .on => s.onNow cause
  | .tableDone => s.tableDoneNow
  | .stepTmo p => s.tmoNow p
  | .standby => s.standbyNow cause
  | .service => s.serviceNow cause
  | .svcEnd => s.svcEndNow cause
  | .reval => if s.mode = mHOLD then s.warmStart (some DEV.RESET_CAUSE_WARM_HOST) 7 else s
  | .warm => if s.mode = mHOLD then s.warmStart (some DEV.RESET_CAUSE_WARM_HOST) 9 else s
  | .floor => if s.seqSt = qFLOOR then s.reachFloor else s
  | .minoff => if s.seqSt = qMINOFF ∧ s.bit devB DEV.STATUS_ON_HELD then s.enterRising 0 cause else s
  | .safeOff => if s.mode = mSAFE then s.enterParked cause else s.offNow cause
  | .restart => if s.mode = mSAFE ∧ s.anyUnack 3 = false then s.restart else s

/-- The order of R47; C4 and C3 are the collector's, and come before. -/
def dueRank : Due → Nat
  | .feedsLost => 3
  | .drain => 4
  | .off => 5
  | .safeOff => 5
  | .feedBack => 6
  | .on => 7
  | _ => 8

/-- The conditions of a rank, in the order they came. -/
def State.serveRank (s : State) (l : List (Due × Nat)) (r : Nat) : State :=
  (l.filter (fun d => dueRank d.1 == r)).foldl (fun t d => t.serveDue d.1 d.2) s

/-- A WARM out of HOLD restarts FE0 with the others, whatever state FE0 is in (R60). (DEDUCED, log 64.) -/
def dueWarm : Due → Bool
  | .reval => true
  | .warm => true
  | _ => false

/-- The conditions of the tick are served in the order of R47, each against the mode that the one before left. While FE0 is
stopped the hardware alone acts: it enters HOLDUP (R46), and a WARM out of HOLD starts (R60); the rest waits (R31, R61).
(DESIGN CHOICE, log 9.) -/
def State.serveAll (s : State) : State :=
  if s.fe0Off then
    let s1 := if s.ridesThrough && s.due.any (fun d => d.1 == Due.feedsLost) then
        { s with due := s.due.filter (fun d => d.1 != Due.feedsLost) }.enterHoldup
      else s
    (s.due.filter (fun d => dueWarm d.1)).foldl (fun t d => t.serveDue d.1 d.2) { s1 with due := s1.due.filter (fun d => !dueWarm d.1) }
  else [3, 4, 5, 6, 7, 8].foldl (fun t r => t.serveRank s.due r) { s with due := [] }

/-- The end of a tick: the Owl's findings (R391, R392); what went off while no table ran concerns none (R225, R230); the conditions; the
synchronised copy (R268); a strobe's hold (R249); what a run sees; a round of the Flail line that waited for FE0 (R257); and
the WARM that the findings and mismatches of the tick ask for (R391, R396, R400, R410). (DEDUCED, log 67.) -/
def State.serve (s : State) : State :=
  if s.owlQ.isEmpty ∧ s.due.isEmpty ∧ s.offQ.isEmpty ∧ s.warmReq = 0 ∧ s.flail.judge = none ∧ !s.flail.sync ∧ (s.flail.fin = 0 ∨ s.stopped 0 ∨ s.flail.frame ≠ 0) then s
  else
    let s := s.owlServe
    let s0 := if s.mode = mRISING ∨ s.mode = mDRAINING then s else { s with offQ := [] }
    let s1 := s0.serveAll.margSync.holdJudge.seqWatch
    ((s1.iff (s1.flail.fin != 0 && !s1.stopped 0 && s1.flail.frame == 0) fun t => t.roundNext t.flail.fin).settle).warmServe.settle

/-! The pins that show the device's state, and EXTEST in their place (R524). -/

/-- SAFE_N: driven low in SAFE and LOCKOUT, released in every other mode (R42). -/
def State.safeN (s : State) : Bool := (s.extest 67).getD !(s.mode == mSAFE || s.mode == mLOCKOUT)

/-- SERVICE_N is driven low (R58): while REPLACE is 1, kept in PARKED, where DEV.STATUS is off and the register in I0 holds the
bits; high-impedance in FALLOW. -/
def State.serviceLow (s : State) : Bool :=
  match s.extest 68 with
  | some b => !b
  | none => s.mode != mFALLOW && (s.getW (devB + 0x9C) &&& 0x7F) != 0

/-- HIRQn requests (R357, R363), and the level that CFG.POL gives its pin. -/
def State.hirq (s : State) (c : Nat) : Bool := s.up && s.mode != mWAKING && s.bit intB (INT.STATUS_ASSERTED.at c)
def State.hirqPin (s : State) (c : Nat) : Bool := (s.extest (12 + c)).getD (s.hirq c == s.bit (intC c) INT.CFG_POL)

/-- A GPIO pin: whether it is driven, and at which level. -/
def State.gpioPin (s : State) (p : Nat) : Bool × Bool :=
  match s.extest (46 + p) with
  | some b => (!s.vioOut, b)
  | none => s.pinDrive p

end Sys2Proof.Machine
end

