-- ==== Sys2Proof/Machine/Clock.lean ====
section
/-! DEFINITION. One system tick with no command waiting: the conditions of the tick are served, and the block's own clocks and
its counts of time advance (R8, R47, R475). What happens when a count ends is a command of its own. -/

namespace Sys2Proof.Machine

open Sys2Proof

/-- A count of time goes down by 1, and rests at 0. (DESIGN CHOICE, log 8.) -/
def State.less (s : State) (b : Nat) (f : Fld) : State := if s.rd b f = 0 then s else s.wr b f (s.rd b f - 1)

/-- DEV.HOLDUP_LEFT counts from the entry to HOLDUP (R56). -/
def State.holdupTick (s : State) : State :=
  if s.mode = mHOLDUP ∧ s.rd devB DEV.HOLDUP_LEFT_LEFT ≠ 0 ∧ s.beats .holdup 1000 then
    let s1 := s.less devB DEV.HOLDUP_LEFT_LEFT
    if s1.rd devB DEV.HOLDUP_LEFT_LEFT = 0 then s1.mark .cdZero else s1
  else s

/-- The counts of 10 µs, 1 ms and 1 s that a host can read (R56, R98, R138, R174, R208, R278): each counts from its own start.
(DESIGN CHOICE, log 8.) -/
def State.counts (s : State) : State :=
  let s1 := if s.beats .ref 10 then s.less adcB ADC.REFSTAT_LEFT else s
  let s2 := s1.each (List.range 28) fun x t => if t.outSt x = 4 ∧ t.beats (.hic x) 1000 then t.less (hic x).b (hic x).left else t
  let s3 := s2.each (List.range 12) fun n t => if t.beats (.lidAge n) 1000000 then t.bump (rail n) RAIL.LID_AGE_SEC else t
  if s.session ∧ s.fe2 ∧ s.beats .donor 1000000 then s3.bump buscB BUSC.DONOR_STAT_ELAPSED else s3

/-- A tick of 1 µs ends: its conditions are served (R47), and the next begins. The prescaler of the calendar runs always, TIME
and the counts while their islands are on. (DESIGN CHOICE, log 8; DESIGN CHOICE, log 34.) -/
def State.tickOn (s : State) : State :=
  let s0 := s.secondEnd.ppsEnd.owlPasses.serve
  let s1 := ({ s0 with tick := s0.tick + 1 }.oscTick).lineTick
  let s2 := if s1.up && s1.clk.loaded then s1.timeTick else s1
  (if s2.up then ((s2.holdupTick.counts.twResume 0).twResume 1).loftAsk.ldrGo else s2).settle

/-- The rows that waited for a stopped engine, once every engine runs again (R31). -/
def State.resumed (s : State) : List Instr := if s.fe0Off || s.stopped 2 || s.stopped 3 then [] else s.later

end Sys2Proof.Machine
end

