-- ==== Sys2Proof/Machine/Dispatch.lean ====
section
/-! DEFINITION. The dispatch: one arm per command, each one direct call of its meaning. -/

namespace Sys2Proof.Machine

open Sys2Proof

def exec (i : Instr) (s : State) : Host.Outcome State Fault Refusal :=
  match i with
  | .por feeds => Sys2Proof.Machine.execPor feeds s
  | .fallowEntry vbak => Sys2Proof.Machine.execFallowEntry vbak s
  | .bpor => Sys2Proof.Machine.execBpor s
  | .wakePinChange i0 lvl => Sys2Proof.Machine.execWakePinChange i0 lvl s
  | .holdonRelease => Sys2Proof.Machine.execHoldonRelease s
  | .checkerSelfTest failed => Sys2Proof.Machine.execCheckerSelfTest failed s
  | .lockstepSelfTest failed => Sys2Proof.Machine.execLockstepSelfTest failed s
  | .otpReadPass rows ctl => Sys2Proof.Machine.execOtpReadPass rows ctl s
  | .safeStateLineTest missing => Sys2Proof.Machine.execSafeStateLineTest missing s
  | .loftScan hits => Sys2Proof.Machine.execLoftScan hits s
  | .logScan => Sys2Proof.Machine.execLogScan s
  | .imageAuthentication hits failed again => Sys2Proof.Machine.execImageAuthentication hits failed again s
  | .baleLoad hits imon fail => Sys2Proof.Machine.execBaleLoad hits imon fail s
  | .timeLoad => Sys2Proof.Machine.execTimeLoad s
  | .bootSlotExpiry => Sys2Proof.Machine.execBootSlotExpiry s
  | .warmComplete => Sys2Proof.Machine.execWarmComplete s
  | .holdupCountdownEnd => Sys2Proof.Machine.execHoldupCountdownEnd s
  | .vbusFloor mv us => Sys2Proof.Machine.execVbusFloor mv us s
  | .serviceTimeout => Sys2Proof.Machine.execServiceTimeout s
  | .minoffEnd => Sys2Proof.Machine.execMinoffEnd s
  | .modeReqOff c v => Sys2Proof.Machine.execModeReqOff c v s
  | .modeReqStandby c v => Sys2Proof.Machine.execModeReqStandby c v s
  | .modeReqRun c v => Sys2Proof.Machine.execModeReqRun c v s
  | .modeReqService c v => Sys2Proof.Machine.execModeReqService c v s
  | .modeReqRevalidate c v => Sys2Proof.Machine.execModeReqRevalidate c v s
  | .modeReqRestart c v => Sys2Proof.Machine.execModeReqRestart c v s
  | .modeReqWarm c v => Sys2Proof.Machine.execModeReqWarm c v s
  | .replaceSrcClear c v => Sys2Proof.Machine.execReplaceSrcClear c v s
  | .railEnSet c n imon => Sys2Proof.Machine.execRailEnSet c n imon s
  | .railEnClear c n => Sys2Proof.Machine.execRailEnClear c n s
  | .railVsetWrite c n v => Sys2Proof.Machine.execRailVsetWrite c n v s
  | .railFswWrite c n v => Sys2Proof.Machine.execRailFswWrite c n v s
  | .prebiasSearchDone n uv => Sys2Proof.Machine.execPrebiasSearchDone n uv s
  | .loopSample n uv vins high low => Sys2Proof.Machine.execLoopSample n uv vins high low s
  | .coefApply c n => Sys2Proof.Machine.execCoefApply c n s
  | .coefCopy c n => Sys2Proof.Machine.execCoefCopy c n s
  | .winOvr n => Sys2Proof.Machine.execWinOvr n s
  | .setV t => Sys2Proof.Machine.execSetV t s
  | .ramp t => Sys2Proof.Machine.execRamp t s
  | .loopId t => Sys2Proof.Machine.execLoopId t s
  | .lidSettleEnd n => Sys2Proof.Machine.execLidSettleEnd n s
  | .lidInjectionEnd n => Sys2Proof.Machine.execLidInjectionEnd n s
  | .lidComputeDone n f => Sys2Proof.Machine.execLidComputeDone n f s
  | .loopCommit t => Sys2Proof.Machine.execLoopCommit t s
  | .masterPeriodStart r imv => Sys2Proof.Machine.execMasterPeriodStart r imv s
  | .hintEdge r rising high low => Sys2Proof.Machine.execHintEdge r rising high low s
  | .hintWindowEnd r => Sys2Proof.Machine.execHintWindowEnd r s
  | .shedDecision r => Sys2Proof.Machine.execShedDecision r s
  | .shedComplete r => Sys2Proof.Machine.execShedComplete r s
  | .addComplete r => Sys2Proof.Machine.execAddComplete r s
  | .shedHoldEnd r => Sys2Proof.Machine.execShedHoldEnd r s
  | .sfltFault g low ns imon => Sys2Proof.Machine.execSfltFault g low ns imon s
  | .outOfFamily p => Sys2Proof.Machine.execOutOfFamily p s
  | .peakTrip p uv ns => Sys2Proof.Machine.execPeakTrip p uv ns s
  | .negCurrentLimit p ma => Sys2Proof.Machine.execNegCurrentLimit p ma s
  | .hiccupEntry x => Sys2Proof.Machine.execHiccupEntry x s
  | .hiccupOffEnd x => Sys2Proof.Machine.execHiccupOffEnd x s
  | .retryClear x => Sys2Proof.Machine.execRetryClear x s
  | .startShortCheck x uv => Sys2Proof.Machine.execStartShortCheck x uv s
  | .ovTrip x uv vin ns => Sys2Proof.Machine.execOvTrip x uv vin ns s
  | .uvTrip x uv vin us => Sys2Proof.Machine.execUvTrip x uv vin us s
  | .powerGood x uv vin us => Sys2Proof.Machine.execPowerGood x uv vin us s
  | .offThresholdCrossing x uv => Sys2Proof.Machine.execOffThresholdCrossing x uv s
  | .dischargeRelease x => Sys2Proof.Machine.execDischargeRelease x s
  | .disForceWrite c x => Sys2Proof.Machine.execDisForceWrite c x s
  | .vbusOv mv us => Sys2Proof.Machine.execVbusOv mv us s
  | .vbusUv mv us => Sys2Proof.Machine.execVbusUv mv us s
  | .portOv p mv us => Sys2Proof.Machine.execPortOv p mv us s
  | .vbakWeak mv us => Sys2Proof.Machine.execVbakWeak mv us s
  | .internalSupplyFault k mv feeds => Sys2Proof.Machine.execInternalSupplyFault k mv feeds s
  | .dieTempTrip => Sys2Proof.Machine.execDieTempTrip s
  | .portAbovePres p mv => Sys2Proof.Machine.execPortAbovePres p mv s
  | .portBelowPres p mv => Sys2Proof.Machine.execPortBelowPres p mv s
  | .feedReturn p => Sys2Proof.Machine.execFeedReturn p s
  | .portReverseTrip p uv => Sys2Proof.Machine.execPortReverseTrip p uv s
  | .portVdsPositive p uv => Sys2Proof.Machine.execPortVdsPositive p uv s
  | .portBelowLoss p mv => Sys2Proof.Machine.execPortBelowLoss p mv s
  | .portAboveLoss p mv => Sys2Proof.Machine.execPortAboveLoss p mv s
  | .portLossConfirmed p => Sys2Proof.Machine.execPortLossConfirmed p s
  | .portOvClear p mv => Sys2Proof.Machine.execPortOvClear p mv s
  | .portEnWrite c p b => Sys2Proof.Machine.execPortEnWrite c p b s
  | .portBlockWrite c p b => Sys2Proof.Machine.execPortBlockWrite c p b s
  | .coldStart f => Sys2Proof.Machine.execColdStart f s
  | .startupPathStop => Sys2Proof.Machine.execStartupPathStop s
  | .startupPathRestart f => Sys2Proof.Machine.execStartupPathRestart f s
  | .fstartDone => Sys2Proof.Machine.execFstartDone s
  | .vbusOvRecovered mv us => Sys2Proof.Machine.execVbusOvRecovered mv us s
  | .buscEnWrite c b => Sys2Proof.Machine.execBuscEnWrite c b s
  | .donorStart t vbus vpn => Sys2Proof.Machine.execDonorStart t vbus vpn s
  | .donorStop t => Sys2Proof.Machine.execDonorStop t s
  | .fstopDone => Sys2Proof.Machine.execFstopDone s
  | .deadEnd => Sys2Proof.Machine.execDeadEnd s
  | .nodeMatch vnode vn => Sys2Proof.Machine.execNodeMatch vnode vn s
  | .matchTimeout => Sys2Proof.Machine.execMatchTimeout s
  | .connectDone => Sys2Proof.Machine.execConnectDone s
  | .deliverEntry => Sys2Proof.Machine.execDeliverEntry s
  | .donorFloor mv us => Sys2Proof.Machine.execDonorFloor mv us s
  | .donorTaper => Sys2Proof.Machine.execDonorTaper s
  | .donorTime => Sys2Proof.Machine.execDonorTime s
  | .rstopDone => Sys2Proof.Machine.execRstopDone s
  | .phRemClear c v => Sys2Proof.Machine.execPhRemClear c v s
  | .chargerTick vbsn => Sys2Proof.Machine.execChargerTick vbsn s
  | .qualifyEnd vbsn => Sys2Proof.Machine.execQualifyEnd vbsn s
  | .prechargeDone => Sys2Proof.Machine.execPrechargeDone s
  | .prechargeTimeout => Sys2Proof.Machine.execPrechargeTimeout s
  | .cvEntry => Sys2Proof.Machine.execCvEntry s
  | .safetyTimerExpiry => Sys2Proof.Machine.execSafetyTimerExpiry s
  | .termination => Sys2Proof.Machine.execTermination s
  | .topoffDone => Sys2Proof.Machine.execTopoffDone s
  | .autoRecharge => Sys2Proof.Machine.execAutoRecharge s
  | .restDue => Sys2Proof.Machine.execRestDue s
  | .restEnd => Sys2Proof.Machine.execRestEnd s
  | .packAbsence byNtc rise us => Sys2Proof.Machine.execPackAbsence byNtc rise us s
  | .packReinsertion us => Sys2Proof.Machine.execPackReinsertion us s
  | .probeStart => Sys2Proof.Machine.execProbeStart s
  | .probeEnd => Sys2Proof.Machine.execProbeEnd s
  | .packOv vbsn us => Sys2Proof.Machine.execPackOv vbsn us s
  | .ntcShortFault => Sys2Proof.Machine.execNtcShortFault s
  | .ntcClassChange mv us => Sys2Proof.Machine.execNtcClassChange mv us s
  | .tpackUpdate mv => Sys2Proof.Machine.execTpackUpdate mv s
  | .chgCtrlStop t => Sys2Proof.Machine.execChgCtrlStop t s
  | .chgCtrlStart t => Sys2Proof.Machine.execChgCtrlStart t s
  | .chgCtrlClear t => Sys2Proof.Machine.execChgCtrlClear t s
  | .chgCtrlRest t => Sys2Proof.Machine.execChgCtrlRest t s
  | .chgCtrlRecharge t => Sys2Proof.Machine.execChgCtrlRecharge t s
  | .buckEnSet c n => Sys2Proof.Machine.execBuckEnSet c n s
  | .buckEnClear c n => Sys2Proof.Machine.execBuckEnClear c n s
  | .buckPrebiasDone n uv => Sys2Proof.Machine.execBuckPrebiasDone n uv s
  | .buckSample n uv vin ma fma cycle => Sys2Proof.Machine.execBuckSample n uv vin ma fma cycle s
  | .buckPeakTrip n ma => Sys2Proof.Machine.execBuckPeakTrip n ma s
  | .buckParWrite c k b => Sys2Proof.Machine.execBuckParWrite c k b s
  | .ldoEnSet c j => Sys2Proof.Machine.execLdoEnSet c j s
  | .ldoEnClear c j => Sys2Proof.Machine.execLdoEnClear c j s
  | .ldoRiseDone j => Sys2Proof.Machine.execLdoRiseDone j s
  | .ldoOcOff j ma vin us => Sys2Proof.Machine.execLdoOcOff j ma vin us s
  | .ldo0ToGroup mv us => Sys2Proof.Machine.execLdo0ToGroup mv us s
  | .ldo0ToKeepalive mv => Sys2Proof.Machine.execLdo0ToKeepalive mv s
  | .kaTrip ma us => Sys2Proof.Machine.execKaTrip ma us s
  | .lsEnSet c k => Sys2Proof.Machine.execLsEnSet c k s
  | .lsEnClear c k => Sys2Proof.Machine.execLsEnClear c k s
  | .lsRampDone k uv vin => Sys2Proof.Machine.execLsRampDone k uv vin s
  | .lsOcOff k ma us => Sys2Proof.Machine.execLsOcOff k ma us s
  | .lsFastTrip k ma => Sys2Proof.Machine.execLsFastTrip k ma s
  | .lsReverseStart k uv vin => Sys2Proof.Machine.execLsReverseStart k uv vin s
  | .lsReverseEnd k uv vin => Sys2Proof.Machine.execLsReverseEnd k uv vin s
  | .seqStepAction imon => Sys2Proof.Machine.execSeqStepAction imon s
  | .seqStepComplete p => Sys2Proof.Machine.execSeqStepComplete p s
  | .seqStepTimeout p => Sys2Proof.Machine.execSeqStepTimeout p s
  | .slowOff => Sys2Proof.Machine.execSlowOff s
  | .stuck => Sys2Proof.Machine.execStuck s
  | .floor => Sys2Proof.Machine.execFloor s
  | .floorTimeout => Sys2Proof.Machine.execFloorTimeout s
  | .seqStepWrite c k b v => Sys2Proof.Machine.execSeqStepWrite c k b v s
  | .seqUp t => Sys2Proof.Machine.execSeqUp t s
  | .seqDown t => Sys2Proof.Machine.execSeqDown t s
  | .seqState t => Sys2Proof.Machine.execSeqState t s
  | .strobe own ns => Sys2Proof.Machine.execStrobe own ns s
  | .announce h st comp own coll => Sys2Proof.Machine.execAnnounce h st comp own coll s
  | .elect ns cands coll => Sys2Proof.Machine.execElect ns cands coll s
  | .digest h first second own coll => Sys2Proof.Machine.execDigest h first second own coll s
  | .ident h ref ids maxn own coll => Sys2Proof.Machine.execIdent h ref ids maxn own coll s
  | .frameType h => Sys2Proof.Machine.execFrameType h s
  | .alarm ns h => Sys2Proof.Machine.execAlarm ns h s
  | .illegalWidth ns => Sys2Proof.Machine.execIllegalWidth ns s
  | .flailWakePulse p us => Sys2Proof.Machine.execFlailWakePulse p us s
  | .masterLost low => Sys2Proof.Machine.execMasterLost low s
  | .holdExp => Sys2Proof.Machine.execHoldExp s
  | .stepDone low => Sys2Proof.Machine.execStepDone low s
  | .targetStrobe => Sys2Proof.Machine.execTargetStrobe s
  | .announcePeriodExpiry => Sys2Proof.Machine.execAnnouncePeriodExpiry s
  | .mctrlStep c => Sys2Proof.Machine.execMctrlStep c s
  | .mctrlGoto c arg => Sys2Proof.Machine.execMctrlGoto c arg s
  | .mctrlTarget c arg => Sys2Proof.Machine.execMctrlTarget c arg s
  | .mctrlStop c => Sys2Proof.Machine.execMctrlStop c s
  | .mctrlWake c => Sys2Proof.Machine.execMctrlWake c s
  | .alarmSend c ns => Sys2Proof.Machine.execAlarmSend c ns s
  | .alarmRepeat us ns => Sys2Proof.Machine.execAlarmRepeat us ns s
  | .flailStuck p us hold => Sys2Proof.Machine.execFlailStuck p us hold s
  | .frameAbandon h us => Sys2Proof.Machine.execFrameAbandon h us s
  | .digestRound t => Sys2Proof.Machine.execDigestRound t s
  | .digestRestart => Sys2Proof.Machine.execDigestRestart s
  | .margin t => Sys2Proof.Machine.execMargin t s
  | .margApply c => Sys2Proof.Machine.execMargApply c s
  | .margDisarm c => Sys2Proof.Machine.execMargDisarm c s
  | .snapshot t => Sys2Proof.Machine.execSnapshot t s
  | .snapshotWritten => Sys2Proof.Machine.execSnapshotWritten s
  | .conversion v raw => Sys2Proof.Machine.execConversion v raw s
  | .accWindowBoundary ch => Sys2Proof.Machine.execAccWindowBoundary ch s
  | .adcUrg c v => Sys2Proof.Machine.execAdcUrg c v s
  | .urgDone v raw => Sys2Proof.Machine.execUrgDone v raw s
  | .refEnSet c => Sys2Proof.Machine.execRefEnSet c s
  | .refEnClear c => Sys2Proof.Machine.execRefEnClear c s
  | .refReady => Sys2Proof.Machine.execRefReady s
  | .convEnWrite c k v => Sys2Proof.Machine.execConvEnWrite c k v s
  | .aclr c i0 v => Sys2Proof.Machine.execAclr c i0 v s
  | .tclr c i0 v => Sys2Proof.Machine.execTclr c i0 v s
  | .adcCalZero t => Sys2Proof.Machine.execAdcCalZero t s
  | .adcCalFull t => Sys2Proof.Machine.execAdcCalFull t s
  | .adcCalCommit t => Sys2Proof.Machine.execAdcCalCommit t s
  | .adcCalDiscard t => Sys2Proof.Machine.execAdcCalDiscard t s
  | .adcCalPointDone => Sys2Proof.Machine.execAdcCalPointDone s
  | .adcCalTimeout => Sys2Proof.Machine.execAdcCalTimeout s
  | .thermalUpdate => Sys2Proof.Machine.execThermalUpdate s
  | .levelFall k => Sys2Proof.Machine.execLevelFall k s
  | .rateClear k => Sys2Proof.Machine.execRateClear k s
  | .dieShed => Sys2Proof.Machine.execDieShed s
  | .hostaWrite c v => Sys2Proof.Machine.execHostaWrite c v s
  | .read c f => Sys2Proof.Machine.execRead c f s
  | .write c f => Sys2Proof.Machine.execWrite c f s
  | .writeMasked c f => Sys2Proof.Machine.execWriteMasked c f s
  | .doorbell c f => Sys2Proof.Machine.execDoorbell c f s
  | .status c f => Sys2Proof.Machine.execStatus c f s
  | .violWindowEnd c => Sys2Proof.Machine.execViolWindowEnd c s
  | .ctxReset c => Sys2Proof.Machine.execCtxReset c s
  | .commandFetch hits => Sys2Proof.Machine.execCommandFetch hits s
  | .selfCqh c v => Sys2Proof.Machine.execSelfCqh c v s
  | .ringIrqTimeout c => Sys2Proof.Machine.execRingIrqTimeout c s
  | .stallSlotBoundary => Sys2Proof.Machine.execStallSlotBoundary s
  | .arbGrant g ask done => Sys2Proof.Machine.execArbGrant g ask done s
  | .revocation r done => Sys2Proof.Machine.execRevocation r done s
  | .directRequest c r => Sys2Proof.Machine.execDirectRequest c r s
  | .directRelease c r => Sys2Proof.Machine.execDirectRelease c r s
  | .directHoldExpiry r => Sys2Proof.Machine.execDirectHoldExpiry r s
  | .claim c => Sys2Proof.Machine.execClaim c s
  | .claimDone c v => Sys2Proof.Machine.execClaimDone c v s
  | .setpend c v => Sys2Proof.Machine.execSetpend c v s
  | .hirqGapEnd c => Sys2Proof.Machine.execHirqGapEnd c s
  | .edgeLatchApply es => Sys2Proof.Machine.execEdgeLatchApply es s
  | .irqEnWrite c p v => Sys2Proof.Machine.execIrqEnWrite c p v s
  | .raise ev cls detail => Sys2Proof.Machine.execRaise ev cls detail s
  | .ackId c id => Sys2Proof.Machine.execAckId c id s
  | .ackAll c => Sys2Proof.Machine.execAckAll c s
  | .latAck c k v => Sys2Proof.Machine.execLatAck c k v s
  | .fltForce c k v => Sys2Proof.Machine.execFltForce c k v s
  | .errForceWrite c p v => Sys2Proof.Machine.execErrForceWrite c p v s
  | .fctrlLiveWrite c v => Sys2Proof.Machine.execFctrlLiveWrite c v s
  | .eventRecordWrite fail => Sys2Proof.Machine.execEventRecordWrite fail s
  | .kick c v => Sys2Proof.Machine.execKick c v s
  | .slotPeriodEnd i0 => Sys2Proof.Machine.execSlotPeriodEnd i0 s
  | .wdgBindWrite c i0 v => Sys2Proof.Machine.execWdgBindWrite c i0 v s
  | .wdgSlotEnWrite c i0 v => Sys2Proof.Machine.execWdgSlotEnWrite c i0 v s
  | .lockstepMismatch n also => Sys2Proof.Machine.execLockstepMismatch n also s
  | .engineException n => Sys2Proof.Machine.execEngineException n s
  | .handshakeTimeout sender us => Sys2Proof.Machine.execHandshakeTimeout sender us s
  | .refLoss ns khz => Sys2Proof.Machine.execRefLoss ns khz s
  | .refAutoReturn us => Sys2Proof.Machine.execRefAutoReturn us s
  | .clkRet c v => Sys2Proof.Machine.execClkRet c v s
  | .droop n pm => Sys2Proof.Machine.execDroop n pm s
  | .droopReleaseStep n pm gap ns10 => Sys2Proof.Machine.execDroopReleaseStep n pm gap ns10 s
  | .droopLong n ns10 => Sys2Proof.Machine.execDroopLong n ns10 s
  | .retire t => Sys2Proof.Machine.execRetire t s
  | .scrub t hits => Sys2Proof.Machine.execScrub t hits s
  | .loftCommit t fail => Sys2Proof.Machine.execLoftCommit t fail s
  | .loftAutoCommit fail => Sys2Proof.Machine.execLoftAutoCommit fail s
  | .nvmWrite t fail => Sys2Proof.Machine.execNvmWrite t fail s
  | .otpBurnRow t reads => Sys2Proof.Machine.execOtpBurnRow t reads s
  | .otpCounterIncrement t => Sys2Proof.Machine.execOtpCounterIncrement t s
  | .otpLockBurn t => Sys2Proof.Machine.execOtpLockBurn t s
  | .otpReburn t reads => Sys2Proof.Machine.execOtpReburn t reads s
  | .ovrSet c => Sys2Proof.Machine.execOvrSet c s
  | .ovrClear c => Sys2Proof.Machine.execOvrClear c s
  | .ovrClearAll c => Sys2Proof.Machine.execOvrClearAll c s
  | .imageWrite t fail => Sys2Proof.Machine.execImageWrite t fail s
  | .activate t hits failed => Sys2Proof.Machine.execActivate t hits failed s
  | .confirm t => Sys2Proof.Machine.execConfirm t s
  | .ldrWrite c v fail => Sys2Proof.Machine.execLdrWrite c v fail s
  | .ldrActivate c v => Sys2Proof.Machine.execLdrActivate c v s
  | .oscStop us => Sys2Proof.Machine.execOscStop us s
  | .oscResume => Sys2Proof.Machine.execOscResume s
  | .trimCorrection => Sys2Proof.Machine.execTrimCorrection s
  | .secondBoundary => Sys2Proof.Machine.execSecondBoundary s
  | .calendarRead c i0 => Sys2Proof.Machine.execCalendarRead c i0 s
  | .freezeTimeout c => Sys2Proof.Machine.execFreezeTimeout c s
  | .freezeRel c => Sys2Proof.Machine.execFreezeRel c s
  | .rtcFieldWrite c k v => Sys2Proof.Machine.execRtcFieldWrite c k v s
  | .rtcCommit c v => Sys2Proof.Machine.execRtcCommit c v s
  | .rtcDiscard c => Sys2Proof.Machine.execRtcDiscard c s
  | .osfClear c => Sys2Proof.Machine.execOsfClear c s
  | .timeNsRead c => Sys2Proof.Machine.execTimeNsRead c s
  | .setNow c => Sys2Proof.Machine.execSetNow c s
  | .setAtPps c => Sys2Proof.Machine.execSetAtPps c s
  | .cancel c => Sys2Proof.Machine.execCancel c s
  | .ppsEdge lead => Sys2Proof.Machine.execPpsEdge lead s
  | .ppsMissed => Sys2Proof.Machine.execPpsMissed s
  | .twiXfer t l => Sys2Proof.Machine.execTwiXfer t l s
  | .twiRetry n ns l => Sys2Proof.Machine.execTwiRetry n ns l s
  | .twiPollTimeout i0 => Sys2Proof.Machine.execTwiPollTimeout i0 s
  | .twiStretchTimeout n us => Sys2Proof.Machine.execTwiStretchTimeout n us s
  | .sclStuck n us => Sys2Proof.Machine.execSclStuck n us s
  | .twiRecovery n us freed => Sys2Proof.Machine.execTwiRecovery n us freed s
  | .twiReset c i0 => Sys2Proof.Machine.execTwiReset c i0 s
  | .twiRecover c i0 => Sys2Proof.Machine.execTwiRecover c i0 s
  | .lockWrite c p v => Sys2Proof.Machine.execLockWrite c p v s
  | .ownerWrite c p v => Sys2Proof.Machine.execOwnerWrite c p v s
  | .gpioEdge n lvl us => Sys2Proof.Machine.execGpioEdge n lvl us s
  | .outSet c v => Sys2Proof.Machine.execOutSet c v s
  | .outClr c v => Sys2Proof.Machine.execOutClr c v s
  | .vioLoss mv us => Sys2Proof.Machine.execVioLoss mv us s
  | .internalSupplyRecovery k mv => Sys2Proof.Machine.execInternalSupplyRecovery k mv s
  | .vioReturn mv => Sys2Proof.Machine.execVioReturn mv s
  | .busConverterSample m => Sys2Proof.Machine.execBusConverterSample m s
  | .startupPathDelivery ma => Sys2Proof.Machine.execStartupPathDelivery ma s
  | .dieTempRearm => Sys2Proof.Machine.execDieTempRearm s
  | .flailPortHigh p us => Sys2Proof.Machine.execFlailPortHigh p us s
  | .testAccessPort tms tdi lv ins => Sys2Proof.Machine.execTestAccessPort tms tdi lv ins s
  | .wakingReadAccess mv => Sys2Proof.Machine.execWakingReadAccess mv s
  | .windowSettle x => Sys2Proof.Machine.execWindowSettle x s

end Sys2Proof.Machine
end

