-- ==== Sys2Proof/Machine/Step.lean ====
section
/-! DEFINITION. One step: the command at the front of the queue, or a tick of the block's own clock. -/

namespace Sys2Proof.Machine

open Sys2Proof

/-- The command at the front runs on the state with the rest of the queue; on an empty queue one system tick of 1 µs
passes, and the rows that waited for a stopped engine come back to the queue when it resumes (R31). Of a host access and an
event of the device in one cycle, the host's command stands first, so the device's own update wins (R17).
(DESIGN CHOICE, log 8; DESIGN CHOICE, log 70.) -/
def step (s : State) : Host.Outcome State Fault Refusal :=
  match s.pending with
  | [] => .next (if s.resumed.isEmpty then s.tickOn else { s.tickOn with pending := s.resumed, later := [] })
  | c :: rest => exec c { s with pending := rest }

/-- The command that a word spells, in front of the queue. (DESIGN CHOICE, log 68.) -/
def State.withFetchWord (s : State) (nbits w : Nat) : State :=
  match decodeTableWord nbits w with
  | none => s
  | some c => { s with pending := c :: s.pending }

end Sys2Proof.Machine
end

