-- ==== Sys2Proof/Safety.lean ====
section
/-! DEFINITION. What a safe run is: no step of it stops. And the terms of the statements: what a command does before the
device follows it up, and what a change leaves alone. -/

namespace Sys2Proof

open Sys2Proof.Machine

/-- One step answers a next state. -/
def Safe.step (s : State) : Prop := ∃ t, Machine.step s = .next t

/-- `n` steps in a row answer a next state. -/
def Safe.run : Nat → State → Prop
  | 0, _ => True
  | n + 1, s => ∃ t, Machine.step s = .next t ∧ Safe.run n t

namespace Machine

/-- The invariant: the register file and NVM are in canonical form. -/
def State.Inv (s : State) : Prop := regsWf s.regs = true ∧ Memory.wf s.nvm = true

/-- Nothing waits to be followed up: no raise, no output that went off, no WARM asked for. -/
def State.Quiet (s : State) : Prop := s.raiseQ = [] ∧ s.offQ = [] ∧ s.warmReq = 0

/-- A command answers the next state that follows up `u`, the state its own effect makes. -/
def Does (c : Instr) (s u : State) : Prop := exec c s = .next u.settle

/-- A whole-register write of `v` to address `a` by context `c` is accepted. -/
def State.Accepts (s : State) (c : Fin 8) (a : Nat) (v : Word) : Prop := s.mayWrite c a v = true

/-- A write of field `f` of the block at `b` by context `c` is accepted. -/
def State.AcceptsField (s : State) (c : Fin 8) (b : Nat) (f : Fld) (v : Nat) : Prop :=
  (s.up && s.ctxOn c && !s.quar c &&
    s.wrStatus c (b + f.off) (bitMask f.lo f.w) (BitVec.ofNat 32 (v * 2 ^ f.lo)) == fsOK) = true

/-- The fetched command `k` has tag `t` and opcode `op`, waits, holds its resources, its engine runs, and it is its turn: it has
begun before, or no command fetched before it has still to start (R330). -/
def State.Ready (s : State) (t : BitVec 8) (op : Nat) (k : Cmd) : Prop :=
  s.findCmd t.toNat = some k ∧ k.op = op ∧ k.phase = .waiting ∧ s.holdsAll k = true ∧ s.cmdStopped k = false ∧
    (k.prog ≠ 0 ∨ s.inTurn k = true)

/-- A command answers a next state: `u` followed up, where `u`, the state that the command's own effect makes, has `P`. -/
def Effect (c : Instr) (s : State) (P : State → Prop) : Prop := ∃ u, exec c s = .next u.settle ∧ P u

/-- A key of the INT page, or of a context's copy of it. -/
def intKey (k : Nat) : Bool := k % 0x10000 / 0x400 == 6

/-- `u` differs from `s` in registers only, and outside those that `ks` holds of not even in them. -/
def RegsOnly (ks : Nat → Prop) (s u : State) : Prop := u = { s with regs := u.regs } ∧ ∀ k, ¬ ks k → u.getW k = s.getW k

/-- `u` differs from `s` in registers, in the raises that wait and in the events of IRQ_PEND bits only, and outside the INT
page and the registers that `ks` holds of not in registers. -/
def Told (ks : Nat → Prop) (s u : State) : Prop :=
  u = { s with regs := u.regs, raiseQ := u.raiseQ, irqEv := u.irqEv } ∧ ∀ k, intKey k = false → ¬ ks k → u.getW k = s.getW k

/-- The word of a MODE_REQ write whose REQ is `req` and whose other bits are those of `v`. -/
def reqWord (v : Word) (req : Nat) : Word := BitVec.ofNat 32 (getBits v 4 28 * 16 + req)

/-- The word of an MCTRL write. -/
def mctrlWord (op arg : Nat) : Word := BitVec.ofNat 32 (op * 2 ^ FLAIL.MCTRL_OP.lo + arg * 2 ^ FLAIL.MCTRL_ARG.lo)

/-- The rows that are a write of one whole register by a context: the address and the word. -/
def writeOf : Instr → Option (Fin 8 × Nat × Word)
  | .modeReqOff c v => some (c, 0x84, reqWord v 1)
  | .modeReqStandby c v => some (c, 0x84, reqWord v 2)
  | .modeReqRun c v => some (c, 0x84, reqWord v 3)
  | .modeReqService c v => some (c, 0x84, reqWord v 4)
  | .modeReqRevalidate c v => some (c, 0x84, reqWord v 5)
  | .modeReqRestart c v => some (c, 0x84, reqWord v 6)
  | .modeReqWarm c v => some (c, 0x84, reqWord v 7)
  | .replaceSrcClear c v => some (c, 0x9C, v)
  | .railVsetWrite c n v => some (c, rail n + 0x44, v)
  | .railFswWrite c n v => some (c, rail n + 0x54, v)
  | .coefApply c n => some (c, rail n + 0x68, 1)
  | .coefCopy c n => some (c, rail n + 0x68, 2)
  | .seqStepWrite c k b v => some (c, seqB + 0x100 + 8 * k + if b then 4 else 0, v)
  | .mctrlStep c => some (c, flailB + 0x58, mctrlWord 1 0)
  | .mctrlGoto c arg => some (c, flailB + 0x58, mctrlWord 2 arg.toNat)
  | .mctrlTarget c arg => some (c, flailB + 0x58, mctrlWord 3 arg.toNat)
  | .mctrlStop c => some (c, flailB + 0x58, mctrlWord 4 0)
  | .mctrlWake c => some (c, flailB + 0x58, mctrlWord 5 0)
  | .adcUrg c v => some (c, adcB + 0x58, v)
  | .convEnWrite c k v => some (c, convCfg k, v)
  | .aclr c i v => some (c, accB i + 0x40, v)
  | .tclr c i v => some (c, accB i + 0x44, v)
  | .hostaWrite c v => some (c, thmB + 0x39C, v)
  | .selfCqh c v => some (c, 0x1050, v)
  | .directRequest c r => some (c, arbB + 0x4C, BitVec.ofNat 32 (1 + r.toNat * 16))
  | .directRelease c r => some (c, arbB + 0x4C, BitVec.ofNat 32 (2 + r.toNat * 16))
  | .claimDone c v => some (c, 0x184C, v)
  | .setpend c v => some (c, 0x1854, v)
  | .irqEnWrite c p v => some (c, pg p.toNat + 0x1C, v)
  | .ackId c id => some (c, fltB + 0x44, BitVec.ofNat 32 id.toNat)
  | .ackAll c => some (c, fltB + 0x44, 0x100)
  | .latAck c k v => some (c, fltB + 0x60 + 4 * k, v)
  | .fltForce c k v => some (c, fltB + 0x80 + 4 * k, v)
  | .errForceWrite c p v => some (c, pg p.toNat + 0x10, v)
  | .fctrlLiveWrite c v => some (c, fltB + 0x40, v)
  | .kick c v => some (c, 0x2040, v)
  | .wdgBindWrite c i v => some (c, owl i, v)
  | .wdgSlotEnWrite c i v => some (c, owl i, v)
  | .clkRet c v => some (c, 0x444, v)
  | .ovrSet c => some (c, 0xB06C, 1)
  | .ovrClear c => some (c, 0xB06C, 2)
  | .ovrClearAll c => some (c, 0xB06C, 3)
  | .ldrWrite c v _ => some (c, 0xB44C, v)
  | .ldrActivate c v => some (c, 0xB44C, v)
  | .osfClear c => some (c, 0xA00C, 1)
  | .freezeRel c => some (c, 0xA064, 2)
  | .rtcDiscard c => some (c, 0xA064, 1)
  | .rtcFieldWrite c k v => some (c, rtcB + heldReg k, v)
  | .rtcCommit c v => some (c, 0xA044, v)
  | .setNow c => some (c, 0xA464, 1)
  | .setAtPps c => some (c, 0xA464, 2)
  | .cancel c => some (c, 0xA464, 3)
  | .twiReset c i => some (c, twiB i + 0x44, 1)
  | .twiRecover c i => some (c, twiB i + 0x44, 2)
  | .lockWrite c p v => some (c, pg p.toNat + 0x20, v)
  | .ownerWrite c p v => some (c, pg p.toNat + 0x24, v)
  | .outSet c v => some (c, gpioB + 0x84, v)
  | .outClr c v => some (c, gpioB + 0x88, v)
  | _ => none

/-- The rows that are a write of one field by a context: the block, the field and its value. -/
def fieldOf : Instr → Option (Fin 8 × Nat × Fld × Nat)
  | .railEnSet c n _ => some (c, rail n, RAIL.CTRL_EN, 1)
  | .railEnClear c n => some (c, rail n, RAIL.CTRL_EN, 0)
  | .buckEnSet c n => some (c, bk n, BUCK.BK_CTRL_EN, 1)
  | .buckEnClear c n => some (c, bk n, BUCK.BK_CTRL_EN, 0)
  | .buckParWrite c k b => some (c, bk (2 * k), BUCK.BK_CTRL_PAR, if b then 1 else 0)
  | .ldoEnSet c j => some (c, ldo j, LDO.LDO_CTRL_EN, 1)
  | .ldoEnClear c j => some (c, ldo j, LDO.LDO_CTRL_EN, 0)
  | .lsEnSet c k => some (c, ls k, LDO.LS_CTRL_EN, 1)
  | .lsEnClear c k => some (c, ls k, LDO.LS_CTRL_EN, 0)
  | .disForceWrite c x => some (c, out x, SUPV.OUT_OFF_DIS_FORCE, 1)
  | .portBlockWrite c p b => some (c, port p, PORT.P_CFG_BLOCK, if b then 1 else 0)
  | .buscEnWrite c b => some (c, buscB, BUSC.CTRL_EN, if b then 1 else 0)
  | .phRemClear c v => some (c, buscB, BUSC.PH_REM_REM, v.toNat)
  | .margApply c => some (c, margB, MARG.CTRL_APPLY, 1)
  | .margDisarm c => some (c, margB, MARG.CTRL_DISARM, 1)
  | .refEnSet c => some (c, adcB, ADC.CTRL_REF_EN, 1)
  | .refEnClear c => some (c, adcB, ADC.CTRL_REF_EN, 0)
  | _ => none

/-- The rows that carry out a fetched command: its tag and its opcode. -/
def ringOf : Instr → Option (BitVec 8 × Nat)
  | .setV t => some (t, 0x01)
  | .ramp t => some (t, 0x02)
  | .margin t => some (t, 0x03)
  | .snapshot t => some (t, 0x04)
  | .seqUp t => some (t, 0x05)
  | .seqDown t => some (t, 0x06)
  | .seqState t => some (t, 0x07)
  | .digestRound t => some (t, 0x08)
  | .loopId t => some (t, 0x09)
  | .loopCommit t => some (t, 0x0A)
  | .adcCalZero t => some (t, 0x0B)
  | .adcCalFull t => some (t, 0x0B)
  | .adcCalCommit t => some (t, 0x0B)
  | .adcCalDiscard t => some (t, 0x0B)
  | .twiXfer t _ => some (t, 0x0C)
  | .nvmWrite t _ => some (t, 0x0D)
  | .scrub t _ => some (t, 0x0E)
  | .loftCommit t _ => some (t, 0x0F)
  | .retire t => some (t, 0x10)
  | .imageWrite t _ => some (t, 0x11)
  | .activate t _ _ => some (t, 0x12)
  | .confirm t => some (t, 0x13)
  | .otpBurnRow t _ => some (t, 0x14)
  | .otpCounterIncrement t => some (t, 0x14)
  | .otpLockBurn t => some (t, 0x14)
  | .otpReburn t _ => some (t, 0x15)
  | .chgCtrlStop t => some (t, 0x16)
  | .chgCtrlStart t => some (t, 0x16)
  | .chgCtrlClear t => some (t, 0x16)
  | .chgCtrlRest t => some (t, 0x16)
  | .chgCtrlRecharge t => some (t, 0x16)
  | .donorStart t _ _ => some (t, 0x17)
  | .donorStop t => some (t, 0x17)
  | _ => none

end Machine

end Sys2Proof
end

