-- ==== Sys2Proof/Certificates/Slice0/Obligations.lean ====
section
/-! DEFINITION. The statements for the provers. `Does c s u` says that command `c` answers the next state that follows up `u`;
`Effect c s P` says so of some `u` that has `P`. What `u` holds, the follow-up reads: raises that wait, outputs that went off and
a WARM asked for; a state where nothing waits is followed up by nothing (`StepsAnswerNextStates`). -/

open Sys2Proof Sys2Proof.Machine

/-- R44, R60: a POR without a feed on either port leaves the device PARKED with every register outside the backup domain at
its reset word, but for those that record the reset and the converter's state. -/
def Obligations.PorEntersParked : Prop :=
  ∀ s : State, s.wakeLvl.testBit 0 = false → Effect (.por 0) s fun u =>
    u.mode = mPARKED ∧ u.bit devB DEV.RESET_CAUSE_POR = true ∧ u.raiseQ = [] ∧ u.cmds = [] ∧
    u.nvm = s.nvm ∧ u.otp = s.otp ∧ u.pending = s.pending ∧
    (∀ k, bporKey k = true → k ≠ rtcB + 8 → u.getW k = s.getW k) ∧
    (∀ k, bporKey k = false → k ∉ [devB + 0xA0, supvB + 0x2AC, buscB + 8, buscB + 0x40] → u.getW k = resetWord k)

/-- R50, R533: in PARKED, a WAKE pin that is enabled as a source and changes to its active level takes the device into WAKING,
with its bit alone in WAKE_CAUSE. R50, R242: in PARKED a low of 50 µs on a Flail port enters WAKING, and while a mode is active
it is an on request. R45, R533: the end of RELEASE_T on every HOLDON pin is an off request, once for each release. R40: reads
open 2.5 ms into WAKING. R383: a missing acknowledgement of a force line is event 113 with class C4. R42, R58, R357: SAFE_N is
low in SAFE and LOCKOUT and in no other mode, SERVICE_N is low while REPLACE is 1, and a context's HIRQ follows its bit of
ASSERTED with the polarity of CFG.POL. -/
def Obligations.WakeSources : Prop :=
  (∀ (i : Fin 4) (lvl : Bool) (s : State), s.mode = mPARKED → s.rd devB DEV.WAKE_CFG_EN &&& 2 ^ i.val ≠ 0 →
    s.wakeLvl.testBit i = !lvl → (s.rd devB DEV.WAKE_CFG_POL).testBit i = lvl →
    Effect (.wakePinChange i lvl) s fun u =>
      u.mode = mWAKING ∧ u.rd devB DEV.MODE_WAKE_CAUSE = 2 ^ i.val ∧ u.rd devB DEV.MODE_PREV = mPARKED ∧
      u.wakeLvl.testBit i = lvl) ∧
  (∀ (p : Fin 2) (us : Nat) (s : State), s.bit devB DEV.WAKE_CFG_FLAIL_EN = true → s.mode = mPARKED → 50 ≤ us →
    Does (.flailWakePulse p us) s
      (({ s with flail := { s.flail with wakeOut := (2 - p.val, s.tick + 100) } } : State).wr devB DEV.MODE_WAKE_CAUSE 128 |>.enterWaking 1)) ∧
  (∀ (p : Fin 2) (us : Nat) (s : State), s.bit devB DEV.WAKE_CFG_FLAIL_EN = true → s.active = true → 50 ≤ us →
    Does (.flailWakePulse p us) s (s.ask .on 1)) ∧
  (∀ (p : Fin 2) (us : Nat) (s : State), us < 50 ∨ s.bit devB DEV.WAKE_CFG_FLAIL_EN = false → Does (.flailWakePulse p us) s s) ∧
  (∀ s : State, s.holdOver = true → s.wakeDone = false → s.mode = mHOLD ∨ s.active = true →
    Does .holdonRelease s (({ s with wakeDone := true } : State).ask .off 0x0B)) ∧
  (∀ s : State, s.holdOver = false ∨ s.wakeDone = true → Does .holdonRelease s s) ∧
  (∀ (mv : Nat) (s : State), s.mode = mWAKING → s.ran .waking 2500 = true → Effect (.wakingReadAccess mv) s fun u =>
    u.wakeRead = true ∧ u.bit devB DEV.REPLACE_SRC_RTC_WEAK = decide (mv < 10 * s.rd supvB SUPV.VBAK_THR_WEAK) ∧ u.raiseQ = s.raiseQ ∧
    ∀ k, k ≠ devB + 8 → k ≠ devB + 0x9C → u.getW k = s.getW k) ∧
  (∀ (m : Fin 9 × Fin 46) (s : State), s.mode = mWAKING → s.eng 1 ≠ eHALTED → Effect (.safeStateLineTest (some m)) s fun u =>
    ∃ d, u = s.post 113 (some 4) (some d)) ∧
  (∀ s : State, Does (.safeStateLineTest none) s s) ∧
  (∀ s : State, s.tapActs ≠ TapIns.extest → s.safeN = (s.mode != mSAFE && s.mode != mLOCKOUT)) ∧
  (∀ s : State, s.tapActs ≠ TapIns.extest → s.mode ≠ mFALLOW →
    (s.serviceLow = true ↔ getBits (s.getW (devB + DEV.REPLACE_SRC_SPARE.off)) 0 7 ≠ 0)) ∧
  (∀ s : State, s.tapActs ≠ TapIns.extest → s.mode = mFALLOW → s.serviceLow = false) ∧
  (∀ (c : Fin 8) (s : State), s.tapActs ≠ TapIns.extest → mHOLD ≤ s.mode →
    s.hirqPin c = (s.bit intB (INT.STATUS_ASSERTED.at c) == s.bit (intC c) INT.CFG_POL))

/-- R44: loss of main power leaves the device in FALLOW with every register outside the backup domain at its reset word, NVM,
OTP and the queue kept. R466: the retention monitor's BPOR puts the backup domain's registers at their reset words, its error
flags but BPOR and OSF clear. R45, R46, R56, R233: the ends of HOLDUP, of SERVICE and of the minimum off time are conditions of
their tick, and what FE0 makes of them. R61: a WARM ends. -/
def Obligations.ModeEndsAndPowerLoss : Prop :=
  (∀ (vbak : Bool) (s : State), s.mode ≠ mFALLOW → Effect (.fallowEntry vbak) s fun u =>
    u.mode = mFALLOW ∧ u.nvm = s.nvm ∧ u.otp = s.otp ∧ u.pending = s.pending ∧
    ∀ k, bporKey k = false → k ∉ [devB + 0x80, devB + 0xA0] → u.getW k = resetWord k) ∧
  (∀ (vbak : Bool) (s : State), s.mode = mFALLOW → Does (.fallowEntry vbak) s s) ∧
  (∀ s : State, Effect .bpor s fun u =>
    (∀ k, bporKey k = true → k ≠ rtcB + 0xC → u.getW k = resetWord k) ∧
    u.bit rtcB (HDR.ERR.at 6) = true ∧ u.bit rtcB (HDR.ERR.at 0) = true ∧
    (∀ i, i < 32 → i ≠ 0 → i ≠ 6 → u.bit rtcB (HDR.ERR.at i) = false) ∧
    (s.mode ≠ mFALLOW → u.bit devB DEV.RESET_CAUSE_BPOR_SEEN = true) ∧
    u.nvm = s.nvm ∧ u.cmds = s.cmds) ∧
  (∀ s : State, s.mode = mHOLDUP → s.rd devB DEV.HOLDUP_LEFT_LEFT = 0 → Does .holdupCountdownEnd s (s.ask .drain 0x11)) ∧
  (∀ (mv us : Nat) (s : State), s.mode = mHOLDUP → mv < s.rd devB DEV.HOLDUP_CFG_FLOOR * 50 → 1000 ≤ us →
    Does (.vbusFloor mv us) s (s.ask .drain 0x12)) ∧
  (∀ (mv us : Nat) (s : State), s.mode ≠ mHOLDUP ∨ s.rd devB DEV.HOLDUP_CFG_FLOOR * 50 ≤ mv ∨ us < 1000 → Does (.vbusFloor mv us) s s) ∧
  (∀ s : State, s.mode = mSERVICE → s.lapsed .service = true → Does .serviceTimeout s (s.ask .svcEnd 0x13)) ∧
  (∀ s : State, s.mode = mSERVICE → s.lapsed .service = false → Does .serviceTimeout s s) ∧
  (∀ s : State, s.seqSt = qMINOFF → s.ran .minoff s.minoffUs = true → Does .minoffEnd s (s.ask .minoff 0x17)) ∧
  (∀ (c : Nat) (s : State), s.mode = mHOLDUP → s.serveDue .drain c = s.enterDraining c) ∧
  (∀ (c : Nat) (s : State), s.mode = mSERVICE → s.serveDue .svcEnd c = s.enterRun c) ∧
  (∀ (c : Nat) (s : State), s.seqSt = qMINOFF → s.bit devB DEV.STATUS_ON_HELD = true → s.serveDue .minoff c = s.enterRising 0 c) ∧
  (∀ s : State, s.frozen = true → s.warmTest = true → Does .warmComplete s s.warmDone) ∧
  (∀ s : State, s.frozen = false → Does .warmComplete s s)

/-- R417, R401, R423, R506, R456, R475: the steps of WAKING run in their order, each once, and each moves the boot on. R506:
the log scan of WAKING shows the first free position, the records and the snapshots held. R475: TIME loads once from the
calendar, with a thousand million nanoseconds over 32,768 per count of SUBSEC. -/
def Obligations.WakingSteps : Prop :=
  (∀ s : State, s.mode = mWAKING → s.boot = 1 → Does (.checkerSelfTest none) s { s.wr eccB ECC.STATUS_ST_PASS 1 with boot := 2 }) ∧
  (∀ (k : Fin 10) (s : State), s.mode = mWAKING → s.boot = 1 →
    Does (.checkerSelfTest (some k)) s (s.err eccB 5 (if k.val = 9 then 121 else 120) (some 4) (some 4))) ∧
  (∀ s : State, s.mode = mWAKING → s.boot = 2 → Does (.lockstepSelfTest none) s { s with boot := 3 }) ∧
  (∀ (n : Fin 8) (s : State), s.mode = mWAKING → s.boot = 2 → Does (.lockstepSelfTest (some n)) s
    ((s.haltEng n).err engB 1 (112 + n) (some 4) (some ((s.haltEng n).engDetail n 2)))) ∧
  (∀ (rows : List (Fin 272 × OtpRow)) (ctl : Option (BitVec 192 × BitVec 192 × BitVec 192)) (s : State), s.mode = mWAKING → s.boot = 0 →
    Effect (.otpReadPass rows ctl) s fun u => u = s.readPass rows ctl ∧ u.boot = 1 ∧ u.bit otpB OTP.STATUS_PASS_DONE = true) ∧
  (∀ (hits : List EccHit) (s : State), s.mode = mWAKING → s.boot = 3 → s.eng 7 ≠ eHALTED →
    Does (.loftScan hits) s { s.loftScan hits with boot := 4 }) ∧
  (∀ (hits : List EccHit) (failed : Option (Fin 2)) (again : Bool) (s : State), s.mode = mWAKING → s.boot = 4 →
    s.eng 7 ≠ eHALTED → s.stage < uSTAGED ∨ s.grantOf 6 = none → Does (.imageAuthentication hits failed again) s (s.imageAuth hits failed again)) ∧
  (∀ s : State, s.mode = mWAKING → s.bit wdgB WDG.STATUS_BOOT_ARMED = true → s.ran .waking 2000000 = true →
    Does .bootSlotExpiry s s.bootExpire) ∧
  (∀ s : State, s.mode = mWAKING → 3 ≤ s.boot → s.eng 7 ≠ eHALTED → Effect .logScan s fun u =>
    u.bit logB LOG.STATUS_SCAN_DONE = true ∧ u.rd logB LOG.EV_POS_NEXT = s.logFirst ∧
    u.rd logB LOG.EV_POS_VALID = ((List.range 8192).filter (fun p => s.nvmByte (logB0 + 8 * p) != erased)).length ∧
    u.rd logB LOG.SN_STAT_COUNT = s.snapCount ∧ u.nvm = s.nvm) ∧
  (∀ s : State, s.mode = mWAKING → s.clk.loaded = false → Effect .timeLoad s fun u =>
    u.timeSec = dayNum s.cal.year s.cal.month s.cal.day * 86400 + s.cal.hour * 3600 + s.cal.min * 60 + s.cal.sec ∧
    u.timeNs = s.rd rtcB RTC.SUBSEC_COUNT * 1000000000 / 32768 ∧ u.clk.loaded = true ∧
    u.bit timeB TIME.STATUS_RTC_SUSPECT = s.bit rtcB RTC.ERR_OSF ∧ u.nvm = s.nvm ∧ u.cmds = s.cmds)

/-- R64, R45, R46: an accepted write of MODE_REQ with the key 0xA5C3 asks for the change of mode that its REQ names, which FE0
serves at the end of the tick against the mode of that moment: OFF from RUN, STANDBY or SERVICE enters DRAINING and from HOLD or
SAFE enters PARKED, STANDBY and SERVICE leave RUN, RUN leaves SERVICE and STANDBY, RESTART leaves SAFE where no C3 is
unacknowledged. In HOLD, REVALIDATE and WARM are served there too and start a WARM; a WARM asked in RUN or another active mode
starts at once. R64, R499: with another key, or with a request that the mode does not take, no
mode changes: DEV.ERR.REQ_REFUSED sets with a C0 record of event 135, and nothing else. R59: writing 1 to a clearable bit of
REPLACE_SRC clears it, and STATUS.REPLACE follows. -/
def Obligations.ModeRequestRows : Prop :=
  (∀ (c : Fin 8) (v : Word) (s : State), s.Accepts c 0x84 (reqWord v 1) → getBits v 16 16 = 0xA5C3 →
    s.mode = mSAFE ∨ s.mode = mHOLD ∨ s.active = true → Does (.modeReqOff c v) s (s.ask .safeOff 0x0A)) ∧
  (∀ (c : Fin 8) (v : Word) (s : State), s.Accepts c 0x84 (reqWord v 2) → getBits v 16 16 = 0xA5C3 →
    s.mode = mRUN ∨ s.mode = mSTANDBY → Does (.modeReqStandby c v) s (s.ask .standby 0x0A)) ∧
  (∀ (c : Fin 8) (v : Word) (s : State), s.Accepts c 0x84 (reqWord v 3) → getBits v 16 16 = 0xA5C3 → s.active = true →
    Does (.modeReqRun c v) s ((s.ask .on 0x0A).ask .svcEnd 0x0A)) ∧
  (∀ (c : Fin 8) (v : Word) (s : State), s.Accepts c 0x84 (reqWord v 4) → getBits v 16 16 = 0xA5C3 →
    s.mode = mRUN ∨ s.mode = mSERVICE → s.bit (cqeC c) CQE.CTX_PERM_SERVICE = true →
    Does (.modeReqService c v) s (s.ask .service 0x0A)) ∧
  (∀ (c : Fin 8) (v : Word) (s : State), s.Accepts c 0x84 (reqWord v 5) → getBits v 16 16 = 0xA5C3 → s.mode = mHOLD →
    Does (.modeReqRevalidate c v) s (s.ask .reval 7)) ∧
  (∀ (c : Fin 8) (v : Word) (s : State), s.Accepts c 0x84 (reqWord v 6) → getBits v 16 16 = 0xA5C3 → s.mode = mSAFE →
    s.anyUnack 3 = false → Does (.modeReqRestart c v) s (s.ask .restart 0x0A)) ∧
  (∀ (c : Fin 8) (v : Word) (s : State), s.Accepts c 0x84 (reqWord v 7) → getBits v 16 16 = 0xA5C3 →
    (s.mode = mHOLD → Does (.modeReqWarm c v) s (s.ask .warm 9)) ∧
    (s.active = true → Does (.modeReqWarm c v) s (s.warmStart (some DEV.RESET_CAUSE_WARM_HOST) 9))) ∧
  (∀ (cause : Nat) (s : State), s.mode = mRUN ∨ s.mode = mSTANDBY ∨ s.mode = mSERVICE ∨ s.mode = mHOLDUP →
    s.serveDue .off cause = s.enterDraining cause) ∧
  (∀ (cause : Nat) (s : State), s.mode = mHOLD → s.serveDue .off cause = s.enterParked cause) ∧
  (∀ (cause : Nat) (s : State), s.mode = mSAFE → s.serveDue .safeOff cause = s.enterParked cause) ∧
  (∀ (cause : Nat) (s : State), s.mode ≠ mSAFE → s.serveDue .safeOff cause = s.serveDue .off cause) ∧
  (∀ (cause : Nat) (s : State), s.mode = mSERVICE → s.serveDue .svcEnd cause = s.enterRun cause ∧ s.serveDue .on cause = s) ∧
  (∀ (cause : Nat) (s : State), s.mode = mHOLD →
    s.serveDue .reval cause = s.warmStart (some DEV.RESET_CAUSE_WARM_HOST) 7 ∧
    s.serveDue .warm cause = s.warmStart (some DEV.RESET_CAUSE_WARM_HOST) 9) ∧
  (∀ (cause : Nat) (s : State), s.mode = mRUN → s.serveDue .standby cause = (s.setMode mSTANDBY cause).startRun 2) ∧
  (∀ (cause : Nat) (s : State), s.mode = mSTANDBY → s.seqSt ≠ qSBYIN → s.serveDue .on cause = s.enterRising 3 cause) ∧
  (∀ (cause : Nat) (s : State), s.mode = mSTANDBY → s.seqSt = qSBYIN →
    s.serveDue .on cause = s.modSeq (fun h => { h with onSby := true, onCause := if h.onSby then h.onCause else cause })) ∧
  (∀ (cause : Nat) (s : State), s.mode = mDRAINING → s.serveDue .on cause = s.wr devB DEV.STATUS_ON_HELD 1) ∧
  (∀ (cause : Nat) (s : State), s.mode = mRUN → s.serveDue .service cause = (s.setMode mSERVICE cause).till .service s.serviceUs) ∧
  (∀ (cause : Nat) (s : State), s.mode = mSAFE → s.anyUnack 3 = false → s.serveDue .restart cause = s.restart) ∧
  (∀ (new cause : Nat) (s : State), new < 16 → (s.setMode new cause).mode = new) ∧
  (∀ (c : Fin 8) (v : Word) (s : State), s.Accepts c 0x84 (reqWord v 1) → getBits v 16 16 ≠ 0xA5C3 →
    Effect (.modeReqOff c v) s fun u => u.bit devB DEV.ERR_REQ_REFUSED = true ∧ u.mode = s.mode ∧
      Told (fun k => k = devB + 0xC ∨ k = devB + 0x18) s u) ∧
  (∀ (c : Fin 8) (v : Word) (s : State), s.Accepts c 0x84 (reqWord v 4) → s.bit (cqeC c) CQE.CTX_PERM_SERVICE = false →
    Effect (.modeReqService c v) s fun u => u.bit devB DEV.ERR_REQ_REFUSED = true ∧ u.mode = s.mode ∧
      Told (fun k => k = devB + 0xC ∨ k = devB + 0x18) s u) ∧
  (∀ (c : Fin 8) (v : Word) (s : State), s.Accepts c 0x9C v → getBits v 0 1 = 1 →
    Effect (.replaceSrcClear c v) s fun u => u.bit devB DEV.REPLACE_SRC_SPARE = false ∧
      u.bit devB DEV.STATUS_REPLACE = (getBits (u.getW (devB + 0x9C)) 0 7 != 0) ∧ u.raiseQ = s.raiseQ ∧
      ∀ k, k ≠ devB + 8 → k ≠ devB + 0x9C → u.getW k = s.getW k) ∧
  (∀ (c : Fin 8) (v : Word) (s : State), s.Accepts c 0x9C v → getBits v 3 1 = 1 →
    Effect (.replaceSrcClear c v) s fun u => u.bit devB DEV.REPLACE_SRC_LOCKSTEP = false ∧
      u.bit devB DEV.STATUS_REPLACE = (getBits (u.getW (devB + 0x9C)) 0 7 != 0)) ∧
  (∀ (c : Fin 8) (v : Word) (s : State), s.mayWrite c 0x9C v = false → Does (.replaceSrcClear c v) s s)

/-- R156: a supply that leaves its window shows in INSUP and raises event 132, the NVM supply with class C1 and the others
with C3; it returns without a raise. R526: the die comparator trips once with event 107, class C3, DETAIL 0xFFFFFFFF, and
re-arms below 140 °C. -/
def Obligations.InternalSupplies : Prop :=
  (∀ (k : Fin 5) (mv : Nat) (feeds : Fin 4) (s : State), s.up = true → k = 1 ∨ k = 2 ∨ k = 4 → s.supOut.testBit k = false →
    supIn k mv = false → Does (.internalSupplyFault k mv feeds) s
      ((((({ s with supOut := s.supOut ||| 2 ^ k.val } : State).insupShow).wr supvB (SUPV.INSUP_SEEN.at (8 + k)) 1).err supvB 6
        132 (some (if k = 4 then 1 else 3)) none))) ∧
  (∀ (mv : Nat) (feeds : Fin 4) (s : State), s.mode ≠ mFALLOW → supIn 0 mv = false →
    Does (.internalSupplyFault 0 mv feeds) s (s.por feeds true)) ∧
  (∀ (k : Fin 5) (mv : Nat) (feeds : Fin 4) (s : State), supIn k mv = true → Does (.internalSupplyFault k mv feeds) s s) ∧
  (∀ (k : Fin 5) (mv : Nat) (s : State), s.up = true → s.supOut.testBit k = true → supIn k mv = true →
    Effect (.internalSupplyRecovery k mv) s fun u =>
      u.supOut = s.supOut - 2 ^ k.val ∧ u.bit supvB SUPV.STATUS_INSUP_BAD = (s.supOut - 2 ^ k.val != 0) ∧ u.raiseQ = s.raiseQ ∧
      ∀ n, n ≠ supvB + 0x2AC → n ≠ supvB + 8 → u.getW n = s.getW n) ∧
  (∀ s : State, s.up = true → s.dieTrip = false → Does .dieTempTrip s
    (({ s with dieTrip := true } : State).post 107 (some 3) (some 0xFFFFFFFF))) ∧
  (∀ s : State, s.up = true → s.dieTrip = true → Does .dieTempTrip s s) ∧
  (∀ s : State, Does .dieTempRearm s { s with dieTrip := false })

/-- R219 to R223, R226: the action of the step in progress by its opcode, once its delay has ended; a completed condition
moves the run on, and the END completes when no parallel step is pending. R222, R225, R231, R229, R232: a timeout of a
power-up run fails it; of another run it is an anomaly of class C1 and the run goes on. A slow output is discharged and told;
after the second timeout it is stuck and the run goes on; the floor is reached when no output but LDO0 is above its threshold.
R31: a row of FE0 while FE0 is stopped is taken once it resumes. -/
def Obligations.SequencerRows : Prop :=
  (∀ (imon : List (Fin 56 × Nat)) (s : State), s.fe0Off = false → s.actDue = true →
    (s.stepOp s.seqTab s.seq.pc = 2 → Does (.seqStepAction imon) s
      (((((s.mark .lastAct).seqOff (s.stepObj s.seqTab s.seq.pc) (s.rd (stepB s.seqTab s.seq.pc) SEQ.STEP_A_DISC)).mark
        (.seqEn (s.stepObj s.seqTab s.seq.pc))).setPhase 1).mark .act)) ∧
    (s.stepOp s.seqTab s.seq.pc = 3 → Does (.seqStepAction imon) s (s.mark .lastAct).seqNext) ∧
    (s.stepOp s.seqTab s.seq.pc = 4 → Does (.seqStepAction imon) s (((s.mark .lastAct).setPhase 1).mark .act)) ∧
    (s.stepOp s.seqTab s.seq.pc = 1 → s.bit (stepB s.seqTab s.seq.pc) SEQ.STEP_A_PAR = false →
      ((s.mark .lastAct).enable (s.stepObj s.seqTab s.seq.pc) imon).outEn (s.stepObj s.seqTab s.seq.pc) = false →
      Does (.seqStepAction imon) s (((((s.mark .lastAct).enable (s.stepObj s.seqTab s.seq.pc) imon).mark
        (.seqEn (s.stepObj s.seqTab s.seq.pc))).setPhase 1).mark .act)) ∧
    (s.stepOp s.seqTab s.seq.pc = 7 → s.joins = true → Does (.seqStepAction imon) s
      ((s.mark .lastAct).ready (s.rd (stepB s.seqTab s.seq.pc) SEQ.STEP_B_STATE)).seqNext)) ∧
  (∀ (imon : List (Fin 56 × Nat)) (s : State), s.fe0Off = false → s.actDue = false →
    (s.seqSt ≠ qUNWIND → Does (.seqStepAction imon) s s) ∧
    (s.seqSt = qUNWIND → s.seqPhase = 0 → s.actFree = true → s.seq.uw = [] → Does (.seqStepAction imon) s s.hostClear)) ∧
  (∀ (imon : List (Fin 56 × Nat)) (s : State), s.fe0Off = true → Does (.seqStepAction imon) s (s.putOff (.seqStepAction imon))) ∧
  (∀ (k : Fin 64) (s : State), s.fe0Off = false → s.tableRuns = true → s.seq.pends.contains k.val = true → s.stepHolds k = true →
    Effect (.seqStepComplete (some k)) s fun u => u.seq.pends = s.seq.pends.erase k.val ∧
      u.rd seqB SEQ.STATUS_PEND = (s.seq.pends.erase k.val).length % 16 ∧ u.mode = s.mode) ∧
  (∀ s : State, s.fe0Off = false → s.tableRuns = true → s.seqPhase ≠ 0 → s.seqPhase ≠ 3 → s.stepHolds s.seq.pc = true →
    Does (.seqStepComplete none) s s.seqNext) ∧
  (∀ s : State, s.fe0Off = false → s.tableRuns = true → s.seqPhase = 3 → s.seq.pends = [] → Does (.seqStepComplete none) s s.endRun) ∧
  (∀ (p : Option (Fin 64)) (s : State), s.fe0Off = false → s.timedOut p = true → Does (.seqStepTimeout p) s (s.ask (.stepTmo p) 0x0E)) ∧
  (∀ (p : Option (Fin 64)) (s : State), s.timedOut p = false → Does (.seqStepTimeout p) s s) ∧
  (∀ (cause : Nat) (s : State), s.timedOut none = true → s.rises = true →
    s.serveDue (.stepTmo none) cause = s.runFail 1 s.seqTab s.seq.pc (s.stepObj s.seqTab s.seq.pc) 0x0E) ∧
  (∀ (cause : Nat) (s : State), s.timedOut none = true → s.rises = false →
    s.serveDue (.stepTmo none) cause = ((s.setLast s.seqTab s.seq.pc 1 (s.stepObj s.seqTab s.seq.pc)).seqFail 0).seqNext) ∧
  (∀ (x : Nat) (s : State), s.offInHand = some x → s.seqPhase = 1 → s.fe0Off = false → s.ran .act (s.offTmo x) = true →
    s.supv offBELOW x = false → Does .slowOff s ((((s.slow x).seqFail 1).setPhase 2).mark .second)) ∧
  (∀ s : State, s.seqSt = qFLOOR → s.seqPhase = 1 → s.fe0Off = false → s.ran .act s.defTmo = true → s.aboves ≠ [] →
    Does .floorTimeout s ((((s.each s.aboves fun x t => t.slow x).seqFail 1).setPhase 2).mark .second)) ∧
  (∀ s : State, s.seqSt = qFLOOR → s.seqPhase = 2 → s.fe0Off = false → s.ran .second s.tmo2 = true → s.aboves ≠ [] →
    Does .stuck s (((s.each s.aboves fun x t => t.stuckOut x).err seqB 2 109 (some 1) none).ask .floor 0x16)) ∧
  (∀ (x : Nat) (s : State), s.seqPhase = 2 → s.seqSt ≠ qFLOOR → s.seqSt ≠ qUNWIND → s.fe0Off = false → s.ran .second s.tmo2 = true →
    s.offInHand = some x → s.supv offBELOW x = false → ((s.stuckOut x).err seqB 2 109 (some 1) none).seqSt ≠ qUNWIND →
    Does .stuck s ((s.stuckOut x).err seqB 2 109 (some 1) none).seqNext) ∧
  (∀ (x : Nat) (s : State), s.seqSt ≠ qFLOOR → s.offInHand = some x → s.supv offBELOW x = true → Does .stuck s s) ∧
  (∀ s : State, s.seqSt = qFLOOR → s.aboves = [] → Does .floor s (s.ask .floor 0x16)) ∧
  (∀ (cause : Nat) (s : State), s.seqSt = qFLOOR → s.serveDue .floor cause = s.reachFloor)

/-- R236, R220: the sequencer's commands by mode, and a write of a step: refused while its table runs, refused where the word
is invalid, else stored with its reserved bits 0. -/
def Obligations.SequencerCommands : Prop :=
  (∀ (t : BitVec 8) (k : Cmd) (s : State), s.Ready t 0x05 k → noArgs k = true →
    (s.mode = mRUN ∨ s.mode = mSERVICE → Does (.seqUp t) s (s.doneK k 0)) ∧
    (s.mode = mRISING ∨ s.mode = mSTANDBY ∨ s.mode = mDRAINING →
      Does (.seqUp t) s ((s.runK { k with aux := s.tick }).ask .on 0x0A)) ∧
    (s.mode = mHOLD ∨ s.mode = mSAFE ∨ s.mode = mLOCKOUT → Does (.seqUp t) s (s.failK k 1))) ∧
  (∀ (t : BitVec 8) (k : Cmd) (s : State), s.Ready t 0x06 k → noArgs k = true →
    (s.mode = mHOLD → Does (.seqDown t) s ((s.doneK k 0).ask .off 0x0A)) ∧
    (s.active = true → Does (.seqDown t) s ((s.runK { k with aux := s.tick }).ask .off 0x0A)) ∧
    (s.mode = mSAFE ∨ s.mode = mLOCKOUT → Does (.seqDown t) s (s.failK k 1))) ∧
  (∀ (t : BitVec 8) (k : Cmd) (s : State), s.Ready t 0x07 k → noArgs k = true → Does (.seqState t) s (s.doneK k s.seqResult)) ∧
  (∀ (t : BitVec 8) (k : Cmd) (s : State), s.Ready t 0x07 k → noArgs k = false → Does (.seqState t) s (s.failK k 2)) ∧
  (∀ (c : Fin 8) (k : Fin 64) (v : Word) (s : State), s.Accepts c (seqB + 0x100 + 8 * k + 4) v →
    s.tabRuns (s.rd seqB SEQ.TABSEL_TAB) = false →
    Does (.seqStepWrite c k true v) s (s.setW (stepB (s.rd seqB SEQ.TABSEL_TAB) k + 4) v)) ∧
  (∀ (c : Fin 8) (k : Fin 64) (v : Word) (s : State), s.Accepts c (seqB + 0x100 + 8 * k) v →
    s.tabRuns (s.rd seqB SEQ.TABSEL_TAB) = false →
    (s.stepBad v = false → Does (.seqStepWrite c k false v) s (s.setW (stepB (s.rd seqB SEQ.TABSEL_TAB) k) (v &&& 0x3FFFF)).lenShow) ∧
    (s.stepBad v = true → Does (.seqStepWrite c k false v) s (s.err seqB 4 109 none none))) ∧
  (∀ (c : Fin 8) (k : Fin 64) (b : Bool) (v : Word) (s : State), s.Accepts c (seqB + 0x100 + 8 * k + if b then 4 else 0) v →
    s.tabRuns (s.rd seqB SEQ.TABSEL_TAB) = true → Does (.seqStepWrite c k b v) s (s.err seqB 3 109 none none))

/-- R84, R85, R76: writes of a rail's control registers. A host write of EN in a tick in which the sequencer wrote it is not kept. A group
held by a fault ignores EN (R375); VSET stores the nearer limit of VLIM and tells a changed value with ERR bit 4. -/
def Obligations.RailControlWrites : Prop :=
  (∀ (c : Fin 8) (n : Fin 12) (imon : List (Fin 56 × Nat)) (s : State), s.AcceptsField c (rail n) RAIL.CTRL_EN 1 →
    s.seqWrote n = false → s.held n = true → mRISING < s.mode → Does (.railEnSet c n imon) s (s.errQ fltB 2 0)) ∧
  (∀ (c : Fin 8) (n : Fin 12) (imon : List (Fin 56 × Nat)) (s : State), s.AcceptsField c (rail n) RAIL.CTRL_EN 1 →
    s.seqWrote n = false → s.held n = false → s.outSt n ≠ 0 → mRISING < s.mode → Effect (.railEnSet c n imon) s fun u =>
      u.bit (rail n) RAIL.CTRL_EN = true ∧ RegsOnly (fun k => k = rail n + 0x40 ∨ k = supvB + 8) s u) ∧
  (∀ (c : Fin 8) (n : Fin 12) (imon : List (Fin 56 × Nat)) (s : State), s.AcceptsField c (rail n) RAIL.CTRL_EN 1 →
    s.seqWrote n = false → s.held n = false → s.outSt n = 0 → mRISING < s.mode → (s.railEnable n imon).allPg.mode ≠ mRISING →
    Does (.railEnSet c n imon) s (s.railEnable n imon).allPg) ∧
  (∀ (c : Fin 8) (n : Fin 12) (imon : List (Fin 56 × Nat)) (s : State), s.seqWrote n = true → s.outEn n = true →
    Does (.railEnSet c n imon) s s) ∧
  (∀ (c : Fin 8) (n : Fin 12) (s : State), s.AcceptsField c (rail n) RAIL.CTRL_EN 0 → s.seqWrote n = false → s.outSt n = 0 →
    Effect (.railEnClear c n) s fun u => u.bit (rail n) RAIL.CTRL_EN = false ∧ RegsOnly (fun k => k = rail n + 0x40) s u) ∧
  (∀ (c : Fin 8) (n : Fin 12) (s : State), s.AcceptsField c (rail n) RAIL.CTRL_EN 0 → s.seqWrote n = false → s.outSt n ≠ 0 →
    Does (.railEnClear c n) s (s.outOff n 0)) ∧
  (∀ (c : Fin 8) (n : Fin 12) (v : Word) (s : State), s.Accepts c (rail n + 0x44) v →
    s.rd (rail n) RAIL.VLIM_VMIN ≤ getBits v 0 12 → getBits v 0 12 ≤ min 2320 (s.rd (rail n) RAIL.VLIM_VMAX) →
    Does (.railVsetWrite c n v) s ((s.wr (rail n) RAIL.VSET_CODE (getBits v 0 12)).retarget n)) ∧
  (∀ (c : Fin 8) (n : Fin 12) (v : Word) (s : State), s.Accepts c (rail n + 0x44) v →
    min 2320 (s.rd (rail n) RAIL.VLIM_VMAX) < getBits v 0 12 → s.rd (rail n) RAIL.VLIM_VMIN ≤ min 2320 (s.rd (rail n) RAIL.VLIM_VMAX) →
    Does (.railVsetWrite c n v) s
      (((s.wr (rail n) RAIL.VSET_CODE (min 2320 (s.rd (rail n) RAIL.VLIM_VMAX))).retarget n).err (rail n) 4 n none none))

/-- R86: a write of FSW while the rail is not OFF is ignored and sets ERR.CFG_BUSY; at OFF the frequency is stored, and one
outside 250 to 2,000 kHz stores the nearer limit and sets the same bit. -/
def Obligations.FswWrite : Prop :=
  (∀ (c : Fin 8) (n : Fin 12) (v : Word) (s : State), s.Accepts c (rail n + 0x54) v → s.outSt n ≠ 0 →
    Effect (.railFswWrite c n v) s fun u => u.rd (rail n) RAIL.FSW_FREQ = s.rd (rail n) RAIL.FSW_FREQ ∧
      u.rd (rail n) RAIL.FSW_SOFF = s.rd (rail n) RAIL.FSW_SOFF ∧ u.bit (rail n) (HDR.ERR.at 7) = true ∧
      Told (fun k => k = rail n + 0xC ∨ k = rail n + 0x18) s u) ∧
  (∀ (c : Fin 8) (n : Fin 12) (v : Word) (s : State), s.Accepts c (rail n + 0x54) v → s.outSt n = 0 →
    250 ≤ getBits v 0 11 → getBits v 0 11 ≤ 2000 → Effect (.railFswWrite c n v) s fun u =>
      u.rd (rail n) RAIL.FSW_FREQ = getBits v 0 11 ∧ u.rd (rail n) RAIL.FSW_SOFF = getBits v 16 5 ∧
      (∀ k, k ≠ rail n + 0x54 → u.getW k = s.getW k) ∧ u.raiseQ = s.raiseQ) ∧
  (∀ (c : Fin 8) (n : Fin 12) (v : Word) (s : State), s.Accepts c (rail n + 0x54) v → s.outSt n = 0 → getBits v 0 11 < 250 →
    Effect (.railFswWrite c n v) s fun u => u.rd (rail n) RAIL.FSW_FREQ = 250 ∧ u.bit (rail n) (HDR.ERR.at 7) = true) ∧
  (∀ (c : Fin 8) (n : Fin 12) (v : Word) (s : State), s.Accepts c (rail n + 0x54) v → s.outSt n = 0 → 2000 < getBits v 0 11 →
    Effect (.railFswWrite c n v) s fun u => u.rd (rail n) RAIL.FSW_FREQ = 2000 ∧ u.bit (rail n) (HDR.ERR.at 7) = true)

/-- R81, R65, R88, R67: the other rows of a rail's loop. R79, R91, R92, R95, R98, R99: moves of a target by command, and the
identification of a loop. -/
def Obligations.RailLoopRows : Prop :=
  (∀ (n : Fin 12) (uv : Nat) (s : State), s.outSt n = 1 → (s.railH n).ovOff = false → (s.railH n).vt ≤ uv * 32 / 625 →
    Does (.prebiasSearchDone n uv) s
      ((((s.railSoft n 0 (s.railH n).vt false).setRef n (min (uv * 32 / 625) 262143)).ssDone n).err (rail n) 6 n none none)) ∧
  (∀ (n : Fin 12) (uv : Nat) (s : State), s.outSt n = 1 → (s.railH n).ovOff = false → uv * 32 / 625 < (s.railH n).vt →
    Does (.prebiasSearchDone n uv) s ((s.railSoft n (startAt (s.bit (rail n) RAIL.CTRL_PROFILE) (s.railH n).vt (uv * 32 / 625) (s.ssN n))
      (s.railH n).vt (decide (625 * (s.railH n).vt < 64 * uv))).setRef n (uv * 32 / 625))) ∧
  (∀ (n : Fin 12) (uv : Nat) (s : State), s.outSt n ≠ 1 ∨ (s.railH n).ovOff = true → Does (.prebiasSearchDone n uv) s s) ∧
  (∀ (n : Fin 12) (uv : Int) (vins : List (BitVec 12)) (high : List (Fin 48)) (low : List (Fin 48 × Nat)) (s : State), s.up = true →
    Does (.loopSample n uv vins high low) s (s.railSample n uv vins (high.map (·.val)) (lowOf low))) ∧
  (∀ (n : Fin 12) (uv : Int) (vins : List (BitVec 12)) (high : List (Fin 48)) (low : List (Fin 48 × Nat)) (s : State), s.up = false →
    Does (.loopSample n uv vins high low) s s) ∧
  (∀ (c : Fin 8) (n : Fin 12) (s : State), s.Accepts c (rail n + 0x68) 1 → s.outSt n = 2 ∨ s.outSt n = 3 →
    s.bit (rail n) RAIL.STATUS_LID_RUN = false → coefOk (s.bank n (1 - s.bankNow n)) = true →
    Does (.coefApply c n) s (s.modRail n (fun h => { h with swap := true }))) ∧
  (∀ (c : Fin 8) (n : Fin 12) (s : State), s.Accepts c (rail n + 0x68) 1 → s.outSt n = 2 ∨ s.outSt n = 3 →
    s.bit (rail n) RAIL.STATUS_LID_RUN = false → coefOk (s.bank n (1 - s.bankNow n)) = false →
    Effect (.coefApply c n) s fun u => u.bit (rail n) (HDR.ERR.at 3) = true ∧ (u.railH n).swap = (s.railH n).swap ∧
      u.bankNow n = s.bankNow n) ∧
  (∀ (c : Fin 8) (n : Fin 12) (s : State), s.Accepts c (rail n + 0x68) 2 → s.outSt n = 2 ∨ s.outSt n = 3 →
    Does (.coefCopy c n) s (s.copyBank n (s.bankNow n) (1 - s.bankNow n))) ∧
  (∀ (n : Fin 12) (s : State), 16 ≤ (s.railH n).endRun → (s.railH n).endTold = false →
    Does (.winOvr n) s ((s.modRail n (fun h => { h with endTold := true })).err (rail n) 0 n none none)) ∧
  (∀ (t : BitVec 8) (k : Cmd) (s : State), s.Ready t 0x01 k → Does (.setV t) s (s.moveTo k none)) ∧
  (∀ (t : BitVec 8) (k : Cmd) (s : State), s.Ready t 0x02 k → Does (.ramp t) s (s.moveTo k (some (getBits k.a2 0 8)))) ∧
  (∀ (t : BitVec 8) (k : Cmd) (s : State), s.Ready t 0x01 k → 38 ≤ getBits k.a0 0 6 → Does (.setV t) s (s.failK k 2)) ∧
  (∀ (t : BitVec 8) (k : Cmd) (s : State), s.Ready t 0x09 k → s.lidRefusal (getBits k.a0 0 4) = none →
    Does (.loopId t) s ((s.runK k).lidStart (getBits k.a0 0 4) (getBits k.a1 0 16))) ∧
  (∀ (t : BitVec 8) (k : Cmd) (s : State), s.Ready t 0x09 k → s.mode ≠ mSERVICE → s.bit (rail (getBits k.a0 0 4)) RAIL.STATUS_LID_RUN = false →
    getBits k.a0 0 4 < 12 →
    Does (.loopId t) s ((s.wr (rail (getBits k.a0 0 4)) RAIL.LID_STAT_CAUSE 1).failK k 1)) ∧
  (∀ (n : Fin 12) (s : State), s.bit (rail n) RAIL.STATUS_LID_RUN = true → s.rd (rail n) RAIL.LID_STAT_STATE = 1 →
    1 ≤ (s.railH n).lid.pers →
    Effect (.lidSettleEnd n) s fun u => u.rd (rail n) RAIL.LID_STAT_STATE = 2 ∧ RegsOnly (fun k => k = rail n + RAIL.LID_STAT_STATE.off) s u) ∧
  (∀ (n : Fin 12) (s : State), s.bit (rail n) RAIL.STATUS_LID_RUN = true → s.rd (rail n) RAIL.LID_STAT_STATE = 2 →
    s.lidRuns1 n = false →
    Effect (.lidInjectionEnd n) s fun u => u.rd (rail n) RAIL.LID_STAT_STATE = 3 ∧ RegsOnly (fun k => k = rail n + RAIL.LID_STAT_STATE.off) s u) ∧
  (∀ (n : Fin 12) (f : LidFit) (s : State), s.bit (rail n) RAIL.STATUS_LID_RUN = true → s.rd (rail n) RAIL.LID_STAT_STATE = 3 →
    (∀ k ∈ s.cmds, k.op = 0x09 → s.cmdStopped k = false) → Does (.lidComputeDone n f) s (s.lidDone n f)) ∧
  (∀ (t : BitVec 8) (k : Cmd) (s : State), s.Ready t 0x0A k → getBits k.a0 0 4 < 12 → s.propFresh (getBits k.a0 0 4) (getBits k.a1 0 8) = true →
    s.outSt (getBits k.a0 0 4) = 2 ∨ s.outSt (getBits k.a0 0 4) = 3 →
    Does (.loopCommit t) s ((s.commitProp (getBits k.a0 0 4)).doneK k 0)) ∧
  (∀ (t : BitVec 8) (k : Cmd) (s : State), s.Ready t 0x0A k → s.propFresh (getBits k.a0 0 4) (getBits k.a1 0 8) = false →
    Does (.loopCommit t) s ((s.lidCause (getBits k.a0 0 4) 0xB).failK k 0xB))

/-- R107, R116 to R118, R121, R122, R124: the rows of a sheaf's master period, hints and shedding. R103: every phase is sampled
at a master period's end, whatever its rail does. R118: a hint window that ends
unconfirmed undoes the pre-bias and counts. -/
def Obligations.SheafRows : Prop :=
  (∀ (r : Fin 12) (imv : List (Fin 48 × Nat)) (s : State), s.up = true → s.outSt r ≠ 2 → s.outSt r ≠ 3 →
    Does (.masterPeriodStart r imv) s (s.imSample r imv)) ∧
  (∀ (r : Fin 12) (imv : List (Fin 48 × Nat)) (s : State), s.up = true → s.outSt r = 2 ∨ s.outSt r = 3 →
    Does (.masterPeriodStart r imv) s (s.period r imv)) ∧
  (∀ (r : Fin 12) (imv : List (Fin 48 × Nat)) (s : State), s.up = false → Does (.masterPeriodStart r imv) s s) ∧
  (∀ (r : Fin 12) (rising : Bool) (high : List (Fin 48)) (low : List (Fin 48 × Nat)) (s : State), s.up = true → s.vioOut = false →
    s.outSt r ≠ 3 → Effect (.hintEdge r rising high low) s fun u => u.bit (pg 0x0D) (PHX.HINTLVL_LVL.at r) = rising ∧
      RegsOnly (fun k => k = pg 0x0D + PHX.HINTLVL_LVL.off) s u) ∧
  (∀ (r : Fin 12) (rising : Bool) (high : List (Fin 48)) (low : List (Fin 48 × Nat)) (s : State), s.up = true → s.vioOut = false →
    Does (.hintEdge r rising high low) s (s.hintEdge r rising (high.map (·.val)) (lowOf low))) ∧
  (∀ (r : Fin 12) (high : List (Fin 48)) (low : List (Fin 48 × Nat)) (s : State), s.vioOut = true →
    Does (.hintEdge r true high low) s s) ∧
  (∀ (r : Fin 12) (w : HintWin) (s : State), (s.sheafH r).win = some w → w.conf = true →
    s.ran (.hint r) (orIf0 (s.rd (stepCls w.cls) PHX.CLS_A_WIN) 1 / 2) = true →
    Does (.hintWindowEnd r) s ((s.wr (sheaf r) PHX.SH_STAT_HINT_WIN 0).modSheaf r (fun h => { h with win := none }))) ∧
  (∀ (r : Fin 12) (w : HintWin) (s : State), (s.sheafH r).win = some w → w.conf = false →
    s.ran (.hint r) (orIf0 (s.rd (stepCls w.cls) PHX.CLS_A_WIN) 1 / 2) = true →
    Does (.hintWindowEnd r) s ((((s.wr (sheaf r) PHX.SH_STAT_HINT_WIN 0).modSheaf r (fun h => { h with win := none })).hintUnconf r w).pbFall r
      (s.rd (stepCls w.cls) PHX.CLS_B_UNDO + 1))) ∧
  (∀ (r : Fin 12) (w : HintWin) (s : State), (s.sheafH r).win = some w → w.conf = false →
    s.ran (.hint r) (orIf0 (s.rd (stepCls w.cls) PHX.CLS_A_WIN) 1 / 2) = true → Effect (.hintWindowEnd r) s fun u =>
      (u.sheafH r).win = none ∧ (u.sheafH r).pbFrom = (u.sheafH r).pb ∧ (u.sheafH r).pbLeft = s.rd (stepCls w.cls) PHX.CLS_B_UNDO + 1 ∧
      u.rd (sheaf r) PHX.SH_STAT_HINT_WIN = 0 ∧
      u.rd (sheaf r) PHX.SH_CNT2_HUNCONF = min (s.rd (sheaf r) PHX.SH_CNT2_HUNCONF + 1) (2 ^ 15 - 1)) ∧
  (∀ (r : Fin 12) (w : HintWin) (s : State), (s.sheafH r).win = some w →
    s.ran (.hint r) (orIf0 (s.rd (stepCls w.cls) PHX.CLS_A_WIN) 1 / 2) = false → Does (.hintWindowEnd r) s s) ∧
  (∀ (r : Fin 12) (s : State), (s.sheafH r).win = none → Does (.hintWindowEnd r) s s) ∧
  (∀ (r : Fin 12) (k : Nat) (s : State), s.shedReady r = some k → Does (.shedDecision r) s (s.shedBegin r k)) ∧
  (∀ (r : Fin 12) (s : State), s.shedReady r = none → Does (.shedDecision r) s s) ∧
  (∀ (r : Fin 12) (s : State), s.rd (sheaf r) PHX.SH_STAT_SST = shSHEDDING → 8 ≤ (s.sheafH r).cyc →
    Does (.shedComplete r) s (s.shedEnd r)) ∧
  (∀ (r : Fin 12) (s : State), s.rd (sheaf r) PHX.SH_STAT_SST = shADDING → 8 ≤ (s.sheafH r).cyc →
    Does (.addComplete r) s (s.addEnd r)) ∧
  (∀ (r : Fin 12) (s : State), s.ran (.shedHold r) (1000 * s.rd (sheaf r) PHX.SH_SHED_HOLD) = true →
    Does (.shedHoldEnd r) s (s.modSheaf r (fun h => if h.hold then { h with hold := false, dwell := 0 } else h)))

/-- R125, R128, R134, R137, R165: stage faults, phases out of family, and the comparators of a phase. A trip of a participating
phase of a running rail in its on-time sends it low for the rest of the period and marks the period limited. R138 to R142: hiccup
of rails and bucks. -/
def Obligations.PhaseRows : Prop :=
  (∀ (g : Fin 8) (ns : Nat) (imon : List (Fin 56 × Nat)) (s : State), s.up = true → 25 * orIf0 (s.rd (grp g) PHX.GRP_FILT) 1 ≤ ns →
    Effect (.sfltFault g false ns imon) s fun u =>
      u.bit (pg 0x0C) (PHX.STATUS_SFLT_LOW.at g) = false ∧ u.bit (pg 0x0D) (PHX.STATUS_SFLT_LOW.at g) = false ∧
      RegsOnly (fun k => k = pg 0x0C + PHX.STATUS_SFLT_LOW.off ∨ k = pg 0x0D + PHX.STATUS_SFLT_LOW.off) s u) ∧
  (∀ (g : Fin 8) (ns : Nat) (imon : List (Fin 56 × Nat)) (s : State), s.up = true → s.bit (pg 0x0C) (PHX.STATUS_SFLT_LOW.at g) = false →
    25 * orIf0 (s.rd (grp g) PHX.GRP_FILT) 1 ≤ ns → Does (.sfltFault g true ns imon) s
      (((s.wr (pg 0x0C) (PHX.STATUS_SFLT_LOW.at g) 1).wr (pg 0x0D) (PHX.STATUS_SFLT_LOW.at g) 1).identify g imon)) ∧
  (∀ (g : Fin 8) (low : Bool) (ns : Nat) (imon : List (Fin 56 × Nat)) (s : State), ns < 25 * orIf0 (s.rd (grp g) PHX.GRP_FILT) 1 →
    Does (.sfltFault g low ns imon) s s) ∧
  (∀ (p : Fin 48) (s : State), s.phRail p < 12 → s.phState p = phACTIVE → s.bit (sheaf (s.phRail p)) PHX.SH_CFG_OOF_EN = true →
    (s.phH p).oofO < orIf0 (s.rd (sheaf (s.phRail p)) PHX.SH_OOF_CNT) 1 →
    orIf0 (s.rd (sheaf (s.phRail p)) PHX.SH_OOF_CNT) 1 ≤ (s.phH p).oofI ∨
      orIf0 (s.rd (sheaf (s.phRail p)) PHX.SH_OOF_CNT) 1 ≤ (s.phH p).oofT →
    Does (.outOfFamily p) s ((s.err (phPage p) 3 (46 + p) none none).removePhase p none)) ∧
  (∀ (p : Fin 48) (s : State), s.phRail p < 12 → s.phState p = phACTIVE → s.bit (sheaf (s.phRail p)) PHX.SH_CFG_OOF_EN = true →
    orIf0 (s.rd (sheaf (s.phRail p)) PHX.SH_OOF_CNT) 1 ≤ (s.phH p).oofO →
    Does (.outOfFamily p) s ((s.err (phPage p) 4 (46 + p) none none).removePhase p none)) ∧
  (∀ (p : Fin 48) (s : State), s.phState p ≠ phACTIVE → Does (.outOfFamily p) s s) ∧
  (∀ (p : Fin 56) (uv ns : Nat) (s : State), p.val < 48 → s.takesPart p = true → s.phRail p < 12 → s.outSt (s.phRail p) = 3 →
    5 * s.rd (rail (s.phRail p)) RAIL.OCP_LEB ≤ ns → s.highAt p ns (5 * s.rd (sheaf (s.phRail p)) PHX.SH_FIRE_TPULSE) = true →
    s.peakUv p (s.rd (rail (s.phRail p)) RAIL.OCP_IPK) ≤ (uv : Int) →
    s.bit (rail (s.phRail p)) RAIL.STATUS_LID_RUN = false → Effect (.peakTrip p uv ns) s fun u =>
      (u.railH (s.phRail p)).cut = true ∧ u.rd (rail (s.phRail p)) RAIL.PROT_LAST_PHASE = p ∧ (u.phH p).pwm = .low ∧
      (u.phH p).kept = true ∧ u.raiseQ = s.raiseQ ∧ ∀ k, k ≠ rail (s.phRail p) + RAIL.PROT_LAST_PHASE.off → u.getW k = s.getW k) ∧
  (∀ (p : Fin 56) (uv ns : Nat) (s : State), p.val < 48 → s.takesPart p = false ∨ ns < 5 * s.rd (rail (s.phRail p)) RAIL.OCP_LEB →
    Does (.peakTrip p uv ns) s s) ∧
  (∀ (p : Fin 56) (uv ns : Nat) (s : State), 48 ≤ p.val → (s.busParts s.busSt).contains p.val = true → s.busRev = false →
    s.highAt p ns 0 = true → min 2000000 (s.imonAt p ((500 * s.rd buscB BUSC.ILIM_IPK : Nat) : Int)) ≤ (uv : Int) →
    Does (.peakTrip p uv ns) s (s.modPh p (fun h => { h with pwm := .low }))) ∧
  (∀ (p : Fin 56) (ma : Int) (s : State), 48 ≤ p.val → (s.busParts s.busSt).contains p.val = true → s.busRev = false →
    (s.phH p).pwm ≠ .mid → ma < -((500 * s.rd buscB BUSC.ILIM_NEG : Nat) : Int) →
    Does (.negCurrentLimit p ma) s (s.modPh p (fun h => { h with pwm := .mid }))) ∧
  (∀ (p : Fin 56) (ma : Int) (s : State), p.val < 48 → s.takesPart p = true → s.phRail p < 12 → s.outSt (s.phRail p) = 3 →
    (s.phH p).pwm ≠ .mid → s.bit (rail (s.phRail p)) RAIL.NEGI_NEG_EN = true → (s.railH (s.phRail p)).negFree < 64 →
    ma < -((500 * orIf0 (s.rd (rail (s.phRail p)) RAIL.NEGI_NEG) 1 : Nat) : Int) → Does (.negCurrentLimit p ma) s
      (((s.lidAbort (s.phRail p) 7).modPh p (fun g => { g with pwm := .mid, kept := true })).modRail (s.phRail p)
        (fun g => { g with negCut := true }))) ∧
  (∀ (x : Fin 28) (s : State), s.lcntFull x = true → s.ssDue x = false → Does (.hiccupEntry x) s (s.enterHiccup x false)) ∧
  (∀ (x : Fin 28) (s : State), s.lcntFull x = false → Does (.hiccupEntry x) s s) ∧
  (∀ (x : Fin 28) (s : State), x.val < 12 → (s.railH x).ovOff = false → s.outSt x = 4 → s.rd (hic x).b (hic x).left = 0 →
    Does (.hiccupOffEnd x) s ((s.bump (hic x).b (hic x).retry).railSoft x 0 ((s.bump (hic x).b (hic x).retry).target x) false)) ∧
  (∀ (x : Fin 28) (s : State), 12 ≤ x.val → s.outSt x = 4 → s.rd (hic x).b (hic x).left = 0 →
    Does (.hiccupOffEnd x) s ((s.bump (hic x).b (hic x).retry).buckSoft x 0 ((s.bump (hic x).b (hic x).retry).target x) false)) ∧
  (∀ (x : Fin 28) (s : State), s.outSt x = 3 → s.ssDoneOf x = true → s.ran (.retry x) (10000 * orIf0 (s.rd (hic x).b (hic x).clr) 1) = true →
    Effect (.retryClear x) s fun u => u.rd (hic x).b (hic x).retry = 0 ∧ RegsOnly (fun k => k = (hic x).b + (hic x).retry.off) s u) ∧
  (∀ (x : Fin 28) (uv : Nat) (s : State), s.ssDue x = true →
    (s.ssShort x uv = true → Does (.startShortCheck x uv) s ((s.ssMark x).enterHiccup x true)) ∧
    (s.ssShort x uv = false → s.lcntFull x = false → Does (.startShortCheck x uv) s (s.ssMark x))) ∧
  (∀ (x : Fin 28) (uv : Nat) (s : State), s.ssDue x = false → Does (.startShortCheck x uv) s s)

/-- R144 to R149, R158: the window comparators of an output, on the state `t` that has seen the output's voltage `uv` and its
input's `vin`: each shows from its threshold on and clears by HYS. An overvoltage of an enabled output, past its filter, turns it
off; an output that is neither enabled nor has OV_OFF set ignores one. R147: an armed output below its window sets its bit of
OUT_UVF, and raises the event of its own number with the class of its CLS_UV, at most C3, which ERR_MASK suppresses for C0 and C1;
the output itself keeps its state and its EN. An undervoltage that is not armed trips nothing; power-good needs a regulating output
whose comparators do not show. -/
def Obligations.WindowComparators : Prop :=
  (∀ (x : Fin 46) (uv vin : Nat) (t : State), (t.comps x uv vin).outH x = { t.outH x with
    ovNow := (t.ovWatched x && decide (t.ovTop x vin < uv * 12800)) ||
      ((t.outH x).ovNow && decide (t.ovTop x vin < uv * 12800 + t.vhys x vin)),
    uvNow := (t.uvArmed x || t.forcedNow (.armed x)) && (decide (uv * 12800 < t.vuv x vin) ||
      ((t.outH x).uvNow && decide (uv * 12800 < t.vuv x vin + t.vhys x vin))) }) ∧
  (∀ (x : Fin 46) (uv vin ns : Nat) (s : State), s.up = true → 28 ≤ x.val → (s.see x uv vin).outEn x = true →
    (s.see x uv vin).follows x = false → (s.see x uv vin).vov x vin < uv * 12800 →
    25 * (s.see x uv vin).rd (out x) SUPV.OUT_CFG_OVF ≤ ns →
    Does (.ovTrip x uv vin ns) s ((((((s.see x uv vin).comps x uv vin).ovTell x).outOff x 3).errQ ldoB 1 x).anyShow)) ∧
  (∀ (x : Fin 46) (uv vin ns : Nat) (s : State), s.up = true → (s.see x uv vin).follows x = false →
    (s.see x uv vin).outEn x = true → (s.see x uv vin).vov x vin < uv * 12800 →
    ns < 25 * (s.see x uv vin).rd (out x) SUPV.OUT_CFG_OVF → Does (.ovTrip x uv vin ns) s ((s.see x uv vin).comps x uv vin)) ∧
  (∀ (x : Fin 46) (uv vin ns : Nat) (s : State), s.up = true → (s.see x uv vin).outEn x = false →
    (s.see x uv vin).forcedNow (.forced x) = false → (s.see x uv vin).bit (out x) SUPV.OUT_CFG_OV_OFF = false →
    Does (.ovTrip x uv vin ns) s ((s.see x uv vin).comps x uv vin)) ∧
  (∀ (x : Fin 46) (uv vin us : Nat) (s : State), s.up = true → 12 ≤ x.val → (s.see x uv vin).uvArmed x = true →
    uv * 12800 < (s.see x uv vin).vuv x vin → orIf0 ((s.see x uv vin).rd (out x) SUPV.OUT_CFG_UVF) 1 ≤ us →
    Effect (.uvTrip x uv vin us) s fun u =>
      u.supv offUVF x = true ∧ u.supv offPG x = false ∧ u.outSt x = s.outSt x ∧ u.outEn x = s.outEn x ∧ u.nvm = s.nvm ∧
      (u.outH x).uvNow = true ∧
      u.raiseQ = (if s.bit supvB (HDR.ERR_MASK.at 1) ∧ s.rd (out x) SUPV.OUT_CFG_CLS_UV ≤ 1 then s.raiseQ
        else insRaise s.raiseQ ⟨x, min 3 (s.rd (out x) SUPV.OUT_CFG_CLS_UV), none, false⟩)) ∧
  (∀ (x : Fin 46) (uv vin us : Nat) (s : State), s.up = true → (s.see x uv vin).uvArmed x = false →
    (s.see x uv vin).forcedNow (.armed x) = false → Does (.uvTrip x uv vin us) s ((s.see x uv vin).comps x uv vin)) ∧
  (∀ (x : Fin 46) (uv vin us : Nat) (s : State), s.up = true → (s.see x uv vin).regulates x = true →
    (s.see x uv vin).follows x = false → ((s.see x uv vin).comps x uv vin).inWindow x = true →
    10 * (s.see x uv vin).rd (out x) SUPV.OUT_CFG_PGD ≤ us →
    (s.see x uv vin).ran (.ssAt x) (10 * (s.see x uv vin).rd (out x) SUPV.OUT_CFG_PGD) = true →
    Does (.powerGood x uv vin us) s (((s.see x uv vin).comps x uv vin).setPg x true)) ∧
  (∀ (x : Fin 46) (uv vin us : Nat) (s : State), s.up = true → (s.see x uv vin).regulates x = false →
    Does (.powerGood x uv vin us) s ((s.see x uv vin).comps x uv vin)) ∧
  (∀ (x : Fin 46) (uv : Nat) (s : State), s.up = true → s.follows x = false → 10000 * s.rd (out x) SUPV.OUT_OFF_OFF_TH ≤ uv →
    Does (.offThresholdCrossing x uv) s (((s.setPair offBELOW x false).modOut x (fun h => { h with uv := uv })).unmark (.below x))) ∧
  (∀ (x : Fin 46) (uv : Nat) (s : State), s.up = true → s.follows x = false → uv < 10000 * s.rd (out x) SUPV.OUT_OFF_OFF_TH →
    s.supv offBELOW x = false → Does (.offThresholdCrossing x uv) s
      (((s.setPair offBELOW x true).modOut x (fun h => { h with uv := uv })).mark (.below x)))

/-- R153, R144, R156: discharge and the widened window of an output, and the weak backup supply. -/
def Obligations.DischargeRows : Prop :=
  (∀ (x : Fin 46) (s : State), s.supv offBELOW x = true → s.ran (.below x) 1000 = true → Effect (.dischargeRelease x) s fun u =>
    u.bit (out x) SUPV.OUT_OFF_DIS_FORCE = false ∧ (u.outH x).dis = false ∧
    (∀ k, k ≠ out x + SUPV.OUT_OFF_DIS_FORCE.off → u.getW k = s.getW k) ∧ u.raiseQ = s.raiseQ) ∧
  (∀ (x : Fin 46) (s : State), s.supv offBELOW x = false ∨ s.ran (.below x) 1000 = false → Does (.dischargeRelease x) s s) ∧
  (∀ (c : Fin 8) (x : Fin 46) (s : State), s.AcceptsField c (out x) SUPV.OUT_OFF_DIS_FORCE 1 →
    (s.wr (out x) SUPV.OUT_OFF_DIS_FORCE 1).follows x = false →
    Does (.disForceWrite c x) s ((s.wr (out x) SUPV.OUT_OFF_DIS_FORCE 1).discharge x)) ∧
  (∀ (x : Fin 46) (s : State), s.refNow x = s.target x → s.ran (.slewEnd x) (s.rd (out x) SUPV.OUT_OFF_SETTLE) = true →
    Does (.windowSettle x) s (s.modOut x (fun h => { h with slew := false }))) ∧
  (∀ (x : Fin 46) (s : State), s.refNow x ≠ s.target x ∨ s.ran (.slewEnd x) (s.rd (out x) SUPV.OUT_OFF_SETTLE) = false →
    Does (.windowSettle x) s s) ∧
  (∀ (mv us : Nat) (s : State), s.up = true → mv < 10 * s.rd supvB SUPV.VBAK_THR_WEAK → 100000 ≤ us →
    Does (.vbakWeak mv us) s (((s.setRepl DEV.REPLACE_SRC_RTC_WEAK true).err supvB 5 125 (some 0) none))) ∧
  (∀ (mv us : Nat) (s : State), 10 * s.rd supvB SUPV.VBAK_THR_WEAK ≤ mv ∨ us < 100000 → Does (.vbakWeak mv us) s s)

/-- R202, R205, R207 to R210: the bucks. R205: the angles of their leading edges, 22.5° apart and a follower's opposite its
leader's, or all 0. -/
def Obligations.BuckRows : Prop :=
  (∀ (c : Fin 8) (n : Fin 16) (s : State), s.AcceptsField c (bk n) BUCK.BK_CTRL_EN 1 → s.seqWrote (12 + n) = false →
    s.held (12 + n) = false → s.follows (12 + n) = false → s.outSt (12 + n) = 0 → mRISING < s.mode →
    Does (.buckEnSet c n) s (((((s.setEn (12 + n) true).undischarge (12 + n)).setOutSt (12 + n) 1).modBuck n
      (fun h => { h with vt := (s.setEn (12 + n) true).target (12 + n), sw := .mid })).allPg)) ∧
  (∀ (c : Fin 8) (n : Fin 16) (s : State), s.AcceptsField c (bk n) BUCK.BK_CTRL_EN 0 → s.seqWrote (12 + n) = false →
    s.outSt (12 + n) ≠ 0 → s.follows (12 + n) = false → Does (.buckEnClear c n) s (s.outOff (12 + n) 0)) ∧
  (∀ (c : Fin 8) (n : Fin 16) (s : State), s.AcceptsField c (bk n) BUCK.BK_CTRL_EN 0 → s.seqWrote (12 + n) = false →
    s.outSt (12 + n) = 0 → Effect (.buckEnClear c n) s fun u => u.bit (bk n) BUCK.BK_CTRL_EN = false ∧
      RegsOnly (fun k => k = bk n + BUCK.BK_CTRL_EN.off) s u) ∧
  (∀ (n : Fin 16) (uv : Nat) (s : State), s.outSt (12 + n) = 1 → (s.buckH n).vt ≤ uv * 16 / 625 →
    Does (.buckPrebiasDone n uv) s (((s.buckSoft (12 + n) 0 (s.buckH n).vt false).setRef (12 + n) (uv * 16 / 625)).ssDone (12 + n))) ∧
  (∀ (n : Fin 16) (uv : Nat) (s : State), s.outSt (12 + n) = 1 → uv * 16 / 625 < (s.buckH n).vt →
    Does (.buckPrebiasDone n uv) s ((s.buckSoft (12 + n)
      (startAt false (s.buckH n).vt (uv * 16 / 625) (s.ssN (12 + n))) (s.buckH n).vt
      (decide (625 * (s.buckH n).vt < 32 * uv))).setRef (12 + n) (uv * 16 / 625))) ∧
  (∀ (n : Fin 16) (uv : Nat) (s : State), s.outSt (12 + n) ≠ 1 → Does (.buckPrebiasDone n uv) s s) ∧
  (∀ (n : Fin 16) (uv : Int) (vin : Nat) (ma fma : Int) (cycle : Bool) (s : State),
    Does (.buckSample n uv vin ma fma cycle) s (s.buckSample (12 + n) uv vin ma fma cycle)) ∧
  (∀ (n : Fin 16) (uv : Int) (vin : Nat) (ma fma : Int) (cycle : Bool) (s : State), s.outSt (12 + n) ≠ 2 → s.outSt (12 + n) ≠ 3 →
    s.follows (13 + n) = false → Does (.buckSample n uv vin ma fma cycle) s
      ((s.modBuck n (fun h => { h with vins := (vin :: h.vins).take 9 })).buckSink (12 + n) ma)) ∧
  (∀ (n : Fin 16) (ma : Nat) (s : State), s.lead (12 + n) = 12 + n.val → s.outSt (12 + n) = 3 → (s.buckH n).sw = .run →
    100 * (s.buckH n).ipk ≤ ma → Does (.buckPeakTrip n ma) s
      ((s.modBuck n (fun h => { h with cut := true })).modBuck n (fun h => { h with sw := .low }))) ∧
  (∀ (n : Fin 16) (ma : Nat) (s : State), ma < 100 * (s.buckH n).ipk → Does (.buckPeakTrip n ma) s s) ∧
  (∀ (c : Fin 8) (k : Fin 8) (s : State), s.AcceptsField c (bk (2 * k)) BUCK.BK_CTRL_PAR 0 →
    s.outSt (12 + 2 * k) = 0 → s.outSt (13 + 2 * k) = 6 →
    Does (.buckParWrite c k false) s (((s.wrB (bk (2 * k)) BUCK.BK_CTRL_PAR false).setOutSt (13 + 2 * k) 0).modOut (13 + 2 * k)
      (fun h => { h with dis := false }))) ∧
  (∀ (c : Fin 8) (k : Fin 8) (s : State), s.AcceptsField c (bk (2 * k)) BUCK.BK_CTRL_PAR 1 →
    s.outSt (12 + 2 * k) = 0 → s.outSt (13 + 2 * k) = 0 → Does (.buckParWrite c k true) s
      ((((((s.wrB (bk (2 * k)) BUCK.BK_CTRL_PAR true).setOutSt (13 + 2 * k) 6).modOut (13 + 2 * k)
        (fun h => { h with dis := (s.outH (12 + 2 * k)).dis })).setSupv offPG (13 + 2 * k) (s.supv offPG (12 + 2 * k))).setSupv
        offBELOW (13 + 2 * k) (s.supv offBELOW (12 + 2 * k))).allPg)) ∧
  (∀ (c : Fin 8) (k : Fin 8) (b : Bool) (s : State), s.AcceptsField c (bk (2 * k)) BUCK.BK_CTRL_PAR (if b then 1 else 0) →
    s.outSt (12 + 2 * k) ≠ 0 → Does (.buckParWrite c k b) s (s.err (bkPage (2 * k)) 5 (12 + 2 * k) none none)) ∧
  (∀ (n : Fin 16) (s : State), s.bit (pg 0x20) BUCK.CLK_STAGGER = true → s.follows (12 + n) = false →
    s.buckAngle (12 + n) = n * 64) ∧
  (∀ (n : Fin 16) (s : State), s.bit (pg 0x20) BUCK.CLK_STAGGER = true → s.follows (12 + n) = true → 1 ≤ n.val →
    s.buckAngle (12 + n) = ((n - 1) * 64 + 512) % 1024) ∧
  (∀ (n : Fin 16) (s : State), s.bit (pg 0x20) BUCK.CLK_STAGGER = false → s.buckAngle (12 + n) = 0)

/-- R211, R212: the LDOs, and the two paths of LDO0. R213, R215: the load switches. -/
def Obligations.LdoAndSwitchRows : Prop :=
  (∀ (c : Fin 8) (j : Fin 10) (s : State), s.AcceptsField c (ldo j) LDO.LDO_CTRL_EN 1 → s.seqWrote (28 + j) = false →
    s.held (28 + j) = false → j ≠ 0 → s.outSt (28 + j) = 0 → mRISING < s.mode → Does (.ldoEnSet c j) s
      ((((s.setEn (28 + j) true).undischarge (28 + j)).setOutSt (28 + j) 1).mark (.rise (28 + j))).allPg) ∧
  (∀ (c : Fin 8) (s : State), s.AcceptsField c (ldo 0) LDO.LDO_CTRL_EN 1 → s.seqWrote 28 = false → s.held 28 = false →
    s.outSt 28 = 0 → s.mode ≠ mRISING → Does (.ldoEnSet c 0) s
      (((((s.setEn 28 true).undischarge 28).setOutSt 28 1).mark (.rise 28)).wr (ldo 0) LDO.LDO_STAT_KA 1).allPg) ∧
  (∀ (c : Fin 8) (j : Fin 10) (s : State), s.AcceptsField c (ldo j) LDO.LDO_CTRL_EN 0 → s.seqWrote (28 + j) = false →
    s.outSt (28 + j) ≠ 0 → Does (.ldoEnClear c j) s (s.outOff (28 + j) 0)) ∧
  (∀ (c : Fin 8) (j : Fin 10) (s : State), s.AcceptsField c (ldo j) LDO.LDO_CTRL_EN 0 → s.seqWrote (28 + j) = false →
    s.outSt (28 + j) = 0 → Does (.ldoEnClear c j) s (s.setEn (28 + j) false)) ∧
  (∀ (j : Fin 10) (s : State), s.outSt (28 + j) = 1 → (∀ k ∈ s.cmds, moves (28 + j) k = false) →
    s.ran (.rise (28 + j)) (10 * orIf0 (s.rd (ldo j) LDO.LDO_CTRL_SS_T) 1) = true → Effect (.ldoRiseDone j) s fun u =>
      u.outSt (28 + j) = 2 ∧ u.bit (ldo j) LDO.LDO_STAT_SS_DONE = true ∧ u.bit ldoB (LDO.STATUS_LDO_ON.at j) = true ∧
      u.raiseQ = s.raiseQ ∧ ∀ k, k ≠ ldo j + LDO.LDO_STAT_STATE.off → k ≠ ldoB + LDO.STATUS_LDO_ON.off → u.getW k = s.getW k) ∧
  (∀ (j : Fin 10) (s : State), s.outSt (28 + j) ≠ 1 → Does (.ldoRiseDone j) s s) ∧
  (∀ (j : Fin 10) (ma vin us : Nat) (s : State), (s.ldoSee j ma vin).ldoRuns (28 + j) = true →
    (s.ldoSee j ma vin).bit (ldo j) LDO.LDO_STAT_LIMITING = true → (s.ldoSee j ma vin).ldoLimUs j ≤ us →
    Does (.ldoOcOff j ma vin us) s (((s.ldoSee j ma vin).outLatch (28 + j)).err ldoB 0 (28 + j)
      (some (min 2 (s.rd (ldo j) LDO.LDO_ILIM_OC_CLS))) none)) ∧
  (∀ (j : Fin 10) (ma vin us : Nat) (s : State), (s.ldoSee j ma vin).bit (ldo j) LDO.LDO_STAT_LIMITING = false →
    Does (.ldoOcOff j ma vin us) s (s.ldoSee j ma vin)) ∧
  (∀ (mv us : Nat) (s : State), s.up = true → s.ldoRuns 28 = true → s.ldoMv 0 + s.headroom ≤ mv → 100 ≤ us →
    Effect (.ldo0ToGroup mv us) s fun u =>
      u.bit (ldo 0) LDO.LDO_STAT_KA = false ∧ RegsOnly (fun k => k = ldo 0 + LDO.LDO_STAT_KA.off) s u) ∧
  (∀ (mv us : Nat) (s : State), mv < s.ldoMv 0 + s.headroom ∨ us < 100 → Does (.ldo0ToGroup mv us) s s) ∧
  (∀ (mv : Nat) (s : State), s.up = true → s.ldoRuns 28 = true → 2 * mv < 2 * s.ldoMv 0 + s.headroom →
    Effect (.ldo0ToKeepalive mv) s fun u => u.bit (ldo 0) LDO.LDO_STAT_KA = true ∧ u.bit (ldo 0) LDO.LDO_STAT_LIMITING = false ∧
      RegsOnly (fun k => k = ldo 0 + LDO.LDO_STAT_KA.off) s u) ∧
  (∀ (ma us : Nat) (s : State), s.ldoRuns 28 = true → s.bit (ldo 0) LDO.LDO_STAT_KA = true → s.up = true → 50 ≤ ma →
    s.ldoLimUs 0 ≤ us → Does (.kaTrip ma us) s (((s.outOff 28 0).wr (ldo 0) LDO.LDO_STAT_KA 0).err ldoB 4 28 none none)) ∧
  (∀ (ma us : Nat) (s : State), s.ldoRuns 28 = true → s.bit (ldo 0) LDO.LDO_STAT_KA = true → s.up = false → 50 ≤ ma →
    s.ldoLimUs 0 ≤ us → Effect (.kaTrip ma us) s fun u => u.kaHeld = true ∧ u.bit (ldo 0) LDO.LDO_STAT_KA = false) ∧
  (∀ (c : Fin 8) (k : Fin 8) (s : State), s.AcceptsField c (ls k) LDO.LS_CTRL_EN 1 → s.seqWrote (38 + k) = false →
    s.held (38 + k) = false → s.outSt (38 + k) = 0 → s.atInput (38 + k) = false → mRISING < s.mode →
    Does (.lsEnSet c k) s ((((s.setEn (38 + k) true).undischarge (38 + k)).setOutSt (38 + k) 1).allPg)) ∧
  (∀ (c : Fin 8) (k : Fin 8) (s : State), s.AcceptsField c (ls k) LDO.LS_CTRL_EN 1 → s.seqWrote (38 + k) = false →
    s.held (38 + k) = false → s.outSt (38 + k) = 0 → s.atInput (38 + k) = true → mRISING < s.mode →
    Does (.lsEnSet c k) s ((((s.setEn (38 + k) true).undischarge (38 + k)).ssDone (38 + k)).allPg)) ∧
  (∀ (c : Fin 8) (k : Fin 8) (s : State), s.AcceptsField c (ls k) LDO.LS_CTRL_EN 0 → s.seqWrote (38 + k) = false →
    s.outSt (38 + k) ≠ 0 → Does (.lsEnClear c k) s (s.outOff (38 + k) 0)) ∧
  (∀ (k : Fin 8) (uv vin : Nat) (s : State), s.outSt (38 + k) = 1 → vin ≤ uv → s.bit (ls k) LDO.LS_STAT_REV_BLOCK = false →
    Effect (.lsRampDone k uv vin) s fun u => u.outSt (38 + k) = 2 ∧ u.bit ldoB (LDO.STATUS_LS_ON.at (16 + k)) = true ∧
      u.raiseQ = s.raiseQ ∧ ∀ n, n ≠ ls k + LDO.LS_STAT_STATE.off → n ≠ ldoB + LDO.STATUS_LS_ON.off → u.getW n = s.getW n) ∧
  (∀ (k : Fin 8) (uv vin : Nat) (s : State), uv < vin → Does (.lsRampDone k uv vin) s (s.see (38 + k) uv vin)) ∧
  (∀ (k : Fin 8) (ma : Int) (us : Nat) (s : State), (s.lsSee k ma).lsRuns k = true →
    (s.lsSee k ma).bit (ls k) LDO.LS_STAT_LIMITING = true → 100 * orIf0 (s.rd (ls k) LDO.LS_ILIM_FLT_T) 1 ≤ us →
    Does (.lsOcOff k ma us) s (((s.lsSee k ma).outLatch (38 + k)).err ldoB 0 (38 + k)
      (some (min 2 (s.rd (ls k) LDO.LS_ILIM_OC_CLS))) none)) ∧
  (∀ (k : Fin 8) (ma : Int) (us : Nat) (s : State), us < 100 * orIf0 (s.rd (ls k) LDO.LS_ILIM_FLT_T) 1 →
    Does (.lsOcOff k ma us) s (s.lsSee k ma)) ∧
  (∀ (k : Fin 8) (ma : Int) (s : State), s.outSt (38 + k) = 1 ∨ s.outSt (38 + k) = 2 → ((2 * s.lsLim k : Nat) : Int) < ma →
    Does (.lsFastTrip k ma) s ((s.outLatch (38 + k)).err ldoB 2 (38 + k) (some (min 2 (s.rd (ls k) LDO.LS_ILIM_OC_CLS))) none)) ∧
  (∀ (k : Fin 8) (ma : Int) (s : State), ma ≤ ((2 * s.lsLim k : Nat) : Int) → Does (.lsFastTrip k ma) s (s.lsSee k ma)) ∧
  (∀ (k : Fin 8) (uv vin : Nat) (s : State), s.outSt (38 + k) = 2 → s.bit (ls k) LDO.LS_CTRL_REV_EN = true →
    s.bit (ls k) LDO.LS_STAT_REV_BLOCK = false → vin + 50000 < uv →
    Effect (.lsReverseStart k uv vin) s fun u => u.bit (ls k) LDO.LS_STAT_REV_BLOCK = true ∧ u.outSt (38 + k) = 2 ∧
      u.bit (ls k) LDO.LS_STAT_LIMITING = false ∧ u.rd (ls k) LDO.LS_STAT_IOUT = 0 ∧
      Told (fun n => n = ls k + LDO.LS_STAT_REV_BLOCK.off ∨ n = ldoB + 0xC ∨ n = ldoB + 0x18) (s.see (38 + k) uv vin) u) ∧
  (∀ (k : Fin 8) (uv vin : Nat) (s : State), uv ≤ vin + 50000 → Does (.lsReverseStart k uv vin) s (s.see (38 + k) uv vin)) ∧
  (∀ (k : Fin 8) (uv vin : Nat) (s : State), s.bit (ls k) LDO.LS_STAT_REV_BLOCK = true → uv ≤ vin + 50000 →
    Effect (.lsReverseEnd k uv vin) s fun u => u.bit (ls k) LDO.LS_STAT_REV_BLOCK = false ∧ u.outSt (38 + k) = 1)

/-- R159, R160: the states of an input port outside PARKED, by the voltage on its sense pin. R156, R160, R162, R177: reverse trips,
overvoltage and the host's control of the ports; code 3 of a class acts as 2. -/
def Obligations.PortRows : Prop :=
  (∀ (p : Fin 2) (mv : Nat) (s : State), mHOLD ≤ s.mode → s.portSt p = pABSENT → s.presMv p < mv → Does (.portAbovePres p mv) s
    ((((s.portSee p mv).setPort p pCONFIRMING).mark (.ret p)).feedsShow)) ∧
  (∀ (p : Fin 2) (mv : Nat) (s : State), mHOLD ≤ s.mode → mv ≤ s.presMv p → Does (.portAbovePres p mv) s (s.portSee p mv)) ∧
  (∀ (p : Fin 2) (mv : Nat) (s : State), mHOLD ≤ s.mode → s.portSt p = pCONFIRMING → mv < s.presMv p →
    Does (.portBelowPres p mv) s (((s.portSee p mv).setPort p pABSENT).feedsShow)) ∧
  (∀ (p : Fin 2) (s : State), s.up = true → s.portSt p = pCONFIRMING →
    s.ran (.ret p) (1000 * orIf0 (s.rd (port p) PORT.P_TIME_RETURN) 1) = true → s.session = false →
    s.bit (port p) PORT.P_CFG_BLOCK = false →
    Does (.feedReturn p) s ((((s.setPort p pON).setLost p false).feedsShow).ask .feedBack 0x10).busWatch) ∧
  (∀ (p : Fin 2) (s : State), s.up = true → s.portSt p = pCONFIRMING →
    s.ran (.ret p) (1000 * orIf0 (s.rd (port p) PORT.P_TIME_RETURN) 1) = true → s.bit (port p) PORT.P_CFG_BLOCK = true →
    Does (.feedReturn p) s ((((s.setPort p pBLOCKED).setLost p false).feedsShow).ask .feedBack 0x10).busWatch) ∧
  (∀ (p : Fin 2) (uv : Int) (s : State), s.up = true → s.portSt p = pSTANDBY → 0 < uv →
    Does (.portVdsPositive p uv) s (s.setPort p pON).busWatch) ∧
  (∀ (p : Fin 2) (uv : Int) (s : State), uv ≤ 0 → Does (.portVdsPositive p uv) s s) ∧
  (∀ (p : Fin 2) (mv : Nat) (s : State), s.up = true → s.portSt p = pON ∨ s.portSt p = pSTANDBY ∨ s.portSt p = pBLOCKED →
    mv < s.lossMv p → Does (.portBelowLoss p mv) s
      (((((s.portSee p mv).setPrev p (s.portSt p)).setPort p pLOSING).mark (.conf p)).busWatch)) ∧
  (∀ (p : Fin 2) (mv : Nat) (s : State), s.up = true → s.lossMv p ≤ mv → Does (.portBelowLoss p mv) s (s.portSee p mv)) ∧
  (∀ (p : Fin 2) (mv : Nat) (s : State), s.up = true → s.portSt p = pLOSING → s.lossMv p < mv → Does (.portAboveLoss p mv) s
    ((((s.portSee p mv).setPort p (s.portPrev p)).freePort p).busWatch)) ∧
  (∀ (p : Fin 2) (s : State), s.up = true → s.portSt p = pLOSING → s.ran (.conf p) (orIf0 (s.rd (port p) PORT.P_TIME_CONFIRM) 1) = true →
    Does (.portLossConfirmed p) s
      (((s.setPort p pABSENT).setLost p true).err portB p (104 + p) (some (min 2 (s.rd portB PORT.CLS_LOSS))) none).feedsShow) ∧
  (∀ (p : Fin 2) (s : State), s.ran (.conf p) (orIf0 (s.rd (port p) PORT.P_TIME_CONFIRM) 1) = false → Does (.portLossConfirmed p) s s) ∧
  (∀ (p : Fin 3) (uv : Int) (s : State), s.up = true → p.val < 2 → s.portSt p = pON →
    uv < -((1000 * s.rd (port p) PORT.P_CFG_REV_MV : Nat) : Int) → Does (.portReverseTrip p uv) s
      ((s.setPort p pSTANDBY).err portB (3 + p) (104 + p) (some (min 2 (s.rd portB PORT.CLS_REV))) none).busWatch) ∧
  (∀ (uv : Int) (s : State), s.up = true → s.rd portB PORT.STATUS_N_ST = 2 → uv < -((1000 * s.rd portB PORT.NCFG_REV_MV : Nat) : Int) →
    Does (.portReverseTrip 2 uv) s
      (((s.wr portB PORT.STATUS_N_ST 4).err portB 5 106 (some (min 2 (s.rd portB PORT.CLS_REV))) none).fastEnd 0xA 4)) ∧
  (∀ (p : Fin 3) (uv : Int) (s : State), 0 ≤ uv → Does (.portReverseTrip p uv) s s) ∧
  (∀ (p : Fin 3) (mv us : Nat) (s : State), s.up = true → p.val < 2 → s.portSt p ≠ pDISABLED → s.portOvMv < mv → 2 ≤ us →
    Does (.portOv p mv us) s
      ((s.err supvB 4 (104 + p) (some (clampN 1 3 (s.rd supvB SUPV.PORT_OV_CLS))) none).portGone p pOVOFF)) ∧
  (∀ (p : Fin 3) (mv us : Nat) (s : State), mv ≤ s.portOvMv ∨ us < 2 → Does (.portOv p mv us) s s) ∧
  (∀ (p : Fin 3) (mv : Nat) (s : State), s.up = true → p.val < 2 → s.portSt p = pOVOFF → mv + s.portHysMv < s.portOvMv →
    Does (.portOvClear p mv) s (s.setPort p pABSENT).feedsShow) ∧
  (∀ (mv : Nat) (s : State), s.up = true → s.rd portB PORT.STATUS_N_ST = 6 → mv + s.portHysMv < s.portOvMv →
    Effect (.portOvClear 2 mv) s fun u =>
      u.rd portB PORT.STATUS_N_ST = 0 ∧ RegsOnly (fun k => k = portB + PORT.STATUS_N_ST.off) s u) ∧
  (∀ (c : Fin 8) (p : Fin 3) (s : State), p.val < 2 → s.AcceptsField c (port p) PORT.P_CFG_EN 0 →
    Does (.portEnWrite c p false) s ((s.wrB (port p) PORT.P_CFG_EN false).portGone p pDISABLED)) ∧
  (∀ (c : Fin 8) (p : Fin 3) (s : State), p.val < 2 → s.AcceptsField c (port p) PORT.P_CFG_EN 1 → s.portSt p = pDISABLED →
    (s.wrB (port p) PORT.P_CFG_EN true).portSt p = pDISABLED →
    Does (.portEnWrite c p true) s (((s.wrB (port p) PORT.P_CFG_EN true).setPort p pABSENT).feedsShow)) ∧
  (∀ (c : Fin 8) (p : Fin 2) (s : State), s.AcceptsField c (port p) PORT.P_CFG_BLOCK 1 → s.otherConducts p = false →
    Does (.portBlockWrite c p true) s (s.err portB 6 (104 + p) none none)) ∧
  (∀ (c : Fin 8) (p : Fin 2) (s : State), s.AcceptsField c (port p) PORT.P_CFG_BLOCK 1 → s.otherConducts p = true →
    Does (.portBlockWrite c p true) s (((s.wr (port p) PORT.P_CFG_BLOCK 1).holdPort p).busWatch))

/-- R166, R167, R168, R156: the start-up path and VBUS. R170: FSTART ends once its ramp has reached the end. -/
def Obligations.StartupPathAndVbus : Prop :=
  (∀ (f : Fin 3) (s : State), s.mode = mFALLOW → s.busSt = bOFF → Does (.coldStart f) s
    ((s.modBus (fun b => { b with feedHi := f + 1 })).pathStart 14000)) ∧
  (∀ (f : Fin 3) (s : State), s.busSt = bOFF → s.mode = mFALLOW → Effect (.coldStart f) s fun u =>
    u.busSt = bCSTART ∧ u.bus.pathMv = 14000 ∧ u.bus.feedHi = f + 1 ∧ u.mode = mFALLOW ∧ u.raiseQ = s.raiseQ) ∧
  (∀ s : State, s.mode = mPARKED → Does .startupPathStop s (s.pathLoss 3)) ∧
  (∀ (f : Fin 3) (s : State), s.mode = mPARKED → Does (.startupPathRestart f) s (s.pathFeed (f + 1))) ∧
  (∀ (p : Fin 2) (mv : Nat) (s : State), s.mode = mPARKED → 36000 < mv → Does (.portAbovePres p mv) s (s.pathFeed (p + 1))) ∧
  (∀ (p : Fin 2) (mv : Nat) (s : State), s.mode = mPARKED → mv ≤ 36000 → Does (.portAbovePres p mv) s s) ∧
  (∀ (ma : Nat) (s : State), s.busSt = bCSTART → s.mode = mPARKED ∨ s.mode = mFALLOW → 100 < ma →
    Does (.startupPathDelivery ma) s (s.wr buscB BUSC.STATUS_CS_SRC 1)) ∧
  (∀ s : State, s.busSt = bFSTART → s.fstartOver = true → Does .fstartDone s (s.setBus bFWD)) ∧
  (∀ s : State, s.busSt = bFSTART → s.fstartOver = false → Does .fstartDone s s) ∧
  (∀ (mv us : Nat) (s : State), mv + 1000 ≤ s.vbusOvMv → 1000 ≤ us →
    Does (.vbusOvRecovered mv us) s (s.modBus (fun b => { b with ovTrip := false })).busWatch) ∧
  (∀ (mv us : Nat) (s : State), s.vbusOvMv < mv + 1000 ∨ us < 1000 → Does (.vbusOvRecovered mv us) s s) ∧
  (∀ (mv us : Nat) (s : State), s.up = true → mv < 50 * s.rd supvB SUPV.VBUS_THR_UV → 20 ≤ us →
    Does (.vbusUv mv us) s (s.err supvB 3 102 (some (s.rd supvB SUPV.VBUS_THR_CLS_UV)) none)) ∧
  (∀ (mv us : Nat) (s : State), 50 * s.rd supvB SUPV.VBUS_THR_UV ≤ mv ∨ us < 20 → Does (.vbusUv mv us) s s) ∧
  (∀ (mv us : Nat) (s : State), s.up = true → s.vbusOvMv < mv → 5 ≤ us → Does (.vbusOv mv us) s
    ((s.err supvB 2 102 (some (clampN 2 4 (s.rd supvB SUPV.VBUS_THR_CLS_OV))) none).vbusOv)) ∧
  (∀ (mv us : Nat) (s : State), mv ≤ s.vbusOvMv ∨ us < 5 → Does (.vbusOv mv us) s s)

/-- R163, R169, R170, R172, R174: the converter's enable, its samples, and the steps of a donor session. -/
def Obligations.DonorSessionRows : Prop :=
  (∀ (t : BitVec 8) (vbus vpn : Nat) (k : Cmd) (s : State), s.Ready t 0x17 k → getBits k.a0 0 8 = 1 → getBits k.a1 0 16 ≠ 0 →
    getBits k.a1 16 16 ≠ 0 → getBits k.a2 0 7 ≠ 0 → s.donorRefusal (getBits k.a1 0 16) (getBits k.a1 16 16) vbus vpn = none →
    Does (.donorStart t vbus vpn) s ((s.runK k).donorBegin (getBits k.a1 0 16) (getBits k.a1 16 16) (getBits k.a2 0 7))) ∧
  (∀ (t : BitVec 8) (k : Cmd) (s : State), s.Ready t 0x17 k → getBits k.a0 0 8 = 0 →
    (s.session = true → Does (.donorStop t) s ((s.runK k).endSession 6)) ∧ (s.session = false → Does (.donorStop t) s (s.doneK k 0))) ∧
  (∀ s : State, s.busSt = bFSTOP → s.bus.ramp = 0 → Does .fstopDone s (s.blockPorts.setBus bDEAD)) ∧
  (∀ s : State, s.bus.ramp ≠ 0 → Does .fstopDone s s ∧ Does .rstopDone s s) ∧
  (∀ s : State, s.busSt = bDEAD → s.busFor (max 10 (s.rd buscB BUSC.TURN_DEAD)) = true → s.mode ≠ mPARKED → s.session = true → s.bus.ended = false →
    Does .deadEnd s
      (((s.busRejoin).setBus bMATCH).modBus (fun b => { b with nodeRef := 20 * s.rd buscB BUSC.MON_VNODE, nodeRem := 0 }))) ∧
  (∀ s : State, s.busSt = bDEAD → s.busFor (max 10 (s.rd buscB BUSC.TURN_DEAD)) = true → s.mode ≠ mPARKED → s.session = false →
    Does .deadEnd s (((s.sessionClose.setBus bHALT).busTryStart).chgWatch)) ∧
  (∀ s : State, s.busFor (max 10 (s.rd buscB BUSC.TURN_DEAD)) = false → Does .deadEnd s s) ∧
  (∀ (vnode vn : Nat) (s : State), s.busSt = bMATCH → s.nodeNear vnode vn = true →
    Does (.nodeMatch vnode vn) s ((s.wr portB PORT.STATUS_N_ST 1).setBus bCONNECT)) ∧
  (∀ (vnode vn : Nat) (s : State), s.nodeNear vnode vn = false → Does (.nodeMatch vnode vn) s s) ∧
  (∀ s : State, s.busSt = bMATCH → s.busFor (1000 * orIf0 (s.rd buscB BUSC.TURN_MATCH_T) 1) = true →
    Does .matchTimeout s (((s.endCause 0xB).err buscB 4 102 none none).setBus bDEAD)) ∧
  (∀ s : State, s.busSt = bCONNECT → s.busFor (10 * orIf0 (s.rd portB PORT.NCFG_SOFT) 1) = true →
    Does .connectDone s ((s.wr portB PORT.STATUS_N_ST 2).setBus bRRAMP)) ∧
  (∀ s : State, s.busSt = bRRAMP → s.rrampOver = true → Does .deliverEntry s
    (((s.setBus bDELIVER).irq buscB 16 102).endRunning opDonor stDONE (min 0xFFFFFFFF (s.tick - s.bus.accepted)) isStart)) ∧
  (∀ (mv us : Nat) (s : State), mv < s.donorFloor → 1000 ≤ us → s.session = true → s.bus.ended = false → s.busSt = bDELIVER →
    Does (.donorFloor mv us) s ((s.endCause 5).setBus bRSTOP)) ∧
  (∀ (mv us : Nat) (s : State), s.donorFloor ≤ mv ∨ us < 1000 → Does (.donorFloor mv us) s s) ∧
  (∀ s : State, s.session = true → s.bus.ended = false → s.busSt = bDELIVER → s.fe2 = true →
    (s.tapered = true → Does .donorTaper s ((s.endCause 7).setBus bRSTOP)) ∧
    (s.donorOver = true → Does .donorTime s ((s.endCause 8).setBus bRSTOP))) ∧
  (∀ s : State, s.fe2 = true → s.tapered = false → Does .donorTaper s s) ∧
  (∀ s : State, s.fe2 = true → s.donorOver = false → Does .donorTime s s) ∧
  (∀ s : State, s.busSt = bRSTOP → s.bus.ramp = 0 → Does .rstopDone s ((s.ornOff 0).setBus bDEAD)) ∧
  (∀ (c : Fin 8) (v : BitVec 8) (s : State), s.AcceptsField c buscB BUSC.PH_REM_REM v.toNat →
    Does (.phRemClear c v) s (s.wr buscB BUSC.PH_REM_REM (s.rd buscB BUSC.PH_REM_REM &&& (255 - v.toNat))).busWatch) ∧
  (∀ (c : Fin 8) (s : State), s.AcceptsField c buscB BUSC.CTRL_EN 1 → Does (.buscEnWrite c true) s (s.wr buscB BUSC.CTRL_EN 1).busWatch) ∧
  (∀ (c : Fin 8) (s : State), s.AcceptsField c buscB BUSC.CTRL_EN 0 → Does (.buscEnWrite c false) s s.busOff.chgWatch) ∧
  (∀ (m : BusMeas) (s : State), s.up = true → s.busSt = bOFF ∨ s.busSt = bHALT ∨ s.busSt = bDEAD →
    Does (.busConverterSample m) s
    (((((s.busMon m).energy m).taperWatch).terms m.vbsn).csSeen (m.ibus * 100))) ∧
  (∀ (m : BusMeas) (s : State), s.up = true → s.busSt = bFWD → Does (.busConverterSample m) s (s.busSample m))

/-- R179, R181, R184, R185, R187, R189, R191, R198: the charger's states as FE2 steps them. -/
def Obligations.ChargerStates : Prop :=
  (∀ (v : Nat) (s : State), s.up = true → s.llTick.fe2 = true → Does (.chargerTick v) s
    ((((((s.llTick.wr chgB CHG.MON_VCELL (s.llTick.vcellOf v)).safeTick.phaseTick).restTick (s.llTick.vcellOf v)).spanTick
      (s.llTick.vcellOf v)).countTick).zoneRefresh)) ∧
  (∀ (v : Nat) (s : State), s.up = true → s.llTick.fe2 = false → Does (.chargerTick v) s s.llTick) ∧
  (∀ s : State, s.bit chgB CHG.STATUS_LOADLIM = false → s.llTick = s) ∧
  (∀ s : State, s.bit chgB CHG.STATUS_LOADLIM = true → s.chg.llMs = 999 →
    s.llTick = (s.modChg (fun h => { h with llMs := 0 })).chgCount CHG.LL_SECS CHG.LL_SECS_SAT) ∧
  (∀ (v : Nat) (s : State), s.chgSt = cQUALIFY → s.fe2 = true → 200 ≤ s.chg.stMs →
    (s.vcv ≤ s.vcellOf v + s.rchg →
      Does (.qualifyEnd v) s ((s.wr chgB CHG.MON_VCELL (s.vcellOf v)).setChg cDONE).chgWatch) ∧
    (s.vcellOf v + s.rchg < s.vcv → s.rd chgB CHG.VCHG_VPRE ≤ s.vcellOf v →
      Does (.qualifyEnd v) s (s.wr chgB CHG.MON_VCELL (s.vcellOf v)).toCC.chgWatch) ∧
    (s.vcellOf v + s.rchg < s.vcv → s.vcellOf v < s.rd chgB CHG.VCHG_VPRE →
      Does (.qualifyEnd v) s ((s.wr chgB CHG.MON_VCELL (s.vcellOf v)).phaseZero.setChg cPRE).chgWatch)) ∧
  (∀ (v : Nat) (s : State), s.fe2 = true → s.chg.stMs < 200 → Does (.qualifyEnd v) s s) ∧
  (∀ s : State, s.chgSt = cPRE → s.fe2 = true → (s.okFor 1000 = true → Does .prechargeDone s s.toCC) ∧
    (s.okFor 1000 = false → Does .prechargeDone s s) ∧
    (clampN 1 120 (s.rd chgB CHG.CYCLE_PRE_T) * 60 ≤ s.rd chgB CHG.TIMER_PHASE →
      Does .prechargeTimeout s ((s.setChg cTIMEOUT).chgErr 1 5)) ∧
    (s.preOver = false → Does .prechargeTimeout s s)) ∧
  (∀ s : State, s.chgSt = cCC → s.fe2 = true → (s.okFor 1000 = true → Does .cvEntry s (s.setChg cCV)) ∧
    (s.okFor 1000 = false → Does .cvEntry s s)) ∧
  (∀ s : State, s.chgSt = cCC ∨ s.chgSt = cCV → s.fe2 = true → s.termDue = false →
    (s.safeOver = true → Does .safetyTimerExpiry s ((s.setChg cTIMEOUT).chgErr 1 4)) ∧
    (s.safeOver = false → Does .safetyTimerExpiry s s)) ∧
  (∀ s : State, s.chgSt = cCV → s.fe2 = true → s.termDue = true →
    (s.rd chgB CHG.CYCLE_TOPOFF = 0 → Does .termination s (s.setChg cDONE) ∧ Does .safetyTimerExpiry s (s.setChg cDONE)) ∧
    (s.rd chgB CHG.CYCLE_TOPOFF ≠ 0 → Does .termination s
      (((s.phaseZero).setChg cTOPOFF).post 103 (some 0) (some (s.rd chgB CHG.TIMER_ELAPSED))))) ∧
  (∀ s : State, s.fe2 = true → s.termDue = false → Does .termination s s) ∧
  (∀ s : State, s.chgSt = cTOPOFF → s.fe2 = true → (s.topoffOver = true → Does .topoffDone s
      (((s.setChg cDONE).chgCount CHG.CYC_CYCLES CHG.CYC_CYC_SAT).irq chgB 17 103)) ∧
    (s.topoffOver = false → Does .topoffDone s s)) ∧
  (∀ s : State, s.chgSt = cDONE → s.fe2 = true → s.bit chgB CHG.CFG_AUTO_RCHG = true →
    (s.okFor 1000 = true → Does .autoRecharge s ((s.toCC).chgCount CHG.CYC_RECHARGES CHG.CYC_RCH_SAT)) ∧
    (s.okFor 1000 = false → Does .autoRecharge s s)) ∧
  (∀ s : State, s.chgSt = cCC → s.fe2 = true → s.bit chgB CHG.CFG_REST_EN = true →
    (clampN 1 60 (s.rd chgB CHG.REST_INT) * 60000 ≤ s.chg.restMs →
      Does .restDue s (((s.wr chgB CHG.STATUS_PRIOR cCC).restZero).setChg cREST)) ∧
    (s.chg.restMs < clampN 1 60 (s.rd chgB CHG.REST_INT) * 60000 → Does .restDue s s)) ∧
  (∀ s : State, s.chgSt = cREST → s.fe2 = true → (s.restOver = true → Does .restEnd s s.restEnd) ∧
    (s.restOver = false → Does .restEnd s s))

/-- R178, R180, R184, R194, R195, R196: presence of the pack, its cut and its thermistor. R197: CHG_CTRL by its action; an argument
that is refused fails the command with its cause. -/
def Obligations.PackAndChgCtrlRows : Prop :=
  (∀ (rise us : Nat) (s : State), s.fe2 = true → s.chgSt ≠ cABSENT →
    (s.bit chgB CHG.CFG_NTC_EN = true → s.rd chgB CHG.TEMP_NTC_ST = 1 → s.chg.ntcSeen = true → s.ran .ntc 1000 = true →
      Does (.packAbsence true rise us) s (((s.modChg (fun h => { h with gone := true })).chgErr 0 2).chgAbsent 2)) ∧
    (s.absCurrent rise us = true →
      Does (.packAbsence false rise us) s (((s.modChg (fun h => { h with gone := true })).chgErr 0 2).chgAbsent 2)) ∧
    (s.absNtc = false → s.chg.gone = false → Does (.packAbsence true rise us) s s) ∧
    (s.absCurrent rise us = false → s.chg.gone = false → Does (.packAbsence false rise us) s s)) ∧
  (∀ (b : Bool) (rise us : Nat) (s : State), s.chgSt = cABSENT → Does (.packAbsence b rise us) s s) ∧
  (∀ (us : Nat) (s : State), s.chgSt = cABSENT → s.fe2 = true →
    (s.seeks 51000 = true → s.iSeen = true → 1000 ≤ us → Does (.packReinsertion us) s s.chgFound) ∧
    (s.seeks 51000 = false ∨ s.iSeen = false ∨ us < 1000 → Does (.packReinsertion us) s s) ∧
    (s.probeDue = true → Does .probeStart s (s.modChg (fun h => { h with probe := true, probeMs := 0, probed := true }))) ∧
    (s.probeDue = false → Does .probeStart s s)) ∧
  (∀ s : State, s.fe2 = true → (20 ≤ s.chg.probeMs → Does .probeEnd s (s.modChg (fun h => { h with probe := false }))) ∧
    (s.chg.probeMs < 20 → Does .probeEnd s s)) ∧
  (∀ (v us : Nat) (s : State), s.fe2 = true → s.chgSt ≠ cABSENT → s.chgSt ≠ cFAULT → s.cells * (s.vcv + 100) < v → 100 ≤ us →
    Effect (.packOv v us) s fun u => u.chgSt = cFAULT ∧ u.rd chgB CHG.STATUS_CAUSE = 6) ∧
  (∀ (v us : Nat) (s : State), s.chg.cut = false → v ≤ s.cells * (s.vcv + 100) ∨ us < 100 → Does (.packOv v us) s s) ∧
  (∀ s : State, s.chgSt ≠ cABSENT → s.chgSt ≠ cFAULT → s.bit chgB CHG.CFG_NTC_EN = true → s.rd chgB CHG.TEMP_NTC_ST = 2 →
    s.ran .ntc 10000 = true → s.fe2 = true → Does .ntcShortFault s ((s.restZero.setChg cFAULT).chgErr 3 8)) ∧
  (∀ s : State, s.fe2 = true → s.ran .ntc 10000 = false → Does .ntcShortFault s s) ∧
  (∀ (mv us : Nat) (s : State), s.up = true → s.bit chgB CHG.CFG_NTC_EN = true → 100 ≤ us → s.rd chgB CHG.TEMP_NTC_ST ≠ ntcOf mv →
    Effect (.ntcClassChange mv us) s fun u => u.rd chgB CHG.TEMP_NTC_ST = ntcOf mv ∧
      (∀ n, n ≠ chgB + CHG.TEMP_NTC_ST.off → u.getW n = s.getW n) ∧ u.raiseQ = s.raiseQ) ∧
  (∀ mv : Nat, (mv < 50 → ntcOf mv = 2) ∧ (50 ≤ mv → mv ≤ 1710 → ntcOf mv = 0) ∧ (1710 < mv → ntcOf mv = 1)) ∧
  (∀ (mv us : Nat) (s : State), s.up = true → s.bit chgB CHG.CFG_NTC_EN = true → us < 100 → Does (.ntcClassChange mv us) s s) ∧
  (∀ (mv us : Nat) (s : State), s.up = true → s.bit chgB CHG.CFG_NTC_EN = false →
    Does (.ntcClassChange mv us) s ((s.wr chgB CHG.TEMP_NTC_ST 3).modChg (fun h => { h with ntcSeen := false }))) ∧
  (∀ (mv : BitVec 11) (s : State), s.up = true → Does (.tpackUpdate mv) s
    (s.wrI chgB CHG.TEMP_TPACK (betaTemp (s.rd chgB CHG.NTC_CFG_BETA) mv.toNat))) ∧
  (∀ (t : BitVec 8) (k : Cmd) (s : State), s.Ready t 0x16 k → getBits k.a0 0 8 = 0 → getBits k.a1 0 9 = 0 → s.chgRefusal k = none →
    Does (.chgCtrlStop t) s (((s.wr chgB (CHG.STATUS_SUSP.at 8) 1).chgWatch).doneK k
      (((s.wr chgB (CHG.STATUS_SUSP.at 8) 1).chgWatch).chgSt + 16 * ((s.wr chgB (CHG.STATUS_SUSP.at 8) 1).chgWatch).rd chgB CHG.STATUS_CAUSE))) ∧
  (∀ (t : BitVec 8) (k : Cmd) (s : State), s.Ready t 0x16 k → getBits k.a0 0 8 = 1 → getBits k.a1 0 9 = 0 → s.chgRefusal k = none →
    Does (.chgCtrlStart t) s ((s.chgAct 1).doneK k ((s.chgAct 1).chgSt + 16 * (s.chgAct 1).rd chgB CHG.STATUS_CAUSE))) ∧
  (∀ (t : BitVec 8) (k : Cmd) (s : State), s.Ready t 0x16 k → getBits k.a0 0 8 = 2 → getBits k.a1 0 9 = 0 → s.chgRefusal k = none →
    s.chgSt = cTIMEOUT ∨ s.chgSt = cFAULT → Does (.chgCtrlClear t) s
      ((s.chgAct 2).doneK k ((s.chgAct 2).chgSt + 16 * (s.chgAct 2).rd chgB CHG.STATUS_CAUSE))) ∧
  (∀ (t : BitVec 8) (k : Cmd) (s : State), s.Ready t 0x16 k → getBits k.a0 0 8 = 3 → getBits k.a1 0 9 = 0 → s.chgRefusal k = none →
    Does (.chgCtrlRest t) s (s.restStart.doneK k (s.restStart.chgSt + 16 * s.restStart.rd chgB CHG.STATUS_CAUSE))) ∧
  (∀ (t : BitVec 8) (k : Cmd) (s : State), s.Ready t 0x16 k → getBits k.a0 0 8 = 4 → getBits k.a1 0 9 = 0 → s.chgRefusal k = none →
    Does (.chgCtrlRecharge t) s (s.recharge.doneK k (s.recharge.chgSt + 16 * s.recharge.rd chgB CHG.STATUS_CAUSE))) ∧
  (∀ (t : BitVec 8) (k : Cmd) (c : Nat) (s : State), s.Ready t 0x16 k → getBits k.a0 0 8 = 1 → s.chgRefusal k = some c →
    Does (.chgCtrlStart t) s (s.failK k c)) ∧
  (∀ (k : Cmd) (s : State), 4 < getBits k.a0 0 8 → s.chgRefusal k = some 1)

/-- R243, R245, R247 to R251: strobes, announcements, elections and the master's operations on the Flail line. -/
def Obligations.FlailLineRows : Prop :=
  (∀ (ns : Nat) (s : State), 1500 ≤ ns → ns ≤ 3000 → s.classes ns = true → s.inFrame = false → s.role ≠ rMASTER → Does (.strobe false ns) s
    ((((s.markAgo .strobe (ns / 1000)).unmark .shut).flCount FLAIL.CNT1_STEPS FLAIL.CNT1_STEPS_SAT).flailSet ((s.flailSt + 1) % 256) true)) ∧
  (∀ (ns : Nat) (s : State), 1500 ≤ ns → ns ≤ 3000 → s.classes ns = true → s.role = rMASTER → s.flail.frame = 1 →
    s.mayStrobe (ns / 1000) = true → Does (.strobe true ns) s
      (((((s.setFrame 5).markAgo .strobe (ns / 1000)).unmark .shut).flCount FLAIL.CNT1_STEPS FLAIL.CNT1_STEPS_SAT).flailSet ((s.flailSt + 1) % 256) true)) ∧
  (∀ (own : Bool) (ns : Nat) (s : State), ns < 1500 ∨ 3000 < ns → Does (.strobe own ns) s (s.lineLow (ns / 1000))) ∧
  (∀ (low : Nat) (s : State), s.role = rMASTER → s.flail.frame = 5 → s.bit flailB FLAIL.STATUS_HOLDING = false →
    s.ran .strobe (max s.lineSC low) = true →
    Does (.stepDone low) s
      ((((s.wr flailB FLAIL.MSTAT_HOLDT (min 0xFFFF (low / 10))).irq flailB 17 110).autoEnd).mark .stepEnd).lineFree) ∧
  (∀ (low : Nat) (s : State), s.ran .strobe (max s.lineSC low) = false ∨ s.bit flailB FLAIL.STATUS_HOLDING = true →
    Does (.stepDone low) s s) ∧
  (∀ s : State, s.stopped 0 = false → s.role = rMASTER → s.lineBusy = false → s.bit flailB FLAIL.MSTAT_AUTO = true →
    s.targetMay = true → s.mayStrobe 0 = true → Does .targetStrobe s (s.setFrame 1)) ∧
  (∀ s : State, s.stopped 0 = false → s.mayStrobe 0 = false ∨ s.targetMay = false → Does .targetStrobe s s) ∧
  (∀ s : State, s.role = rMASTER → s.lineBusy = false → s.ran .ann s.annT = true → Does .announcePeriodExpiry s
    ((s.modFlail (fun h => { h with goto := s.flailSt })).setFrame 2)) ∧
  (∀ s : State, s.ran .ann s.annT = false → Does .announcePeriodExpiry s s) ∧
  (∀ (h : FlStart) (st comp : BitVec 8) (s : State), s.frameIs h 1 false = true → s.role = rFOLLOWER → comp ≠ ~~~ st →
    Does (.announce h st comp false false) s ((s.unmark .shut).viol 2 0)) ∧
  (∀ (h : FlStart) (st comp : BitVec 8) (s : State), s.frameIs h 1 false = true → s.role = rFOLLOWER → comp = ~~~ st → s.flailSt = st.toNat →
    Does (.announce h st comp false false) s
      (((((s.unmark .shut).modFlail (fun h => { h with lost := false })).mark .lost).mark .ann).flailSet st.toNat false)) ∧
  (∀ (h : FlStart) (st comp : BitVec 8) (s : State), s.frameIs h 1 true = true → s.role = rMASTER → s.flail.frame = 2 →
    s.slotsOver 16 = true → Does (.announce h st comp true false) s ((((s.flailSet s.flail.goto false).autoEnd).mark .ann).lineFree)) ∧
  (∀ (ns : Nat) (w : BitVec 10 × BitVec 16) (cands : List (BitVec 10 × BitVec 16)) (s : State), 9000 ≤ ns → ns ≤ 15000 →
    s.listens = true → s.role = rFOLLOWER →
    s.bit flailB FLAIL.CFG_MCAND = false → winner cands = some w → Effect (.elect ns cands false) s fun u =>
      u.rd flailB FLAIL.STATE_MASTER_ID = w.1.toNat ∧ u.role = rFOLLOWER ∧
      RegsOnly (fun k => k = flailB + FLAIL.STATE_MASTER_ID.off) s u) ∧
  (∀ (ns : Nat) (cands : List (BitVec 10 × BitVec 16)) (s : State), 9000 ≤ ns → ns ≤ 15000 → s.listens = true → s.role = rELECTING →
    winner (s.ownId :: cands) = some s.ownId → Does (.elect ns cands false) s
      ((((s.wr flailB FLAIL.STATE_MASTER_ID s.ownId.1.toNat).setRole rMASTER).modFlail (fun h => { h with lost := false })).mctrlRun 2
        (s.wr flailB FLAIL.STATE_MASTER_ID s.ownId.1.toNat).flailSt)) ∧
  (∀ (low : Nat) (s : State), s.role = rFOLLOWER → s.flail.lost = false → s.ran .lost (3 * s.annT + low) = true →
    s.bit flailB FLAIL.CFG_MCAND = false → Effect (.masterLost low) s fun u =>
      u.flail.lost = true ∧ u.role = rFOLLOWER ∧ u.bit flailB (HDR.ERR.at 9) = true) ∧
  (∀ (low : Nat) (s : State), s.ran .lost (3 * s.annT + low) = false → Does (.masterLost low) s s)

/-- R243, R244, R249, R252, R256, R258: violations, holds and alarms on the Flail line. -/
def Obligations.FlailViolationsAndAlarms : Prop :=
  (∀ s : State, s.bit flailB FLAIL.STATUS_HOLDING = true → s.ran .hold s.holdMax = true →
    Does .holdExp s ((s.wr flailB FLAIL.STATUS_HOLDING 0).viol 5 1)) ∧
  (∀ s : State, s.ran .hold s.holdMax = false → Does .holdExp s s) ∧
  (∀ (h : FlStart) (s : State), s.decodes h = true → frType h = 0 ∨ 4 ≤ frType h → s.role ≠ rMASTER →
    Does (.frameType h) s ((s.mark .shut).viol 3 0)) ∧
  (∀ (ns : Nat) (s : State), s.classes ns = true → s.inFrame = false → pulseOf ns = plILLEGAL →
    Does (.illegalWidth ns) s ((s.viol 0 0).lineLow (ns / 1000))) ∧
  (∀ (ns : Nat) (s : State), pulseOf ns ≠ plILLEGAL → Does (.illegalWidth ns) s (s.lineLow (ns / 1000))) ∧
  (∀ ns : Nat, pulseOf ns = plILLEGAL ↔ 200 ≤ ns ∧ ns < 1500 ∨ 3000 < ns ∧ ns < 5000 ∨ 7000 < ns ∧ ns < 9000 ∨
    15000 < ns ∧ ns < 20000 ∨ 40000 < ns ∧ ns < 50000) ∧
  (∀ (p : Fin 2) (us : Nat) (hold : Bool) (s : State), s.listens = true →
    s.bit flailB (if p = 0 then FLAIL.CFG_A_EN else FLAIL.CFG_B_EN) = true → s.flail.stuck.testBit p.val = false →
    (if hold then s.holdMax + 1000 else 10000) ≤ us → Does (.flailStuck p us hold) s
      ((s.modFlail (fun h => { h with stuck := h.stuck ||| 2 ^ p.val })).viol (6 + p.val) 1)) ∧
  (∀ (p : Fin 2) (us : Nat) (s : State), us < 10000 → Does (.flailStuck p us false) s s) ∧
  (∀ (p : Fin 2) (us : Nat) (s : State), s.flail.stuck.testBit p.val = true → 1000 ≤ us → Does (.flailPortHigh p us) s
    (s.modFlail (fun h => { h with stuck := h.stuck - 2 ^ p.val }))) ∧
  (∀ (p : Fin 2) (us : Nat) (s : State), us < 1000 → Does (.flailPortHigh p us) s s) ∧
  (∀ (ns : Nat) (s : State), s.classes ns = true → 20000 ≤ ns → ns ≤ 40000 → s.rd flailB FLAIL.ALCFG_ACT = 0 → s.flail.frame = 0 →
    Does (.alarm ns none) s
      (((((s.unmark .shut).flCount FLAIL.CNT2_RX FLAIL.CNT2_RX_SAT).irq flailB 20 110).post 110 (some 0) none).mark .alarm)) ∧
  (∀ (ns : Nat) (h : Option FlStart) (s : State), ns < 20000 ∨ 40000 < ns → Does (.alarm ns h) s (s.lineLow (ns / 1000))) ∧
  (∀ (us ns : Nat) (s : State), s.flail.alarmPend = true → 20 ≤ us →
    (20000 ≤ ns → ns ≤ 40000 → Does (.alarmRepeat us ns) s (s.modFlail (fun h => { h with alarmPend := false })).alarmAborts) ∧
    (ns < 20000 ∨ 40000 < ns → Does (.alarmRepeat us ns) s (s.modFlail (fun h => { h with alarmPend := true })))) ∧
  (∀ (us ns : Nat) (s : State), us < 20 → Does (.alarmRepeat us ns) s s) ∧
  (∀ (ns : Nat) (s : State), s.flail.alarmReq = true → s.flail.frame ≠ 5 → s.bit flailB FLAIL.STATUS_HOLDING = false →
    s.inHold (ns / 1000) = false → (20000 ≤ ns → ns ≤ 40000 → Does (.alarmSend none ns) s
      ((s.flCount FLAIL.CNT2_TX FLAIL.CNT2_TX_SAT).modFlail (fun h => { h with alarmReq := false, alarmPend := false })).alarmAborts) ∧
    (ns < 20000 ∨ 40000 < ns → Does (.alarmSend none ns) s
      ((s.flCount FLAIL.CNT2_TX FLAIL.CNT2_TX_SAT).modFlail (fun h => { h with alarmReq := false, alarmPend := true })))) ∧
  (∀ (c : Fin 8) (ns : Nat) (s : State), s.AcceptsField c flailB FLAIL.CTRL_ALARM 1 → s.role ≠ rSILENT →
    exec (.alarmSend (some c) ns) s = exec (.alarmSend none ns) (s.modFlail (fun h => { h with alarmReq := true }))) ∧
  (∀ s : State, s.stopped 0 = false → s.flail.again ≠ 0 → s.role = rMASTER → s.flail.frame = 0 → s.past .alarm 100 = true →
    (s.runningCmd opDigest).isSome = true →
    Does .digestRestart s ((s.setFrame s.flail.again).modFlail (fun h => { h with again := 0 }))) ∧
  (∀ s : State, s.stopped 0 = false → s.past .alarm 100 = false → Does .digestRestart s s)

/-- R253 to R256: digest rounds. A node that follows records the round, from the slots as its own bits and the other nodes
leave them; a round names the lowest ID left. R251: MCTRL by the
context that holds the FLAIL resource. -/
def Obligations.DigestAndMasterRows : Prop :=
  (∀ (h : FlStart) (a b : BitVec 64) (s : State), s.frameIs h 2 false = true → s.role = rFOLLOWER →
    digestResult (s.dgRead (frParam h) a b).1 (s.dgRead (frParam h) a b).2 = 1 → Does (.digest h a b false false) s
      ((((((((s.unmark .shut).wr flailB FLAIL.DGRES_RESULT 1).wr flailB FLAIL.DGRES_FIRST
        (((pairCount (fun x y => !x && !y) (s.dgRead (frParam h) a b).1 (s.dgRead (frParam h) a b).2).getLast?).getD 0)).wr
        flailB FLAIL.DGRES_NDIFF (pairCount (fun x y => !x && !y) (s.dgRead (frParam h) a b).1 (s.dgRead (frParam h) a b).2).length).wr
        flailB FLAIL.DGRES_GROUP (frParam h)).flCount FLAIL.CNT3_ROUNDS FLAIL.CNT3_RND_SAT).irq flailB 18 110))) ∧
  (∀ (g : Nat) (a b : BitVec 64) (s : State), s.inGroup g = true → ∀ i : Nat, i < 64 →
    (s.dgRead g a b).1.getLsbD i = (a.getLsbD i && (BitVec.ofNat 64 s.digest).getLsbD i) ∧
    (s.dgRead g a b).2.getLsbD i = (b.getLsbD i && !(BitVec.ofNat 64 s.digest).getLsbD i)) ∧
  (∀ (h : FlStart) (a b : BitVec 64) (s : State), s.frameIs h 2 false = true → s.role = rFOLLOWER →
    Does (.digest h a b false true) s (((s.unmark .shut).viol 1 0).digestLost (frParam h))) ∧
  (∀ (h : FlStart) (ref : BitVec 64) (maxn : BitVec 10) (s : State), s.frameIs h 3 false = true → s.role = rFOLLOWER →
    s.dissents (frParam h) ref.toNat = false → Does (.ident h ref [] maxn false false) s
    ((((((s.unmark .shut).wrB flailB FLAIL.DGRES_DISSENT false).wr flailB FLAIL.IDRES_NDISS 0).wrB flailB
      FLAIL.IDRES_TRUNC false).each (List.range 8) fun j t => t.setW (flailB + 0x7C + 4 * j) 0).irq flailB 19 110)) ∧
  (∀ (g : Nat) (ref : BitVec 64) (ids : List (BitVec 10)) (s : State), s.dissents g ref.toNat = true →
    BitVec.ofNat 10 (s.rd flailB FLAIL.CFG_NODE_ID) ∈ (s.identNames g ref ids false).2) ∧
  (∀ l : List (BitVec 10), (∀ x, x ∈ namedIds l ↔ x ∈ l) ∧ List.Pairwise (· < ·) (namedIds l)) ∧
  (∀ (h : FlStart) (us : Nat) (s : State), s.role = rFOLLOWER → s.decodes h = true → frType h = 2 ∨ frType h = 3 → 3 * s.slotT ≤ us →
    Effect (.frameAbandon h us) s fun u => u.rd flailB FLAIL.DGRES_RESULT = 5 ∧ u.rd flailB FLAIL.DGRES_GROUP = frParam h ∧
      RegsOnly (fun k => k = flailB + FLAIL.DGRES_RESULT.off) s u) ∧
  (∀ (h : FlStart) (us : Nat) (s : State), us < 3 * s.slotT → Does (.frameAbandon h us) s s) ∧
  (∀ (t : BitVec 8) (k : Cmd) (s : State), s.Ready t 0x08 k → k.prog = 0 → s.mode = mRUN → s.role ≠ rMASTER → Does (.digestRound t) s (s.failK k 2)) ∧
  (∀ (t : BitVec 8) (k : Cmd) (s : State), s.Ready t 0x08 k → s.mode = mRUN → s.role = rMASTER → s.lineBusy = false →
    s.bit flailB FLAIL.MSTAT_AUTO = false → k.a0.toNat < 32 → k.a1 = 0 → k.a2 = 0 → k.prog = 0 → Does (.digestRound t) s
      (((s.runK { k with aux := 0 }).modFlail (fun h => { h with restarts := 0, again := 0, grp := getBits k.a0 0 4 })).setFrame 3)) ∧
  (∀ (t : BitVec 8) (k : Cmd) (s : State), s.Ready t 0x08 k → k.prog ≠ 0 → s.role = rMASTER → Does (.digestRound t) s (s.dgGo k)) ∧
  (∀ a b : BitVec 64, digestResult a b = 1 ↔ ∀ i, i < 64 → a.getLsbD i ≠ b.getLsbD i) ∧
  (∀ (c : Fin 8) (g : Grant) (s : State), s.Accepts c (flailB + 0x58) (BitVec.ofNat 32 (1 * 2 ^ FLAIL.MCTRL_OP.lo)) → s.role = rMASTER →
    s.grantOf 8 = some g → g.who = c → g.org = .direct → s.lineBusy = false → Does (.mctrlStep c) s (s.setFrame 1)) ∧
  (∀ (c : Fin 8) (s : State), s.Accepts c (flailB + 0x58) (BitVec.ofNat 32 (1 * 2 ^ FLAIL.MCTRL_OP.lo)) → s.role ≠ rMASTER →
    Does (.mctrlStep c) s (s.viol 11 0)) ∧
  (∀ (c : Fin 8) (arg : BitVec 8) (g : Grant) (s : State),
    s.Accepts c (flailB + 0x58) (BitVec.ofNat 32 (2 * 2 ^ FLAIL.MCTRL_OP.lo + arg.toNat * 2 ^ FLAIL.MCTRL_ARG.lo)) → s.role = rMASTER →
    s.grantOf 8 = some g → g.who = c → g.org = .direct → s.lineBusy = false → Does (.mctrlGoto c arg) s
      ((s.modFlail (fun h => { h with goto := arg.toNat })).setFrame 2)) ∧
  (∀ (c : Fin 8) (arg : BitVec 8) (g : Grant) (s : State),
    s.Accepts c (flailB + 0x58) (BitVec.ofNat 32 (3 * 2 ^ FLAIL.MCTRL_OP.lo + arg.toNat * 2 ^ FLAIL.MCTRL_ARG.lo)) → s.role = rMASTER →
    s.grantOf 8 = some g → g.who = c → g.org = .direct → s.lineBusy = false → s.flailSt ≠ arg.toNat → Does (.mctrlTarget c arg) s
      ((((s.modFlail (fun h => { h with tctx := c })).wr flailB FLAIL.MSTAT_TARGET arg.toNat).wr flailB FLAIL.MSTAT_AUTO 1).setFrame 1)) ∧
  (∀ (c : Fin 8) (g : Grant) (s : State), s.Accepts c (flailB + 0x58) (BitVec.ofNat 32 (4 * 2 ^ FLAIL.MCTRL_OP.lo)) → s.role = rMASTER →
    s.grantOf 8 = some g → g.who = c → g.org = .direct →
    (s.flail.frame = 1 ∨ s.flail.frame = 5 → Does (.mctrlStop c) s (s.modFlail (fun h => { h with stop := true }))) ∧
    (s.lineBusy = false → Does (.mctrlStop c) s (s.wr flailB FLAIL.MSTAT_AUTO 0))) ∧
  (∀ (c : Fin 8) (g : Grant) (s : State), s.Accepts c (flailB + 0x58) (BitVec.ofNat 32 (5 * 2 ^ FLAIL.MCTRL_OP.lo)) → s.role = rMASTER →
    s.grantOf 8 = some g → g.who = c → g.org = .direct → s.lineBusy = false → Does (.mctrlWake c) s (s.setFrame 6))

/-- R437, R449, R451: the bale load. It is the last step of WAKING; an invalid region, no bale, or an incomplete write ends
WAKING in HOLD with its cause and detail, and a record outside the map offends. -/
def Obligations.BaleLoadSteps : Prop :=
  (∀ (hits : List EccHit) (imon : List (Fin 56 × Nat)) (fail : Bool) (s : State), s.mode = mWAKING → s.boot = 5 → s.eng 7 ≠ eHALTED →
    Does (.baleLoad hits imon fail) s ((s.adcWake.eccHits 1 hits false).baleLoad hits imon fail)) ∧
  (∀ (hits : List EccHit) (imon : List (Fin 56 × Nat)) (fail : Bool) (s : State), s.mode ≠ mWAKING →
    Does (.baleLoad hits imon fail) s s) ∧
  (∀ (hits : List EccHit) (imon : List (Fin 56 × Nat)) (fail : Bool) (s : State) (g : Nat), g < 4 → s.regValid g = false →
    (∀ h, h < g → s.regValid h = true) → s.baleLoad hits imon fail = s.toHold 6 g 0) ∧
  (∀ (hits : List EccHit) (imon : List (Fin 56 × Nat)) (fail : Bool) (s : State), (∀ g, g < 4 → s.regValid g = true) →
    s.itemIs (slotB 0) 2 = false → s.itemIs (slotB 1) 2 = false → s.baleLoad hits imon fail = s.toHold 1 0 0) ∧
  (∀ (hits : List EccHit) (imon : List (Fin 56 × Nat)) (fail : Bool) (s : State) (n w : Nat), s.baleHalf (slotB n) = some w →
    s.baleFrom n hits imon fail = s.toHold 3 w 1) ∧
  (∀ (base nodes n i csel : Nat) (imon : List (Fin 56 × Nat)) (fail : Bool) (keys : List (Nat × Nat)) (s : State),
    addrOk (s.baleLo base i) = false → State.baleRecs base nodes imon fail (n + 1) s i csel keys = (s, keys, some i)) ∧
  (∀ (cause detail kind : Nat) (s : State), cause < 16 → detail < 4096 → kind < 3 →
    (s.toHold cause detail kind).mode = mHOLD ∧ (s.toHold cause detail kind).rd devB DEV.MODE_HOLD_CAUSE = cause ∧
    (s.toHold cause detail kind).rd devB DEV.HOLD_INFO_INDEX = detail ∧ (s.toHold cause detail kind).rd devB DEV.HOLD_INFO_KIND = kind)

/-- R262, R265 to R267: margins. A MARGIN ends an earlier one as SUPERSEDED; one that defers then only sets NEXT
and PEND; APPLY outside SERVICE is refused where a
pending code differs from the one in use. R269 to R272: snapshots by command, and the capture buffer that reaches its slot. -/
def Obligations.MarginAndSnapshotRows : Prop :=
  (∀ (t : BitVec 8) (k : Cmd) (s : State), s.Ready t 0x03 k → s.mode ≠ mSERVICE → getBits k.a1 8 1 = 0 → Does (.margin t) s (s.failK k 1)) ∧
  (∀ (t : BitVec 8) (k : Cmd) (s : State), s.Ready t 0x03 k → getBits k.a0 0 6 < 38 → margOk (signOf 6 (getBits k.a1 0 6)) = true →
    k.a0.toNat / 64 = 0 → getBits k.a1 6 2 = 0 → k.a1.toNat / 512 = 0 → k.a2 = 0 → getBits k.a1 8 1 = 1 →
    Does (.margin t) s
      ((((s.endMoves (getBits k.a0 0 6) stSUPERSEDED 0).wr (marg (getBits k.a0 0 6)) MARG.OUT_NEXT (getBits k.a1 0 6)).wr (marg (getBits k.a0 0 6)) MARG.OUT_PEND 1).doneK k 0)) ∧
  (∀ (t : BitVec 8) (k : Cmd) (u s : State), s.Ready t 0x03 k → s.mode = mSERVICE → getBits k.a0 0 6 < 38 →
    margOk (signOf 6 (getBits k.a1 0 6)) = true → k.a0.toNat / 64 = 0 → getBits k.a1 6 2 = 0 → k.a1.toNat / 512 = 0 → k.a2 = 0 →
    getBits k.a1 8 1 = 0 →
    u = (((s.endMoves (getBits k.a0 0 6) stSUPERSEDED 0).wr (marg (getBits k.a0 0 6)) MARG.OUT_NEXT (getBits k.a1 0 6)).runK
      (if outKind (getBits k.a0 0 6) = .ldo then { k with aux := s.tick } else k)).margTake (getBits k.a0 0 6) →
    u.regulates (getBits k.a0 0 6) = false → u.outSt (getBits k.a0 0 6) ≠ 1 → u.outSt (getBits k.a0 0 6) ≠ 2 →
    Does (.margin t) s (u.endMoves (getBits k.a0 0 6) stDONE 0)) ∧
  (∀ (t : BitVec 8) (k : Cmd) (s : State), s.Ready t 0x03 k → s.mode = mSERVICE → 38 ≤ getBits k.a0 0 6 → Does (.margin t) s (s.failK k 2)) ∧
  (∀ (c : Fin 8) (s : State), s.AcceptsField c margB MARG.CTRL_APPLY 1 → s.mode = mSERVICE → Does (.margApply c) s s.margCopy) ∧
  (∀ (c : Fin 8) (x : Nat) (s : State), s.AcceptsField c margB MARG.CTRL_APPLY 1 → s.mode ≠ mSERVICE → x < 38 →
    s.bit (marg x) MARG.OUT_PEND = true → s.rd (marg x) MARG.OUT_NEXT ≠ s.rd (marg x) MARG.OUT_CUR → Effect (.margApply c) s fun u =>
      u.bit margB (HDR.ERR.at 0) = true ∧ u.raiseQ = s.raiseQ ∧ Told (fun k => k = margB + 0xC ∨ k = margB + 0x18) s u) ∧
  (∀ (c : Fin 8) (s : State), s.AcceptsField c margB MARG.CTRL_DISARM 1 → Effect (.margDisarm c) s fun u =>
    u.bit margB MARG.SYNC_ARM = false ∧ u.bit margB MARG.STATUS_ARMED = false ∧
    RegsOnly (fun k => k = margB + MARG.SYNC_ARM.off ∨ k = margB + MARG.STATUS_ARMED.off) s u) ∧
  (∀ (t : BitVec 8) (k : Cmd) (s : State), s.findCmd t.toNat = some k → k.op = 0x04 → k.phase = .waiting → s.cmdStopped k = false →
    s.inTurn k = true → s.mode ≠ mLOCKOUT →
    s.snaps.length < 2 → k.a0.toNat / 0x10000 = 0 → k.a1 = 0 → k.a2 = 0 →
    Does (.snapshot t) s ((s.runK k).snapshot 3 0xFF 0 (getBits k.a0 0 16) k.ctx.val (some k.tag))) ∧
  (∀ (t : BitVec 8) (k : Cmd) (s : State), s.findCmd t.toNat = some k → k.op = 0x04 → k.phase = .waiting → s.cmdStopped k = false →
    s.inTurn k = true →
    2 ≤ s.snaps.length →
    Does (.snapshot t) s (s.failFree k)) ∧
  (∀ (trig seq ev cls tag ctx : Nat) (s : State), (s.snapWords trig seq ev cls tag ctx).length = 255) ∧
  (∀ (trig ev cls tag ctx : Nat) (cmd : Option Nat) (s : State), s.snaps.length < 2 →
    (s.snapshot trig ev cls tag ctx cmd).snaps = s.snaps ++ [⟨s.snapWords trig s.snapNext ev cls tag ctx, s.snapNext, cmd, 0⟩] ∧
    (s.snapshot trig ev cls tag ctx cmd).snapNext = (s.snapNext + 1) % 2 ^ 32) ∧
  (∀ (x : Snap) (l : List Snap) (s : State), s.snaps = x :: l → s.up = true → s.stopped 7 = false → s.nvmOff = false → s.snapPort = true →
    s.snapLeft ≠ some 0 → s.snapDue = none → Does .snapshotWritten s s.snapWrite.fe7Done) ∧
  (∀ (x : Snap) (l : List Snap) (s : State), s.snaps = x :: l → s.up = true → s.stopped 7 = false → s.nvmOff = false → s.snapPort = true →
    s.snapLeft ≠ some 0 → x.pages + 1 < 32 → s.mustRevoke 6 = true → Does .snapshotWritten s (s.snapYield 6)) ∧
  (∀ s : State, s.snapLeft = some 0 → Does .snapshotWritten s s) ∧
  (∀ (x : Snap) (l : List Snap) (s : State), s.snaps = x :: l → x.pages = 0 → (s.snapPut x).nvm =
    Memory.writes (if x.seq % 192 % 4 = 0 then s.nvmErase (snapAt (x.seq % 192)) else s).nvm (snapAt (x.seq % 192)) (x.bytes.take 1024))

/-- R276, R279, R281, R282: a converter's entries take their time; what each converts enters the accumulator of its channel with
the corrected code, and a window's end shows the sum and the count of its samples. -/
def Obligations.ConversionRows : Prop :=
  (∀ (v : Fin 2) (raw : BitVec 18) (ch : Nat) (s : State), s.convOn v = true → s.bit adcB ADC.STATUS_REF_READY = true → s.urgOf v = none →
    (s.convAt v).1 ≤ s.quarter → s.adcEntry v (s.rd (convStat v) ADC.CONV_STAT_ENTRY) % 256 = ch →
    s.rd (convStat v) ADC.CONV_STAT_ENTRY + 1 < s.convLen v → Does (.conversion v raw) s
      ((((s.calSample ch raw.toNat).sampleCode ch raw.toNat).2.accumulate ch ((s.calSample ch raw.toNat).sampleCode ch raw.toNat).1).nextEntry v
        (s.rd (convStat v) ADC.CONV_STAT_ENTRY + 1))) ∧
  (∀ (v : Fin 2) (raw : BitVec 18) (s : State), s.convOn v = false ∨ s.urgOf v ≠ none ∨ s.quarter < (s.convAt v).1 →
    Does (.conversion v raw) s s) ∧
  (∀ (ch raw : Nat) (s : State), (s.sampleCode ch raw).1 = (correct (s.chCal ch) raw).1) ∧
  (∀ (v k : Nat) (s : State), v < 2 → 0 < k → (s.nextEntry v k).convAt v = ((s.convAt v).1 + s.entryT v k, (s.convAt v).2)) ∧
  (∀ (v : Nat) (s : State), v < 2 → ((s.nextEntry v 0).convAt v).2 =
    max (s.convAt v).1 ((s.convAt v).2 + 4 * s.rd (convCfg v) ADC.CONV_CFG_PER)) ∧
  (∀ raw : BitVec 18, (correct 0x8000 raw.toNat).1 = min 16383 ((raw.toNat + 8) / 16)) ∧
  (∀ (ch : Fin 192) (code : Nat) (s : State), s.accSync ch = s → (s.acc ch).cnt < 0xFFFFFE →
      ((s.accumulate ch code).acc ch).sum = (s.acc ch).sum + code ∧
    ((s.accumulate ch code).acc ch).cnt = (s.acc ch).cnt + 1 ∧ ((s.accumulate ch code).acc ch).mn = min (s.acc ch).mn code ∧
    ((s.accumulate ch code).acc ch).mx = max (s.acc ch).mx code) ∧
  (∀ (ch : Fin 192) (code : Nat) (s : State), s.accSync ch = s → 0xFFFFFF ≤ (s.acc ch).cnt → ((s.accumulate ch code).acc ch).sum = (s.acc ch).sum ∧
    ((s.accumulate ch code).acc ch).cnt = (s.acc ch).cnt) ∧
  (∀ (ch : Fin 192) (s : State), s.chWin ch ≠ 0 → s.tick % (1000 * 2 ^ (s.chWin ch - 1)) = 0 → (s.acc ch).bnd ≠ s.tick + 1 →
    s.up = true → Does (.accWindowBoundary ch) s
      (((s.setResult ch (s.acc ch).sum (s.acc ch).cnt).modAcc ch (fun h => { h with sum := 0, cnt := 0, bnd := s.tick + 1 })).selfCheck
        ch (s.acc ch).sum (s.acc ch).cnt)) ∧
  (∀ (ch : Fin 192) (s : State), s.chWin ch = 0 ∨ s.tick % (1000 * 2 ^ (s.chWin ch - 1)) ≠ 0 ∨ (s.acc ch).bnd = s.tick + 1 →
    Does (.accWindowBoundary ch) s s) ∧
  (∀ (ch : Fin 192) (sum cnt : Nat) (s : State), sum < 2 ^ 40 → cnt < 2 ^ 24 → (s.setResult ch sum cnt).resSum ch = sum ∧
    (s.setResult ch sum cnt).resCnt ch = cnt)

/-- R278, R281, R285, R286: the reference, urgent conversions, and the commands that clear accumulators and trackers. -/
def Obligations.ReferenceAndClearRows : Prop :=
  (∀ (c : Fin 8) (s : State), s.AcceptsField c adcB ADC.CTRL_REF_EN 1 → s.bit adcB ADC.CTRL_REF_EN = false → s.supOut.testBit 3 = false →
    Does (.refEnSet c) s (((s.wr adcB ADC.CTRL_REF_EN 1).wr adcB ADC.REFSTAT_LEFT 200).mark .ref)) ∧
  (∀ (c : Fin 8) (s : State), s.AcceptsField c adcB ADC.CTRL_REF_EN 0 → s.adc.urg0 = none → s.adc.urg1 = none →
    Effect (.refEnClear c) s fun u => u.bit adcB ADC.CTRL_REF_EN = false ∧ u.bit adcB ADC.STATUS_REF_READY = false ∧
      u.rd adcB ADC.REFSTAT_LEFT = 0 ∧ u.convOn 0 = false ∧ u.convOn 1 = false ∧ u.raiseQ = s.raiseQ) ∧
  (∀ s : State, s.bit adcB ADC.CTRL_REF_EN = true → s.bit adcB ADC.STATUS_REF_READY = false → s.adc.auto = false →
    s.ran .ref 2000 = true → Effect .refReady s fun u => u.bit adcB ADC.STATUS_REF_READY = true ∧ u.rd adcB ADC.REFSTAT_LEFT = 0 ∧
      RegsOnly (fun k => k = adcB + 8 ∨ k = adcB + 0x44) s u) ∧
  (∀ s : State, s.ran .ref 2000 = false → Does .refReady s s) ∧
  (∀ (c : Fin 8) (k : Fin 2) (v : Word) (s : State), s.Accepts c (convCfg k) v → getBits v 0 1 = 1 →
    getBits v 8 8 = s.rd (convCfg k) ADC.CONV_CFG_LEN → s.bit adcB ADC.STATUS_REF_READY = false → Effect (.convEnWrite c k v) s fun u =>
      u.convOn k = s.convOn k ∧ u.bit adcB (HDR.ERR.at 0) = true ∧
      Told (fun j => j = convCfg k ∨ j = adcB + 0xC ∨ j = adcB + 0x18) s u) ∧
  (∀ (c : Fin 8) (k : Fin 2) (v : Word) (s : State), s.Accepts c (convCfg k) v → getBits v 0 1 = 1 →
    s.bit adcB ADC.STATUS_REF_READY = true → s.convOn k = false → Effect (.convEnWrite c k v) s fun u =>
      u.convOn k = true ∧ u.rd (convCfg k) ADC.CONV_CFG_LEN = getBits v 8 8 ∧ u.rd (convCfg k) ADC.CONV_CFG_PER = getBits v 16 16 ∧
      u.rd (convStat k) ADC.CONV_STAT_ENTRY = 0 ∧ u.convAt k = (4 * s.tick + s.entryT k 0, 4 * s.tick) ∧
      u = { s with regs := u.regs, adc := u.adc } ∧ (∀ j, j ≠ convCfg k → j ≠ convStat k → j ≠ adcB + 8 → u.getW j = s.getW j)) ∧
  (∀ (c : Fin 8) (v : Word) (s : State), s.Accepts c (adcB + 0x58) v → s.grantOf 7 = none → Effect (.adcUrg c v) s fun u =>
    u.bit adcB (HDR.ERR.at 3) = true ∧ u.adc = s.adc ∧ Told (fun j => j = adcB + 0xC ∨ j = adcB + 0x18) s u) ∧
  (∀ (c : Fin 8) (v : Word) (g : Grant) (s : State), s.Accepts c (adcB + 0x58) v → s.grantOf 7 = some g → g.who = c → g.org = .direct →
    s.bit adcB ADC.STATUS_REF_READY = true → s.urgOf (getBits v 8 1) = none → Effect (.adcUrg c v) s fun u =>
      u.rd adcB ADC.URG_RES_STAT = 2 ∧ u.urgOf (getBits v 8 1) = some (getBits v 0 8, getBits v 9 1 == 1, 4 * s.tick + 2 + getBits v 10 3) ∧
      (∀ j, j ≠ adcB + 0x5C → u.getW j = s.getW j)) ∧
  (∀ (v : Fin 2) (raw : BitVec 18) (ch q : Nat) (s : State), s.urgOf v = some (ch, false, q) → q ≤ s.quarter → s.convOn v = false →
    Does (.urgDone v raw) s
      ((((((s.setUrg v none).sampleCode ch raw.toNat).2.wr adcB ADC.URG_RES_CODE ((s.setUrg v none).sampleCode ch raw.toNat).1).wr
        adcB ADC.URG_RES_CH ch).wr adcB ADC.URG_RES_STAT 1).irq adcB 16 108)) ∧
  (∀ (v : Fin 2) (raw : BitVec 18) (ch q : Nat) (b : Bool) (s : State), s.urgOf v = some (ch, b, q) → s.quarter < q →
    Does (.urgDone v raw) s s) ∧
  (∀ (c : Fin 8) (i : Fin 2) (v : Word) (s : State), s.Accepts c (accB i + 0x40) v → getBits v 8 1 = 0 → getBits v 0 7 < 96 →
    s.accSync (96 * i + getBits v 0 7) = s → (s.acc (96 * i + getBits v 0 7)).upd ≠ s.tick + 1 → Effect (.aclr c i v) s fun u =>
      u.acc (96 * i + getBits v 0 7) = { s.acc (96 * i + getBits v 0 7) with sum := 0, cnt := 0 } ∧
      (∀ ch, ch ≠ 96 * i + getBits v 0 7 → u.acc ch = s.acc ch) ∧ u.raiseQ = s.raiseQ) ∧
  (∀ (c : Fin 8) (i : Fin 2) (v : Word) (s : State), s.Accepts c (accB i + 0x44) v → getBits v 8 1 = 0 → getBits v 0 7 < 96 →
    (s.acc (96 * i + getBits v 0 7)).upd ≠ s.tick + 1 → Effect (.tclr c i v) s fun u =>
      u.acc (96 * i + getBits v 0 7) = { s.acc (96 * i + getBits v 0 7) with mn := 0x3FFF, mx := 0, empty := true } ∧
      u = { s with accs := u.accs })

/-- R287: the steps of ADC_CAL. A failed step discards the points; only the second point yields GAIN and OFFSET. -/
def Obligations.AdcCalibrationRows : Prop :=
  (∀ (t : BitVec 8) (k : Cmd) (s : State), s.Ready t 0x0B k → calStep k = 0 → s.calRefusal k false true = none →
    Does (.adcCalZero t) s ((((s.runK k).mark .cal).wr adcB ADC.STATUS_CAL_HELD 0).modCal (fun _ => { CalHid.reset with
      ch := calChan k, act := true, ns := getBits k.a2 0 4, e := getBits k.a1 0 14 }))) ∧
  (∀ (t : BitVec 8) (k : Cmd) (s : State), s.Ready t 0x0B k → calStep k = 0 → s.mode ≠ mSERVICE →
    Does (.adcCalZero t) s (s.calFail k 1)) ∧
  (∀ (t : BitVec 8) (k : Cmd) (z : Nat × Nat × Nat) (s : State), s.Ready t 0x0B k → calStep k = 1 →
    s.adc.cal.zero = some z → s.adc.cal.ch = calChan k → s.calRefusal k false true = none → Does (.adcCalFull t) s
      (((s.runK k).mark .cal).modCal (fun h => { h with
        act := true, full := true, pair := none, ns := getBits k.a2 0 4, e := getBits k.a1 0 14, sum := 0, n := 0 }))) ∧
  (∀ (t : BitVec 8) (k : Cmd) (s : State), s.Ready t 0x0B k → calStep k = 1 → s.mode = mSERVICE → calChan k < 192 → k.a1.toNat < 0x4000 →
    s.adc.cal.zero = none → Does (.adcCalFull t) s (s.calFail k 3)) ∧
  (∀ (k : Cmd) (s : State), s.runningCmd 0x0B = some k → s.cmdStopped k = false → s.adc.cal.act = true → 2 ^ s.adc.cal.ns ≤ s.adc.cal.n →
      s.adc.cal.full = false →
    Does .adcCalPointDone s (((s.modCal (fun g => { g with act := false, zero := some (s.adc.cal.sum, s.adc.cal.ns, s.adc.cal.e) })).wr adcB
      ADC.STATUS_CAL_HELD 1).doneK k 0)) ∧
  (∀ (k : Cmd) (p : Nat × Int) (s : State), s.runningCmd 0x0B = some k → s.cmdStopped k = false → s.adc.cal.act = true →
      2 ^ s.adc.cal.ns ≤ s.adc.cal.n →
    s.adc.cal.full = true → calPair (s.adc.cal.zero.getD (0, 0, 0)) (s.adc.cal.sum, s.adc.cal.ns, s.adc.cal.e) = some p →
    Does .adcCalPointDone s ((s.modCal (fun g => { g with act := false, pair := some p })).doneK k (p.1 + codeOf 16 p.2 * 0x10000))) ∧
  (∀ (k : Cmd) (s : State), s.runningCmd 0x0B = some k → s.cmdStopped k = false → s.ran .cal 1000000 = true →
    Does .adcCalTimeout s (s.calFail k 7)) ∧
  (∀ s : State, s.ran .cal 1000000 = false → Does .adcCalTimeout s s) ∧
  (∀ (t : BitVec 8) (k : Cmd) (p : Nat × Int) (s : State), s.Ready t 0x0B k → calStep k = 2 →
    s.adc.cal.pair = some p → s.adc.cal.ch = calChan k → s.calRefusal k false false = none → s.supOut.testBit 4 = false →
    Effect (.adcCalCommit t) s fun u =>
      u = ((((s.setChCal (calChan k) (BitVec.ofNat 32 (p.1 + codeOf 16 p.2 * 0x10000))).setChCfg (calChan k) (s.chCfg (calChan k) ||| 0x100)).nvmPut
        (calAt (calChan k)) (leBytes 4 (BitVec.ofNat 32 (p.1 + codeOf 16 p.2 * 0x10000)).toNat ++ leBytes 4 1)).calDrop).doneK k 0) ∧
  (∀ (t : BitVec 8) (k : Cmd) (s : State), s.Ready t 0x0B k → calStep k = 3 → s.mode = mSERVICE → calChan k < 192 →
    s.bit adcB ADC.STATUS_REF_READY = true → k.a0.toNat / 0x400 = 0 → k.a1.toNat / 0x4000 = 0 → k.a2.toNat / 16 = 0 →
      4 ≤ getBits k.a2 0 4 → getBits k.a2 0 4 ≤ 12 → Does (.adcCalDiscard t) s (s.calDrop.doneK k 0)) ∧
  (∀ zero full : Nat × Nat × Nat, full.2.2 < zero.2.2 + 4096 → calPair zero full = none)

/-- R292, R296, R298 to R300: the thermal model's rows. While FE3 is stopped an update is only counted (R305). -/
def Obligations.ThermalRows : Prop :=
  (∀ s : State, s.bit thmB THM.STATUS_RUN = true → s.up = true → s.stopped 3 = false → s.tick % 1000 = 0 → s.thm.done ≠ s.tick + 1 →
    Does .thermalUpdate s (((s.modThm (fun h => { h with done := s.tick + 1 })).each (List.range 192) fun c t => t.accSync c).thermUpdate true)) ∧
  (∀ s : State, s.bit thmB THM.STATUS_RUN = true → s.up = true → s.stopped 3 = true → s.tick % 1000 = 0 → s.thm.done ≠ s.tick + 1 →
    Does .thermalUpdate s (s.modThm (fun h => { h with missed := h.missed + 1, done := s.tick + 1 }))) ∧
  (∀ s : State, s.bit thmB THM.STATUS_RUN = false ∨ s.tick % 1000 ≠ 0 ∨ s.thm.done = s.tick + 1 → Does .thermalUpdate s s) ∧
  (∀ (k : Fin 24) (s : State), s.stopped 3 = false → 1 ≤ s.level k → s.level k ≤ 5 → 1000 ≤ (s.nodeH k).low → s.floorLevel k < s.level k →
    Does (.levelFall k) s (((s.wr (node k) THM.NODE_T_LEVEL (s.level k - 1)).modNode k (fun h => { h with low := 0 })).post 107
      (some 0) none).reactions) ∧
  (∀ (k : Fin 24) (s : State), s.stopped 3 = false → s.level k = 6 ∨ (s.nodeH k).low < 1000 → Does (.levelFall k) s s) ∧
  (∀ (k : Fin 24) (s : State), s.stopped 3 = false → s.bit (node k) THM.NODE_T_RATE = true → 100 ≤ (s.nodeH k).slow →
    Effect (.rateClear k) s fun u => u.bit (node k) THM.NODE_T_RATE = false ∧ RegsOnly (fun j => j = node k + THM.NODE_T_RATE.off) s u) ∧
  (∀ (k : Fin 24) (s : State), s.stopped 3 = false → (s.nodeH k).slow < 100 → Does (.rateClear k) s s) ∧
  (∀ s : State, s.stopped 3 = false → s.bit thmB THM.DIEMON_OVER = true → s.thm.dShed = false →
    s.ran .dieOver (1000000 * orIf0 (s.rd thmB THM.DIE_SHED_T) 1) = true → Does .dieShed s
      (((s.modThm (fun h => { h with dShed := true })).rise 0 5).reactions)) ∧
  (∀ s : State, s.stopped 3 = false → s.ran .dieOver (1000000 * orIf0 (s.rd thmB THM.DIE_SHED_T) 1) = false → Does .dieShed s s) ∧
  (∀ (c : Fin 8) (v : Word) (s : State), s.Accepts c (thmB + 0x39C) v → getBits v 0 5 < 24 → Effect (.hostaWrite c v) s fun u =>
    (u.nodeH (getBits v 0 5)).hostT = signOf 16 (getBits v 16 16) * 1024 ∧ (u.nodeH (getBits v 0 5)).hostEnd = s.tick + 1000000 ∧
    u = { s with nodes := u.nodes }) ∧
  (∀ (c : Fin 8) (v : Word) (s : State), s.Accepts c (thmB + 0x39C) v → 24 ≤ getBits v 0 5 → Does (.hostaWrite c v) s s) ∧
  (∀ (s : State) (k l : Nat), l ≤ s.level k → s.rise k l = s)

/-- R314, R315, R317: an accepted frame. What it asks for takes effect in ascending address order, its sequence number is
kept, and the next status word reports OK. -/
def Obligations.AcceptedFrames : Prop :=
  (∀ (c : Fin 8) (f : Frame) (s : State), s.answers c = true → f.of 2 = true → f.low = [] → f.rstKey = false →
    s.writeStatus c f = (fsOK, false) → Effect (.write c f) s fun u => u.rd (hifC c) HIF.CTX_SEQ_LAST = f.seq ∧
      (u.ctx c).lastSt = fsOK ∧ (u.ctx c).lastSeq = f.seqSeen ∧ u.nvm = (s.writeRegs c f f.writes).nvm ∧
      ∀ k, k / 0x400 ≠ 0x03 → intKey k = false → u.getW k = (s.writeRegs c f f.writes).getW k) ∧
  (∀ (c : Fin 8) (f : Frame) (s : State), s.answers c = true → f.of 3 = true → f.low = [] → f.rstKey = false →
    s.writeStatus c f = (fsOK, false) → Effect (.writeMasked c f) s fun u => u.rd (hifC c) HIF.CTX_SEQ_LAST = f.seq ∧
      (u.ctx c).lastSt = fsOK ∧ (u.ctx c).lastSeq = f.seqSeen ∧ u.nvm = (s.writeRegs c f f.writes).nvm ∧
      ∀ k, k / 0x400 ≠ 0x03 → intKey k = false → u.getW k = (s.writeRegs c f f.writes).getW k) ∧
  (∀ (c : Fin 8) (f : Frame) (s : State), s.answers c = true → f.of 1 = true → f.low = [] → f.form = fsOK → f.late = false →
    s.quar c = false → s.seqCheck c f.seq = fsOK → s.readCheck f.addr f.len = (fsOK, false) → Effect (.read c f) s fun u =>
      u.rd (hifC c) HIF.CTX_SEQ_LAST = f.seq ∧ (u.ctx c).lastSt = fsOK ∧ (u.ctx c).replay = (s.readRegs c f f.len 0).1 ∧
      (u.ctx c).data = ((s.statusWord c :: readMiso fsOK f.seq (s.readRegs c f f.len 0).1) ++ List.replicate f.words.length 0).take f.words.length) ∧
  (∀ (c : Fin 8) (f : Frame) (s : State), s.answers c = true → f.of 4 = true → f.low = [] → f.form = fsOK → s.quar c = false →
    s.seqCheck c f.seq = fsOK → s.mode ≠ mWAKING → s.mode ≠ mLOCKOUT → s.ringOn c = true → s.ringsServed = true →
    f.addr % 64 < s.sqSize c → f.addr % 64 = (s.rd (cqeC c) CQE.CTX_SQT_TAIL + f.len / 4) % s.sqSize c →
    s.rd (cqeC c) CQE.CTX_SQT_WAIT + f.len / 4 ≤ s.sqSize c → Effect (.doorbell c f) s fun u =>
      (u.ctx c).sq = (s.ctx c).sq ++ entriesOf f.payload ∧ u.rd (cqeC c) CQE.CTX_SQT_TAIL = f.addr % 64 ∧
      u.rd (cqeC c) CQE.CTX_SQT_WAIT = s.rd (cqeC c) CQE.CTX_SQT_WAIT + (entriesOf f.payload).length ∧
      u.rd (hifC c) HIF.CTX_SEQ_LAST = f.seq ∧ (u.ctx c).lastSt = fsOK ∧ u.cmds = s.cmds) ∧
  (∀ (c : Fin 8) (f : Frame) (s : State), s.answers c = true → f.of 5 = true → f.low = [] → f.form = fsOK → Effect (.status c f) s fun u =>
    (u.ctx c).lastSt = fsOK ∧ (u.ctx c).data = (s.statusWord c :: List.replicate f.words.length 0).take f.words.length ∧
    u = { s with ctxs := u.ctxs })

/-- R314, R322, R323: frames that take no effect. A quarantined context's frame and a repeated write change nothing but what
the context's next status word reports; a frame whose CRC is wrong is recorded as a violation. -/
def Obligations.FramesWithoutEffect : Prop :=
  (∀ (c : Fin 8) (f : Frame) (s : State) (op : Nat) (i : Instr), s.answers c = true → f.of op = true → f.low = [] → s.quar c = true →
    f.rstKey = false → (op = 1 ∧ i = .read c f ∨ op = 2 ∧ i = .write c f ∨ op = 3 ∧ i = .writeMasked c f ∨ op = 4 ∧ i = .doorbell c f) →
    Effect i s fun u => (u.ctx c).lastSt = fsQUAR ∧ u = { s with ctxs := u.ctxs }) ∧
  (∀ (c : Fin 8) (f : Frame) (s : State) (op : Nat) (i : Instr), s.answers c = true → f.of op = true → f.low = [] → s.quar c = false →
    f.form = fsOK → f.toRst = false → s.seqCheck c f.seq = fsREPEAT →
    (op = 1 ∧ i = .read c f ∨ op = 2 ∧ i = .write c f ∨ op = 3 ∧ i = .writeMasked c f ∨ op = 4 ∧ i = .doorbell c f) →
    Effect i s fun u => (u.ctx c).lastSt = fsREPEAT ∧ u = { s with ctxs := u.ctxs }) ∧
  (∀ (c : Fin 8) (f : Frame) (s : State), s.answers c = true → f.of 2 = true → f.low = [] → s.quar c = false → f.form = fsCRC →
    Effect (.write c f) s fun u => (u.ctx c).lastSt = fsCRC ∧ u.rd (hifC c) HIF.CTX_LAST_CODE = fsCRC ∧
      u.rd (hifC c) HIF.CTX_LAST_ADDR = f.addr ∧ (u.ctx c).vwin = true ∧ u.nvm = s.nvm ∧
      ∀ k, k / 0x400 ≠ 0x03 → k % 0x10000 / 0x400 ≠ 0x05 → intKey k = false → u.getW k = s.getW k) ∧
  (∀ (c : Fin 8) (s : State), (s.ctx c).vwin = true → s.ran (.vwin c.val) (1000 * orIf0 (s.rd hifB HIF.CFG_VWIN) 1) = true →
    Effect (.violWindowEnd c) s fun u => (u.ctx c).vwin = false ∧
      u.rd (hifC c) HIF.CTX_VIOL_WINCNT = 0 ∧ (∀ k, k ≠ hifC c + 4 → u.getW k = s.getW k)) ∧
  (∀ (c : Fin 8) (s : State), s.ran (.vwin c.val) (1000 * orIf0 (s.rd hifB HIF.CFG_VWIN) 1) = false → Does (.violWindowEnd c) s s) ∧
  (∀ (c : Fin 8) (s : State), s.answers c = true → s.modeTakes c 0x0C44 0xC7C7 = true → Effect (.ctxReset c) s fun u =>
    u.ctx c = CtxHid.reset ∧ u.quar c = false ∧ u.bit hifB (HIF.STATUS_UNSYNC.at (8 + c)) = true ∧
    (∀ k ∈ u.cmds, k.ctx = c → k.live = false) ∧ u.nvm = s.nvm)

/-- R328 to R333: the rings' rows. A completion is two words at the tail, and a fetched command is refused by the first rule
that it breaks. -/
def Obligations.RingRows : Prop :=
  (∀ (c : Fin 8) (hits : List (Fin 4 × EccHit)) (s : State), s.fetchNext = some c → Does (.commandFetch hits) s (s.fetch c hits)) ∧
  (∀ (hits : List (Fin 4 × EccHit)) (s : State), s.fetchNext = none → Does (.commandFetch hits) s s) ∧
  (∀ (k : Cmd) (flags : Nat) (s : State), k.op = 0 ∨ 0x17 < k.op →
    s.letIn k flags false = (s.err cqeB 0 130 none none).complete k stBADOP 0) ∧
  (∀ (k : Cmd) (flags : Nat) (s : State), 1 ≤ k.op → k.op ≤ 0x17 → 4 ≤ flags →
    s.letIn k flags false = (s.err cqeB 0 130 none none).complete k stBADFLAGS 0) ∧
  (∀ (k : Cmd) (flags : Nat) (s : State), 1 ≤ k.op → k.op ≤ 0x17 → flags < 4 → (s.getW (cqeC k.ctx + 4)).getLsbD (k.op - 1) = false →
    s.letIn k flags false = (s.err cqeB 1 130 none none).complete k stDENIED 0) ∧
  (∀ (k : Cmd) (flags : Nat) (s : State), 1 ≤ k.op → k.op ≤ 0x17 → flags < 4 → (s.getW (cqeC k.ctx + 4)).getLsbD (k.op - 1) = true →
    opServed k.op s.mode = false → s.letIn k flags false = s.complete k stMODE 1) ∧
  (∀ (k : Cmd) (flags : Nat) (s : State), 1 ≤ k.op → k.op ≤ 0x17 → flags < 4 → (s.getW (cqeC k.ctx + 4)).getLsbD (k.op - 1) = true →
    opServed k.op s.mode = true → s.letIn k flags false = s.askNext k) ∧
  (∀ (c : Fin 8) (cookie st tag res : Nat) (quiet : Bool) (s : State),
    (s.writeCpl c cookie st tag quiet res).getW (cqSlot c (s.rd (cqeC c) CQE.CTX_CQT_TAIL)) =
      BitVec.ofNat 32 (cookie + st * 0x10000 + tag * 0x1000000) ∧
    (s.writeCpl c cookie st tag quiet res).getW (cqSlot c (s.rd (cqeC c) CQE.CTX_CQT_TAIL) + 4) = BitVec.ofNat 32 res ∧
    (s.writeCpl c cookie st tag quiet res).rd (cqeC c) CQE.CTX_CQT_TAIL = (s.rd (cqeC c) CQE.CTX_CQT_TAIL + 1) % s.cqSize c) ∧
  (∀ (c : Fin 8) (v : Word) (s : State), s.Accepts c 0x1050 v → s.cqhOk c (getBits v 0 6) = true → Effect (.selfCqh c v) s fun u =>
    u.rd (cqeC c) CQE.CTX_CQH_HEAD = getBits v 0 6 ∧ (u.ctx c).cq.length ≤ (s.ctx c).cq.length ∧ u.cmds = s.cmds ∧ u.nvm = s.nvm) ∧
  (∀ (c : Fin 8) (v : Word) (s : State), s.Accepts c 0x1050 v → s.cqhOk c (getBits v 0 6) = false → Does (.selfCqh c v) s s) ∧
  (∀ (c : Fin 8) (s : State), s.ringLate c = true → (s.ctx c).irqTmo = false →
    Does (.ringIrqTimeout c) s ((s.modCtx c (fun h => { h with irqTmo := true })).edge (136 + c.val))) ∧
  (∀ (c : Fin 8) (e : Cpl) (s : State), (s.ctx c).cq.find? (fun e => !e.quiet) = some e →
    (s.ringLate c = true ↔ s.rd (cqeC c) CQE.CTX_IRQ_TMO ≠ 0 ∧ e.born + s.rd (cqeC c) CQE.CTX_IRQ_TMO ≤ s.tick)) ∧
  (∀ (c : Fin 8) (s : State), s.ringLate c = false → Does (.ringIrqTimeout c) s s)

/-- R341, R342, R346 to R350: the arbiter's rows. A free resource goes to the request that the rules pick, with its age and
progress. -/
def Obligations.ArbiterRows : Prop :=
  (∀ s : State, s.up = true → s.tick % 50 = 0 → Effect .stallSlotBoundary s fun u => u.rd arbB ARB.STATUS_SLOT = s.tick / 50 % 64 ∧
    u.slotW = s.getW (stall (s.tick / 50 % 64)) ∧ ∀ k, k ≠ arbB + 8 → u.getW k = s.getW k) ∧
  (∀ s : State, s.tick % 50 ≠ 0 → Does .stallSlotBoundary s s) ∧
  (∀ (g : Fin 6) (s : State), s.up = true → s.doomed = [] → Does (.arbGrant g [] []) s (s.each (groupRes g) fun _ t => t.arbServe g)) ∧
  (∀ (g r : Nat) (q : Req) (s : State), (groupRes g).find? (fun r => (s.grantOf r).isNone) = some r → s.pickReq g = some q →
    s.arbServe g = s.give r q) ∧
  (∀ (g : Nat) (s : State), s.pickReq g = none → s.arbServe g = s) ∧
  (∀ (r : Fin 9) (q : Req) (s : State), q.org = .engine → (s.give r q).grantOf r = some ⟨q.who, q.org, q.age, q.prog, s.tick⟩) ∧
  (∀ (r : Fin 9) (done : Nat) (s : State), s.up = true → s.mustRevoke r = false → Does (.revocation r done) s s) ∧
  (∀ (r : Fin 9) (done : Nat) (g : Grant) (s : State), s.up = true → s.mustRevoke r = true → s.atBoundary r = true → 4 ≤ r.val →
    s.grantOf r = some g → g.org = .engine → Does (.revocation r done) s ((s.revoke r done true).arbServe (resGroup r))) ∧
  (∀ (c : Fin 8) (r : BitVec 4) (s : State), s.Accepts c (arbB + 0x4C) (BitVec.ofNat 32 (1 + r.toNat * 16)) → r = 7 ∨ r = 8 →
    queueFits (s.queueOf (resGroup r.toNat)) c = true → Does (.directRequest c r) s
      (s.request (resGroup r.toNat) c .direct s.tick 0)) ∧
  (∀ (c : Fin 8) (r : BitVec 4) (s : State), s.Accepts c (arbB + 0x4C) (BitVec.ofNat 32 (1 + r.toNat * 16)) → r ≠ 7 → r ≠ 8 →
    Does (.directRequest c r) s (s.err arbB 2 131 none none)) ∧
  (∀ (c : Fin 8) (r : BitVec 4) (s : State), s.Accepts c (arbB + 0x4C) (BitVec.ofNat 32 (2 + r.toNat * 16)) → r = 7 ∨ r = 8 →
    s.directHolds c r.toNat = true → Effect (.directRelease c r) s fun u => u.grantOf r.toNat = none ∧
      (∀ q, q < 9 → q ≠ r.toNat → u.grantOf q = s.grantOf q) ∧ u.raiseQ = s.raiseQ) ∧
  (∀ (c : Fin 8) (r : BitVec 4) (s : State), s.Accepts c (arbB + 0x4C) (BitVec.ofNat 32 (2 + r.toNat * 16)) →
    s.directHolds c r.toNat = false → Does (.directRelease c r) s s) ∧
  (∀ (r : Fin 9) (g : Grant) (s : State), s.grantOf r = some g → g.org = .direct → s.rd arbB ARB.CFG_HOLD_MAX ≠ 0 →
    s.atBoundary r = true → g.since + 1000 * s.rd arbB ARB.CFG_HOLD_MAX ≤ s.tick →
    Does (.directHoldExpiry r) s ((s.err arbB 1 131 (some 0) none).revoke r g.prog true)) ∧
  (∀ (r : Fin 9) (g : Grant) (s : State), s.grantOf r = some g → s.tick < g.since + 1000 * s.rd arbB ARB.CFG_HOLD_MAX →
    Does (.directHoldExpiry r) s s)

/-- R353, R357 to R362: the interrupt controller's rows. A claim answers the most urgent deliverable event with its priority,
and makes it active. -/
def Obligations.InterruptRows : Prop :=
  (∀ (c : Fin 8) (e : Nat) (s : State), s.mayRead c 0x1848 = true → s.claimable c = some e → s.mode ≠ mLOCKOUT →
    Effect (.claim c) s fun u => (u.ctx c).data = [BitVec.ofNat 32 (e + s.prio c e * 0x10000)] ∧ u.intBit c 0x80 e = false ∧
      u.intBit c 0xA0 e = true ∧ (∀ k, intKey k = false → u.getW k = s.getW k)) ∧
  (∀ (c : Fin 8) (s : State), s.mayRead c 0x1848 = true → s.claimable c = none → Effect (.claim c) s fun u =>
    (u.ctx c).data = [0x3FF] ∧ u = { s with ctxs := u.ctxs }) ∧
  (∀ (c : Fin 8) (v : Word) (s : State), s.Accepts c 0x184C v → getBits v 0 10 < 160 → s.intBit c 0xA0 (getBits v 0 10) = true →
    Effect (.claimDone c v) s fun u => u.intBit c 0xA0 (getBits v 0 10) = false ∧ (u.ctx c).gap = true ∧
      (∀ k, intKey k = false → u.getW k = s.getW k) ∧ u.raiseQ = s.raiseQ) ∧
  (∀ (c : Fin 8) (v : Word) (s : State), s.Accepts c 0x184C v → getBits v 0 10 < 160 → s.intBit c 0xA0 (getBits v 0 10) = false →
    Effect (.claimDone c v) s fun u => u.bit intB (HDR.ERR.at 0) = true ∧ (∀ e, e < 160 → u.intBit c 0xA0 e = s.intBit c 0xA0 e) ∧
      u.raiseQ = s.raiseQ) ∧
  (∀ (c : Fin 8) (v : Word) (s : State), s.Accepts c 0x1854 v → getBits v 0 10 < 144 → Effect (.setpend c v) s fun u =>
    u.intBit c 0x80 (getBits v 0 10) = true ∧ (∀ k, intKey k = false → u.getW k = s.getW k) ∧ u.raiseQ = s.raiseQ) ∧
  (∀ (c : Fin 8) (v : Word) (s : State), s.Accepts c 0x1854 v → 144 ≤ getBits v 0 10 → Effect (.setpend c v) s fun u =>
    u.bit intB (HDR.ERR.at 1) = true ∧ (∀ e, e < 160 → u.intBit c 0x80 e = s.intBit c 0x80 e)) ∧
  (∀ (c : Fin 8) (s : State), Effect (.hirqGapEnd c) s fun u => (u.ctx c).gap = false ∧ (∀ k, intKey k = false → u.getW k = s.getW k)) ∧
  (∀ (e : Fin 144) (many : Bool) (s : State), s.up = true → Does (.edgeLatchApply [(⟨e.val, by omega⟩, many)]) s
    (allCtx.foldl (fun u c => u.edgeIn e.val many c) s)) ∧
  (∀ (c : Fin 8) (e : Nat) (many : Bool) (s : State), e < 144 → s.intBit c 0x60 e = true →
    (s.edgeIn e many c).intBit c 0x80 e = true) ∧
  (∀ (c : Fin 8) (p : BitVec 6) (v : Word) (s : State), s.Accepts c (pg p.toNat + 0x1C) v → Effect (.irqEnWrite c p v) s fun u =>
    u.getW (pg p.toNat + 0x1C) = v &&& rwBits (pg p.toNat + 0x1C) ∧
    ∀ k, k ≠ pg p.toNat + 0x1C → intKey k = false → u.getW k = s.getW k)

/-- R367 to R374, R384: raises and acknowledgements. A raise of class C0 latches its event and leaves the mode and the
acknowledgement bits alone. R371, R372: a raise of class C1 that no unacknowledged C1 escalates sets its UNACK bit, holds no
group and leaves the mode. -/
def Obligations.RaiseAndAcknowledge : Prop :=
  (∀ (ev : Fin 136) (cls : Option (Fin 5)) (detail : Word) (s : State), Does (.raise ev cls detail) s
    (s.post ev (cls.map (·.val)) (some detail.toNat))) ∧
  (∀ (ev : Fin 160) (d : Option Nat) (f lock : Bool) (s : State), (State.raise1 lock ⟨ev, 0, d, f⟩ s).lat ev = true ∧
    (State.raise1 lock ⟨ev, 0, d, f⟩ s).unack ev = s.unack ev ∧ (State.raise1 lock ⟨ev, 0, d, f⟩ s).mode = s.mode ∧
    (State.raise1 lock ⟨ev, 0, d, f⟩ s).holds = s.holds ∧
    (∀ e, e < 160 → e ≠ ev → (State.raise1 lock ⟨ev, 0, d, f⟩ s).lat e = s.lat e)) ∧
  (∀ (c : Fin 8) (id : BitVec 8) (s : State), s.Accepts c (fltB + 0x44) (BitVec.ofNat 32 id.toNat) → id.toNat < 160 →
    s.lat id.toNat = true → Effect (.ackId c id) s fun u => u.lat id.toNat = false ∧ u.unack id.toNat = 0 ∧ u.rpt id.toNat = 0 ∧
      (∀ h ∈ u.holds, h.1 ≠ id.toNat) ∧ (∀ e, e < 160 → e ≠ id.toNat → u.lat e = s.lat e) ∧ u.raiseQ = s.raiseQ) ∧
  (∀ (c : Fin 8) (id : BitVec 8) (s : State), s.Accepts c (fltB + 0x44) (BitVec.ofNat 32 id.toNat) →
    160 ≤ id.toNat ∨ s.lat id.toNat = false → Effect (.ackId c id) s fun u => u.bit fltB (HDR.ERR.at 0) = true ∧
      u.raiseQ = s.raiseQ ∧ RegsOnly (fun k => k = fltB + 0xC ∨ k = fltB + 0x18) s { u with irqEv := s.irqEv }) ∧
  (∀ (c : Fin 8) (s : State), s.Accepts c (fltB + 0x44) 0x100 → Effect (.ackAll c) s fun u => (∀ e, e < 160 → u.lat e = false) ∧
    (∀ h ∈ u.holds, h ∈ s.holds ∧ s.lat h.1 = false ∨ 160 ≤ h.1) ∧ u.raiseQ = s.raiseQ) ∧
  (∀ (c : Fin 8) (k : Fin 5) (v : Word) (s : State), s.Accepts c (fltB + 0x60 + 4 * k) v → Effect (.latAck c k v) s fun u =>
    (∀ i, i < 32 → u.lat (32 * k + i) = (s.lat (32 * k + i) && !v.getLsbD i)) ∧ u.raiseQ = s.raiseQ) ∧
  (∀ (ev : Fin 160) (d : Option Nat) (f lock : Bool) (s : State), s.anyUnack 1 = false →
    (State.raise1 lock ⟨ev, 1, d, f⟩ s).lat ev = true ∧ (State.raise1 lock ⟨ev, 1, d, f⟩ s).unack ev = s.unack ev ||| 1 ∧
    (State.raise1 lock ⟨ev, 1, d, f⟩ s).mode = s.mode ∧ (State.raise1 lock ⟨ev, 1, d, f⟩ s).holds = s.holds ∧
    (State.raise1 lock ⟨ev, 1, d, f⟩ s).snaps = s.snaps)

/-- R380 to R382, R499, R532: raises forced for test, and the log's records. A forced raise of class C2 or above acts on no
output unless LIVE is set, which only SERVICE accepts. -/
def Obligations.ForcingAndLog : Prop :=
  (∀ (c : Fin 8) (k : Fin 5) (v : Word) (s : State), s.Accepts c (fltB + 0x80 + 4 * k) v → Effect (.fltForce c k v) s fun u =>
    u = { s with raiseQ := u.raiseQ }) ∧
  (∀ (c : Fin 8) (k : Fin 5) (v : Word) (s : State), s.Accepts c (fltB + 0x80 + 4 * k) v → Does (.fltForce c k v) s (s.fltForce k v)) ∧
  (∀ (c : Fin 8) (p : BitVec 6) (v : Word) (s : State), s.Accepts c (pg p.toNat + 0x10) v → Does (.errForceWrite c p v) s
    (s.errForce p.toNat v)) ∧
  (∀ (c : Fin 8) (p : BitVec 6) (v : Word) (s : State), s.Accepts c (pg p.toNat + 0x10) v →
    v &&& accBits (fun x => x == .w1s) (pg p.toNat + 0x10) = 0 → Does (.errForceWrite c p v) s s) ∧
  (∀ (p i : Nat) (s : State), silentPage (pg p) = true → s.errForce1 p i = s.errQ (pg p) i (forcedEv p i)) ∧
  (∀ (c : Fin 8) (v : Word) (s : State), s.Accepts c (fltB + 0x40) v → getBits v 0 1 = 1 → s.mode ≠ mSERVICE →
    Effect (.fctrlLiveWrite c v) s fun u => u.bit fltB FLT.FCTRL_LIVE = s.bit fltB FLT.FCTRL_LIVE ∧ u.bit fltB (HDR.ERR.at 1) = true) ∧
  (∀ (c : Fin 8) (v : Word) (s : State), s.Accepts c (fltB + 0x40) v → getBits v 0 1 = 1 → s.mode = mSERVICE →
    Effect (.fctrlLiveWrite c v) s fun u => u.bit fltB FLT.FCTRL_LIVE = true ∧ u.rd fltB FLT.FCTRL_CLS = getBits v 1 3 ∧
      RegsOnly (fun k => k = fltB + 0x40) s u) ∧
  (∀ (c : Fin 8) (v : Word) (s : State), s.Accepts c (fltB + 0x40) v → getBits v 0 1 = 0 → Effect (.fctrlLiveWrite c v) s fun u =>
    u.bit fltB FLT.FCTRL_LIVE = false ∧ u.rd fltB FLT.FCTRL_CLS = getBits v 1 3 ∧ RegsOnly (fun k => k = fltB + 0x40) s u) ∧
  (∀ (w : Word × Word) (rest : List (Word × Word)) (s : State), s.logQ = w :: rest → s.fe7Writes = true →
    Does (.eventRecordWrite false) s (({ s with logQ := rest }.logPut w).fe7Done)) ∧
  (∀ (w : Word × Word) (rest : List (Word × Word)) (s : State), s.logQ = w :: rest → s.fe7Writes = false →
    Does (.eventRecordWrite false) s s) ∧
  (∀ (w : Word × Word) (s : State), s.Inv → (s.logPut w).nvmWord (logB0 + 8 * s.rd logB LOG.EV_POS_NEXT) = w.1 ∧
    (s.logPut w).nvmWord (logB0 + 8 * s.rd logB LOG.EV_POS_NEXT + 4) = w.2 ∧
    (s.logPut w).rd logB LOG.EV_POS_NEXT = (s.rd logB LOG.EV_POS_NEXT + 1) % 8192 ∧
    ∀ a, a < logB0 ∨ logB0 + 0x10000 ≤ a → (s.logPut w).nvmByte a = s.nvmByte a)

/-- R388 to R391: the Owl's rows. A check-in with the wrong key, or in a slot that the writer is not bound to, serves no slot.
R392: a finding makes its raise at the end of its tick. -/
def Obligations.OwlRows : Prop :=
  (∀ (c : Fin 8) (v : Word) (s : State), s.Accepts c 0x2040 v → getBits v 16 16 ≠ 0x0D15 → Effect (.kick c v) s fun u =>
    u.bit wdgB (HDR.ERR.at 4) = true ∧ u.owls = s.owls ∧ Told (fun k => k = wdgB + 0xC ∨ k = wdgB + 0x18) s u) ∧
  (∀ (c : Fin 8) (v : Word) (s : State), s.Accepts c 0x2040 v → getBits v 16 16 = 0x0D15 →
    s.owlBind (getBits v 0 5) ≠ c → Does (.kick c v) s (s.owlFind (some 3) 0 (getBits v 0 5) 4 c)) ∧
  (∀ (c : Fin 8) (v : Word) (s : State), s.Accepts c 0x2040 v → getBits v 16 16 = 0x0D15 → s.owlEnds (getBits v 0 5) = false →
    1 ≤ getBits v 0 5 → getBits v 0 5 < 24 → s.owlBind (getBits v 0 5) = c → (s.owlH (getBits v 0 5)).run = true →
    ¬ ((s.owlH (getBits v 0 5)).late = true ∧ s.tick = (s.owlH (getBits v 0 5)).start) → s.served (getBits v 0 5) = false →
    ((s.owlH (getBits v 0 5)).first = true ∨ (s.owlH (getBits v 0 5)).start + (s.owlH (getBits v 0 5)).wopen ≤ s.tick) →
    s.tick < 2 ^ 32 → Effect (.kick c v) s fun u => u.served (getBits v 0 5) = true ∧
      u.rd (owl (getBits v 0 5)) WDG.SLOT_SVC_TICK = s.tick ∧ u.raiseQ = s.raiseQ ∧ u.owls = s.owls) ∧
  (∀ (i : Fin 32) (s : State), s.owlEnds i = true → s.served i = true → Does (.slotPeriodEnd i) s (s.owlNext i false)) ∧
  (∀ (i : Fin 32) (s : State), s.owlEnds i = true → s.served i = false → Does (.slotPeriodEnd i) s
    ((((s.owlCount i WDG.SLOT_CNT_EXP).wr wdgB (WDG.EXPMAP_EXP.at i) 1).owlReact i 0 1).owlNext i true)) ∧
  (∀ (i : Fin 32) (s : State), s.owlEnds i = false → Does (.slotPeriodEnd i) s s) ∧
  (∀ (n : OwlNote) (s : State), s.owlQ = [n] → n.slot < 32 → n.cause = 3 ∨ n.cause = 4 ∨ n.cause = 5 → n.shown = true →
    s.owlServe = (({ s with owlQ := [] } : State).post 111 (some n.cls) (some (n.slot + n.cause * 32 + n.who * 256))).settle) ∧
  (∀ (c : Fin 8) (i : Fin 32) (v : Word) (s : State), s.Accepts c (owl i) v → getBits v 1 4 ≠ s.owlBind i →
    Does (.wdgBindWrite c i v) s (s.owlCfg i v)) ∧
  (∀ (c : Fin 8) (i : Fin 32) (v : Word) (s : State), s.Accepts c (owl i) v → getBits v 1 4 = s.owlBind i → Does (.wdgBindWrite c i v) s s) ∧
  (∀ (c : Fin 8) (i : Fin 32) (v : Word) (s : State), s.Accepts c (owl i) v → (getBits v 0 1 == 1) ≠ s.bit (owl i) WDG.SLOT_CFG_EN →
    Does (.wdgSlotEnWrite c i v) s (s.owlCfg i v)) ∧
  (∀ (i : Nat) (v : Word) (s : State), 1 ≤ i → i < 24 → s.bit (owl i) WDG.SLOT_CFG_EN = true → getBits v 0 1 = 0 →
    s.mode ≠ mSERVICE → s.mode ≠ mHOLD → (s.owlCfg i v).bit (owl i) WDG.SLOT_CFG_EN = true ∧
      (s.owlCfg i v).bit wdgB (HDR.ERR.at 5) = true)

/-- R399, R402, R405, R407, R408, R410, R411: a mismatch or an exception halts an engine; a handshake times out; the reference is lost and
comes back; and a sag stretches an island's clock, released step by step. -/
def Obligations.EngineAndClockRows : Prop :=
  (∀ (n : Fin 8) (s : State), s.up = true → s.eng n ≠ eHALTED → s.eng n ≠ eOFF → Does (.lockstepMismatch n []) s (s.mismatchAs s.lsRepeats n)) ∧
  (∀ (n m : Fin 8) (s : State), s.up = true → n ≠ m → s.eng n ≠ eHALTED → s.eng n ≠ eOFF → s.eng m ≠ eHALTED → s.eng m ≠ eOFF →
    Does (.lockstepMismatch n [m]) s ((s.mismatchAs s.lsRepeats n).mismatchAs s.lsRepeats m)) ∧
  (∀ (n : Fin 8) (s : State), s.eng n = eHALTED → Does (.lockstepMismatch n []) s s) ∧
  (∀ (n : Fin 8) (s : State), s.eng n = eRUN → Does (.engineException n) s
    (((s.haltEng n).count (fe n) ENG.FE_CNT_EXCEPT ENG.FE_CNT_EXC_SAT engB 3 (112 + n.val)).err engB 2 (112 + n.val)
      (some (min 3 (s.rd engB ENG.CFG_EXC_CLS)))
      (some (((s.haltEng n).count (fe n) ENG.FE_CNT_EXCEPT ENG.FE_CNT_EXC_SAT engB 3 (112 + n.val)).engDetail n 3)))) ∧
  (∀ (n : Fin 8) (s : State), (s.haltEng n).eng n = eHALTED) ∧
  (∀ (i : Fin 16) (us : Nat) (s : State), s.up = true → 20 ≤ us → Effect (.handshakeTimeout i us) s fun u =>
    u.bit clkB (HDR.ERR.at 2) = true ∧ u.mode = s.mode ∧ u.cmds = s.cmds) ∧
  (∀ (i : Fin 16) (us : Nat) (s : State), us < 20 → Does (.handshakeTimeout i us) s s) ∧
  (∀ (ns khz : Nat) (s : State), s.up = true → s.xiGood = true → 2000 ≤ ns ∨ khz < 23750 ∨ 26250 < khz →
    Effect (.refLoss ns khz) s fun u => u.xiGood = false ∧ u.bit clkB CLK.STATUS_REF_OK = false ∧
      u.bit clkB CLK.STATUS_REF_RC = true ∧ u.bit timeB TIME.STATUS_REF_RC = true ∧ u.bit clkB (HDR.ERR.at 0) = true) ∧
  (∀ (ns khz : Nat) (s : State), ns < 2000 → 23750 ≤ khz → khz ≤ 26250 → Does (.refLoss ns khz) s s) ∧
  (∀ (us : Nat) (s : State), s.up = true → s.bit clkB CLK.STATUS_REF_RC = true → s.bit clkB CLK.CFG_AUTO_RET = true → 100000 ≤ us →
    Effect (.refAutoReturn us) s fun u => u.xiGood = true ∧ u.bit clkB CLK.STATUS_REF_OK = true ∧ u.bit clkB CLK.STATUS_REF_RC = false ∧
      u.bit timeB TIME.STATUS_REF_RC = false) ∧
  (∀ (us : Nat) (s : State), s.up = true → s.bit clkB CLK.STATUS_REF_RC = true → s.bit clkB CLK.CFG_AUTO_RET = false ∨ us < 100000 →
    Effect (.refAutoReturn us) s fun u => u.xiGood = true ∧ u.bit clkB CLK.STATUS_REF_OK = true ∧ u.bit clkB CLK.STATUS_REF_RC = true) ∧
  (∀ (c : Fin 8) (v : Word) (s : State), s.Accepts c 0x444 v → getBits v 0 1 = 1 → s.xiGood = true → s.bit clkB CLK.STATUS_REF_RC = true →
    Effect (.clkRet c v) s fun u => u.bit clkB CLK.STATUS_REF_RC = false ∧ u.bit timeB TIME.STATUS_REF_RC = false) ∧
  (∀ (c : Fin 8) (v : Word) (s : State), s.Accepts c 0x444 v → s.xiGood = false → Does (.clkRet c v) s s) ∧
  (∀ (i : Fin 16) (pm : Nat) (s : State), s.up = true → s.droopLvl < pm → (s.droopOf i).1 = 0 → Effect (.droop i pm) s fun u =>
    u.droopOf i = (4, false) ∧ u.bit clkB (CLK.ISL_STRETCH.at (16 + i)) = true) ∧
  (∀ (i : Fin 16) (pm : Nat) (s : State), pm ≤ s.droopLvl → Does (.droop i pm) s s) ∧
  (∀ (i : Fin 16) (pm gap ns10 : Nat) (s : State), pm + 10 ≤ s.droopLvl → orIf0 (s.rd clkB CLK.CFG_REL_T) 1 ≤ gap →
    ((s.droopOf i).1 = 1 → Effect (.droopReleaseStep i pm gap ns10) s fun u => u.droopOf i = (0, false) ∧
      u.bit clkB (CLK.ISL_STRETCH.at (16 + i)) = false ∧
      u.rd (drp i) CLK.DRP_LONGEST = max (s.rd (drp i) CLK.DRP_LONGEST) (min 0x7FFF ns10) ∧ u.raiseQ = s.raiseQ) ∧
    (2 ≤ (s.droopOf i).1 → Does (.droopReleaseStep i pm gap ns10) s (s.setDroop i ((s.droopOf i).1 - 1, (s.droopOf i).2)))) ∧
  (∀ (i : Fin 16) (pm gap ns10 : Nat) (s : State), s.droopLvl < pm + 10 ∨ gap < orIf0 (s.rd clkB CLK.CFG_REL_T) 1 →
    Does (.droopReleaseStep i pm gap ns10) s s) ∧
  (∀ (i : Fin 16) (ns10 : Nat) (s : State), (s.droopOf i).1 ≠ 0 → (s.droopOf i).2 = false →
    100 * orIf0 (s.rd clkB CLK.CFG_LONG_T) 1 < ns10 → Does (.droopLong i ns10) s
      ((s.setDroop i ((s.droopOf i).1, true)).err clkB 3 132 (some 1) (some 2))) ∧
  (∀ (i : Fin 16) (ns10 : Nat) (s : State), ns10 ≤ 100 * orIf0 (s.rd clkB CLK.CFG_LONG_T) 1 → Does (.droopLong i ns10) s s)

/-- R418 to R427: retirement, scrubbing, the NVM host area and the lofts. -/
def Obligations.MemoryCommandRows : Prop :=
  (∀ (t : BitVec 8) (k : Cmd) (s : State), s.Ready t 0x10 k → spaceTop (getBits k.a1 0 1 == 1) ≤ k.a0.toNat → Does (.retire t) s (s.failK k 1)) ∧
  (∀ (t : BitVec 8) (k : Cmd) (s : State), s.Ready t 0x10 k → k.a0.toNat < sramTop → k.a1 = 0 → k.a2 = 0 →
    s.retired.contains (k.a0.toNat / 0x1000 * 0x1000, false) = false → s.retCount false < 8 → s.nvmOff = false → Does (.retire t) s
      (({ (s.nvmPut (retAt s.retFree) (s.retEntry (k.a0.toNat / 0x1000 * 0x1000) false (s.retSpare false) ++
        leBytes 4 (crc32 (s.retEntry (k.a0.toNat / 0x1000 * 0x1000) false (s.retSpare false))))) with
        retired := s.retired ++ [(k.a0.toNat / 0x1000 * 0x1000, false)] } : State).retShow.doneK k s.retFree)) ∧
  (∀ (t : BitVec 8) (k : Cmd) (s : State), s.Ready t 0x10 k → k.a0.toNat < sramTop → k.a1 = 0 → k.a2 = 0 →
    s.retired.contains (k.a0.toNat / 0x1000 * 0x1000, false) = true → Does (.retire t) s
      (s.doneK k (s.retIndex (k.a0.toNat / 0x1000 * 0x1000) false))) ∧
  (∀ (t : BitVec 8) (k : Cmd) (s : State), s.Ready t 0x0E k → k.a2 = 0 → k.a1.toNat ≠ 0 → k.a0.toNat + k.a1.toNat ≤ sramTop →
    k.a0.toNat % 4 = 0 → k.a1.toNat % 4 = 0 → k.prog = 0 → k.aux = 0 → s.mustYield k = false → Does (.scrub t []) s (s.completeB k stDONE 0 0
      (leBytes 4 (k.a1.toNat / 4) ++ leBytes 4 0 ++ leBytes 4 0 ++ leBytes 4 0xFFFFFFFF))) ∧
  (∀ (t : BitVec 8) (k : Cmd) (hits : List EccHit) (s : State), s.Ready t 0x0E k → k.a1 = 0 → Does (.scrub t hits) s (s.failK k 1)) ∧
  (∀ (t : BitVec 8) (k : Cmd) (s : State), s.Ready t 0x0D k → 0x68000 ≤ k.a0.toNat → 1 ≤ getBits k.a1 0 8 → getBits k.a1 0 8 ≤ 128 →
    k.a0.toNat + getBits k.a1 0 8 ≤ 0x80000 → k.a1.toNat / 0x8000 = 0 → k.a2 = 0 → s.nvmOff = false →
    getBits k.a1 8 7 + getBits k.a1 0 8 ≤ 128 → k.prog = 0 → s.mustYield k = false → Does (.nvmWrite t false) s
      ((s.nvmPut (0x380000 + k.a0.toNat) ((k.buf.drop (getBits k.a1 8 7)).take (getBits k.a1 0 8))).doneK k 0)) ∧
  (∀ (t : BitVec 8) (k : Cmd) (s : State), s.Ready t 0x0D k → 0x68000 ≤ k.a0.toNat → 1 ≤ getBits k.a1 0 8 → getBits k.a1 0 8 ≤ 128 →
    k.a0.toNat + getBits k.a1 0 8 ≤ 0x80000 → k.a1.toNat / 0x8000 = 0 → k.a2 = 0 → s.nvmOff = false →
    getBits k.a1 8 7 + getBits k.a1 0 8 ≤ 128 → s.mustYield k = true → 32 * (k.prog + 1) < getBits k.a1 0 8 →
    Does (.nvmWrite t false) s ((s.nvmPut (0x380000 + k.a0.toNat + 32 * k.prog)
      (((k.buf.drop (getBits k.a1 8 7)).take (getBits k.a1 0 8)).drop (32 * k.prog) |>.take 32)).yield k (k.prog + 1))) ∧
  (∀ (t : BitVec 8) (k : Cmd) (s : State), s.Ready t 0x0E k → k.a2 = 0 → k.a0.toNat + k.a1.toNat ≤ sramTop →
    k.a0.toNat % 4 = 0 → k.a1.toNat % 4 = 0 → s.mustYield k = true → k.prog + 1 < k.a1.toNat / 4 →
    Does (.scrub t []) s ((s.eccHits 0 [] true).yield { k with aux := (Scrubbed.plus (Scrubbed.ofAux k.aux) []).toAux } (k.prog + 1))) ∧
  (∀ (t : BitVec 8) (k : Cmd) (fail : Bool) (s : State), s.Ready t 0x0D k → k.a0.toNat < 0x68000 → Does (.nvmWrite t fail) s (s.failK k 1)) ∧
  (∀ (t : BitVec 8) (k : Cmd) (s : State), s.Ready t 0x0F k → 1 ≤ getBits k.a0 0 8 → getBits k.a0 0 8 ≤ 128 → k.a0.toNat / 0x100 = 0 →
    k.a1.toNat / 0x80 = 0 → k.a2 = 0 → s.nvmOff = false → getBits k.a1 0 7 + getBits k.a0 0 8 ≤ 128 → Does (.loftCommit t false) s
      ((s.loftCommit ((k.buf.drop (getBits k.a1 0 7)).take (getBits k.a0 0 8)) false).doneK k s.loftNext)) ∧
  (∀ s : State, mHOLD ≤ s.mode → s.mode ≠ mLOCKOUT → s.stopped 7 = false → s.nvmOff = false → s.loftStale = true →
    s.engineHolds 6 feSeven = true → Does (.loftAutoCommit false) s (s.loftCommit s.loftHost false).fe7Done) ∧
  (∀ (fail : Bool) (s : State), s.engineHolds 6 feSeven = false → Does (.loftAutoCommit fail) s s) ∧
  (∀ (fail : Bool) (s : State), s.loftStale = false → Does (.loftAutoCommit fail) s s) ∧
  (∀ (host : List Byte) (s : State), s.Inv → host.length ≤ 128 →
    (s.loftCommit host false).nvmBytes (loftAt s.loftNext) 0x200 = s.loftRec s.loftNext host ∧
    (s.loftCommit host false).rd loftB LOFT.CUR_SEQ_SEQ = s.loftNext % 2 ^ 32 ∧ (s.loftRec s.loftNext host).length = 0x200)

/-- R431, R438 to R444: the one-time-programmable array. A blank row takes the value that is burned; a counter moves on by its
next pair; an override changes the effective value alone. -/
def Obligations.OtpRows : Prop :=
  (∀ (t : BitVec 8) (k : Cmd) (s : State), s.Ready t 0x14 k → getBits k.a0 0 9 < 224 → k.a0.toNat / 512 = 0 → k.a1.toNat / 128 = 0 →
    k.a2 = 0 → getBits k.a1 0 7 + 7 ≤ 128 → s.regLocked (regOf (getBits k.a0 0 9)) = false → (s.rowAt (getBits k.a0 0 9)).st = oBLANK →
    s.nvmOff = false → Does (.otpBurnRow t []) s
      ((s.setRow (s.physRow (getBits k.a0 0 9)) (goodRow (BitVec.ofNat 64 (leNat ((k.buf.drop (getBits k.a1 0 7)).take 7))))).otpShow.doneK k 0)) ∧
  (∀ (t : BitVec 8) (k : Cmd) (reads : List OtpRow) (s : State), s.Ready t 0x14 k → getBits k.a0 0 9 < 224 → k.a0.toNat / 512 = 0 →
    k.a1.toNat / 128 = 0 → k.a2 = 0 → getBits k.a1 0 7 + 7 ≤ 128 → s.regLocked (regOf (getBits k.a0 0 9)) = false →
    (s.rowAt (getBits k.a0 0 9)).st = oGOOD → Does (.otpBurnRow t reads) s (s.failK k 4)) ∧
  (∀ (t : BitVec 8) (k : Cmd) (c : Nat) (s : State), s.Ready t 0x14 k → c < 3 → getBits k.a0 0 9 = 256 + c → k.a0.toNat / 512 = 0 →
    k.a1 = 0 → k.a2 = 0 → s.nvmOff = false → s.cntVal c ≠ cntSteps c → Does (.otpCounterIncrement t) s ((s.cntStep c).1.doneK k 0)) ∧
  (∀ (c : Fin 3) (s : State), s.cntVal c ≠ cntSteps c → (s.cntStep c).1.cntVal c = s.cntVal c + 1) ∧
  (∀ (t : BitVec 8) (k : Cmd) (c : Nat) (s : State), s.Ready t 0x14 k → c < 3 → getBits k.a0 0 9 = 256 + c → k.a0.toNat / 512 = 0 →
    k.a1 = 0 → k.a2 = 0 → s.cntVal c = cntSteps c → Does (.otpCounterIncrement t) s ((s.otpErr 4 6 (256 + c)).failK k 5)) ∧
  (∀ (t : BitVec 8) (k : Cmd) (g : Nat) (s : State), s.Ready t 0x14 k → g < 5 → getBits k.a0 0 9 = 272 + g → k.a0.toNat / 512 = 0 →
    k.a1 = 0 → k.a2 = 0 → s.nvmOff = false → s.regLocked g = false → (s.ctlBurn (144 + g)).burnedOk g = true → Does (.otpLockBurn t) s
      ((s.ctlBurn (144 + g)).otpShow.doneK k 0)) ∧
  (∀ (g : Fin 5) (s : State), (s.ctlBurn (144 + g)).regLocked g = true) ∧
  (∀ (t : BitVec 8) (k : Cmd) (g : Nat) (s : State), s.Ready t 0x14 k → g < 5 → getBits k.a0 0 9 = 272 + g → k.a0.toNat / 512 = 0 →
    k.a1 = 0 → k.a2 = 0 → s.nvmOff = false → s.lockDone g = true → Does (.otpLockBurn t) s (s.failK k 9)) ∧
  (∀ (t : BitVec 8) (k : Cmd) (reads : List OtpRow) (s : State), s.Ready t 0x15 k → getBits k.a0 0 9 < 224 → k.a0.toNat / 512 = 0 →
    k.a1 = 0 → k.a2 = 0 → s.nvmOff = false → (s.rowAt (getBits k.a0 0 9)).st = oWEAK1 → Does (.otpReburn t reads) s
      (s.burnRow k (getBits k.a0 0 9) (s.rowAt (getBits k.a0 0 9)).v true reads)) ∧
  (∀ (t : BitVec 8) (k : Cmd) (reads : List OtpRow) (s : State), s.Ready t 0x15 k → getBits k.a0 0 9 < 256 → k.a0.toNat / 512 = 0 →
    k.a1 = 0 → k.a2 = 0 → s.nvmOff = false → (s.rowAt (getBits k.a0 0 9)).st = oGOOD → Does (.otpReburn t reads) s (s.failK k 8)) ∧
  (∀ (c : Fin 8) (s : State), s.Accepts c 0xB06C 1 → s.ovrTaken (s.rd (ck c + otpB) OTP.ROWSEL_ROW) = true → Effect (.ovrSet c) s fun u =>
    u.effRow (s.rd (ck c + otpB) OTP.ROWSEL_ROW) =
      BitVec.ofNat 64 (s.rd otpB OTP.OVR_LO_DATA + s.rd otpB OTP.OVR_HI_DATA * 2 ^ 32) ∧ u.otp = s.otp ∧ u.otpCtl = s.otpCtl ∧
    u.raiseQ = s.raiseQ) ∧
  (∀ (c : Fin 8) (s : State), s.Accepts c 0xB06C 1 → s.ovrTaken (s.rd (ck c + otpB) OTP.ROWSEL_ROW) = false → Effect (.ovrSet c) s fun u =>
    u.otpOvr = s.otpOvr ∧ u.bit otpB (HDR.ERR.at 6) = true) ∧
  (∀ (c : Fin 8) (s : State), s.Accepts c 0xB06C 2 → s.ovrTaken (s.rd (ck c + otpB) OTP.ROWSEL_ROW) = true → Effect (.ovrClear c) s fun u =>
    u.effRow (s.rd (ck c + otpB) OTP.ROWSEL_ROW) = s.shadow (s.rd (ck c + otpB) OTP.ROWSEL_ROW) ∧ u.otp = s.otp) ∧
  (∀ (c : Fin 8) (s : State), s.Accepts c 0xB06C 3 → s.mode = mSERVICE ∨ s.mode = mHOLD → Effect (.ovrClearAll c) s fun u =>
    u.otpOvr = [] ∧ (∀ r, u.effRow r = s.shadow r) ∧ u.otp = s.otp)

/-- R454 to R461: images, activation, confirmation, and the ROM loader. -/
def Obligations.UpdateRows : Prop :=
  (∀ (t : BitVec 8) (k : Cmd) (fail : Bool) (s : State), s.Ready t 0x11 k →
    getBits k.a1 8 7 + getBits k.a1 0 8 ≤ 128 → k.prog = 0 → s.mustYield k = false → Does (.imageWrite t fail) s
      (match (s.siloWrite k.a0.toNat (getBits k.a1 0 8) (getBits k.a1 0 8) ((k.buf.drop (getBits k.a1 8 7)).take (getBits k.a1 0 8))
          (decide (k.a1.toNat / 0x8000 ≠ 0 ∨ k.a2 ≠ 0)) fail).2 with
        | some c => (s.siloWrite k.a0.toNat (getBits k.a1 0 8) (getBits k.a1 0 8) ((k.buf.drop (getBits k.a1 8 7)).take (getBits k.a1 0 8))
          (decide (k.a1.toNat / 0x8000 ≠ 0 ∨ k.a2 ≠ 0)) fail).1.failK k c
        | none => (s.siloWrite k.a0.toNat (getBits k.a1 0 8) (getBits k.a1 0 8) ((k.buf.drop (getBits k.a1 8 7)).take (getBits k.a1 0 8))
          (decide (k.a1.toNat / 0x8000 ≠ 0 ∨ k.a2 ≠ 0)) fail).1.doneK k 0)) ∧
  (∀ (o n : Nat) (bytes : List Byte) (s : State), 256 ≤ o → o % 8 = 0 → n % 8 = 0 → 8 ≤ n → n ≤ 128 → o + n ≤ 0x1C0000 → s.stage = uWRITING →
    o = s.rd nvmB NVM.SILO_NEXT → s.nvmOff = false → s.updBusy = false → s.siloWrite o n n bytes false false =
      ((((s.siloErase o n).nvmPut (siloB + o) (bytes.take n)).wr nvmB NVM.SILO_NEXT (o + n)).siloLook o (o + n) |>.1,
       if ((((s.siloErase o n).nvmPut (siloB + o) (bytes.take n)).wr nvmB NVM.SILO_NEXT (o + n)).siloLook o (o + n)).2 then some 4 else none)) ∧
  (∀ (o n m : Nat) (bytes : List Byte) (args fail : Bool) (s : State), 8 ≤ o → o % 8 = 0 → n % 8 = 0 → 8 ≤ n → n ≤ 128 → o + n ≤ 0x1C0000 →
    s.stage = uWRITING → o ≠ s.rd nvmB NVM.SILO_NEXT → s.siloWrite o n m bytes args fail = (s.err nvmB 2 123 none none, some 3)) ∧
  (∀ (t : BitVec 8) (k : Cmd) (hits : List EccHit) (failed : Option (Fin 2)) (s : State), s.Ready t 0x12 k → k.prog = 0 → k.a0 = 0 →
    k.a1 = 0 → k.a2 = 0 → s.updBusy = false → s.mode = mHOLD →
    (s.stage = uSTAGED → Does (.activate t hits failed) s
      ((s.setCmd { k with phase := .running }).dropOrg (fun _ o => o == .tag k.tag)).actHold) ∧
    (s.stage ≠ uSTAGED → Does (.activate t hits failed) s (s.failK k 1))) ∧
  (∀ (t : BitVec 8) (k : Cmd) (failed : Option (Fin 2)) (s : State), s.Ready t 0x12 k → k.prog = 0 → k.a0 = 0 → k.a1 = 0 → k.a2 = 0 →
    s.updBusy = false → s.mode = mSERVICE → s.stage ≠ uSTAGED → Does (.activate t [] failed) s (s.failK k 1)) ∧
  (∀ (t : BitVec 8) (k : Cmd) (hits : List EccHit) (failed : Option (Fin 2)) (s : State), s.Ready t 0x12 k → k.prog = 0 →
    k.a0 = 0 → k.a1 = 0 → k.a2 = 0 → s.updBusy = false → s.mode = mSERVICE → (s.eccHits 1 hits false).actCause hits = none →
    Does (.activate t hits failed) s (((s.eccHits 1 hits false).setCmd
      { k with prog := 1, aux := itemBits (s.eccHits 1 hits false).staged }).askNext
      { k with prog := 1, aux := itemBits (s.eccHits 1 hits false).staged })) ∧
  (∀ (t : BitVec 8) (k : Cmd) (hits : List EccHit) (failed : Option (Fin 2)) (s : State), s.Ready t 0x12 k → k.prog = 1 →
    Does (.activate t hits failed) s ((s.setCmd { k with prog := 2 }).copyBegin s.staged)) ∧
  (∀ (t : BitVec 8) (k : Cmd) (hits : List EccHit) (failed : Option (Fin 2)) (s : State), s.Ready t 0x12 k → 2 ≤ k.prog →
    s.nvmOff = true → Does (.activate t hits failed) s (s.failK k 7)) ∧
  (∀ (t : BitVec 8) (k : Cmd) (hits : List EccHit) (s : State), s.Ready t 0x12 k → 2 ≤ k.prog → s.nvmOff = false →
    (s.copyEnd s.staged none (s.confAfter k.aux)).2 = true → k.aux % 2 = 0 → Does (.activate t hits none) s
      ((((s.copyEnd s.staged none (s.confAfter k.aux)).1.setCmd { k with phase := .running }).dropOrg
        (fun _ o => o == .tag k.tag)).warmStart (some DEV.RESET_CAUSE_WARM_ACTIVATE) 6)) ∧
  (∀ (t : BitVec 8) (k : Cmd) (s : State), s.Ready t 0x13 k → k.a0 = 0 → k.a1 = 0 → k.a2 = 0 → s.nvmOff = false →
    s.rd nvmB NVM.UPD_CONF = cUNCONFIRMED → Does (.confirm t) s (s.confirm.doneK k 0)) ∧
  (∀ (t : BitVec 8) (k : Cmd) (s : State), s.Ready t 0x13 k → k.a0 = 0 → k.a1 = 0 → k.a2 = 0 → s.nvmOff = false →
    s.rd nvmB NVM.UPD_CONF = cCONFIRMED → Does (.confirm t) s (s.failK k 1)) ∧
  (∀ (c : Fin 8) (v : Word) (fail : Bool) (s : State), s.Accepts c 0xB44C v → getBits v 0 2 = 1 → s.bit engB ENG.STATUS_ROM = true →
    s.nvmwFree = false → Does (.ldrWrite c v fail) s ({ s.engineAsk 3 feSeven with ldrWait := some (v, fail) }.wr nvmB NVM.LDR_STAT_BUSY 1)) ∧
  (∀ (c : Fin 8) (v : Word) (fail : Bool) (s : State), s.Accepts c 0xB44C v → getBits v 0 2 = 1 → s.bit engB ENG.STATUS_ROM = true →
    s.nvmwFree = true →
    Does (.ldrWrite c v fail) s ((s.siloWrite (s.rd nvmB NVM.LDR_OFS_OFFSET) (getBits v 8 8) (getBits v 8 8) (s.ldrBytes.take (getBits v 8 8)) false fail).1.ldrDone
      ((s.siloWrite (s.rd nvmB NVM.LDR_OFS_OFFSET) (getBits v 8 8) (getBits v 8 8) (s.ldrBytes.take (getBits v 8 8)) false fail).2.getD 0))) ∧
  (∀ (c : Fin 8) (v : Word) (fail : Bool) (s : State), s.Accepts c 0xB44C v → getBits v 0 2 = 1 → s.bit engB ENG.STATUS_ROM = false →
    Effect (.ldrWrite c v fail) s fun u => u.bit nvmB (HDR.ERR.at 3) = true ∧ u.nvm = s.nvm ∧
      Told (fun k => k = nvmB + 0xC ∨ k = nvmB + 0x18) s u) ∧
  (∀ (c : Fin 8) (v : Word) (s : State), s.Accepts c 0xB44C v → getBits v 0 2 = 2 → s.bit engB ENG.STATUS_ROM = true → s.mode = mHOLD →
    (s.stage = uSTAGED → Does (.ldrActivate c v) s s.actHold) ∧
    (s.stage ≠ uSTAGED → Does (.ldrActivate c v) s (s.ldrDone 1)))

/-- R468 to R476: the calendar. A held field waits for the write of SEC, which starts the second, and a freeze lasts until
YEAR is read. -/
def Obligations.CalendarRows : Prop :=
  (∀ s : State, s.oscRuns = true → s.rd rtcB RTC.SUBSEC_COUNT = 32767 → Does .secondBoundary s (s.secondTick 0)) ∧
  (∀ s : State, s.oscRuns = false ∨ s.rd rtcB RTC.SUBSEC_COUNT ≠ 32767 → Does .secondBoundary s s) ∧
  (∀ c : Cal, c.sec < 59 → c.next = { c with sec := c.sec + 1 }) ∧
  (∀ c : Cal, c.sec = 59 → c.min = 59 → c.hour = 23 → c.day = monthLen c.year c.month → c.month = 12 → c.year < 199 →
    c.next = ⟨0, 0, 0, 1, 1, c.year + 1⟩) ∧
  (∀ s : State, s.oscRuns = true → 2 ^ 20 ≤ s.clk.cyc → s.rdI rtcB RTC.TRIM_TRIM < 0 → Effect .trimCorrection s fun u =>
    u.clk.ins = s.clk.ins + (-s.rdI rtcB RTC.TRIM_TRIM).toNat ∧ u.clk.cyc = s.clk.cyc - 2 ^ 20 ∧ u.regs = s.regs) ∧
  (∀ s : State, s.clk.cyc < 2 ^ 20 → Does .trimCorrection s s) ∧
  (∀ s : State, s.oscRuns = true → 2 ^ 20 ≤ s.clk.cyc → 0 ≤ s.rdI rtcB RTC.TRIM_TRIM →
    s.rd rtcB RTC.SUBSEC_COUNT + (s.rdI rtcB RTC.TRIM_TRIM).toNat < 32768 → Effect .trimCorrection s fun u =>
      u.rd rtcB RTC.SUBSEC_COUNT = s.rd rtcB RTC.SUBSEC_COUNT + (s.rdI rtcB RTC.TRIM_TRIM).toNat ∧
      u.clk.cyc = s.clk.cyc - 2 ^ 20 ∧ u.clk.ins = s.clk.ins ∧ ∀ k, k ≠ rtcB + RTC.SUBSEC_COUNT.off → u.getW k = s.getW k) ∧
  (∀ (us : Nat) (s : State), us < 2000 → Does (.oscStop us) s s) ∧
  (∀ (us : Nat) (s : State), s.oscRuns = true → 2000 ≤ us → Effect (.oscStop us) s fun u => u.oscRuns = false ∧ u.bit rtcB RTC.STATUS_OSF = true ∧
    u.bit rtcB RTC.ERR_OSF = true) ∧
  (∀ s : State, Effect .oscResume s fun u => u.oscRuns = true ∧ u.bit rtcB RTC.ERR_OSF = s.bit rtcB RTC.ERR_OSF ∧
    RegsOnly (fun k => k = rtcB + 8) s u) ∧
  (∀ (c : Fin 8) (s : State), s.Accepts c 0xA00C 1 → s.oscRuns = true → Effect (.osfClear c) s fun u => u.bit rtcB RTC.ERR_OSF = false ∧
    u.bit rtcB RTC.STATUS_OSF = false ∧ RegsOnly (fun k => k = rtcB + 8 ∨ k = rtcB + 0xC) s u) ∧
  (∀ (c : Fin 8) (s : State), s.Accepts c 0xA00C 1 → s.oscRuns = false → Does (.osfClear c) s s) ∧
  (∀ (c i : Fin 8) (s : State), s.mayRead c (0xA040 + 4 * i.val) = true → s.frzOf c = none → i ≠ 7 → Effect (.calendarRead c i) s fun u =>
    (u.ctx c).data = [s.getW (rtcB + 0x40 + 4 * i)] ∧ u.frzOf c = some s.calWords ∧ u.regs = s.regs) ∧
  (∀ (c i : Fin 8) (l : List Word) (s : State), s.mayRead c (0xA040 + 4 * i.val) = true → s.frzOf c = some l → Effect (.calendarRead c i) s fun u =>
    (u.ctx c).data = [(l[i.val]?).getD 0] ∧ u.frzOf c = (if i = 7 then none else some l) ∧ u.regs = s.regs) ∧
  (∀ (c : Fin 8) (s : State), (s.frzOf c).isSome = true → s.ran (.frz c) 250000 = true → Effect (.freezeTimeout c) s fun u => u.frzOf c = none ∧
    u.bit rtcB (HDR.ERR.at 7) = true) ∧
  (∀ (c : Fin 8) (s : State), s.ran (.frz c) 250000 = false → Does (.freezeTimeout c) s s) ∧
  (∀ (c : Fin 8) (s : State), s.Accepts c 0xA064 2 → Effect (.freezeRel c) s fun u => u.frzOf c = none ∧ u.regs = s.regs) ∧
  (∀ (c : Fin 8) (k : Fin 5) (v : Word) (s : State), s.Accepts c (rtcB + heldReg k) v → Effect (.rtcFieldWrite c k v) s fun u =>
    u.bit rtcB (RTC.PEND_HELD.at k) = true ∧ u.rd rtcB RTC.PEND_CTX = c ∧ u.clk.held[k] = getBits v 0 (heldWidth k) ∧
    u.cal = s.cal ∧ RegsOnly (fun j => j = rtcB + RTC.PEND_CTX.off) s { u with clk := s.clk }) ∧
  (∀ (c : Fin 8) (s : State), s.Accepts c 0xA064 1 → Effect (.rtcDiscard c) s fun u => u.rd rtcB RTC.PEND_HELD = 0 ∧ u.cal = s.cal) ∧
  (∀ (c : Fin 8) (v : Word) (s : State), s.Accepts c 0xA044 v → (s.formed v).ok = true → Effect (.rtcCommit c v) s fun u =>
    u.cal = s.formed v ∧ u.rd rtcB RTC.SUBSEC_COUNT = 0 ∧ u.rd rtcB RTC.PEND_HELD = 0 ∧ (∀ d, u.frzOf d = none)) ∧
  (∀ (c : Fin 8) (v : Word) (s : State), s.Accepts c 0xA044 v → (s.formed v).ok = false → Effect (.rtcCommit c v) s fun u =>
    u.cal = s.cal ∧ u.rd rtcB RTC.PEND_HELD = 0 ∧ u.bit rtcB (HDR.ERR.at 4) = true)

/-- R475 to R479: TIME. A read of the nanoseconds keeps its second, CTRL sets TIME or arms it for the next edge, and PPS edges, which act
at the end of their tick, lock it, count, and lose it. -/
def Obligations.TimeRows : Prop :=
  (∀ (c : Fin 8) (s : State), s.mayRead c 0xA440 = true → Effect (.timeNsRead c) s fun u => (u.ctx c).data = [BitVec.ofNat 32 s.timeNs] ∧
    u.secRead c = (s.timeSec % 2 ^ 32, s.timeSec / 2 ^ 32) ∧ u.timeNs = s.timeNs ∧ u.timeSec = s.timeSec ∧ u.regs = s.regs) ∧
  (∀ (c : Fin 8) (s : State), s.Accepts c 0xA464 1 → s.rd timeB TIME.SET_NS_NS < nsPerS → Effect (.setNow c) s fun u =>
    u.timeSec = s.setSec ∧ u.timeNs = s.rd timeB TIME.SET_NS_NS ∧ u.regs = s.regs) ∧
  (∀ (c : Fin 8) (s : State), s.Accepts c 0xA464 1 → nsPerS ≤ s.rd timeB TIME.SET_NS_NS → Effect (.setNow c) s fun u =>
    u.timeSec = s.timeSec ∧ u.timeNs = s.timeNs ∧ u.bit timeB (HDR.ERR.at 0) = true) ∧
  (∀ (c : Fin 8) (s : State), s.Accepts c 0xA464 2 → Effect (.setAtPps c) s fun u => u.bit timeB TIME.STATUS_SET_ARMED = true ∧
    RegsOnly (fun k => k = timeB + 8) s u) ∧
  (∀ (c : Fin 8) (s : State), s.Accepts c 0xA464 3 → Effect (.cancel c) s fun u => u.bit timeB TIME.STATUS_SET_ARMED = false ∧
    RegsOnly (fun k => k = timeB + 8) s u) ∧
  (∀ (lead : Fin 25) (s : State), s.up = true → s.vioOut = false →
    Does (.ppsEdge lead) s { s with clk := { s.clk with edges := s.clk.edges ++ [lead.val] } }) ∧
  (∀ (lead : Fin 25) (s : State), s.vioOut = true → Does (.ppsEdge lead) s s) ∧
  (∀ (lead : Nat) (s : State), s.clk.edges = [lead] → s.bit timeB TIME.STATUS_LOCKED = false →
    s.ppsEnd = ({ s with clk := { s.clk with edges := [] } }).ppsGood (lead * 40) (s.tick * 1000 + lead * 40)) ∧
  (∀ (lead now : Nat) (s : State), (s.ppsGood lead now).bit timeB TIME.STATUS_LOCKED = true ∧
    (s.ppsGood lead now).rd timeB TIME.PPS_CAP_NS_NS = (s.timeTotal + lead) % nsPerS ∧ (s.ppsGood lead now).clk.ppsLast = now) ∧
  (∀ (lead : Nat) (s : State), s.clk.edges = [lead] → s.bit timeB TIME.STATUS_LOCKED = true →
    s.tick * 1000 + lead * 40 - s.clk.ppsLast + s.ppsWin < nsPerS → s.ppsEnd = ({ s with clk := { s.clk with edges := [] } }).ppsBad) ∧
  (∀ s : State, s.up = true → s.bit timeB TIME.STATUS_LOCKED = true →
    s.clk.ppsLast + (s.clk.missed + 1) * nsPerS + s.ppsWin ≤ s.tick * 1000 → s.clk.missed + 1 < orIf0 (s.rd timeB TIME.CFG_LOSS_N) 1 →
    Effect .ppsMissed s fun u => u.clk.missed = s.clk.missed + 1 ∧ u.bit timeB TIME.STATUS_LOCKED = true) ∧
  (∀ s : State, s.up = true → s.bit timeB TIME.STATUS_LOCKED = true →
    s.clk.ppsLast + (s.clk.missed + 1) * nsPerS + s.ppsWin ≤ s.tick * 1000 → orIf0 (s.rd timeB TIME.CFG_LOSS_N) 1 ≤ s.clk.missed + 1 →
    Effect .ppsMissed s fun u => u.clk.missed = 0 ∧ u.bit timeB TIME.STATUS_LOCKED = false ∧ u.bit timeB (HDR.ERR.at 1) = true) ∧
  (∀ s : State, s.tick * 1000 < s.clk.ppsLast + (s.clk.missed + 1) * nsPerS + s.ppsWin → Does .ppsMissed s s)

/-- R484 to R493: the two-wire controllers. A byte that is not acknowledged ends the transfer with its cause and the count of
data bytes; a lost arbitration is tried again while retries are left. -/
def Obligations.TwoWireRows : Prop :=
  (∀ (t : BitVec 8) (k : Cmd) (l : List TwiTx) (s : State), s.Ready t 0x0C k → s.twRefusal k = none → Does (.twiXfer t l) s
    ((s.twBegin k).twRun (twiOf k) k l)) ∧
  (∀ (t : BitVec 8) (k : Cmd) (l : List TwiTx) (s : State), s.Ready t 0x0C k → twAddr k < 8 ∨ 0x77 < twAddr k → Does (.twiXfer t l) s
    ((s.twLast (twiOf k) k 1 0 none).failK k 1)) ∧
  (∀ (t : BitVec 8) (k : Cmd) (l : List TwiTx) (s : State), s.findCmd t.toNat = some k → k.op = 0x0C → k.phase = .running →
    Does (.twiXfer t l) s (s.twRun (twiOf k) k l)) ∧
  (∀ (k : Cmd) (s : State), (s.twBegin k).twi (twiOf k) = { TwiHid.reset with
    tag := some k.tag, p := k.prog, ph := twFrom k k.prog (decide (k.prog ≠ 0)),
    got := (match s.twiGot.find? (fun g => g.1 == k.tag) with | some g => g.2.2 | none => []),
    retries := (match s.twiGot.find? (fun g => g.1 == k.tag) with | some g => g.2.1 | none => s.rd (twiB (twiOf k)) TWI.CFG_ARB_RETRY) } ∧ (s.twBegin k).rd (twiB (twiOf k)) TWI.STATUS_STATE = 2) ∧
  (∀ (i : Fin 2) (k : Cmd) (bit : Nat) (s : State), (s.twi i).retries ≠ 0 → (s.twLost i k bit).twi i =
    { s.twi i with retries := (s.twi i).retries - 1, wait := true, n := 0, ins := [] } ∧
    (s.twLost i k bit).rd (twiB i) TWI.STATUS_STATE = 4 ∧ (s.twLost i k bit).rd (twiB i) TWI.LAST_CAUSE = 6) ∧
  (∀ (i : Fin 2) (ns : Nat) (k : Cmd) (l : List TwiTx) (s : State), s.twCmd i = some k → (s.twi i).wait = true → s.twFree i ≤ ns →
    Does (.twiRetry i ns l) s (((s.modTwi i (fun h => { h with wait := false })).setTwiSt i 2).twRun i k l)) ∧
  (∀ (i : Fin 2) (ns : Nat) (l : List TwiTx) (s : State), ns < s.twFree i → Does (.twiRetry i ns l) s s) ∧
  (∀ (i : Fin 2) (k : Cmd) (s : State), s.twCmd i = some k → (s.twi i).poll = true →
    (s.ran (.poll i) (twPoll k * 1000) = true → Does (.twiPollTimeout i) s ((s.twFail i k 4).err (twiB i) 0 (twEv i) none none)) ∧
    (s.ran (.poll i) (twPoll k * 1000) = false → Does (.twiPollTimeout i) s s)) ∧
  (∀ (i : Fin 2) (us : Nat) (k : Cmd) (s : State), s.twCmd i = some k → (s.twi i).wait = false →
    (s.twStretch i ≤ us → Does (.twiStretchTimeout i us) s
      (((s.twFail i k 9).modTwi i (fun h => { h with stretch := true })).err (twiB i) 4 (twEv i) none none)) ∧
    (us < s.twStretch i → Does (.twiStretchTimeout i us) s s)) ∧
  (∀ (i : Fin 2) (us : Nat) (s : State), (s.twi i).stretch = true → s.twStretch i ≤ us → Does (.sclStuck i us) s
    (((s.modTwi i (fun h => { h with stretch := false })).err (twiB i) 5 (twEv i) (some 1) none).twOff i)) ∧
  (∀ (i : Fin 2) (us : Nat) (s : State), (s.twi i).stretch = false ∨ us < s.twStretch i → Does (.sclStuck i us) s s) ∧
  (∀ (i : Fin 2) (us : Nat) (freed : Bool) (s : State), s.bit (twiB i) TWI.CFG_EN = true →
    s.rd (twiB i) TWI.STATUS_STATE = 3 ∨ ((s.twNext i).isSome = true ∧ orIf0 (s.rd (twiB i) TWI.CFG_RECOV_T) 1 * 10 ≤ us) →
    Does (.twiRecovery i us freed) s (s.twRecover i freed)) ∧
  (∀ (i : Fin 2) (us : Nat) (freed : Bool) (s : State), s.bit (twiB i) TWI.CFG_EN = false → Does (.twiRecovery i us freed) s s) ∧
  (∀ (c : Fin 8) (i : Fin 2) (k : Cmd) (s : State), s.Accepts c (twiB i + 0x44) 1 → s.twCmd i = some k → Does (.twiReset c i) s
    (s.twFail i k 0xB)) ∧
  (∀ (c : Fin 8) (i : Fin 2) (s : State), s.Accepts c (twiB i + 0x44) 2 → s.rd (twiB i) TWI.STATUS_STATE = 1 → Effect (.twiRecover c i) s
    fun u => u.rd (twiB i) TWI.STATUS_STATE = 3 ∧ RegsOnly (fun k => k = twiB i + TWI.STATUS_STATE.off) s u) ∧
  (∀ (c : Fin 8) (i : Fin 2) (s : State), s.Accepts c (twiB i + 0x44) 2 → s.rd (twiB i) TWI.STATUS_STATE ≠ 1 → Does (.twiRecover c i) s s)

/-- R319, R500, R509, R512, R516, R524: locks and owners of pages, pins, the VIO supply, and the test access port. LOCK
unlocks for the context that writes 0x5EED. -/
def Obligations.PageGuardsAndPins : Prop :=
  (∀ (c : Fin 8) (p : BitVec 6) (s : State), s.Accepts c (pg p.toNat + 0x20) 0x5EED → Effect (.lockWrite c p 0x5EED) s fun u =>
    u.bit (pg p.toNat) HDR.LOCK_UNLOCKED = true ∧ u.rd (pg p.toNat) HDR.LOCK_CTX = c ∧ RegsOnly (fun k => k = pg p.toNat + 0x20) s u) ∧
  (∀ (c : Fin 8) (p : BitVec 6) (s : State), s.Accepts c (pg p.toNat + 0x20) 0 → Effect (.lockWrite c p 0) s fun u =>
    u.bit (pg p.toNat) HDR.LOCK_UNLOCKED = false ∧ RegsOnly (fun k => k = pg p.toNat + 0x20) s u) ∧
  (∀ (c : Fin 8) (p : BitVec 6) (v : Word) (s : State), s.Accepts c (pg p.toNat + 0x20) v → v ≠ 0 → v ≠ 0x5EED → Does (.lockWrite c p v) s s) ∧
  (∀ (c : Fin 8) (p : BitVec 6) (v : Word) (s : State), s.Accepts c (pg p.toNat + 0x24) v → Effect (.ownerWrite c p v) s fun u =>
    u.rd (pg p.toNat) HDR.OWNER = (if getBits v 0 4 < 8 then getBits v 0 4 else 0xF) ∧ RegsOnly (fun k => k = pg p.toNat + 0x24) s u) ∧
  (∀ (n : Fin 16) (lvl : Bool) (us : Nat) (s : State), s.up = true → s.vioOut = false → s.rd (pin n) GPIO.PIN_CFG_FILT ≤ us →
    s.bit gpioB (GPIO.STATUS_IN.at n) ≠ lvl → Effect (.gpioEdge n lvl us) s fun u => u.bit gpioB (GPIO.STATUS_IN.at n) = lvl ∧
      (s.rd (pin n) GPIO.PIN_CFG_EDGE = 3 → u.bit gpioB (HDR.IRQ_PEND.at (16 + n)) = true) ∧
      (s.rd (pin n) GPIO.PIN_CFG_EDGE = 0 → u.bit gpioB (HDR.IRQ_PEND.at (16 + n)) = s.bit gpioB (HDR.IRQ_PEND.at (16 + n)))) ∧
  (∀ (n : Fin 16) (lvl : Bool) (us : Nat) (s : State), s.vioOut = true ∨ us < s.rd (pin n) GPIO.PIN_CFG_FILT →
    Does (.gpioEdge n lvl us) s s) ∧
  (∀ (c : Fin 8) (v : Word) (s : State), s.Accepts c (gpioB + 0x84) v → Effect (.outSet c v) s fun u =>
    u.rd gpioB GPIO.OUT_LVL = (s.rd gpioB GPIO.OUT_LVL ||| getBits v 0 16) ∧ RegsOnly (fun k => k = gpioB + GPIO.OUT_LVL.off) s u) ∧
  (∀ (c : Fin 8) (v : Word) (i : Nat) (s : State), s.Accepts c (gpioB + 0x88) v → i < 16 → Effect (.outClr c v) s fun u =>
    (u.rd gpioB GPIO.OUT_LVL).testBit i = ((s.rd gpioB GPIO.OUT_LVL).testBit i && !v.getLsbD i) ∧
    RegsOnly (fun k => k = gpioB + GPIO.OUT_LVL.off) s u) ∧
  (∀ (mv us : Nat) (s : State), s.vioOut = false → mv < 1500 → 2 ≤ us →
    (s.up = true → Effect (.vioLoss mv us) s fun u => u.vioOut = true) ∧
    (s.up = false → Does (.vioLoss mv us) s { s with vioOut := true })) ∧
  (∀ (mv us : Nat) (s : State), 1500 ≤ mv ∨ us < 2 → Does (.vioLoss mv us) s s) ∧
  (∀ (mv : Nat) (s : State), 1500 ≤ mv → Does (.vioReturn mv) s { s with vioOut := false }) ∧
  (∀ (mv : Nat) (s : State), mv < 1500 → Does (.vioReturn mv) s s) ∧
  (∀ (tms tdi lv : List Bool) (ins : TapIns) (s : State), s.up = true → s.vioOut = false →
    Effect (.testAccessPort tms tdi lv ins) s fun u => u = { s with
      tap := u.tap, tapIns := u.tapIns, tapBit := u.tapBit, bsCells := u.bsCells, bsUpd := u.bsUpd, tdo := u.tdo, freeCtr := u.freeCtr }) ∧
  (∀ (tdi lv : List Bool) (ins : TapIns) (s : State), tdi.length = 5 → s.up = true → s.vioOut = false →
    Effect (.testAccessPort (List.replicate 5 true) tdi lv ins) s fun u => u.tap = .reset ∧ u.tapIns = .bypass) ∧
  (∀ (d : Bool) (lv : List Bool) (ins : TapIns) (s : State), s.up = true → s.vioOut = false → s.mode = mHOLD → s.tap = .shDr → s.tapIns = .extest →
    Does (.testAccessPort [false] [d] lv ins) s { s with tdo := s.bsCells.take 1, bsCells := s.bsCells.drop 1 ++ [d] }) ∧
  (∀ (i : Nat) (s : State), s.tapIns = .extest → (s.mode = mHOLD → s.extest i = s.bsUpd[i]?) ∧ (s.mode ≠ mHOLD → s.extest i = none))

/-- A step takes the command at the front and runs it on the state with the queue's rest. -/
def Obligations.StepTakesFront : Prop :=
  ∀ (c : Instr) (rest : List Instr) (s : State), s.pending = c :: rest → step s = exec c { s with pending := rest }

/-- No step stops: every command answers a next state, and so does an empty queue. What raised nothing, took no output off and
asked for no WARM is followed up by nothing. -/
def Obligations.StepsAnswerNextStates : Prop :=
  (∀ (c : Instr) (s : State), ∃ t, exec c s = .next t) ∧ (∀ s : State, Safe.step s) ∧
  (∀ s : State, s.Quiet → s.settle = s)

/-- An empty queue lets one system tick of 1 µs pass, which moves TIME on by 1 µs while it runs undisturbed, and the rows that waited
for a stopped engine come back to the queue once it runs. That the idle step is the tick is the model's choice (log entry 8), and so is
what a stopped engine's row does (log entry 70). -/
def Obligations.IdleStepIsOneTick : Prop :=
  (∀ s : State, s.pending = [] → s.later = [] → step s = .next s.tickOn) ∧
  (∀ s : State, s.pending = [] → s.later ≠ [] → s.fe0Off = false → s.stopped 2 = false → s.stopped 3 = false →
    step s = .next { s.tickOn with pending := s.later, later := [] }) ∧
  (∀ s : State, s.due = [] → s.offQ = [] → s.flail.judge = none → s.flail.sync = false → s.flail.fin = 0 → s.serve = s) ∧
  (∀ s : State, s.serve = s → s.Quiet → s.up = true → s.clk.loaded = true → s.clk.slewLeft = 0 → s.rdI timeB TIME.FTRIM_FTRIM = 0 →
    s.clk.part < 1024000000 → s.timeTotal + 1000 < 2 ^ 34 * nsPerS → s.tickOn.timeTotal = s.timeTotal + 1000 ∧ s.tickOn.tick = s.tick + 1 ∧
      s.tickOn.nvm = s.nvm) ∧
  (∀ s : State, s.serve = s → s.Quiet → s.up = false → s.tickOn.timeNs = s.timeNs ∧ s.tickOn.timeSec = s.timeSec ∧
    s.tickOn.tick = s.tick + 1 ∧ s.tickOn.pending = s.pending)

/-- The state after reset: PARKED, every register at its reset word but RESET_CAUSE, which shows POR and BPOR_SEEN; nothing
waiting, and the invariant holds. That reset is POR without a feed is the model's choice (log entry 1). -/
def Obligations.ResetState : Prop :=
  State.reset.mode = mPARKED ∧ State.reset.Inv ∧ State.reset.Quiet ∧ State.reset.pending = [] ∧ State.reset.nvm = [] ∧
  State.reset.bit devB DEV.RESET_CAUSE_POR = true ∧ State.reset.bit devB DEV.RESET_CAUSE_BPOR_SEEN = true ∧
  (∀ k, k ≠ devB + DEV.RESET_CAUSE_POR.off → State.reset.getW k = resetWord k)

/-- Every step keeps the invariant: the register file and NVM stay in canonical form. -/
def Obligations.EveryStepKeepsInv : Prop :=
  ∀ s t : State, s.Inv → step s = .next t → t.Inv

/-- No command touches the queue. -/
def Obligations.NoCommandTouchesTheQueue : Prop :=
  ∀ (c : Instr) (s t : State), exec c s = .next t → t.pending = s.pending

/-- R64, R318 to R320, R323: a row that writes a register which the writer may not write changes nothing. -/
def Obligations.RefusedWritesChangeNothing : Prop :=
  (∀ (i : Instr) (c : Fin 8) (a : Nat) (v : Word) (s : State), writeOf i = some (c, a, v) → ¬ s.Accepts c a v → Does i s s) ∧
  (∀ (i : Instr) (c : Fin 8) (b : Nat) (f : Fld) (v : Nat) (s : State), fieldOf i = some (c, b, f, v) → ¬ s.AcceptsField c b f v →
    Does i s s) ∧
  (∀ (c : Fin 8) (p : Fin 3) (b : Bool) (s : State), s.up = false → Does (.portEnWrite c p b) s s) ∧
  (∀ (c : Fin 8) (a : Nat) (v : Word) (s : State), s.quar c = true → ¬ s.Accepts c a v) ∧
  (∀ (c : Fin 8) (a : Nat) (v : Word) (s : State), s.vioOut = true → ¬ s.Accepts c a v) ∧
  (∀ (c : Fin 8) (a : Nat) (v : Word) (s : State), s.ownReg c a = false → s.owned c a = true → ¬ s.Accepts c a v)

/-- R330, R335: a row that carries out a fetched command does nothing unless that command waits or runs. -/
def Obligations.RingRowsNeedTheirCommand : Prop :=
  (∀ (i : Instr) (t : BitVec 8) (op : Nat) (s : State), ringOf i = some (t, op) → s.findCmd t.toNat = none → Does i s s) ∧
  (∀ (i : Instr) (t : BitVec 8) (op : Nat) (k : Cmd) (s : State), ringOf i = some (t, op) → s.findCmd t.toNat = some k → k.op ≠ op →
    Does i s s)

/-- R320: a frame's words lie in one page from its address on, and if any is refused the whole frame is refused with the
status of the lowest of them. -/
def Obligations.FrameRefusedByLowestWord : Prop :=
  (∀ (f : Frame) (k : Nat), f.op = 2 → f.form = fsOK → k < f.len → (f.writes[k]?).map (·.1) = some (f.addr + 4 * k)) ∧
  (∀ (f : Frame) (k : Nat), f.op = 3 → f.form = fsOK → k < f.len / 2 → (f.writes[k]?).map (·.1) = some (f.addr + 4 * k)) ∧
  (∀ (c : Fin 8) (f : Frame) (j : Nat) (w : Nat × Word × Word) (i : Instr) (s : State), s.answers c = true → f.low = [] →
    (i = .write c f ∧ f.op = 2 ∨ i = .writeMasked c f ∧ f.op = 3) → f.form = fsOK → s.quar c = false → f.toRst = false →
    s.seqCheck c f.seq = fsOK → f.writes[j]? = some w → (s.wordCheck c f.addr w).1 ≠ fsOK →
    (∀ m v, m < j → f.writes[m]? = some v → (s.wordCheck c f.addr v).1 = fsOK) → Effect i s fun u =>
      (u.ctx c).lastSt = (s.wordCheck c f.addr w).1 ∧ u.nvm = s.nvm ∧ u.cmds = s.cmds ∧ u.otp = s.otp ∧ u.clk = s.clk ∧
      ∀ k, k / 0x400 ≠ 0x03 → k % 0x10000 / 0x400 ≠ 0x05 → intKey k = false → u.getW k = s.getW k) ∧
  (∀ (c : Fin 8) (a a0 : Nat) (m v : Word) (s : State), a / 0x400 ≠ a0 / 0x400 → (s.wordCheck c a0 (a, m, v)).1 = fsADDR) ∧
  (∀ (a n k : Nat) (s : State), k < n → (addrOk (a + 4 * k) = false ∨ (a + 4 * k) / 0x400 ≠ a / 0x400) →
    s.readCheck a n = (fsADDR, true))

/-- R87: while a bank is in use its three registers are refused as locked, and the other bank's three are taken while the page
is unlocked. -/
def Obligations.BankInUseIsLocked : Prop :=
  (∀ (c : Fin 8) (n : Fin 12) (k : Fin 3) (v : Word) (s : State), s.owned c (rail n) = false → s.rd (rail n) RAIL.STATUS_BANK = 0 →
    s.wrStatus c (rail n + 0x70 + 4 * k) 0xFFFFFFFF v = fsLOCKED) ∧
  (∀ (c : Fin 8) (n : Fin 12) (k : Fin 3) (v : Word) (s : State), s.owned c (rail n) = false → s.rd (rail n) RAIL.STATUS_BANK = 1 →
    s.wrStatus c (rail n + 0x7C + 4 * k) 0xFFFFFFFF v = fsLOCKED) ∧
  (∀ (c : Fin 8) (n : Fin 12) (k : Fin 3) (v : Word) (s : State), s.owned c (rail n) = false → s.pageLocked (rail n) = false →
    mRISING ≤ s.mode → s.mode ≤ mDRAINING → s.rd (rail n) RAIL.STATUS_BANK = 0 →
    s.wrStatus c (rail n + 0x7C + 4 * k) 0xFFFFFFFF v = fsOK) ∧
  (∀ (c : Fin 8) (n : Fin 12) (k : Fin 3) (v : Word) (s : State), s.owned c (rail n) = false → s.pageLocked (rail n) = false →
    mRISING ≤ s.mode → s.mode ≤ mDRAINING → s.rd (rail n) RAIL.STATUS_BANK = 1 →
    s.wrStatus c (rail n + 0x70 + 4 * k) 0xFFFFFFFF v = fsOK) ∧
  (∀ (c : Fin 8) (n : Fin 12) (k : Fin 3) (v : Word) (a0 : Nat) (s : State), s.owned c (rail n) = false → s.rd (rail n) RAIL.STATUS_BANK = 0 →
    a0 / 0x400 = rail n / 0x400 → (s.wordCheck c a0 (rail n + 0x70 + 4 * k, 0xFFFFFFFF, v)).1 = fsLOCKED)

/-- R368: ERR_MASK suppresses a raise of class C0 or C1 only; a raise of C2 or above is never suppressed; events 136 to 143
and the bits of FLT.ERR raise nothing. -/
def Obligations.MaskSuppressesLowClasses : Prop :=
  (∀ (b i ev cls : Nat) (d : Option Nat) (s : State), silentPage b = false → s.bit b (HDR.ERR_MASK.at i) = true → cls ≤ 1 →
    (s.err b i ev (some cls) d).raiseQ = s.raiseQ) ∧
  (∀ (b i ev cls : Nat) (d : Option Nat) (s : State), silentPage b = false → 2 ≤ cls →
    (s.err b i ev (some cls) d).raiseQ = insRaise s.raiseQ ⟨ev, cls, d, false⟩) ∧
  (∀ (b i ev cls : Nat) (d : Option Nat) (s : State), silentPage b = false → s.bit b (HDR.ERR_MASK.at i) = false →
    (s.err b i ev (some cls) d).raiseQ = insRaise s.raiseQ ⟨ev, cls, d, false⟩) ∧
  (∀ (i ev : Nat) (cls d : Option Nat) (s : State), (s.err fltB i ev cls d).raiseQ = s.raiseQ) ∧
  (∀ (c : Fin 8) (s : State), (s.ringIrq c).raiseQ = s.raiseQ)

/-- R360: SETPEND sets PEND whatever EN; the event is deliverable only while EN is 1; a number of 144 or above changes nothing
but ERR.BAD_ID, which raises nothing. -/
def Obligations.SetpendWhateverEn : Prop :=
  (∀ (c : Fin 8) (v : Word) (s : State), s.Accepts c 0x1854 v → getBits v 0 10 ≤ 143 → Effect (.setpend c v) s fun u =>
    u.intBit c 0x80 (getBits v 0 10) = true ∧ u.intBit c 0x60 (getBits v 0 10) = s.intBit c 0x60 (getBits v 0 10) ∧
    (∀ e, e < 160 → e ≠ getBits v 0 10 → u.intBit c 0x80 e = s.intBit c 0x80 e) ∧ u.raiseQ = s.raiseQ) ∧
  (∀ (c : Fin 8) (e : Nat) (s : State), s.intBit c 0x60 e = false → s.deliverable c e = false) ∧
  (∀ (c : Fin 8) (v : Word) (s : State), s.Accepts c 0x1854 v → 144 ≤ getBits v 0 10 → Effect (.setpend c v) s fun u =>
    u.bit intB (HDR.ERR.at 1) = true ∧ u.raiseQ = s.raiseQ ∧
    RegsOnly (fun k => k = intB + 0xC ∨ k = intB + 0x18) s { u with irqEv := s.irqEv })

/-- R359: CLAIM_DONE clears ACT of the event, and RUNNING shows the most urgent of the events still active; a number above 159
or one that is not active sets ERR.DONE_BAD and leaves ACT, PEND and MERGE alone. -/
def Obligations.ClaimDoneClearsActive : Prop :=
  (∀ (c : Fin 8) (v : Word) (s : State), s.Accepts c 0x184C v → getBits v 0 10 ≤ 159 → s.intBit c 0xA0 (getBits v 0 10) = true →
    Effect (.claimDone c v) s fun u => u.intBit c 0xA0 (getBits v 0 10) = false ∧
      (∀ e, e < 160 → e ≠ getBits v 0 10 → u.intBit c 0xA0 e = s.intBit c 0xA0 e) ∧
      u.rd (intC c) INT.RUNNING_ID = (u.running c).getD 0x3FF ∧ u.running c = u.urgent c (u.intBits c 0xA0)) ∧
  (∀ (c : Fin 8) (v : Word) (s : State), s.Accepts c 0x184C v →
    (159 < getBits v 0 10 ∨ s.intBit c 0xA0 (getBits v 0 10) = false) → Effect (.claimDone c v) s fun u =>
      u.bit intB (HDR.ERR.at 0) = true ∧ (∀ e, e < 160 → u.intBit c 0xA0 e = s.intBit c 0xA0 e ∧
        u.intBit c 0x80 e = s.intBit c 0x80 e ∧ u.intBit c 0xC0 e = s.intBit c 0xC0 e) ∧
      (∀ k, intKey k = false → u.getW k = s.getW k) ∧ u.raiseQ = s.raiseQ)
end

