-- ==== Sys2Proof/Laws/State.lean ====
section
/-! SUPPORT. Reads after writes: the register file by key and by field, and one lemma per field of the state for each way
of writing it. -/

namespace Sys2Proof.Machine

open Sys2Proof

/-! The register file, by key. -/

theorem findKey_dropKey_ne (l : List (Nat × Word)) {n k : Nat} (h : k ≠ n) : findKey (dropKey l n) k = findKey l k := by
  induction l with
  | nil => rfl
  | cons e t ih =>
    obtain ⟨a, v⟩ := e
    by_cases c : a = n
    · subst c
      have : findKey (dropKey ((a, v) :: t) a) k = findKey (dropKey t a) k := by simp [dropKey]
      rw [this, ih]
      simp [findKey, Ne.symm h]
    · have : dropKey ((a, v) :: t) n = (a, v) :: dropKey t n := by simp [dropKey, c]
      rw [this]
      simp only [findKey, ih]

theorem findKey_dropKey_eq (l : List (Nat × Word)) (n : Nat) : findKey (dropKey l n) n = none := by
  induction l with
  | nil => rfl
  | cons e t ih =>
    obtain ⟨a, v⟩ := e
    by_cases c : a = n
    · subst c
      have : dropKey ((a, v) :: t) a = dropKey t a := by simp [dropKey]
      rw [this, ih]
    · have : dropKey ((a, v) :: t) n = (a, v) :: dropKey t n := by simp [dropKey, c]
      rw [this]
      simp only [findKey, ih, c, if_false]

theorem findKey_insKey (l : List (Nat × Word)) (n : Nat) (x : Word) (k : Nat) (h : findKey l n = none) :
    findKey (insKey l n x) k = if n = k then some x else findKey l k := by
  induction l with
  | nil => rfl
  | cons e t ih =>
    obtain ⟨a, v⟩ := e
    have ha : a ≠ n := by
      intro c
      simp [findKey, c] at h
    have ht : findKey t n = none := by simpa [findKey, ha] using h
    by_cases c : n < a
    · simp only [insKey, c, if_true, findKey]
    · simp only [insKey, c, if_false, findKey, ih ht]
      by_cases e1 : a = k <;> by_cases e2 : n = k <;> simp [e1, e2]
      exact absurd (e1.trans e2.symm) ha

theorem findKey_setKey (l : List (Nat × Word)) (n : Nat) (x : Word) (k : Nat) :
    (findKey (setKey l n x) k).getD (resetWord k) = if k = n then x else (findKey l k).getD (resetWord k) := by
  unfold setKey
  by_cases hk : k = n
  · subst hk
    split
    · rename_i hx
      simp [findKey_dropKey_eq, hx]
    · simp [findKey_insKey _ _ _ _ (findKey_dropKey_eq l k)]
  · split
    · simp [findKey_dropKey_ne _ hk]
    · simp [findKey_insKey _ _ _ _ (findKey_dropKey_eq l n), findKey_dropKey_ne _ hk, Ne.symm hk]

/-- Reading a register after one is written. -/
theorem State.getW_setW (s : State) (n : Nat) (x : Word) (k : Nat) :
    (s.setW n x).getW k = if k = n then x else s.getW k := findKey_setKey s.regs n x k

@[simp] theorem State.getW_setW_eq (s : State) (n : Nat) (x : Word) : (s.setW n x).getW n = x := by
  simp [State.getW_setW]

theorem State.getW_setW_ne (s : State) {n k : Nat} (x : Word) (h : k ≠ n) : (s.setW n x).getW k = s.getW k := by
  simp [State.getW_setW, h]

theorem findKey_filter (l : List (Nat × Word)) (p : Nat → Bool) (k : Nat) :
    findKey (l.filter (fun e => p e.1)) k = if p k then findKey l k else none := by
  induction l with
  | nil => simp [findKey]
  | cons e t ih =>
    obtain ⟨a, v⟩ := e
    by_cases c : p a = true
    · by_cases h : a = k
      · subst h
        simp [findKey, c]
      · simp [findKey, c, h, ih]
    · by_cases h : a = k
      · subst h
        simp [c, ih]
      · simp [findKey, c, h, ih]

/-- Reading a register after some were put back to their reset words. -/
theorem State.getW_resetKeys (s : State) (p : Nat → Bool) (k : Nat) :
    (s.resetKeys p).getW k = if p k then resetWord k else s.getW k := by
  unfold State.getW State.resetKeys
  rw [findKey_filter s.regs (fun n => !p n) k]
  cases p k <;> rfl

/-! Bit fields. -/

theorem testBit_mask (lo w i : Nat) : ((2 ^ w - 1) <<< lo).testBit i = decide (lo ≤ i ∧ i < lo + w) := by
  rw [Nat.testBit_shiftLeft, Nat.testBit_two_pow_sub_one]
  by_cases h : lo ≤ i
  · simp [h]; omega
  · simp [h]

theorem testBit_putBits (v : Word) (lo w x i : Nat) (hi : i < 32) :
    (putBits v lo w x).toNat.testBit i =
      if lo ≤ i ∧ i < lo + w then x.testBit (i - lo) else v.toNat.testBit i := by
  have e : (putBits v lo w x).toNat.testBit i = (putBits v lo w x).getLsbD i := rfl
  rw [e]
  unfold putBits bitMask
  simp only [BitVec.getLsbD_or, BitVec.getLsbD_and, BitVec.getLsbD_not, BitVec.getLsbD_ofNat, hi,
    Nat.testBit_shiftLeft, Nat.testBit_mod_two_pow]
  by_cases h1 : lo ≤ i <;> by_cases h2 : i < lo + w
  · have h3 : i - lo < w := by omega
    simp [h1, h2, h3]
  · have h3 : ¬ i - lo < w := by omega
    simp [h1, h2, h3, BitVec.getLsbD]
  · simp [h1, BitVec.getLsbD]
  · simp [h1, BitVec.getLsbD]

theorem testBit_getBits (v : Word) (lo w i : Nat) :
    (getBits v lo w).testBit i = (decide (i < w) && v.toNat.testBit (lo + i)) := by
  unfold getBits
  rw [Nat.testBit_mod_two_pow, Nat.testBit_shiftRight]

/-- A field read after it is written. -/
theorem getBits_putBits (v : Word) (lo w x : Nat) (h : lo + w ≤ 32) : getBits (putBits v lo w x) lo w = x % 2 ^ w := by
  apply Nat.eq_of_testBit_eq
  intro i
  rw [testBit_getBits, Nat.testBit_mod_two_pow]
  by_cases hi : i < w
  · rw [testBit_putBits _ _ _ _ _ (by omega)]
    have h1 : lo ≤ lo + i ∧ lo + i < lo + w := ⟨by omega, by omega⟩
    simp [hi]
  · simp [hi]

/-- A field read after a field of other bits is written. -/
theorem getBits_putBits_off (v : Word) (lo w x lo' w' : Nat) (h : lo' + w' ≤ 32) (d : lo' + w' ≤ lo ∨ lo + w ≤ lo') :
    getBits (putBits v lo w x) lo' w' = getBits v lo' w' := by
  apply Nat.eq_of_testBit_eq
  intro i
  rw [testBit_getBits, testBit_getBits]
  by_cases hi : i < w'
  · rw [testBit_putBits _ _ _ _ _ (by omega)]
    have h1 : ¬ (lo ≤ lo' + i ∧ lo' + i < lo + w) := by omega
    simp [hi, h1]
  · simp [hi]

/-! Fields of the register file. -/

/-- A field as it reads after it was written: cut to its width. -/
theorem State.rd_wr_eq (s : State) (b : Nat) (f : Fld) (v : Nat) (h : f.lo + f.w ≤ 32) :
    (s.wr b f v).rd b f = v % 2 ^ f.w := by
  unfold State.rd State.wr
  rw [State.getW_setW_eq, getBits_putBits _ _ _ _ h]

/-- A field of another register. -/
theorem State.rd_wr_ne (s : State) (b : Nat) (f : Fld) (v b' : Nat) (f' : Fld) (h : b' + f'.off ≠ b + f.off) :
    (s.wr b f v).rd b' f' = s.rd b' f' := by
  unfold State.rd State.wr
  rw [State.getW_setW_ne _ _ h]

/-- A field of the same register, at other bits. -/
theorem State.rd_wr_off (s : State) (b : Nat) (f : Fld) (v b' : Nat) (f' : Fld) (e : b' + f'.off = b + f.off)
    (h : f'.lo + f'.w ≤ 32) (d : f'.lo + f'.w ≤ f.lo ∨ f.lo + f.w ≤ f'.lo) : (s.wr b f v).rd b' f' = s.rd b' f' := by
  unfold State.rd State.wr
  rw [e, State.getW_setW_eq, getBits_putBits_off _ _ _ _ _ _ h d]

/-- Fields of two places: another register, or other bits of the same one. -/
def Apart (b : Nat) (f : Fld) (b' : Nat) (f' : Fld) : Prop :=
  b' + f'.off ≠ b + f.off ∨ (f'.lo + f'.w ≤ 32 ∧ (f'.lo + f'.w ≤ f.lo ∨ f.lo + f.w ≤ f'.lo))

theorem State.rd_wr_apart (s : State) (b : Nat) (f : Fld) (v b' : Nat) (f' : Fld) (h : Apart b f b' f') :
    (s.wr b f v).rd b' f' = s.rd b' f' := by
  by_cases e : b' + f'.off = b + f.off
  · rcases h with h | h
    · exact absurd e h
    · exact s.rd_wr_off b f v b' f' e h.1 h.2
  · exact s.rd_wr_ne b f v b' f' e

theorem State.rd_lt (s : State) (b : Nat) (f : Fld) : s.rd b f < 2 ^ f.w := Nat.mod_lt _ (Nat.two_pow_pos _)

theorem State.getW_wr (s : State) (b : Nat) (f : Fld) (v k : Nat) :
    (s.wr b f v).getW k = if k = b + f.off then putBits (s.getW k) f.lo f.w v else s.getW k := by
  unfold State.wr
  rw [State.getW_setW]
  split
  · rename_i h; rw [h]
  · rfl

theorem State.wrB_eq (s : State) (b : Nat) (f : Fld) (v : Bool) : s.wrB b f v = s.wr b f (if v then 1 else 0) := rfl
theorem State.wrI_eq (s : State) (b : Nat) (f : Fld) (v : Int) : s.wrI b f v = s.wr b f (codeOf f.w v) := rfl


/-! A register write changes the register file only. -/

@[simp] theorem State.setW_pending (s : State) (k : Nat) (v : Word) : (s.setW k v).pending = s.pending := rfl
@[simp] theorem State.setW_tick (s : State) (k : Nat) (v : Word) : (s.setW k v).tick = s.tick := rfl
@[simp] theorem State.setW_since (s : State) (k : Nat) (v : Word) : (s.setW k v).since = s.since := rfl
@[simp] theorem State.setW_freeCtr (s : State) (k : Nat) (v : Word) : (s.setW k v).freeCtr = s.freeCtr := rfl
@[simp] theorem State.setW_timeNs (s : State) (k : Nat) (v : Word) : (s.setW k v).timeNs = s.timeNs := rfl
@[simp] theorem State.setW_timeSec (s : State) (k : Nat) (v : Word) : (s.setW k v).timeSec = s.timeSec := rfl
@[simp] theorem State.setW_ctxs (s : State) (k : Nat) (v : Word) : (s.setW k v).ctxs = s.ctxs := rfl
@[simp] theorem State.setW_cmds (s : State) (k : Nat) (v : Word) : (s.setW k v).cmds = s.cmds := rfl
@[simp] theorem State.setW_rr (s : State) (k : Nat) (v : Word) : (s.setW k v).rr = s.rr := rfl
@[simp] theorem State.setW_grants (s : State) (k : Nat) (v : Word) : (s.setW k v).grants = s.grants := rfl
@[simp] theorem State.setW_queues (s : State) (k : Nat) (v : Word) : (s.setW k v).queues = s.queues := rfl
@[simp] theorem State.setW_doomed (s : State) (k : Nat) (v : Word) : (s.setW k v).doomed = s.doomed := rfl
@[simp] theorem State.setW_act (s : State) (k : Nat) (v : Word) : (s.setW k v).act = s.act := rfl
@[simp] theorem State.setW_slotW (s : State) (k : Nat) (v : Word) : (s.setW k v).slotW = s.slotW := rfl
@[simp] theorem State.setW_raiseQ (s : State) (k : Nat) (v : Word) : (s.setW k v).raiseQ = s.raiseQ := rfl
@[simp] theorem State.setW_holds (s : State) (k : Nat) (v : Word) : (s.setW k v).holds = s.holds := rfl
@[simp] theorem State.setW_logQ (s : State) (k : Nat) (v : Word) : (s.setW k v).logQ = s.logQ := rfl
@[simp] theorem State.setW_logShut (s : State) (k : Nat) (v : Word) : (s.setW k v).logShut = s.logShut := rfl
@[simp] theorem State.setW_rails (s : State) (k : Nat) (v : Word) : (s.setW k v).rails = s.rails := rfl
@[simp] theorem State.setW_sheaves (s : State) (k : Nat) (v : Word) : (s.setW k v).sheaves = s.sheaves := rfl
@[simp] theorem State.setW_phases (s : State) (k : Nat) (v : Word) : (s.setW k v).phases = s.phases := rfl
@[simp] theorem State.setW_bucks (s : State) (k : Nat) (v : Word) : (s.setW k v).bucks = s.bucks := rfl
@[simp] theorem State.setW_outs (s : State) (k : Nat) (v : Word) : (s.setW k v).outs = s.outs := rfl
@[simp] theorem State.setW_offQ (s : State) (k : Nat) (v : Word) : (s.setW k v).offQ = s.offQ := rfl
@[simp] theorem State.setW_snaps (s : State) (k : Nat) (v : Word) : (s.setW k v).snaps = s.snaps := rfl
@[simp] theorem State.setW_snapNext (s : State) (k : Nat) (v : Word) : (s.setW k v).snapNext = s.snapNext := rfl
@[simp] theorem State.setW_snapLeft (s : State) (k : Nat) (v : Word) : (s.setW k v).snapLeft = s.snapLeft := rfl
@[simp] theorem State.setW_chan (s : State) (k : Nat) (v : Word) : (s.setW k v).chan = s.chan := rfl
@[simp] theorem State.setW_due (s : State) (k : Nat) (v : Word) : (s.setW k v).due = s.due := rfl
@[simp] theorem State.setW_later (s : State) (k : Nat) (v : Word) : (s.setW k v).later = s.later := rfl
@[simp] theorem State.setW_boot (s : State) (k : Nat) (v : Word) : (s.setW k v).boot = s.boot := rfl
@[simp] theorem State.setW_wakeRead (s : State) (k : Nat) (v : Word) : (s.setW k v).wakeRead = s.wakeRead := rfl
@[simp] theorem State.setW_wakeLvl (s : State) (k : Nat) (v : Word) : (s.setW k v).wakeLvl = s.wakeLvl := rfl
@[simp] theorem State.setW_wakeSeen (s : State) (k : Nat) (v : Word) : (s.setW k v).wakeSeen = s.wakeSeen := rfl
@[simp] theorem State.setW_wakeDone (s : State) (k : Nat) (v : Word) : (s.setW k v).wakeDone = s.wakeDone := rfl
@[simp] theorem State.setW_owls (s : State) (k : Nat) (v : Word) : (s.setW k v).owls = s.owls := rfl
@[simp] theorem State.setW_owlQ (s : State) (k : Nat) (v : Word) : (s.setW k v).owlQ = s.owlQ := rfl
@[simp] theorem State.setW_warmReq (s : State) (k : Nat) (v : Word) : (s.setW k v).warmReq = s.warmReq := rfl
@[simp] theorem State.setW_warmTest (s : State) (k : Nat) (v : Word) : (s.setW k v).warmTest = s.warmTest := rfl
@[simp] theorem State.setW_lsHalt (s : State) (k : Nat) (v : Word) : (s.setW k v).lsHalt = s.lsHalt := rfl
@[simp] theorem State.setW_lsWarm (s : State) (k : Nat) (v : Word) : (s.setW k v).lsWarm = s.lsWarm := rfl
@[simp] theorem State.setW_lsLast (s : State) (k : Nat) (v : Word) : (s.setW k v).lsLast = s.lsLast := rfl
@[simp] theorem State.setW_xiGood (s : State) (k : Nat) (v : Word) : (s.setW k v).xiGood = s.xiGood := rfl
@[simp] theorem State.setW_droops (s : State) (k : Nat) (v : Word) : (s.setW k v).droops = s.droops := rfl
@[simp] theorem State.setW_supOut (s : State) (k : Nat) (v : Word) : (s.setW k v).supOut = s.supOut := rfl
@[simp] theorem State.setW_bus (s : State) (k : Nat) (v : Word) : (s.setW k v).bus = s.bus := rfl
@[simp] theorem State.setW_chg (s : State) (k : Nat) (v : Word) : (s.setW k v).chg = s.chg := rfl
@[simp] theorem State.setW_kaHeld (s : State) (k : Nat) (v : Word) : (s.setW k v).kaHeld = s.kaHeld := rfl
@[simp] theorem State.setW_seq (s : State) (k : Nat) (v : Word) : (s.setW k v).seq = s.seq := rfl
@[simp] theorem State.setW_flail (s : State) (k : Nat) (v : Word) : (s.setW k v).flail = s.flail := rfl
@[simp] theorem State.setW_gpioHit (s : State) (k : Nat) (v : Word) : (s.setW k v).gpioHit = s.gpioHit := rfl
@[simp] theorem State.setW_pinSeq (s : State) (k : Nat) (v : Word) : (s.setW k v).pinSeq = s.pinSeq := rfl
@[simp] theorem State.setW_accs (s : State) (k : Nat) (v : Word) : (s.setW k v).accs = s.accs := rfl
@[simp] theorem State.setW_adc (s : State) (k : Nat) (v : Word) : (s.setW k v).adc = s.adc := rfl
@[simp] theorem State.setW_nodes (s : State) (k : Nat) (v : Word) : (s.setW k v).nodes = s.nodes := rfl
@[simp] theorem State.setW_thm (s : State) (k : Nat) (v : Word) : (s.setW k v).thm = s.thm := rfl
@[simp] theorem State.setW_ldrWait (s : State) (k : Nat) (v : Word) : (s.setW k v).ldrWait = s.ldrWait := rfl
@[simp] theorem State.setW_nvm (s : State) (k : Nat) (v : Word) : (s.setW k v).nvm = s.nvm := rfl
@[simp] theorem State.setW_retired (s : State) (k : Nat) (v : Word) : (s.setW k v).retired = s.retired := rfl
@[simp] theorem State.setW_retShort (s : State) (k : Nat) (v : Word) : (s.setW k v).retShort = s.retShort := rfl
@[simp] theorem State.setW_ceMs (s : State) (k : Nat) (v : Word) : (s.setW k v).ceMs = s.ceMs := rfl
@[simp] theorem State.setW_loftNext (s : State) (k : Nat) (v : Word) : (s.setW k v).loftNext = s.loftNext := rfl
@[simp] theorem State.setW_otp (s : State) (k : Nat) (v : Word) : (s.setW k v).otp = s.otp := rfl
@[simp] theorem State.setW_otpCtl (s : State) (k : Nat) (v : Word) : (s.setW k v).otpCtl = s.otpCtl := rfl
@[simp] theorem State.setW_otpOvr (s : State) (k : Nat) (v : Word) : (s.setW k v).otpOvr = s.otpOvr := rfl
@[simp] theorem State.setW_clk (s : State) (k : Nat) (v : Word) : (s.setW k v).clk = s.clk := rfl
@[simp] theorem State.setW_twis (s : State) (k : Nat) (v : Word) : (s.setW k v).twis = s.twis := rfl
@[simp] theorem State.setW_twiGot (s : State) (k : Nat) (v : Word) : (s.setW k v).twiGot = s.twiGot := rfl
@[simp] theorem State.setW_spareClr (s : State) (k : Nat) (v : Word) : (s.setW k v).spareClr = s.spareClr := rfl
@[simp] theorem State.setW_wasLock (s : State) (k : Nat) (v : Word) : (s.setW k v).wasLock = s.wasLock := rfl
@[simp] theorem State.setW_dieTrip (s : State) (k : Nat) (v : Word) : (s.setW k v).dieTrip = s.dieTrip := rfl
@[simp] theorem State.setW_vioOut (s : State) (k : Nat) (v : Word) : (s.setW k v).vioOut = s.vioOut := rfl
@[simp] theorem State.setW_tap (s : State) (k : Nat) (v : Word) : (s.setW k v).tap = s.tap := rfl
@[simp] theorem State.setW_tapIns (s : State) (k : Nat) (v : Word) : (s.setW k v).tapIns = s.tapIns := rfl
@[simp] theorem State.setW_tapBit (s : State) (k : Nat) (v : Word) : (s.setW k v).tapBit = s.tapBit := rfl
@[simp] theorem State.setW_bsCells (s : State) (k : Nat) (v : Word) : (s.setW k v).bsCells = s.bsCells := rfl
@[simp] theorem State.setW_bsUpd (s : State) (k : Nat) (v : Word) : (s.setW k v).bsUpd = s.bsUpd := rfl
@[simp] theorem State.setW_tdo (s : State) (k : Nat) (v : Word) : (s.setW k v).tdo = s.tdo := rfl
@[simp] theorem State.setW_irqEv (s : State) (k : Nat) (v : Word) : (s.setW k v).irqEv = s.irqEv := rfl
@[simp] theorem State.setW_pinKeep (s : State) (k : Nat) (v : Word) : (s.setW k v).pinKeep = s.pinKeep := rfl

@[simp] theorem State.wr_pending (s : State) (b : Nat) (f : Fld) (v : Nat) : (s.wr b f v).pending = s.pending := rfl
@[simp] theorem State.wr_tick (s : State) (b : Nat) (f : Fld) (v : Nat) : (s.wr b f v).tick = s.tick := rfl
@[simp] theorem State.wr_since (s : State) (b : Nat) (f : Fld) (v : Nat) : (s.wr b f v).since = s.since := rfl
@[simp] theorem State.wr_freeCtr (s : State) (b : Nat) (f : Fld) (v : Nat) : (s.wr b f v).freeCtr = s.freeCtr := rfl
@[simp] theorem State.wr_timeNs (s : State) (b : Nat) (f : Fld) (v : Nat) : (s.wr b f v).timeNs = s.timeNs := rfl
@[simp] theorem State.wr_timeSec (s : State) (b : Nat) (f : Fld) (v : Nat) : (s.wr b f v).timeSec = s.timeSec := rfl
@[simp] theorem State.wr_ctxs (s : State) (b : Nat) (f : Fld) (v : Nat) : (s.wr b f v).ctxs = s.ctxs := rfl
@[simp] theorem State.wr_cmds (s : State) (b : Nat) (f : Fld) (v : Nat) : (s.wr b f v).cmds = s.cmds := rfl
@[simp] theorem State.wr_rr (s : State) (b : Nat) (f : Fld) (v : Nat) : (s.wr b f v).rr = s.rr := rfl
@[simp] theorem State.wr_grants (s : State) (b : Nat) (f : Fld) (v : Nat) : (s.wr b f v).grants = s.grants := rfl
@[simp] theorem State.wr_queues (s : State) (b : Nat) (f : Fld) (v : Nat) : (s.wr b f v).queues = s.queues := rfl
@[simp] theorem State.wr_doomed (s : State) (b : Nat) (f : Fld) (v : Nat) : (s.wr b f v).doomed = s.doomed := rfl
@[simp] theorem State.wr_act (s : State) (b : Nat) (f : Fld) (v : Nat) : (s.wr b f v).act = s.act := rfl
@[simp] theorem State.wr_slotW (s : State) (b : Nat) (f : Fld) (v : Nat) : (s.wr b f v).slotW = s.slotW := rfl
@[simp] theorem State.wr_raiseQ (s : State) (b : Nat) (f : Fld) (v : Nat) : (s.wr b f v).raiseQ = s.raiseQ := rfl
@[simp] theorem State.wr_holds (s : State) (b : Nat) (f : Fld) (v : Nat) : (s.wr b f v).holds = s.holds := rfl
@[simp] theorem State.wr_logQ (s : State) (b : Nat) (f : Fld) (v : Nat) : (s.wr b f v).logQ = s.logQ := rfl
@[simp] theorem State.wr_logShut (s : State) (b : Nat) (f : Fld) (v : Nat) : (s.wr b f v).logShut = s.logShut := rfl
@[simp] theorem State.wr_rails (s : State) (b : Nat) (f : Fld) (v : Nat) : (s.wr b f v).rails = s.rails := rfl
@[simp] theorem State.wr_sheaves (s : State) (b : Nat) (f : Fld) (v : Nat) : (s.wr b f v).sheaves = s.sheaves := rfl
@[simp] theorem State.wr_phases (s : State) (b : Nat) (f : Fld) (v : Nat) : (s.wr b f v).phases = s.phases := rfl
@[simp] theorem State.wr_bucks (s : State) (b : Nat) (f : Fld) (v : Nat) : (s.wr b f v).bucks = s.bucks := rfl
@[simp] theorem State.wr_outs (s : State) (b : Nat) (f : Fld) (v : Nat) : (s.wr b f v).outs = s.outs := rfl
@[simp] theorem State.wr_offQ (s : State) (b : Nat) (f : Fld) (v : Nat) : (s.wr b f v).offQ = s.offQ := rfl
@[simp] theorem State.wr_snaps (s : State) (b : Nat) (f : Fld) (v : Nat) : (s.wr b f v).snaps = s.snaps := rfl
@[simp] theorem State.wr_snapNext (s : State) (b : Nat) (f : Fld) (v : Nat) : (s.wr b f v).snapNext = s.snapNext := rfl
@[simp] theorem State.wr_snapLeft (s : State) (b : Nat) (f : Fld) (v : Nat) : (s.wr b f v).snapLeft = s.snapLeft := rfl
@[simp] theorem State.wr_chan (s : State) (b : Nat) (f : Fld) (v : Nat) : (s.wr b f v).chan = s.chan := rfl
@[simp] theorem State.wr_due (s : State) (b : Nat) (f : Fld) (v : Nat) : (s.wr b f v).due = s.due := rfl
@[simp] theorem State.wr_later (s : State) (b : Nat) (f : Fld) (v : Nat) : (s.wr b f v).later = s.later := rfl
@[simp] theorem State.wr_boot (s : State) (b : Nat) (f : Fld) (v : Nat) : (s.wr b f v).boot = s.boot := rfl
@[simp] theorem State.wr_wakeRead (s : State) (b : Nat) (f : Fld) (v : Nat) : (s.wr b f v).wakeRead = s.wakeRead := rfl
@[simp] theorem State.wr_wakeLvl (s : State) (b : Nat) (f : Fld) (v : Nat) : (s.wr b f v).wakeLvl = s.wakeLvl := rfl
@[simp] theorem State.wr_wakeSeen (s : State) (b : Nat) (f : Fld) (v : Nat) : (s.wr b f v).wakeSeen = s.wakeSeen := rfl
@[simp] theorem State.wr_wakeDone (s : State) (b : Nat) (f : Fld) (v : Nat) : (s.wr b f v).wakeDone = s.wakeDone := rfl
@[simp] theorem State.wr_owls (s : State) (b : Nat) (f : Fld) (v : Nat) : (s.wr b f v).owls = s.owls := rfl
@[simp] theorem State.wr_owlQ (s : State) (b : Nat) (f : Fld) (v : Nat) : (s.wr b f v).owlQ = s.owlQ := rfl
@[simp] theorem State.wr_warmReq (s : State) (b : Nat) (f : Fld) (v : Nat) : (s.wr b f v).warmReq = s.warmReq := rfl
@[simp] theorem State.wr_warmTest (s : State) (b : Nat) (f : Fld) (v : Nat) : (s.wr b f v).warmTest = s.warmTest := rfl
@[simp] theorem State.wr_lsHalt (s : State) (b : Nat) (f : Fld) (v : Nat) : (s.wr b f v).lsHalt = s.lsHalt := rfl
@[simp] theorem State.wr_lsWarm (s : State) (b : Nat) (f : Fld) (v : Nat) : (s.wr b f v).lsWarm = s.lsWarm := rfl
@[simp] theorem State.wr_lsLast (s : State) (b : Nat) (f : Fld) (v : Nat) : (s.wr b f v).lsLast = s.lsLast := rfl
@[simp] theorem State.wr_xiGood (s : State) (b : Nat) (f : Fld) (v : Nat) : (s.wr b f v).xiGood = s.xiGood := rfl
@[simp] theorem State.wr_droops (s : State) (b : Nat) (f : Fld) (v : Nat) : (s.wr b f v).droops = s.droops := rfl
@[simp] theorem State.wr_supOut (s : State) (b : Nat) (f : Fld) (v : Nat) : (s.wr b f v).supOut = s.supOut := rfl
@[simp] theorem State.wr_bus (s : State) (b : Nat) (f : Fld) (v : Nat) : (s.wr b f v).bus = s.bus := rfl
@[simp] theorem State.wr_chg (s : State) (b : Nat) (f : Fld) (v : Nat) : (s.wr b f v).chg = s.chg := rfl
@[simp] theorem State.wr_kaHeld (s : State) (b : Nat) (f : Fld) (v : Nat) : (s.wr b f v).kaHeld = s.kaHeld := rfl
@[simp] theorem State.wr_seq (s : State) (b : Nat) (f : Fld) (v : Nat) : (s.wr b f v).seq = s.seq := rfl
@[simp] theorem State.wr_flail (s : State) (b : Nat) (f : Fld) (v : Nat) : (s.wr b f v).flail = s.flail := rfl
@[simp] theorem State.wr_gpioHit (s : State) (b : Nat) (f : Fld) (v : Nat) : (s.wr b f v).gpioHit = s.gpioHit := rfl
@[simp] theorem State.wr_pinSeq (s : State) (b : Nat) (f : Fld) (v : Nat) : (s.wr b f v).pinSeq = s.pinSeq := rfl
@[simp] theorem State.wr_accs (s : State) (b : Nat) (f : Fld) (v : Nat) : (s.wr b f v).accs = s.accs := rfl
@[simp] theorem State.wr_adc (s : State) (b : Nat) (f : Fld) (v : Nat) : (s.wr b f v).adc = s.adc := rfl
@[simp] theorem State.wr_nodes (s : State) (b : Nat) (f : Fld) (v : Nat) : (s.wr b f v).nodes = s.nodes := rfl
@[simp] theorem State.wr_thm (s : State) (b : Nat) (f : Fld) (v : Nat) : (s.wr b f v).thm = s.thm := rfl
@[simp] theorem State.wr_ldrWait (s : State) (b : Nat) (f : Fld) (v : Nat) : (s.wr b f v).ldrWait = s.ldrWait := rfl
@[simp] theorem State.wr_nvm (s : State) (b : Nat) (f : Fld) (v : Nat) : (s.wr b f v).nvm = s.nvm := rfl
@[simp] theorem State.wr_retired (s : State) (b : Nat) (f : Fld) (v : Nat) : (s.wr b f v).retired = s.retired := rfl
@[simp] theorem State.wr_retShort (s : State) (b : Nat) (f : Fld) (v : Nat) : (s.wr b f v).retShort = s.retShort := rfl
@[simp] theorem State.wr_ceMs (s : State) (b : Nat) (f : Fld) (v : Nat) : (s.wr b f v).ceMs = s.ceMs := rfl
@[simp] theorem State.wr_loftNext (s : State) (b : Nat) (f : Fld) (v : Nat) : (s.wr b f v).loftNext = s.loftNext := rfl
@[simp] theorem State.wr_otp (s : State) (b : Nat) (f : Fld) (v : Nat) : (s.wr b f v).otp = s.otp := rfl
@[simp] theorem State.wr_otpCtl (s : State) (b : Nat) (f : Fld) (v : Nat) : (s.wr b f v).otpCtl = s.otpCtl := rfl
@[simp] theorem State.wr_otpOvr (s : State) (b : Nat) (f : Fld) (v : Nat) : (s.wr b f v).otpOvr = s.otpOvr := rfl
@[simp] theorem State.wr_clk (s : State) (b : Nat) (f : Fld) (v : Nat) : (s.wr b f v).clk = s.clk := rfl
@[simp] theorem State.wr_twis (s : State) (b : Nat) (f : Fld) (v : Nat) : (s.wr b f v).twis = s.twis := rfl
@[simp] theorem State.wr_twiGot (s : State) (b : Nat) (f : Fld) (v : Nat) : (s.wr b f v).twiGot = s.twiGot := rfl
@[simp] theorem State.wr_spareClr (s : State) (b : Nat) (f : Fld) (v : Nat) : (s.wr b f v).spareClr = s.spareClr := rfl
@[simp] theorem State.wr_wasLock (s : State) (b : Nat) (f : Fld) (v : Nat) : (s.wr b f v).wasLock = s.wasLock := rfl
@[simp] theorem State.wr_dieTrip (s : State) (b : Nat) (f : Fld) (v : Nat) : (s.wr b f v).dieTrip = s.dieTrip := rfl
@[simp] theorem State.wr_vioOut (s : State) (b : Nat) (f : Fld) (v : Nat) : (s.wr b f v).vioOut = s.vioOut := rfl
@[simp] theorem State.wr_tap (s : State) (b : Nat) (f : Fld) (v : Nat) : (s.wr b f v).tap = s.tap := rfl
@[simp] theorem State.wr_tapIns (s : State) (b : Nat) (f : Fld) (v : Nat) : (s.wr b f v).tapIns = s.tapIns := rfl
@[simp] theorem State.wr_tapBit (s : State) (b : Nat) (f : Fld) (v : Nat) : (s.wr b f v).tapBit = s.tapBit := rfl
@[simp] theorem State.wr_bsCells (s : State) (b : Nat) (f : Fld) (v : Nat) : (s.wr b f v).bsCells = s.bsCells := rfl
@[simp] theorem State.wr_bsUpd (s : State) (b : Nat) (f : Fld) (v : Nat) : (s.wr b f v).bsUpd = s.bsUpd := rfl
@[simp] theorem State.wr_tdo (s : State) (b : Nat) (f : Fld) (v : Nat) : (s.wr b f v).tdo = s.tdo := rfl
@[simp] theorem State.wr_irqEv (s : State) (b : Nat) (f : Fld) (v : Nat) : (s.wr b f v).irqEv = s.irqEv := rfl
@[simp] theorem State.wr_pinKeep (s : State) (b : Nat) (f : Fld) (v : Nat) : (s.wr b f v).pinKeep = s.pinKeep := rfl

@[simp] theorem State.wrB_pending (s : State) (b : Nat) (f : Fld) (v : Bool) : (s.wrB b f v).pending = s.pending := rfl
@[simp] theorem State.wrB_tick (s : State) (b : Nat) (f : Fld) (v : Bool) : (s.wrB b f v).tick = s.tick := rfl
@[simp] theorem State.wrB_since (s : State) (b : Nat) (f : Fld) (v : Bool) : (s.wrB b f v).since = s.since := rfl
@[simp] theorem State.wrB_freeCtr (s : State) (b : Nat) (f : Fld) (v : Bool) : (s.wrB b f v).freeCtr = s.freeCtr := rfl
@[simp] theorem State.wrB_timeNs (s : State) (b : Nat) (f : Fld) (v : Bool) : (s.wrB b f v).timeNs = s.timeNs := rfl
@[simp] theorem State.wrB_timeSec (s : State) (b : Nat) (f : Fld) (v : Bool) : (s.wrB b f v).timeSec = s.timeSec := rfl
@[simp] theorem State.wrB_ctxs (s : State) (b : Nat) (f : Fld) (v : Bool) : (s.wrB b f v).ctxs = s.ctxs := rfl
@[simp] theorem State.wrB_cmds (s : State) (b : Nat) (f : Fld) (v : Bool) : (s.wrB b f v).cmds = s.cmds := rfl
@[simp] theorem State.wrB_rr (s : State) (b : Nat) (f : Fld) (v : Bool) : (s.wrB b f v).rr = s.rr := rfl
@[simp] theorem State.wrB_grants (s : State) (b : Nat) (f : Fld) (v : Bool) : (s.wrB b f v).grants = s.grants := rfl
@[simp] theorem State.wrB_queues (s : State) (b : Nat) (f : Fld) (v : Bool) : (s.wrB b f v).queues = s.queues := rfl
@[simp] theorem State.wrB_doomed (s : State) (b : Nat) (f : Fld) (v : Bool) : (s.wrB b f v).doomed = s.doomed := rfl
@[simp] theorem State.wrB_act (s : State) (b : Nat) (f : Fld) (v : Bool) : (s.wrB b f v).act = s.act := rfl
@[simp] theorem State.wrB_slotW (s : State) (b : Nat) (f : Fld) (v : Bool) : (s.wrB b f v).slotW = s.slotW := rfl
@[simp] theorem State.wrB_raiseQ (s : State) (b : Nat) (f : Fld) (v : Bool) : (s.wrB b f v).raiseQ = s.raiseQ := rfl
@[simp] theorem State.wrB_holds (s : State) (b : Nat) (f : Fld) (v : Bool) : (s.wrB b f v).holds = s.holds := rfl
@[simp] theorem State.wrB_logQ (s : State) (b : Nat) (f : Fld) (v : Bool) : (s.wrB b f v).logQ = s.logQ := rfl
@[simp] theorem State.wrB_logShut (s : State) (b : Nat) (f : Fld) (v : Bool) : (s.wrB b f v).logShut = s.logShut := rfl
@[simp] theorem State.wrB_rails (s : State) (b : Nat) (f : Fld) (v : Bool) : (s.wrB b f v).rails = s.rails := rfl
@[simp] theorem State.wrB_sheaves (s : State) (b : Nat) (f : Fld) (v : Bool) : (s.wrB b f v).sheaves = s.sheaves := rfl
@[simp] theorem State.wrB_phases (s : State) (b : Nat) (f : Fld) (v : Bool) : (s.wrB b f v).phases = s.phases := rfl
@[simp] theorem State.wrB_bucks (s : State) (b : Nat) (f : Fld) (v : Bool) : (s.wrB b f v).bucks = s.bucks := rfl
@[simp] theorem State.wrB_outs (s : State) (b : Nat) (f : Fld) (v : Bool) : (s.wrB b f v).outs = s.outs := rfl
@[simp] theorem State.wrB_offQ (s : State) (b : Nat) (f : Fld) (v : Bool) : (s.wrB b f v).offQ = s.offQ := rfl
@[simp] theorem State.wrB_snaps (s : State) (b : Nat) (f : Fld) (v : Bool) : (s.wrB b f v).snaps = s.snaps := rfl
@[simp] theorem State.wrB_snapNext (s : State) (b : Nat) (f : Fld) (v : Bool) : (s.wrB b f v).snapNext = s.snapNext := rfl
@[simp] theorem State.wrB_snapLeft (s : State) (b : Nat) (f : Fld) (v : Bool) : (s.wrB b f v).snapLeft = s.snapLeft := rfl
@[simp] theorem State.wrB_chan (s : State) (b : Nat) (f : Fld) (v : Bool) : (s.wrB b f v).chan = s.chan := rfl
@[simp] theorem State.wrB_due (s : State) (b : Nat) (f : Fld) (v : Bool) : (s.wrB b f v).due = s.due := rfl
@[simp] theorem State.wrB_later (s : State) (b : Nat) (f : Fld) (v : Bool) : (s.wrB b f v).later = s.later := rfl
@[simp] theorem State.wrB_boot (s : State) (b : Nat) (f : Fld) (v : Bool) : (s.wrB b f v).boot = s.boot := rfl
@[simp] theorem State.wrB_wakeRead (s : State) (b : Nat) (f : Fld) (v : Bool) : (s.wrB b f v).wakeRead = s.wakeRead := rfl
@[simp] theorem State.wrB_wakeLvl (s : State) (b : Nat) (f : Fld) (v : Bool) : (s.wrB b f v).wakeLvl = s.wakeLvl := rfl
@[simp] theorem State.wrB_wakeSeen (s : State) (b : Nat) (f : Fld) (v : Bool) : (s.wrB b f v).wakeSeen = s.wakeSeen := rfl
@[simp] theorem State.wrB_wakeDone (s : State) (b : Nat) (f : Fld) (v : Bool) : (s.wrB b f v).wakeDone = s.wakeDone := rfl
@[simp] theorem State.wrB_owls (s : State) (b : Nat) (f : Fld) (v : Bool) : (s.wrB b f v).owls = s.owls := rfl
@[simp] theorem State.wrB_owlQ (s : State) (b : Nat) (f : Fld) (v : Bool) : (s.wrB b f v).owlQ = s.owlQ := rfl
@[simp] theorem State.wrB_warmReq (s : State) (b : Nat) (f : Fld) (v : Bool) : (s.wrB b f v).warmReq = s.warmReq := rfl
@[simp] theorem State.wrB_warmTest (s : State) (b : Nat) (f : Fld) (v : Bool) : (s.wrB b f v).warmTest = s.warmTest := rfl
@[simp] theorem State.wrB_lsHalt (s : State) (b : Nat) (f : Fld) (v : Bool) : (s.wrB b f v).lsHalt = s.lsHalt := rfl
@[simp] theorem State.wrB_lsWarm (s : State) (b : Nat) (f : Fld) (v : Bool) : (s.wrB b f v).lsWarm = s.lsWarm := rfl
@[simp] theorem State.wrB_lsLast (s : State) (b : Nat) (f : Fld) (v : Bool) : (s.wrB b f v).lsLast = s.lsLast := rfl
@[simp] theorem State.wrB_xiGood (s : State) (b : Nat) (f : Fld) (v : Bool) : (s.wrB b f v).xiGood = s.xiGood := rfl
@[simp] theorem State.wrB_droops (s : State) (b : Nat) (f : Fld) (v : Bool) : (s.wrB b f v).droops = s.droops := rfl
@[simp] theorem State.wrB_supOut (s : State) (b : Nat) (f : Fld) (v : Bool) : (s.wrB b f v).supOut = s.supOut := rfl
@[simp] theorem State.wrB_bus (s : State) (b : Nat) (f : Fld) (v : Bool) : (s.wrB b f v).bus = s.bus := rfl
@[simp] theorem State.wrB_chg (s : State) (b : Nat) (f : Fld) (v : Bool) : (s.wrB b f v).chg = s.chg := rfl
@[simp] theorem State.wrB_kaHeld (s : State) (b : Nat) (f : Fld) (v : Bool) : (s.wrB b f v).kaHeld = s.kaHeld := rfl
@[simp] theorem State.wrB_seq (s : State) (b : Nat) (f : Fld) (v : Bool) : (s.wrB b f v).seq = s.seq := rfl
@[simp] theorem State.wrB_flail (s : State) (b : Nat) (f : Fld) (v : Bool) : (s.wrB b f v).flail = s.flail := rfl
@[simp] theorem State.wrB_gpioHit (s : State) (b : Nat) (f : Fld) (v : Bool) : (s.wrB b f v).gpioHit = s.gpioHit := rfl
@[simp] theorem State.wrB_pinSeq (s : State) (b : Nat) (f : Fld) (v : Bool) : (s.wrB b f v).pinSeq = s.pinSeq := rfl
@[simp] theorem State.wrB_accs (s : State) (b : Nat) (f : Fld) (v : Bool) : (s.wrB b f v).accs = s.accs := rfl
@[simp] theorem State.wrB_adc (s : State) (b : Nat) (f : Fld) (v : Bool) : (s.wrB b f v).adc = s.adc := rfl
@[simp] theorem State.wrB_nodes (s : State) (b : Nat) (f : Fld) (v : Bool) : (s.wrB b f v).nodes = s.nodes := rfl
@[simp] theorem State.wrB_thm (s : State) (b : Nat) (f : Fld) (v : Bool) : (s.wrB b f v).thm = s.thm := rfl
@[simp] theorem State.wrB_ldrWait (s : State) (b : Nat) (f : Fld) (v : Bool) : (s.wrB b f v).ldrWait = s.ldrWait := rfl
@[simp] theorem State.wrB_nvm (s : State) (b : Nat) (f : Fld) (v : Bool) : (s.wrB b f v).nvm = s.nvm := rfl
@[simp] theorem State.wrB_retired (s : State) (b : Nat) (f : Fld) (v : Bool) : (s.wrB b f v).retired = s.retired := rfl
@[simp] theorem State.wrB_retShort (s : State) (b : Nat) (f : Fld) (v : Bool) : (s.wrB b f v).retShort = s.retShort := rfl
@[simp] theorem State.wrB_ceMs (s : State) (b : Nat) (f : Fld) (v : Bool) : (s.wrB b f v).ceMs = s.ceMs := rfl
@[simp] theorem State.wrB_loftNext (s : State) (b : Nat) (f : Fld) (v : Bool) : (s.wrB b f v).loftNext = s.loftNext := rfl
@[simp] theorem State.wrB_otp (s : State) (b : Nat) (f : Fld) (v : Bool) : (s.wrB b f v).otp = s.otp := rfl
@[simp] theorem State.wrB_otpCtl (s : State) (b : Nat) (f : Fld) (v : Bool) : (s.wrB b f v).otpCtl = s.otpCtl := rfl
@[simp] theorem State.wrB_otpOvr (s : State) (b : Nat) (f : Fld) (v : Bool) : (s.wrB b f v).otpOvr = s.otpOvr := rfl
@[simp] theorem State.wrB_clk (s : State) (b : Nat) (f : Fld) (v : Bool) : (s.wrB b f v).clk = s.clk := rfl
@[simp] theorem State.wrB_twis (s : State) (b : Nat) (f : Fld) (v : Bool) : (s.wrB b f v).twis = s.twis := rfl
@[simp] theorem State.wrB_twiGot (s : State) (b : Nat) (f : Fld) (v : Bool) : (s.wrB b f v).twiGot = s.twiGot := rfl
@[simp] theorem State.wrB_spareClr (s : State) (b : Nat) (f : Fld) (v : Bool) : (s.wrB b f v).spareClr = s.spareClr := rfl
@[simp] theorem State.wrB_wasLock (s : State) (b : Nat) (f : Fld) (v : Bool) : (s.wrB b f v).wasLock = s.wasLock := rfl
@[simp] theorem State.wrB_dieTrip (s : State) (b : Nat) (f : Fld) (v : Bool) : (s.wrB b f v).dieTrip = s.dieTrip := rfl
@[simp] theorem State.wrB_vioOut (s : State) (b : Nat) (f : Fld) (v : Bool) : (s.wrB b f v).vioOut = s.vioOut := rfl
@[simp] theorem State.wrB_tap (s : State) (b : Nat) (f : Fld) (v : Bool) : (s.wrB b f v).tap = s.tap := rfl
@[simp] theorem State.wrB_tapIns (s : State) (b : Nat) (f : Fld) (v : Bool) : (s.wrB b f v).tapIns = s.tapIns := rfl
@[simp] theorem State.wrB_tapBit (s : State) (b : Nat) (f : Fld) (v : Bool) : (s.wrB b f v).tapBit = s.tapBit := rfl
@[simp] theorem State.wrB_bsCells (s : State) (b : Nat) (f : Fld) (v : Bool) : (s.wrB b f v).bsCells = s.bsCells := rfl
@[simp] theorem State.wrB_bsUpd (s : State) (b : Nat) (f : Fld) (v : Bool) : (s.wrB b f v).bsUpd = s.bsUpd := rfl
@[simp] theorem State.wrB_tdo (s : State) (b : Nat) (f : Fld) (v : Bool) : (s.wrB b f v).tdo = s.tdo := rfl
@[simp] theorem State.wrB_irqEv (s : State) (b : Nat) (f : Fld) (v : Bool) : (s.wrB b f v).irqEv = s.irqEv := rfl
@[simp] theorem State.wrB_pinKeep (s : State) (b : Nat) (f : Fld) (v : Bool) : (s.wrB b f v).pinKeep = s.pinKeep := rfl

@[simp] theorem State.wrI_pending (s : State) (b : Nat) (f : Fld) (v : Int) : (s.wrI b f v).pending = s.pending := rfl
@[simp] theorem State.wrI_tick (s : State) (b : Nat) (f : Fld) (v : Int) : (s.wrI b f v).tick = s.tick := rfl
@[simp] theorem State.wrI_since (s : State) (b : Nat) (f : Fld) (v : Int) : (s.wrI b f v).since = s.since := rfl
@[simp] theorem State.wrI_freeCtr (s : State) (b : Nat) (f : Fld) (v : Int) : (s.wrI b f v).freeCtr = s.freeCtr := rfl
@[simp] theorem State.wrI_timeNs (s : State) (b : Nat) (f : Fld) (v : Int) : (s.wrI b f v).timeNs = s.timeNs := rfl
@[simp] theorem State.wrI_timeSec (s : State) (b : Nat) (f : Fld) (v : Int) : (s.wrI b f v).timeSec = s.timeSec := rfl
@[simp] theorem State.wrI_ctxs (s : State) (b : Nat) (f : Fld) (v : Int) : (s.wrI b f v).ctxs = s.ctxs := rfl
@[simp] theorem State.wrI_cmds (s : State) (b : Nat) (f : Fld) (v : Int) : (s.wrI b f v).cmds = s.cmds := rfl
@[simp] theorem State.wrI_rr (s : State) (b : Nat) (f : Fld) (v : Int) : (s.wrI b f v).rr = s.rr := rfl
@[simp] theorem State.wrI_grants (s : State) (b : Nat) (f : Fld) (v : Int) : (s.wrI b f v).grants = s.grants := rfl
@[simp] theorem State.wrI_queues (s : State) (b : Nat) (f : Fld) (v : Int) : (s.wrI b f v).queues = s.queues := rfl
@[simp] theorem State.wrI_doomed (s : State) (b : Nat) (f : Fld) (v : Int) : (s.wrI b f v).doomed = s.doomed := rfl
@[simp] theorem State.wrI_act (s : State) (b : Nat) (f : Fld) (v : Int) : (s.wrI b f v).act = s.act := rfl
@[simp] theorem State.wrI_slotW (s : State) (b : Nat) (f : Fld) (v : Int) : (s.wrI b f v).slotW = s.slotW := rfl
@[simp] theorem State.wrI_raiseQ (s : State) (b : Nat) (f : Fld) (v : Int) : (s.wrI b f v).raiseQ = s.raiseQ := rfl
@[simp] theorem State.wrI_holds (s : State) (b : Nat) (f : Fld) (v : Int) : (s.wrI b f v).holds = s.holds := rfl
@[simp] theorem State.wrI_logQ (s : State) (b : Nat) (f : Fld) (v : Int) : (s.wrI b f v).logQ = s.logQ := rfl
@[simp] theorem State.wrI_logShut (s : State) (b : Nat) (f : Fld) (v : Int) : (s.wrI b f v).logShut = s.logShut := rfl
@[simp] theorem State.wrI_rails (s : State) (b : Nat) (f : Fld) (v : Int) : (s.wrI b f v).rails = s.rails := rfl
@[simp] theorem State.wrI_sheaves (s : State) (b : Nat) (f : Fld) (v : Int) : (s.wrI b f v).sheaves = s.sheaves := rfl
@[simp] theorem State.wrI_phases (s : State) (b : Nat) (f : Fld) (v : Int) : (s.wrI b f v).phases = s.phases := rfl
@[simp] theorem State.wrI_bucks (s : State) (b : Nat) (f : Fld) (v : Int) : (s.wrI b f v).bucks = s.bucks := rfl
@[simp] theorem State.wrI_outs (s : State) (b : Nat) (f : Fld) (v : Int) : (s.wrI b f v).outs = s.outs := rfl
@[simp] theorem State.wrI_offQ (s : State) (b : Nat) (f : Fld) (v : Int) : (s.wrI b f v).offQ = s.offQ := rfl
@[simp] theorem State.wrI_snaps (s : State) (b : Nat) (f : Fld) (v : Int) : (s.wrI b f v).snaps = s.snaps := rfl
@[simp] theorem State.wrI_snapNext (s : State) (b : Nat) (f : Fld) (v : Int) : (s.wrI b f v).snapNext = s.snapNext := rfl
@[simp] theorem State.wrI_snapLeft (s : State) (b : Nat) (f : Fld) (v : Int) : (s.wrI b f v).snapLeft = s.snapLeft := rfl
@[simp] theorem State.wrI_chan (s : State) (b : Nat) (f : Fld) (v : Int) : (s.wrI b f v).chan = s.chan := rfl
@[simp] theorem State.wrI_due (s : State) (b : Nat) (f : Fld) (v : Int) : (s.wrI b f v).due = s.due := rfl
@[simp] theorem State.wrI_later (s : State) (b : Nat) (f : Fld) (v : Int) : (s.wrI b f v).later = s.later := rfl
@[simp] theorem State.wrI_boot (s : State) (b : Nat) (f : Fld) (v : Int) : (s.wrI b f v).boot = s.boot := rfl
@[simp] theorem State.wrI_wakeRead (s : State) (b : Nat) (f : Fld) (v : Int) : (s.wrI b f v).wakeRead = s.wakeRead := rfl
@[simp] theorem State.wrI_wakeLvl (s : State) (b : Nat) (f : Fld) (v : Int) : (s.wrI b f v).wakeLvl = s.wakeLvl := rfl
@[simp] theorem State.wrI_wakeSeen (s : State) (b : Nat) (f : Fld) (v : Int) : (s.wrI b f v).wakeSeen = s.wakeSeen := rfl
@[simp] theorem State.wrI_wakeDone (s : State) (b : Nat) (f : Fld) (v : Int) : (s.wrI b f v).wakeDone = s.wakeDone := rfl
@[simp] theorem State.wrI_owls (s : State) (b : Nat) (f : Fld) (v : Int) : (s.wrI b f v).owls = s.owls := rfl
@[simp] theorem State.wrI_owlQ (s : State) (b : Nat) (f : Fld) (v : Int) : (s.wrI b f v).owlQ = s.owlQ := rfl
@[simp] theorem State.wrI_warmReq (s : State) (b : Nat) (f : Fld) (v : Int) : (s.wrI b f v).warmReq = s.warmReq := rfl
@[simp] theorem State.wrI_warmTest (s : State) (b : Nat) (f : Fld) (v : Int) : (s.wrI b f v).warmTest = s.warmTest := rfl
@[simp] theorem State.wrI_lsHalt (s : State) (b : Nat) (f : Fld) (v : Int) : (s.wrI b f v).lsHalt = s.lsHalt := rfl
@[simp] theorem State.wrI_lsWarm (s : State) (b : Nat) (f : Fld) (v : Int) : (s.wrI b f v).lsWarm = s.lsWarm := rfl
@[simp] theorem State.wrI_lsLast (s : State) (b : Nat) (f : Fld) (v : Int) : (s.wrI b f v).lsLast = s.lsLast := rfl
@[simp] theorem State.wrI_xiGood (s : State) (b : Nat) (f : Fld) (v : Int) : (s.wrI b f v).xiGood = s.xiGood := rfl
@[simp] theorem State.wrI_droops (s : State) (b : Nat) (f : Fld) (v : Int) : (s.wrI b f v).droops = s.droops := rfl
@[simp] theorem State.wrI_supOut (s : State) (b : Nat) (f : Fld) (v : Int) : (s.wrI b f v).supOut = s.supOut := rfl
@[simp] theorem State.wrI_bus (s : State) (b : Nat) (f : Fld) (v : Int) : (s.wrI b f v).bus = s.bus := rfl
@[simp] theorem State.wrI_chg (s : State) (b : Nat) (f : Fld) (v : Int) : (s.wrI b f v).chg = s.chg := rfl
@[simp] theorem State.wrI_kaHeld (s : State) (b : Nat) (f : Fld) (v : Int) : (s.wrI b f v).kaHeld = s.kaHeld := rfl
@[simp] theorem State.wrI_seq (s : State) (b : Nat) (f : Fld) (v : Int) : (s.wrI b f v).seq = s.seq := rfl
@[simp] theorem State.wrI_flail (s : State) (b : Nat) (f : Fld) (v : Int) : (s.wrI b f v).flail = s.flail := rfl
@[simp] theorem State.wrI_gpioHit (s : State) (b : Nat) (f : Fld) (v : Int) : (s.wrI b f v).gpioHit = s.gpioHit := rfl
@[simp] theorem State.wrI_pinSeq (s : State) (b : Nat) (f : Fld) (v : Int) : (s.wrI b f v).pinSeq = s.pinSeq := rfl
@[simp] theorem State.wrI_accs (s : State) (b : Nat) (f : Fld) (v : Int) : (s.wrI b f v).accs = s.accs := rfl
@[simp] theorem State.wrI_adc (s : State) (b : Nat) (f : Fld) (v : Int) : (s.wrI b f v).adc = s.adc := rfl
@[simp] theorem State.wrI_nodes (s : State) (b : Nat) (f : Fld) (v : Int) : (s.wrI b f v).nodes = s.nodes := rfl
@[simp] theorem State.wrI_thm (s : State) (b : Nat) (f : Fld) (v : Int) : (s.wrI b f v).thm = s.thm := rfl
@[simp] theorem State.wrI_ldrWait (s : State) (b : Nat) (f : Fld) (v : Int) : (s.wrI b f v).ldrWait = s.ldrWait := rfl
@[simp] theorem State.wrI_nvm (s : State) (b : Nat) (f : Fld) (v : Int) : (s.wrI b f v).nvm = s.nvm := rfl
@[simp] theorem State.wrI_retired (s : State) (b : Nat) (f : Fld) (v : Int) : (s.wrI b f v).retired = s.retired := rfl
@[simp] theorem State.wrI_retShort (s : State) (b : Nat) (f : Fld) (v : Int) : (s.wrI b f v).retShort = s.retShort := rfl
@[simp] theorem State.wrI_ceMs (s : State) (b : Nat) (f : Fld) (v : Int) : (s.wrI b f v).ceMs = s.ceMs := rfl
@[simp] theorem State.wrI_loftNext (s : State) (b : Nat) (f : Fld) (v : Int) : (s.wrI b f v).loftNext = s.loftNext := rfl
@[simp] theorem State.wrI_otp (s : State) (b : Nat) (f : Fld) (v : Int) : (s.wrI b f v).otp = s.otp := rfl
@[simp] theorem State.wrI_otpCtl (s : State) (b : Nat) (f : Fld) (v : Int) : (s.wrI b f v).otpCtl = s.otpCtl := rfl
@[simp] theorem State.wrI_otpOvr (s : State) (b : Nat) (f : Fld) (v : Int) : (s.wrI b f v).otpOvr = s.otpOvr := rfl
@[simp] theorem State.wrI_clk (s : State) (b : Nat) (f : Fld) (v : Int) : (s.wrI b f v).clk = s.clk := rfl
@[simp] theorem State.wrI_twis (s : State) (b : Nat) (f : Fld) (v : Int) : (s.wrI b f v).twis = s.twis := rfl
@[simp] theorem State.wrI_twiGot (s : State) (b : Nat) (f : Fld) (v : Int) : (s.wrI b f v).twiGot = s.twiGot := rfl
@[simp] theorem State.wrI_spareClr (s : State) (b : Nat) (f : Fld) (v : Int) : (s.wrI b f v).spareClr = s.spareClr := rfl
@[simp] theorem State.wrI_wasLock (s : State) (b : Nat) (f : Fld) (v : Int) : (s.wrI b f v).wasLock = s.wasLock := rfl
@[simp] theorem State.wrI_dieTrip (s : State) (b : Nat) (f : Fld) (v : Int) : (s.wrI b f v).dieTrip = s.dieTrip := rfl
@[simp] theorem State.wrI_vioOut (s : State) (b : Nat) (f : Fld) (v : Int) : (s.wrI b f v).vioOut = s.vioOut := rfl
@[simp] theorem State.wrI_tap (s : State) (b : Nat) (f : Fld) (v : Int) : (s.wrI b f v).tap = s.tap := rfl
@[simp] theorem State.wrI_tapIns (s : State) (b : Nat) (f : Fld) (v : Int) : (s.wrI b f v).tapIns = s.tapIns := rfl
@[simp] theorem State.wrI_tapBit (s : State) (b : Nat) (f : Fld) (v : Int) : (s.wrI b f v).tapBit = s.tapBit := rfl
@[simp] theorem State.wrI_bsCells (s : State) (b : Nat) (f : Fld) (v : Int) : (s.wrI b f v).bsCells = s.bsCells := rfl
@[simp] theorem State.wrI_bsUpd (s : State) (b : Nat) (f : Fld) (v : Int) : (s.wrI b f v).bsUpd = s.bsUpd := rfl
@[simp] theorem State.wrI_tdo (s : State) (b : Nat) (f : Fld) (v : Int) : (s.wrI b f v).tdo = s.tdo := rfl
@[simp] theorem State.wrI_irqEv (s : State) (b : Nat) (f : Fld) (v : Int) : (s.wrI b f v).irqEv = s.irqEv := rfl
@[simp] theorem State.wrI_pinKeep (s : State) (b : Nat) (f : Fld) (v : Int) : (s.wrI b f v).pinKeep = s.pinKeep := rfl

/-! A raise that is posted changes the raises that wait only. -/

@[simp] theorem State.post_pending (s : State) (e : Nat) (c d : Option Nat) : (s.post e c d).pending = s.pending := rfl
@[simp] theorem State.post_regs (s : State) (e : Nat) (c d : Option Nat) : (s.post e c d).regs = s.regs := rfl
@[simp] theorem State.post_tick (s : State) (e : Nat) (c d : Option Nat) : (s.post e c d).tick = s.tick := rfl
@[simp] theorem State.post_since (s : State) (e : Nat) (c d : Option Nat) : (s.post e c d).since = s.since := rfl
@[simp] theorem State.post_freeCtr (s : State) (e : Nat) (c d : Option Nat) : (s.post e c d).freeCtr = s.freeCtr := rfl
@[simp] theorem State.post_timeNs (s : State) (e : Nat) (c d : Option Nat) : (s.post e c d).timeNs = s.timeNs := rfl
@[simp] theorem State.post_timeSec (s : State) (e : Nat) (c d : Option Nat) : (s.post e c d).timeSec = s.timeSec := rfl
@[simp] theorem State.post_ctxs (s : State) (e : Nat) (c d : Option Nat) : (s.post e c d).ctxs = s.ctxs := rfl
@[simp] theorem State.post_cmds (s : State) (e : Nat) (c d : Option Nat) : (s.post e c d).cmds = s.cmds := rfl
@[simp] theorem State.post_rr (s : State) (e : Nat) (c d : Option Nat) : (s.post e c d).rr = s.rr := rfl
@[simp] theorem State.post_grants (s : State) (e : Nat) (c d : Option Nat) : (s.post e c d).grants = s.grants := rfl
@[simp] theorem State.post_queues (s : State) (e : Nat) (c d : Option Nat) : (s.post e c d).queues = s.queues := rfl
@[simp] theorem State.post_doomed (s : State) (e : Nat) (c d : Option Nat) : (s.post e c d).doomed = s.doomed := rfl
@[simp] theorem State.post_act (s : State) (e : Nat) (c d : Option Nat) : (s.post e c d).act = s.act := rfl
@[simp] theorem State.post_slotW (s : State) (e : Nat) (c d : Option Nat) : (s.post e c d).slotW = s.slotW := rfl
@[simp] theorem State.post_holds (s : State) (e : Nat) (c d : Option Nat) : (s.post e c d).holds = s.holds := rfl
@[simp] theorem State.post_logQ (s : State) (e : Nat) (c d : Option Nat) : (s.post e c d).logQ = s.logQ := rfl
@[simp] theorem State.post_logShut (s : State) (e : Nat) (c d : Option Nat) : (s.post e c d).logShut = s.logShut := rfl
@[simp] theorem State.post_rails (s : State) (e : Nat) (c d : Option Nat) : (s.post e c d).rails = s.rails := rfl
@[simp] theorem State.post_sheaves (s : State) (e : Nat) (c d : Option Nat) : (s.post e c d).sheaves = s.sheaves := rfl
@[simp] theorem State.post_phases (s : State) (e : Nat) (c d : Option Nat) : (s.post e c d).phases = s.phases := rfl
@[simp] theorem State.post_bucks (s : State) (e : Nat) (c d : Option Nat) : (s.post e c d).bucks = s.bucks := rfl
@[simp] theorem State.post_outs (s : State) (e : Nat) (c d : Option Nat) : (s.post e c d).outs = s.outs := rfl
@[simp] theorem State.post_offQ (s : State) (e : Nat) (c d : Option Nat) : (s.post e c d).offQ = s.offQ := rfl
@[simp] theorem State.post_snaps (s : State) (e : Nat) (c d : Option Nat) : (s.post e c d).snaps = s.snaps := rfl
@[simp] theorem State.post_snapNext (s : State) (e : Nat) (c d : Option Nat) : (s.post e c d).snapNext = s.snapNext := rfl
@[simp] theorem State.post_snapLeft (s : State) (e : Nat) (c d : Option Nat) : (s.post e c d).snapLeft = s.snapLeft := rfl
@[simp] theorem State.post_chan (s : State) (e : Nat) (c d : Option Nat) : (s.post e c d).chan = s.chan := rfl
@[simp] theorem State.post_due (s : State) (e : Nat) (c d : Option Nat) : (s.post e c d).due = s.due := rfl
@[simp] theorem State.post_later (s : State) (e : Nat) (c d : Option Nat) : (s.post e c d).later = s.later := rfl
@[simp] theorem State.post_boot (s : State) (e : Nat) (c d : Option Nat) : (s.post e c d).boot = s.boot := rfl
@[simp] theorem State.post_wakeRead (s : State) (e : Nat) (c d : Option Nat) : (s.post e c d).wakeRead = s.wakeRead := rfl
@[simp] theorem State.post_wakeLvl (s : State) (e : Nat) (c d : Option Nat) : (s.post e c d).wakeLvl = s.wakeLvl := rfl
@[simp] theorem State.post_wakeSeen (s : State) (e : Nat) (c d : Option Nat) : (s.post e c d).wakeSeen = s.wakeSeen := rfl
@[simp] theorem State.post_wakeDone (s : State) (e : Nat) (c d : Option Nat) : (s.post e c d).wakeDone = s.wakeDone := rfl
@[simp] theorem State.post_owls (s : State) (e : Nat) (c d : Option Nat) : (s.post e c d).owls = s.owls := rfl
@[simp] theorem State.post_owlQ (s : State) (e : Nat) (c d : Option Nat) : (s.post e c d).owlQ = s.owlQ := rfl
@[simp] theorem State.post_warmReq (s : State) (e : Nat) (c d : Option Nat) : (s.post e c d).warmReq = s.warmReq := rfl
@[simp] theorem State.post_warmTest (s : State) (e : Nat) (c d : Option Nat) : (s.post e c d).warmTest = s.warmTest := rfl
@[simp] theorem State.post_lsHalt (s : State) (e : Nat) (c d : Option Nat) : (s.post e c d).lsHalt = s.lsHalt := rfl
@[simp] theorem State.post_lsWarm (s : State) (e : Nat) (c d : Option Nat) : (s.post e c d).lsWarm = s.lsWarm := rfl
@[simp] theorem State.post_lsLast (s : State) (e : Nat) (c d : Option Nat) : (s.post e c d).lsLast = s.lsLast := rfl
@[simp] theorem State.post_xiGood (s : State) (e : Nat) (c d : Option Nat) : (s.post e c d).xiGood = s.xiGood := rfl
@[simp] theorem State.post_droops (s : State) (e : Nat) (c d : Option Nat) : (s.post e c d).droops = s.droops := rfl
@[simp] theorem State.post_supOut (s : State) (e : Nat) (c d : Option Nat) : (s.post e c d).supOut = s.supOut := rfl
@[simp] theorem State.post_bus (s : State) (e : Nat) (c d : Option Nat) : (s.post e c d).bus = s.bus := rfl
@[simp] theorem State.post_chg (s : State) (e : Nat) (c d : Option Nat) : (s.post e c d).chg = s.chg := rfl
@[simp] theorem State.post_kaHeld (s : State) (e : Nat) (c d : Option Nat) : (s.post e c d).kaHeld = s.kaHeld := rfl
@[simp] theorem State.post_seq (s : State) (e : Nat) (c d : Option Nat) : (s.post e c d).seq = s.seq := rfl
@[simp] theorem State.post_flail (s : State) (e : Nat) (c d : Option Nat) : (s.post e c d).flail = s.flail := rfl
@[simp] theorem State.post_gpioHit (s : State) (e : Nat) (c d : Option Nat) : (s.post e c d).gpioHit = s.gpioHit := rfl
@[simp] theorem State.post_pinSeq (s : State) (e : Nat) (c d : Option Nat) : (s.post e c d).pinSeq = s.pinSeq := rfl
@[simp] theorem State.post_accs (s : State) (e : Nat) (c d : Option Nat) : (s.post e c d).accs = s.accs := rfl
@[simp] theorem State.post_adc (s : State) (e : Nat) (c d : Option Nat) : (s.post e c d).adc = s.adc := rfl
@[simp] theorem State.post_nodes (s : State) (e : Nat) (c d : Option Nat) : (s.post e c d).nodes = s.nodes := rfl
@[simp] theorem State.post_thm (s : State) (e : Nat) (c d : Option Nat) : (s.post e c d).thm = s.thm := rfl
@[simp] theorem State.post_ldrWait (s : State) (e : Nat) (c d : Option Nat) : (s.post e c d).ldrWait = s.ldrWait := rfl
@[simp] theorem State.post_nvm (s : State) (e : Nat) (c d : Option Nat) : (s.post e c d).nvm = s.nvm := rfl
@[simp] theorem State.post_retired (s : State) (e : Nat) (c d : Option Nat) : (s.post e c d).retired = s.retired := rfl
@[simp] theorem State.post_retShort (s : State) (e : Nat) (c d : Option Nat) : (s.post e c d).retShort = s.retShort := rfl
@[simp] theorem State.post_ceMs (s : State) (e : Nat) (c d : Option Nat) : (s.post e c d).ceMs = s.ceMs := rfl
@[simp] theorem State.post_loftNext (s : State) (e : Nat) (c d : Option Nat) : (s.post e c d).loftNext = s.loftNext := rfl
@[simp] theorem State.post_otp (s : State) (e : Nat) (c d : Option Nat) : (s.post e c d).otp = s.otp := rfl
@[simp] theorem State.post_otpCtl (s : State) (e : Nat) (c d : Option Nat) : (s.post e c d).otpCtl = s.otpCtl := rfl
@[simp] theorem State.post_otpOvr (s : State) (e : Nat) (c d : Option Nat) : (s.post e c d).otpOvr = s.otpOvr := rfl
@[simp] theorem State.post_clk (s : State) (e : Nat) (c d : Option Nat) : (s.post e c d).clk = s.clk := rfl
@[simp] theorem State.post_twis (s : State) (e : Nat) (c d : Option Nat) : (s.post e c d).twis = s.twis := rfl
@[simp] theorem State.post_twiGot (s : State) (e : Nat) (c d : Option Nat) : (s.post e c d).twiGot = s.twiGot := rfl
@[simp] theorem State.post_spareClr (s : State) (e : Nat) (c d : Option Nat) : (s.post e c d).spareClr = s.spareClr := rfl
@[simp] theorem State.post_wasLock (s : State) (e : Nat) (c d : Option Nat) : (s.post e c d).wasLock = s.wasLock := rfl
@[simp] theorem State.post_dieTrip (s : State) (e : Nat) (c d : Option Nat) : (s.post e c d).dieTrip = s.dieTrip := rfl
@[simp] theorem State.post_vioOut (s : State) (e : Nat) (c d : Option Nat) : (s.post e c d).vioOut = s.vioOut := rfl
@[simp] theorem State.post_tap (s : State) (e : Nat) (c d : Option Nat) : (s.post e c d).tap = s.tap := rfl
@[simp] theorem State.post_tapIns (s : State) (e : Nat) (c d : Option Nat) : (s.post e c d).tapIns = s.tapIns := rfl
@[simp] theorem State.post_tapBit (s : State) (e : Nat) (c d : Option Nat) : (s.post e c d).tapBit = s.tapBit := rfl
@[simp] theorem State.post_bsCells (s : State) (e : Nat) (c d : Option Nat) : (s.post e c d).bsCells = s.bsCells := rfl
@[simp] theorem State.post_bsUpd (s : State) (e : Nat) (c d : Option Nat) : (s.post e c d).bsUpd = s.bsUpd := rfl
@[simp] theorem State.post_tdo (s : State) (e : Nat) (c d : Option Nat) : (s.post e c d).tdo = s.tdo := rfl
@[simp] theorem State.post_irqEv (s : State) (e : Nat) (c d : Option Nat) : (s.post e c d).irqEv = s.irqEv := rfl
@[simp] theorem State.post_pinKeep (s : State) (e : Nat) (c d : Option Nat) : (s.post e c d).pinKeep = s.pinKeep := rfl

end Sys2Proof.Machine
end

