-- ==== Sys2Proof/Laws/Flags.lean ====
section
/-! SUPPORT. What signalling does: an edge at the interrupt controller changes registers of the INT page only; an ERR bit,
its IRQ_PEND bit and a raise change nothing else. -/

namespace Sys2Proof.Machine

open Sys2Proof

theorem RegsOnly.refl (ks : Nat → Prop) (s : State) : RegsOnly ks s s := ⟨rfl, fun _ _ => rfl⟩

theorem RegsOnly.trans {ks : Nat → Prop} {s t u : State} (h1 : RegsOnly ks s t) (h2 : RegsOnly ks t u) : RegsOnly ks s u := by
  refine ⟨?_, fun k hk => (h2.2 k hk).trans (h1.2 k hk)⟩
  have e1 := h1.1
  have e2 := h2.1
  rw [e2, e1]

theorem RegsOnly.setW {ks : Nat → Prop} {k : Nat} (s : State) (v : Word) (h : ks k) : RegsOnly ks s (s.setW k v) :=
  ⟨rfl, fun n hn => s.getW_setW_ne v (by rintro rfl; exact hn h)⟩

theorem RegsOnly.wr {ks : Nat → Prop} {b : Nat} {f : Fld} (s : State) (v : Nat) (h : ks (b + f.off)) : RegsOnly ks s (s.wr b f v) :=
  RegsOnly.setW s _ h

theorem RegsOnly.ite {ks : Nat → Prop} {s t u : State} (c : Prop) [Decidable c] (h1 : RegsOnly ks s t) (h2 : RegsOnly ks s u) :
    RegsOnly ks s (if c then t else u) := by
  split
  · exact h1
  · exact h2

theorem intKey_int (n o : Nat) (h : o < 0x400) : intKey (intC n + o) = true := by
  simp only [intKey, beq_iff_eq, intC, ck, intB, pg]
  omega

theorem intRefresh_only (s : State) (c : Fin 8) : RegsOnly (fun k => intKey k = true) s (s.intRefresh c) := by
  unfold State.intRefresh
  have key : ∀ t : State, RegsOnly (fun k => intKey k = true) s t → RegsOnly (fun k => intKey k = true) s
      ((t.wrB intB (INT.STATUS_ASSERTED.at c.val) ((s.claimable c.val).isSome && !(s.ctx c).gap)).wrB intB
        (INT.STATUS_ASSERTED.at (8 + c.val)) (decide (2 ≤ (s.intBits c.val 0xA0).length))) := by
    intro t h
    exact (h.trans (RegsOnly.wr _ _ (show intKey (intB + 8) = true by decide))).trans
      (RegsOnly.wr _ _ (show intKey (intB + 8) = true by decide))
  dsimp only
  split
  · exact key _ ((RegsOnly.wr s _ (intKey_int _ _ (by decide))).trans (RegsOnly.wr _ _ (intKey_int _ _ (by decide))))
  · exact key _ ((RegsOnly.wr s _ (intKey_int _ _ (by decide))).trans (RegsOnly.wr _ _ (intKey_int _ _ (by decide))))

theorem intPut_only (s : State) (n off e : Nat) (b : Bool) (h : off + 4 * (e / 32) < 0x400) :
    RegsOnly (fun k => intKey k = true) s (s.intPut n off e b) := by
  unfold State.intPut
  refine RegsOnly.setW s _ ?_
  have := intKey_int n (off + 4 * (e / 32)) h
  simpa [Nat.add_assoc] using this

theorem edgeIn_only (s : State) (e : Nat) (again : Bool) (c : Fin 8) (h : e < 0x100) :
    RegsOnly (fun k => intKey k = true) s (s.edgeIn e again c) := by
  unfold State.edgeIn
  split
  · dsimp only
    refine RegsOnly.trans ?_ (intRefresh_only _ _)
    refine RegsOnly.trans (RegsOnly.ite _ ?_ ?_) (intPut_only _ _ _ _ _ (by omega))
    · exact intPut_only _ _ _ _ _ (by omega)
    · exact RegsOnly.refl _ _
  · exact RegsOnly.refl _ _

theorem edge_only (s : State) (e : Nat) : RegsOnly (fun k => intKey k = true) s (s.edge e) := by
  unfold State.edge
  split
  · rename_i h
    have he : e < 0x100 := by
      simp only [Bool.and_eq_true, decide_eq_true_eq] at h
      omega
    have key : ∀ (l : List (Fin 8)) (t : State), RegsOnly (fun k => intKey k = true) s t →
        RegsOnly (fun k => intKey k = true) s (l.foldl (fun t c => t.edgeIn e false c) t) := by
      intro l
      induction l with
      | nil => exact fun t h => h
      | cons a l ih => exact fun t h => ih _ (h.trans (edgeIn_only t e false a he))
    exact key _ _ (RegsOnly.refl _ _)
  · exact RegsOnly.refl _ _

theorem Told.refl (ks : Nat → Prop) (s : State) : Told ks s s := ⟨rfl, fun _ _ _ => rfl⟩

theorem Told.trans {ks : Nat → Prop} {s t u : State} (h1 : Told ks s t) (h2 : Told ks t u) : Told ks s u := by
  refine ⟨?_, fun k hi hk => (h2.2 k hi hk).trans (h1.2 k hi hk)⟩
  have e1 := h1.1
  have e2 := h2.1
  rw [e2, e1]

theorem Told.mono {p q : Nat → Prop} {s u : State} (h : Told p s u) (hp : ∀ k, p k → q k) : Told q s u :=
  ⟨h.1, fun k hi hk => h.2 k hi (fun c => hk (hp k c))⟩

theorem RegsOnly.told {ks : Nat → Prop} {s u : State} (h : RegsOnly ks s u) : Told ks s u :=
  ⟨by have e := h.1; rw [e], fun k _ hk => h.2 k hk⟩

theorem RegsOnly.toldInt {ks : Nat → Prop} {s u : State} (h : RegsOnly (fun k => intKey k = true) s u) : Told ks s u :=
  ⟨by have e := h.1; rw [e], fun k hi _ => h.2 k (by simp [hi])⟩

theorem Told.ite {ks : Nat → Prop} {s t u : State} (c : Prop) [Decidable c] (h1 : Told ks s t) (h2 : Told ks s u) :
    Told ks s (if c then t else u) := by
  split
  · exact h1
  · exact h2

/-- An IRQ_PEND bit and its edge. -/
theorem irq_told (s : State) (b i ev : Nat) : Told (fun k => k = b + 0x18) s (s.irq b i ev) := by
  unfold State.irq
  dsimp only
  have h0 : Told (fun k => k = b + 0x18) s
      { s.wr b (HDR.IRQ_PEND.at i) 1 with irqEv := putEv s.irqEv (b / 0x400 * 32 + i) ev } :=
    ⟨rfl, fun k _ hk => State.getW_setW_ne s _ (n := b + 0x18) hk⟩
  split
  · exact h0.trans (RegsOnly.toldInt (edge_only _ ev))
  · exact h0

theorem post_told (ks : Nat → Prop) (s : State) (ev : Nat) (c d : Option Nat) : Told ks s (s.post ev c d) :=
  ⟨rfl, fun _ _ _ => rfl⟩

/-- An ERR bit with its IRQ_PEND bit. -/
theorem errQ_told (s : State) (b i ev : Nat) : Told (fun k => k = b + 0xC ∨ k = b + 0x18) s (s.errQ b i ev) :=
  Told.trans (RegsOnly.told (RegsOnly.wr s 1 (Or.inl rfl))) ((irq_told _ b i ev).mono (fun _ h => Or.inr h))

/-- An occurrence of the cause of an ERR bit. -/
theorem err_told (s : State) (b i ev : Nat) (c d : Option Nat) :
    Told (fun k => k = b + 0xC ∨ k = b + 0x18) s (s.err b i ev c d) := by
  unfold State.err
  dsimp only
  exact Told.ite _ (errQ_told s b i ev) (Told.ite _ (errQ_told s b i ev) ((errQ_told s b i ev).trans (post_told _ _ _ _ _)))

/-- A saturating count. -/
theorem bump_only (s : State) (b : Nat) (f : Fld) : RegsOnly (fun k => k = b + f.off) s (s.bump b f) := by
  unfold State.bump
  exact RegsOnly.ite _ (RegsOnly.wr _ _ rfl) (RegsOnly.wr _ _ rfl)

theorem count_told (s : State) (b : Nat) (f sat : Fld) (pb i ev : Nat) :
    Told (fun k => k = b + f.off ∨ k = b + sat.off ∨ k = pb + 0xC ∨ k = pb + 0x18) s (s.count b f sat pb i ev) := by
  unfold State.count
  have h0 := ((bump_only s b f).told).mono (q := fun k => k = b + f.off ∨ k = b + sat.off ∨ k = pb + 0xC ∨ k = pb + 0x18)
    (fun k h => Or.inl h)
  split
  · refine Told.trans (h0.trans ((RegsOnly.wr (ks := fun k => k = b + sat.off) _ 1 rfl).told.mono (fun k h => Or.inr (Or.inl h)))) ?_
    exact (err_told _ pb i ev _ none).mono (fun k h => by rcases h with h | h <;> simp [h])
  · exact h0

/-- A field outside what a change names reads as before. -/
theorem RegsOnly.rd {ks : Nat → Prop} {s u : State} (h : RegsOnly ks s u) (b : Nat) (f : Fld) (hb : ¬ ks (b + f.off)) :
    u.rd b f = s.rd b f := by
  unfold State.rd
  rw [h.2 _ hb]

theorem Told.rd {ks : Nat → Prop} {s u : State} (h : Told ks s u) (b : Nat) (f : Fld) (hi : intKey (b + f.off) = false)
    (hb : ¬ ks (b + f.off)) : u.rd b f = s.rd b f := by
  unfold State.rd
  rw [h.2 _ hi hb]

end Sys2Proof.Machine
end

