-- ==== Sys2Proof/Laws/Good.lean ====
section
/-! SUPPORT. The two canonical forms of the state, kept by every operation that touches them, and the shapes in which a
meaning combines states. `State.Good p` also says that the queue is `p`. -/

namespace Sys2Proof.Machine

open Sys2Proof

/-- The queue is `p`, the register file and NVM are in canonical form. -/
def State.Good (p : List Instr) (s : State) : Prop := s.pending = p ∧ regsWf s.regs = true ∧ Memory.wf s.nvm = true

/-- A next state, where there is one, is good. -/
def OutGood (p : List Instr) (o : Host.Outcome State Fault Refusal) : Prop := ∀ t, o = .next t → t.Good p

/-! The register file. -/

theorem regsFrom_mono {a b : Nat} {l : List (Nat × Word)} (h : a ≤ b) (w : regsFrom b l = true) : regsFrom a l = true := by
  cases l with
  | nil => rfl
  | cons x t =>
    obtain ⟨k, v⟩ := x
    simp only [regsFrom, Bool.and_eq_true, decide_eq_true_eq] at w ⊢
    exact ⟨⟨by omega, w.1.2⟩, w.2⟩

theorem regsFrom_filter {a : Nat} {l : List (Nat × Word)} (p : Nat × Word → Bool) (w : regsFrom a l = true) :
    regsFrom a (l.filter p) = true := by
  induction l generalizing a with
  | nil => rfl
  | cons x t ih =>
    obtain ⟨k, v⟩ := x
    simp only [regsFrom, Bool.and_eq_true, decide_eq_true_eq] at w
    have r := ih w.2
    by_cases c : p (k, v) = true
    · simp only [List.filter_cons, c, if_true, regsFrom, Bool.and_eq_true, decide_eq_true_eq]
      exact ⟨w.1, r⟩
    · simp only [List.filter_cons, c]
      exact regsFrom_mono (by omega) r

theorem insKey_wf {a n : Nat} {x : Word} {l : List (Nat × Word)} (ha : a ≤ n) (hx : x ≠ resetWord n)
    (hn : ∀ e ∈ l, e.1 ≠ n) (w : regsFrom a l = true) : regsFrom a (insKey l n x) = true := by
  induction l generalizing a with
  | nil => simp [insKey, regsFrom, ha, hx]
  | cons e t ih =>
    obtain ⟨k, v⟩ := e
    simp only [regsFrom, Bool.and_eq_true, decide_eq_true_eq] at w
    have hk : k ≠ n := hn (k, v) (by simp)
    by_cases c : n < k
    · simp only [insKey, c, if_true, regsFrom, Bool.and_eq_true, decide_eq_true_eq]
      exact ⟨⟨ha, by simpa using hx⟩, ⟨⟨by omega, w.1.2⟩, w.2⟩⟩
    · simp only [insKey, c, if_false, regsFrom, Bool.and_eq_true, decide_eq_true_eq]
      exact ⟨w.1, ih (by omega) (fun e he => hn e (by simp [he])) w.2⟩

theorem setKey_wf {n : Nat} {x : Word} {l : List (Nat × Word)} (w : regsWf l = true) : regsWf (setKey l n x) = true := by
  unfold setKey
  split
  · exact regsFrom_filter _ w
  · refine insKey_wf (by omega) ‹_› ?_ (regsFrom_filter _ w)
    intro e he
    simpa [dropKey] using (List.mem_filter.mp he).2

/-! NVM. -/

theorem Memory.wfFrom_mono {a b : Nat} {l : List Host.Cell} (h : a ≤ b) (w : Memory.wfFrom b l = true) : Memory.wfFrom a l = true := by
  cases l with
  | nil => rfl
  | cons x t =>
    obtain ⟨k, v⟩ := x
    simp only [Memory.wfFrom, Bool.and_eq_true, decide_eq_true_eq] at w ⊢
    exact ⟨⟨by omega, w.1.2⟩, w.2⟩

theorem Memory.wfFrom_filter {a : Nat} {l : List Host.Cell} (p : Host.Cell → Bool) (w : Memory.wfFrom a l = true) :
    Memory.wfFrom a (l.filter p) = true := by
  induction l generalizing a with
  | nil => rfl
  | cons x t ih =>
    obtain ⟨k, v⟩ := x
    simp only [Memory.wfFrom, Bool.and_eq_true, decide_eq_true_eq] at w
    have r := ih w.2
    by_cases c : p (k, v) = true
    · simp only [List.filter_cons, c, if_true, Memory.wfFrom, Bool.and_eq_true, decide_eq_true_eq]
      exact ⟨w.1, r⟩
    · simp only [List.filter_cons, c]
      exact Memory.wfFrom_mono (by omega) r

theorem Memory.wfFrom_write {a n : Nat} {x : Byte} {l : List Host.Cell} (ha : a ≤ n) (w : Memory.wfFrom a l = true) :
    Memory.wfFrom a (Memory.write l n x) = true := by
  induction l generalizing a with
  | nil =>
    by_cases c : x = erased
    · simp [Memory.write, c, Memory.wfFrom]
    · simp [Memory.write, c, Memory.wfFrom, ha]
  | cons e t ih =>
    obtain ⟨k, v⟩ := e
    have w0 := w
    simp only [Memory.wfFrom, Bool.and_eq_true, decide_eq_true_eq] at w
    by_cases c1 : n < k
    · by_cases c : x = erased
      · simpa [Memory.write, c1, c] using w0
      · simp only [Memory.write, c1, if_true, c, if_false, Memory.wfFrom, Bool.and_eq_true, decide_eq_true_eq]
        exact ⟨⟨ha, by simpa using c⟩, ⟨⟨by omega, w.1.2⟩, w.2⟩⟩
    · by_cases c2 : n = k
      · subst c2
        by_cases c : x = erased
        · simp only [Memory.write, Nat.lt_irrefl, if_false, if_true, c]
          exact Memory.wfFrom_mono (by omega) w.2
        · simp only [Memory.write, Nat.lt_irrefl, if_false, if_true, c, Memory.wfFrom, Bool.and_eq_true, decide_eq_true_eq]
          exact ⟨⟨ha, by simpa using c⟩, w.2⟩
      · simp only [Memory.write, c1, c2, if_false, Memory.wfFrom, Bool.and_eq_true, decide_eq_true_eq]
        exact ⟨w.1, ih (by omega) w.2⟩

/-- A write keeps the canonical form. -/
theorem Memory.write_wf {n : Nat} {x : Byte} {l : List Host.Cell} (w : Memory.wf l = true) : Memory.wf (Memory.write l n x) = true :=
  Memory.wfFrom_write (by omega) w

/-- So do writes in a row. -/
theorem Memory.writes_wf {n : Nat} {x : List Byte} {l : List Host.Cell} (w : Memory.wf l = true) :
    Memory.wf (Memory.writes l n x) = true := by
  induction x generalizing l n with
  | nil => exact w
  | cons b t ih => exact ih (Memory.write_wf w)

/-- So does an erase. -/
theorem Memory.erase_wf {lo n : Nat} {l : List Host.Cell} (w : Memory.wf l = true) : Memory.wf (Memory.erase l lo n) = true :=
  Memory.wfFrom_filter _ w

/-! The operations that touch them. -/

theorem State.setW_good {p : List Instr} {s : State} {k : Nat} {v : Word} (h : s.Good p) : (s.setW k v).Good p :=
  ⟨h.1, setKey_wf h.2.1, h.2.2⟩

theorem State.resetKeys_good {p : List Instr} {s : State} {q : Nat → Bool} (h : s.Good p) : (s.resetKeys q).Good p :=
  ⟨h.1, regsFrom_filter _ h.2.1, h.2.2⟩

theorem State.nvmPut_good {p : List Instr} {s : State} {a : Nat} {l : List Byte} (h : s.Good p) : (s.nvmPut a l).Good p :=
  ⟨h.1, h.2.1, Memory.writes_wf h.2.2⟩

theorem State.nvmErase_good {p : List Instr} {s : State} {a : Nat} (h : s.Good p) : (s.nvmErase a).Good p :=
  ⟨h.1, h.2.1, Memory.erase_wf h.2.2⟩

theorem State.eraseArea_good {p : List Instr} {s : State} {a n : Nat} (h : s.Good p) : (s.eraseArea a n).Good p :=
  ⟨h.1, h.2.1, Memory.erase_wf h.2.2⟩

/-! The shapes. -/

/-- A change of other fields alone. -/
theorem good_core {p : List Instr} {a b : State} (h : b.Good p) (h1 : a.pending = b.pending) (h2 : a.regs = b.regs)
    (h3 : a.nvm = b.nvm) : a.Good p := by
  unfold State.Good
  rw [h1, h2, h3]
  exact h

theorem good_ite {p : List Instr} {c : Prop} [Decidable c] {a b : State} (h1 : a.Good p) (h2 : b.Good p) :
    (if c then a else b).Good p := by
  split
  · exact h1
  · exact h2

theorem good_ite1 {p : List Instr} {α : Type} {c : Prop} [Decidable c] {a b : State × α} (h1 : State.Good p a.1)
    (h2 : State.Good p b.1) : State.Good p (if c then a else b).1 := by
  split
  · exact h1
  · exact h2

theorem good_ite2 {p : List Instr} {α : Type} {c : Prop} [Decidable c] {a b : α × State} (h1 : State.Good p a.2)
    (h2 : State.Good p b.2) : State.Good p (if c then a else b).2 := by
  split
  · exact h1
  · exact h2

theorem good_foldl {p : List Instr} {α : Type} {f : State → α → State} {l : List α} {s : State}
    (hf : ∀ t x, t.Good p → (f t x).Good p) (h : s.Good p) : (l.foldl f s).Good p := by
  induction l generalizing s with
  | nil => exact h
  | cons a t ih => exact ih (hf s a h)

theorem good_next {p : List Instr} {s : State} (h : s.Good p) : OutGood p (.next s) := by
  intro t e
  cases e
  exact h

end Sys2Proof.Machine
end

