-- ==== Sys2Proof/Laws/Keep1.lean ====
section
/-! SUPPORT. The queue and the two canonical forms, kept by the operations and meanings of Ops, Flags, Arbiter, Complete, Outputs, Modes, Bus. -/

namespace Sys2Proof.Machine

open Sys2Proof

theorem State.wr_good {p : List Instr} {s a1 a2 a3} (hs : State.Good p s) : State.Good p (State.wr s a1 a2 a3) := by
  unfold State.wr
  exact (State.setW_good hs)

theorem State.wrI_good {p : List Instr} {s a1 a2 a3} (hs : State.Good p s) : State.Good p (State.wrI s a1 a2 a3) := by
  unfold State.wrI
  exact (State.wr_good hs)

theorem State.wrB_good {p : List Instr} {s a1 a2 a3} (hs : State.Good p s) : State.Good p (State.wrB s a1 a2 a3) := by
  unfold State.wrB
  exact (State.wr_good hs)

theorem State.bump_good {p : List Instr} {s a1 a2} (hs : State.Good p s) : State.Good p (State.bump s a1 a2) := by
  unfold State.bump
  exact (good_ite (State.wr_good hs) (State.wr_good hs))

theorem State.dec_good {p : List Instr} {s a1 a2} (hs : State.Good p s) : State.Good p (State.dec s a1 a2) := by
  unfold State.dec
  exact (State.wr_good hs)

theorem State.draw_good {p : List Instr} {s} (hs : State.Good p s) : State.Good p (State.draw s).2 := by
  unfold State.draw
  exact (good_core hs rfl rfl rfl)

theorem State.mark_good {p : List Instr} {s a1} (hs : State.Good p s) : State.Good p (State.mark s a1) := by
  unfold State.mark
  exact (good_core hs rfl rfl rfl)

theorem State.markAgo_good {p : List Instr} {s a1 a2} (hs : State.Good p s) : State.Good p (State.markAgo s a1 a2) := by
  unfold State.markAgo
  exact (good_core hs rfl rfl rfl)

theorem State.unmark_good {p : List Instr} {s a1} (hs : State.Good p s) : State.Good p (State.unmark s a1) := by
  unfold State.unmark
  exact (good_core hs rfl rfl rfl)

theorem State.till_good {p : List Instr} {s a1 a2} (hs : State.Good p s) : State.Good p (State.till s a1 a2) := by
  unfold State.till
  exact (good_core hs rfl rfl rfl)

theorem State.putOff_good {p : List Instr} {s a1} (hs : State.Good p s) : State.Good p (State.putOff s a1) := by
  unfold State.putOff
  exact (good_core hs rfl rfl rfl)

theorem State.each_good {p : List Instr} {s a1 f2} (hs : State.Good p s) (hf2 : ∀ y0 y1, State.Good p y1 → State.Good p (f2
    y0 y1))
    : State.Good p (State.each s a1 f2) := by
  unfold State.each
  exact (good_foldl (fun _ _ h2 => (hf2 _ _ h2)) hs)

theorem State.iff_good {p : List Instr} {s a1 f2} (hs : State.Good p s) (hf2 : ∀ y0, State.Good p y0 → State.Good p (f2 y0))
    : State.Good p (State.iff s a1 f2) := by
  unfold State.iff
  exact (good_ite (hf2 _ hs) hs)

theorem State.modCtx_good {p : List Instr} {s a1 a2} (hs : State.Good p s) : State.Good p (State.modCtx s a1 a2) := by
  unfold State.modCtx
  exact (good_core hs rfl rfl rfl)

theorem State.answer_good {p : List Instr} {s a1 a2} (hs : State.Good p s) : State.Good p (State.answer s a1 a2) := by
  unfold State.answer
  exact (State.modCtx_good hs)

theorem State.intPut_good {p : List Instr} {s a1 a2 a3 a4} (hs : State.Good p s)
    : State.Good p (State.intPut s a1 a2 a3 a4) := by
  unfold State.intPut
  exact (State.setW_good hs)

theorem State.intRefresh_good {p : List Instr} {s a1} (hs : State.Good p s) : State.Good p (State.intRefresh s a1) := by
  unfold State.intRefresh
  extract_lets -merge -useContext x1_0 x1_1 x1_2
  have hx1_2 : State.Good p x1_2 := (by unfold x1_2; split; (exact (State.wr_good (State.wr_good hs))); (exact (State.wr_good (State.wr_good hs))))
  try clear_value x1_2
  exact (State.wrB_good (State.wrB_good hx1_2))

theorem State.edgeIn_good {p : List Instr} {s a1 a2 a3} (hs : State.Good p s) : State.Good p (State.edgeIn s a1 a2 a3) := by
  unfold State.edgeIn
  extract_lets -merge -useContext x1_0
  have hx1_0 : State.Good p x1_0 := (good_ite (State.intPut_good hs) hs)
  try clear_value x1_0
  exact (good_ite (State.intRefresh_good (State.intPut_good hx1_0)) hs)

theorem State.edge_good {p : List Instr} {s a1} (hs : State.Good p s) : State.Good p (State.edge s a1) := by
  unfold State.edge
  exact (good_ite (good_foldl (fun _ _ h2 => (State.edgeIn_good h2)) hs) hs)

theorem State.irq_good {p : List Instr} {s a1 a2 a3} (hs : State.Good p s) : State.Good p (State.irq s a1 a2 a3) := by
  unfold State.irq
  extract_lets -merge -useContext x1_0 x1_1 x1_2
  have hx1_1 : State.Good p x1_1 := (State.wr_good hs)
  try clear_value x1_1
  have hx1_2 : State.Good p x1_2 := (good_core hx1_1 rfl rfl rfl)
  try clear_value x1_2
  exact (good_ite (State.edge_good hx1_2) hx1_2)

theorem State.post_good {p : List Instr} {s a1 a2 a3} (hs : State.Good p s) : State.Good p (State.post s a1 a2 a3) := by
  unfold State.post
  exact (good_core hs rfl rfl rfl)

theorem State.errQ_good {p : List Instr} {s a1 a2 a3} (hs : State.Good p s) : State.Good p (State.errQ s a1 a2 a3) := by
  unfold State.errQ
  exact (State.irq_good (State.wr_good hs))

theorem State.err_good {p : List Instr} {s a1 a2 a3 a4 a5} (hs : State.Good p s)
    : State.Good p (State.err s a1 a2 a3 a4 a5) := by
  unfold State.err
  extract_lets -merge -useContext x1_0
  have hx1_0 : State.Good p x1_0 := (State.errQ_good hs)
  try clear_value x1_0
  exact (good_ite hx1_0 (good_ite hx1_0 (State.post_good hx1_0)))

theorem State.count_good {p : List Instr} {s a1 a2 a3 a4 a5 a6} (hs : State.Good p s)
    : State.Good p (State.count s a1 a2 a3 a4 a5 a6) := by
  unfold State.count
  exact (good_ite (State.err_good (State.wr_good (State.bump_good hs))) (State.bump_good hs))

theorem State.setRepl_good {p : List Instr} {s a1 a2} (hs : State.Good p s) : State.Good p (State.setRepl s a1 a2) := by
  unfold State.setRepl
  extract_lets -merge -useContext x1_0
  have hx1_0 : State.Good p x1_0 := (State.wrB_good hs)
  try clear_value x1_0
  exact (State.wrB_good hx1_0)

theorem State.setGrant_good {p : List Instr} {s a1 a2} (hs : State.Good p s) : State.Good p (State.setGrant s a1 a2) := by
  unfold State.setGrant
  exact (good_core hs rfl rfl rfl)

theorem State.setQueue_good {p : List Instr} {s a1 a2} (hs : State.Good p s) : State.Good p (State.setQueue s a1 a2) := by
  unfold State.setQueue
  exact (good_core hs rfl rfl rfl)

theorem State.arbShow_good {p : List Instr} {s} (hs : State.Good p s) : State.Good p (State.arbShow s) := by
  unfold State.arbShow
  extract_lets -merge -useContext x1_0
  have hx1_0 : State.Good p x1_0 := (State.each_good hs (fun _ _ h4 => (by extract_lets -merge -useContext x4_0 x4_1; have hx4_0 : State.Good p x4_0 := (State.wr_good h4); try (clear_value x4_0); have hx4_1 : State.Good p x4_1 := (State.wr_good hx4_0); try (clear_value x4_1); exact (State.wrB_good hx4_1))))
  try clear_value x1_0
  exact (State.each_good hx1_0 (fun _ _ h7 => (by extract_lets -merge -useContext x7_0 x7_1; exact (State.wrB_good (State.wrB_good (State.wrB_good (State.wrB_good h7)))))))

theorem State.request_good {p : List Instr} {s a1 a2 a3 a4 a5} (hs : State.Good p s)
    : State.Good p (State.request s a1 a2 a3 a4 a5) := by
  unfold State.request
  extract_lets -merge -useContext x1_0
  exact (State.arbShow_good (State.setQueue_good hs))

theorem State.setCmd_good {p : List Instr} {s a1} (hs : State.Good p s) : State.Good p (State.setCmd s a1) := by
  unfold State.setCmd
  exact (good_core hs rfl rfl rfl)

theorem State.askNext_good {p : List Instr} {s a1} (hs : State.Good p s) : State.Good p (State.askNext s a1) := by
  unfold State.askNext
  split
  (exact hs)
  (exact (by extract_lets -merge -useContext x2_0; exact (State.request_good (State.setCmd_good hs))))

theorem State.dropOrg_good {p : List Instr} {s a1} (hs : State.Good p s) : State.Good p (State.dropOrg s a1) := by
  unfold State.dropOrg
  extract_lets -merge -useContext x1_0 x1_1
  have hx1_0 : State.Good p x1_0 := (State.each_good hs (fun _ _ h3 => (by split; (exact (good_ite (State.setGrant_good h3) h3)); (exact h3))))
  try clear_value x1_0
  have hx1_1 : State.Good p x1_1 := (State.each_good hx1_0 (fun _ _ h4 => (State.setQueue_good h4)))
  try clear_value x1_1
  exact (State.arbShow_good hx1_1)

theorem State.give_good {p : List Instr} {s a1 a2} (hs : State.Good p s) : State.Good p (State.give s a1 a2) := by
  unfold State.give
  extract_lets -merge -useContext x1_0 x1_1
  have hx1_1 : State.Good p x1_1 := (State.setQueue_good (State.setGrant_good hs))
  try clear_value x1_1
  exact (by split; (exact (State.arbShow_good hx1_1)); (exact (State.arbShow_good (State.irq_good (State.wr_good hx1_1)))); (exact (by split; (exact (State.arbShow_good (State.askNext_good hx1_1))); (exact (State.arbShow_good hx1_1)))))

theorem State.arbServe_good {p : List Instr} {s a1} (hs : State.Good p s) : State.Good p (State.arbServe s a1) := by
  unfold State.arbServe
  split
  (exact (State.give_good hs))
  (exact hs)

theorem State.revoke_good {p : List Instr} {s a1 a2 a3} (hs : State.Good p s) : State.Good p (State.revoke s a1 a2 a3) := by
  unfold State.revoke
  extract_lets -merge -useContext x1_0 x1_1 x1_2
  have hx1_0 : State.Good p x1_0 := (State.count_good hs)
  try clear_value x1_0
  have hx1_2 : State.Good p x1_2 := (State.setGrant_good hx1_0)
  try clear_value x1_2
  exact (by split; (exact hs); (exact (by split; (exact (by extract_lets -merge -useContext x4_0; have hx4_0 : State.Good p x4_0 := (State.dropOrg_good hx1_0); try (clear_value x4_0); exact (by split; (exact (State.arbShow_good (State.setGrant_good hx1_0))); (exact (by extract_lets -merge -useContext x6_0; have hx6_0 : State.Good p x6_0 := (State.setCmd_good hx4_0); try (clear_value x6_0); exact (by split; (exact hx6_0); (exact (State.arbShow_good (State.setQueue_good hx6_0))))))))); (exact (by extract_lets -merge -useContext x7_0 x7_1; have hx7_0 : State.Good p x7_0 := (good_ite (State.setQueue_good hx1_2) hx1_2); try (clear_value x7_0); have hx7_1 : State.Good p x7_1 := (good_ite (State.irq_good (State.wr_good hx7_0)) hx7_0); try (clear_value x7_1); exact (State.arbShow_good hx7_1))))))

theorem State.yield_good {p : List Instr} {s a1 a2} (hs : State.Good p s) : State.Good p (State.yield s a1 a2) := by
  unfold State.yield
  split
  (exact (State.arbServe_good (State.revoke_good (State.setCmd_good hs))))
  (exact hs)

theorem State.engineAsk_good {p : List Instr} {s a1 a2} (hs : State.Good p s) : State.Good p (State.engineAsk s a1 a2) := by
  unfold State.engineAsk
  extract_lets -merge -useContext x1_0
  exact (good_ite hs (State.request_good hs))

theorem State.engineDone_good {p : List Instr} {s a1 a2} (hs : State.Good p s)
    : State.Good p (State.engineDone s a1 a2) := by
  unfold State.engineDone
  exact (good_ite (State.arbShow_good (State.setGrant_good hs)) hs)

theorem State.setDbuf_good {p : List Instr} {s a1 a2 a3} (hs : State.Good p s)
    : State.Good p (State.setDbuf s a1 a2 a3) := by
  unfold State.setDbuf
  extract_lets -merge -useContext x1_0
  exact (State.setW_good hs)

theorem State.putDbuf_good {p : List Instr} {s c i l} (hs : State.Good p s) : State.Good p (State.putDbuf s c i l) := by
  induction l generalizing s i with
  | nil => exact hs
  | cons b t ih => exact ih (State.setDbuf_good hs)

theorem State.ringIrq_good {p : List Instr} {s a1} (hs : State.Good p s) : State.Good p (State.ringIrq s a1) := by
  unfold State.ringIrq
  extract_lets -merge -useContext x1_0 x1_1 x1_2
  have hx1_2 : State.Good p x1_2 := (State.modCtx_good hs)
  try clear_value x1_2
  exact (good_ite (State.edge_good hx1_2) hx1_2)

theorem State.writeCpl_good {p : List Instr} {s a1 a2 a3 a4 a5 a6} (hs : State.Good p s)
    : State.Good p (State.writeCpl s a1 a2 a3 a4 a5 a6) := by
  unfold State.writeCpl
  extract_lets -merge -useContext x1_0 x1_1 x1_2 x1_3 x1_4 x1_5
  have hx1_1 : State.Good p x1_1 := (State.setW_good hs)
  try clear_value x1_1
  have hx1_2 : State.Good p x1_2 := (State.setW_good hx1_1)
  try clear_value x1_2
  have hx1_3 : State.Good p x1_3 := (State.wr_good hx1_2)
  try clear_value x1_3
  have hx1_4 : State.Good p x1_4 := (State.wr_good hx1_3)
  try clear_value x1_4
  have hx1_5 : State.Good p x1_5 := (State.count_good hx1_4)
  try clear_value x1_5
  exact (State.ringIrq_good (State.modCtx_good hx1_5))

theorem State.completeB_good {p : List Instr} {s a1 a2 a3 a4 a5} (hs : State.Good p s)
    : State.Good p (State.completeB s a1 a2 a3 a4 a5) := by
  unfold State.completeB
  extract_lets -merge -useContext x1_0 x1_1 x1_2
  have hx1_0 : State.Good p x1_0 := (State.iff_good (good_core hs rfl rfl rfl) (fun _ h3 => (State.wr_good h3)))
  try clear_value x1_0
  have hx1_1 : State.Good p x1_1 := (good_ite (State.writeCpl_good (State.putDbuf_good hx1_0)) (State.err_good hx1_0))
  try clear_value x1_1
  have hx1_2 : State.Good p x1_2 := (State.wr_good (State.wr_good hx1_1))
  try clear_value x1_2
  exact (State.dropOrg_good hx1_2)

theorem State.complete_good {p : List Instr} {s a1 a2 a3} (hs : State.Good p s)
    : State.Good p (State.complete s a1 a2 a3) := by
  unfold State.complete
  exact (State.completeB_good hs)

theorem State.doneK_good {p : List Instr} {s a1 a2} (hs : State.Good p s) : State.Good p (State.doneK s a1 a2) := by
  unfold State.doneK
  exact (State.complete_good hs)

theorem State.failK_good {p : List Instr} {s a1 a2} (hs : State.Good p s) : State.Good p (State.failK s a1 a2) := by
  unfold State.failK
  exact (State.complete_good hs)

theorem State.failFree_good {p : List Instr} {s a1} (hs : State.Good p s) : State.Good p (State.failFree s a1) := by
  unfold State.failFree
  extract_lets -merge -useContext x1_0
  have hx1_0 : State.Good p x1_0.2 := (State.draw_good hs)
  try clear_value x1_0
  exact (State.failK_good hx1_0)

theorem State.runK_good {p : List Instr} {s a1} (hs : State.Good p s) : State.Good p (State.runK s a1) := by
  unfold State.runK
  exact (State.setCmd_good hs)

theorem State.start_good {p : List Instr} {s a1 a2 f3} (hs : State.Good p s) (hf3 : ∀ y0 y1, State.Good p y1 → State.Good p
    (f3 y0 y1))
    : State.Good p (State.start s a1 a2 f3) := by
  unfold State.start
  split
  (exact hs)
  (exact (good_ite (hf3 _ _ hs) hs))

theorem State.endRunning_good {p : List Instr} {s a1 a2 a3 a4} (hs : State.Good p s)
    : State.Good p (State.endRunning s a1 a2 a3 a4) := by
  unfold State.endRunning
  exact (good_foldl (fun _ _ h2 => (State.complete_good h2)) hs)

theorem State.modTwi_good {p : List Instr} {s a1 a2} (hs : State.Good p s) : State.Good p (State.modTwi s a1 a2) := by
  unfold State.modTwi
  exact (good_core hs rfl rfl rfl)

theorem State.setTwiSt_good {p : List Instr} {s a1 a2} (hs : State.Good p s) : State.Good p (State.setTwiSt s a1 a2) := by
  unfold State.setTwiSt
  exact (State.wr_good hs)

theorem State.twRest_good {p : List Instr} {s a1} (hs : State.Good p s) : State.Good p (State.twRest s a1) := by
  unfold State.twRest
  extract_lets -merge -useContext x1_0
  exact (State.setTwiSt_good (State.modTwi_good hs))

theorem State.refuseWaiting_good {p : List Instr} {s a1} (hs : State.Good p s)
    : State.Good p (State.refuseWaiting s a1) := by
  unfold State.refuseWaiting
  exact (good_foldl (fun _ _ h2 => (good_ite (State.complete_good h2) (State.complete_good h2))) hs)

theorem State.abortRunning_good {p : List Instr} {s} (hs : State.Good p s) : State.Good p (State.abortRunning s) := by
  unfold State.abortRunning
  exact (good_ite (good_foldl (fun _ _ h4 => (by extract_lets -merge -useContext x4_0; have hx4_0 : State.Good p x4_0 := (State.complete_good h4); try (clear_value x4_0); exact (good_ite (State.twRest_good hx4_0) hx4_0))) hs) hs)

theorem State.modRail_good {p : List Instr} {s a1 a2} (hs : State.Good p s) : State.Good p (State.modRail s a1 a2) := by
  unfold State.modRail
  exact (good_core hs rfl rfl rfl)

theorem State.modSheaf_good {p : List Instr} {s a1 a2} (hs : State.Good p s) : State.Good p (State.modSheaf s a1 a2) := by
  unfold State.modSheaf
  exact (good_core hs rfl rfl rfl)

theorem State.modPh_good {p : List Instr} {s a1 a2} (hs : State.Good p s) : State.Good p (State.modPh s a1 a2) := by
  unfold State.modPh
  exact (good_core hs rfl rfl rfl)

theorem State.modBuck_good {p : List Instr} {s a1 a2} (hs : State.Good p s) : State.Good p (State.modBuck s a1 a2) := by
  unfold State.modBuck
  exact (good_core hs rfl rfl rfl)

theorem State.modOut_good {p : List Instr} {s a1 a2} (hs : State.Good p s) : State.Good p (State.modOut s a1 a2) := by
  unfold State.modOut
  exact (good_core hs rfl rfl rfl)

theorem State.setEn_good {p : List Instr} {s a1 a2} (hs : State.Good p s) : State.Good p (State.setEn s a1 a2) := by
  unfold State.setEn
  split
  (exact (State.wrB_good hs))
  (exact (State.wrB_good hs))
  (exact (State.wrB_good hs))
  (exact (State.wrB_good hs))

theorem State.setOutSt_good {p : List Instr} {s a1 a2} (hs : State.Good p s) : State.Good p (State.setOutSt s a1 a2) := by
  unfold State.setOutSt
  split
  (exact (State.wr_good hs))
  (exact (State.wrB_good (State.wr_good hs)))
  (exact (State.wrB_good (State.wr_good hs)))
  (exact (State.wrB_good (State.wr_good hs)))

theorem State.setSupv_good {p : List Instr} {s a1 a2 a3} (hs : State.Good p s)
    : State.Good p (State.setSupv s a1 a2 a3) := by
  unfold State.setSupv
  extract_lets -merge -useContext x1_0
  exact (State.setW_good hs)

theorem State.allPg_good {p : List Instr} {s} (hs : State.Good p s) : State.Good p (State.allPg s) := by
  unfold State.allPg
  extract_lets -merge -useContext x1_0
  exact (State.wrB_good hs)

theorem State.setPair_good {p : List Instr} {s a1 a2 a3} (hs : State.Good p s)
    : State.Good p (State.setPair s a1 a2 a3) := by
  unfold State.setPair
  extract_lets -merge -useContext x1_0
  have hx1_0 : State.Good p x1_0 := (State.setSupv_good hs)
  try clear_value x1_0
  exact (good_ite (State.setSupv_good hx1_0) hx1_0)

theorem State.setPg_good {p : List Instr} {s a1 a2} (hs : State.Good p s) : State.Good p (State.setPg s a1 a2) := by
  unfold State.setPg
  exact (State.allPg_good (State.setPair_good hs))

theorem State.anyShow_good {p : List Instr} {s} (hs : State.Good p s) : State.Good p (State.anyShow s) := by
  unfold State.anyShow
  exact (State.wrB_good (State.wrB_good hs))

theorem State.setRef_good {p : List Instr} {s a1 a2} (hs : State.Good p s) : State.Good p (State.setRef s a1 a2) := by
  unfold State.setRef
  split
  (exact (State.wr_good hs))
  (exact (State.modBuck_good hs))
  (exact hs)

theorem State.setSlewing_good {p : List Instr} {s a1 a2} (hs : State.Good p s)
    : State.Good p (State.setSlewing s a1 a2) := by
  unfold State.setSlewing
  split
  (exact (State.wrB_good hs))
  (exact (State.wrB_good hs))
  (exact hs)

theorem State.endMoves_good {p : List Instr} {s a1 a2 a3} (hs : State.Good p s)
    : State.Good p (State.endMoves s a1 a2 a3) := by
  unfold State.endMoves
  exact (good_foldl (fun _ _ h2 => (State.complete_good h2)) hs)

theorem State.endWaits_good {p : List Instr} {s a1} (hs : State.Good p s) : State.Good p (State.endWaits s a1) := by
  unfold State.endWaits
  exact (good_foldl (fun _ _ h2 => (State.complete_good h2)) hs)

theorem State.slewDone_good {p : List Instr} {s a1} (hs : State.Good p s) : State.Good p (State.slewDone s a1) := by
  unfold State.slewDone
  extract_lets -merge -useContext x1_0 x1_1
  have hx1_0 : State.Good p x1_0 := (State.endWaits_good (State.mark_good (State.setSlewing_good hs)))
  try clear_value x1_0
  have hx1_1 : State.Good p x1_1 := (State.modRail_good hx1_0)
  try clear_value x1_1
  exact (by split; (exact (good_ite (State.irq_good hx1_1) hx1_1)); (exact (State.modBuck_good hx1_0)); (exact hx1_0))

theorem State.waitSample_good {p : List Instr} {s a1} (hs : State.Good p s) : State.Good p (State.waitSample s a1) := by
  unfold State.waitSample
  exact (good_core hs rfl rfl rfl)

theorem State.lidAbort_good {p : List Instr} {s a1 a2} (hs : State.Good p s) : State.Good p (State.lidAbort s a1 a2) := by
  unfold State.lidAbort
  extract_lets -merge -useContext x1_0
  have hx1_0 : State.Good p x1_0 := (State.wr_good (State.wr_good (State.wr_good hs)))
  try clear_value x1_0
  exact (good_ite (State.endRunning_good (State.err_good hx1_0)) hs)

theorem State.retarget_good {p : List Instr} {s a1} (hs : State.Good p s) : State.Good p (State.retarget s a1) := by
  unfold State.retarget
  extract_lets -merge -useContext x1_0 x1_1 x1_2 x1_3 x1_4 x1_5
  have hx1_3 : State.Good p x1_3 := (State.wrB_good hs)
  try clear_value x1_3
  have hx1_4 : State.Good p x1_4 := (good_ite (good_ite (State.errQ_good hx1_3) hx1_3) hs)
  try clear_value x1_4
  have hx1_5 : State.Good p x1_5 := (good_ite (State.lidAbort_good hx1_4) hx1_4)
  try clear_value x1_5
  exact (good_ite hx1_5 (good_ite (State.slewDone_good hx1_5) (State.setSlewing_good (State.modOut_good hx1_5))))

theorem State.phRest_good {p : List Instr} {s a1 a2} (hs : State.Good p s) : State.Good p (State.phRest s a1 a2) := by
  unfold State.phRest
  exact (State.modPh_good (State.wr_good (State.wr_good (State.wr_good hs))))

theorem State.sheafRest_good {p : List Instr} {s a1} (hs : State.Good p s) : State.Good p (State.sheafRest s a1) := by
  unfold State.sheafRest
  extract_lets -merge -useContext x1_0 x1_1
  have hx1_0 : State.Good p x1_0 := (State.each_good hs (fun _ _ h3 => (State.phRest_good h3)))
  try clear_value x1_0
  have hx1_1 : State.Good p x1_1 := (State.wr_good (State.wr_good (State.wr_good (State.wr_good (State.wr_good hx1_0)))))
  try clear_value x1_1
  exact (State.wr_good (State.modSheaf_good hx1_1))

theorem State.protLast_good {p : List Instr} {s a1 a2} (hs : State.Good p s) : State.Good p (State.protLast s a1 a2) := by
  unfold State.protLast
  exact (State.wr_good (State.wr_good hs))

theorem State.discharge_good {p : List Instr} {s a1} (hs : State.Good p s) : State.Good p (State.discharge s a1) := by
  unfold State.discharge
  extract_lets -merge -useContext x1_0 x1_1
  have hx1_1 : State.Good p x1_1 := (State.modOut_good hs)
  try clear_value x1_1
  exact (good_ite (good_ite (State.protLast_good hs) (good_ite (State.modOut_good hs) (State.err_good (State.protLast_good
    hs)))) (good_ite (State.modOut_good hx1_1) hx1_1))

theorem State.margClear_good {p : List Instr} {s a1} (hs : State.Good p s) : State.Good p (State.margClear s a1) := by
  unfold State.margClear
  exact (good_ite (State.wr_good (State.wr_good (State.wr_good (State.wr_good hs)))) hs)

theorem State.margAny_good {p : List Instr} {s} (hs : State.Good p s) : State.Good p (State.margAny s) := by
  unfold State.margAny
  exact (State.wrB_good hs)

theorem State.buckRest_good {p : List Instr} {s a1} (hs : State.Good p s) : State.Good p (State.buckRest s a1) := by
  unfold State.buckRest
  exact (State.modBuck_good (State.wr_good (State.wr_good (State.wr_good hs))))

theorem State.outStop_good {p : List Instr} {s a1 a2} (hs : State.Good p s) : State.Good p (State.outStop s a1 a2) := by
  unfold State.outStop
  extract_lets -merge -useContext x1_0 x1_1 x1_2 x1_3 x1_4 x1_5 x1_6
  have hx1_0 : State.Good p x1_0 := (State.endMoves_good (State.setOutSt_good hs))
  try clear_value x1_0
  have hx1_1 : State.Good p x1_1 := (State.wr_good (State.wr_good (State.wr_good (State.wr_good (State.sheafRest_good
    hx1_0)))))
  try clear_value x1_1
  have hx1_2 : State.Good p x1_2 := (good_ite (State.wr_good (State.wr_good hx1_1)) hx1_1)
  try clear_value x1_2
  have hx1_3 : State.Good p x1_3 := (State.wr_good hx1_0)
  try clear_value x1_3
  have hx1_4 : State.Good p x1_4 := (good_ite (State.wr_good (State.wr_good hx1_3)) hx1_3)
  try clear_value x1_4
  have hx1_5 : State.Good p x1_5 := (State.buckRest_good (State.modBuck_good (State.wr_good (State.wr_good hx1_4))))
  try clear_value x1_5
  have hx1_6 : State.Good p x1_6 := (by unfold x1_6; split; (exact (State.modRail_good (State.wr_good hx1_2))); (exact (good_ite (State.buckRest_good hx1_5) hx1_5)); (exact (State.wr_good (State.wr_good (State.wr_good (State.wr_good (State.wr_good hx1_0)))))); (exact (State.modOut_good (State.wr_good (State.wr_good (State.wr_good hx1_0))))))
  try clear_value x1_6
  exact (State.setPg_good (State.anyShow_good (State.modOut_good (State.setSlewing_good hx1_6))))

theorem State.outDown_good {p : List Instr} {s a1 a2} (hs : State.Good p s) : State.Good p (State.outDown s a1 a2) := by
  unfold State.outDown
  extract_lets -merge -useContext x1_0 x1_1 x1_2 x1_3
  have hx1_0 : State.Good p x1_0 := (good_ite (State.lidAbort_good hs) hs)
  try clear_value x1_0
  have hx1_1 : State.Good p x1_1 := (State.outStop_good (State.setEn_good hx1_0))
  try clear_value x1_1
  have hx1_2 : State.Good p x1_2 := (good_ite (State.margAny_good (State.margClear_good hx1_1)) hx1_1)
  try clear_value x1_2
  have hx1_3 : State.Good p x1_3 := (State.mark_good hx1_2)
  try clear_value x1_3
  exact (good_ite hx1_2 (good_core hx1_3 rfl rfl rfl))

theorem State.outOff_good {p : List Instr} {s a1 a2} (hs : State.Good p s) : State.Good p (State.outOff s a1 a2) := by
  unfold State.outOff
  exact (good_ite (State.discharge_good (State.outDown_good hs)) (State.outDown_good hs))

theorem State.outLatch_good {p : List Instr} {s a1} (hs : State.Good p s) : State.Good p (State.outLatch s a1) := by
  unfold State.outLatch
  extract_lets -merge -useContext x1_0 x1_1 x1_2 x1_3
  have hx1_1 : State.Good p x1_1 := (good_ite (State.lidAbort_good hs) hs)
  try clear_value x1_1
  have hx1_2 : State.Good p x1_2 := (State.margAny_good (State.margClear_good (State.outStop_good hx1_1)))
  try clear_value x1_2
  have hx1_3 : State.Good p x1_3 := (good_ite hx1_2 (good_core hx1_2 rfl rfl rfl))
  try clear_value x1_3
  exact (good_ite (State.discharge_good hx1_3) hx1_3)

theorem State.safeState_good {p : List Instr} {s a1} (hs : State.Good p s) : State.Good p (State.safeState s a1) := by
  unfold State.safeState
  extract_lets -merge -useContext x1_0 x1_1 x1_2
  have hx1_0 : State.Good p x1_0 := (State.iff_good (State.iff_good hs (fun _ h3 => (State.mark_good h3))) (fun _ h4 =>
    (State.mark_good h4)))
  try clear_value x1_0
  have hx1_1 : State.Good p x1_1 := (State.outDown_good hx1_0)
  try clear_value x1_1
  have hx1_2 : State.Good p x1_2 := (good_ite (State.setEn_good hx1_0) (by split; (exact (State.protLast_good hx1_1)); (exact (State.wr_good hx1_1)); (exact hx1_1)))
  try clear_value x1_2
  exact (good_ite (State.discharge_good hx1_2) hx1_2)

theorem State.ldo0Ka_good {p : List Instr} {s} (hs : State.Good p s) : State.Good p (State.ldo0Ka s) := by
  unfold State.ldo0Ka
  exact (State.wr_good (State.wr_good hs))

theorem State.forceGroup_good {p : List Instr} {s a1} (hs : State.Good p s) : State.Good p (State.forceGroup s a1) := by
  unfold State.forceGroup
  exact (State.each_good hs (fun _ _ h2 => (good_ite (State.safeState_good h2) h2)))

theorem State.islandsUp_good {p : List Instr} {s} (hs : State.Good p s) : State.Good p (State.islandsUp s) := by
  unfold State.islandsUp
  extract_lets -merge -useContext x1_0 x1_1 x1_2 x1_3 x1_4 x1_5 x1_6
  have hx1_3 : State.Good p x1_3 := (State.resetKeys_good hs)
  try clear_value x1_3
  have hx1_6 : State.Good p x1_6 := (good_core hx1_3 rfl rfl rfl)
  try clear_value x1_6
  exact (State.wr_good (State.wr_good (State.wr_good (State.wr_good hx1_6))))

theorem State.wakeCfg_good {p : List Instr} {s} (hs : State.Good p s) : State.Good p (State.wakeCfg s) := by
  unfold State.wakeCfg
  extract_lets -merge -useContext x1_0
  exact (good_core hs rfl rfl rfl)

theorem State.wakeReset_good {p : List Instr} {s a1} (hs : State.Good p s) : State.Good p (State.wakeReset s a1) := by
  unfold State.wakeReset
  extract_lets -merge -useContext x1_0 x1_1 x1_2 x1_3
  have hx1_0 : State.Good p x1_0 := (State.islandsUp_good hs)
  try clear_value x1_0
  have hx1_1 : State.Good p x1_1 := (State.resetKeys_good hs)
  try clear_value x1_1
  have hx1_2 : State.Good p x1_2 := (good_ite (good_core hx1_0 rfl rfl rfl) (good_core hx1_1 rfl rfl rfl))
  try clear_value x1_2
  exact (good_core hx1_2 rfl rfl rfl)

theorem State.leaveMode_good {p : List Instr} {s} (hs : State.Good p s) : State.Good p (State.leaveMode s) := by
  unfold State.leaveMode
  extract_lets -merge -useContext x1_0 x1_1 x1_2 x1_3 x1_4
  have hx1_0 : State.Good p x1_0 := (State.each_good hs (fun _ _ h3 => (State.lidAbort_good h3)))
  try clear_value x1_0
  have hx1_1 : State.Good p x1_1 := (State.each_good hx1_0 (fun _ _ h4 => (good_ite h4 (State.retarget_good (State.wr_good
    h4)))))
  try clear_value x1_1
  have hx1_2 : State.Good p x1_2 := (State.iff_good hx1_1 (fun _ h5 => (State.mark_good h5)))
  try clear_value x1_2
  have hx1_4 : State.Good p x1_4 := (State.wr_good (good_core hx1_2 rfl rfl rfl))
  try clear_value x1_4
  exact (good_ite (State.wr_good (State.wr_good (State.wr_good (State.margAny_good hx1_4)))) (good_ite (State.wr_good hs)
    (good_ite (State.wr_good hs) (good_ite (State.wr_good (State.wr_good (State.wr_good (State.wr_good hs)))) hs))))

theorem State.setMode_good {p : List Instr} {s a1 a2} (hs : State.Good p s) : State.Good p (State.setMode s a1 a2) := by
  unfold State.setMode
  extract_lets -merge -useContext x1_0 x1_1 x1_2 x1_3
  have hx1_1 : State.Good p x1_1 := (State.wr_good (State.wr_good (State.leaveMode_good hs)))
  try clear_value x1_1
  have hx1_3 : State.Good p x1_3 := (good_ite (good_core hx1_1 rfl rfl rfl) hx1_1)
  try clear_value x1_3
  exact (good_ite hx1_3 (State.post_good (State.irq_good hx1_3)))

theorem State.modBus_good {p : List Instr} {s a1} (hs : State.Good p s) : State.Good p (State.modBus s a1) := by
  unfold State.modBus
  exact (good_core hs rfl rfl rfl)

theorem State.setPort_good {p : List Instr} {s a1 a2} (hs : State.Good p s) : State.Good p (State.setPort s a1 a2) := by
  unfold State.setPort
  exact (State.wr_good hs)

theorem State.busRejoin_good {p : List Instr} {s} (hs : State.Good p s) : State.Good p (State.busRejoin s) := by
  unfold State.busRejoin
  exact (State.each_good hs (fun _ _ h2 => (good_ite (State.phRest_good h2) h2)))

theorem State.takeOuter_good {p : List Instr} {s a1} (hs : State.Good p s) : State.Good p (State.takeOuter s a1) := by
  unfold State.takeOuter
  extract_lets -merge -useContext x1_0 x1_1 x1_2
  have hx1_2 : State.Good p x1_2 := (State.modBus_good (State.wr_good hs))
  try clear_value x1_2
  exact (good_ite hx1_2 (good_ite (State.modBus_good hx1_2) (State.modBus_good hx1_2)))

theorem State.setBus_good {p : List Instr} {s a1} (hs : State.Good p s) : State.Good p (State.setBus s a1) := by
  unfold State.setBus
  extract_lets -merge -useContext x1_0 x1_1 x1_2 x1_3
  have hx1_1 : State.Good p x1_1 := (State.mark_good (State.takeOuter_good (State.wr_good (State.wr_good hs))))
  try clear_value x1_1
  have hx1_2 : State.Good p x1_2 := (State.each_good hx1_1 (fun _ _ h3 => (State.modPh_good h3)))
  try clear_value x1_2
  have hx1_3 : State.Good p x1_3 := (State.modBus_good hx1_2)
  try clear_value x1_3
  exact (good_ite (State.modBus_good (State.wr_good (State.wr_good (State.wr_good hx1_3)))) hx1_3)

theorem State.busTryStart_good {p : List Instr} {s} (hs : State.Good p s) : State.Good p (State.busTryStart s) := by
  unfold State.busTryStart
  exact (good_ite (good_ite (State.setBus_good (State.modBus_good hs)) (State.setBus_good (State.busRejoin_good hs))) hs)

theorem State.endCause_good {p : List Instr} {s a1} (hs : State.Good p s) : State.Good p (State.endCause s a1) := by
  unfold State.endCause
  exact (good_ite hs (State.modBus_good (State.wr_good hs)))

theorem State.unblock_good {p : List Instr} {s} (hs : State.Good p s) : State.Good p (State.unblock s) := by
  unfold State.unblock
  exact (State.each_good hs (fun _ _ h2 => (good_ite (State.setPort_good h2) h2)))

theorem State.sessionClose_good {p : List Instr} {s} (hs : State.Good p s) : State.Good p (State.sessionClose s) := by
  unfold State.sessionClose
  extract_lets -merge -useContext x1_0 x1_1 x1_2
  have hx1_1 : State.Good p x1_1 := (State.unmark_good (State.irq_good (State.wr_good hs)))
  try clear_value x1_1
  have hx1_2 : State.Good p x1_2 := (State.endRunning_good (State.post_good hx1_1))
  try clear_value x1_2
  exact (good_ite (State.unblock_good (State.modBus_good (State.endRunning_good hx1_2))) hs)

theorem State.ornOff_good {p : List Instr} {s a1} (hs : State.Good p s) : State.Good p (State.ornOff s a1) := by
  unfold State.ornOff
  exact (good_ite hs (State.wr_good hs))

theorem State.endSession_good {p : List Instr} {s a1} (hs : State.Good p s) : State.Good p (State.endSession s a1) := by
  unfold State.endSession
  extract_lets -merge -useContext x1_0 x1_1
  have hx1_1 : State.Good p x1_1 := (State.endCause_good hs)
  try clear_value x1_1
  exact (good_ite (good_ite (State.setBus_good hx1_1) (good_ite (State.setBus_good (State.ornOff_good hx1_1)) hx1_1)) hs)

theorem State.fastEnd_good {p : List Instr} {s a1 a2} (hs : State.Good p s) : State.Good p (State.fastEnd s a1 a2) := by
  unfold State.fastEnd
  extract_lets -merge -useContext x1_0
  have hx1_0 : State.Good p x1_0 := (State.ornOff_good (State.endCause_good hs))
  try clear_value x1_0
  exact (good_ite (State.err_good (good_ite hx1_0 (State.setBus_good hx1_0))) hs)

theorem State.busOff_good {p : List Instr} {s} (hs : State.Good p s) : State.Good p (State.busOff s) := by
  unfold State.busOff
  extract_lets -merge -useContext x1_0
  have hx1_0 : State.Good p x1_0 := (State.fastEnd_good (State.wr_good hs))
  try clear_value x1_0
  exact (State.modBus_good (State.sessionClose_good (State.setBus_good (State.ornOff_good hx1_0))))

theorem State.busWatch_good {p : List Instr} {s} (hs : State.Good p s) : State.Good p (State.busWatch s) := by
  unfold State.busWatch
  extract_lets -merge -useContext x1_0 x1_1 x1_2
  have hx1_2 : State.Good p x1_2 := (good_ite (good_ite hs (State.fastEnd_good hs)) (good_ite (State.endSession_good hs)
    hs))
  try clear_value x1_2
  exact (good_ite (State.setBus_good hx1_2) (good_ite (State.busTryStart_good hx1_2) hx1_2))

theorem State.buscPor_good {p : List Instr} {s} (hs : State.Good p s) : State.Good p (State.buscPor s) := by
  unfold State.buscPor
  extract_lets -merge -useContext x1_0 x1_1 x1_2
  exact (State.wr_good (State.wr_good (State.wr_good (State.resetKeys_good hs))))

theorem State.pathStart_good {p : List Instr} {s a1} (hs : State.Good p s) : State.Good p (State.pathStart s a1) := by
  unfold State.pathStart
  exact (State.wr_good (State.wr_good (State.setBus_good (State.modBus_good hs))))

theorem State.pathStop_good {p : List Instr} {s} (hs : State.Good p s) : State.Good p (State.pathStop s) := by
  unfold State.pathStop
  exact (State.wr_good (State.setBus_good hs))

theorem State.busPark_good {p : List Instr} {s} (hs : State.Good p s) : State.Good p (State.busPark s) := by
  unfold State.busPark
  extract_lets -merge -useContext x1_0 x1_1 x1_2 x1_3
  have hx1_3 : State.Good p x1_3 := (State.modBus_good (State.buscPor_good (State.sessionClose_good (State.ornOff_good
    (State.endCause_good hs)))))
  try clear_value x1_3
  exact (good_ite (State.pathStop_good hx1_3) (good_ite hx1_3 (good_ite (State.setBus_good hx1_3) (State.pathStart_good
    hx1_3))))

theorem State.busWake_good {p : List Instr} {s} (hs : State.Good p s) : State.Good p (State.busWake s) := by
  unfold State.busWake
  extract_lets -merge -useContext x1_0
  have hx1_0 : State.Good p x1_0 := (State.each_good hs (fun _ _ h3 => (State.wr_good h3)))
  try clear_value x1_0
  exact (good_ite (State.setBus_good hx1_0) hx1_0)

theorem State.feedsRefresh_good {p : List Instr} {s} (hs : State.Good p s) : State.Good p (State.feedsRefresh s).1 := by
  unfold State.feedsRefresh
  extract_lets -merge -useContext x1_0 x1_1 x1_2 x1_3
  have hx1_3 : State.Good p x1_3 := (State.wrB_good hs)
  try clear_value x1_3
  exact (good_ite1 (State.err_good hx1_3) hx1_3)

theorem State.setLost_good {p : List Instr} {s a1 a2} (hs : State.Good p s) : State.Good p (State.setLost s a1 a2) := by
  unfold State.setLost
  exact (State.modBus_good hs)

theorem State.setPrev_good {p : List Instr} {s a1 a2} (hs : State.Good p s) : State.Good p (State.setPrev s a1 a2) := by
  unfold State.setPrev
  exact (State.modBus_good hs)

theorem State.holdPort_good {p : List Instr} {s a1} (hs : State.Good p s) : State.Good p (State.holdPort s a1) := by
  unfold State.holdPort
  exact (good_ite (State.setPort_good hs) (good_ite (State.setPrev_good hs) hs))

theorem State.setBlock_good {p : List Instr} {s a1 a2} (hs : State.Good p s) : State.Good p (State.setBlock s a1 a2) := by
  unfold State.setBlock
  extract_lets -merge -useContext x1_0 x1_1
  have hx1_0 : State.Good p x1_0 := (State.wr_good hs)
  try clear_value x1_0
  have hx1_1 : State.Good p x1_1 := (State.wr_good hs)
  try clear_value x1_1
  exact (good_ite (good_ite (State.busWatch_good (State.holdPort_good hx1_0)) (State.err_good hs)) (good_ite
    (State.busWatch_good (State.setPort_good hx1_1)) hx1_1))

theorem State.setNEn_good {p : List Instr} {s a1} (hs : State.Good p s) : State.Good p (State.setNEn s a1) := by
  unfold State.setNEn
  extract_lets -merge -useContext x1_0
  have hx1_0 : State.Good p x1_0 := (State.wrB_good hs)
  try clear_value x1_0
  exact (good_ite (good_ite (State.wr_good hx1_0) hx1_0) (State.wr_good (State.endSession_good hx1_0)))

theorem State.busTouched_good {p : List Instr} {s} (hs : State.Good p s) : State.Good p (State.busTouched s) := by
  unfold State.busTouched
  exact (good_ite (State.setBus_good hs) hs)

theorem State.vbusOv_good {p : List Instr} {s} (hs : State.Good p s) : State.Good p (State.vbusOv s) := by
  unfold State.vbusOv
  extract_lets -merge -useContext x1_0
  have hx1_0 : State.Good p x1_0 := (State.errQ_good (State.modBus_good hs))
  try clear_value x1_0
  exact (good_ite (State.setBus_good hx1_0) (State.fastEnd_good hx1_0))

theorem State.busRemove_good {p : List Instr} {s a1} (hs : State.Good p s) : State.Good p (State.busRemove s a1) := by
  unfold State.busRemove
  extract_lets -merge -useContext x1_0
  have hx1_0 : State.Good p x1_0 := (State.wr_good (State.phRest_good hs))
  try clear_value x1_0
  exact (State.wr_good hx1_0)

theorem State.busShort_good {p : List Instr} {s} (hs : State.Good p s) : State.Good p (State.busShort s) := by
  unfold State.busShort
  extract_lets -merge -useContext x1_0 x1_1 x1_2 x1_3
  have hx1_1 : State.Good p x1_1 := (good_ite (State.endSession_good hs) hs)
  try clear_value x1_1
  have hx1_3 : State.Good p x1_3 := (State.err_good hx1_1)
  try clear_value x1_3
  exact (good_ite (good_ite (State.setBus_good hx1_3) hx1_3) hx1_1)

end Sys2Proof.Machine
end

