-- ==== Sys2Proof/Laws/Keep2.lean ====
section
/-! SUPPORT. The queue and the two canonical forms, kept by the operations and meanings of Charger, Sheaf, Rails, Regs. -/

namespace Sys2Proof.Machine

open Sys2Proof

theorem State.modChg_good {p : List Instr} {s a1} (hs : State.Good p s) : State.Good p (State.modChg s a1) := by
  unfold State.modChg
  exact (good_core hs rfl rfl rfl)

theorem State.setChg_good {p : List Instr} {s a1} (hs : State.Good p s) : State.Good p (State.setChg s a1) := by
  unfold State.setChg
  extract_lets -merge -useContext x1_0 x1_1
  have hx1_0 : State.Good p x1_0 := (State.modChg_good (State.wr_good hs))
  try clear_value x1_0
  have hx1_1 : State.Good p x1_1 := (good_ite (State.modChg_good hx1_0) hx1_0)
  try clear_value x1_1
  exact (good_ite (State.wr_good hx1_1) hx1_1)

theorem State.safeZero_good {p : List Instr} {s} (hs : State.Good p s) : State.Good p (State.safeZero s) := by
  unfold State.safeZero
  exact (State.modChg_good (State.wr_good hs))

theorem State.phaseZero_good {p : List Instr} {s} (hs : State.Good p s) : State.Good p (State.phaseZero s) := by
  unfold State.phaseZero
  exact (State.modChg_good (State.wr_good hs))

theorem State.restZero_good {p : List Instr} {s} (hs : State.Good p s) : State.Good p (State.restZero s) := by
  unfold State.restZero
  exact (State.modChg_good hs)

theorem State.toCC_good {p : List Instr} {s} (hs : State.Good p s) : State.Good p (State.toCC s) := by
  unfold State.toCC
  exact (State.setChg_good (State.safeZero_good hs))

theorem State.chgErr_good {p : List Instr} {s a1 a2} (hs : State.Good p s) : State.Good p (State.chgErr s a1 a2) := by
  unfold State.chgErr
  exact (State.err_good (State.wr_good hs))

theorem State.chgCount_good {p : List Instr} {s a1 a2} (hs : State.Good p s) : State.Good p (State.chgCount s a1 a2) := by
  unfold State.chgCount
  exact (State.count_good hs)

theorem State.onFe2_good {p : List Instr} {s a1 f2} (hs : State.Good p s) (hf2 : ∀ y0, State.Good p y0 → State.Good p (f2
    y0))
    : State.Good p (State.onFe2 s a1 f2) := by
  unfold State.onFe2
  exact (good_ite (hf2 _ hs) (good_ite (State.putOff_good hs) hs))

theorem State.chgAbsent_good {p : List Instr} {s a1} (hs : State.Good p s) : State.Good p (State.chgAbsent s a1) := by
  unfold State.chgAbsent
  exact (State.busWatch_good (State.restZero_good (State.modChg_good (State.setChg_good (State.wr_good hs)))))

theorem State.chgWatch_good {p : List Instr} {s} (hs : State.Good p s) : State.Good p (State.chgWatch s) := by
  unfold State.chgWatch
  extract_lets -merge -useContext x1_0 x1_1 x1_2 x1_3
  have hx1_0 : State.Good p x1_0 := (State.modChg_good hs)
  try clear_value x1_0
  have hx1_2 : State.Good p x1_2 := (State.wr_good hx1_0)
  try clear_value x1_2
  exact (good_ite (good_ite (State.chgAbsent_good hx1_2) (good_ite (State.setChg_good (State.wr_good hx1_2)) (good_ite
    (State.setChg_good (State.restZero_good hx1_2)) (good_ite (State.setChg_good hx1_2) hx1_2)))) hs)

theorem State.chgEn_good {p : List Instr} {s a1} (hs : State.Good p s) : State.Good p (State.chgEn s a1) := by
  unfold State.chgEn
  exact (State.chgWatch_good (State.wrB_good hs))

theorem State.chgFound_good {p : List Instr} {s} (hs : State.Good p s) : State.Good p (State.chgFound s) := by
  unfold State.chgFound
  extract_lets -merge -useContext x1_0
  have hx1_0 : State.Good p x1_0 := (State.setChg_good (State.wr_good (State.restZero_good (State.phaseZero_good
    (State.safeZero_good hs)))))
  try clear_value x1_0
  exact (State.busWatch_good (State.irq_good (State.modChg_good hx1_0)))

theorem State.chgLeaveAbsent_good {p : List Instr} {s} (hs : State.Good p s) : State.Good p (State.chgLeaveAbsent s) := by
  unfold State.chgLeaveAbsent
  extract_lets -merge -useContext x1_0
  exact (good_ite (good_ite (State.wr_good hs) (good_ite (State.busWatch_good (State.err_good (State.setChg_good
    (State.wr_good hs)))) (State.chgFound_good hs))) hs)

theorem State.zoneRefresh_good {p : List Instr} {s} (hs : State.Good p s) : State.Good p (State.zoneRefresh s) := by
  unfold State.zoneRefresh
  exact (State.chgWatch_good (State.wr_good hs))

theorem State.safeTick_good {p : List Instr} {s} (hs : State.Good p s) : State.Good p (State.safeTick s) := by
  unfold State.safeTick
  extract_lets -merge -useContext x1_0 x1_1 x1_2 x1_3
  have hx1_1 : State.Good p x1_1 := (State.wrB_good hs)
  try clear_value x1_1
  have hx1_3 : State.Good p x1_3 := (State.modChg_good hx1_1)
  try clear_value x1_3
  exact (good_ite (good_ite (State.bump_good hx1_3) hx1_3) hx1_1)

theorem State.phaseTick_good {p : List Instr} {s} (hs : State.Good p s) : State.Good p (State.phaseTick s) := by
  unfold State.phaseTick
  extract_lets -merge -useContext x1_0 x1_1
  have hx1_1 : State.Good p x1_1 := (State.modChg_good hs)
  try clear_value x1_1
  exact (good_ite (good_ite (State.bump_good hx1_1) hx1_1) hs)

theorem State.restTick_good {p : List Instr} {s a1} (hs : State.Good p s) : State.Good p (State.restTick s a1) := by
  unfold State.restTick
  exact (good_ite (State.modChg_good hs) (good_ite (State.modChg_good hs) hs))

theorem State.spanTick_good {p : List Instr} {s a1} (hs : State.Good p s) : State.Good p (State.spanTick s a1) := by
  unfold State.spanTick
  extract_lets -merge -useContext x1_0 x1_1
  have hx1_0 : State.Good p x1_0 := (State.modChg_good hs)
  try clear_value x1_0
  exact (State.modChg_good hx1_0)

theorem State.countTick_good {p : List Instr} {s} (hs : State.Good p s) : State.Good p (State.countTick s) := by
  unfold State.countTick
  extract_lets -merge -useContext x1_0 x1_1
  have hx1_1 : State.Good p x1_1 := (State.modChg_good hs)
  try clear_value x1_1
  exact (good_ite (State.bump_good hx1_1) hx1_1)

theorem State.llTick_good {p : List Instr} {s} (hs : State.Good p s) : State.Good p (State.llTick s) := by
  unfold State.llTick
  extract_lets -merge -useContext x1_0 x1_1
  have hx1_1 : State.Good p x1_1 := (State.modChg_good hs)
  try clear_value x1_1
  exact (good_ite (good_ite (State.chgCount_good hx1_1) hx1_1) hs)

theorem State.chgTick_good {p : List Instr} {s a1} (hs : State.Good p s) : State.Good p (State.chgTick s a1) := by
  unfold State.chgTick
  extract_lets -merge -useContext x1_0 x1_1
  have hx1_0 : State.Good p x1_0 := (good_ite (State.llTick_good hs) hs)
  try clear_value x1_0
  exact (good_ite (State.zoneRefresh_good (State.countTick_good (State.spanTick_good (State.restTick_good
    (State.phaseTick_good (State.safeTick_good (State.wr_good hx1_0))))))) hx1_0)

theorem State.qualifyEnd_good {p : List Instr} {s a1} (hs : State.Good p s) : State.Good p (State.qualifyEnd s a1) := by
  unfold State.qualifyEnd
  extract_lets -merge -useContext x1_0 x1_1 x1_2
  have hx1_1 : State.Good p x1_1 := (State.wr_good hs)
  try clear_value x1_1
  have hx1_2 : State.Good p x1_2 := (good_ite (State.setChg_good hx1_1) (good_ite (State.setChg_good (State.phaseZero_good
    hx1_1)) (State.toCC_good hx1_1)))
  try clear_value x1_2
  exact (good_ite (State.chgWatch_good hx1_2) hs)

theorem State.chgStep_good {p : List Instr} {s a1 a2 f3} (hs : State.Good p s) (hf3 : ∀ y0, State.Good p y0 → State.Good p
    (f3 y0))
    : State.Good p (State.chgStep s a1 a2 f3) := by
  unfold State.chgStep
  exact (State.onFe2_good hs (fun _ h2 => (good_ite (hf3 _ h2) h2)))

theorem State.chgTimeout_good {p : List Instr} {s a1} (hs : State.Good p s) : State.Good p (State.chgTimeout s a1) := by
  unfold State.chgTimeout
  exact (State.chgErr_good (State.setChg_good hs))

theorem State.terminate_good {p : List Instr} {s} (hs : State.Good p s) : State.Good p (State.terminate s) := by
  unfold State.terminate
  exact (good_ite (good_ite (State.setChg_good hs) (State.post_good (State.setChg_good (State.phaseZero_good hs)))) hs)

theorem State.safeExpiry_good {p : List Instr} {s} (hs : State.Good p s) : State.Good p (State.safeExpiry s) := by
  unfold State.safeExpiry
  exact (good_ite (State.terminate_good hs) (good_ite (State.chgTimeout_good hs) hs))

theorem State.topoffDone_good {p : List Instr} {s} (hs : State.Good p s) : State.Good p (State.topoffDone s) := by
  unfold State.topoffDone
  exact (State.irq_good (State.chgCount_good (State.setChg_good hs)))

theorem State.recharge_good {p : List Instr} {s} (hs : State.Good p s) : State.Good p (State.recharge s) := by
  unfold State.recharge
  exact (State.chgCount_good (State.toCC_good hs))

theorem State.restStart_good {p : List Instr} {s} (hs : State.Good p s) : State.Good p (State.restStart s) := by
  unfold State.restStart
  exact (State.setChg_good (State.restZero_good (State.wr_good hs)))

theorem State.restEnd_good {p : List Instr} {s} (hs : State.Good p s) : State.Good p (State.restEnd s) := by
  unfold State.restEnd
  extract_lets -merge -useContext x1_0 x1_1
  have hx1_1 : State.Good p x1_1 := (State.irq_good (State.modChg_good (State.wr_good (State.wr_good hs))))
  try clear_value x1_1
  exact (State.setChg_good (State.restZero_good (State.post_good hx1_1)))

theorem State.packAbsence_good {p : List Instr} {s a1 a2} (hs : State.Good p s)
    : State.Good p (State.packAbsence s a1 a2) := by
  unfold State.packAbsence
  exact (good_ite (State.onFe2_good (State.modChg_good hs) (fun _ h2 => (State.chgAbsent_good (State.chgErr_good h2)))) hs)

theorem State.packOv_good {p : List Instr} {s a1 a2} (hs : State.Good p s) : State.Good p (State.packOv s a1 a2) := by
  unfold State.packOv
  exact (good_ite (State.onFe2_good (State.modChg_good hs) (fun _ h2 => (State.chgErr_good (State.setChg_good
    (State.restZero_good (State.modChg_good h2)))))) hs)

theorem State.ntcShort_good {p : List Instr} {s} (hs : State.Good p s) : State.Good p (State.ntcShort s) := by
  unfold State.ntcShort
  exact (good_ite (State.chgErr_good (State.setChg_good (State.restZero_good hs))) hs)

theorem State.ntcClass_good {p : List Instr} {s a1 a2} (hs : State.Good p s) : State.Good p (State.ntcClass s a1 a2) := by
  unfold State.ntcClass
  exact (good_ite (State.modChg_good (State.wr_good hs)) (good_ite hs (State.modChg_good (State.mark_good (State.wr_good
    hs)))))

theorem State.terms_good {p : List Instr} {s a1} (hs : State.Good p s) : State.Good p (State.terms s a1) := by
  unfold State.terms
  extract_lets -merge -useContext x1_0 x1_1 x1_2
  have hx1_0 : State.Good p x1_0 := (good_ite (State.modChg_good hs) hs)
  try clear_value x1_0
  have hx1_1 : State.Good p x1_1 := (good_ite (State.modChg_good hx1_0) hx1_0)
  try clear_value x1_1
  exact (State.wrB_good (State.wrB_good hx1_1))

theorem State.chgAct_good {p : List Instr} {s a1} (hs : State.Good p s) : State.Good p (State.chgAct s a1) := by
  unfold State.chgAct
  exact (good_ite (State.chgWatch_good (State.wr_good hs)) (good_ite (State.chgWatch_good (State.wr_good hs)) (good_ite
    (good_ite (State.setChg_good (State.wr_good (State.restZero_good (State.phaseZero_good (State.safeZero_good hs))))) hs)
    (good_ite (State.restStart_good hs) (State.recharge_good hs)))))

theorem State.chgCtrl_good {p : List Instr} {s a1 a2} (hs : State.Good p s) : State.Good p (State.chgCtrl s a1 a2) := by
  unfold State.chgCtrl
  exact (State.start_good hs (fun _ _ h3 => (by extract_lets -merge -useContext x3_0 x3_1; have hx3_1 : State.Good p x3_1 := (State.chgAct_good (good_ite h3 (State.wr_good h3))); try (clear_value x3_1); exact (good_ite (by split; (exact (State.failK_good h3)); (exact (State.doneK_good hx3_1))) h3))))

theorem State.weigh_good {p : List Instr} {s a1 a2} (hs : State.Good p s) : State.Good p (State.weigh s a1 a2) := by
  unfold State.weigh
  exact (State.wr_good hs)

theorem State.trimZero_good {p : List Instr} {s a1} (hs : State.Good p s) : State.Good p (State.trimZero s a1) := by
  unfold State.trimZero
  exact (State.wr_good hs)

theorem State.phActive_good {p : List Instr} {s a1} (hs : State.Good p s) : State.Good p (State.phActive s a1) := by
  unfold State.phActive
  exact (State.modPh_good (State.weigh_good (State.wr_good hs)))

theorem State.countM_good {p : List Instr} {s a1} (hs : State.Good p s) : State.Good p (State.countM s a1) := by
  unfold State.countM
  extract_lets -merge -useContext x1_0
  exact (State.wr_good (State.wr_good hs))

theorem State.lidStale_good {p : List Instr} {s a1} (hs : State.Good p s) : State.Good p (State.lidStale s a1) := by
  unfold State.lidStale
  exact (State.modRail_good hs)

theorem State.countSpares_good {p : List Instr} {s a1} (hs : State.Good p s) : State.Good p (State.countSpares s a1) := by
  unfold State.countSpares
  exact (State.wr_good hs)

theorem State.sheafStart_good {p : List Instr} {s a1} (hs : State.Good p s) : State.Good p (State.sheafStart s a1) := by
  unfold State.sheafStart
  extract_lets -merge -useContext x1_0 x1_1 x1_2
  have hx1_0 : State.Good p x1_0 := (State.each_good hs (fun _ _ h3 => (State.trimZero_good (State.phActive_good h3))))
  try clear_value x1_0
  have hx1_1 : State.Good p x1_1 := (State.each_good hx1_0 (fun _ _ h4 => (State.phRest_good h4)))
  try clear_value x1_1
  have hx1_2 : State.Good p x1_2 := (State.each_good hx1_1 (fun _ _ h5 => (State.phRest_good h5)))
  try clear_value x1_2
  exact (State.countM_good (State.countSpares_good (State.modSheaf_good hx1_2)))

theorem State.fillSlots_good {p : List Instr} {s a1} (hs : State.Good p s) : State.Good p (State.fillSlots s a1) := by
  unfold State.fillSlots
  exact (good_foldl (fun _ _ h3 => (by extract_lets -merge -useContext x3_0 x3_1; exact (good_ite h3 (by split; (exact (State.lidStale_good (State.phRest_good (State.wr_good (State.wr_good h3))))); (exact (good_ite h3 (State.lidStale_good (State.wr_good h3)))))))) hs)

theorem State.dutySet_good {p : List Instr} {s a1} (hs : State.Good p s) : State.Good p (State.dutySet s a1) := by
  unfold State.dutySet
  extract_lets -merge -useContext x1_0 x1_1
  exact (State.each_good hs (fun _ _ h4 => (by extract_lets -merge -useContext x4_0; exact (State.modPh_good h4))))

theorem State.shCount_good {p : List Instr} {s a1 a2 a3} (hs : State.Good p s)
    : State.Good p (State.shCount s a1 a2 a3) := by
  unfold State.shCount
  exact (State.count_good hs)

theorem State.goFull_good {p : List Instr} {s a1} (hs : State.Good p s) : State.Good p (State.goFull s a1) := by
  unfold State.goFull
  extract_lets -merge -useContext x1_0 x1_1
  have hx1_0 : State.Good p x1_0 := (State.each_good hs (fun _ _ h3 => (good_ite (State.trimZero_good (State.phActive_good
    h3)) h3)))
  try clear_value x1_0
  have hx1_1 : State.Good p x1_1 := (State.wr_good (State.wr_good (State.wr_good hx1_0)))
  try clear_value x1_1
  exact (State.dutySet_good (State.mark_good (State.modSheaf_good hx1_1)))

theorem State.comeBack_good {p : List Instr} {s a1} (hs : State.Good p s) : State.Good p (State.comeBack s a1) := by
  unfold State.comeBack
  exact (good_ite (State.modSheaf_good (State.each_good hs (fun _ _ h2 => (good_ite h2 (State.trimZero_good
    (State.phActive_good h2)))))) hs)

theorem State.shedAbort_good {p : List Instr} {s a1 a2 a3} (hs : State.Good p s)
    : State.Good p (State.shedAbort s a1 a2 a3) := by
  unfold State.shedAbort
  extract_lets -merge -useContext x1_0
  exact (good_ite (State.post_good (State.shCount_good (State.goFull_good hs))) (good_ite (State.goFull_good hs) hs))

theorem State.fireOut_good {p : List Instr} {s a1 a2 a3 a4} (hs : State.Good p s)
    : State.Good p (State.fireOut s a1 a2 a3 a4) := by
  unfold State.fireOut
  extract_lets -merge -useContext x1_0 x1_1 x1_2 x1_3 x1_4 x1_5
  have hx1_5 : State.Good p x1_5 := (State.each_good hs (fun _ _ h3 => (State.modPh_good h3)))
  try clear_value x1_5
  exact (State.wr_good hx1_5)

theorem State.shedBegin_good {p : List Instr} {s a1 a2} (hs : State.Good p s) : State.Good p (State.shedBegin s a1 a2) := by
  unfold State.shedBegin
  extract_lets -merge -useContext x1_0 x1_1 x1_2
  have hx1_2 : State.Good p x1_2 := (State.each_good hs (fun _ _ h3 => (State.modPh_good (State.trimZero_good
    (State.wr_good h3)))))
  try clear_value x1_2
  exact (State.countM_good (State.modSheaf_good (State.wr_good (State.wr_good hx1_2))))

theorem State.addBegin_good {p : List Instr} {s a1} (hs : State.Good p s) : State.Good p (State.addBegin s a1) := by
  unfold State.addBegin
  extract_lets -merge -useContext x1_0 x1_1 x1_2 x1_3 x1_4 x1_5
  have hx1_5 : State.Good p x1_5 := (State.each_good hs (fun _ _ h3 => (State.modPh_good (State.trimZero_good
    (State.weigh_good (State.wr_good h3))))))
  try clear_value x1_5
  exact (State.countM_good (State.modSheaf_good (State.wr_good (State.wr_good hx1_5))))

theorem State.shedEnd_good {p : List Instr} {s a1} (hs : State.Good p s) : State.Good p (State.shedEnd s a1) := by
  unfold State.shedEnd
  extract_lets -merge -useContext x1_0
  have hx1_0 : State.Good p x1_0 := (State.each_good hs (fun _ _ h3 => (State.phRest_good h3)))
  try clear_value x1_0
  exact (State.countM_good (State.modSheaf_good (State.wr_good (State.wr_good (State.wr_good hx1_0)))))

theorem State.addEnd_good {p : List Instr} {s a1} (hs : State.Good p s) : State.Good p (State.addEnd s a1) := by
  unfold State.addEnd
  extract_lets -merge -useContext x1_0 x1_1
  have hx1_0 : State.Good p x1_0 := (State.each_good hs (fun _ _ h3 => (State.trimZero_good (State.phActive_good h3))))
  try clear_value x1_0
  exact (State.countM_good (State.modSheaf_good (State.wr_good (State.wr_good (State.wr_good hx1_0)))))

theorem State.noSlot_good {p : List Instr} {s a1} (hs : State.Good p s) : State.Good p (State.noSlot s a1) := by
  unfold State.noSlot
  exact (good_ite (State.post_good (State.protLast_good (State.outLatch_good hs))) hs)

theorem State.substitute_good {p : List Instr} {s a1 a2 a3 a4 a5} (hs : State.Good p s)
    : State.Good p (State.substitute s a1 a2 a3 a4 a5) := by
  unfold State.substitute
  extract_lets -merge -useContext x1_0 x1_1
  have hx1_0 : State.Good p x1_0 := (State.setRepl_good (State.wr_good (State.wr_good hs)))
  try clear_value x1_0
  have hx1_1 : State.Good p x1_1 := (good_ite (State.phRest_good hx1_0) (good_ite (State.dutySet_good (State.modSheaf_good
    (State.modPh_good (State.trimZero_good (State.phActive_good hx1_0))))) (State.modSheaf_good (State.phRest_good hx1_0))))
  try clear_value x1_1
  exact (State.countSpares_good hx1_1)

theorem State.removePhase_good {p : List Instr} {s a1 a2} (hs : State.Good p s)
    : State.Good p (State.removePhase s a1 a2) := by
  unfold State.removePhase
  extract_lets -merge -useContext x1_0 x1_1 x1_2 x1_3 x1_4 x1_5 x1_6 x1_7 x1_8 x1_9
  have hx1_6 : State.Good p x1_6 := (State.phRest_good (State.wr_good hs))
  try clear_value x1_6
  have hx1_7 : State.Good p x1_7 := (State.wr_good (State.protLast_good hx1_6))
  try clear_value x1_7
  have hx1_8 : State.Good p x1_8 := (State.lidStale_good (State.shedAbort_good hx1_7))
  try clear_value x1_8
  have hx1_9 : State.Good p x1_9 := (State.errQ_good (State.wr_good (State.err_good (State.lidAbort_good hx1_8))))
  try clear_value x1_9
  exact (good_ite hs (good_ite (State.err_good hx1_6) (good_ite (State.setRepl_good (State.countSpares_good (State.lidAbort_good (State.err_good hx1_7)))) (by split; (exact (State.substitute_good (State.err_good (State.lidAbort_good hx1_8)))); (exact (State.noSlot_good hx1_9))))))

theorem State.identify_good {p : List Instr} {s a1 a2} (hs : State.Good p s) : State.Good p (State.identify s a1 a2) := by
  unfold State.identify
  extract_lets -merge -useContext x1_0 x1_1 x1_2 x1_3 x1_4 x1_5 x1_6 x1_7 x1_8 x1_9 x1_10 x1_11
  have hx1_1 : State.Good p x1_1 := (State.each_good hs (fun _ _ h3 => (State.modPh_good h3)))
  try clear_value x1_1
  have hx1_4 : State.Good p x1_4 := (State.wr_good hx1_1)
  try clear_value x1_4
  have hx1_8 : State.Good p x1_8 := (good_ite (State.errQ_good hx1_4) hx1_4)
  try clear_value x1_8
  have hx1_10 : State.Good p x1_10 := (State.each_good hx1_8 (fun _ _ h4 => (State.errQ_good h4)))
  try clear_value x1_10
  have hx1_11 : State.Good p x1_11 := (State.each_good hx1_10 (fun _ _ h5 => (good_ite (State.removePhase_good h5)
    (good_ite h5 (State.err_good (State.busRemove_good h5))))))
  try clear_value x1_11
  exact (good_ite (State.busShort_good hx1_11) hx1_11)

theorem State.identifyRail_good {p : List Instr} {s a1 a2} (hs : State.Good p s)
    : State.Good p (State.identifyRail s a1 a2) := by
  unfold State.identifyRail
  extract_lets -merge -useContext x1_0
  exact (State.each_good hs (fun _ _ h3 => (State.identify_good h3)))

theorem State.restorePhases_good {p : List Instr} {s} (hs : State.Good p s) : State.Good p (State.restorePhases s) := by
  unfold State.restorePhases
  extract_lets -merge -useContext x1_0
  have hx1_0 : State.Good p x1_0 := (State.each_good (good_core hs rfl rfl rfl) (fun _ _ h4 => (by extract_lets -merge -useContext x4_0; have hx4_0 : State.Good p x4_0 := (State.wr_good (State.wr_good (State.wr_good h4))); try (clear_value x4_0); exact (good_ite (State.lidStale_good (State.phRest_good hx4_0)) h4))))
  try clear_value x1_0
  exact (good_ite hs (State.each_good hx1_0 (fun _ _ h6 => (State.iff_good (State.countSpares_good (State.wr_good h6)) (fun
    _ h7 => (State.modSheaf_good h7))))))

theorem State.respread_good {p : List Instr} {s a1} (hs : State.Good p s) : State.Good p (State.respread s a1) := by
  unfold State.respread
  extract_lets -merge -useContext x1_0 x1_1 x1_2 x1_3
  have hx1_2 : State.Good p x1_2 := (State.each_good hs (fun _ _ h3 => (by split; (exact (State.modPh_good h3)); (exact h3))))
  try clear_value x1_2
  have hx1_3 : State.Good p x1_3 := (State.wr_good hx1_2)
  try clear_value x1_3
  exact (good_ite hs (State.countM_good (State.modSheaf_good hx1_3)))

theorem State.balance_good {p : List Instr} {s a1 a2} (hs : State.Good p s) : State.Good p (State.balance s a1 a2) := by
  unfold State.balance
  extract_lets -merge -useContext x1_0 x1_1 x1_2 x1_3 x1_4 x1_5 x1_6 x1_7 x1_8
  exact (good_foldl (fun _ _ h4 => (by extract_lets -merge -useContext x4_0 x4_1 x4_2 x4_3 x4_4 x4_5; exact (State.modPh_good (State.wrI_good (State.wrI_good h4))))) hs)

theorem State.count0_good {p : List Instr} {s a1 a2 a3 a4} (hs : State.Good p s)
    : State.Good p (State.count0 s a1 a2 a3 a4) := by
  unfold State.count0
  exact (good_ite (State.post_good (State.wr_good (State.bump_good hs))) (State.bump_good hs))

theorem State.undischarge_good {p : List Instr} {s a1} (hs : State.Good p s) : State.Good p (State.undischarge s a1) := by
  unfold State.undischarge
  extract_lets -merge -useContext x1_0
  have hx1_0 : State.Good p x1_0 := (State.modOut_good (State.wr_good hs))
  try clear_value x1_0
  exact (good_ite (State.modOut_good hx1_0) hx1_0)

theorem State.railSoft_good {p : List Instr} {s a1 a2 a3 a4} (hs : State.Good p s)
    : State.Good p (State.railSoft s a1 a2 a3 a4) := by
  unfold State.railSoft
  extract_lets -merge -useContext x1_0 x1_1
  have hx1_1 : State.Good p x1_1 := (State.sheafStart_good (State.wr_good (State.setRef_good (State.setOutSt_good hs))))
  try clear_value x1_1
  exact (State.modRail_good hx1_1)

theorem State.ssDone_good {p : List Instr} {s a1} (hs : State.Good p s) : State.Good p (State.ssDone s a1) := by
  unfold State.ssDone
  extract_lets -merge -useContext x1_0
  have hx1_0 : State.Good p x1_0 := (State.mark_good (State.mark_good hs))
  try clear_value x1_0
  exact (by split; (exact (State.irq_good (State.retarget_good (State.wr_good (State.setOutSt_good hx1_0))))); (exact (State.retarget_good (State.wr_good (State.setOutSt_good hx1_0)))); (exact (State.endWaits_good (State.wr_good (State.setOutSt_good hx1_0)))); (exact (State.setOutSt_good hx1_0)))

theorem State.railEnable_good {p : List Instr} {s a1 a2} (hs : State.Good p s)
    : State.Good p (State.railEnable s a1 a2) := by
  unfold State.railEnable
  extract_lets -merge -useContext x1_0 x1_1
  have hx1_0 : State.Good p x1_0 := (State.wr_good hs)
  try clear_value x1_0
  have hx1_1 : State.Good p x1_1 := (State.identifyRail_good (State.undischarge_good hx1_0))
  try clear_value x1_1
  exact (good_ite hx1_0 (good_ite (State.err_good (State.wr_good hx1_0)) (good_ite (good_ite (State.noSlot_good hx1_1)
    hx1_1) (good_ite (State.modRail_good (State.setOutSt_good hx1_1)) (State.railSoft_good hx1_1)))))

theorem State.railPrebias_good {p : List Instr} {s a1 a2} (hs : State.Good p s)
    : State.Good p (State.railPrebias s a1 a2) := by
  unfold State.railPrebias
  extract_lets -merge -useContext x1_0 x1_1 x1_2
  have hx1_2 : State.Good p x1_2 := (State.ssDone_good (State.setRef_good (State.railSoft_good hs)))
  try clear_value x1_2
  exact (good_ite (good_ite (State.setRef_good (State.railSoft_good hs)) (State.err_good hx1_2)) hs)

theorem State.refSample_good {p : List Instr} {s a1} (hs : State.Good p s) : State.Good p (State.refSample s a1) := by
  unfold State.refSample
  extract_lets -merge -useContext x1_0 x1_1 x1_2 x1_3 x1_4 x1_5 x1_6 x1_7 x1_8
  have hx1_3 : State.Good p x1_3 := (State.modRail_good (State.setRef_good hs))
  try clear_value x1_3
  have hx1_8 : State.Good p x1_8 := (State.modRail_good (State.setSlewing_good (State.setRef_good hs)))
  try clear_value x1_8
  exact (good_ite (good_ite (State.ssDone_good hx1_3) hx1_3) (good_ite hs (good_ite (State.slewDone_good hx1_8) hx1_8)))

theorem State.copyBank_good {p : List Instr} {s a1 a2 a3} (hs : State.Good p s)
    : State.Good p (State.copyBank s a1 a2 a3) := by
  unfold State.copyBank
  extract_lets -merge -useContext x1_0 x1_1
  exact (State.setW_good (State.setW_good (State.setW_good hs)))

theorem State.coefWrite_good {p : List Instr} {s a1 a2 a3} (hs : State.Good p s)
    : State.Good p (State.coefWrite s a1 a2 a3) := by
  unfold State.coefWrite
  extract_lets -merge -useContext x1_0 x1_1 x1_2
  have hx1_1 : State.Good p x1_1 := (good_ite (State.lidAbort_good hs) hs)
  try clear_value x1_1
  have hx1_2 : State.Good p x1_2 := (good_ite (State.err_good hx1_1) hx1_1)
  try clear_value x1_2
  exact (good_ite (State.modRail_good hx1_2) (good_ite (State.copyBank_good hx1_2) hx1_2))

theorem State.swapNow_good {p : List Instr} {s a1} (hs : State.Good p s) : State.Good p (State.swapNow s a1) := by
  unfold State.swapNow
  extract_lets -merge -useContext x1_0 x1_1 x1_2 x1_3 x1_4 x1_5 x1_6
  have hx1_5 : State.Good p x1_5 := (State.modRail_good (State.wrI_good (State.wr_good hs)))
  try clear_value x1_5
  have hx1_6 : State.Good p x1_6 := (good_ite (good_ite (State.err_good hx1_5) hx1_5) hs)
  try clear_value x1_6
  exact (good_ite (State.modRail_good (State.copyBank_good hx1_6)) hx1_6)

theorem State.lidSample_good {p : List Instr} {s a1 a2} (hs : State.Good p s) : State.Good p (State.lidSample s a1 a2) := by
  unfold State.lidSample
  extract_lets -merge -useContext x1_0 x1_1 x1_2 x1_3 x1_4 x1_5 x1_6 x1_7 x1_8
  exact (good_ite (good_ite (State.lidAbort_good hs) (State.modRail_good (State.wr_good hs))) hs)

theorem State.commitProp_good {p : List Instr} {s a1} (hs : State.Good p s) : State.Good p (State.commitProp s a1) := by
  unfold State.commitProp
  extract_lets -merge -useContext x1_0 x1_1 x1_2
  have hx1_2 : State.Good p x1_2 := (State.setW_good (State.setW_good (State.setW_good hs)))
  try clear_value x1_2
  exact (State.wr_good (State.wr_good (State.coefWrite_good hx1_2)))

theorem State.stepSample_good {p : List Instr} {s a1 a2 a3 a4 a5} (hs : State.Good p s)
    : State.Good p (State.stepSample s a1 a2 a3 a4 a5) := by
  unfold State.stepSample
  extract_lets -merge -useContext x1_0 x1_1 x1_2 x1_3 x1_4 x1_5 x1_6 x1_7 x1_8 x1_9
  have hx1_7 : State.Good p x1_7 := (State.shCount_good hs)
  try clear_value x1_7
  have hx1_8 : State.Good p x1_8 := (good_ite (good_ite (State.fireOut_good hx1_7) hx1_7) hs)
  try clear_value x1_8
  have hx1_9 : State.Good p x1_9 := (State.modSheaf_good (State.shedAbort_good (State.lidAbort_good hx1_8)))
  try clear_value x1_9
  exact (good_ite hs (good_ite (State.modSheaf_good hs) (good_ite (good_ite (State.each_good hx1_9 (fun _ _ h3 =>
    (State.modPh_good h3))) hx1_9) hs)))

theorem State.pbSample_good {p : List Instr} {s a1} (hs : State.Good p s) : State.Good p (State.pbSample s a1) := by
  unfold State.pbSample
  exact (State.modSheaf_good hs)

theorem State.pbFall_good {p : List Instr} {s a1 a2} (hs : State.Good p s) : State.Good p (State.pbFall s a1 a2) := by
  unfold State.pbFall
  exact (State.modSheaf_good hs)

theorem State.ffSample_good {p : List Instr} {s a1 a2} (hs : State.Good p s) : State.Good p (State.ffSample s a1 a2) := by
  unfold State.ffSample
  extract_lets -merge -useContext x1_0
  exact (State.wr_good (State.modRail_good hs))

theorem State.loopRun_good {p : List Instr} {s a1 a2 a3 a4} (hs : State.Good p s)
    : State.Good p (State.loopRun s a1 a2 a3 a4) := by
  unfold State.loopRun
  extract_lets -merge -useContext x1_0 x1_1 x1_2 x1_3 x1_4 x1_5 x1_6 x1_7 x1_8 x1_9 x1_10 x1_11 x1_12 x1_13 x1_14 x1_15
    x1_16 x1_17 x1_18 x1_19 x1_20 x1_21
  have hx1_1 : State.Good p x1_1 := (State.refSample_good (State.waitSample_good (State.swapNow_good hs)))
  try clear_value x1_1
  have hx1_16 : State.Good p x1_16 := (State.modRail_good hx1_1)
  try clear_value x1_16
  have hx1_17 : State.Good p x1_17 := (State.wrB_good (State.wrB_good (State.wrI_good (State.wr_good (State.wrI_good
    hx1_16)))))
  try clear_value x1_17
  have hx1_18 : State.Good p x1_18 := (good_ite (State.err_good hx1_17) hx1_17)
  try clear_value x1_18
  have hx1_19 : State.Good p x1_19 := (good_ite (State.err_good hx1_18) hx1_18)
  try clear_value x1_19
  have hx1_20 : State.Good p x1_20 := (good_ite (State.count0_good hx1_19) hx1_19)
  try clear_value x1_20
  have hx1_21 : State.Good p x1_21 := (good_ite (State.count0_good hx1_20) hx1_20)
  try clear_value x1_21
  exact (State.dutySet_good (State.pbSample_good (State.stepSample_good (State.lidSample_good hx1_21))))

theorem State.railSample_good {p : List Instr} {s a1 a2 a3 a4 a5} (hs : State.Good p s)
    : State.Good p (State.railSample s a1 a2 a3 a4 a5) := by
  unfold State.railSample
  extract_lets -merge -useContext x1_0
  have hx1_0 : State.Good p x1_0 := (State.ffSample_good hs)
  try clear_value x1_0
  exact (good_ite (State.outOff_good hx1_0) (good_ite (State.loopRun_good hx1_0) hx1_0))

theorem State.lastCause_good {p : List Instr} {s a1 a2} (hs : State.Good p s) : State.Good p (State.lastCause s a1 a2) := by
  unfold State.lastCause
  exact (good_ite (State.protLast_good hs) (State.wr_good hs))

theorem State.enterHiccup_good {p : List Instr} {s a1 a2} (hs : State.Good p s)
    : State.Good p (State.enterHiccup s a1 a2) := by
  unfold State.enterHiccup
  extract_lets -merge -useContext x1_0 x1_1 x1_2 x1_3 x1_4 x1_5
  have hx1_2 : State.Good p x1_2 := (good_ite (State.errQ_good hs) hs)
  try clear_value x1_2
  have hx1_3 : State.Good p x1_3 := (State.err_good hx1_2)
  try clear_value x1_3
  have hx1_5 : State.Good p x1_5 := (good_ite (State.wrB_good (State.lidAbort_good hx1_3)) hx1_3)
  try clear_value x1_5
  exact (good_ite (State.outOff_good (State.lastCause_good hx1_3)) (good_ite (State.err_good (State.outLatch_good
    (State.lastCause_good hx1_5))) (State.mark_good (State.lastCause_good (State.wr_good (State.wr_good (State.outStop_good
    hx1_5)))))))

theorem State.limited_good {p : List Instr} {s a1 a2 a3} (hs : State.Good p s)
    : State.Good p (State.limited s a1 a2 a3) := by
  unfold State.limited
  extract_lets -merge -useContext x1_0 x1_1
  have hx1_1 : State.Good p x1_1 := (good_ite (State.err_good hs) hs)
  try clear_value x1_1
  exact (good_ite (State.mark_good (State.wr_good hx1_1)) (State.wr_good hs))

theorem State.totals_good {p : List Instr} {s a1} (hs : State.Good p s) : State.Good p (State.totals s a1) := by
  unfold State.totals
  extract_lets -merge -useContext x1_0 x1_1 x1_2
  exact (State.modSheaf_good (State.wrI_good (State.wrI_good hs)))

theorem State.periodLimits_good {p : List Instr} {s a1} (hs : State.Good p s) : State.Good p (State.periodLimits s a1) := by
  unfold State.periodLimits
  extract_lets -merge -useContext x1_0 x1_1 x1_2 x1_3 x1_4
  have hx1_3 : State.Good p x1_3 := (State.limited_good hs)
  try clear_value x1_3
  have hx1_4 : State.Good p x1_4 := (good_ite (State.count0_good (State.lidAbort_good hx1_3)) hx1_3)
  try clear_value x1_4
  exact (State.modRail_good hx1_4)

theorem State.cycleStep_good {p : List Instr} {s a1} (hs : State.Good p s) : State.Good p (State.cycleStep s a1) := by
  unfold State.cycleStep
  extract_lets -merge -useContext x1_0 x1_1 x1_2
  have hx1_2 : State.Good p x1_2 := (State.each_good hs (fun _ _ h3 => (good_ite (State.weigh_good h3) (good_ite
    (State.weigh_good h3) h3))))
  try clear_value x1_2
  exact (good_ite (State.modSheaf_good (State.wr_good hx1_2)) hs)

theorem State.levelStep_good {p : List Instr} {s a1} (hs : State.Good p s) : State.Good p (State.levelStep s a1) := by
  unfold State.levelStep
  extract_lets -merge -useContext x1_0 x1_1 x1_2 x1_3
  have hx1_2 : State.Good p x1_2 := (State.wrB_good hs)
  try clear_value x1_2
  exact (good_ite (State.modSheaf_good hx1_2) (good_ite (State.shedAbort_good hx1_2) (good_ite (State.addBegin_good hx1_2)
    (State.modSheaf_good hx1_2))))

theorem State.hintCheck_good {p : List Instr} {s a1} (hs : State.Good p s) : State.Good p (State.hintCheck s a1) := by
  unfold State.hintCheck
  extract_lets -merge -useContext x1_0
  exact (by split; (exact (by extract_lets -merge -useContext x3_0 x3_1 x3_2; exact (good_ite (State.pbFall_good (State.modSheaf_good (State.shCount_good hs))) hs))); (exact hs))

theorem State.imSample_good {p : List Instr} {s a1 a2} (hs : State.Good p s) : State.Good p (State.imSample s a1 a2) := by
  unfold State.imSample
  exact (good_foldl (fun _ _ h2 => (good_ite (State.wrI_good h2) h2)) hs)

theorem State.period_good {p : List Instr} {s a1 a2} (hs : State.Good p s) : State.Good p (State.period s a1 a2) := by
  unfold State.period
  extract_lets -merge -useContext x1_0 x1_1 x1_2
  have hx1_0 : State.Good p x1_0 := (State.imSample_good hs)
  try clear_value x1_0
  have hx1_1 : State.Good p x1_1 := (State.levelStep_good (State.hintCheck_good (State.balance_good
    (State.periodLimits_good (State.totals_good hx1_0)))))
  try clear_value x1_1
  have hx1_2 : State.Good p x1_2 := (State.respread_good (State.comeBack_good (State.cycleStep_good hx1_1)))
  try clear_value x1_2
  exact (good_ite hx1_0 (State.dutySet_good (State.each_good hx1_2 (fun _ _ h3 => (State.modPh_good h3)))))

theorem State.hintUnconf_good {p : List Instr} {s a1 a2} (hs : State.Good p s)
    : State.Good p (State.hintUnconf s a1 a2) := by
  unfold State.hintUnconf
  exact (State.post_good (State.shCount_good hs))

theorem State.hintEdge_good {p : List Instr} {s a1 a2 a3 a4} (hs : State.Good p s)
    : State.Good p (State.hintEdge s a1 a2 a3 a4) := by
  unfold State.hintEdge
  extract_lets -merge -useContext x1_0 x1_1 x1_2 x1_3 x1_4 x1_5
  have hx1_0 : State.Good p x1_0 := (State.wrB_good hs)
  try clear_value x1_0
  have hx1_1 : State.Good p x1_1 := (by unfold x1_1; split; (exact (good_ite hx1_0 (State.hintUnconf_good hx1_0))); (exact hx1_0))
  try clear_value x1_1
  have hx1_4 : State.Good p x1_4 := (good_ite hx1_1 (State.fireOut_good hx1_1))
  try clear_value x1_4
  have hx1_5 : State.Good p x1_5 := (State.lidAbort_good (State.shedAbort_good hx1_4))
  try clear_value x1_5
  exact (good_ite (State.mark_good (State.modSheaf_good (State.wr_good hx1_5))) hx1_0)

theorem State.hintEnd_good {p : List Instr} {s a1} (hs : State.Good p s) : State.Good p (State.hintEnd s a1) := by
  unfold State.hintEnd
  extract_lets -merge -useContext x1_0
  have hx1_0 : State.Good p x1_0 := (State.modSheaf_good (State.wr_good hs))
  try clear_value x1_0
  exact (by split; (exact (good_ite (good_ite hx1_0 (State.pbFall_good (State.hintUnconf_good hx1_0))) hs)); (exact hs))

theorem State.peakTrip_good {p : List Instr} {s a1 a2 a3} (hs : State.Good p s)
    : State.Good p (State.peakTrip s a1 a2 a3) := by
  unfold State.peakTrip
  extract_lets -merge -useContext x1_0
  exact (good_ite (State.wr_good (State.modRail_good (State.modPh_good (State.lidAbort_good hs)))) hs)

theorem State.negTrip_good {p : List Instr} {s a1 a2} (hs : State.Good p s) : State.Good p (State.negTrip s a1 a2) := by
  unfold State.negTrip
  extract_lets -merge -useContext x1_0 x1_1 x1_2 x1_3
  have hx1_3 : State.Good p x1_3 := (State.modRail_good (State.modPh_good (State.lidAbort_good hs)))
  try clear_value x1_3
  exact (good_ite hs (good_ite (good_ite (State.err_good (State.count0_good hx1_3)) hx1_3) (good_ite (State.modPh_good hs)
    hs)))

theorem State.buckEdge_good {p : List Instr} {s a1 a2} (hs : State.Good p s) : State.Good p (State.buckEdge s a1 a2) := by
  unfold State.buckEdge
  exact (State.modBuck_good hs)

theorem State.buckSoft_good {p : List Instr} {s a1 a2 a3 a4} (hs : State.Good p s)
    : State.Good p (State.buckSoft s a1 a2 a3 a4) := by
  unfold State.buckSoft
  extract_lets -merge -useContext x1_0 x1_1
  have hx1_1 : State.Good p x1_1 := (State.modBuck_good (State.setRef_good (State.setOutSt_good hs)))
  try clear_value x1_1
  exact (State.each_good hx1_1 (fun _ _ h3 => (State.buckEdge_good h3)))

theorem State.buckPrebias_good {p : List Instr} {s a1 a2} (hs : State.Good p s)
    : State.Good p (State.buckPrebias s a1 a2) := by
  unfold State.buckPrebias
  extract_lets -merge -useContext x1_0 x1_1
  exact (good_ite (good_ite (State.setRef_good (State.buckSoft_good hs)) (State.ssDone_good (State.setRef_good
    (State.buckSoft_good hs)))) hs)

theorem State.buckRef_good {p : List Instr} {s a1} (hs : State.Good p s) : State.Good p (State.buckRef s a1) := by
  unfold State.buckRef
  extract_lets -merge -useContext x1_0 x1_1 x1_2 x1_3 x1_4 x1_5 x1_6 x1_7
  have hx1_2 : State.Good p x1_2 := (State.modBuck_good (State.setRef_good hs))
  try clear_value x1_2
  have hx1_7 : State.Good p x1_7 := (State.modBuck_good (State.setSlewing_good (State.setRef_good hs)))
  try clear_value x1_7
  exact (good_ite (good_ite (State.ssDone_good hx1_2) hx1_2) (good_ite hs (good_ite (State.slewDone_good hx1_7) hx1_7)))

theorem State.halfCycle_good {p : List Instr} {s a1 a2} (hs : State.Good p s) : State.Good p (State.halfCycle s a1 a2) := by
  unfold State.halfCycle
  extract_lets -merge -useContext x1_0 x1_1 x1_2 x1_3
  have hx1_3 : State.Good p x1_3 := (good_ite (State.err_good hs) hs)
  try clear_value x1_3
  exact (State.buckEdge_good (State.modBuck_good (State.wrB_good hx1_3)))

theorem State.buckCycle_good {p : List Instr} {s a1 a2 a3} (hs : State.Good p s)
    : State.Good p (State.buckCycle s a1 a2 a3) := by
  unfold State.buckCycle
  extract_lets -merge -useContext x1_0 x1_1 x1_2
  have hx1_1 : State.Good p x1_1 := (State.modBuck_good (State.limited_good hs))
  try clear_value x1_1
  have hx1_2 : State.Good p x1_2 := (State.each_good hx1_1 (fun _ _ h3 => (State.halfCycle_good h3)))
  try clear_value x1_2
  exact (good_ite (State.modBuck_good hx1_2) hx1_2)

theorem State.buckLoop_good {p : List Instr} {s a1 a2 a3} (hs : State.Good p s)
    : State.Good p (State.buckLoop s a1 a2 a3) := by
  unfold State.buckLoop
  extract_lets -merge -useContext x1_0 x1_1 x1_2 x1_3 x1_4 x1_5 x1_6 x1_7 x1_8
  exact (State.modBuck_good hs)

theorem State.buckShow_good {p : List Instr} {s a1 a2 a3} (hs : State.Good p s)
    : State.Good p (State.buckShow s a1 a2 a3) := by
  unfold State.buckShow
  exact (State.wrI_good (State.wr_good hs))

theorem State.buckNeg_good {p : List Instr} {s a1 a2 a3} (hs : State.Good p s)
    : State.Good p (State.buckNeg s a1 a2 a3) := by
  unfold State.buckNeg
  extract_lets -merge -useContext x1_0 x1_1
  exact (good_ite hs (good_ite (State.modBuck_good hs) hs))

theorem State.buckSink_good {p : List Instr} {s a1 a2} (hs : State.Good p s) : State.Good p (State.buckSink s a1 a2) := by
  unfold State.buckSink
  extract_lets -merge -useContext x1_0
  exact (good_ite (State.modBuck_good hs) hs)

theorem State.buckSample_good {p : List Instr} {s a1 a2 a3 a4 a5 a6} (hs : State.Good p s)
    : State.Good p (State.buckSample s a1 a2 a3 a4 a5 a6) := by
  unfold State.buckSample
  extract_lets -merge -useContext x1_0 x1_1 x1_2
  have hx1_0 : State.Good p x1_0 := (good_ite (State.buckCycle_good hs) hs)
  try clear_value x1_0
  have hx1_1 : State.Good p x1_1 := (State.buckLoop_good (State.buckRef_good (State.waitSample_good hx1_0)))
  try clear_value x1_1
  exact (good_ite (State.iff_good (State.buckSink_good (State.modBuck_good hs)) (fun _ h3 => (State.buckSink_good h3)))
    (good_ite (State.buckNeg_good (State.buckNeg_good (State.buckShow_good (State.buckShow_good hx1_1))))
    (State.buckNeg_good (State.buckShow_good hx1_1))))

theorem State.setPar_good {p : List Instr} {s a1 a2} (hs : State.Good p s) : State.Good p (State.setPar s a1 a2) := by
  unfold State.setPar
  extract_lets -merge -useContext x1_0 x1_1 x1_2 x1_3
  have hx1_2 : State.Good p x1_2 := (State.setOutSt_good (State.wrB_good hs))
  try clear_value x1_2
  have hx1_3 : State.Good p x1_3 := (State.modOut_good hx1_2)
  try clear_value x1_3
  exact (good_ite (good_ite (State.allPg_good (State.setSupv_good (State.setSupv_good hx1_3))) hx1_3) (State.err_good hs))

theorem State.enable_good {p : List Instr} {s a1 a2} (hs : State.Good p s) : State.Good p (State.enable s a1 a2) := by
  unfold State.enable
  extract_lets -merge -useContext x1_0 x1_1 x1_2 x1_3
  have hx1_0 : State.Good p x1_0 := (State.setEn_good hs)
  try clear_value x1_0
  have hx1_1 : State.Good p x1_1 := (State.setEn_good hs)
  try clear_value x1_1
  have hx1_2 : State.Good p x1_2 := (State.mark_good (State.setOutSt_good (State.undischarge_good hx1_1)))
  try clear_value x1_2
  have hx1_3 : State.Good p x1_3 := (State.setEn_good hs)
  try clear_value x1_3
  exact (good_ite hs (good_ite (State.errQ_good hs) (State.allPg_good (by split; (exact (State.railEnable_good hs)); (exact (good_ite hx1_0 (good_ite (State.modBuck_good (State.setOutSt_good (State.undischarge_good hx1_0))) hx1_0))); (exact (good_ite (good_ite (State.wr_good hx1_2) hx1_2) hx1_1)); (exact (good_ite (good_ite (State.ssDone_good (State.undischarge_good hx1_3)) (State.setOutSt_good (State.undischarge_good hx1_3))) hx1_3))))))

theorem State.disable_good {p : List Instr} {s a1} (hs : State.Good p s) : State.Good p (State.disable s a1) := by
  unfold State.disable
  exact (good_ite (State.setEn_good hs) (good_ite (State.setEn_good hs) (State.outOff_good hs)))

theorem State.lsClose_good {p : List Instr} {s a1} (hs : State.Good p s) : State.Good p (State.lsClose s a1) := by
  unfold State.lsClose
  exact (good_ite (State.setOutSt_good (State.wr_good hs)) hs)

theorem State.setVset_good {p : List Instr} {s a1 a2} (hs : State.Good p s) : State.Good p (State.setVset s a1 a2) := by
  unfold State.setVset
  extract_lets -merge -useContext x1_0 x1_1 x1_2 x1_3 x1_4 x1_5
  have hx1_1 : State.Good p x1_1 := (State.retarget_good (State.wr_good hs))
  try clear_value x1_1
  have hx1_3 : State.Good p x1_3 := (State.retarget_good (State.wr_good hs))
  try clear_value x1_3
  have hx1_5 : State.Good p x1_5 := (State.retarget_good (State.wr_good hs))
  try clear_value x1_5
  exact (by split; (exact (good_ite (State.err_good hx1_1) hx1_1)); (exact (good_ite (State.err_good hx1_3) hx1_3)); (exact (good_ite (State.err_good hx1_5) hx1_5)); (exact hs))

theorem State.moveTo_good {p : List Instr} {s a1 a2} (hs : State.Good p s) : State.Good p (State.moveTo s a1 a2) := by
  unfold State.moveTo
  extract_lets -merge -useContext x1_0 x1_1 x1_2 x1_3 x1_4
  have hx1_1 : State.Good p x1_1 := (State.endMoves_good hs)
  try clear_value x1_1
  have hx1_2 : State.Good p x1_2 := (State.setVset_good (State.runK_good hx1_1))
  try clear_value x1_2
  exact (good_ite (State.failK_good hs) (good_ite (State.failFree_good hs) (good_ite (State.endMoves_good hx1_2) (good_ite hx1_2 (by split; (exact (State.modRail_good hx1_2)); (exact (State.modBuck_good hx1_2)); (exact hx1_2))))))

theorem State.see_good {p : List Instr} {s a1 a2 a3} (hs : State.Good p s) : State.Good p (State.see s a1 a2 a3) := by
  unfold State.see
  exact (State.modOut_good hs)

theorem State.ovTell_good {p : List Instr} {s a1} (hs : State.Good p s) : State.Good p (State.ovTell s a1) := by
  unfold State.ovTell
  exact (State.err_good (State.setPg_good (State.setSupv_good hs)))

theorem State.railOv_good {p : List Instr} {s a1} (hs : State.Good p s) : State.Good p (State.railOv s a1) := by
  unfold State.railOv
  extract_lets -merge -useContext x1_0
  have hx1_0 : State.Good p x1_0 := (State.protLast_good hs)
  try clear_value x1_0
  exact (good_ite (State.outOff_good hx1_0) (State.setEn_good (State.modRail_good (State.each_good (State.lidAbort_good
    hx1_0) (fun _ _ h3 => (State.modPh_good h3))))))

theorem State.ovTrip_good {p : List Instr} {s a1} (hs : State.Good p s) : State.Good p (State.ovTrip s a1) := by
  unfold State.ovTrip
  extract_lets -merge -useContext x1_0 x1_1 x1_2
  have hx1_0 : State.Good p x1_0 := (State.ovTell_good hs)
  try clear_value x1_0
  have hx1_2 : State.Good p x1_2 := (State.errQ_good (State.outOff_good (State.wr_good hx1_0)))
  try clear_value x1_2
  exact (good_ite (by split; (exact (State.anyShow_good (State.railOv_good hx1_0))); (exact (State.anyShow_good (State.each_good hx1_2 (fun _ _ h3 => (State.modBuck_good h3))))); (exact (State.anyShow_good (State.errQ_good (State.outOff_good hx1_0))))) (State.anyShow_good (good_ite (State.discharge_good hx1_0) hx1_0)))

theorem State.comps_good {p : List Instr} {s a1 a2 a3} (hs : State.Good p s) : State.Good p (State.comps s a1 a2 a3) := by
  unfold State.comps
  extract_lets -merge -useContext x1_0 x1_1 x1_2
  exact (State.anyShow_good (State.modOut_good hs))

theorem State.ovSense_good {p : List Instr} {s a1 a2 a3 a4} (hs : State.Good p s)
    : State.Good p (State.ovSense s a1 a2 a3 a4) := by
  unfold State.ovSense
  extract_lets -merge -useContext x1_0
  have hx1_0 : State.Good p x1_0 := (State.comps_good hs)
  try clear_value x1_0
  exact (good_ite (State.ovTrip_good hx1_0) hx1_0)

theorem State.uvTrip_good {p : List Instr} {s a1} (hs : State.Good p s) : State.Good p (State.uvTrip s a1) := by
  unfold State.uvTrip
  extract_lets -merge -useContext x1_0 x1_1
  have hx1_0 : State.Good p x1_0 := (State.err_good (State.setPg_good (State.setSupv_good hs)))
  try clear_value x1_0
  have hx1_1 : State.Good p x1_1 := (good_ite (State.lidAbort_good (State.protLast_good hx1_0)) hx1_0)
  try clear_value x1_1
  exact hx1_1

theorem State.uvSense_good {p : List Instr} {s a1 a2 a3 a4} (hs : State.Good p s)
    : State.Good p (State.uvSense s a1 a2 a3 a4) := by
  unfold State.uvSense
  extract_lets -merge -useContext x1_0
  have hx1_0 : State.Good p x1_0 := (State.comps_good hs)
  try clear_value x1_0
  exact (good_ite (State.uvTrip_good hx1_0) hx1_0)

theorem State.powerGood_good {p : List Instr} {s a1 a2 a3 a4} (hs : State.Good p s)
    : State.Good p (State.powerGood s a1 a2 a3 a4) := by
  unfold State.powerGood
  extract_lets -merge -useContext x1_0 x1_1
  have hx1_1 : State.Good p x1_1 := (State.comps_good hs)
  try clear_value x1_1
  exact (good_ite (State.setPg_good hx1_1) hx1_1)

theorem State.belowCross_good {p : List Instr} {s a1 a2} (hs : State.Good p s)
    : State.Good p (State.belowCross s a1 a2) := by
  unfold State.belowCross
  extract_lets -merge -useContext x1_0 x1_1
  have hx1_1 : State.Good p x1_1 := (State.modOut_good (State.setPair_good hs))
  try clear_value x1_1
  exact (good_ite hs (good_ite (State.unmark_good hx1_1) (good_ite hx1_1 (State.mark_good hx1_1))))

theorem State.disRelease_good {p : List Instr} {s a1} (hs : State.Good p s) : State.Good p (State.disRelease s a1) := by
  unfold State.disRelease
  exact (good_ite (State.undischarge_good hs) hs)

theorem State.disForce_good {p : List Instr} {s a1} (hs : State.Good p s) : State.Good p (State.disForce s a1) := by
  unfold State.disForce
  extract_lets -merge -useContext x1_0
  have hx1_0 : State.Good p x1_0 := (State.wr_good hs)
  try clear_value x1_0
  exact (good_ite hx1_0 (State.discharge_good hx1_0))

end Sys2Proof.Machine
end

