-- ==== Sys2Proof/Laws/Keep3.lean ====
section
/-! SUPPORT. The queue and the two canonical forms, kept by the operations and meanings of Flail, Snap, Seq, Store, Boot, Fault. -/

namespace Sys2Proof.Machine

open Sys2Proof

theorem State.setRole_good {p : List Instr} {s a1} (hs : State.Good p s) : State.Good p (State.setRole s a1) := by
  unfold State.setRole
  exact (State.wr_good hs)

theorem State.modFlail_good {p : List Instr} {s a1} (hs : State.Good p s) : State.Good p (State.modFlail s a1) := by
  unfold State.modFlail
  exact (good_core hs rfl rfl rfl)

theorem State.lineLow_good {p : List Instr} {s a1} (hs : State.Good p s) : State.Good p (State.lineLow s a1) := by
  unfold State.lineLow
  exact (good_ite hs (good_ite (State.mark_good hs) (State.unmark_good hs)))

theorem State.flCount_good {p : List Instr} {s a1 a2} (hs : State.Good p s) : State.Good p (State.flCount s a1 a2) := by
  unfold State.flCount
  exact (State.count_good hs)

theorem State.viol_good {p : List Instr} {s a1 a2} (hs : State.Good p s) : State.Good p (State.viol s a1 a2) := by
  unfold State.viol
  exact (State.err_good (State.flCount_good hs))

theorem State.setFrame_good {p : List Instr} {s a1} (hs : State.Good p s) : State.Good p (State.setFrame s a1) := by
  unfold State.setFrame
  exact (State.mark_good (State.wrB_good (State.modFlail_good hs)))

theorem State.unhold_good {p : List Instr} {s} (hs : State.Good p s) : State.Good p (State.unhold s) := by
  unfold State.unhold
  exact (State.wr_good hs)

theorem State.ready_good {p : List Instr} {s a1} (hs : State.Good p s) : State.Good p (State.ready s a1) := by
  unfold State.ready
  extract_lets -merge -useContext x1_0
  have hx1_0 : State.Good p x1_0 := (good_ite (State.unhold_good hs) hs)
  try clear_value x1_0
  exact (good_ite hx1_0 (State.modFlail_good hx1_0))

theorem State.dropOps_good {p : List Instr} {s} (hs : State.Good p s) : State.Good p (State.dropOps s) := by
  unfold State.dropOps
  exact (State.modFlail_good hs)

theorem State.digestLost_good {p : List Instr} {s a1} (hs : State.Good p s) : State.Good p (State.digestLost s a1) := by
  unfold State.digestLost
  exact (State.wr_good (State.wr_good hs))

theorem State.frameLost_good {p : List Instr} {s a1} (hs : State.Good p s) : State.Good p (State.frameLost s a1) := by
  unfold State.frameLost
  exact (good_ite (State.digestLost_good hs) hs)

theorem State.roundAbort_good {p : List Instr} {s} (hs : State.Good p s) : State.Good p (State.roundAbort s) := by
  unfold State.roundAbort
  extract_lets -merge -useContext x1_0
  have hx1_0 : State.Good p x1_0 := (good_ite (State.digestLost_good hs) hs)
  try clear_value x1_0
  exact (State.modFlail_good (State.endRunning_good hx1_0))

theorem State.roleWatch_good {p : List Instr} {s} (hs : State.Good p s) : State.Good p (State.roleWatch s) := by
  unfold State.roleWatch
  extract_lets -merge -useContext x1_0 x1_1
  have hx1_1 : State.Good p x1_1 := (State.iff_good hs (fun _ h3 => (State.modFlail_good h3)))
  try clear_value x1_1
  exact (good_ite (good_ite (State.mark_good (State.modFlail_good (State.setRole_good hx1_1))) hx1_1) (good_ite hx1_1
    (State.wr_good (State.setFrame_good (State.dropOps_good (State.roundAbort_good (State.unhold_good (State.setRole_good
    hx1_1))))))))

theorem State.dethrone_good {p : List Instr} {s} (hs : State.Good p s) : State.Good p (State.dethrone s) := by
  unfold State.dethrone
  exact (good_ite (State.err_good (State.mark_good (State.wr_good (State.setFrame_good (State.dropOps_good
    (State.roundAbort_good (State.setRole_good hs))))))) hs)

theorem State.alarmAsk_good {p : List Instr} {s a1} (hs : State.Good p s) : State.Good p (State.alarmAsk s a1) := by
  unfold State.alarmAsk
  exact (good_ite (State.modFlail_good hs) hs)

theorem State.alarmSend_good {p : List Instr} {s a1} (hs : State.Good p s) : State.Good p (State.alarmSend s a1) := by
  unfold State.alarmSend
  exact (good_ite (State.modFlail_good (State.flCount_good hs)) hs)

theorem State.setChan_good {p : List Instr} {s a1 a2} (hs : State.Good p s) : State.Good p (State.setChan s a1 a2) := by
  unfold State.setChan
  exact (good_core hs rfl rfl rfl)

theorem State.snapAsk_good {p : List Instr} {s} (hs : State.Good p s) : State.Good p (State.snapAsk s) := by
  unfold State.snapAsk
  exact (State.engineAsk_good hs)

theorem good_snap {p : List Instr} {s : State} {a b} (hs : State.Good p s) : State.Good p { s with snaps := a, snapNext :=
    b } :=
  good_core hs rfl rfl rfl

theorem State.snapshot_good {p : List Instr} {s a1 a2 a3 a4 a5 a6} (hs : State.Good p s) :
    State.Good p (State.snapshot s a1 a2 a3 a4 a5 a6) := by
  unfold State.snapshot
  refine good_ite ?_ (State.errQ_good (State.count_good hs))
  extract_lets -merge -useContext s1 s2
  have h1 : State.Good p s1 := good_snap hs
  have h2 : State.Good p s2 := State.count_good (State.wr_good h1)
  exact good_ite (State.snapAsk_good h2) h2

theorem State.setSeqSt_good {p : List Instr} {s a1} (hs : State.Good p s) : State.Good p (State.setSeqSt s a1) := by
  unfold State.setSeqSt
  exact (State.wr_good hs)

theorem State.setPhase_good {p : List Instr} {s a1} (hs : State.Good p s) : State.Good p (State.setPhase s a1) := by
  unfold State.setPhase
  exact (State.wr_good hs)

theorem State.modSeq_good {p : List Instr} {s a1} (hs : State.Good p s) : State.Good p (State.modSeq s a1) := by
  unfold State.modSeq
  exact (good_core hs rfl rfl rfl)

theorem State.restartTmos_good {p : List Instr} {s} (hs : State.Good p s) : State.Good p (State.restartTmos s) := by
  unfold State.restartTmos
  exact (good_core hs rfl rfl rfl)

theorem State.lenShow_good {p : List Instr} {s} (hs : State.Good p s) : State.Good p (State.lenShow s) := by
  unfold State.lenShow
  exact (State.wr_good (State.wr_good (State.wr_good (State.wr_good hs))))

theorem State.setLast_good {p : List Instr} {s a1 a2 a3 a4} (hs : State.Good p s)
    : State.Good p (State.setLast s a1 a2 a3 a4) := by
  unfold State.setLast
  exact (State.wr_good (State.wr_good (State.wr_good (State.wr_good hs))))

theorem State.seqFail_good {p : List Instr} {s a1} (hs : State.Good p s) : State.Good p (State.seqFail s a1) := by
  unfold State.seqFail
  exact (State.err_good (State.snapshot_good hs))

theorem State.endWith_good {p : List Instr} {s a1 a2 a3} (hs : State.Good p s)
    : State.Good p (State.endWith s a1 a2 a3) := by
  unfold State.endWith
  exact (good_foldl (fun _ _ h2 => (State.complete_good h2)) hs)

theorem State.seqOff_good {p : List Instr} {s a1 a2} (hs : State.Good p s) : State.Good p (State.seqOff s a1 a2) := by
  unfold State.seqOff
  extract_lets -merge -useContext x1_0 x1_1
  have hx1_0 : State.Good p x1_0 := (State.mark_good (good_ite (State.setEn_good hs) (State.outDown_good hs)))
  try clear_value x1_0
  have hx1_1 : State.Good p x1_1 := (good_ite (State.discharge_good hx1_0) hx1_0)
  try clear_value x1_1
  exact (good_core hx1_1 rfl rfl rfl)

theorem State.drivePin_good {p : List Instr} {s a1 a2} (hs : State.Good p s) : State.Good p (State.drivePin s a1 a2) := by
  unfold State.drivePin
  exact (good_core hs rfl rfl rfl)

theorem State.seqBegin_good {p : List Instr} {n s k} (hs : State.Good p s) : State.Good p (State.seqBegin n s k) := by
  induction n generalizing s k with
  | zero => exact hs
  | succ n ih =>
    unfold State.seqBegin
    extract_lets -merge -useContext tab s0
    have h0 : State.Good p s0 := State.mark_good (State.setPhase_good (State.wr_good (State.modSeq_good hs)))
    clear_value s0
    exact good_ite (State.setPhase_good h0)
      (good_ite (ih (State.err_good (State.setLast_good h0))) (good_ite (ih h0) h0))

theorem State.seqNext_good {p : List Instr} {s} (hs : State.Good p s) : State.Good p (State.seqNext s) := by
  unfold State.seqNext
  exact (State.seqBegin_good hs)

theorem State.setPends_good {p : List Instr} {s a1} (hs : State.Good p s) : State.Good p (State.setPends s a1) := by
  unfold State.setPends
  exact (State.wr_good (State.modSeq_good hs))

theorem State.startRun_good {p : List Instr} {s a1} (hs : State.Good p s) : State.Good p (State.startRun s a1) := by
  unfold State.startRun
  extract_lets -merge -useContext x1_0 x1_1
  have hx1_1 : State.Good p x1_1 := (State.modSeq_good (State.setPends_good (State.wr_good (State.setSeqSt_good
    (State.unhold_good hs)))))
  try clear_value x1_1
  exact (State.seqBegin_good hx1_1)

theorem State.runEnds_good {p : List Instr} {s} (hs : State.Good p s) : State.Good p (State.runEnds s) := by
  unfold State.runEnds
  exact (State.setPhase_good (State.wr_good (State.wr_good hs)))

theorem State.enterRising_good {p : List Instr} {s a1 a2} (hs : State.Good p s)
    : State.Good p (State.enterRising s a1 a2) := by
  unfold State.enterRising
  extract_lets -merge -useContext x1_0 x1_1
  have hx1_0 : State.Good p x1_0 := (State.restorePhases_good (State.setMode_good hs))
  try clear_value x1_0
  have hx1_1 : State.Good p x1_1 := (State.each_good hx1_0 (fun _ _ h3 => (State.countSpares_good (State.fillSlots_good
    h3))))
  try clear_value x1_1
  exact (State.startRun_good (State.modSeq_good hx1_1))

theorem State.enterRun_good {p : List Instr} {s a1} (hs : State.Good p s) : State.Good p (State.enterRun s a1) := by
  unfold State.enterRun
  extract_lets -merge -useContext x1_0
  have hx1_0 : State.Good p x1_0 := (State.setMode_good hs)
  try clear_value x1_0
  exact (State.endWith_good hx1_0)

theorem State.enterDraining_good {p : List Instr} {s a1} (hs : State.Good p s)
    : State.Good p (State.enterDraining s a1) := by
  unfold State.enterDraining
  exact (State.startRun_good (State.modSeq_good (State.setMode_good hs)))

theorem State.enterParked_good {p : List Instr} {s a1} (hs : State.Good p s) : State.Good p (State.enterParked s a1) := by
  unfold State.enterParked
  extract_lets -merge -useContext x1_0 x1_1
  have hx1_0 : State.Good p x1_0 := (State.setSeqSt_good (State.busPark_good (State.setMode_good hs)))
  try clear_value x1_0
  have hx1_1 : State.Good p x1_1 := (State.wr_good (State.outOff_good hx1_0))
  try clear_value x1_1
  exact (good_ite (good_ite (State.ldo0Ka_good hx1_0) hx1_0) (good_core hx1_1 rfl rfl rfl))

theorem State.waitFloor_good {p : List Instr} {s} (hs : State.Good p s) : State.Good p (State.waitFloor s) := by
  unfold State.waitFloor
  exact (State.mark_good (State.setPhase_good (State.setSeqSt_good hs)))

theorem State.endDown_good {p : List Instr} {s} (hs : State.Good p s) : State.Good p (State.endDown s) := by
  unfold State.endDown
  extract_lets -merge -useContext x1_0
  have hx1_0 : State.Good p x1_0 := (State.each_good hs (fun _ _ h4 => (by extract_lets -merge -useContext x4_0; have hx4_0 : State.Good p x4_0 := (State.mark_good (State.disable_good h4)); try (clear_value x4_0); exact (good_ite (good_core hx4_0 rfl rfl rfl) h4))))
  try clear_value x1_0
  exact (State.waitFloor_good (State.runEnds_good hx1_0))

theorem State.unwindEnd_good {p : List Instr} {s} (hs : State.Good p s) : State.Good p (State.unwindEnd s) := by
  unfold State.unwindEnd
  exact (good_ite (State.startRun_good hs) (State.waitFloor_good hs))

theorem State.hostClear_good {p : List Instr} {s} (hs : State.Good p s) : State.Good p (State.hostClear s) := by
  unfold State.hostClear
  extract_lets -merge -useContext x1_0
  have hx1_0 : State.Good p x1_0 := (State.each_good hs (fun _ _ h4 => (by extract_lets -merge -useContext x4_0; have hx4_0 : State.Good p x4_0 := (State.mark_good (State.disable_good h4)); try (clear_value x4_0); exact (good_core hx4_0 rfl rfl rfl))))
  try clear_value x1_0
  exact (State.unwindEnd_good (State.modSeq_good hx1_0))

theorem State.unwindNext_good {p : List Instr} {l s} (hs : State.Good p s) : State.Good p (State.unwindNext l s) := by
  induction l generalizing s with
  | nil =>
    unfold State.unwindNext
    extract_lets -merge -useContext s1
    have h1 : State.Good p s1 := State.modSeq_good hs
    clear_value s1
    exact good_ite (State.unwindEnd_good h1) (State.mark_good (State.setPhase_good h1))
  | cons t rest ih =>
    unfold State.unwindNext
    extract_lets -merge -useContext s1
    have h1 : State.Good p s1 := State.wr_good (State.wr_good (State.modSeq_good hs))
    clear_value s1
    exact good_ite (ih (State.drivePin_good h1)) (good_ite (ih h1)
      (good_ite (State.mark_good (State.mark_good (State.setPhase_good (State.seqOff_good h1)))) (State.setPhase_good h1)))

theorem State.runFail_good {p : List Instr} {s a1 a2 a3 a4 a5} (hs : State.Good p s)
    : State.Good p (State.runFail s a1 a2 a3 a4 a5) := by
  unfold State.runFail
  extract_lets -merge -useContext x1_0 x1_1 x1_2 x1_3 x1_4
  have hx1_0 : State.Good p x1_0 := (State.setLast_good hs)
  try clear_value x1_0
  have hx1_1 : State.Good p x1_1 := (good_ite (State.seqFail_good hx1_0) (State.post_good hx1_0))
  try clear_value x1_1
  have hx1_2 : State.Good p x1_2 := (good_ite (State.alarmAsk_good hx1_1) hx1_1)
  try clear_value x1_2
  have hx1_3 : State.Good p x1_3 := (State.endWith_good (State.setMode_good (State.unhold_good hx1_2)))
  try clear_value x1_3
  have hx1_4 : State.Good p x1_4 := (State.modSeq_good (State.setPhase_good (State.setPends_good (State.setSeqSt_good
    hx1_3))))
  try clear_value x1_4
  exact (State.unwindNext_good hx1_4)

theorem State.reachFloor_good {p : List Instr} {s} (hs : State.Good p s) : State.Good p (State.reachFloor s) := by
  unfold State.reachFloor
  extract_lets -merge -useContext x1_0 x1_1
  have hx1_0 : State.Good p x1_0 := (State.endWith_good (State.irq_good hs))
  try clear_value x1_0
  have hx1_1 : State.Good p x1_1 := (good_ite hx1_0 (State.ldo0Ka_good hx1_0))
  try clear_value x1_1
  exact (good_ite (State.mark_good (State.setPhase_good (State.setSeqSt_good hx1_1))) (State.enterParked_good hx1_1))

theorem State.seqDiscard_good {p : List Instr} {s} (hs : State.Good p s) : State.Good p (State.seqDiscard s) := by
  unfold State.seqDiscard
  extract_lets -merge -useContext x1_0 x1_1 x1_2
  have hx1_0 : State.Good p x1_0 := (good_ite hs (State.setPhase_good (State.setSeqSt_good (State.setLast_good hs))))
  try clear_value x1_0
  have hx1_2 : State.Good p x1_2 := (State.modSeq_good (State.setPends_good hx1_0))
  try clear_value x1_2
  exact (State.endWith_good (State.endWith_good hx1_2))

theorem State.offNow_good {p : List Instr} {s a1} (hs : State.Good p s) : State.Good p (State.offNow s a1) := by
  unfold State.offNow
  extract_lets -merge -useContext x1_0
  have hx1_0 : State.Good p x1_0 := (State.endWith_good (State.wr_good hs))
  try clear_value x1_0
  exact (good_ite (State.runFail_good hs) (good_ite (State.enterDraining_good hs) (good_ite (good_ite (good_ite
    (State.enterParked_good (State.endWith_good hx1_0)) hx1_0) hs) (good_ite (State.enterParked_good hs) hs))))

theorem State.onNow_good {p : List Instr} {s a1} (hs : State.Good p s) : State.Good p (State.onNow s a1) := by
  unfold State.onNow
  exact (good_ite (State.modSeq_good hs) (good_ite (State.enterRising_good hs) (good_ite (State.wr_good hs) hs)))

theorem State.standbyNow_good {p : List Instr} {s a1} (hs : State.Good p s) : State.Good p (State.standbyNow s a1) := by
  unfold State.standbyNow
  exact (good_ite (State.startRun_good (State.setMode_good hs)) hs)

theorem State.serviceNow_good {p : List Instr} {s a1} (hs : State.Good p s) : State.Good p (State.serviceNow s a1) := by
  unfold State.serviceNow
  exact (good_ite (State.till_good (State.setMode_good hs)) hs)

theorem State.svcEndNow_good {p : List Instr} {s a1} (hs : State.Good p s) : State.Good p (State.svcEndNow s a1) := by
  unfold State.svcEndNow
  exact (good_ite (State.enterRun_good hs) hs)

theorem State.drainNow_good {p : List Instr} {s a1} (hs : State.Good p s) : State.Good p (State.drainNow s a1) := by
  unfold State.drainNow
  exact (good_ite (State.enterDraining_good hs) hs)

theorem State.feedBackNow_good {p : List Instr} {s} (hs : State.Good p s) : State.Good p (State.feedBackNow s) := by
  unfold State.feedBackNow
  extract_lets -merge -useContext x1_0
  have hx1_0 : State.Good p x1_0 := (State.setMode_good hs)
  try clear_value x1_0
  exact (good_ite (good_ite (State.onNow_good (State.drainNow_good hs)) (good_ite (good_ite (State.enterRising_good hx1_0)
    hx1_0) (State.enterRun_good hs))) (good_ite (State.onNow_good hs) hs))

theorem State.enterHoldup_good {p : List Instr} {s} (hs : State.Good p s) : State.Good p (State.enterHoldup s) := by
  unfold State.enterHoldup
  exact (State.unmark_good (State.mark_good (State.wr_good (State.setMode_good hs))))

theorem State.feedsLostNow_good {p : List Instr} {s} (hs : State.Good p s) : State.Good p (State.feedsLostNow s) := by
  unfold State.feedsLostNow
  exact (good_ite (State.runFail_good hs) (good_ite (State.enterHoldup_good hs) (good_ite (State.enterDraining_good hs)
    hs)))

theorem State.tableDoneNow_good {p : List Instr} {s} (hs : State.Good p s) : State.Good p (State.tableDoneNow s) := by
  unfold State.tableDoneNow
  exact (good_ite (State.enterRun_good (State.setSeqSt_good (State.irq_good (State.runEnds_good hs)))) hs)

theorem State.ask_good {p : List Instr} {s a1 a2} (hs : State.Good p s) : State.Good p (State.ask s a1 a2) := by
  unfold State.ask
  exact (good_core hs rfl rfl rfl)

theorem State.feedsLost_good {p : List Instr} {s} (hs : State.Good p s) : State.Good p (State.feedsLost s) := by
  unfold State.feedsLost
  exact (State.ask_good hs)

theorem State.seqWatch_good {p : List Instr} {s} (hs : State.Good p s) : State.Good p (State.seqWatch s) := by
  unfold State.seqWatch
  extract_lets -merge -useContext x1_0 x1_1
  have hx1_1 : State.Good p x1_1 := (good_core hs rfl rfl rfl)
  try clear_value x1_1
  exact (good_ite hs (good_foldl (fun _ _ h3 => (good_ite (by split; (exact (State.runFail_good h3)); (exact h3)) (good_ite (State.err_good (State.setLast_good h3)) h3))) hx1_1))

theorem State.logNext_good {p : List Instr} {s} (hs : State.Good p s) : State.Good p (State.logNext s) := by
  unfold State.logNext
  exact (State.wr_good hs)

theorem State.logLost_good {p : List Instr} {s} (hs : State.Good p s) : State.Good p (State.logLost s) := by
  unfold State.logLost
  exact (State.err_good (State.count_good hs))

theorem State.logErase_good {p : List Instr} {s} (hs : State.Good p s) : State.Good p (State.logErase s) := by
  unfold State.logErase
  extract_lets -merge -useContext x1_0 x1_1
  exact (good_ite (State.wr_good (State.nvmErase_good hs)) hs)

theorem State.logPut_good {p : List Instr} {s a1} (hs : State.Good p s) : State.Good p (State.logPut s a1) := by
  unfold State.logPut
  extract_lets -merge -useContext x1_0 x1_1 x1_2 x1_3
  have hx1_1 : State.Good p x1_1 := (State.logErase_good hs)
  try clear_value x1_1
  have hx1_2 : State.Good p x1_2 := (State.nvmPut_good hx1_1)
  try clear_value x1_2
  have hx1_3 : State.Good p x1_3 := (State.wr_good hx1_2)
  try clear_value x1_3
  exact (State.count_good (State.logNext_good hx1_3))

theorem State.logFlush_good {p : List Instr} {s} (hs : State.Good p s) : State.Good p (State.logFlush s) := by
  unfold State.logFlush
  extract_lets -merge -useContext x1_0 x1_1
  have hx1_0 : State.Good p x1_0 := (good_ite hs (State.wr_good hs))
  try clear_value x1_0
  have hx1_1 : State.Good p x1_1 := (good_foldl (fun _ _ h3 => (State.logPut_good h3)) hx1_0)
  try clear_value x1_1
  exact (good_core hx1_1 rfl rfl rfl)

theorem State.snapPages_good {p : List Instr} {s a1 a2} (hs : State.Good p s) : State.Good p (State.snapPages s a1 a2) := by
  unfold State.snapPages
  extract_lets -merge -useContext x1_0 x1_1
  have hx1_1 : State.Good p x1_1 := (good_ite (State.nvmErase_good hs) hs)
  try clear_value x1_1
  exact (State.nvmPut_good hx1_1)

theorem State.snapPut_good {p : List Instr} {s a1} (hs : State.Good p s) : State.Good p (State.snapPut s a1) := by
  unfold State.snapPut
  extract_lets -merge -useContext x1_0 x1_1
  have hx1_1 : State.Good p x1_1 := (State.snapPages_good hs)
  try clear_value x1_1
  exact (State.wr_good (State.wr_good (State.wr_good hx1_1)))

theorem State.snapWrite_good {p : List Instr} {s} (hs : State.Good p s) : State.Good p (State.snapWrite s) := by
  unfold State.snapWrite
  split
  (exact hs)
  (exact (by extract_lets -merge -useContext x2_0 x2_1 x2_2; have hx2_0 : State.Good p x2_0 := (State.snapPut_good hs); try (clear_value x2_0); have hx2_1 : State.Good p x2_1 := (good_core hx2_0 rfl rfl rfl); try (clear_value x2_1); have hx2_2 : State.Good p x2_2 := (State.wr_good hx2_1); try (clear_value x2_2); exact (by split; (exact (State.doneK_good hx2_2)); (exact hx2_2))))

theorem State.snapYield_good {p : List Instr} {s a1} (hs : State.Good p s) : State.Good p (State.snapYield s a1) := by
  unfold State.snapYield
  split
  (exact hs)
  (exact (by extract_lets -merge -useContext x2_0; have hx2_0 : State.Good p x2_0 := (State.snapPages_good hs); try (clear_value x2_0); exact (State.arbServe_good (State.revoke_good (good_core hx2_0 rfl rfl rfl)))))

theorem State.setEng_good {p : List Instr} {s a1 a2} (hs : State.Good p s) : State.Good p (State.setEng s a1 a2) := by
  unfold State.setEng
  exact (State.wrB_good (State.wrB_good (State.wrB_good (State.wrB_good (State.wr_good hs)))))

theorem State.setEngs_good {p : List Instr} {s a1} (hs : State.Good p s) : State.Good p (State.setEngs s a1) := by
  unfold State.setEngs
  exact (State.each_good hs (fun _ _ h2 => (State.setEng_good h2)))

theorem State.modOwl_good {p : List Instr} {s a1 a2} (hs : State.Good p s) : State.Good p (State.modOwl s a1 a2) := by
  unfold State.modOwl
  exact (good_core hs rfl rfl rfl)

theorem State.setServed_good {p : List Instr} {s a1 a2} (hs : State.Good p s) : State.Good p (State.setServed s a1 a2) := by
  unfold State.setServed
  exact (State.wrB_good hs)

theorem State.owlStart_good {p : List Instr} {s a1} (hs : State.Good p s) : State.Good p (State.owlStart s a1) := by
  unfold State.owlStart
  exact (State.setServed_good (State.modOwl_good hs))

theorem State.owlSlot_good {p : List Instr} {s a1} (hs : State.Good p s) : State.Good p (State.owlSlot s a1) := by
  unfold State.owlSlot
  extract_lets -merge -useContext x1_0
  have hx1_0 : State.Good p x1_0 := (good_ite hs (State.modOwl_good hs))
  try clear_value x1_0
  exact (good_ite (good_ite (State.modOwl_good hs) hs) (good_ite (State.modOwl_good hx1_0) (good_ite hx1_0
    (State.owlStart_good hx1_0))))

theorem State.owlWatch_good {p : List Instr} {s} (hs : State.Good p s) : State.Good p (State.owlWatch s) := by
  unfold State.owlWatch
  exact (State.each_good hs (fun _ _ h2 => (State.owlSlot_good h2)))

theorem State.bootArm_good {p : List Instr} {s a1} (hs : State.Good p s) : State.Good p (State.bootArm s a1) := by
  unfold State.bootArm
  exact (State.modOwl_good (State.wrB_good (State.wrB_good hs)))

theorem State.rtcTell_good {p : List Instr} {s} (hs : State.Good p s) : State.Good p (State.rtcTell s) := by
  unfold State.rtcTell
  extract_lets -merge -useContext x1_0 x1_1 x1_2 x1_3 x1_4 x1_5
  have hx1_3 : State.Good p x1_3 := (good_core hs rfl rfl rfl)
  try clear_value x1_3
  have hx1_4 : State.Good p x1_4 := (good_ite (State.post_good hx1_3) hx1_3)
  try clear_value x1_4
  have hx1_5 : State.Good p x1_5 := (good_ite (State.post_good hx1_4) hx1_4)
  try clear_value x1_5
  exact (good_ite (State.post_good hx1_5) hx1_5)

theorem State.engWork_good {p : List Instr} {s} (hs : State.Good p s) : State.Good p (State.engWork s) := by
  unfold State.engWork
  extract_lets -merge -useContext x1_0 x1_1 x1_2
  have hx1_0 : State.Good p x1_0 := (State.each_good hs (fun _ _ h3 => (State.lidAbort_good h3)))
  try clear_value x1_0
  have hx1_2 : State.Good p x1_2 := (State.wr_good (good_core hx1_0 rfl rfl rfl))
  try clear_value x1_2
  exact (State.endRunning_good hx1_2)

theorem State.refLoss_good {p : List Instr} {s} (hs : State.Good p s) : State.Good p (State.refLoss s) := by
  unfold State.refLoss
  extract_lets -merge -useContext x1_0
  have hx1_0 : State.Good p x1_0 := (State.wr_good (State.wr_good (State.wr_good (good_core hs rfl rfl rfl))))
  try clear_value x1_0
  exact (State.err_good hx1_0)

theorem State.refWake_good {p : List Instr} {s} (hs : State.Good p s) : State.Good p (State.refWake s) := by
  unfold State.refWake
  exact (good_ite (State.wr_good hs) (State.refLoss_good hs))

theorem State.enterWaking_good {p : List Instr} {s a1} (hs : State.Good p s) : State.Good p (State.enterWaking s a1) := by
  unfold State.enterWaking
  extract_lets -merge -useContext x1_0 x1_1 x1_2 x1_3 x1_4 x1_5 x1_6
  have hx1_1 : State.Good p x1_1 := (State.iff_good (State.wakeReset_good (State.wr_good hs)) (fun _ h3 =>
    (State.busWake_good h3)))
  try clear_value x1_1
  have hx1_2 : State.Good p x1_2 := (good_ite hx1_1 (State.engWork_good hx1_1))
  try clear_value x1_2
  have hx1_3 : State.Good p x1_3 := (State.mark_good (good_core hx1_2 rfl rfl rfl))
  try clear_value x1_3
  have hx1_4 : State.Good p x1_4 := (State.wr_good (State.wr_good (State.setEngs_good hx1_3)))
  try clear_value x1_4
  have hx1_5 : State.Good p x1_5 := (good_ite hx1_4 (State.setMode_good hx1_4))
  try clear_value x1_5
  have hx1_6 : State.Good p x1_6 := (State.iff_good (State.rtcTell_good (State.owlWatch_good (State.bootArm_good hx1_5)))
    (fun _ h4 => (State.refWake_good h4)))
  try clear_value x1_6
  exact (good_ite (State.err_good (good_core hx1_6 rfl rfl rfl)) hx1_6)

theorem State.wakeBy_good {p : List Instr} {s a1} (hs : State.Good p s) : State.Good p (State.wakeBy s a1) := by
  unfold State.wakeBy
  exact (good_ite (State.enterWaking_good (State.wr_good hs)) hs)

theorem State.wakeWatch_good {p : List Instr} {s} (hs : State.Good p s) : State.Good p (State.wakeWatch s) := by
  unfold State.wakeWatch
  exact (State.wakeBy_good hs)

theorem State.warmBusy_good {p : List Instr} {s} (hs : State.Good p s) : State.Good p (State.warmBusy s) := by
  unfold State.warmBusy
  extract_lets -merge -useContext x1_0
  have hx1_0 : State.Good p x1_0 := (State.engWork_good (State.setEngs_good (State.wr_good hs)))
  try clear_value x1_0
  exact (State.owlWatch_good (good_core hx1_0 rfl rfl rfl))

theorem State.warmStart_good {p : List Instr} {s a1 a2} (hs : State.Good p s) : State.Good p (State.warmStart s a1 a2) := by
  unfold State.warmStart
  extract_lets -merge -useContext x1_0 x1_1 x1_2
  have hx1_1 : State.Good p x1_1 := (by unfold x1_1; split; (exact (State.wr_good hs)); (exact hs))
  try clear_value x1_1
  have hx1_2 : State.Good p x1_2 := (good_core hx1_1 rfl rfl rfl)
  try clear_value x1_2
  exact (good_ite (good_ite hx1_1 (good_ite (State.enterWaking_good hx1_2) (State.warmBusy_good hx1_2))) hs)

theorem State.engUp_good {p : List Instr} {s} (hs : State.Good p s) : State.Good p (State.engUp s) := by
  unfold State.engUp
  extract_lets -merge -useContext x1_0 x1_1
  have hx1_0 : State.Good p x1_0 := (State.each_good hs (fun _ _ h3 => (good_ite (State.setEng_good h3) h3)))
  try clear_value x1_0
  have hx1_1 : State.Good p x1_1 := (State.setRepl_good (State.wr_good hx1_0))
  try clear_value x1_1
  exact (good_ite (good_core hx1_1 rfl rfl rfl) hx1_0)

theorem State.warmServe_good {p : List Instr} {s} (hs : State.Good p s) : State.Good p (State.warmServe s) := by
  unfold State.warmServe
  extract_lets -merge -useContext x1_0 x1_1 x1_2
  have hx1_1 : State.Good p x1_1 := (good_core hs rfl rfl rfl)
  try clear_value x1_1
  have hx1_2 : State.Good p x1_2 := (good_ite (State.warmStart_good hx1_1) hx1_1)
  try clear_value x1_2
  exact (good_ite (State.warmStart_good hx1_2) hx1_2)

theorem State.engWatch_good {p : List Instr} {s} (hs : State.Good p s) : State.Good p (State.engWatch s) := by
  unfold State.engWatch
  exact (good_ite (State.each_good hs (fun _ _ h2 => (good_ite h2 (State.setEng_good h2)))) hs)

theorem State.setLat_good {p : List Instr} {s a1 a2} (hs : State.Good p s) : State.Good p (State.setLat s a1 a2) := by
  unfold State.setLat
  exact (State.setW_good hs)

theorem State.setUnack_good {p : List Instr} {s a1 a2} (hs : State.Good p s) : State.Good p (State.setUnack s a1 a2) := by
  unfold State.setUnack
  exact (State.setW_good hs)

theorem State.setRpt_good {p : List Instr} {s a1 a2} (hs : State.Good p s) : State.Good p (State.setRpt s a1 a2) := by
  unfold State.setRpt
  exact (State.setW_good hs)

theorem State.unackShow_good {p : List Instr} {s} (hs : State.Good p s) : State.Good p (State.unackShow s) := by
  unfold State.unackShow
  exact (State.wr_good hs)

theorem State.holdShow_good {p : List Instr} {s} (hs : State.Good p s) : State.Good p (State.holdShow s) := by
  unfold State.holdShow
  exact (State.wr_good hs)

theorem State.ackEv_good {p : List Instr} {s a1} (hs : State.Good p s) : State.Good p (State.ackEv s a1) := by
  unfold State.ackEv
  extract_lets -merge -useContext x1_0
  have hx1_0 : State.Good p x1_0 := (State.setRpt_good (State.setUnack_good (State.setLat_good hs)))
  try clear_value x1_0
  exact (good_core hx1_0 rfl rfl rfl)

theorem State.ackShow_good {p : List Instr} {s} (hs : State.Good p s) : State.Good p (State.ackShow s) := by
  unfold State.ackShow
  exact (State.holdShow_good (State.unackShow_good hs))

theorem State.record_good {p : List Instr} {s r eff esc dry chg detail} (hs : State.Good p s) :
    State.Good p (State.record s r eff esc dry chg detail) := by
  unfold State.record
  extract_lets -merge -useContext i b w0 s1 s2 rec0 s3 s4a s4
  have h1 : State.Good p s1 := State.setW_good (State.wr_good (State.setW_good (State.setW_good hs)))
  have h2 : State.Good p s2 := State.wr_good (State.wr_good h1)
  have h3 : State.Good p s3 := good_core h2 rfl rfl rfl
  have h4 : State.Good p s4 := good_ite (good_core (State.logLost_good h3) rfl rfl rfl) h3
  exact good_ite h2 (State.engineAsk_good h4)

theorem State.countRaise_good {p : List Instr} {s a1} (hs : State.Good p s) : State.Good p (State.countRaise s a1) := by
  unfold State.countRaise
  extract_lets -merge -useContext x1_0
  have hx1_0 : State.Good p x1_0 := (good_ite (State.setRpt_good hs) (State.errQ_good (State.setRpt_good hs)))
  try clear_value x1_0
  exact (State.count_good hx1_0)

theorem State.bootOver_good {p : List Instr} {s a1} (hs : State.Good p s) : State.Good p (State.bootOver s a1) := by
  unfold State.bootOver
  extract_lets -merge -useContext x1_0
  have hx1_0 : State.Good p x1_0 := (State.bootArm_good hs)
  try clear_value x1_0
  exact (good_ite (good_ite hx1_0 (State.wr_good hx1_0)) hs)

theorem good_keep {p : List Instr} {s : State} {a} (hs : State.Good p s) : State.Good p { s with pinKeep := a } :=
  good_core hs rfl rfl rfl
theorem good_offQ {p : List Instr} {s : State} {a} (hs : State.Good p s) : State.Good p { s with offQ := a } :=
  good_core hs rfl rfl rfl

theorem State.deviceForce_good {p : List Instr} {s a1 a2} (hs : State.Good p s)
    : State.Good p (State.deviceForce s a1 a2) := by
  unfold State.deviceForce
  extract_lets -merge -useContext m s0 s1 s2 s3
  have h0 : State.Good p s0 := good_ite (good_keep hs) hs
  have h1 : State.Good p s1 := State.each_good (State.wr_good h0) (fun _ _ h => State.safeState_good h)
  have h2 : State.Good p s2 := State.seqDiscard_good (State.setMode_good (State.bootOver_good h1))
  have h3 : State.Good p s3 := good_offQ (State.refuseWaiting_good h2)
  exact good_ite (State.alarmAsk_good h3) h3

theorem good_holds {p : List Instr} {s : State} {a} (hs : State.Good p s) : State.Good p { s with holds := a } :=
  good_core hs rfl rfl rfl
theorem good_left {p : List Instr} {s : State} {a} (hs : State.Good p s) : State.Good p { s with snapLeft := a } :=
  good_core hs rfl rfl rfl

theorem State.raise1_good {p : List Instr} {a0 a1 s} (hs : State.Good p s) : State.Good p (State.raise1 a0 a1 s) := by
  unfold State.raise1
  extract_lets -merge -useContext esc eff dry g s2 s3 s4 chg s5 s6 s7 s8 d
  have h2 : State.Good p s2 := State.countRaise_good (State.setLat_good hs)
  have h3 : State.Good p s3 := good_ite h2 (State.unackShow_good (State.setUnack_good h2))
  have h4 : State.Good p s4 := good_ite (State.holdShow_good (good_holds h3)) h3
  have h5 : State.Good p s5 := good_ite h4 (good_ite (State.forceGroup_good h4) (good_ite (State.deviceForce_good h4) h4))
  have h6 : State.Good p s6 := good_ite (State.setW_good (State.wr_good (State.wr_good h5))) h5
  have h7 : State.Good p s7 := good_ite (State.snapshot_good h6) h6
  have h8 : State.Good p s8 := good_ite (good_left h7) h7
  have hd : State.Good p d.2 := by
    unfold d
    split
    · exact h8
    · exact State.draw_good h8
  exact State.edge_good (State.record_good hd)

theorem State.collect1_good {p : List Instr} {s} (hs : State.Good p s) : State.Good p (State.collect1 s) := by
  unfold State.collect1
  extract_lets -merge -useContext x1_0 x1_1 x1_2
  have hx1_1 : State.Good p x1_1 := (good_core hs rfl rfl rfl)
  try clear_value x1_1
  have hx1_2 : State.Good p x1_2 := (good_foldl (fun _ _ h3 => (State.raise1_good h3)) hx1_1)
  try clear_value x1_2
  exact (good_ite (good_ite (good_foldl (fun _ _ h4 => (State.raise1_good h4)) hx1_1) hx1_2) hx1_1)

theorem State.collect_good {p : List Instr} {n s} (hs : State.Good p s) : State.Good p (State.collect n s) := by
  induction n generalizing s with
  | zero => exact hs
  | succ n ih => exact good_ite hs (ih (State.collect1_good hs))

theorem State.parkWatch_good {p : List Instr} {s} (hs : State.Good p s) : State.Good p (State.parkWatch s) := by
  unfold State.parkWatch
  extract_lets -merge -useContext x1_0
  have hx1_0 : State.Good p x1_0 := (good_core hs rfl rfl rfl)
  try clear_value x1_0
  exact (good_ite hs (good_ite (good_core hx1_0 rfl rfl rfl) (State.logFlush_good hx1_0)))

theorem State.follow_good {p : List Instr} {s} (hs : State.Good p s) : State.Good p (State.follow s) := by
  unfold State.follow
  extract_lets -merge -useContext x1_0 x1_1 x1_2 x1_3
  have hx1_0 : State.Good p x1_0 := (State.collect_good hs)
  try clear_value x1_0
  have hx1_1 : State.Good p x1_1 := (State.busWatch_good hx1_0)
  try clear_value x1_1
  have hx1_2 : State.Good p x1_2 := (State.roleWatch_good hx1_1)
  try clear_value x1_2
  have hx1_3 : State.Good p x1_3 := (State.collect_good (State.chgWatch_good hx1_2))
  try clear_value x1_3
  exact (State.collect_good (State.wakeWatch_good (State.parkWatch_good (State.owlWatch_good (State.engWatch_good
    (State.abortRunning_good hx1_3))))))

theorem State.settle_good {p : List Instr} {s} (hs : State.Good p s) : State.Good p (State.settle s) := by
  unfold State.settle
  exact (good_ite hs (State.follow_good hs))

end Sys2Proof.Machine
end

