-- ==== Sys2Proof/Laws/Keep4.lean ====
section
/-! SUPPORT. The queue and the two canonical forms, kept by the operations and meanings of Access, Loops, Sheaves, BusLoop, Protect, Feeds, Marg, Donor. -/

namespace Sys2Proof.Machine

open Sys2Proof

theorem State.ifWritesM_good {p : List Instr} {s a1 a2 a3 a4 f5} (hs : State.Good p s) (hf5 : ∀ y0, State.Good p y0 →
    State.Good p (f5 y0))
    : State.Good p (State.ifWritesM s a1 a2 a3 a4 f5) := by
  unfold State.ifWritesM
  exact (good_ite (hf5 _ hs) hs)

theorem State.ifField_good {p : List Instr} {s a1 a2 a3 a4 f5} (hs : State.Good p s) (hf5 : ∀ y0, State.Good p y0 →
    State.Good p (f5 y0))
    : State.Good p (State.ifField s a1 a2 a3 a4 f5) := by
  unfold State.ifField
  exact (State.ifWritesM_good hs hf5)

theorem State.ifWrites_good {p : List Instr} {s a1 a2 a3 f4} (hs : State.Good p s) (hf4 : ∀ y0, State.Good p y0 →
    State.Good p (f4 y0))
    : State.Good p (State.ifWrites s a1 a2 a3 f4) := by
  unfold State.ifWrites
  exact (good_ite (hf4 _ hs) hs)

theorem State.hostOn_good {p : List Instr} {s a1 a2} (hs : State.Good p s) : State.Good p (State.hostOn s a1 a2) := by
  unfold State.hostOn
  extract_lets -merge -useContext x1_0 x1_1
  have hx1_1 : State.Good p x1_1 := (good_ite hs (State.enable_good hs))
  try clear_value x1_1
  exact (good_ite (State.modSeq_good hx1_1) hx1_1)

theorem execRailEnSet_good {p : List Instr} {a0 a1 a2 s3} (hs3 : State.Good p s3)
    : OutGood p (execRailEnSet a0 a1 a2 s3) := by
  unfold execRailEnSet
  exact good_next (State.settle_good (State.ifField_good hs3 (fun _ h2 => (State.hostOn_good h2))))

theorem State.hostOff_good {p : List Instr} {s a1} (hs : State.Good p s) : State.Good p (State.hostOff s a1) := by
  unfold State.hostOff
  exact (good_ite hs (State.disable_good hs))

theorem execRailEnClear_good {p : List Instr} {a0 a1 s2} (hs2 : State.Good p s2)
    : OutGood p (execRailEnClear a0 a1 s2) := by
  unfold execRailEnClear
  exact good_next (State.settle_good (State.ifField_good hs2 (fun _ h2 => (State.hostOff_good h2))))

theorem execRailVsetWrite_good {p : List Instr} {a0 a1 a2 s3} (hs3 : State.Good p s3)
    : OutGood p (execRailVsetWrite a0 a1 a2 s3) := by
  unfold execRailVsetWrite
  exact good_next (State.settle_good (State.ifWrites_good hs3 (fun _ h2 => (State.setVset_good h2))))

theorem State.setFsw_good {p : List Instr} {s a1 a2} (hs : State.Good p s) : State.Good p (State.setFsw s a1 a2) := by
  unfold State.setFsw
  extract_lets -merge -useContext x1_0 x1_1 x1_2 x1_3
  have hx1_2 : State.Good p x1_2 := (State.wr_good (State.wr_good hs))
  try clear_value x1_2
  have hx1_3 : State.Good p x1_3 := (good_ite hx1_2 (State.lidStale_good hx1_2))
  try clear_value x1_3
  exact (good_ite (State.err_good hs) (good_ite (State.err_good hx1_3) hx1_3))

theorem execRailFswWrite_good {p : List Instr} {a0 a1 a2 s3} (hs3 : State.Good p s3)
    : OutGood p (execRailFswWrite a0 a1 a2 s3) := by
  unfold execRailFswWrite
  exact good_next (State.settle_good (State.ifWrites_good hs3 (fun _ h2 => (State.setFsw_good h2))))

theorem execPrebiasSearchDone_good {p : List Instr} {a0 a1 s2} (hs2 : State.Good p s2)
    : OutGood p (execPrebiasSearchDone a0 a1 s2) := by
  unfold execPrebiasSearchDone
  exact good_next (State.settle_good (State.railPrebias_good hs2))

theorem execLoopSample_good {p : List Instr} {a0 a1 a2 a3 a4 s5} (hs5 : State.Good p s5)
    : OutGood p (execLoopSample a0 a1 a2 a3 a4 s5) := by
  unfold execLoopSample
  exact good_next (State.settle_good (good_ite (State.railSample_good hs5) hs5))

theorem State.coefCtrl_good {p : List Instr} {s a1 a2 a3} (hs : State.Good p s)
    : State.Good p (State.coefCtrl s a1 a2 a3) := by
  unfold State.coefCtrl
  extract_lets -merge -useContext x1_0
  have hx1_0 : State.Good p x1_0 := (State.coefWrite_good hs)
  try clear_value x1_0
  exact (good_ite hx1_0 (State.swapNow_good hx1_0))

theorem execCoefApply_good {p : List Instr} {a0 a1 s2} (hs2 : State.Good p s2) : OutGood p (execCoefApply a0 a1 s2) := by
  unfold execCoefApply
  exact good_next (State.settle_good (State.ifWrites_good hs2 (fun _ h2 => (State.coefCtrl_good h2))))

theorem execCoefCopy_good {p : List Instr} {a0 a1 s2} (hs2 : State.Good p s2) : OutGood p (execCoefCopy a0 a1 s2) := by
  unfold execCoefCopy
  exact good_next (State.settle_good (State.ifWrites_good hs2 (fun _ h2 => (State.coefCtrl_good h2))))

theorem execWinOvr_good {p : List Instr} {a0 s1} (hs1 : State.Good p s1) : OutGood p (execWinOvr a0 s1) := by
  unfold execWinOvr
  exact good_next (by extract_lets -merge -useContext x1_0; exact (State.settle_good (good_ite (State.err_good (State.modRail_good hs1)) hs1)))

theorem execSetV_good {p : List Instr} {a0 s1} (hs1 : State.Good p s1) : OutGood p (execSetV a0 s1) := by
  unfold execSetV
  exact good_next (State.settle_good (State.start_good hs1 (fun _ _ h2 => (State.moveTo_good h2))))

theorem execRamp_good {p : List Instr} {a0 s1} (hs1 : State.Good p s1) : OutGood p (execRamp a0 s1) := by
  unfold execRamp
  exact good_next (State.settle_good (State.start_good hs1 (fun _ _ h2 => (State.moveTo_good h2))))

theorem State.lidCause_good {p : List Instr} {s a1 a2} (hs : State.Good p s) : State.Good p (State.lidCause s a1 a2) := by
  unfold State.lidCause
  exact (good_ite hs (State.wr_good hs))

theorem State.lidStart_good {p : List Instr} {s a1 a2} (hs : State.Good p s) : State.Good p (State.lidStart s a1 a2) := by
  unfold State.lidStart
  extract_lets -merge -useContext x1_0 x1_1 x1_2 x1_3 x1_4 x1_5
  have hx1_0 : State.Good p x1_0.2 := (State.draw_good hs)
  try clear_value x1_0
  have hx1_1 : State.Good p x1_1.2 := (State.draw_good hx1_0)
  try clear_value x1_1
  have hx1_2 : State.Good p x1_2 := hx1_1
  try clear_value x1_2
  exact (State.modRail_good (State.wrB_good (State.wr_good (State.wr_good (State.wr_good (State.wr_good (State.wr_good
    hx1_2)))))))

theorem execLoopId_good {p : List Instr} {a0 s1} (hs1 : State.Good p s1) : OutGood p (execLoopId a0 s1) := by
  unfold execLoopId
  exact good_next (State.settle_good (State.start_good hs1 (fun _ _ h4 => (by extract_lets -merge -useContext x4_0; exact (by split; (exact (State.failK_good (State.lidCause_good h4))); (exact (State.lidStart_good (State.runK_good h4))))))))

theorem execLidSettleEnd_good {p : List Instr} {a0 s1} (hs1 : State.Good p s1) : OutGood p (execLidSettleEnd a0 s1) := by
  unfold execLidSettleEnd
  exact good_next (State.settle_good (good_ite (State.wr_good hs1) hs1))

theorem execLidInjectionEnd_good {p : List Instr} {a0 s1} (hs1 : State.Good p s1)
    : OutGood p (execLidInjectionEnd a0 s1) := by
  unfold execLidInjectionEnd
  exact good_next (State.settle_good (good_ite (State.wr_good hs1) hs1))

theorem State.lidDone_good {p : List Instr} {s a1 a2} (hs : State.Good p s) : State.Good p (State.lidDone s a1 a2) := by
  unfold State.lidDone
  extract_lets -merge -useContext x1_0 x1_1 x1_2 x1_3 x1_4 x1_5 x1_6 x1_7 x1_8 x1_9 x1_10 x1_11
  have hx1_3 : State.Good p x1_3 := (State.wr_good (State.wr_good (State.wr_good (State.wr_good (State.wr_good
    (State.wr_good hs))))))
  try clear_value x1_3
  have hx1_6 : State.Good p x1_6 := (State.wr_good (State.wr_good (State.wr_good hx1_3)))
  try clear_value x1_6
  have hx1_7 : State.Good p x1_7 := (State.wr_good (State.wrI_good (State.wrI_good (State.wrI_good hx1_6))))
  try clear_value x1_7
  have hx1_8 : State.Good p x1_8 := (State.wr_good (State.wrI_good (State.wrI_good hx1_7)))
  try clear_value x1_8
  have hx1_9 : State.Good p x1_9 := (State.modRail_good (State.mark_good (State.wr_good (State.wr_good (State.wr_good
    hx1_8)))))
  try clear_value x1_9
  have hx1_10 : State.Good p x1_10 := (State.irq_good hx1_9)
  try clear_value x1_10
  have hx1_11 : State.Good p x1_11 := (good_ite hx1_10 (good_ite (State.commitProp_good hx1_10) (State.wr_good hx1_10)))
  try clear_value x1_11
  exact (good_ite (State.endRunning_good (State.wr_good (State.wr_good hx1_3))) (State.endRunning_good hx1_11))

theorem execLidComputeDone_good {p : List Instr} {a0 a1 s2} (hs2 : State.Good p s2)
    : OutGood p (execLidComputeDone a0 a1 s2) := by
  unfold execLidComputeDone
  exact good_next (State.settle_good (good_ite (State.lidDone_good hs2) hs2))

theorem execLoopCommit_good {p : List Instr} {a0 s1} (hs1 : State.Good p s1) : OutGood p (execLoopCommit a0 s1) := by
  unfold execLoopCommit
  exact good_next (State.settle_good (State.start_good hs1 (fun _ _ h4 => (by extract_lets -merge -useContext x4_0 x4_1; have hx4_1 : State.Good p x4_1 := (State.commitProp_good h4); try (clear_value x4_1); exact (good_ite (State.doneK_good (good_ite hx4_1 (State.swapNow_good hx4_1))) (State.failK_good (State.lidCause_good h4)))))))

theorem execMasterPeriodStart_good {p : List Instr} {a0 a1 s2} (hs2 : State.Good p s2)
    : OutGood p (execMasterPeriodStart a0 a1 s2) := by
  unfold execMasterPeriodStart
  exact good_next (State.settle_good (good_ite (State.period_good hs2) hs2))

theorem execHintEdge_good {p : List Instr} {a0 a1 a2 a3 s4} (hs4 : State.Good p s4)
    : OutGood p (execHintEdge a0 a1 a2 a3 s4) := by
  unfold execHintEdge
  exact good_next (State.settle_good (good_ite (State.hintEdge_good hs4) hs4))

theorem execHintWindowEnd_good {p : List Instr} {a0 s1} (hs1 : State.Good p s1) : OutGood p (execHintWindowEnd a0 s1) := by
  unfold execHintWindowEnd
  exact good_next (State.settle_good (State.hintEnd_good hs1))

theorem execShedDecision_good {p : List Instr} {a0 s1} (hs1 : State.Good p s1) : OutGood p (execShedDecision a0 s1) := by
  unfold execShedDecision
  exact good_next (State.settle_good (by split; (exact (State.shedBegin_good hs1)); (exact hs1)))

theorem execShedComplete_good {p : List Instr} {a0 s1} (hs1 : State.Good p s1) : OutGood p (execShedComplete a0 s1) := by
  unfold execShedComplete
  exact good_next (State.settle_good (good_ite (State.shedEnd_good hs1) hs1))

theorem execAddComplete_good {p : List Instr} {a0 s1} (hs1 : State.Good p s1) : OutGood p (execAddComplete a0 s1) := by
  unfold execAddComplete
  exact good_next (State.settle_good (good_ite (State.addEnd_good hs1) hs1))

theorem execShedHoldEnd_good {p : List Instr} {a0 s1} (hs1 : State.Good p s1) : OutGood p (execShedHoldEnd a0 s1) := by
  unfold execShedHoldEnd
  exact good_next (State.settle_good (good_ite (State.modSheaf_good hs1) hs1))

theorem execSfltFault_good {p : List Instr} {a0 a1 a2 a3 s4} (hs4 : State.Good p s4)
    : OutGood p (execSfltFault a0 a1 a2 a3 s4) := by
  unfold execSfltFault
  exact good_next (by extract_lets -merge -useContext x1_0 x1_1; have hx1_1 : State.Good p x1_1 := (State.wrB_good (State.wrB_good hs4)); try (clear_value x1_1); exact (State.settle_good (good_ite (good_ite (State.identify_good hx1_1) hx1_1) hs4)))

theorem execOutOfFamily_good {p : List Instr} {a0 s1} (hs1 : State.Good p s1) : OutGood p (execOutOfFamily a0 s1) := by
  unfold execOutOfFamily
  exact good_next (by extract_lets -merge -useContext x1_0 x1_1 x1_2; exact (State.settle_good (good_ite (State.removePhase_good (State.err_good hs1)) hs1)))

theorem State.rampStep_good {p : List Instr} {s} (hs : State.Good p s) : State.Good p (State.rampStep s) := by
  unfold State.rampStep
  extract_lets -merge -useContext x1_0 x1_1 x1_2
  exact (good_ite (State.modBus_good hs) hs)

theorem State.busMon_good {p : List Instr} {s a1} (hs : State.Good p s) : State.Good p (State.busMon s a1) := by
  unfold State.busMon
  extract_lets -merge -useContext x1_0 x1_1 x1_2 x1_3 x1_4 x1_5 x1_6
  have hx1_3 : State.Good p x1_3 := (State.wr_good (State.wrI_good hs))
  try clear_value x1_3
  have hx1_4 : State.Good p x1_4 := (State.wr_good (State.wrI_good (State.wr_good hx1_3)))
  try clear_value x1_4
  have hx1_5 : State.Good p x1_5 := (State.wrI_good (State.wr_good (State.wrI_good hx1_4)))
  try clear_value x1_5
  have hx1_6 : State.Good p x1_6 := (State.wrI_good (State.wr_good (State.wr_good hx1_5)))
  try clear_value x1_6
  exact (good_foldl (fun _ _ h3 => (State.wrI_good h3)) hx1_6)

theorem State.csSeen_good {p : List Instr} {s a1} (hs : State.Good p s) : State.Good p (State.csSeen s a1) := by
  unfold State.csSeen
  exact (good_ite (State.wr_good hs) hs)

theorem State.energy_good {p : List Instr} {s a1} (hs : State.Good p s) : State.Good p (State.energy s a1) := by
  unfold State.energy
  extract_lets -merge -useContext x1_0 x1_1 x1_2 x1_3
  have hx1_3 : State.Good p x1_3 := (State.modBus_good hs)
  try clear_value x1_3
  exact (good_ite (good_ite (State.wr_good hx1_3) (good_ite (State.wr_good hx1_3) (State.err_good (State.wr_good
    (State.wr_good hx1_3))))) hs)

theorem State.taperWatch_good {p : List Instr} {s} (hs : State.Good p s) : State.Good p (State.taperWatch s) := by
  unfold State.taperWatch
  exact (good_ite (by split; (exact hs); (exact (State.mark_good hs))) (State.unmark_good hs))

theorem State.nodeStep_good {p : List Instr} {s a1} (hs : State.Good p s) : State.Good p (State.nodeStep s a1) := by
  unfold State.nodeStep
  extract_lets -merge -useContext x1_0 x1_1 x1_2 x1_3
  exact (good_ite hs (State.modBus_good hs))

theorem State.pathStep_good {p : List Instr} {s} (hs : State.Good p s) : State.Good p (State.pathStep s) := by
  unfold State.pathStep
  extract_lets -merge -useContext x1_0 x1_1
  exact (State.modBus_good hs)

theorem State.loopStep_good {p : List Instr} {s a1} (hs : State.Good p s) : State.Good p (State.loopStep s a1).1 := by
  unfold State.loopStep
  extract_lets -merge -useContext x1_0 x1_1 x1_2 x1_3 x1_4 x1_5 x1_6 x1_7 x1_8 x1_9 x1_10
  exact (good_ite1 (State.modBus_good hs) (good_ite1 (State.modBus_good hs) (State.modBus_good hs)))

theorem State.busDuty_good {p : List Instr} {s a1 a2} (hs : State.Good p s) : State.Good p (State.busDuty s a1 a2) := by
  unfold State.busDuty
  extract_lets -merge -useContext x1_0 x1_1 x1_2 x1_3 x1_4
  exact (State.modBus_good hs)

theorem State.busPeriod_good {p : List Instr} {s} (hs : State.Good p s) : State.Good p (State.busPeriod s) := by
  unfold State.busPeriod
  extract_lets -merge -useContext x1_0 x1_1 x1_2
  have hx1_2 : State.Good p x1_2 := (State.each_good hs (fun _ _ h3 => (by split; (exact (State.modPh_good h3)); (exact h3))))
  try clear_value x1_2
  exact (good_ite (State.modBus_good hs) (State.modBus_good hx1_2))

theorem State.busEdges_good {p : List Instr} {s} (hs : State.Good p s) : State.Good p (State.busEdges s) := by
  unfold State.busEdges
  exact (State.each_good hs (fun _ _ h2 => (State.modPh_good h2)))

theorem State.busCapped_good {p : List Instr} {s a1} (hs : State.Good p s) : State.Good p (State.busCapped s a1) := by
  unfold State.busCapped
  extract_lets -merge -useContext x1_0 x1_1 x1_2 x1_3 x1_4 x1_5 x1_6 x1_7 x1_8 x1_9
  have hx1_8 : State.Good p x1_8 := (State.wrB_good (State.wrB_good (State.wrB_good hs)))
  try clear_value x1_8
  have hx1_9 : State.Good p x1_9 := (good_ite (State.chgCount_good hx1_8) hx1_8)
  try clear_value x1_9
  exact (State.modBus_good hx1_9)

theorem State.busSample_good {p : List Instr} {s a1} (hs : State.Good p s) : State.Good p (State.busSample s a1) := by
  unfold State.busSample
  extract_lets -merge -useContext x1_0 x1_1 x1_2 x1_3 x1_4 x1_5 x1_6
  have hx1_0 : State.Good p x1_0 := (State.csSeen_good (State.terms_good (State.taperWatch_good (State.energy_good
    (State.busMon_good hs)))))
  try clear_value x1_0
  have hx1_2 : State.Good p x1_2 := (good_ite (State.takeOuter_good hx1_0) hx1_0)
  try clear_value x1_2
  have hx1_3 : State.Good p x1_3 := (State.busCapped_good (State.busPeriod_good (State.rampStep_good (good_ite
    (State.pathStep_good hx1_2) hx1_2))))
  try clear_value x1_3
  have hx1_4 : State.Good p x1_4 := (good_ite (State.nodeStep_good hx1_3) hx1_3)
  try clear_value x1_4
  have hx1_5 : State.Good p x1_5 := (good_ite (State.err_good hx1_4) hx1_4)
  try clear_value x1_5
  have hx1_6 : State.Good p x1_6.1 := (State.loopStep_good hx1_5)
  try clear_value x1_6
  exact (good_ite hx1_0 (State.busEdges_good (State.busDuty_good hx1_6)))

theorem State.busPeak_good {p : List Instr} {s a1 a2 a3} (hs : State.Good p s)
    : State.Good p (State.busPeak s a1 a2 a3) := by
  unfold State.busPeak
  extract_lets -merge -useContext x1_0 x1_1
  exact (good_ite (State.modPh_good hs) hs)

theorem State.busNeg_good {p : List Instr} {s a1 a2} (hs : State.Good p s) : State.Good p (State.busNeg s a1 a2) := by
  unfold State.busNeg
  extract_lets -merge -useContext x1_0 x1_1
  exact (good_ite (State.modPh_good hs) hs)

theorem execPeakTrip_good {p : List Instr} {a0 a1 a2 s3} (hs3 : State.Good p s3)
    : OutGood p (execPeakTrip a0 a1 a2 s3) := by
  unfold execPeakTrip
  exact good_next (State.settle_good (good_ite (State.peakTrip_good hs3) (State.busPeak_good hs3)))

theorem execNegCurrentLimit_good {p : List Instr} {a0 a1 s2} (hs2 : State.Good p s2)
    : OutGood p (execNegCurrentLimit a0 a1 s2) := by
  unfold execNegCurrentLimit
  exact good_next (State.settle_good (good_ite (State.negTrip_good hs2) (State.busNeg_good hs2)))

theorem execHiccupEntry_good {p : List Instr} {a0 s1} (hs1 : State.Good p s1) : OutGood p (execHiccupEntry a0 s1) := by
  unfold execHiccupEntry
  exact good_next (State.settle_good (good_ite (State.enterHiccup_good hs1) hs1))

theorem execHiccupOffEnd_good {p : List Instr} {a0 s1} (hs1 : State.Good p s1) : OutGood p (execHiccupOffEnd a0 s1) := by
  unfold execHiccupOffEnd
  exact good_next (by extract_lets -merge -useContext x1_0 x1_1; have hx1_1 : State.Good p x1_1 := (State.bump_good hs1); try (clear_value x1_1); exact (State.settle_good (good_ite (good_ite (State.railSoft_good hx1_1) (State.buckSoft_good hx1_1)) hs1)))

theorem execRetryClear_good {p : List Instr} {a0 s1} (hs1 : State.Good p s1) : OutGood p (execRetryClear a0 s1) := by
  unfold execRetryClear
  exact good_next (by extract_lets -merge -useContext x1_0; exact (State.settle_good (good_ite (State.wr_good hs1) hs1)))

theorem State.ssMark_good {p : List Instr} {s a1} (hs : State.Good p s) : State.Good p (State.ssMark s a1) := by
  unfold State.ssMark
  exact (good_ite (State.modRail_good hs) (State.modBuck_good hs))

theorem State.ssCheck_good {p : List Instr} {s a1 a2} (hs : State.Good p s) : State.Good p (State.ssCheck s a1 a2) := by
  unfold State.ssCheck
  exact (good_ite hs (good_ite (State.enterHiccup_good (State.ssMark_good hs)) (good_ite (State.enterHiccup_good
    (State.ssMark_good hs)) (State.ssMark_good hs))))

theorem execStartShortCheck_good {p : List Instr} {a0 a1 s2} (hs2 : State.Good p s2)
    : OutGood p (execStartShortCheck a0 a1 s2) := by
  unfold execStartShortCheck
  exact good_next (State.settle_good (State.ssCheck_good hs2))

theorem execOvTrip_good {p : List Instr} {a0 a1 a2 a3 s4} (hs4 : State.Good p s4)
    : OutGood p (execOvTrip a0 a1 a2 a3 s4) := by
  unfold execOvTrip
  exact good_next (State.settle_good (good_ite (State.ovSense_good (State.see_good hs4)) hs4))

theorem execUvTrip_good {p : List Instr} {a0 a1 a2 a3 s4} (hs4 : State.Good p s4)
    : OutGood p (execUvTrip a0 a1 a2 a3 s4) := by
  unfold execUvTrip
  exact good_next (State.settle_good (good_ite (State.uvSense_good (State.see_good hs4)) hs4))

theorem execPowerGood_good {p : List Instr} {a0 a1 a2 a3 s4} (hs4 : State.Good p s4)
    : OutGood p (execPowerGood a0 a1 a2 a3 s4) := by
  unfold execPowerGood
  exact good_next (State.settle_good (good_ite (State.powerGood_good (State.see_good hs4)) hs4))

theorem execOffThresholdCrossing_good {p : List Instr} {a0 a1 s2} (hs2 : State.Good p s2)
    : OutGood p (execOffThresholdCrossing a0 a1 s2) := by
  unfold execOffThresholdCrossing
  exact good_next (State.settle_good (good_ite (State.belowCross_good hs2) hs2))

theorem execDischargeRelease_good {p : List Instr} {a0 s1} (hs1 : State.Good p s1)
    : OutGood p (execDischargeRelease a0 s1) := by
  unfold execDischargeRelease
  exact good_next (State.settle_good (State.disRelease_good hs1))

theorem execDisForceWrite_good {p : List Instr} {a0 a1 s2} (hs2 : State.Good p s2)
    : OutGood p (execDisForceWrite a0 a1 s2) := by
  unfold execDisForceWrite
  exact good_next (State.settle_good (State.ifField_good hs2 (fun _ h2 => (State.disForce_good h2))))

theorem execWindowSettle_good {p : List Instr} {a0 s1} (hs1 : State.Good p s1) : OutGood p (execWindowSettle a0 s1) := by
  unfold execWindowSettle
  exact good_next (State.settle_good (good_ite (State.modOut_good hs1) hs1))

theorem execVbakWeak_good {p : List Instr} {a0 a1 s2} (hs2 : State.Good p s2) : OutGood p (execVbakWeak a0 a1 s2) := by
  unfold execVbakWeak
  exact good_next (State.settle_good (good_ite (State.err_good (State.setRepl_good hs2)) hs2))

theorem State.feedsShow_good {p : List Instr} {s} (hs : State.Good p s) : State.Good p (State.feedsShow s) := by
  unfold State.feedsShow
  extract_lets -merge -useContext x1_0
  have hx1_0 : State.Good p x1_0.1 := (State.feedsRefresh_good hs)
  try clear_value x1_0
  exact (State.busWatch_good (good_ite (State.feedsLost_good hx1_0) hx1_0))

theorem State.pathFeed_good {p : List Instr} {s a1} (hs : State.Good p s) : State.Good p (State.pathFeed s a1) := by
  unfold State.pathFeed
  extract_lets -merge -useContext x1_0 x1_1
  have hx1_0 : State.Good p x1_0 := (State.modBus_good hs)
  try clear_value x1_0
  have hx1_1 : State.Good p x1_1 := (good_ite (State.pathStart_good hx1_0) hx1_0)
  try clear_value x1_1
  exact (State.wakeBy_good hx1_1)

theorem State.pathLoss_good {p : List Instr} {s a1} (hs : State.Good p s) : State.Good p (State.pathLoss s a1) := by
  unfold State.pathLoss
  extract_lets -merge -useContext x1_0
  have hx1_0 : State.Good p x1_0 := (State.modBus_good hs)
  try clear_value x1_0
  exact (good_ite (State.pathStop_good hx1_0) hx1_0)

theorem State.portSee_good {p : List Instr} {s a1 a2} (hs : State.Good p s) : State.Good p (State.portSee s a1 a2) := by
  unfold State.portSee
  exact (good_ite (State.wr_good hs) (State.wr_good hs))

theorem execPortAbovePres_good {p : List Instr} {a0 a1 s2} (hs2 : State.Good p s2)
    : OutGood p (execPortAbovePres a0 a1 s2) := by
  unfold execPortAbovePres
  exact good_next (by extract_lets -merge -useContext x1_0; have hx1_0 : State.Good p x1_0 := (State.portSee_good hs2); try (clear_value x1_0); exact (State.settle_good (good_ite (good_ite (State.pathFeed_good hs2) hs2) (good_ite (good_ite (State.feedsShow_good (State.mark_good (State.setPort_good hx1_0))) hx1_0) hs2))))

theorem execPortBelowPres_good {p : List Instr} {a0 a1 s2} (hs2 : State.Good p s2)
    : OutGood p (execPortBelowPres a0 a1 s2) := by
  unfold execPortBelowPres
  exact good_next (by extract_lets -merge -useContext x1_0; have hx1_0 : State.Good p x1_0 := (State.portSee_good hs2); try (clear_value x1_0); exact (State.settle_good (good_ite (good_ite (State.pathLoss_good hs2) hs2) (good_ite (good_ite (State.feedsShow_good (State.setPort_good hx1_0)) hx1_0) hs2))))

theorem execFeedReturn_good {p : List Instr} {a0 s1} (hs1 : State.Good p s1) : OutGood p (execFeedReturn a0 s1) := by
  unfold execFeedReturn
  exact good_next (by extract_lets -merge -useContext x1_0 x1_1; have hx1_1 : State.Good p x1_1 := (State.feedsShow_good (State.setLost_good (State.setPort_good hs1))); try (clear_value x1_1); exact (State.settle_good (good_ite (State.busWatch_good (State.ask_good hx1_1)) hs1)))

theorem execPortReverseTrip_good {p : List Instr} {k uv s} (hs : State.Good p s) : OutGood p (execPortReverseTrip k uv s) :=
  good_next (State.settle_good (good_ite hs (good_ite
    (good_ite (State.fastEnd_good (State.err_good (State.wr_good hs))) hs)
    (good_ite (good_ite (State.busWatch_good (State.err_good (State.setPort_good hs)))
      (good_ite (State.err_good (State.setPrev_good hs)) hs)) hs))))

theorem execPortVdsPositive_good {p : List Instr} {a0 a1 s2} (hs2 : State.Good p s2)
    : OutGood p (execPortVdsPositive a0 a1 s2) := by
  unfold execPortVdsPositive
  exact good_next (State.settle_good (good_ite (State.busWatch_good (State.setPort_good hs2)) hs2))

theorem execPortBelowLoss_good {p : List Instr} {a0 a1 s2} (hs2 : State.Good p s2)
    : OutGood p (execPortBelowLoss a0 a1 s2) := by
  unfold execPortBelowLoss
  exact good_next (by extract_lets -merge -useContext x1_0 x1_1; have hx1_0 : State.Good p x1_0 := (State.portSee_good hs2); try (clear_value x1_0); exact (State.settle_good (good_ite (good_ite (State.busWatch_good (State.mark_good (State.setPort_good (State.setPrev_good hx1_0)))) hx1_0) hs2)))

theorem State.freePort_good {p : List Instr} {s a1} (hs : State.Good p s) : State.Good p (State.freePort s a1) := by
  unfold State.freePort
  exact (good_ite (State.setPort_good hs) hs)

theorem execPortAboveLoss_good {p : List Instr} {a0 a1 s2} (hs2 : State.Good p s2)
    : OutGood p (execPortAboveLoss a0 a1 s2) := by
  unfold execPortAboveLoss
  exact good_next (by extract_lets -merge -useContext x1_0; have hx1_0 : State.Good p x1_0 := (State.portSee_good hs2); try (clear_value x1_0); exact (State.settle_good (good_ite (good_ite (State.busWatch_good (State.freePort_good (State.setPort_good hx1_0))) hx1_0) hs2)))

theorem execPortLossConfirmed_good {p : List Instr} {a0 s1} (hs1 : State.Good p s1)
    : OutGood p (execPortLossConfirmed a0 s1) := by
  unfold execPortLossConfirmed
  exact good_next (State.settle_good (good_ite (State.feedsShow_good (State.err_good (State.setLost_good
    (State.setPort_good hs1)))) hs1))

theorem State.portGone_good {p : List Instr} {s a1 a2} (hs : State.Good p s) : State.Good p (State.portGone s a1 a2) := by
  unfold State.portGone
  exact (State.feedsShow_good (State.setPort_good (State.setLost_good hs)))

theorem execPortOv_good {p : List Instr} {a0 a1 a2 s3} (hs3 : State.Good p s3) : OutGood p (execPortOv a0 a1 a2 s3) := by
  unfold execPortOv
  exact good_next (by extract_lets -merge -useContext x1_0 x1_1; have hx1_0 : State.Good p x1_0 := (State.err_good hs3); try (clear_value x1_0); have hx1_1 : State.Good p x1_1 := (State.fastEnd_good hx1_0); try (clear_value x1_1); exact (State.settle_good (good_ite (good_ite (good_ite hx1_1 (State.wr_good hx1_1)) (good_ite hx1_0 (State.portGone_good hx1_0))) hs3)))

theorem execPortOvClear_good {p : List Instr} {a0 a1 s2} (hs2 : State.Good p s2)
    : OutGood p (execPortOvClear a0 a1 s2) := by
  unfold execPortOvClear
  exact good_next (State.settle_good (good_ite (good_ite (good_ite (State.wr_good hs2) hs2) (good_ite (State.feedsShow_good
    (State.setPort_good hs2)) hs2)) hs2))

theorem State.setPEn_good {p : List Instr} {s a1 a2} (hs : State.Good p s) : State.Good p (State.setPEn s a1 a2) := by
  unfold State.setPEn
  extract_lets -merge -useContext x1_0
  have hx1_0 : State.Good p x1_0 := (State.wrB_good hs)
  try clear_value x1_0
  exact (good_ite (good_ite (State.feedsShow_good (State.setPort_good hx1_0)) hx1_0) (State.portGone_good hx1_0))

theorem execPortEnWrite_good {p : List Instr} {a0 a1 a2 s3} (hs3 : State.Good p s3)
    : OutGood p (execPortEnWrite a0 a1 a2 s3) := by
  unfold execPortEnWrite
  exact good_next (by extract_lets -merge -useContext x1_0; exact (State.settle_good (good_ite (State.ifField_good hs3 (fun _ h3 => (State.setNEn_good h3))) (State.ifField_good hs3 (fun _ h4 => (State.setPEn_good h4))))))

theorem execPortBlockWrite_good {p : List Instr} {a0 a1 a2 s3} (hs3 : State.Good p s3)
    : OutGood p (execPortBlockWrite a0 a1 a2 s3) := by
  unfold execPortBlockWrite
  exact good_next (State.settle_good (State.ifField_good hs3 (fun _ h2 => (State.setBlock_good h2))))

theorem execColdStart_good {p : List Instr} {a0 s1} (hs1 : State.Good p s1) : OutGood p (execColdStart a0 s1) := by
  unfold execColdStart
  exact good_next (State.settle_good (good_ite (State.pathStart_good (State.modBus_good hs1)) hs1))

theorem execStartupPathStop_good {p : List Instr} {s} (hs : State.Good p s) : OutGood p (execStartupPathStop s) := by
  unfold execStartupPathStop
  exact good_next (State.settle_good (good_ite (State.pathLoss_good hs) hs))

theorem execStartupPathRestart_good {p : List Instr} {a0 s1} (hs1 : State.Good p s1)
    : OutGood p (execStartupPathRestart a0 s1) := by
  unfold execStartupPathRestart
  exact good_next (State.settle_good (good_ite (State.pathFeed_good hs1) hs1))

theorem execStartupPathDelivery_good {p : List Instr} {a0 s1} (hs1 : State.Good p s1)
    : OutGood p (execStartupPathDelivery a0 s1) := by
  unfold execStartupPathDelivery
  exact good_next (State.settle_good (State.csSeen_good hs1))

theorem execVbusOv_good {p : List Instr} {a0 a1 s2} (hs2 : State.Good p s2) : OutGood p (execVbusOv a0 a1 s2) := by
  unfold execVbusOv
  exact good_next (State.settle_good (good_ite (State.vbusOv_good (State.err_good hs2)) hs2))

theorem execVbusUv_good {p : List Instr} {a0 a1 s2} (hs2 : State.Good p s2) : OutGood p (execVbusUv a0 a1 s2) := by
  unfold execVbusUv
  exact good_next (State.settle_good (good_ite (State.err_good hs2) hs2))

theorem execVbusOvRecovered_good {p : List Instr} {a0 a1 s2} (hs2 : State.Good p s2)
    : OutGood p (execVbusOvRecovered a0 a1 s2) := by
  unfold execVbusOvRecovered
  exact good_next (State.settle_good (good_ite (State.busWatch_good (State.modBus_good hs2)) hs2))

theorem State.margTake_good {p : List Instr} {s a1} (hs : State.Good p s) : State.Good p (State.margTake s a1) := by
  unfold State.margTake
  extract_lets -merge -useContext x1_0
  have hx1_0 : State.Good p x1_0 := (State.iff_good hs (fun _ h3 => (State.lidAbort_good h3)))
  try clear_value x1_0
  exact (State.margAny_good (State.retarget_good (State.wr_good (State.wr_good hx1_0))))

theorem State.margCopy_good {p : List Instr} {s} (hs : State.Good p s) : State.Good p (State.margCopy s) := by
  unfold State.margCopy
  exact (State.each_good hs (fun _ _ h2 => (State.margTake_good h2)))

theorem State.margApply_good {p : List Instr} {s} (hs : State.Good p s) : State.Good p (State.margApply s) := by
  unfold State.margApply
  exact (good_ite (State.errQ_good hs) (State.margCopy_good hs))

theorem State.setArm_good {p : List Instr} {s a1} (hs : State.Good p s) : State.Good p (State.setArm s a1) := by
  unfold State.setArm
  exact (State.wrB_good (State.wrB_good hs))

theorem State.margSync_good {p : List Instr} {s} (hs : State.Good p s) : State.Good p (State.margSync s) := by
  unfold State.margSync
  extract_lets -merge -useContext x1_0 x1_1
  have hx1_0 : State.Good p x1_0 := (State.setArm_good (State.modFlail_good hs))
  try clear_value x1_0
  have hx1_1 : State.Good p x1_1 := (State.errQ_good hx1_0)
  try clear_value x1_1
  exact (good_ite hs (good_ite (State.margCopy_good hx1_0) (good_ite (State.errQ_good hx1_1) hx1_1)))

theorem execMargin_good {p : List Instr} {a0 s1} (hs1 : State.Good p s1) : OutGood p (execMargin a0 s1) := by
  unfold execMargin
  exact good_next (State.settle_good (State.start_good hs1 (fun _ _ h4 => (by extract_lets -merge -useContext x4_0 x4_1 x4_2 x4_3 x4_4 x4_5; have hx4_3 : State.Good p x4_3 := (State.wr_good (State.endMoves_good h4)); try (clear_value x4_3); have hx4_4 : State.Good p x4_4 := (State.margTake_good (State.runK_good hx4_3)); try (clear_value x4_4); exact (good_ite (State.failK_good h4) (good_ite (State.failK_good h4) (good_ite (State.failK_good h4) (good_ite (State.doneK_good (State.wr_good hx4_3)) (good_ite (State.endMoves_good hx4_4) hx4_4)))))))))

theorem execSnapshot_good {p : List Instr} {a0 s1} (hs1 : State.Good p s1) : OutGood p (execSnapshot a0 s1) := by
  unfold execSnapshot
  exact good_next (State.settle_good (by split; (exact hs1); (exact (good_ite (good_ite (State.failFree_good hs1) (State.snapshot_good (State.runK_good hs1))) hs1))))

theorem State.setBusEn_good {p : List Instr} {s a1} (hs : State.Good p s) : State.Good p (State.setBusEn s a1) := by
  unfold State.setBusEn
  exact (good_ite (State.busWatch_good (State.wr_good hs)) (State.chgWatch_good (State.busOff_good hs)))

theorem execBuscEnWrite_good {p : List Instr} {a0 a1 s2} (hs2 : State.Good p s2)
    : OutGood p (execBuscEnWrite a0 a1 s2) := by
  unfold execBuscEnWrite
  exact good_next (State.settle_good (State.ifField_good hs2 (fun _ h2 => (State.setBusEn_good h2))))

theorem execBusConverterSample_good {p : List Instr} {a0 s1} (hs1 : State.Good p s1)
    : OutGood p (execBusConverterSample a0 s1) := by
  unfold execBusConverterSample
  exact good_next (State.settle_good (good_ite (State.busSample_good hs1) hs1))

theorem execFstartDone_good {p : List Instr} {s} (hs : State.Good p s) : OutGood p (execFstartDone s) := by
  unfold execFstartDone
  exact good_next (State.settle_good (good_ite (State.setBus_good hs) hs))

theorem State.donorBegin_good {p : List Instr} {s a1 a2 a3} (hs : State.Good p s)
    : State.Good p (State.donorBegin s a1 a2 a3) := by
  unfold State.donorBegin
  extract_lets -merge -useContext x1_0 x1_1
  have hx1_0 : State.Good p x1_0 := (State.wr_good (State.wr_good (State.wr_good hs)))
  try clear_value x1_0
  have hx1_1 : State.Good p x1_1 := (State.wr_good (State.wr_good (State.wr_good (State.wr_good hx1_0))))
  try clear_value x1_1
  exact (State.chgWatch_good (State.mark_good (State.setBus_good (State.modBus_good hx1_1))))

theorem execDonorStart_good {p : List Instr} {a0 a1 a2 s3} (hs3 : State.Good p s3)
    : OutGood p (execDonorStart a0 a1 a2 s3) := by
  unfold execDonorStart
  exact good_next (State.settle_good (State.start_good hs3 (fun _ _ h4 => (by extract_lets -merge -useContext x4_0 x4_1 x4_2; exact (good_ite (by split; (exact (State.failK_good h4)); (exact (State.donorBegin_good (State.runK_good h4)))) h4)))))

theorem execDonorStop_good {p : List Instr} {a0 s1} (hs1 : State.Good p s1) : OutGood p (execDonorStop a0 s1) := by
  unfold execDonorStop
  exact good_next (State.settle_good (State.start_good hs1 (fun _ _ h2 => (good_ite h2 (good_ite (State.failFree_good h2)
    (good_ite (State.endSession_good (State.runK_good h2)) (State.doneK_good h2)))))))

theorem State.blockPorts_good {p : List Instr} {s} (hs : State.Good p s) : State.Good p (State.blockPorts s) := by
  unfold State.blockPorts
  exact (State.each_good hs (fun _ _ h2 => (State.holdPort_good h2)))

theorem execFstopDone_good {p : List Instr} {s} (hs : State.Good p s) : OutGood p (execFstopDone s) := by
  unfold execFstopDone
  exact good_next (State.settle_good (good_ite (State.setBus_good (State.blockPorts_good hs)) hs))

theorem execDeadEnd_good {p : List Instr} {s} (hs : State.Good p s) : OutGood p (execDeadEnd s) := by
  unfold execDeadEnd
  exact good_next (State.settle_good (good_ite (good_ite (good_ite (State.pathStop_good hs) (State.pathStart_good hs))
    (good_ite (State.modBus_good (State.setBus_good (State.busRejoin_good hs))) (State.chgWatch_good
    (State.busTryStart_good (State.setBus_good (State.sessionClose_good hs)))))) hs))

theorem execNodeMatch_good {p : List Instr} {a0 a1 s2} (hs2 : State.Good p s2) : OutGood p (execNodeMatch a0 a1 s2) := by
  unfold execNodeMatch
  exact good_next (State.settle_good (good_ite (State.setBus_good (State.wr_good hs2)) hs2))

theorem execMatchTimeout_good {p : List Instr} {s} (hs : State.Good p s) : OutGood p (execMatchTimeout s) := by
  unfold execMatchTimeout
  exact good_next (State.settle_good (good_ite (State.setBus_good (State.err_good (State.endCause_good hs))) hs))

theorem execConnectDone_good {p : List Instr} {s} (hs : State.Good p s) : OutGood p (execConnectDone s) := by
  unfold execConnectDone
  exact good_next (State.settle_good (good_ite (State.setBus_good (State.wr_good hs)) hs))

theorem execDeliverEntry_good {p : List Instr} {s} (hs : State.Good p s) : OutGood p (execDeliverEntry s) := by
  unfold execDeliverEntry
  exact good_next (State.settle_good (good_ite (State.endRunning_good (State.irq_good (State.setBus_good hs))) hs))

theorem execDonorFloor_good {p : List Instr} {a0 a1 s2} (hs2 : State.Good p s2) : OutGood p (execDonorFloor a0 a1 s2) := by
  unfold execDonorFloor
  exact good_next (State.settle_good (good_ite (State.endSession_good hs2) hs2))

theorem execDonorTaper_good {p : List Instr} {s} (hs : State.Good p s) : OutGood p (execDonorTaper s) := by
  unfold execDonorTaper
  exact good_next (State.settle_good (State.onFe2_good hs (fun _ h2 => (good_ite (State.endSession_good h2) h2))))

theorem execDonorTime_good {p : List Instr} {s} (hs : State.Good p s) : OutGood p (execDonorTime s) := by
  unfold execDonorTime
  exact good_next (State.settle_good (State.onFe2_good hs (fun _ h2 => (good_ite (State.endSession_good h2) h2))))

theorem execRstopDone_good {p : List Instr} {s} (hs : State.Good p s) : OutGood p (execRstopDone s) := by
  unfold execRstopDone
  exact good_next (State.settle_good (good_ite (State.setBus_good (State.ornOff_good hs)) hs))

theorem execPhRemClear_good {p : List Instr} {a0 a1 s2} (hs2 : State.Good p s2) : OutGood p (execPhRemClear a0 a1 s2) := by
  unfold execPhRemClear
  exact good_next (State.settle_good (State.ifField_good hs2 (fun _ h2 => (State.busWatch_good (State.wr_good h2)))))

end Sys2Proof.Machine
end

