-- ==== Sys2Proof/Laws/Keep5.lean ====
section
/-! SUPPORT. The queue and the two canonical forms, kept by the operations and meanings of Pack, Regulators, Owl, Engines, Memory. -/

namespace Sys2Proof.Machine

open Sys2Proof

theorem execChargerTick_good {p : List Instr} {a0 s1} (hs1 : State.Good p s1) : OutGood p (execChargerTick a0 s1) := by
  unfold execChargerTick
  exact good_next (State.settle_good (State.chgTick_good hs1))

theorem execQualifyEnd_good {p : List Instr} {a0 s1} (hs1 : State.Good p s1) : OutGood p (execQualifyEnd a0 s1) := by
  unfold execQualifyEnd
  exact good_next (State.settle_good (State.onFe2_good hs1 (fun _ h2 => (State.qualifyEnd_good h2))))

theorem execPrechargeDone_good {p : List Instr} {s} (hs : State.Good p s) : OutGood p (execPrechargeDone s) := by
  unfold execPrechargeDone
  exact good_next (State.settle_good (State.chgStep_good hs (fun _ h2 => (good_ite (State.toCC_good h2) h2))))

theorem execPrechargeTimeout_good {p : List Instr} {s} (hs : State.Good p s) : OutGood p (execPrechargeTimeout s) := by
  unfold execPrechargeTimeout
  exact good_next (State.settle_good (State.chgStep_good hs (fun _ h2 => (good_ite (State.chgTimeout_good h2) h2))))

theorem execCvEntry_good {p : List Instr} {s} (hs : State.Good p s) : OutGood p (execCvEntry s) := by
  unfold execCvEntry
  exact good_next (State.settle_good (State.chgStep_good hs (fun _ h2 => (good_ite (State.setChg_good h2) h2))))

theorem execSafetyTimerExpiry_good {p : List Instr} {s} (hs : State.Good p s) : OutGood p (execSafetyTimerExpiry s) := by
  unfold execSafetyTimerExpiry
  exact good_next (State.settle_good (State.chgStep_good hs (fun _ h2 => (State.safeExpiry_good h2))))

theorem execTermination_good {p : List Instr} {s} (hs : State.Good p s) : OutGood p (execTermination s) := by
  unfold execTermination
  exact good_next (State.settle_good (State.chgStep_good hs (fun _ h2 => (State.terminate_good h2))))

theorem execTopoffDone_good {p : List Instr} {s} (hs : State.Good p s) : OutGood p (execTopoffDone s) := by
  unfold execTopoffDone
  exact good_next (State.settle_good (State.chgStep_good hs (fun _ h2 => (good_ite (State.topoffDone_good h2) h2))))

theorem execAutoRecharge_good {p : List Instr} {s} (hs : State.Good p s) : OutGood p (execAutoRecharge s) := by
  unfold execAutoRecharge
  exact good_next (State.settle_good (State.chgStep_good hs (fun _ h2 => (good_ite (State.recharge_good h2) h2))))

theorem execRestDue_good {p : List Instr} {s} (hs : State.Good p s) : OutGood p (execRestDue s) := by
  unfold execRestDue
  exact good_next (State.settle_good (State.chgStep_good hs (fun _ h2 => (good_ite (State.restStart_good h2) h2))))

theorem execRestEnd_good {p : List Instr} {s} (hs : State.Good p s) : OutGood p (execRestEnd s) := by
  unfold execRestEnd
  exact good_next (State.settle_good (State.chgStep_good hs (fun _ h2 => (good_ite (State.restEnd_good h2) h2))))

theorem execPackAbsence_good {p : List Instr} {a0 a1 a2 s3} (hs3 : State.Good p s3)
    : OutGood p (execPackAbsence a0 a1 a2 s3) := by
  unfold execPackAbsence
  exact good_next (State.settle_good (State.packAbsence_good hs3))

theorem execPackReinsertion_good {p : List Instr} {a0 s1} (hs1 : State.Good p s1)
    : OutGood p (execPackReinsertion a0 s1) := by
  unfold execPackReinsertion
  exact good_next (State.settle_good (State.chgStep_good hs1 (fun _ h2 => (good_ite (State.chgFound_good h2) h2))))

theorem execProbeStart_good {p : List Instr} {s} (hs : State.Good p s) : OutGood p (execProbeStart s) := by
  unfold execProbeStart
  exact good_next (State.settle_good (State.chgStep_good hs (fun _ h2 => (good_ite (State.modChg_good h2) h2))))

theorem execProbeEnd_good {p : List Instr} {s} (hs : State.Good p s) : OutGood p (execProbeEnd s) := by
  unfold execProbeEnd
  exact good_next (State.settle_good (State.onFe2_good hs (fun _ h2 => (good_ite (State.modChg_good h2) h2))))

theorem execPackOv_good {p : List Instr} {a0 a1 s2} (hs2 : State.Good p s2) : OutGood p (execPackOv a0 a1 s2) := by
  unfold execPackOv
  exact good_next (State.settle_good (State.packOv_good hs2))

theorem execNtcShortFault_good {p : List Instr} {s} (hs : State.Good p s) : OutGood p (execNtcShortFault s) := by
  unfold execNtcShortFault
  exact good_next (State.settle_good (State.onFe2_good hs (fun _ h2 => (State.ntcShort_good h2))))

theorem execNtcClassChange_good {p : List Instr} {a0 a1 s2} (hs2 : State.Good p s2)
    : OutGood p (execNtcClassChange a0 a1 s2) := by
  unfold execNtcClassChange
  exact good_next (State.settle_good (good_ite (State.ntcClass_good hs2) hs2))

theorem execTpackUpdate_good {p : List Instr} {a0 s1} (hs1 : State.Good p s1) : OutGood p (execTpackUpdate a0 s1) := by
  unfold execTpackUpdate
  exact good_next (State.settle_good (good_ite (State.wrI_good hs1) hs1))

theorem execChgCtrlStop_good {p : List Instr} {a0 s1} (hs1 : State.Good p s1) : OutGood p (execChgCtrlStop a0 s1) := by
  unfold execChgCtrlStop
  exact good_next (State.settle_good (State.chgCtrl_good hs1))

theorem execChgCtrlStart_good {p : List Instr} {a0 s1} (hs1 : State.Good p s1) : OutGood p (execChgCtrlStart a0 s1) := by
  unfold execChgCtrlStart
  exact good_next (State.settle_good (State.chgCtrl_good hs1))

theorem execChgCtrlClear_good {p : List Instr} {a0 s1} (hs1 : State.Good p s1) : OutGood p (execChgCtrlClear a0 s1) := by
  unfold execChgCtrlClear
  exact good_next (State.settle_good (State.chgCtrl_good hs1))

theorem execChgCtrlRest_good {p : List Instr} {a0 s1} (hs1 : State.Good p s1) : OutGood p (execChgCtrlRest a0 s1) := by
  unfold execChgCtrlRest
  exact good_next (State.settle_good (State.chgCtrl_good hs1))

theorem execChgCtrlRecharge_good {p : List Instr} {a0 s1} (hs1 : State.Good p s1)
    : OutGood p (execChgCtrlRecharge a0 s1) := by
  unfold execChgCtrlRecharge
  exact good_next (State.settle_good (State.chgCtrl_good hs1))

theorem execBuckEnSet_good {p : List Instr} {a0 a1 s2} (hs2 : State.Good p s2) : OutGood p (execBuckEnSet a0 a1 s2) := by
  unfold execBuckEnSet
  exact good_next (State.settle_good (State.ifField_good hs2 (fun _ h2 => (State.hostOn_good h2))))

theorem execBuckEnClear_good {p : List Instr} {a0 a1 s2} (hs2 : State.Good p s2)
    : OutGood p (execBuckEnClear a0 a1 s2) := by
  unfold execBuckEnClear
  exact good_next (State.settle_good (State.ifField_good hs2 (fun _ h2 => (State.hostOff_good h2))))

theorem execBuckPrebiasDone_good {p : List Instr} {a0 a1 s2} (hs2 : State.Good p s2)
    : OutGood p (execBuckPrebiasDone a0 a1 s2) := by
  unfold execBuckPrebiasDone
  exact good_next (State.settle_good (State.buckPrebias_good hs2))

theorem execBuckSample_good {p : List Instr} {a0 a1 a2 a3 a4 a5 s6} (hs6 : State.Good p s6)
    : OutGood p (execBuckSample a0 a1 a2 a3 a4 a5 s6) := by
  unfold execBuckSample
  exact good_next (State.settle_good (State.buckSample_good hs6))

theorem execBuckPeakTrip_good {p : List Instr} {a0 a1 s2} (hs2 : State.Good p s2)
    : OutGood p (execBuckPeakTrip a0 a1 s2) := by
  unfold execBuckPeakTrip
  exact good_next (by extract_lets -merge -useContext x1_0; exact (State.settle_good (good_ite (State.modBuck_good (State.modBuck_good hs2)) hs2)))

theorem execBuckParWrite_good {p : List Instr} {a0 a1 a2 s3} (hs3 : State.Good p s3)
    : OutGood p (execBuckParWrite a0 a1 a2 s3) := by
  unfold execBuckParWrite
  exact good_next (State.settle_good (State.ifField_good hs3 (fun _ h2 => (State.setPar_good h2))))

theorem execLdoEnSet_good {p : List Instr} {a0 a1 s2} (hs2 : State.Good p s2) : OutGood p (execLdoEnSet a0 a1 s2) := by
  unfold execLdoEnSet
  exact good_next (State.settle_good (State.ifField_good hs2 (fun _ h2 => (State.hostOn_good h2))))

theorem execLdoEnClear_good {p : List Instr} {a0 a1 s2} (hs2 : State.Good p s2) : OutGood p (execLdoEnClear a0 a1 s2) := by
  unfold execLdoEnClear
  exact good_next (State.settle_good (State.ifField_good hs2 (fun _ h2 => (State.hostOff_good h2))))

theorem execLdoRiseDone_good {p : List Instr} {a0 s1} (hs1 : State.Good p s1) : OutGood p (execLdoRiseDone a0 s1) := by
  unfold execLdoRiseDone
  exact good_next (State.settle_good (good_ite (State.ssDone_good hs1) hs1))

theorem State.ldoSee_good {p : List Instr} {s a1 a2 a3} (hs : State.Good p s) : State.Good p (State.ldoSee s a1 a2 a3) := by
  unfold State.ldoSee
  exact (good_ite (State.wrB_good (State.wrB_good (State.wr_good hs))) hs)

theorem execLdoOcOff_good {p : List Instr} {a0 a1 a2 a3 s4} (hs4 : State.Good p s4)
    : OutGood p (execLdoOcOff a0 a1 a2 a3 s4) := by
  unfold execLdoOcOff
  exact good_next (by extract_lets -merge -useContext x1_0; have hx1_0 : State.Good p x1_0 := (State.ldoSee_good hs4); try (clear_value x1_0); exact (State.settle_good (good_ite (State.err_good (State.outLatch_good hx1_0)) hx1_0)))

theorem execLdo0ToGroup_good {p : List Instr} {a0 a1 s2} (hs2 : State.Good p s2)
    : OutGood p (execLdo0ToGroup a0 a1 s2) := by
  unfold execLdo0ToGroup
  exact good_next (State.settle_good (good_ite (State.wr_good hs2) hs2))

theorem execLdo0ToKeepalive_good {p : List Instr} {a0 s1} (hs1 : State.Good p s1)
    : OutGood p (execLdo0ToKeepalive a0 s1) := by
  unfold execLdo0ToKeepalive
  exact good_next (State.settle_good (good_ite (State.ldo0Ka_good hs1) hs1))

theorem execKaTrip_good {p : List Instr} {a0 a1 s2} (hs2 : State.Good p s2) : OutGood p (execKaTrip a0 a1 s2) := by
  unfold execKaTrip
  exact good_next (by extract_lets -merge -useContext x1_0; have hx1_0 : State.Good p x1_0 := (State.wr_good (State.outOff_good hs2)); try (clear_value x1_0); exact (State.settle_good (good_ite (good_ite (State.err_good (State.wr_good (State.outOff_good hs2))) (good_core hx1_0 rfl rfl rfl)) hs2)))

theorem execLsEnSet_good {p : List Instr} {a0 a1 s2} (hs2 : State.Good p s2) : OutGood p (execLsEnSet a0 a1 s2) := by
  unfold execLsEnSet
  exact good_next (State.settle_good (State.ifField_good hs2 (fun _ h2 => (State.hostOn_good h2))))

theorem execLsEnClear_good {p : List Instr} {a0 a1 s2} (hs2 : State.Good p s2) : OutGood p (execLsEnClear a0 a1 s2) := by
  unfold execLsEnClear
  exact good_next (State.settle_good (State.ifField_good hs2 (fun _ h2 => (State.hostOff_good h2))))

theorem execLsRampDone_good {p : List Instr} {a0 a1 a2 s3} (hs3 : State.Good p s3)
    : OutGood p (execLsRampDone a0 a1 a2 s3) := by
  unfold execLsRampDone
  exact good_next (by extract_lets -merge -useContext x1_0; have hx1_0 : State.Good p x1_0 := (State.see_good hs3); try (clear_value x1_0); exact (State.settle_good (good_ite (State.ssDone_good hx1_0) hx1_0)))

theorem State.lsSee_good {p : List Instr} {s a1 a2} (hs : State.Good p s) : State.Good p (State.lsSee s a1 a2) := by
  unfold State.lsSee
  exact (good_ite (State.wrB_good (State.wrI_good hs)) hs)

theorem execLsOcOff_good {p : List Instr} {a0 a1 a2 s3} (hs3 : State.Good p s3) : OutGood p (execLsOcOff a0 a1 a2 s3) := by
  unfold execLsOcOff
  exact good_next (by extract_lets -merge -useContext x1_0; have hx1_0 : State.Good p x1_0 := (State.lsSee_good hs3); try (clear_value x1_0); exact (State.settle_good (good_ite (State.err_good (State.outLatch_good hx1_0)) hx1_0)))

theorem State.lsFast_good {p : List Instr} {s a1 a2} (hs : State.Good p s) : State.Good p (State.lsFast s a1 a2) := by
  unfold State.lsFast
  exact (good_ite (State.lsSee_good hs) (good_ite (State.err_good (State.outLatch_good hs)) (good_ite (State.err_good hs)
    hs)))

theorem execLsFastTrip_good {p : List Instr} {a0 a1 s2} (hs2 : State.Good p s2) : OutGood p (execLsFastTrip a0 a1 s2) := by
  unfold execLsFastTrip
  exact good_next (State.settle_good (State.lsFast_good hs2))

theorem execLsReverseStart_good {p : List Instr} {a0 a1 a2 s3} (hs3 : State.Good p s3)
    : OutGood p (execLsReverseStart a0 a1 a2 s3) := by
  unfold execLsReverseStart
  exact good_next (by extract_lets -merge -useContext x1_0; have hx1_0 : State.Good p x1_0 := (State.see_good hs3); try (clear_value x1_0); exact (State.settle_good (good_ite (State.err_good (State.wr_good (State.wr_good (State.wr_good hx1_0)))) hx1_0)))

theorem execLsReverseEnd_good {p : List Instr} {a0 a1 a2 s3} (hs3 : State.Good p s3)
    : OutGood p (execLsReverseEnd a0 a1 a2 s3) := by
  unfold execLsReverseEnd
  exact good_next (State.settle_good (good_ite (State.lsClose_good (State.see_good hs3)) (State.see_good hs3)))

theorem State.pcNow_good {p : List Instr} {s a1} (hs : State.Good p s) : State.Good p (State.pcNow s a1).2 := by
  unfold State.pcNow
  extract_lets -merge -useContext x1_0
  have hx1_0 : State.Good p x1_0.2 := (State.draw_good hs)
  try clear_value x1_0
  exact (good_ite2 hx1_0 hs)

theorem State.owlCapture_good {p : List Instr} {s a1 a2} (hs : State.Good p s)
    : State.Good p (State.owlCapture s a1 a2) := by
  unfold State.owlCapture
  extract_lets -merge -useContext x1_0 x1_1
  have hx1_0 : State.Good p x1_0 := (State.each_good hs (fun _ _ h4 => (by extract_lets -merge -useContext x4_0; have hx4_0 : State.Good p x4_0.2 := (State.pcNow_good h4); try (clear_value x4_0); exact (State.setW_good hx4_0))))
  try clear_value x1_0
  have hx1_1 : State.Good p x1_1 := (State.each_good hx1_0 (fun _ _ h6 => (State.setW_good h6)))
  try clear_value x1_1
  exact (good_ite (State.bump_good hs) (State.setW_good (State.wr_good (State.wr_good (State.wr_good (State.wr_good
    hx1_1))))))

theorem State.owlFind_good {p : List Instr} {s a1 a2 a3 a4 a5} (hs : State.Good p s)
    : State.Good p (State.owlFind s a1 a2 a3 a4 a5) := by
  unfold State.owlFind
  extract_lets -merge -useContext x1_0 x1_1
  have hx1_1 : State.Good p x1_1 := (by unfold x1_1; split; (exact (State.errQ_good hs)); (exact hs))
  try clear_value x1_1
  exact (good_core hx1_1 rfl rfl rfl)

theorem State.owlCount_good {p : List Instr} {s a1 a2} (hs : State.Good p s) : State.Good p (State.owlCount s a1 a2) := by
  unfold State.owlCount
  extract_lets -merge -useContext x1_0
  have hx1_0 : State.Good p x1_0 := (State.bump_good hs)
  try clear_value x1_0
  exact (good_ite (State.owlFind_good (State.wr_good hx1_0)) hx1_0)

theorem State.owlReact_good {p : List Instr} {s a1 a2 a3} (hs : State.Good p s)
    : State.Good p (State.owlReact s a1 a2 a3) := by
  unfold State.owlReact
  extract_lets -merge -useContext x1_0 x1_1
  have hx1_1 : State.Good p x1_1 := (State.owlFind_good hs)
  try clear_value x1_1
  exact (good_ite (good_core hx1_1 rfl rfl rfl) hx1_1)

theorem State.owlServe_good {p : List Instr} {s} (hs : State.Good p s) : State.Good p (State.owlServe s) := by
  unfold State.owlServe
  extract_lets -merge -useContext x1_0 x1_1
  have hx1_1 : State.Good p x1_1 := (good_foldl (fun _ _ h3 => (State.owlCapture_good h3)) (good_core hs rfl rfl rfl))
  try clear_value x1_1
  exact (good_ite hs (by split; (exact hx1_1); (exact (State.settle_good (State.post_good hx1_1)))))

theorem State.owlNext_good {p : List Instr} {s a1 a2} (hs : State.Good p s) : State.Good p (State.owlNext s a1 a2) := by
  unfold State.owlNext
  exact (State.owlSlot_good (State.setServed_good (State.modOwl_good hs)))

theorem State.owlExpire_good {p : List Instr} {s a1} (hs : State.Good p s) : State.Good p (State.owlExpire s a1) := by
  unfold State.owlExpire
  extract_lets -merge -useContext x1_0
  have hx1_0 : State.Good p x1_0 := (State.wr_good (State.owlCount_good hs))
  try clear_value x1_0
  exact (State.owlNext_good (State.owlReact_good hx1_0))

theorem State.owlEnd_good {p : List Instr} {s a1} (hs : State.Good p s) : State.Good p (State.owlEnd s a1) := by
  unfold State.owlEnd
  exact (good_ite (State.owlNext_good hs) (State.owlExpire_good hs))

theorem execSlotPeriodEnd_good {p : List Instr} {a0 s1} (hs1 : State.Good p s1) : OutGood p (execSlotPeriodEnd a0 s1) := by
  unfold execSlotPeriodEnd
  exact good_next (State.settle_good (good_ite (State.owlEnd_good hs1) hs1))

theorem State.owlPassAt_good {p : List Instr} {s a1} (hs : State.Good p s) : State.Good p (State.owlPassAt s a1) := by
  unfold State.owlPassAt
  extract_lets -merge -useContext x1_0
  have hx1_0 : State.Good p x1_0.2 := (State.draw_good hs)
  try clear_value x1_0
  exact (State.modOwl_good hx1_0)

theorem State.owlFw_good {p : List Instr} {s a1} (hs : State.Good p s) : State.Good p (State.owlFw s a1) := by
  unfold State.owlFw
  extract_lets -merge -useContext x1_0 x1_1 x1_2
  have hx1_2 : State.Good p x1_2 := (good_ite (State.owlPassAt_good hs) hs)
  try clear_value x1_2
  exact (good_ite (by split; (exact (good_ite (State.wr_good (State.setServed_good hx1_2)) hx1_2)); (exact hx1_2)) hs)

theorem State.owlPasses_good {p : List Instr} {s} (hs : State.Good p s) : State.Good p (State.owlPasses s) := by
  unfold State.owlPasses
  exact (State.each_good hs (fun _ _ h2 => (State.owlFw_good h2)))

theorem State.owlCheck_good {p : List Instr} {s a1 a2} (hs : State.Good p s) : State.Good p (State.owlCheck s a1 a2) := by
  unfold State.owlCheck
  extract_lets -merge -useContext x1_0
  exact (good_ite (State.owlFind_good (State.owlCount_good hs)) (good_ite (State.owlFind_good (State.owlCount_good hs))
    (good_ite (State.owlReact_good (State.owlCount_good hs)) (State.wr_good (State.setServed_good hs)))))

theorem State.kick_good {p : List Instr} {s a1 a2} (hs : State.Good p s) : State.Good p (State.kick s a1 a2) := by
  unfold State.kick
  extract_lets -merge -useContext x1_0 x1_1
  have hx1_1 : State.Good p x1_1 := (good_ite (State.owlEnd_good hs) hs)
  try clear_value x1_1
  exact (good_ite (State.err_good hs) (good_ite (State.owlFind_good hs) (good_ite (State.owlCheck_good hx1_1)
    (State.owlFind_good hx1_1))))

theorem execKick_good {p : List Instr} {a0 a1 s2} (hs2 : State.Good p s2) : OutGood p (execKick a0 a1 s2) := by
  unfold execKick
  exact good_next (State.settle_good (State.ifWrites_good hs2 (fun _ h2 => (State.kick_good h2))))

theorem State.owlCfg_good {p : List Instr} {s a1 a2} (hs : State.Good p s) : State.Good p (State.owlCfg s a1 a2) := by
  unfold State.owlCfg
  extract_lets -merge -useContext x1_0 x1_1 x1_2 x1_3 x1_4 x1_5 x1_6 x1_7
  have hx1_3 : State.Good p x1_3 := (State.wr_good (State.wr_good (State.wr_good (State.wr_good hs))))
  try clear_value x1_3
  have hx1_5 : State.Good p x1_5 := (State.wr_good hx1_3)
  try clear_value x1_5
  have hx1_6 : State.Good p x1_6 := (good_ite (State.err_good hx1_5) (State.wr_good hx1_5))
  try clear_value x1_6
  have hx1_7 : State.Good p x1_7 := (good_ite (State.modOwl_good hx1_6) hx1_6)
  try clear_value x1_7
  exact (good_ite (State.wr_good hx1_3) (good_ite hx1_3 (State.owlSlot_good hx1_7)))

theorem State.owlTime_good {p : List Instr} {s a1 a2} (hs : State.Good p s) : State.Good p (State.owlTime s a1 a2) := by
  unfold State.owlTime
  exact (State.iff_good (State.setW_good hs) (fun _ h2 => (State.wr_good h2)))

theorem execWdgBindWrite_good {p : List Instr} {a0 a1 a2 s3} (hs3 : State.Good p s3)
    : OutGood p (execWdgBindWrite a0 a1 a2 s3) := by
  unfold execWdgBindWrite
  exact good_next (State.settle_good (State.ifWrites_good hs3 (fun _ h2 => (good_ite h2 (State.owlCfg_good h2)))))

theorem execWdgSlotEnWrite_good {p : List Instr} {a0 a1 a2 s3} (hs3 : State.Good p s3)
    : OutGood p (execWdgSlotEnWrite a0 a1 a2 s3) := by
  unfold execWdgSlotEnWrite
  exact good_next (State.settle_good (State.ifWrites_good hs3 (fun _ h2 => (good_ite h2 (State.owlCfg_good h2)))))

theorem State.bootExpire_good {p : List Instr} {s} (hs : State.Good p s) : State.Good p (State.bootExpire s) := by
  unfold State.bootExpire
  extract_lets -merge -useContext x1_0 x1_1 x1_2
  have hx1_1 : State.Good p x1_1 := (State.wr_good (State.owlCount_good (State.wr_good hs)))
  try clear_value x1_1
  have hx1_2 : State.Good p x1_2 := (State.owlFind_good hx1_1)
  try clear_value x1_2
  exact (good_ite hx1_2 (good_core hx1_2 rfl rfl rfl))

theorem execBootSlotExpiry_good {p : List Instr} {s} (hs : State.Good p s) : OutGood p (execBootSlotExpiry s) := by
  unfold execBootSlotExpiry
  exact good_next (State.settle_good (good_ite (State.bootExpire_good hs) hs))

theorem State.haltEng_good {p : List Instr} {s a1} (hs : State.Good p s) : State.Good p (State.haltEng s a1) := by
  unfold State.haltEng
  extract_lets -merge -useContext x1_0
  have hx1_0 : State.Good p x1_0.2 := (State.draw_good hs)
  try clear_value x1_0
  exact (State.setW_good (State.wr_good (State.setEng_good hx1_0)))

theorem good_mismatch {p : List Instr} {s : State} {h l w} (hs : State.Good p s) :
    State.Good p { s with lsHalt := h, lsLast := l, warmReq := w } := good_core hs rfl rfl rfl

theorem State.mismatchAs_good {p : List Instr} {s rep n} (hs : State.Good p s) : State.Good p (State.mismatchAs s rep n) :=
  State.err_good (good_mismatch (State.count_good (State.haltEng_good hs)))

theorem State.mismatches_good {p : List Instr} {s a1} (hs : State.Good p s) : State.Good p (State.mismatches s a1) := by
  unfold State.mismatches
  exact (State.each_good hs (fun _ _ h2 => (good_ite (State.mismatchAs_good h2) h2)))

theorem execLockstepMismatch_good {p : List Instr} {a0 a1 s2} (hs2 : State.Good p s2)
    : OutGood p (execLockstepMismatch a0 a1 s2) := by
  unfold execLockstepMismatch
  exact good_next (State.settle_good (good_ite (State.mismatches_good hs2) hs2))

theorem State.selfTest_good {p : List Instr} {s a1} (hs : State.Good p s) : State.Good p (State.selfTest s a1) := by
  unfold State.selfTest
  split
  (exact (good_ite (good_core hs rfl rfl rfl) (good_core hs rfl rfl rfl)))
  (exact (State.err_good (State.haltEng_good hs)))

theorem execLockstepSelfTest_good {p : List Instr} {a0 s1} (hs1 : State.Good p s1)
    : OutGood p (execLockstepSelfTest a0 s1) := by
  unfold execLockstepSelfTest
  exact good_next (State.settle_good (good_ite (State.selfTest_good hs1) hs1))

theorem execEngineException_good {p : List Instr} {a0 s1} (hs1 : State.Good p s1)
    : OutGood p (execEngineException a0 s1) := by
  unfold execEngineException
  exact good_next (by extract_lets -merge -useContext x1_0; have hx1_0 : State.Good p x1_0 := (State.count_good (State.haltEng_good hs1)); try (clear_value x1_0); exact (State.settle_good (good_ite (State.err_good hx1_0) hs1)))

theorem execHandshakeTimeout_good {p : List Instr} {a0 a1 s2} (hs2 : State.Good p s2)
    : OutGood p (execHandshakeTimeout a0 a1 s2) := by
  unfold execHandshakeTimeout
  exact good_next (State.settle_good (good_ite (State.err_good hs2) hs2))

theorem execRefLoss_good {p : List Instr} {a0 a1 s2} (hs2 : State.Good p s2) : OutGood p (execRefLoss a0 a1 s2) := by
  unfold execRefLoss
  exact good_next (State.settle_good (good_ite (State.refLoss_good hs2) hs2))

theorem State.refBack_good {p : List Instr} {s} (hs : State.Good p s) : State.Good p (State.refBack s) := by
  unfold State.refBack
  extract_lets -merge -useContext x1_0
  have hx1_0 : State.Good p x1_0 := (State.wr_good (State.wr_good (State.wr_good hs)))
  try clear_value x1_0
  exact (State.err_good hx1_0)

theorem execRefAutoReturn_good {p : List Instr} {a0 s1} (hs1 : State.Good p s1) : OutGood p (execRefAutoReturn a0 s1) := by
  unfold execRefAutoReturn
  exact good_next (by extract_lets -merge -useContext x1_0; have hx1_0 : State.Good p x1_0 := (State.wr_good (good_core hs1 rfl rfl rfl)); try (clear_value x1_0); exact (State.settle_good (good_ite (good_ite (State.refBack_good hx1_0) hx1_0) hs1)))

theorem State.clkRet_good {p : List Instr} {s a1} (hs : State.Good p s) : State.Good p (State.clkRet s a1) := by
  unfold State.clkRet
  exact (good_ite (State.refBack_good hs) hs)

theorem execClkRet_good {p : List Instr} {a0 a1 s2} (hs2 : State.Good p s2) : OutGood p (execClkRet a0 a1 s2) := by
  unfold execClkRet
  exact good_next (State.settle_good (State.ifWrites_good hs2 (fun _ h2 => (State.clkRet_good h2))))

theorem State.setDroop_good {p : List Instr} {s a1 a2} (hs : State.Good p s) : State.Good p (State.setDroop s a1 a2) := by
  unfold State.setDroop
  exact (good_core hs rfl rfl rfl)

theorem State.droop_good {p : List Instr} {s a1} (hs : State.Good p s) : State.Good p (State.droop s a1) := by
  unfold State.droop
  exact (good_ite (State.setDroop_good hs) (State.post_good (State.count_good (State.wr_good (State.setDroop_good hs)))))

theorem execDroop_good {p : List Instr} {a0 a1 s2} (hs2 : State.Good p s2) : OutGood p (execDroop a0 a1 s2) := by
  unfold execDroop
  exact good_next (State.settle_good (good_ite (State.droop_good hs2) hs2))

theorem execDroopReleaseStep_good {p : List Instr} {a0 a1 a2 a3 s4} (hs4 : State.Good p s4)
    : OutGood p (execDroopReleaseStep a0 a1 a2 a3 s4) := by
  unfold execDroopReleaseStep
  exact good_next (by extract_lets -merge -useContext x1_0; exact (State.settle_good (good_ite hs4 (good_ite (State.wr_good (State.wr_good (State.setDroop_good hs4))) (State.setDroop_good hs4)))))

theorem execDroopLong_good {p : List Instr} {a0 a1 s2} (hs2 : State.Good p s2) : OutGood p (execDroopLong a0 a1 s2) := by
  unfold execDroopLong
  exact good_next (by extract_lets -merge -useContext x1_0; exact (State.settle_good (good_ite (State.err_good (State.setDroop_good hs2)) hs2)))

theorem State.nvmJunk_good {p : List Instr} {s a n} (hs : State.Good p s) : State.Good p (State.nvmJunk s a n) := by
  induction n generalizing s a with
  | zero => exact hs
  | succ n ih => exact ih (State.nvmPut_good (State.draw_good hs))

theorem State.hardFault_good {p : List Instr} {s a1 a2} (hs : State.Good p s) : State.Good p (State.hardFault s a1 a2) := by
  unfold State.hardFault
  extract_lets -merge -useContext x1_0
  have hx1_0 : State.Good p x1_0 := (State.wr_good (State.wr_good (State.wr_good hs)))
  try clear_value x1_0
  exact (State.err_good hx1_0)

theorem State.eccHit_good {p : List Instr} {s a1 a2 a3} (hs : State.Good p s) : State.Good p (State.eccHit s a1 a2 a3) := by
  unfold State.eccHit
  extract_lets -merge -useContext x1_0 x1_1 x1_2
  have hx1_0 : State.Good p x1_0 := (State.wr_good (State.wr_good hs))
  try clear_value x1_0
  have hx1_1 : State.Good p x1_1 := (good_ite (State.count_good hx1_0) (State.count_good hx1_0))
  try clear_value x1_1
  have hx1_2 : State.Good p x1_2 := (good_ite (State.errQ_good hx1_1) (good_ite (State.err_good hx1_1) (good_ite
    (State.err_good (good_core hx1_1 rfl rfl rfl)) (State.errQ_good hx1_1))))
  try clear_value x1_2
  exact (good_ite (State.hardFault_good hx1_2) hx1_2)

theorem State.eccHits_good {p : List Instr} {s a1 a2 a3} (hs : State.Good p s)
    : State.Good p (State.eccHits s a1 a2 a3) := by
  unfold State.eccHits
  exact (good_foldl (fun _ _ h2 => (State.eccHit_good h2)) hs)

theorem execCheckerSelfTest_good {p : List Instr} {a0 s1} (hs1 : State.Good p s1)
    : OutGood p (execCheckerSelfTest a0 s1) := by
  unfold execCheckerSelfTest
  exact good_next (by extract_lets -merge -useContext x1_0; have hx1_0 : State.Good p x1_0 := (State.wr_good hs1); try (clear_value x1_0); exact (State.settle_good (good_ite (by split; (exact (good_core hx1_0 rfl rfl rfl)); (exact (State.err_good hs1))) hs1)))

theorem State.retShow_good {p : List Instr} {s} (hs : State.Good p s) : State.Good p (State.retShow s) := by
  unfold State.retShow
  extract_lets -merge -useContext x1_0 x1_1
  exact (State.setRepl_good (State.wr_good (State.wr_good hs)))

theorem State.retLoad_good {p : List Instr} {n i s} (hs : State.Good p s) : State.Good p (State.retLoad n i s) := by
  induction n generalizing s i with
  | zero => exact hs
  | succ n ih => exact good_ite hs (good_ite (ih (good_core hs rfl rfl rfl)) (ih (State.post_good hs)))

theorem execRetire_good {p : List Instr} {a0 s1} (hs1 : State.Good p s1) : OutGood p (execRetire a0 s1) := by
  unfold execRetire
  exact good_next (State.settle_good (State.start_good hs1 (fun _ _ h4 => (by extract_lets -merge -useContext x4_0 x4_1 x4_2 x4_3 x4_4; have hx4_4 : State.Good p x4_4 := (State.nvmPut_good h4); try (clear_value x4_4); exact (good_ite (State.failK_good h4) (good_ite (State.failK_good h4) (good_ite (State.doneK_good h4) (good_ite (State.failK_good (State.retShow_good (good_core h4 rfl rfl rfl))) (good_ite (State.failFree_good h4) (State.doneK_good (State.retShow_good (good_core hx4_4 rfl rfl rfl))))))))))))

theorem execScrub_good {p : List Instr} {a0 a1 s2} (hs2 : State.Good p s2) : OutGood p (execScrub a0 a1 s2) := by
  unfold execScrub
  exact good_next (State.settle_good (State.start_good hs2 (fun _ _ h4 => (by extract_lets -merge -useContext x4_0 x4_1 x4_2 x4_3 x4_4 x4_5 x4_6 x4_7 x4_8 x4_9 x4_10 x4_11; have hx4_9 : State.Good p x4_9 := (State.eccHits_good h4); try (clear_value x4_9); have hx4_11 : State.Good p x4_11 := (by unfold x4_11; split; (exact (State.post_good hx4_9)); (exact hx4_9)); try (clear_value x4_11); exact (good_ite (State.failK_good h4) (good_ite (State.failK_good h4) (good_ite (State.failK_good h4) (good_ite (State.failK_good h4) (good_ite (State.failK_good h4) (good_ite (State.yield_good hx4_9) (State.completeB_good hx4_11)))))))))))

theorem execNvmWrite_good {p : List Instr} {a0 a1 s2} (hs2 : State.Good p s2) : OutGood p (execNvmWrite a0 a1 s2) := by
  unfold execNvmWrite
  exact good_next (State.settle_good (State.start_good hs2 (fun _ _ h4 => (by extract_lets -merge -useContext x4_0 x4_1 x4_2 x4_3 x4_4 x4_5; have hx4_5 : State.Good p x4_5 := (State.nvmPut_good h4); try (clear_value x4_5); exact (good_ite (State.failK_good h4) (good_ite (State.failK_good h4) (good_ite (State.failK_good h4) (good_ite (State.failK_good h4) (good_ite (State.failK_good (State.err_good (State.nvmJunk_good h4))) (good_ite (State.yield_good hx4_5) (State.doneK_good hx4_5)))))))))))

theorem State.loftShow_good {p : List Instr} {s a1 a2 a3} (hs : State.Good p s)
    : State.Good p (State.loftShow s a1 a2 a3) := by
  unfold State.loftShow
  extract_lets -merge -useContext x1_0
  have hx1_0 : State.Good p x1_0 := (State.wr_good (State.wr_good (State.wr_good (State.wr_good hs))))
  try clear_value x1_0
  exact (State.each_good (State.wr_good hx1_0) (fun _ _ h3 => (State.setW_good h3)))

theorem State.loftCommit_good {p : List Instr} {s a1 a2} (hs : State.Good p s)
    : State.Good p (State.loftCommit s a1 a2) := by
  unfold State.loftCommit
  extract_lets -merge -useContext x1_0 x1_1 x1_2 x1_3
  have hx1_1 : State.Good p x1_1 := (good_core hs rfl rfl rfl)
  try clear_value x1_1
  have hx1_2 : State.Good p x1_2 := (good_ite (State.nvmErase_good hx1_1) hx1_1)
  try clear_value x1_2
  have hx1_3 : State.Good p x1_3 := (State.nvmPut_good hx1_2)
  try clear_value x1_3
  exact (good_ite (State.err_good (State.nvmJunk_good hx1_2)) (State.count_good (State.wr_good (State.wr_good
    (State.loftShow_good hx1_3)))))

theorem State.loftKeep_good {p : List Instr} {s} (hs : State.Good p s) : State.Good p (State.loftKeep s) := by
  unfold State.loftKeep
  exact (good_ite (State.loftCommit_good hs) hs)

theorem execLoftCommit_good {p : List Instr} {a0 a1 s2} (hs2 : State.Good p s2) : OutGood p (execLoftCommit a0 a1 s2) := by
  unfold execLoftCommit
  exact good_next (State.settle_good (State.start_good hs2 (fun _ _ h4 => (by extract_lets -merge -useContext x4_0 x4_1 x4_2; have hx4_2 : State.Good p x4_2 := (State.loftCommit_good h4); try (clear_value x4_2); exact (good_ite (State.failK_good h4) (good_ite (State.failK_good h4) (good_ite (State.failK_good h4) (good_ite (State.failK_good h4) (good_ite (State.failK_good hx4_2) (State.doneK_good hx4_2))))))))))

theorem State.loftAsk_good {p : List Instr} {s} (hs : State.Good p s) : State.Good p (State.loftAsk s) := by
  unfold State.loftAsk
  exact (good_ite (State.engineAsk_good hs) hs)

theorem State.fe7Done_good {p : List Instr} {s} (hs : State.Good p s) : State.Good p (State.fe7Done s) := by
  unfold State.fe7Done
  exact (good_ite (State.engineDone_good hs) hs)

theorem execLoftAutoCommit_good {p : List Instr} {a0 s1} (hs1 : State.Good p s1)
    : OutGood p (execLoftAutoCommit a0 s1) := by
  unfold execLoftAutoCommit
  exact good_next (State.settle_good (good_ite (State.fe7Done_good (State.loftCommit_good hs1)) hs1))

theorem State.loftApply_good {p : List Instr} {s a1} (hs : State.Good p s) : State.Good p (State.loftApply s a1) := by
  unfold State.loftApply
  extract_lets -merge -useContext x1_0 x1_1 x1_2 x1_3 x1_4 x1_5 x1_6
  have hx1_3 : State.Good p x1_3 := (State.setRepl_good (State.setRepl_good hs))
  try clear_value x1_3
  have hx1_4 : State.Good p x1_4 := (State.each_good hx1_3 (fun _ _ h4 => (by extract_lets -merge -useContext x4_0; have hx4_0 : State.Good p x4_0 := (State.wr_good (State.wrB_good (State.wrB_good h4))); try (clear_value x4_0); exact (good_ite (State.wr_good hx4_0) hx4_0))))
  try clear_value x1_4
  have hx1_6 : ∀ y0 y1 y2 y3, State.Good p y0 → State.Good p (x1_6 y0 y1 y2 y3) := (fun _ _ _ _ h6 => (State.wr_good h6))
  clear_value x1_6
  exact (State.wr_good (State.wr_good (hx1_6 _ _ _ _ (hx1_6 _ _ _ _ (hx1_6 _ _ _ _ (hx1_6 _ _ _ _ (hx1_6 _ _ _ _ (hx1_6 _ _
    _ _ hx1_4))))))))

theorem good_loftNext {p : List Instr} {s : State} {a} (hs : State.Good p s) : State.Good p { s with loftNext := a } :=
  good_core hs rfl rfl rfl

theorem State.loftScan_good {p : List Instr} {s hits} (hs : State.Good p s) : State.Good p (State.loftScan s hits) := by
  unfold State.loftScan
  have h0 : State.Good p (s.eccHits 1 hits false) := State.eccHits_good hs
  revert h0
  generalize s.eccHits 1 hits false = s0
  intro h0
  dsimp only
  split
  · exact State.err_good (good_loftNext (State.wr_good (State.wr_good (State.loftShow_good (State.loftApply_good h0)))))
  · exact good_ite (State.err_good (State.wr_good (good_loftNext (State.wr_good (State.wr_good (State.loftShow_good
      (State.loftApply_good h0))))))) (good_loftNext (State.wr_good (State.wr_good (State.loftShow_good (State.loftApply_good h0)))))

theorem execLoftScan_good {p : List Instr} {a0 s1} (hs1 : State.Good p s1) : OutGood p (execLoftScan a0 s1) := by
  unfold execLoftScan
  exact good_next (by extract_lets -merge -useContext x1_0; have hx1_0 : State.Good p x1_0 := (State.loftScan_good hs1); try (clear_value x1_0); exact (State.settle_good (good_ite (good_core hx1_0 rfl rfl rfl) hs1)))

theorem execEventRecordWrite_good {p : List Instr} {a0 s1} (hs1 : State.Good p s1)
    : OutGood p (execEventRecordWrite a0 s1) := by
  unfold execEventRecordWrite
  exact good_next (State.settle_good (by split; (exact hs1); (exact (by extract_lets -merge -useContext x3_0; have hx3_0 : State.Good p x3_0 := (good_core hs1 rfl rfl rfl); try (clear_value x3_0); exact (good_ite hs1 (good_ite (State.fe7Done_good (State.err_good (State.logLost_good (State.logNext_good (State.nvmJunk_good (State.logErase_good hx3_0)))))) (State.fe7Done_good (State.logPut_good hx3_0))))))))

theorem execSnapshotWritten_good {p : List Instr} {s} (hs : State.Good p s) : OutGood p (execSnapshotWritten s) := by
  unfold execSnapshotWritten
  exact good_next (State.settle_good (good_ite (by split; (exact (State.snapYield_good hs)); (exact (State.fe7Done_good (State.snapWrite_good hs)))) hs))

theorem State.logScan_good {p : List Instr} {s} (hs : State.Good p s) : State.Good p (State.logScan s) := by
  unfold State.logScan
  extract_lets -merge -useContext x1_0 x1_1 x1_2
  have hx1_1 : State.Good p x1_1 := (State.wr_good (State.wr_good (State.wr_good hs)))
  try clear_value x1_1
  have hx1_2 : State.Good p x1_2 := (by unfold x1_2; split; (exact (by extract_lets -merge -useContext x3_0 x3_1; have hx3_1 : State.Good p x3_1 := (State.wr_good (State.wr_good hx1_1)); try (clear_value x3_1); exact (good_core hx3_1 rfl rfl rfl))); (exact hx1_1))
  try clear_value x1_2
  exact (State.wr_good hx1_2)

theorem execLogScan_good {p : List Instr} {s} (hs : State.Good p s) : OutGood p (execLogScan s) := by
  unfold execLogScan
  exact good_next (State.settle_good (good_ite (State.logScan_good hs) hs))

end Sys2Proof.Machine
end

