-- ==== Sys2Proof/Laws/Keep6.lean ====
section
/-! SUPPORT. The queue and the two canonical forms, kept by the operations and meanings of Otp, Update, Line, Sequence. -/

namespace Sys2Proof.Machine

open Sys2Proof

theorem State.setRow_good {p : List Instr} {s a1 a2} (hs : State.Good p s) : State.Good p (State.setRow s a1 a2) := by
  unfold State.setRow
  extract_lets -merge -useContext x1_0
  exact (good_core hs rfl rfl rfl)

theorem State.ctlBurn_good {p : List Instr} {s a1} (hs : State.Good p s) : State.Good p (State.ctlBurn s a1) := by
  unfold State.ctlBurn
  extract_lets -merge -useContext x1_0
  exact (good_core hs rfl rfl rfl)

theorem State.otpErr_good {p : List Instr} {s a1 a2 a3} (hs : State.Good p s) : State.Good p (State.otpErr s a1 a2 a3) := by
  unfold State.otpErr
  exact (State.collect_good (State.err_good hs))

theorem State.otpPost_good {p : List Instr} {s a1 a2} (hs : State.Good p s) : State.Good p (State.otpPost s a1 a2) := by
  unfold State.otpPost
  exact (State.collect_good (State.post_good hs))

theorem State.otpShow_good {p : List Instr} {s} (hs : State.Good p s) : State.Good p (State.otpShow s) := by
  unfold State.otpShow
  extract_lets -merge -useContext x1_0 x1_1 x1_2 x1_3 x1_4 x1_5 x1_6 x1_7 x1_8
  have hx1_5 : State.Good p x1_5 := (State.wr_good (State.wr_good (State.wr_good hs)))
  try clear_value x1_5
  have hx1_6 : State.Good p x1_6 := (State.wrB_good (State.wr_good (State.wr_good (State.wr_good hx1_5))))
  try clear_value x1_6
  have hx1_7 : State.Good p x1_7 := (State.each_good hx1_6 (fun _ _ h3 => (State.wrB_good (State.wrB_good (State.wr_good
    h3)))))
  try clear_value x1_7
  have hx1_8 : State.Good p x1_8 := (State.each_good hx1_7 (fun _ _ h5 => (by extract_lets -merge -useContext x5_0; exact (State.wrB_good (State.wrB_good (State.wrB_good (State.wr_good h5)))))))
  try clear_value x1_8
  exact (State.wr_good hx1_8)

theorem State.rowTell_good {p : List Instr} {s a1} (hs : State.Good p s) : State.Good p (State.rowTell s a1) := by
  unfold State.rowTell
  extract_lets -merge -useContext x1_0
  exact (good_ite (State.otpErr_good hs) (good_ite (State.otpErr_good hs) (good_ite (State.otpErr_good hs) hs)))

theorem State.otpRepl_good {p : List Instr} {s} (hs : State.Good p s) : State.Good p (State.otpRepl s) := by
  unfold State.otpRepl
  extract_lets -merge -useContext x1_0 x1_1
  exact (State.setRepl_good (State.setRepl_good (State.setRepl_good hs)))

theorem State.serialLoad_good {p : List Instr} {s} (hs : State.Good p s) : State.Good p (State.serialLoad s) := by
  unfold State.serialLoad
  extract_lets -merge -useContext x1_0
  exact (State.wr_good (State.wr_good (State.wr_good hs)))

theorem State.readPass_good {p : List Instr} {s rows ctl} (hs : State.Good p s)
    : State.Good p (State.readPass s rows ctl) := by
  unfold State.readPass
  extract_lets -merge -useContext a s0 c s1 s2 s3 s4 b
  have ha : State.Good p a := good_foldl (fun _ _ h => State.setRow_good h) hs
  have h0 : State.Good p s0 := good_core ha rfl rfl rfl
  have h1 : State.Good p s1 := good_ite h0 (State.otpErr_good h0)
  have h2 : State.Good p s2 := State.each_good h1 (fun _ _ h => State.rowTell_good h)
  have h3 : State.Good p s3 := State.each_good h2 (fun _ _ h => by
    split
    · exact h
    · exact State.otpErr_good h)
  have h4 : State.Good p s4 := State.each_good h3 (fun _ _ h => good_ite (State.otpErr_good h) h)
  have hb : State.Good p b := State.wr_good (State.otpShow_good (State.serialLoad_good (State.otpRepl_good h4)))
  exact good_core hb rfl rfl rfl

theorem execOtpReadPass_good {p : List Instr} {a0 a1 s2} (hs2 : State.Good p s2)
    : OutGood p (execOtpReadPass a0 a1 s2) := by
  unfold execOtpReadPass
  exact good_next (State.settle_good (good_ite (State.readPass_good hs2) hs2))

theorem State.toSpare_good {p : List Instr} {s r v l reads} (hs : State.Good p s)
    : State.Good p (State.toSpare s r v l reads).1 := by
  induction l generalizing s reads with
  | nil => exact hs
  | cons k ks ih =>
    unfold State.toSpare
    extract_lets -merge -useContext x s1 s2 s3
    have h1 : State.Good p s1 := State.setRow_good hs
    clear_value s1
    have h2 : State.Good p s2 := good_foldl (fun _ _ h => good_ite (State.ctlBurn_good h) h) h1
    clear_value s2
    have h3 : State.Good p s3 := State.otpPost_good (State.ctlBurn_good h2)
    clear_value s3
    exact good_ite1 (good_ite (State.otpErr_good h3) h3) (ih h1)

theorem State.burnRow_good {p : List Instr} {s a1 a2 a3 a4 a5} (hs : State.Good p s)
    : State.Good p (State.burnRow s a1 a2 a3 a4 a5) := by
  unfold State.burnRow
  extract_lets -merge -useContext x1_0 x1_1 x1_2
  have hx1_1 : State.Good p x1_1 := (good_ite (State.setRow_good hs) hs)
  try clear_value x1_1
  have hx1_2 : State.Good p x1_2.1 := (State.toSpare_good hx1_1)
  try clear_value x1_2
  exact (good_ite (State.doneK_good (State.otpShow_good hx1_1)) (good_ite (State.doneK_good (State.otpShow_good hx1_2))
    (State.failK_good (State.otpShow_good (State.collect_good (State.err_good hx1_2))))))

theorem execOtpBurnRow_good {p : List Instr} {a0 a1 s2} (hs2 : State.Good p s2) : OutGood p (execOtpBurnRow a0 a1 s2) := by
  unfold execOtpBurnRow
  exact good_next (State.settle_good (State.start_good hs2 (fun _ _ h4 => (by extract_lets -merge -useContext x4_0 x4_1 x4_2; exact (good_ite h4 (good_ite (State.failK_good h4) (good_ite (State.failK_good h4) (by split; (exact (State.failK_good h4)); (exact (good_ite (State.failK_good h4) (State.burnRow_good h4)))))))))))

theorem State.cntStep_good {p : List Instr} {s a1} (hs : State.Good p s) : State.Good p (State.cntStep s a1).1 := by
  unfold State.cntStep
  extract_lets -merge -useContext x1_0 x1_1 x1_2
  exact (good_ite1 (State.otpErr_good hs) (State.otpShow_good (State.setRow_good hs)))

theorem execOtpCounterIncrement_good {p : List Instr} {a0 s1} (hs1 : State.Good p s1)
    : OutGood p (execOtpCounterIncrement a0 s1) := by
  unfold execOtpCounterIncrement
  exact good_next (State.settle_good (State.start_good hs1 (fun _ _ h4 => (by extract_lets -merge -useContext x4_0 x4_1; have hx4_1 : State.Good p x4_1.1 := (good_ite1 (State.cntStep_good h4) h4); try (clear_value x4_1); exact (good_ite h4 (good_ite (State.failK_good h4) (good_ite (State.failK_good hx4_1) (good_ite (State.failK_good h4) (State.doneK_good hx4_1)))))))))

theorem execOtpLockBurn_good {p : List Instr} {a0 s1} (hs1 : State.Good p s1) : OutGood p (execOtpLockBurn a0 s1) := by
  unfold execOtpLockBurn
  exact good_next (State.settle_good (State.start_good hs1 (fun _ _ h4 => (by extract_lets -merge -useContext x4_0 x4_1 x4_2; have hx4_1 : State.Good p x4_1 := (State.ctlBurn_good h4); try (clear_value x4_1); have hx4_2 : State.Good p x4_2 := (good_ite hx4_1 (State.otpPost_good hx4_1)); try (clear_value x4_2); exact (good_ite h4 (good_ite (State.failK_good h4) (good_ite (State.failK_good h4) (good_ite (State.failK_good h4) (State.doneK_good (State.otpShow_good hx4_2))))))))))

theorem execOtpReburn_good {p : List Instr} {a0 a1 s2} (hs2 : State.Good p s2) : OutGood p (execOtpReburn a0 a1 s2) := by
  unfold execOtpReburn
  exact good_next (State.settle_good (State.start_good hs2 (fun _ _ h4 => (by extract_lets -merge -useContext x4_0 x4_1 x4_2 x4_3; exact (good_ite (State.failK_good h4) (good_ite (State.failK_good h4) (good_ite (State.failK_good h4) (good_ite (State.doneK_good (State.otpShow_good (State.setRow_good h4))) (good_ite (State.burnRow_good h4) (good_ite (State.burnRow_good h4) (State.failK_good h4)))))))))))

theorem State.ovrCtrl_good {p : List Instr} {s a1 a2} (hs : State.Good p s) : State.Good p (State.ovrCtrl s a1 a2) := by
  unfold State.ovrCtrl
  extract_lets -merge -useContext x1_0 x1_1
  exact (good_ite hs (good_ite (good_ite (State.otpShow_good (good_core hs rfl rfl rfl)) (State.err_good hs)) (good_ite
    (State.err_good hs) (good_ite (State.otpShow_good (good_core hs rfl rfl rfl)) (State.otpShow_good (good_core hs rfl rfl
    rfl))))))

theorem execOvrSet_good {p : List Instr} {a0 s1} (hs1 : State.Good p s1) : OutGood p (execOvrSet a0 s1) := by
  unfold execOvrSet
  exact good_next (State.settle_good (State.ifWrites_good hs1 (fun _ h2 => (State.ovrCtrl_good h2))))

theorem execOvrClear_good {p : List Instr} {a0 s1} (hs1 : State.Good p s1) : OutGood p (execOvrClear a0 s1) := by
  unfold execOvrClear
  exact good_next (State.settle_good (State.ifWrites_good hs1 (fun _ h2 => (State.ovrCtrl_good h2))))

theorem execOvrClearAll_good {p : List Instr} {a0 s1} (hs1 : State.Good p s1) : OutGood p (execOvrClearAll a0 s1) := by
  unfold execOvrClearAll
  exact good_next (State.settle_good (State.ifWrites_good hs1 (fun _ h2 => (State.ovrCtrl_good h2))))

theorem State.reject_good {p : List Instr} {s a1 a2} (hs : State.Good p s) : State.Good p (State.reject s a1 a2) := by
  unfold State.reject
  exact (State.err_good (State.wr_good (State.wr_good hs)))

theorem State.setStage_good {p : List Instr} {s a1} (hs : State.Good p s) : State.Good p (State.setStage s a1) := by
  unfold State.setStage
  exact (State.wr_good hs)

theorem State.stagedNow_good {p : List Instr} {s a1 a2} (hs : State.Good p s) : State.Good p (State.stagedNow s a1 a2) := by
  unfold State.stagedNow
  exact (State.irq_good (State.loftKeep_good (State.wr_good (State.wr_good (State.setStage_good hs)))))

theorem State.hdrBad_good {p : List Instr} {s} (hs : State.Good p s) : State.Good p (State.hdrBad s) := by
  unfold State.hdrBad
  exact (State.err_good (State.loftKeep_good (State.setStage_good hs)))

theorem State.siloLook_good {p : List Instr} {s a1 a2} (hs : State.Good p s) : State.Good p (State.siloLook s a1 a2).1 := by
  unfold State.siloLook
  extract_lets -merge -useContext x1_0 x1_1 x1_2 x1_3 x1_4 x1_5 x1_6
  exact (good_ite1 (State.hdrBad_good hs) (good_ite1 hs (good_ite1 (good_ite (State.stagedNow_good hs) hs) (good_ite1
    (State.hdrBad_good hs) (good_ite1 (State.stagedNow_good hs) hs)))))

theorem State.siloErase_good {p : List Instr} {s a1 a2} (hs : State.Good p s) : State.Good p (State.siloErase s a1 a2) := by
  unfold State.siloErase
  exact (State.each_good hs (fun _ _ h2 => (good_ite (State.nvmErase_good h2) h2)))

theorem State.siloWrite_good {p : List Instr} {s a1 a2 a3 a4 a5 a6} (hs : State.Good p s)
    : State.Good p (State.siloWrite s a1 a2 a3 a4 a5 a6).1 := by
  unfold State.siloWrite
  extract_lets -merge -useContext x1_0 x1_1 x1_2
  have hx1_0 : State.Good p x1_0 := (good_ite (State.wr_good (State.loftKeep_good (State.wr_good (State.wr_good
    (State.setStage_good hs))))) hs)
  try clear_value x1_0
  have hx1_1 : State.Good p x1_1 := (State.siloErase_good hx1_0)
  try clear_value x1_1
  have hx1_2 : State.Good p x1_2.1 := (State.siloLook_good (State.wr_good (State.nvmPut_good hx1_1)))
  try clear_value x1_2
  exact (good_ite1 hs (good_ite1 hs (good_ite1 (State.err_good hs) (good_ite1 (State.post_good hs) (good_ite1 hs (good_ite1
    hs (good_ite1 (State.err_good (State.nvmJunk_good hx1_1)) hx1_2)))))))

theorem execImageWrite_good {p : List Instr} {a0 a1 s2} (hs2 : State.Good p s2) : OutGood p (execImageWrite a0 a1 s2) := by
  unfold execImageWrite
  exact good_next (State.settle_good (State.start_good hs2 (fun _ _ h4 => (by extract_lets -merge -useContext x4_0 x4_1 x4_2 x4_3 x4_4 x4_5; have hx4_5 : State.Good p x4_5.1 := (State.siloWrite_good h4); try (clear_value x4_5); exact (good_ite (State.failK_good h4) (by split; (exact (State.failK_good hx4_5)); (exact (good_ite (State.yield_good hx4_5) (State.doneK_good hx4_5)))))))))

theorem State.copyItem_good {p : List Instr} {s a1} (hs : State.Good p s) : State.Good p (State.copyItem s a1) := by
  unfold State.copyItem
  extract_lets -merge -useContext x1_0
  exact (State.nvmPut_good (State.eraseArea_good hs))

theorem State.copyBad_good {p : List Instr} {s a1} (hs : State.Good p s) : State.Good p (State.copyBad s a1) := by
  unfold State.copyBad
  extract_lets -merge -useContext x1_0
  exact (State.nvmJunk_good (State.eraseArea_good hs))

theorem State.copyBegin_good {p : List Instr} {s a1} (hs : State.Good p s) : State.Good p (State.copyBegin s a1) := by
  unfold State.copyBegin
  exact (good_foldl (fun _ _ h3 => (by extract_lets -merge -useContext x3_0; exact (State.eraseArea_good h3))) (State.loftKeep_good (State.wr_good hs)))

theorem State.copyEnd_good {p : List Instr} {s a1 a2 a3} (hs : State.Good p s)
    : State.Good p (State.copyEnd s a1 a2 a3).1 := by
  unfold State.copyEnd
  extract_lets -merge -useContext x1_0 x1_1 x1_2 x1_3 x1_4 x1_5 x1_6 x1_7
  have hx1_3 : State.Good p x1_3 := (good_foldl (fun _ _ h3 => (good_ite (State.copyBad_good h3) (State.copyItem_good h3)))
    hs)
  try clear_value x1_3
  have hx1_4 : State.Good p x1_4 := (State.wr_good hx1_3)
  try clear_value x1_4
  have hx1_5 : State.Good p x1_5 := (State.wr_good (State.setStage_good hx1_4))
  try clear_value x1_5
  have hx1_6 : State.Good p x1_6 := (good_ite (State.wr_good hx1_5) hx1_5)
  try clear_value x1_6
  have hx1_7 : State.Good p x1_7 := (good_ite (State.wr_good (State.wr_good hx1_6)) hx1_6)
  try clear_value x1_7
  exact (good_ite1 (State.loftKeep_good hx1_7) (State.err_good (State.loftKeep_good hx1_4)))

theorem State.takeFw_good {p : List Instr} {s a1} (hs : State.Good p s) : State.Good p (State.takeFw s a1) := by
  unfold State.takeFw
  extract_lets -merge -useContext x1_0 x1_1
  have hx1_1 : State.Good p x1_1 := (State.each_good hs (fun _ _ h3 => (State.setW_good h3)))
  try clear_value x1_1
  exact (State.setW_good (State.setW_good hx1_1))

theorem State.fwRuns_good {p : List Instr} {s} (hs : State.Good p s) : State.Good p (State.fwRuns s) := by
  unfold State.fwRuns
  exact (State.setW_good (State.engUp_good hs))

theorem State.ldrDone_good {p : List Instr} {s a1} (hs : State.Good p s) : State.Good p (State.ldrDone s a1) := by
  unfold State.ldrDone
  exact (State.wr_good (State.wr_good (State.wr_good hs)))

theorem State.actNote_good {p : List Instr} {s a1} (hs : State.Good p s) : State.Good p (State.actNote s a1) := by
  unfold State.actNote
  exact (good_core hs rfl rfl rfl)

theorem State.actFail_good {p : List Instr} {s a1} (hs : State.Good p s) : State.Good p (State.actFail s a1) := by
  unfold State.actFail
  split
  (exact (State.failK_good hs))
  (exact (State.ldrDone_good hs))

theorem State.actEnd_good {p : List Instr} {s a1} (hs : State.Good p s) : State.Good p (State.actEnd s a1) := by
  unfold State.actEnd
  extract_lets -merge -useContext x1_0 x1_1
  have hx1_0 : State.Good p x1_0 := (good_core hs rfl rfl rfl)
  try clear_value x1_0
  have hx1_1 : State.Good p x1_1.2 := (State.draw_good hx1_0)
  try clear_value x1_1
  exact (by split; (exact hs); (exact (good_ite (State.actFail_good hx1_0) (good_ite (by split; (exact (State.doneK_good hx1_0)); (exact (State.ldrDone_good hx1_0))) (State.actFail_good hx1_1)))))

theorem State.wakingEnds_good {p : List Instr} {s} (hs : State.Good p s) : State.Good p (State.wakingEnds s) := by
  unfold State.wakingEnds
  exact (State.each_good (State.wr_good (State.wr_good (State.bootArm_good hs))) (fun _ _ h2 => (good_ite (State.wr_good h2) h2)))

theorem State.toHold_good {p : List Instr} {s a1 a2 a3} (hs : State.Good p s) : State.Good p (State.toHold s a1 a2 a3) := by
  unfold State.toHold
  extract_lets -merge -useContext x1_0
  have hx1_0 : State.Good p x1_0 := (State.setMode_good (State.wakingEnds_good hs))
  try clear_value x1_0
  exact (State.actEnd_good (State.wr_good (State.wr_good (State.wr_good (State.wr_good hx1_0)))))

theorem State.noImage_good {p : List Instr} {s} (hs : State.Good p s) : State.Good p (State.noImage s) := by
  unfold State.noImage
  exact (State.setW_good (State.toHold_good (State.setEng_good (State.setEngs_good hs))))

theorem State.stagedStep_good {p : List Instr} {s a1 a2} (hs : State.Good p s)
    : State.Good p (State.stagedStep s a1 a2) := by
  unfold State.stagedStep
  split
  · exact State.actNote_good (State.reject_good (State.loftKeep_good (State.setStage_good hs)))
  · exact good_ite (State.actNote_good hs) (State.actNote_good (State.copyEnd_good (State.copyBegin_good hs)))

theorem State.fwStep_good {p : List Instr} {s a1 a2} (hs : State.Good p s) : State.Good p (State.fwStep s a1 a2) := by
  unfold State.fwStep
  extract_lets -merge -useContext x1_0 x1_1
  exact (by split; (exact hs); (exact (by extract_lets -merge -useContext x3_0 x3_1 x3_2; have hx3_0 : State.Good p x3_0 := (State.reject_good hs); try (clear_value x3_0); have hx3_1 : State.Good p x3_1 := (State.loftKeep_good (State.wr_good hx3_0)); try (clear_value x3_1); have hx3_2 : State.Good p x3_2 := (good_ite (State.err_good (State.copyBad_good hx3_1)) (State.wr_good (State.wr_good (State.copyItem_good hx3_1)))); try (clear_value x3_2); exact (good_ite (State.loftKeep_good (State.wr_good hx3_2)) hx3_0))))

theorem State.imageAuth_good {p : List Instr} {s a1 a2 a3} (hs : State.Good p s)
    : State.Good p (State.imageAuth s a1 a2 a3) := by
  unfold State.imageAuth
  extract_lets -merge -useContext x1_0 x1_1 x1_2 x1_3 x1_4 x1_5 x1_6
  have hx1_0 : State.Good p x1_0 := (State.eccHits_good hs)
  try clear_value x1_0
  have hx1_1 : State.Good p x1_1 := (State.retShow_good (State.retLoad_good (good_core hx1_0 rfl rfl rfl)))
  try clear_value x1_1
  have hx1_2 : State.Good p x1_2 := (good_ite (State.loftKeep_good (State.setStage_good hx1_1)) hx1_1)
  try clear_value x1_2
  have hx1_3 : State.Good p x1_3 := (State.wr_good (State.wrB_good hx1_2))
  try clear_value x1_3
  have hx1_4 : State.Good p x1_4 := (good_ite (State.stagedStep_good hx1_3) hx1_3)
  try clear_value x1_4
  have hx1_5 : State.Good p x1_5 := (State.fwStep_good hx1_4)
  try clear_value x1_5
  have hx1_6 : State.Good p x1_6 := (State.fwRuns_good (State.takeFw_good (State.wr_good hx1_5)))
  try clear_value x1_6
  exact (good_ite (good_core hx1_6 rfl rfl rfl) (State.noImage_good (State.wr_good hx1_5)))

theorem execImageAuthentication_good {p : List Instr} {a0 a1 a2 s3} (hs3 : State.Good p s3)
    : OutGood p (execImageAuthentication a0 a1 a2 s3) := by
  unfold execImageAuthentication
  exact good_next (State.settle_good (good_ite (State.imageAuth_good hs3) hs3))

theorem State.actReject_good {p : List Instr} {s a1} (hs : State.Good p s) : State.Good p (State.actReject s a1) := by
  unfold State.actReject
  split
  (exact (State.reject_good hs))
  (exact hs)

theorem State.actBegin_good {p : List Instr} {s a1 a2} (hs : State.Good p s) : State.Good p (State.actBegin s a1 a2) := by
  unfold State.actBegin
  extract_lets -merge -useContext x1_0
  have hx1_0 : State.Good p x1_0 := (State.eccHits_good hs)
  try clear_value x1_0
  exact (by split; (exact (State.failK_good (good_ite (State.actReject_good hx1_0) hx1_0))); (exact (State.askNext_good (State.setCmd_good hx1_0))))

theorem State.actCopy_good {p : List Instr} {s a1 a2} (hs : State.Good p s) : State.Good p (State.actCopy s a1 a2) := by
  unfold State.actCopy
  extract_lets -merge -useContext x1_0 x1_1 x1_2
  have hx1_1 : State.Good p x1_1.1 := (State.copyEnd_good hs)
  try clear_value x1_1
  have hx1_2 : State.Good p x1_2 := (good_ite (State.takeFw_good hx1_1) hx1_1)
  try clear_value x1_2
  exact (good_ite (State.failK_good hs) (good_ite (State.warmStart_good (State.dropOrg_good (State.setCmd_good hx1_2)))
    (State.failK_good hx1_1)))

theorem State.actHold_good {p : List Instr} {s} (hs : State.Good p s) : State.Good p (State.actHold s) := by
  unfold State.actHold
  extract_lets -merge -useContext x1_0
  have hx1_0 : State.Good p x1_0 := (State.warmStart_good hs)
  try clear_value x1_0
  exact (good_core hx1_0 rfl rfl rfl)

theorem execActivate_good {p : List Instr} {a0 a1 a2 s3} (hs3 : State.Good p s3)
    : OutGood p (execActivate a0 a1 a2 s3) := by
  unfold execActivate
  exact good_next (State.settle_good (State.start_good hs3 (fun _ _ h2 => (good_ite (State.copyBegin_good
    (State.setCmd_good h2)) (good_ite (State.actCopy_good h2) (good_ite (State.failFree_good h2) (good_ite (good_ite
    (State.actHold_good (State.dropOrg_good (State.setCmd_good h2))) (State.failK_good h2)) (State.actBegin_good h2))))))))

theorem State.activated_good {p : List Instr} {s} (hs : State.Good p s) : State.Good p (State.activated s) := by
  unfold State.activated
  split
  (exact hs)
  (exact (State.doneK_good hs))

theorem State.cntTo_good {p : List Instr} {s a1 a2} (hs : State.Good p s) : State.Good p (State.cntTo s a1 a2) := by
  unfold State.cntTo
  exact (good_foldl (fun _ _ h2 => (State.cntStep_good h2)) hs)

theorem State.confirm_good {p : List Instr} {s} (hs : State.Good p s) : State.Good p (State.confirm s) := by
  unfold State.confirm
  extract_lets -merge -useContext x1_0 x1_1 x1_2 x1_3
  have hx1_0 : State.Good p x1_0 := (State.cntTo_good hs)
  try clear_value x1_0
  have hx1_1 : State.Good p x1_1 := (good_ite (State.cntStep_good hx1_0) hx1_0)
  try clear_value x1_1
  have hx1_2 : State.Good p x1_2 := (State.cntTo_good hx1_1)
  try clear_value x1_2
  have hx1_3 : State.Good p x1_3 := (good_ite (State.eraseArea_good hx1_2) hx1_2)
  try clear_value x1_3
  exact (State.loftKeep_good (State.wr_good (State.wr_good (State.wr_good hx1_3))))

theorem execConfirm_good {p : List Instr} {a0 s1} (hs1 : State.Good p s1) : OutGood p (execConfirm a0 s1) := by
  unfold execConfirm
  exact good_next (State.settle_good (State.start_good hs1 (fun _ _ h4 => (by extract_lets -merge -useContext x4_0; exact (good_ite (State.failK_good h4) (good_ite (State.failK_good h4) (good_ite (State.failFree_good h4) (State.doneK_good (State.confirm_good h4)))))))))

theorem State.ldrCtrl_good {p : List Instr} {s a1 a2} (hs : State.Good p s) : State.Good p (State.ldrCtrl s a1 a2) := by
  unfold State.ldrCtrl
  extract_lets -merge -useContext x1_0 x1_1 x1_2 x1_3
  have hx1_2 : State.Good p x1_2 := (State.engineAsk_good hs)
  try clear_value x1_2
  have hx1_3 : State.Good p x1_3.1 := (State.siloWrite_good hs)
  try clear_value x1_3
  exact (good_ite (State.err_good hs) (good_ite (State.wr_good (good_core hx1_2 rfl rfl rfl)) (good_ite (State.ldrDone_good
    hx1_3) (good_ite (good_ite (State.actHold_good hs) (State.ldrDone_good hs)) hs))))

theorem State.ldrGo_good {p : List Instr} {s} (hs : State.Good p s) : State.Good p (State.ldrGo s) := by
  unfold State.ldrGo
  split
  (exact (good_ite (State.fe7Done_good (State.ldrCtrl_good (good_core hs rfl rfl rfl))) hs))
  (exact hs)

theorem execLdrWrite_good {p : List Instr} {a0 a1 a2 s3} (hs3 : State.Good p s3)
    : OutGood p (execLdrWrite a0 a1 a2 s3) := by
  unfold execLdrWrite
  exact good_next (State.settle_good (good_ite (State.ifWrites_good hs3 (fun _ h2 => (State.ldrCtrl_good h2))) hs3))

theorem execLdrActivate_good {p : List Instr} {a0 a1 s2} (hs2 : State.Good p s2)
    : OutGood p (execLdrActivate a0 a1 s2) := by
  unfold execLdrActivate
  exact good_next (State.settle_good (good_ite (State.ifWrites_good hs2 (fun _ h2 => (State.ldrCtrl_good h2))) hs2))

theorem State.flailAsk_good {p : List Instr} {s a1} (hs : State.Good p s) : State.Good p (State.flailAsk s a1) := by
  unfold State.flailAsk
  extract_lets -merge -useContext x1_0 x1_1
  have hx1_0 : State.Good p x1_0 := (good_ite (State.ask_good hs) hs)
  try clear_value x1_0
  have hx1_1 : State.Good p x1_1 := (good_ite (State.ask_good hx1_0) hx1_0)
  try clear_value x1_1
  exact (good_ite (State.ask_good hx1_1) hx1_1)

theorem State.flailSet_good {p : List Instr} {s a1 a2} (hs : State.Good p s) : State.Good p (State.flailSet s a1 a2) := by
  unfold State.flailSet
  extract_lets -merge -useContext x1_0 x1_1 x1_2 x1_3 x1_4
  have hx1_2 : State.Good p x1_2 := (State.flailAsk_good (State.irq_good (State.wr_good hs)))
  try clear_value x1_2
  have hx1_4 : State.Good p x1_4 := (good_ite (State.modSeq_good hx1_2) hx1_2)
  try clear_value x1_4
  exact (good_ite hs (State.modFlail_good hx1_4))

theorem State.holdJudge_good {p : List Instr} {s} (hs : State.Good p s) : State.Good p (State.holdJudge s) := by
  unfold State.holdJudge
  extract_lets -merge -useContext x1_0
  have hx1_0 : State.Good p x1_0 := (State.modFlail_good hs)
  try clear_value x1_0
  exact (by split; (exact hs); (exact (good_ite (State.mark_good (State.modFlail_good (State.wr_good hx1_0))) hx1_0)))

theorem State.autoEnd_good {p : List Instr} {s} (hs : State.Good p s) : State.Good p (State.autoEnd s) := by
  unfold State.autoEnd
  exact (good_ite (State.modFlail_good (State.wr_good hs)) hs)

theorem State.mctrlRun_good {p : List Instr} {s a1 a2} (hs : State.Good p s) : State.Good p (State.mctrlRun s a1 a2) := by
  unfold State.mctrlRun
  extract_lets -merge -useContext x1_0
  have hx1_0 : State.Good p x1_0 := (State.wr_good hs)
  try clear_value x1_0
  exact (good_ite (State.setFrame_good hs) (good_ite (State.setFrame_good (State.modFlail_good hs)) (good_ite (good_ite
    hx1_0 (State.setFrame_good (State.wr_good hx1_0))) (good_ite (State.wr_good hs) (good_ite (State.setFrame_good hs)
    hs)))))

theorem State.mctrl_good {p : List Instr} {s a1 a2 a3} (hs : State.Good p s) : State.Good p (State.mctrl s a1 a2 a3) := by
  unfold State.mctrl
  extract_lets -merge -useContext x1_0 x1_1
  have hx1_1 : State.Good p x1_1 := (State.iff_good hs (fun _ h3 => (State.modFlail_good h3)))
  try clear_value x1_1
  exact (good_ite (State.viol_good hs) (good_ite hs (good_ite (State.modFlail_good hs) (good_ite (State.modFlail_good
    hx1_1) (State.mctrlRun_good hx1_1)))))

theorem State.lineFree_good {p : List Instr} {s} (hs : State.Good p s) : State.Good p (State.lineFree s) := by
  unfold State.lineFree
  extract_lets -merge -useContext x1_0
  have hx1_0 : State.Good p x1_0 := (State.setFrame_good (State.iff_good hs (fun _ h3 => (State.mark_good h3))))
  try clear_value x1_0
  exact (good_foldl (fun _ _ h4 => (good_ite (State.mctrlRun_good (State.modFlail_good h4)) h4)) hx1_0)

theorem State.collide_good {p : List Instr} {s a1} (hs : State.Good p s) : State.Good p (State.collide s a1) := by
  unfold State.collide
  extract_lets -merge -useContext x1_0
  have hx1_0 : State.Good p x1_0 := (State.viol_good hs)
  try clear_value x1_0
  exact (good_ite (good_ite (State.mark_good (State.modFlail_good hx1_0)) (State.lineFree_good (State.roundAbort_good
    hx1_0))) hx1_0)

theorem State.lineTick_good {p : List Instr} {s} (hs : State.Good p s) : State.Good p (State.lineTick s) := by
  unfold State.lineTick
  extract_lets -merge -useContext x1_0
  have hx1_0 : State.Good p x1_0 := (good_ite (State.modFlail_good hs) hs)
  try clear_value x1_0
  exact (good_ite (State.lineFree_good hx1_0) hx1_0)

theorem execStrobe_good {p : List Instr} {a0 a1 s2} (hs2 : State.Good p s2) : OutGood p (execStrobe a0 a1 s2) := by
  unfold execStrobe
  exact good_next (by extract_lets -merge -useContext x1_0; have hx1_0 : State.Good p x1_0 := (State.unmark_good (State.markAgo_good (good_ite (State.setFrame_good hs2) (State.dethrone_good hs2)))); try (clear_value x1_0); exact (State.settle_good (good_ite (State.flailSet_good (State.flCount_good hx1_0)) (State.lineLow_good hs2))))

theorem execStepDone_good {p : List Instr} {a0 s1} (hs1 : State.Good p s1) : OutGood p (execStepDone a0 s1) := by
  unfold execStepDone
  exact good_next (State.settle_good (good_ite (State.lineFree_good (State.mark_good (State.autoEnd_good (State.irq_good
    (State.wr_good hs1))))) hs1))

theorem execTargetStrobe_good {p : List Instr} {s} (hs : State.Good p s) : OutGood p (execTargetStrobe s) := by
  unfold execTargetStrobe
  exact good_next (State.settle_good (good_ite (State.putOff_good hs) (good_ite (State.setFrame_good hs) hs)))

theorem execAnnouncePeriodExpiry_good {p : List Instr} {s} (hs : State.Good p s)
    : OutGood p (execAnnouncePeriodExpiry s) := by
  unfold execAnnouncePeriodExpiry
  exact good_next (State.settle_good (good_ite (State.mctrlRun_good hs) hs))

theorem execAnnounce_good {p : List Instr} {a0 a1 a2 a3 a4 s5} (hs5 : State.Good p s5)
    : OutGood p (execAnnounce a0 a1 a2 a3 a4 s5) := by
  unfold execAnnounce
  exact good_next (by extract_lets -merge -useContext x1_0 x1_1 x1_2; have hx1_0 : State.Good p x1_0 := (State.dethrone_good (State.unmark_good hs5)); try (clear_value x1_0); have hx1_1 : State.Good p x1_1 := (State.mark_good (State.mark_good (State.modFlail_good hx1_0))); try (clear_value x1_1); have hx1_2 : State.Good p x1_2 := (good_ite (State.post_good (State.flCount_good hx1_1)) hx1_1); try (clear_value x1_2); exact (State.settle_good (good_ite hs5 (good_ite (good_ite hs5 (good_ite (State.collide_good hs5) (good_ite (State.lineFree_good (State.mark_good (State.autoEnd_good (State.flailSet_good hs5)))) hs5))) (good_ite (State.collide_good hx1_0) (good_ite (State.viol_good hx1_0) (State.flailSet_good hx1_2)))))))

theorem execElect_good {p : List Instr} {a0 a1 a2 s3} (hs3 : State.Good p s3) : OutGood p (execElect a0 a1 a2 s3) := by
  unfold execElect
  exact good_next (by extract_lets -merge -useContext x1_0; exact (State.settle_good (good_ite hs3 (good_ite (State.collide_good (State.iff_good hs3 (fun _ h6 => (State.setRole_good h6)))) (by split; (exact hs3); (exact (by extract_lets -merge -useContext x7_0 x7_1; have hx7_0 : State.Good p x7_0 := (State.wr_good hs3); try (clear_value x7_0); have hx7_1 : State.Good p x7_1 := (State.setRole_good hx7_0); try (clear_value x7_1); exact (good_ite hx7_0 (good_ite (State.mctrlRun_good (State.modFlail_good (State.setRole_good hx7_0))) (good_ite (State.viol_good hx7_1) hx7_1))))))))))

theorem execMasterLost_good {p : List Instr} {a0 s1} (hs1 : State.Good p s1) : OutGood p (execMasterLost a0 s1) := by
  unfold execMasterLost
  exact good_next (by extract_lets -merge -useContext x1_0; have hx1_0 : State.Good p x1_0 := (State.err_good (State.modFlail_good hs1)); try (clear_value x1_0); exact (State.settle_good (good_ite (good_ite (State.setRole_good hx1_0) hx1_0) hs1)))

theorem execHoldExp_good {p : List Instr} {s} (hs : State.Good p s) : OutGood p (execHoldExp s) := by
  unfold execHoldExp
  exact good_next (State.settle_good (good_ite (State.viol_good (State.unhold_good hs)) hs))

theorem execFrameType_good {p : List Instr} {a0 s1} (hs1 : State.Good p s1) : OutGood p (execFrameType a0 s1) := by
  unfold execFrameType
  exact good_next (State.settle_good (good_ite (State.viol_good (State.mark_good (State.dethrone_good hs1))) hs1))

theorem execIllegalWidth_good {p : List Instr} {a0 s1} (hs1 : State.Good p s1) : OutGood p (execIllegalWidth a0 s1) := by
  unfold execIllegalWidth
  exact good_next (State.settle_good (State.lineLow_good (good_ite (State.viol_good hs1) hs1)))

theorem execFlailStuck_good {p : List Instr} {k us hold s} (hs : State.Good p s) : OutGood p (execFlailStuck k us hold s) :=
  good_next (State.settle_good (good_ite (State.viol_good (State.modFlail_good hs)) hs))

theorem execFlailPortHigh_good {p : List Instr} {a0 a1 s2} (hs2 : State.Good p s2)
    : OutGood p (execFlailPortHigh a0 a1 s2) := by
  unfold execFlailPortHigh
  exact good_next (State.settle_good (good_ite (State.modFlail_good hs2) hs2))

theorem State.alarmAborts_good {p : List Instr} {s} (hs : State.Good p s) : State.Good p (State.alarmAborts s) := by
  unfold State.alarmAborts
  extract_lets -merge -useContext x1_0 x1_1
  have hx1_1 : State.Good p x1_1 := (State.mark_good (State.iff_good hs (fun _ h3 => (State.digestLost_good h3))))
  try clear_value x1_1
  exact (good_ite (good_ite (State.modFlail_good (State.setFrame_good hx1_1)) (State.lineFree_good (State.roundAbort_good
    hx1_1))) (good_ite (State.lineFree_good hx1_1) hx1_1))

theorem execAlarm_good {p : List Instr} {a0 a1 s2} (hs2 : State.Good p s2) : OutGood p (execAlarm a0 a1 s2) := by
  unfold execAlarm
  exact good_next (by extract_lets -merge -useContext x1_0 x1_1 x1_2 x1_3; have hx1_1 : State.Good p x1_1 := (by unfold x1_1; split; (exact (State.iff_good (State.unmark_good hs2) (fun _ h3 => (State.frameLost_good h3)))); (exact (State.unmark_good hs2))); try (clear_value x1_1); have hx1_2 : State.Good p x1_2 := (State.irq_good (State.flCount_good hx1_1)); try (clear_value x1_2); have hx1_3 : State.Good p x1_3 := (State.alarmAborts_good (State.post_good hx1_2)); try (clear_value x1_3); exact (State.settle_good (good_ite (good_ite (State.ask_good hx1_3) hx1_3) (State.lineLow_good hs2))))

theorem execAlarmRepeat_good {p : List Instr} {a0 a1 s2} (hs2 : State.Good p s2)
    : OutGood p (execAlarmRepeat a0 a1 s2) := by
  unfold execAlarmRepeat
  exact good_next (State.settle_good (good_ite (State.iff_good (State.modFlail_good hs2) (fun _ h2 =>
    (State.alarmAborts_good h2))) hs2))

theorem execDigestRestart_good {p : List Instr} {s} (hs : State.Good p s) : OutGood p (execDigestRestart s) := by
  unfold execDigestRestart
  exact good_next (State.settle_good (good_ite (State.putOff_good hs) (good_ite (State.modFlail_good (State.setFrame_good
    hs)) hs)))

theorem State.roundDone_good {p : List Instr} {s} (hs : State.Good p s) : State.Good p (State.roundDone s) := by
  unfold State.roundDone
  extract_lets -merge -useContext x1_0
  exact (State.modFlail_good (State.endWith_good hs))

theorem State.roundNext_good {p : List Instr} {s a1} (hs : State.Good p s) : State.Good p (State.roundNext s a1) := by
  unfold State.roundNext
  extract_lets -merge -useContext x1_0 x1_1
  have hx1_0 : State.Good p x1_0 := (State.modFlail_good hs)
  try clear_value x1_0
  have hx1_1 : State.Good p x1_1 := (State.setFrame_good (State.iff_good hx1_0 (fun _ h3 => (State.mark_good h3))))
  try clear_value x1_1
  exact (good_ite (by split; (exact (good_ite (State.lineFree_good (State.yield_good hx1_1)) (State.setFrame_good hx1_1))); (exact (State.setFrame_good hx1_1))) (State.lineFree_good (State.roundDone_good hx1_0)))

theorem State.roundFrame_good {p : List Instr} {s a1} (hs : State.Good p s) : State.Good p (State.roundFrame s a1) := by
  unfold State.roundFrame
  exact (good_ite (State.modFlail_good (State.lineFree_good hs)) (State.roundNext_good hs))

theorem execDigest_good {p : List Instr} {a0 a1 a2 a3 a4 s5} (hs5 : State.Good p s5)
    : OutGood p (execDigest a0 a1 a2 a3 a4 s5) := by
  unfold execDigest
  exact good_next (by extract_lets -merge -useContext x1_0 x1_1 x1_2 x1_3 x1_4 x1_5 x1_6 x1_7 x1_8; have hx1_1 : State.Good p x1_1 := (good_ite hs5 (State.dethrone_good (State.unmark_good hs5))); try (clear_value x1_1); have hx1_6 : State.Good p x1_6 := (State.wr_good (State.wr_good (State.wr_good (State.wr_good hx1_1)))); try (clear_value x1_6); have hx1_7 : State.Good p x1_7 := (State.irq_good (State.flCount_good hx1_6)); try (clear_value x1_7); have hx1_8 : State.Good p x1_8 := (good_ite (State.err_good (State.flCount_good hx1_7)) (good_ite (State.viol_good hx1_7) hx1_7)); try (clear_value x1_8); exact (State.settle_good (good_ite hs5 (good_ite (State.digestLost_good (State.collide_good (good_ite hs5 (State.dethrone_good (State.unmark_good hs5))))) (good_ite (State.roundFrame_good hx1_8) hx1_8)))))

theorem State.putDiss_good {p : List Instr} {s i l} (hs : State.Good p s) : State.Good p (State.putDiss s i l) := by
  induction l generalizing s i with
  | nil => exact hs
  | cons d t ih => exact ih (State.setW_good hs)

theorem execIdent_good {p : List Instr} {a0 a1 a2 a3 a4 a5 s6} (hs6 : State.Good p s6)
    : OutGood p (execIdent a0 a1 a2 a3 a4 a5 s6) := by
  unfold execIdent
  exact good_next (by extract_lets -merge -useContext x1_0 x1_1 x1_2 x1_3 x1_4 x1_5 x1_6 x1_7 x1_8 x1_9 x1_10; have hx1_4 : State.Good p x1_4 := (good_ite hs6 (State.dethrone_good (State.unmark_good hs6))); try (clear_value x1_4); have hx1_5 : State.Good p x1_5 := (State.wrB_good hx1_4); try (clear_value x1_5); have hx1_6 : State.Good p x1_6 := (State.wrB_good (State.wr_good hx1_5)); try (clear_value x1_6); have hx1_7 : State.Good p x1_7 := (State.each_good hx1_6 (fun _ _ h3 => (State.setW_good h3))); try (clear_value x1_7); have hx1_8 : State.Good p x1_8 := (State.irq_good (State.putDiss_good hx1_7)); try (clear_value x1_8); have hx1_9 : State.Good p x1_9 := (good_foldl (fun _ _ h4 => (State.settle_good (State.post_good h4))) hx1_8); try (clear_value x1_9); have hx1_10 : State.Good p x1_10 := (good_core hx1_9 rfl rfl rfl); try (clear_value x1_10); exact (good_ite (State.settle_good hs6) (good_ite (State.settle_good (State.collide_good (good_ite hs6 (State.dethrone_good (State.unmark_good hs6))))) (State.settle_good (good_ite (State.roundFrame_good hx1_10) hx1_9)))))

theorem execFrameAbandon_good {p : List Instr} {a0 a1 s2} (hs2 : State.Good p s2)
    : OutGood p (execFrameAbandon a0 a1 s2) := by
  unfold execFrameAbandon
  exact good_next (State.settle_good (good_ite (State.frameLost_good hs2) hs2))

theorem State.dgPause_good {p : List Instr} {s a1} (hs : State.Good p s) : State.Good p (State.dgPause s a1).1 := by
  unfold State.dgPause
  exact (State.modFlail_good hs)

theorem State.dgGo_good {p : List Instr} {s a1} (hs : State.Good p s) : State.Good p (State.dgGo s a1) := by
  unfold State.dgGo
  extract_lets -merge -useContext x1_0 x1_1
  have hx1_1 : State.Good p x1_1 := (State.modFlail_good (State.runK_good hs))
  try clear_value x1_1
  exact (good_ite (State.setFrame_good hx1_1) (State.modFlail_good hx1_1))

theorem execDigestRound_good {p : List Instr} {a0 s1} (hs1 : State.Good p s1) : OutGood p (execDigestRound a0 s1) := by
  unfold execDigestRound
  exact good_next (State.settle_good (State.start_good hs1 (fun _ _ h2 => (good_ite (good_ite (State.dgGo_good h2)
    (State.failK_good h2)) (good_ite (State.failK_good h2) (good_ite (State.failK_good h2) (good_ite (State.failK_good h2)
    (good_ite (State.failK_good h2) (State.dgGo_good h2)))))))))

theorem State.taken_good {p : List Instr} {s a1 a2 a3} (hs : State.Good p s) : State.Good p (State.taken s a1 a2 a3) := by
  unfold State.taken
  exact (State.modSeq_good hs)

theorem State.stepAct_good {p : List Instr} {s a1} (hs : State.Good p s) : State.Good p (State.stepAct s a1) := by
  unfold State.stepAct
  extract_lets -merge -useContext x1_0 x1_1 x1_2 x1_3 x1_4 x1_5 x1_6 x1_7 x1_8 x1_9
  have hx1_6 : State.Good p x1_6 := (State.mark_good (State.setPhase_good hs))
  try clear_value x1_6
  have hx1_7 : State.Good p x1_7 := (State.mark_good (State.enable_good hs))
  try clear_value x1_7
  have hx1_8 : State.Good p x1_8 := (good_ite (State.taken_good hx1_7) hx1_7)
  try clear_value x1_8
  exact (good_ite (good_ite (State.seqNext_good (State.mark_good (State.setPends_good hx1_8))) (State.mark_good
    (State.setPhase_good hx1_8))) (good_ite (State.mark_good (State.setPhase_good (State.mark_good (State.seqOff_good
    hs)))) (good_ite (State.seqNext_good hs) (good_ite hx1_6 (good_ite (State.seqNext_good (State.taken_good
    (State.drivePin_good hs))) (good_ite (good_ite (State.modSeq_good hx1_6) (State.seqNext_good (State.post_good hs)))
    (good_ite (good_ite (State.seqNext_good (State.ready_good hs)) (State.seqNext_good (State.post_good hs)))
    (State.setPhase_good hs))))))))

theorem State.unwindAct_good {p : List Instr} {s} (hs : State.Good p s) : State.Good p (State.unwindAct s) := by
  unfold State.unwindAct
  exact (good_ite (State.hostClear_good hs) (State.unwindNext_good hs))

theorem execSeqStepAction_good {p : List Instr} {a0 s1} (hs1 : State.Good p s1) : OutGood p (execSeqStepAction a0 s1) := by
  unfold execSeqStepAction
  exact good_next (State.settle_good (good_ite (State.putOff_good hs1) (good_ite (State.stepAct_good (State.mark_good hs1))
    (good_ite (State.unwindAct_good hs1) hs1))))

theorem State.sbyDone_good {p : List Instr} {s} (hs : State.Good p s) : State.Good p (State.sbyDone s) := by
  unfold State.sbyDone
  extract_lets -merge -useContext x1_0
  have hx1_0 : State.Good p x1_0 := (State.setSeqSt_good (State.irq_good (State.runEnds_good hs)))
  try clear_value x1_0
  exact (good_ite (State.enterRising_good hx1_0) hx1_0)

theorem State.endRun_good {p : List Instr} {s} (hs : State.Good p s) : State.Good p (State.endRun s) := by
  unfold State.endRun
  exact (good_ite (State.endDown_good hs) (good_ite (State.sbyDone_good hs) (State.ask_good hs)))

theorem State.unwound_good {p : List Instr} {s} (hs : State.Good p s) : State.Good p (State.unwound s) := by
  unfold State.unwound
  exact (State.unwindNext_good hs)

theorem execSeqStepComplete_good {p : List Instr} {a0 s1} (hs1 : State.Good p s1)
    : OutGood p (execSeqStepComplete a0 s1) := by
  unfold execSeqStepComplete
  exact good_next (State.settle_good (good_ite (State.putOff_good hs1) (by split; (exact (good_ite (State.setPends_good hs1) hs1)); (exact (good_ite (good_ite (good_ite (State.endRun_good hs1) hs1) (good_ite (State.seqNext_good hs1) hs1)) (good_ite (by split; (exact (good_ite (State.unwound_good hs1) hs1)); (exact hs1)) hs1))))))

theorem State.tmoNow_good {p : List Instr} {s a1} (hs : State.Good p s) : State.Good p (State.tmoNow s a1) := by
  unfold State.tmoNow
  extract_lets -merge -useContext x1_0 x1_1
  have hx1_1 : State.Good p x1_1 := (State.seqFail_good (State.setLast_good hs))
  try clear_value x1_1
  exact (good_ite (good_ite (State.runFail_good hs) (by split; (exact (State.setPends_good hx1_1)); (exact (State.seqNext_good hx1_1)))) hs)

theorem execSeqStepTimeout_good {p : List Instr} {a0 s1} (hs1 : State.Good p s1)
    : OutGood p (execSeqStepTimeout a0 s1) := by
  unfold execSeqStepTimeout
  exact good_next (State.settle_good (good_ite (State.ask_good hs1) hs1))

theorem State.slow_good {p : List Instr} {s a1} (hs : State.Good p s) : State.Good p (State.slow s a1) := by
  unfold State.slow
  exact (State.setLast_good (State.disForce_good hs))

theorem State.stuckOut_good {p : List Instr} {s a1} (hs : State.Good p s) : State.Good p (State.stuckOut s a1) := by
  unfold State.stuckOut
  extract_lets -merge -useContext x1_0
  exact (State.setLast_good (State.setW_good hs))

theorem execSlowOff_good {p : List Instr} {s} (hs : State.Good p s) : OutGood p (execSlowOff s) := by
  unfold execSlowOff
  exact good_next (State.settle_good (by split; (exact (good_ite (State.mark_good (State.setPhase_good (State.seqFail_good (State.slow_good hs)))) hs)); (exact hs)))

theorem execFloorTimeout_good {p : List Instr} {s} (hs : State.Good p s) : OutGood p (execFloorTimeout s) := by
  unfold execFloorTimeout
  exact good_next (State.settle_good (good_ite (State.mark_good (State.setPhase_good (State.seqFail_good (State.each_good
    hs (fun _ _ h2 => (State.slow_good h2)))))) hs))

theorem execStuck_good {p : List Instr} {s} (hs : State.Good p s) : OutGood p (execStuck s) := by
  unfold execStuck
  exact good_next (by extract_lets -merge -useContext x1_0; exact (State.settle_good (good_ite hs (good_ite (State.ask_good (State.iff_good (State.each_good hs (fun _ _ h6 => (State.stuckOut_good h6))) (fun _ h7 => (State.err_good h7)))) (by split; (exact (by extract_lets -merge -useContext x8_0; have hx8_0 : State.Good p x8_0 := (State.err_good (State.stuckOut_good hs)); try (clear_value x8_0); exact (good_ite hs (good_ite (State.unwound_good hx8_0) (State.seqNext_good hx8_0))))); (exact hs))))))

theorem execFloor_good {p : List Instr} {s} (hs : State.Good p s) : OutGood p (execFloor s) := by
  unfold execFloor
  exact good_next (State.settle_good (good_ite (State.ask_good hs) hs))

theorem execMinoffEnd_good {p : List Instr} {s} (hs : State.Good p s) : OutGood p (execMinoffEnd s) := by
  unfold execMinoffEnd
  exact good_next (State.settle_good (good_ite (State.ask_good hs) hs))

theorem execSeqUp_good {p : List Instr} {a0 s1} (hs1 : State.Good p s1) : OutGood p (execSeqUp a0 s1) := by
  unfold execSeqUp
  exact good_next (State.settle_good (State.start_good hs1 (fun _ _ h2 => (good_ite (State.failK_good h2) (good_ite
    (State.failK_good h2) (good_ite (State.doneK_good h2) (State.ask_good (State.runK_good h2))))))))

theorem execSeqDown_good {p : List Instr} {a0 s1} (hs1 : State.Good p s1) : OutGood p (execSeqDown a0 s1) := by
  unfold execSeqDown
  exact good_next (State.settle_good (State.start_good hs1 (fun _ _ h2 => (good_ite (State.failK_good h2) (good_ite
    (State.failK_good h2) (good_ite (State.ask_good (State.doneK_good h2)) (State.ask_good (State.runK_good h2))))))))

theorem execSeqState_good {p : List Instr} {a0 s1} (hs1 : State.Good p s1) : OutGood p (execSeqState a0 s1) := by
  unfold execSeqState
  exact good_next (State.settle_good (State.start_good hs1 (fun _ _ h2 => (good_ite (State.doneK_good h2) (State.failK_good
    h2)))))

theorem State.stepWrite_good {p : List Instr} {s a1 a2 a3} (hs : State.Good p s)
    : State.Good p (State.stepWrite s a1 a2 a3) := by
  unfold State.stepWrite
  extract_lets -merge -useContext x1_0
  exact (good_ite (State.err_good hs) (good_ite (State.setW_good hs) (good_ite (State.err_good hs) (State.lenShow_good
    (State.setW_good hs)))))

end Sys2Proof.Machine
end

