-- ==== Sys2Proof/Laws/Keep7.lean ====
section
/-! SUPPORT. The queue and the two canonical forms, kept by the operations and meanings of Telemetry, Thermal, Rtc. -/

namespace Sys2Proof.Machine

open Sys2Proof

theorem State.modAdc_good {p : List Instr} {s a1} (hs : State.Good p s) : State.Good p (State.modAdc s a1) := by
  unfold State.modAdc
  exact (good_core hs rfl rfl rfl)

theorem State.modCal_good {p : List Instr} {s a1} (hs : State.Good p s) : State.Good p (State.modCal s a1) := by
  unfold State.modCal
  exact (State.modAdc_good hs)

theorem State.modAcc_good {p : List Instr} {s a1 a2} (hs : State.Good p s) : State.Good p (State.modAcc s a1 a2) := by
  unfold State.modAcc
  exact (good_core hs rfl rfl rfl)

theorem State.setChCfg_good {p : List Instr} {s a1 a2} (hs : State.Good p s) : State.Good p (State.setChCfg s a1 a2) := by
  unfold State.setChCfg
  exact (State.setW_good hs)

theorem State.setChCal_good {p : List Instr} {s a1 a2} (hs : State.Good p s) : State.Good p (State.setChCal s a1 a2) := by
  unfold State.setChCal
  exact (State.setW_good hs)

theorem State.setConvAt_good {p : List Instr} {s a1 a2} (hs : State.Good p s) : State.Good p (State.setConvAt s a1 a2) := by
  unfold State.setConvAt
  exact (State.modAdc_good hs)

theorem State.setConv_good {p : List Instr} {s a1 a2} (hs : State.Good p s) : State.Good p (State.setConv s a1 a2) := by
  unfold State.setConv
  exact (State.wr_good (State.wrB_good (State.wrB_good (State.setConvAt_good hs))))

theorem State.adcTabWrite_good {p : List Instr} {s a1 a2} (hs : State.Good p s)
    : State.Good p (State.adcTabWrite s a1 a2) := by
  unfold State.adcTabWrite
  extract_lets -merge -useContext x1_0 x1_1 x1_2 x1_3 x1_4 x1_5
  have hx1_4 : State.Good p x1_4 := (good_ite (State.setW_good hs) hs)
  try clear_value x1_4
  have hx1_5 : State.Good p x1_5 := (good_ite (State.setW_good hx1_4) hx1_4)
  try clear_value x1_5
  exact (good_ite (State.err_good hs) (good_ite hx1_5 (State.err_good hx1_5)))

theorem State.setUrg_good {p : List Instr} {s a1 a2} (hs : State.Good p s) : State.Good p (State.setUrg s a1 a2) := by
  unfold State.setUrg
  exact (State.modAdc_good hs)

theorem State.urgRefuse_good {p : List Instr} {s a1} (hs : State.Good p s) : State.Good p (State.urgRefuse s a1) := by
  unfold State.urgRefuse
  exact (good_ite (State.err_good (State.wr_good (State.setUrg_good hs))) hs)

theorem State.refOn_good {p : List Instr} {s} (hs : State.Good p s) : State.Good p (State.refOn s) := by
  unfold State.refOn
  exact (good_ite hs (State.mark_good (State.wr_good (State.wr_good hs))))

theorem State.refOff_good {p : List Instr} {s} (hs : State.Good p s) : State.Good p (State.refOff s) := by
  unfold State.refOff
  extract_lets -merge -useContext x1_0
  have hx1_0 : State.Good p x1_0 := (State.unmark_good (State.wr_good (State.wr_good (State.wr_good hs))))
  try clear_value x1_0
  exact (State.urgRefuse_good (State.urgRefuse_good (State.setConv_good (State.setConv_good hx1_0))))

theorem State.setConvEn_good {p : List Instr} {s a1 a2} (hs : State.Good p s) : State.Good p (State.setConvEn s a1 a2) := by
  unfold State.setConvEn
  exact (good_ite (State.setConv_good hs) (good_ite (good_ite hs (State.setConv_good hs)) (State.err_good hs)))

theorem execRefReady_good {p : List Instr} {s} (hs : State.Good p s) : OutGood p (execRefReady s) := by
  unfold execRefReady
  exact good_next (by extract_lets -merge -useContext x1_0; have hx1_0 : State.Good p x1_0 := (State.wr_good (State.wr_good hs)); try (clear_value x1_0); exact (State.settle_good (good_ite (good_ite (State.modAdc_good (State.setConvEn_good (State.setConvEn_good hx1_0))) hx1_0) hs)))

theorem State.setResult_good {p : List Instr} {s a1 a2 a3} (hs : State.Good p s)
    : State.Good p (State.setResult s a1 a2 a3) := by
  unfold State.setResult
  extract_lets -merge -useContext x1_0
  exact (State.setW_good (State.setW_good hs))

theorem State.setSat_good {p : List Instr} {s a1 a2} (hs : State.Good p s) : State.Good p (State.setSat s a1 a2) := by
  unfold State.setSat
  extract_lets -merge -useContext x1_0 x1_1
  have hx1_1 : State.Good p x1_1 := (State.setW_good hs)
  try clear_value x1_1
  exact (State.wrB_good hx1_1)

theorem State.selfCheck_good {p : List Instr} {s a1 a2 a3} (hs : State.Good p s)
    : State.Good p (State.selfCheck s a1 a2 a3) := by
  unfold State.selfCheck
  extract_lets -merge -useContext x1_0 x1_1 x1_2 x1_3
  have hx1_3 : State.Good p x1_3 := (State.modAdc_good hs)
  try clear_value x1_3
  exact (good_ite (good_ite (State.err_good hx1_3) hx1_3) hs)

theorem State.accSync_good {p : List Instr} {s a1} (hs : State.Good p s) : State.Good p (State.accSync s a1) := by
  unfold State.accSync
  extract_lets -merge -useContext x1_0 x1_1
  exact (good_ite hs (State.selfCheck_good (State.modAcc_good (State.setResult_good hs))))

theorem State.accumulate_good {p : List Instr} {s a1 a2} (hs : State.Good p s)
    : State.Good p (State.accumulate s a1 a2) := by
  unfold State.accumulate
  extract_lets -merge -useContext x1_0 x1_1 x1_2 x1_3 x1_4 x1_5 x1_6
  have hx1_0 : State.Good p x1_0 := (State.accSync_good hs)
  try clear_value x1_0
  have hx1_5 : State.Good p x1_5 := (State.modAcc_good hx1_0)
  try clear_value x1_5
  have hx1_6 : State.Good p x1_6 := (good_ite (State.setResult_good hx1_5) hx1_5)
  try clear_value x1_6
  exact (good_ite (State.err_good (State.setSat_good hx1_6)) hx1_6)

theorem State.sampleCode_good {p : List Instr} {s a1 a2} (hs : State.Good p s)
    : State.Good p (State.sampleCode s a1 a2).2 := by
  unfold State.sampleCode
  extract_lets -merge -useContext x1_0 x1_1
  have hx1_1 : State.Good p x1_1 := (State.setChan_good hs)
  try clear_value x1_1
  exact (good_ite (State.err_good hx1_1) hx1_1)

theorem State.calSample_good {p : List Instr} {s a1 a2} (hs : State.Good p s) : State.Good p (State.calSample s a1 a2) := by
  unfold State.calSample
  exact (good_ite (State.modCal_good hs) hs)

theorem State.nextEntry_good {p : List Instr} {s a1 a2} (hs : State.Good p s) : State.Good p (State.nextEntry s a1 a2) := by
  unfold State.nextEntry
  extract_lets -merge -useContext x1_0 x1_1
  exact (State.wr_good (State.setConvAt_good hs))

theorem execConversion_good {p : List Instr} {a0 a1 s2} (hs2 : State.Good p s2) : OutGood p (execConversion a0 a1 s2) := by
  unfold execConversion
  exact good_next (by extract_lets -merge -useContext x1_0 x1_1 x1_2 x1_3; have hx1_2 : State.Good p x1_2.2 := (State.sampleCode_good (State.calSample_good hs2)); try (clear_value x1_2); have hx1_3 : State.Good p x1_3 := (State.accumulate_good hx1_2); try (clear_value x1_3); exact (State.settle_good (good_ite (good_ite (State.nextEntry_good hx1_3) (State.count_good (State.nextEntry_good hx1_3))) hs2)))

theorem execAccWindowBoundary_good {p : List Instr} {a0 s1} (hs1 : State.Good p s1)
    : OutGood p (execAccWindowBoundary a0 s1) := by
  unfold execAccWindowBoundary
  exact good_next (State.settle_good (good_ite (State.accSync_good hs1) hs1))

theorem State.aclr1_good {p : List Instr} {s a1} (hs : State.Good p s) : State.Good p (State.aclr1 s a1) := by
  unfold State.aclr1
  extract_lets -merge -useContext x1_0 x1_1 x1_2 x1_3 x1_4
  have hx1_0 : State.Good p x1_0 := (State.accSync_good hs)
  try clear_value x1_0
  have hx1_4 : State.Good p x1_4 := (State.modAcc_good hx1_0)
  try clear_value x1_4
  exact (good_ite (State.setResult_good hx1_4) hx1_4)

theorem State.tclr1_good {p : List Instr} {s a1} (hs : State.Good p s) : State.Good p (State.tclr1 s a1) := by
  unfold State.tclr1
  exact (State.modAcc_good hs)

theorem State.satClear_good {p : List Instr} {s a1 a2 a3} (hs : State.Good p s)
    : State.Good p (State.satClear s a1 a2 a3) := by
  unfold State.satClear
  exact (State.each_good hs (fun _ _ h3 => (by extract_lets -merge -useContext x3_0; exact (good_ite (State.aclr1_good (State.setSat_good h3)) h3))))

theorem State.adcUrg_good {p : List Instr} {s a1 a2} (hs : State.Good p s) : State.Good p (State.adcUrg s a1 a2) := by
  unfold State.adcUrg
  extract_lets -merge -useContext x1_0 x1_1 x1_2
  exact (good_ite (State.err_good hs) (good_ite (State.err_good (State.wr_good hs)) (good_ite (State.wr_good hs)
    (State.wr_good (State.setUrg_good hs)))))

theorem State.entryAgain_good {p : List Instr} {s a1 a2} (hs : State.Good p s)
    : State.Good p (State.entryAgain s a1 a2) := by
  unfold State.entryAgain
  extract_lets -merge -useContext x1_0
  exact (good_ite (State.setConvAt_good hs) hs)

theorem execUrgDone_good {p : List Instr} {a0 a1 s2} (hs2 : State.Good p s2) : OutGood p (execUrgDone a0 a1 s2) := by
  unfold execUrgDone
  exact good_next (State.settle_good (by split; (exact hs2); (exact (by extract_lets -merge -useContext x3_0 x3_1; have hx3_0 : State.Good p x3_0.2 := (State.sampleCode_good (State.entryAgain_good (State.setUrg_good hs2))); try (clear_value x3_0); have hx3_1 : State.Good p x3_1 := (State.wr_good (State.wr_good (State.wr_good hx3_0))); try (clear_value x3_1); exact (good_ite hs2 (State.irq_good (good_ite (State.accumulate_good hx3_1) hx3_1)))))))

theorem State.calDrop_good {p : List Instr} {s} (hs : State.Good p s) : State.Good p (State.calDrop s) := by
  unfold State.calDrop
  exact (State.wr_good (State.modCal_good hs))

theorem State.calFail_good {p : List Instr} {s a1 a2} (hs : State.Good p s) : State.Good p (State.calFail s a1 a2) := by
  unfold State.calFail
  exact (State.failK_good (good_ite (State.err_good (State.calDrop_good hs)) (State.calDrop_good hs)))

theorem State.calLoad_good {p : List Instr} {s a1} (hs : State.Good p s) : State.Good p (State.calLoad s a1) := by
  unfold State.calLoad
  exact (good_ite (State.setChCfg_good (State.setChCal_good hs)) hs)

theorem State.calLoads_good {p : List Instr} {s} (hs : State.Good p s) : State.Good p (State.calLoads s) := by
  unfold State.calLoads
  exact (State.each_good hs (fun _ _ h2 => (State.calLoad_good h2)))

theorem State.adcWake_good {p : List Instr} {s} (hs : State.Good p s) : State.Good p (State.adcWake s) := by
  unfold State.adcWake
  exact (good_ite hs (State.calLoads_good (State.each_good (State.refOn_good hs) (fun _ _ h2 => (State.setChCfg_good
    (State.setChCal_good h2))))))

theorem State.calStart_good {p : List Instr} {s a1 a2 f3} (hs : State.Good p s) (hf3 : ∀ y0 y1, State.Good p y1 →
    State.Good p (f3 y0 y1))
    : State.Good p (State.calStart s a1 a2 f3) := by
  unfold State.calStart
  exact (State.start_good hs (fun _ _ h2 => (good_ite (hf3 _ _ h2) h2)))

theorem execAdcCalZero_good {p : List Instr} {a0 s1} (hs1 : State.Good p s1) : OutGood p (execAdcCalZero a0 s1) := by
  unfold execAdcCalZero
  exact good_next (by extract_lets -merge -useContext x1_0; exact (State.settle_good (State.calStart_good hs1 (fun _ _ h3 => (by split; (exact (State.calFail_good h3)); (exact (State.modCal_good (State.wr_good (State.mark_good (State.runK_good h3))))))))))

theorem execAdcCalFull_good {p : List Instr} {a0 s1} (hs1 : State.Good p s1) : OutGood p (execAdcCalFull a0 s1) := by
  unfold execAdcCalFull
  exact good_next (State.settle_good (State.calStart_good hs1 (fun _ _ h2 => (by split; (exact (State.calFail_good h2)); (exact (State.modCal_good (State.mark_good (State.runK_good h2))))))))

theorem execAdcCalPointDone_good {p : List Instr} {s} (hs : State.Good p s) : OutGood p (execAdcCalPointDone s) := by
  unfold execAdcCalPointDone
  exact good_next (by extract_lets -merge -useContext x1_0; exact (State.settle_good (by split; (exact hs); (exact (good_ite hs (good_ite (State.doneK_good (State.wr_good (State.modCal_good hs))) (by split; (exact (State.calFail_good hs)); (exact (State.doneK_good (State.modCal_good hs))))))))))

theorem execAdcCalTimeout_good {p : List Instr} {s} (hs : State.Good p s) : OutGood p (execAdcCalTimeout s) := by
  unfold execAdcCalTimeout
  exact good_next (State.settle_good (by split; (exact hs); (exact (good_ite (State.calFail_good hs) hs))))

theorem execAdcCalCommit_good {p : List Instr} {a0 s1} (hs1 : State.Good p s1) : OutGood p (execAdcCalCommit a0 s1) := by
  unfold execAdcCalCommit
  exact good_next (State.settle_good (State.calStart_good hs1 (fun _ _ h4 => (by extract_lets -merge -useContext x4_0; exact (by split; (exact (State.calFail_good h4)); (exact (State.calFail_good h4)); (exact (by extract_lets -merge -useContext x6_0 x6_1; have hx6_1 : State.Good p x6_1 := (State.setChCfg_good (State.setChCal_good h4)); try (clear_value x6_1); exact (good_ite (State.failFree_good (State.calDrop_good h4)) (State.doneK_good (State.calDrop_good (State.nvmPut_good hx6_1)))))))))))

theorem execAdcCalDiscard_good {p : List Instr} {a0 s1} (hs1 : State.Good p s1) : OutGood p (execAdcCalDiscard a0 s1) := by
  unfold execAdcCalDiscard
  exact good_next (State.settle_good (State.calStart_good hs1 (fun _ _ h2 => (good_ite (State.calFail_good h2) (good_ite
    (State.calFail_good h2) (good_ite (State.calFail_good h2) (good_ite (State.calFail_good h2) (State.doneK_good
    (State.calDrop_good h2)))))))))

theorem State.modNode_good {p : List Instr} {s a1 a2} (hs : State.Good p s) : State.Good p (State.modNode s a1 a2) := by
  unfold State.modNode
  exact (good_core hs rfl rfl rfl)

theorem State.modThm_good {p : List Instr} {s a1} (hs : State.Good p s) : State.Good p (State.modThm s a1) := by
  unfold State.modThm
  exact (good_core hs rfl rfl rfl)

theorem State.readPowers_good {p : List Instr} {s} (hs : State.Good p s) : State.Good p (State.readPowers s) := by
  unfold State.readPowers
  extract_lets -merge -useContext x1_0 x1_1 x1_2
  have hx1_1 : State.Good p x1_1 := (State.each_good hs (fun _ _ h3 => (by split; (exact (State.modThm_good h3)); (exact h3))))
  try clear_value x1_1
  have hx1_2 : State.Good p x1_2 := (State.modThm_good hx1_1)
  try clear_value x1_2
  exact (good_ite (State.err_good hx1_2) hx1_2)

theorem State.keepT_good {p : List Instr} {s a1 a2} (hs : State.Good p s) : State.Good p (State.keepT s a1 a2) := by
  unfold State.keepT
  exact (State.wrI_good (State.modNode_good hs))

theorem State.thermNode_good {p : List Instr} {s a1} (hs : State.Good p s) : State.Good p (State.thermNode s a1) := by
  unfold State.thermNode
  extract_lets -merge -useContext x1_0 x1_1 x1_2 x1_3 x1_4 x1_5 x1_6 x1_7 x1_8 x1_9
  have hx1_7 : State.Good p x1_7 := (State.wr_good (State.modNode_good hs))
  try clear_value x1_7
  have hx1_8 : State.Good p x1_8 := (State.wr_good (State.keepT_good hx1_7))
  try clear_value x1_8
  exact (good_ite hs (by split; (exact (by extract_lets -merge -useContext x4_0; have hx4_0 : State.Good p x4_0 := (State.wr_good (State.modNode_good hx1_7)); try (clear_value x4_0); exact (State.keepT_good hx4_0))); (exact (good_ite hx1_8 (State.err_good (State.modNode_good hx1_8))))))

theorem State.nodeInit_good {p : List Instr} {s a1 a2} (hs : State.Good p s) : State.Good p (State.nodeInit s a1 a2) := by
  unfold State.nodeInit
  split
  (exact (State.modNode_good (State.keepT_good (State.modNode_good hs))))
  (exact (good_ite hs (State.modNode_good (State.keepT_good hs))))

theorem State.thermStart_good {p : List Instr} {s} (hs : State.Good p s) : State.Good p (State.thermStart s) := by
  unfold State.thermStart
  exact (State.wr_good (State.each_good hs (fun _ _ h2 => (State.nodeInit_good h2))))

theorem State.dieStep_good {p : List Instr} {s} (hs : State.Good p s) : State.Good p (State.dieStep s) := by
  unfold State.dieStep
  extract_lets -merge -useContext x1_0 x1_1 x1_2 x1_3
  have hx1_0 : State.Good p x1_0 := (State.modThm_good hs)
  try clear_value x1_0
  have hx1_3 : State.Good p x1_3 := (State.modThm_good (State.wrB_good (State.wrB_good (State.wr_good hx1_0))))
  try clear_value x1_3
  exact (good_ite hx1_0 (good_ite (State.err_good (State.mark_good hx1_3)) hx1_3))

theorem State.shedOut_good {p : List Instr} {s a1} (hs : State.Good p s) : State.Good p (State.shedOut s a1) := by
  unfold State.shedOut
  exact (good_ite (State.disable_good hs) hs)

theorem State.levelAct_good {p : List Instr} {s a1 a2} (hs : State.Good p s) : State.Good p (State.levelAct s a1 a2) := by
  unfold State.levelAct
  exact (good_ite hs (good_ite (State.errQ_good (State.shedOut_good (State.shedOut_good hs))) (good_ite (good_ite hs
    (State.ask_good hs)) hs)))

theorem State.rise_good {p : List Instr} {s a1 a2} (hs : State.Good p s) : State.Good p (State.rise s a1 a2) := by
  unfold State.rise
  extract_lets -merge -useContext x1_0 x1_1 x1_2 x1_3
  have hx1_2 : State.Good p x1_2 := (State.err_good (State.modNode_good (State.wr_good hs)))
  try clear_value x1_2
  have hx1_3 : State.Good p x1_3 := (good_ite (State.errQ_good hx1_2) hx1_2)
  try clear_value x1_3
  exact (good_ite hs (State.each_good hx1_3 (fun _ _ h3 => (State.levelAct_good h3))))

theorem State.judge_good {p : List Instr} {s a1} (hs : State.Good p s) : State.Good p (State.judge s a1) := by
  unfold State.judge
  extract_lets -merge -useContext x1_0 x1_1 x1_2 x1_3 x1_4
  have hx1_3 : State.Good p x1_3 := (State.modNode_good hs)
  try clear_value x1_3
  have hx1_4 : State.Good p x1_4 := (good_ite (State.err_good (State.wr_good hx1_3)) hx1_3)
  try clear_value x1_4
  exact (good_ite hs (State.settle_good (State.rise_good hx1_4)))

theorem State.ceilings_good {p : List Instr} {s} (hs : State.Good p s) : State.Good p (State.ceilings s) := by
  unfold State.ceilings
  extract_lets -merge -useContext x1_0
  have hx1_0 : State.Good p x1_0 := (State.each_good hs (fun _ _ h4 => (by extract_lets -merge -useContext x4_0; exact (State.wr_good h4))))
  try clear_value x1_0
  exact (State.wr_good hx1_0)

theorem State.throttle_good {p : List Instr} {s} (hs : State.Good p s) : State.Good p (State.throttle s) := by
  unfold State.throttle
  extract_lets -merge -useContext x1_0 x1_1 x1_2 x1_3 x1_4 x1_5
  have hx1_3 : State.Good p x1_3 := (State.wrB_good (State.wr_good (State.wr_good hs)))
  try clear_value x1_3
  have hx1_5 : State.Good p x1_5 := (good_ite (State.err_good hx1_3) hx1_3)
  try clear_value x1_5
  exact (good_ite (State.irq_good hx1_5) (good_ite (State.irq_good hx1_3) hx1_3))

theorem State.offsets_good {p : List Instr} {s a1} (hs : State.Good p s) : State.Good p (State.offsets s a1) := by
  unfold State.offsets
  extract_lets -merge -useContext x1_0 x1_1 x1_2 x1_3 x1_4
  exact (good_ite hs (State.each_good hs (fun _ _ h5 => (by extract_lets -merge -useContext x5_0; exact (State.wrI_good h5)))))

theorem State.reactions_good {p : List Instr} {s} (hs : State.Good p s) : State.Good p (State.reactions s) := by
  unfold State.reactions
  exact (State.each_good (State.throttle_good (State.ceilings_good hs)) (fun _ _ h2 => (State.offsets_good h2)))

theorem State.thermUpdate_good {p : List Instr} {s a1} (hs : State.Good p s) : State.Good p (State.thermUpdate s a1) := by
  unfold State.thermUpdate
  extract_lets -merge -useContext x1_0 x1_1
  have hx1_0 : State.Good p x1_0 := (good_ite (State.readPowers_good hs) hs)
  try clear_value x1_0
  have hx1_1 : State.Good p x1_1 := (State.each_good hx1_0 (fun _ _ h3 => (State.thermNode_good h3)))
  try clear_value x1_1
  exact (State.reactions_good (State.each_good (State.dieStep_good hx1_1) (fun _ _ h4 => (State.judge_good h4))))

theorem execThermalUpdate_good {p : List Instr} {s} (hs : State.Good p s) : OutGood p (execThermalUpdate s) := by
  unfold execThermalUpdate
  exact good_next (State.settle_good (good_ite hs (good_ite (State.modThm_good hs) (State.thermUpdate_good (State.each_good
    (State.modThm_good hs) (fun _ _ h2 => (State.accSync_good h2)))))))

theorem State.thermReplay_good {p : List Instr} {s} (hs : State.Good p s) : State.Good p (State.thermReplay s) := by
  unfold State.thermReplay
  extract_lets -merge -useContext x1_0 x1_1
  have hx1_1 : State.Good p x1_1 := (State.modThm_good (State.readPowers_good hs))
  try clear_value x1_1
  exact (good_ite (good_foldl (fun _ _ h3 => (State.thermUpdate_good h3)) hx1_1) (State.each_good hx1_1 (fun _ _ h4 =>
    (State.nodeInit_good h4))))

theorem execLevelFall_good {p : List Instr} {a0 s1} (hs1 : State.Good p s1) : OutGood p (execLevelFall a0 s1) := by
  unfold execLevelFall
  exact good_next (by extract_lets -merge -useContext x1_0; exact (State.settle_good (good_ite (State.putOff_good hs1) (good_ite (State.reactions_good (State.post_good (State.modNode_good (State.wr_good hs1)))) hs1))))

theorem execRateClear_good {p : List Instr} {a0 s1} (hs1 : State.Good p s1) : OutGood p (execRateClear a0 s1) := by
  unfold execRateClear
  exact good_next (State.settle_good (good_ite (State.putOff_good hs1) (good_ite (State.wr_good hs1) hs1)))

theorem execDieShed_good {p : List Instr} {s} (hs : State.Good p s) : OutGood p (execDieShed s) := by
  unfold execDieShed
  exact good_next (State.settle_good (good_ite (State.putOff_good hs) (good_ite (State.reactions_good (State.rise_good
    (State.modThm_good hs))) hs)))

theorem State.hostAnchor_good {p : List Instr} {s a1} (hs : State.Good p s) : State.Good p (State.hostAnchor s a1) := by
  unfold State.hostAnchor
  extract_lets -merge -useContext x1_0
  exact (good_ite (State.modNode_good hs) hs)

theorem State.modClk_good {p : List Instr} {s a1} (hs : State.Good p s) : State.Good p (State.modClk s a1) := by
  unfold State.modClk
  exact (good_core hs rfl rfl rfl)

theorem State.rtcErr_good {p : List Instr} {s a1 a2 a3} (hs : State.Good p s) : State.Good p (State.rtcErr s a1 a2 a3) := by
  unfold State.rtcErr
  exact (good_ite (State.err_good hs) (State.modClk_good (State.wr_good (State.wr_good hs))))

theorem State.setCal_good {p : List Instr} {s a1} (hs : State.Good p s) : State.Good p (State.setCal s a1) := by
  unfold State.setCal
  exact (State.wr_good (State.wr_good (State.wr_good (State.wr_good (State.wr_good (State.wr_good (State.wr_good hs)))))))

theorem State.almHit_good {p : List Instr} {s a1} (hs : State.Good p s) : State.Good p (State.almHit s a1) := by
  unfold State.almHit
  extract_lets -merge -useContext x1_0 x1_1
  have hx1_1 : State.Good p x1_1 := (State.rtcErr_good hs)
  try clear_value x1_1
  exact (good_ite hx1_1 (good_ite (State.wakeBy_good hx1_1) (good_ite (State.ask_good hx1_1) hx1_1)))

theorem State.secondTick_good {p : List Instr} {s a1} (hs : State.Good p s) : State.Good p (State.secondTick s a1) := by
  unfold State.secondTick
  exact (State.modClk_good (State.wr_good (State.setCal_good hs)))

theorem State.secondEnd_good {p : List Instr} {s} (hs : State.Good p s) : State.Good p (State.secondEnd s) := by
  unfold State.secondEnd
  extract_lets -merge -useContext x1_0
  have hx1_0 : State.Good p x1_0 := (State.modClk_good hs)
  try clear_value x1_0
  exact (by split; (exact hs); (exact (by extract_lets -merge -useContext x3_0 x3_1 x3_2; have hx3_0 : State.Good p x3_0 := (good_ite (State.rtcErr_good hx1_0) hx1_0); try (clear_value x3_0); exact (State.iff_good (State.iff_good hx3_0 (fun _ h5 => (State.almHit_good h5))) (fun _ h6 => (State.almHit_good h6))))))

theorem execSecondBoundary_good {p : List Instr} {s} (hs : State.Good p s) : OutGood p (execSecondBoundary s) := by
  unfold execSecondBoundary
  exact good_next (State.settle_good (good_ite (State.secondTick_good hs) hs))

theorem execTrimCorrection_good {p : List Instr} {s} (hs : State.Good p s) : OutGood p (execTrimCorrection s) := by
  unfold execTrimCorrection
  exact good_next (by extract_lets -merge -useContext x1_0 x1_1 x1_2; have hx1_0 : State.Good p x1_0 := (State.modClk_good hs); try (clear_value x1_0); exact (State.settle_good (good_ite (good_ite (State.modClk_good hx1_0) (good_ite (State.secondTick_good hx1_0) (State.wr_good hx1_0))) hs)))

theorem execOscStop_good {p : List Instr} {a0 s1} (hs1 : State.Good p s1) : OutGood p (execOscStop a0 s1) := by
  unfold execOscStop
  exact good_next (State.settle_good (good_ite (State.rtcErr_good (State.wr_good (State.wr_good hs1))) hs1))

theorem execOscResume_good {p : List Instr} {s} (hs : State.Good p s) : OutGood p (execOscResume s) := by
  unfold execOscResume
  exact good_next (State.settle_good (State.wr_good hs))

theorem State.osfClear_good {p : List Instr} {s} (hs : State.Good p s) : State.Good p (State.osfClear s) := by
  unfold State.osfClear
  exact (good_ite (State.wr_good (State.wr_good hs)) hs)

theorem execOsfClear_good {p : List Instr} {a0 s1} (hs1 : State.Good p s1) : OutGood p (execOsfClear a0 s1) := by
  unfold execOsfClear
  exact good_next (State.settle_good (State.ifWrites_good hs1 (fun _ h2 => (State.osfClear_good h2))))

theorem State.setFrz_good {p : List Instr} {s a1 a2} (hs : State.Good p s) : State.Good p (State.setFrz s a1 a2) := by
  unfold State.setFrz
  exact (State.modClk_good hs)

theorem State.unfreeze_good {p : List Instr} {s a1} (hs : State.Good p s) : State.Good p (State.unfreeze s a1) := by
  unfold State.unfreeze
  exact (State.setFrz_good hs)

theorem State.calRead_good {p : List Instr} {s a1 a2} (hs : State.Good p s) : State.Good p (State.calRead s a1 a2).2 := by
  unfold State.calRead
  extract_lets -merge -useContext x1_0
  exact (good_ite (State.unfreeze_good hs) (good_ite hs (State.mark_good (State.setFrz_good hs))))

theorem execCalendarRead_good {p : List Instr} {a0 a1 s2} (hs2 : State.Good p s2)
    : OutGood p (execCalendarRead a0 a1 s2) := by
  unfold execCalendarRead
  exact good_next (by extract_lets -merge -useContext x1_0; have hx1_0 : State.Good p x1_0.2 := (State.calRead_good hs2); try (clear_value x1_0); exact (State.settle_good (good_ite (State.answer_good hx1_0) hs2)))

theorem execFreezeTimeout_good {p : List Instr} {a0 s1} (hs1 : State.Good p s1) : OutGood p (execFreezeTimeout a0 s1) := by
  unfold execFreezeTimeout
  exact good_next (State.settle_good (good_ite (State.rtcErr_good (State.unfreeze_good hs1)) hs1))

theorem State.unpend_good {p : List Instr} {s} (hs : State.Good p s) : State.Good p (State.unpend s) := by
  unfold State.unpend
  exact (State.wr_good hs)

theorem State.rtcCtrl_good {p : List Instr} {s a1 a2} (hs : State.Good p s) : State.Good p (State.rtcCtrl s a1 a2) := by
  unfold State.rtcCtrl
  extract_lets -merge -useContext x1_0
  have hx1_0 : State.Good p x1_0 := (good_ite (State.unpend_good hs) hs)
  try clear_value x1_0
  exact (good_ite (State.unfreeze_good hx1_0) hx1_0)

theorem execFreezeRel_good {p : List Instr} {a0 s1} (hs1 : State.Good p s1) : OutGood p (execFreezeRel a0 s1) := by
  unfold execFreezeRel
  exact good_next (State.settle_good (State.ifWrites_good hs1 (fun _ h2 => (State.rtcCtrl_good h2))))

theorem execRtcDiscard_good {p : List Instr} {a0 s1} (hs1 : State.Good p s1) : OutGood p (execRtcDiscard a0 s1) := by
  unfold execRtcDiscard
  exact good_next (State.settle_good (State.ifWrites_good hs1 (fun _ h2 => (State.rtcCtrl_good h2))))

theorem State.rtcHold_good {p : List Instr} {s a1 a2 a3} (hs : State.Good p s)
    : State.Good p (State.rtcHold s a1 a2 a3) := by
  unfold State.rtcHold
  exact (State.modClk_good (State.wr_good (State.wr_good hs)))

theorem execRtcFieldWrite_good {p : List Instr} {a0 a1 a2 s3} (hs3 : State.Good p s3)
    : OutGood p (execRtcFieldWrite a0 a1 a2 s3) := by
  unfold execRtcFieldWrite
  exact good_next (State.settle_good (State.ifWrites_good hs3 (fun _ h2 => (State.rtcHold_good h2))))

theorem State.rtcCommit_good {p : List Instr} {s a1} (hs : State.Good p s) : State.Good p (State.rtcCommit s a1) := by
  unfold State.rtcCommit
  extract_lets -merge -useContext x1_0
  exact (good_ite (State.modClk_good (State.unpend_good (State.wr_good (State.setCal_good hs)))) (State.rtcErr_good
    (State.unpend_good hs)))

theorem execRtcCommit_good {p : List Instr} {a0 a1 s2} (hs2 : State.Good p s2) : OutGood p (execRtcCommit a0 a1 s2) := by
  unfold execRtcCommit
  exact good_next (State.settle_good (State.ifWrites_good hs2 (fun _ h2 => (State.rtcCommit_good h2))))

theorem State.toVbak_good {p : List Instr} {s} (hs : State.Good p s) : State.Good p (State.toVbak s) := by
  unfold State.toVbak
  extract_lets -merge -useContext x1_0 x1_1 x1_2 x1_3
  have hx1_0 : State.Good p x1_0 := (State.wr_good hs)
  try clear_value x1_0
  have hx1_1 : State.Good p x1_1 := (good_ite (State.rtcErr_good (State.wr_good (State.bump_good hx1_0))) (State.bump_good
    hx1_0))
  try clear_value x1_1
  have hx1_3 : State.Good p x1_3 := (State.wr_good (State.wr_good (State.wr_good (State.wr_good hx1_1))))
  try clear_value x1_3
  exact (good_ite hx1_1 (State.rtcErr_good (State.wr_good (State.wr_good (State.wr_good hx1_3)))))

theorem State.bpor_good {p : List Instr} {s} (hs : State.Good p s) : State.Good p (State.bpor s) := by
  unfold State.bpor
  extract_lets -merge -useContext x1_0 x1_1
  have hx1_0 : State.Good p x1_0 := (State.modClk_good (State.resetKeys_good hs))
  try clear_value x1_0
  have hx1_1 : State.Good p x1_1 := (State.rtcErr_good (State.rtcErr_good hx1_0))
  try clear_value x1_1
  exact (good_ite hx1_1 (State.wr_good hx1_1))

theorem execBpor_good {p : List Instr} {s} (hs : State.Good p s) : OutGood p (execBpor s) := by
  unfold execBpor
  exact good_next (State.settle_good (State.bpor_good hs))

theorem State.setTime_good {p : List Instr} {s a1} (hs : State.Good p s) : State.Good p (State.setTime s a1) := by
  unfold State.setTime
  extract_lets -merge -useContext x1_0
  exact (good_core hs rfl rfl rfl)

theorem State.timeTick_good {p : List Instr} {s} (hs : State.Good p s) : State.Good p (State.timeTick s) := by
  unfold State.timeTick
  extract_lets -merge -useContext x1_0 x1_1 x1_2 x1_3 x1_4 x1_5
  have hx1_3 : State.Good p x1_3 := (State.modClk_good hs)
  try clear_value x1_3
  have hx1_5 : State.Good p x1_5 := (State.setTime_good hx1_3)
  try clear_value x1_5
  exact (good_ite (State.err_good hx1_5) hx1_5)

theorem State.oscTick_good {p : List Instr} {s} (hs : State.Good p s) : State.Good p (State.oscTick s) := by
  unfold State.oscTick
  extract_lets -merge -useContext x1_0 x1_1
  have hx1_1 : State.Good p x1_1 := (State.modClk_good hs)
  try clear_value x1_1
  exact (good_ite (good_ite (State.modClk_good hs) (good_ite (State.wr_good hx1_1) hx1_1)) hs)

theorem State.timeLoad_good {p : List Instr} {s} (hs : State.Good p s) : State.Good p (State.timeLoad s) := by
  unfold State.timeLoad
  extract_lets -merge -useContext x1_0 x1_1 x1_2
  have hx1_2 : State.Good p x1_2 := (good_core hs rfl rfl rfl)
  try clear_value x1_2
  exact (State.wrB_good (State.modClk_good hx1_2))

theorem execTimeLoad_good {p : List Instr} {s} (hs : State.Good p s) : OutGood p (execTimeLoad s) := by
  unfold execTimeLoad
  exact good_next (State.settle_good (good_ite (State.timeLoad_good hs) hs))

theorem State.setLatch_good {p : List Instr} {s a1 a2} (hs : State.Good p s) : State.Good p (State.setLatch s a1 a2) := by
  unfold State.setLatch
  exact (State.modClk_good hs)

theorem State.nsRead_good {p : List Instr} {s a1} (hs : State.Good p s) : State.Good p (State.nsRead s a1).2 := by
  unfold State.nsRead
  exact (State.setLatch_good hs)

theorem execTimeNsRead_good {p : List Instr} {a0 s1} (hs1 : State.Good p s1) : OutGood p (execTimeNsRead a0 s1) := by
  unfold execTimeNsRead
  exact good_next (by extract_lets -merge -useContext x1_0; have hx1_0 : State.Good p x1_0.2 := (State.nsRead_good hs1); try (clear_value x1_0); exact (State.settle_good (good_ite (State.answer_good hx1_0) hs1)))

theorem State.timeCtrl_good {p : List Instr} {s a1} (hs : State.Good p s) : State.Good p (State.timeCtrl s a1) := by
  unfold State.timeCtrl
  exact (good_ite (good_ite (State.modClk_good (good_core hs rfl rfl rfl)) (State.err_good hs)) (good_ite (State.wr_good
    hs) (good_ite (State.wr_good hs) hs)))

theorem execSetNow_good {p : List Instr} {a0 s1} (hs1 : State.Good p s1) : OutGood p (execSetNow a0 s1) := by
  unfold execSetNow
  exact good_next (State.settle_good (State.ifWrites_good hs1 (fun _ h2 => (State.timeCtrl_good h2))))

theorem execSetAtPps_good {p : List Instr} {a0 s1} (hs1 : State.Good p s1) : OutGood p (execSetAtPps a0 s1) := by
  unfold execSetAtPps
  exact good_next (State.settle_good (State.ifWrites_good hs1 (fun _ h2 => (State.timeCtrl_good h2))))

theorem execCancel_good {p : List Instr} {a0 s1} (hs1 : State.Good p s1) : OutGood p (execCancel a0 s1) := by
  unfold execCancel
  exact good_next (State.settle_good (State.ifWrites_good hs1 (fun _ h2 => (State.timeCtrl_good h2))))

theorem State.timeStep_good {p : List Instr} {s a1 a2} (hs : State.Good p s) : State.Good p (State.timeStep s a1 a2) := by
  unfold State.timeStep
  exact (State.err_good (State.modClk_good (State.setTime_good hs)))

theorem State.timeSlew_good {p : List Instr} {s a1} (hs : State.Good p s) : State.Good p (State.timeSlew s a1) := by
  unfold State.timeSlew
  extract_lets -merge -useContext x1_0
  exact (State.modClk_good hs)

theorem State.ppsGood_good {p : List Instr} {s a1 a2} (hs : State.Good p s) : State.Good p (State.ppsGood s a1 a2) := by
  unfold State.ppsGood
  extract_lets -merge -useContext x1_0 x1_1 x1_2 x1_3 x1_4 x1_5 x1_6 x1_7 x1_8
  have hx1_5 : State.Good p x1_5 := (State.count_good (State.wrI_good (State.wr_good (State.wr_good (State.wr_good hs)))))
  try clear_value x1_5
  have hx1_6 : State.Good p x1_6 := (State.modClk_good hx1_5)
  try clear_value x1_6
  exact (good_ite (State.timeStep_good (State.wr_good hx1_6)) (good_ite hx1_6 (good_ite (State.timeStep_good hx1_6)
    (State.timeSlew_good hx1_6))))

theorem State.ppsBad_good {p : List Instr} {s} (hs : State.Good p s) : State.Good p (State.ppsBad s) := by
  unfold State.ppsBad
  exact (State.err_good (State.count_good hs))

theorem State.ppsTake_good {p : List Instr} {s a1} (hs : State.Good p s) : State.Good p (State.ppsTake s a1) := by
  unfold State.ppsTake
  exact good_ite (State.ppsGood_good hs) (good_ite (State.ppsBad_good hs) hs)

theorem State.ppsEnd_good {p : List Instr} {s} (hs : State.Good p s) : State.Good p (State.ppsEnd s) := by
  unfold State.ppsEnd
  exact good_foldl (fun _ _ h => State.ppsTake_good h) (State.modClk_good hs)

theorem execPpsEdge_good {p : List Instr} {a0 s1} (hs1 : State.Good p s1) : OutGood p (execPpsEdge a0 s1) := by
  unfold execPpsEdge
  exact good_next (State.settle_good (good_ite (State.modClk_good hs1) hs1))

theorem execPpsMissed_good {p : List Instr} {s} (hs : State.Good p s) : OutGood p (execPpsMissed s) := by
  unfold execPpsMissed
  exact good_next (by extract_lets -merge -useContext x1_0 x1_1; have hx1_1 : State.Good p x1_1 := (State.modClk_good (State.ppsBad_good hs)); try (clear_value x1_1); exact (State.settle_good (good_ite (good_ite (State.err_good (State.modClk_good (State.wr_good hx1_1))) hx1_1) hs)))

end Sys2Proof.Machine
end

