-- ==== Sys2Proof/Laws/Keep8.lean ====
section
/-! SUPPORT. The queue and the two canonical forms, kept by the operations and meanings of ModeRows, Writes, Twi, Contention, Interrupts, Collect. -/

namespace Sys2Proof.Machine

open Sys2Proof

theorem State.mainReset_good {p : List Instr} {s} (hs : State.Good p s) : State.Good p (State.mainReset s) :=
  ⟨hs.1, regsFrom_filter _ hs.2.1, hs.2.2⟩

theorem good_por {p : List Instr} {s : State} {a b c d e} (hs : State.Good p s) :
    State.Good p { s with wasLock := a, tap := b, tapIns := c, tapBit := d, tdo := e } := good_core hs rfl rfl rfl

theorem State.por_good {p : List Instr} {s feeds core} (hs : State.Good p s) : State.Good p (State.por s feeds core) := by
  have hm := State.mainReset_good hs
  unfold State.por
  extract_lets -merge -useContext lock seen cs en run s1 s2 hb s3 s4 feed
  have h1 : State.Good p s1 := State.wrB_good (State.wrB_good (State.wrB_good (State.wr_good hm)))
  have h2 : State.Good p s2 := State.wr_good (State.wr_good (good_por h1))
  have h3 : State.Good p s3 := State.modBus_good h2
  have h4 : State.Good p s4 := good_ite (State.pathStop_good h3)
    (good_ite (State.wr_good (State.setBus_good h3)) (State.pathStart_good h3))
  exact State.wakeBy_good h4

theorem execPor_good {p : List Instr} {a0 s1} (hs1 : State.Good p s1) : OutGood p (execPor a0 s1) := by
  unfold execPor
  exact good_next (State.settle_good (State.por_good hs1))

theorem execFallowEntry_good {p : List Instr} {a0 s1} (hs1 : State.Good p s1) : OutGood p (execFallowEntry a0 s1) := by
  unfold execFallowEntry
  exact good_next (by extract_lets -merge -useContext x1_0 x1_1 x1_2; have hx1_0 : State.Good p x1_0 := (good_ite (State.toVbak_good hs1) hs1); try (clear_value x1_0); have hx1_1 : State.Good p x1_1 := (State.mainReset_good hx1_0); try (clear_value x1_1); have hx1_2 : State.Good p x1_2 := (good_core hx1_1 rfl rfl rfl); try (clear_value x1_2); exact (State.settle_good (good_ite hs1 (State.wr_good (State.wr_good hx1_2)))))

theorem State.wakePin_good {p : List Instr} {s a1 a2} (hs : State.Good p s) : State.Good p (State.wakePin s a1 a2) := by
  unfold State.wakePin
  extract_lets -merge -useContext x1_0 x1_1 x1_2 x1_3 x1_4 x1_5
  have hx1_2 : State.Good p x1_2 := (good_core hs rfl rfl rfl)
  try clear_value x1_2
  have hx1_4 : State.Good p x1_4 := (good_ite hx1_2 (good_ite (State.unmark_good (good_core hx1_2 rfl rfl rfl)) (good_ite
    (State.mark_good hx1_2) hx1_2)))
  try clear_value x1_4
  exact (good_ite hx1_4 (good_ite (State.wakeBy_good hx1_4) (good_ite (State.ask_good hx1_4) hx1_4)))

theorem execWakePinChange_good {p : List Instr} {a0 a1 s2} (hs2 : State.Good p s2)
    : OutGood p (execWakePinChange a0 a1 s2) := by
  unfold execWakePinChange
  exact good_next (State.settle_good (State.wakePin_good hs2))

theorem execHoldonRelease_good {p : List Instr} {s} (hs : State.Good p s) : OutGood p (execHoldonRelease s) :=
  good_next (State.settle_good (good_ite (State.ask_good (good_core hs rfl rfl rfl)) hs))

theorem execFlailWakePulse_good {p : List Instr} {a0 a1 s2} (hs2 : State.Good p s2)
    : OutGood p (execFlailWakePulse a0 a1 s2) := by
  unfold execFlailWakePulse
  exact good_next (by extract_lets -merge -useContext x1_0; exact (State.settle_good (good_ite hs2 (good_ite (State.wakeBy_good (good_core hs2 rfl rfl rfl)) (good_ite (State.ask_good hs2) hs2)))))

theorem execSafeStateLineTest_good {p : List Instr} {a0 s1} (hs1 : State.Good p s1)
    : OutGood p (execSafeStateLineTest a0 s1) := by
  unfold execSafeStateLineTest
  exact good_next (State.settle_good (good_ite (by split; (exact (State.post_good hs1)); (exact hs1)) hs1))

theorem execWakingReadAccess_good {p : List Instr} {a0 s1} (hs1 : State.Good p s1)
    : OutGood p (execWakingReadAccess a0 s1) := by
  unfold execWakingReadAccess
  exact good_next (State.settle_good (good_ite (State.setRepl_good (good_core hs1 rfl rfl rfl)) hs1))

theorem State.reload_good {p : List Instr} {s} (hs : State.Good p s) : State.Good p (State.reload s) := by
  unfold State.reload
  exact (good_ite (State.fwRuns_good hs) (State.err_good (State.setW_good (State.setEng_good (State.setEngs_good hs)))))

theorem State.warmDone_good {p : List Instr} {s} (hs : State.Good p s) : State.Good p (State.warmDone s) := by
  unfold State.warmDone
  extract_lets -merge -useContext x1_0
  have hx1_0 : State.Good p x1_0 := (State.wr_good (State.reload_good hs))
  try clear_value x1_0
  exact (State.activated_good (State.owlWatch_good (State.restartTmos_good (State.iff_good hx1_0 (fun _ h3 =>
    (State.thermReplay_good h3))))))

theorem execWarmComplete_good {p : List Instr} {s} (hs : State.Good p s) : OutGood p (execWarmComplete s) := by
  unfold execWarmComplete
  exact good_next (State.settle_good (good_ite (State.warmDone_good hs) hs))

theorem execHoldupCountdownEnd_good {p : List Instr} {s} (hs : State.Good p s) : OutGood p (execHoldupCountdownEnd s) := by
  unfold execHoldupCountdownEnd
  exact good_next (State.settle_good (good_ite (State.ask_good hs) hs))

theorem execVbusFloor_good {p : List Instr} {a0 a1 s2} (hs2 : State.Good p s2) : OutGood p (execVbusFloor a0 a1 s2) := by
  unfold execVbusFloor
  exact good_next (State.settle_good (good_ite (State.ask_good hs2) hs2))

theorem execServiceTimeout_good {p : List Instr} {s} (hs : State.Good p s) : OutGood p (execServiceTimeout s) := by
  unfold execServiceTimeout
  exact good_next (State.settle_good (good_ite (State.ask_good hs) hs))

theorem State.restart_good {p : List Instr} {s} (hs : State.Good p s) : State.Good p (State.restart s) := by
  unfold State.restart
  extract_lets -merge -useContext x1_0
  have hx1_0 : State.Good p x1_0 := (State.wr_good hs)
  try clear_value x1_0
  exact (State.enterWaking_good (good_core hx1_0 rfl rfl rfl))

theorem State.reqAct_good {p : List Instr} {s a1} (hs : State.Good p s) : State.Good p (State.reqAct s a1) := by
  unfold State.reqAct
  exact (good_ite (State.ask_good hs) (good_ite (State.ask_good hs) (good_ite (State.ask_good (State.ask_good hs))
    (good_ite (State.ask_good hs) (good_ite (State.ask_good hs) (good_ite (State.ask_good hs) (good_ite (good_ite
    (State.ask_good hs) (State.warmStart_good hs)) hs)))))))

theorem State.modeReq_good {p : List Instr} {s a1 a2} (hs : State.Good p s) : State.Good p (State.modeReq s a1 a2) := by
  unfold State.modeReq
  extract_lets -merge -useContext x1_0
  exact (good_ite (State.reqAct_good hs) (State.err_good hs))

theorem State.modeReqAs_good {p : List Instr} {s a1 a2 a3} (hs : State.Good p s)
    : State.Good p (State.modeReqAs s a1 a2 a3) := by
  unfold State.modeReqAs
  extract_lets -merge -useContext x1_0
  exact (State.ifWrites_good hs (fun _ h3 => (State.modeReq_good h3)))

theorem execModeReqOff_good {p : List Instr} {a0 a1 s2} (hs2 : State.Good p s2) : OutGood p (execModeReqOff a0 a1 s2) := by
  unfold execModeReqOff
  exact good_next (State.settle_good (State.modeReqAs_good hs2))

theorem execModeReqStandby_good {p : List Instr} {a0 a1 s2} (hs2 : State.Good p s2)
    : OutGood p (execModeReqStandby a0 a1 s2) := by
  unfold execModeReqStandby
  exact good_next (State.settle_good (State.modeReqAs_good hs2))

theorem execModeReqRun_good {p : List Instr} {a0 a1 s2} (hs2 : State.Good p s2) : OutGood p (execModeReqRun a0 a1 s2) := by
  unfold execModeReqRun
  exact good_next (State.settle_good (State.modeReqAs_good hs2))

theorem execModeReqService_good {p : List Instr} {a0 a1 s2} (hs2 : State.Good p s2)
    : OutGood p (execModeReqService a0 a1 s2) := by
  unfold execModeReqService
  exact good_next (State.settle_good (State.modeReqAs_good hs2))

theorem execModeReqRevalidate_good {p : List Instr} {a0 a1 s2} (hs2 : State.Good p s2)
    : OutGood p (execModeReqRevalidate a0 a1 s2) := by
  unfold execModeReqRevalidate
  exact good_next (State.settle_good (State.modeReqAs_good hs2))

theorem execModeReqRestart_good {p : List Instr} {a0 a1 s2} (hs2 : State.Good p s2)
    : OutGood p (execModeReqRestart a0 a1 s2) := by
  unfold execModeReqRestart
  exact good_next (State.settle_good (State.modeReqAs_good hs2))

theorem execModeReqWarm_good {p : List Instr} {a0 a1 s2} (hs2 : State.Good p s2)
    : OutGood p (execModeReqWarm a0 a1 s2) := by
  unfold execModeReqWarm
  exact good_next (State.settle_good (State.modeReqAs_good hs2))

theorem State.replaceClear_good {p : List Instr} {s a1} (hs : State.Good p s) : State.Good p (State.replaceClear s a1) := by
  unfold State.replaceClear
  extract_lets -merge -useContext x1_0
  have hx1_0 : State.Good p x1_0 := (good_ite (State.setRepl_good (good_core hs rfl rfl rfl)) hs)
  try clear_value x1_0
  exact (good_ite (State.setRepl_good hx1_0) hx1_0)

theorem execReplaceSrcClear_good {p : List Instr} {a0 a1 s2} (hs2 : State.Good p s2)
    : OutGood p (execReplaceSrcClear a0 a1 s2) := by
  unfold execReplaceSrcClear
  exact good_next (State.settle_good (State.ifWrites_good hs2 (fun _ h2 => (State.replaceClear_good h2))))

theorem State.insupShow_good {p : List Instr} {s} (hs : State.Good p s) : State.Good p (State.insupShow s) := by
  unfold State.insupShow
  exact (State.wrB_good (State.wr_good hs))

theorem State.supplyBad_good {p : List Instr} {s a1 a2} (hs : State.Good p s) : State.Good p (State.supplyBad s a1 a2) := by
  unfold State.supplyBad
  extract_lets -merge -useContext x1_0 x1_1
  have hx1_0 : State.Good p x1_0 := (State.wr_good (State.insupShow_good (good_core hs rfl rfl rfl)))
  try clear_value x1_0
  have hx1_1 : State.Good p x1_1 := (State.err_good hx1_0)
  try clear_value x1_1
  exact (good_ite (State.por_good hs) (good_ite (State.refOff_good hx1_1) hx1_1))

theorem execInternalSupplyFault_good {p : List Instr} {a0 a1 a2 s3} (hs3 : State.Good p s3)
    : OutGood p (execInternalSupplyFault a0 a1 a2 s3) := by
  unfold execInternalSupplyFault
  exact good_next (State.settle_good (good_ite (State.supplyBad_good hs3) hs3))

theorem execInternalSupplyRecovery_good {p : List Instr} {a0 a1 s2} (hs2 : State.Good p s2)
    : OutGood p (execInternalSupplyRecovery a0 a1 s2) := by
  unfold execInternalSupplyRecovery
  exact good_next (State.settle_good (good_ite (State.insupShow_good (good_core hs2 rfl rfl rfl)) hs2))

theorem execDieTempTrip_good {p : List Instr} {s} (hs : State.Good p s) : OutGood p (execDieTempTrip s) := by
  unfold execDieTempTrip
  exact good_next (State.settle_good (good_ite (State.post_good (good_core hs rfl rfl rfl)) hs))

theorem execDieTempRearm_good {p : List Instr} {s} (hs : State.Good p s) : OutGood p (execDieTempRearm s) := by
  unfold execDieTempRearm
  exact good_next (State.settle_good (good_core hs rfl rfl rfl))

theorem execSeqStepWrite_good {p : List Instr} {a0 a1 a2 a3 s4} (hs4 : State.Good p s4)
    : OutGood p (execSeqStepWrite a0 a1 a2 a3 s4) := by
  unfold execSeqStepWrite
  exact good_next (State.settle_good (State.ifWrites_good hs4 (fun _ h2 => (State.stepWrite_good h2))))

theorem State.mctrlWrite_good {p : List Instr} {s a1 a2 a3} (hs : State.Good p s)
    : State.Good p (State.mctrlWrite s a1 a2 a3) := by
  unfold State.mctrlWrite
  exact (State.ifWrites_good hs (fun _ h2 => (State.mctrl_good h2)))

theorem execMctrlStep_good {p : List Instr} {a0 s1} (hs1 : State.Good p s1) : OutGood p (execMctrlStep a0 s1) := by
  unfold execMctrlStep
  exact good_next (State.settle_good (State.mctrlWrite_good hs1))

theorem execMctrlGoto_good {p : List Instr} {a0 a1 s2} (hs2 : State.Good p s2) : OutGood p (execMctrlGoto a0 a1 s2) := by
  unfold execMctrlGoto
  exact good_next (State.settle_good (State.mctrlWrite_good hs2))

theorem execMctrlTarget_good {p : List Instr} {a0 a1 s2} (hs2 : State.Good p s2)
    : OutGood p (execMctrlTarget a0 a1 s2) := by
  unfold execMctrlTarget
  exact good_next (State.settle_good (State.mctrlWrite_good hs2))

theorem execMctrlStop_good {p : List Instr} {a0 s1} (hs1 : State.Good p s1) : OutGood p (execMctrlStop a0 s1) := by
  unfold execMctrlStop
  exact good_next (State.settle_good (State.mctrlWrite_good hs1))

theorem execMctrlWake_good {p : List Instr} {a0 s1} (hs1 : State.Good p s1) : OutGood p (execMctrlWake a0 s1) := by
  unfold execMctrlWake
  exact good_next (State.settle_good (State.mctrlWrite_good hs1))

theorem execAlarmSend_good {p : List Instr} {a0 a1 s2} (hs2 : State.Good p s2) : OutGood p (execAlarmSend a0 a1 s2) := by
  unfold execAlarmSend
  exact good_next (by extract_lets -merge -useContext x1_0 x1_1; have hx1_0 : State.Good p x1_0 := (by unfold x1_0; split; (exact (State.ifField_good hs2 (fun _ h3 => (State.alarmAsk_good h3)))); (exact hs2)); try (clear_value x1_0); exact (State.settle_good (State.iff_good (State.alarmSend_good hx1_0) (fun _ h4 => (State.alarmAborts_good h4)))))

theorem execMargApply_good {p : List Instr} {a0 s1} (hs1 : State.Good p s1) : OutGood p (execMargApply a0 s1) := by
  unfold execMargApply
  exact good_next (State.settle_good (State.ifField_good hs1 (fun _ h2 => (State.margApply_good h2))))

theorem execMargDisarm_good {p : List Instr} {a0 s1} (hs1 : State.Good p s1) : OutGood p (execMargDisarm a0 s1) := by
  unfold execMargDisarm
  exact good_next (State.settle_good (State.ifField_good hs1 (fun _ h2 => (State.setArm_good h2))))

theorem execAdcUrg_good {p : List Instr} {a0 a1 s2} (hs2 : State.Good p s2) : OutGood p (execAdcUrg a0 a1 s2) := by
  unfold execAdcUrg
  exact good_next (State.settle_good (State.ifWrites_good hs2 (fun _ h2 => (State.adcUrg_good h2))))

theorem execRefEnSet_good {p : List Instr} {a0 s1} (hs1 : State.Good p s1) : OutGood p (execRefEnSet a0 s1) := by
  unfold execRefEnSet
  exact good_next (State.settle_good (State.ifField_good hs1 (fun _ h2 => (State.refOn_good h2))))

theorem execRefEnClear_good {p : List Instr} {a0 s1} (hs1 : State.Good p s1) : OutGood p (execRefEnClear a0 s1) := by
  unfold execRefEnClear
  exact good_next (State.settle_good (State.ifField_good hs1 (fun _ h2 => (State.refOff_good h2))))

theorem State.convWrite_good {p : List Instr} {s a1 a2} (hs : State.Good p s) : State.Good p (State.convWrite s a1 a2) := by
  unfold State.convWrite
  extract_lets -merge -useContext x1_0 x1_1 x1_2
  have hx1_1 : State.Good p x1_1 := (good_ite hs (good_ite (State.err_good hs) (State.wr_good hs)))
  try clear_value x1_1
  have hx1_2 : State.Good p x1_2 := (State.wr_good hx1_1)
  try clear_value x1_2
  exact (State.setConvEn_good hx1_2)

theorem execConvEnWrite_good {p : List Instr} {a0 a1 a2 s3} (hs3 : State.Good p s3)
    : OutGood p (execConvEnWrite a0 a1 a2 s3) := by
  unfold execConvEnWrite
  exact good_next (State.settle_good (State.ifWrites_good hs3 (fun _ h2 => (State.convWrite_good h2))))

theorem State.aclr_good {p : List Instr} {s a1 a2} (hs : State.Good p s) : State.Good p (State.aclr s a1 a2) := by
  unfold State.aclr
  exact (State.each_good hs (fun _ _ h2 => (State.aclr1_good h2)))

theorem execAclr_good {p : List Instr} {a0 a1 a2 s3} (hs3 : State.Good p s3) : OutGood p (execAclr a0 a1 a2 s3) := by
  unfold execAclr
  exact good_next (State.settle_good (State.ifWrites_good hs3 (fun _ h2 => (State.aclr_good h2))))

theorem State.tclr_good {p : List Instr} {s a1 a2} (hs : State.Good p s) : State.Good p (State.tclr s a1 a2) := by
  unfold State.tclr
  exact (State.each_good hs (fun _ _ h2 => (State.tclr1_good h2)))

theorem execTclr_good {p : List Instr} {a0 a1 a2 s3} (hs3 : State.Good p s3) : OutGood p (execTclr a0 a1 a2 s3) := by
  unfold execTclr
  exact good_next (State.settle_good (State.ifWrites_good hs3 (fun _ h2 => (State.tclr_good h2))))

theorem execHostaWrite_good {p : List Instr} {a0 a1 s2} (hs2 : State.Good p s2) : OutGood p (execHostaWrite a0 a1 s2) := by
  unfold execHostaWrite
  exact good_next (State.settle_good (State.ifWrites_good hs2 (fun _ h2 => (State.hostAnchor_good h2))))

theorem State.twLast_good {p : List Instr} {s a1 a2 a3 a4 a5} (hs : State.Good p s)
    : State.Good p (State.twLast s a1 a2 a3 a4 a5) := by
  unfold State.twLast
  extract_lets -merge -useContext x1_0 x1_1
  have hx1_0 : State.Good p x1_0.2 := (State.draw_good hs)
  try clear_value x1_0
  have hx1_1 : State.Good p x1_1.2 := (by unfold x1_1; split; (exact hs); (exact hx1_0))
  try clear_value x1_1
  exact (State.wr_good (State.wr_good (State.wr_good (State.wr_good hx1_1))))

theorem State.twClose_good {p : List Instr} {s a1 a2 a3 a4} (hs : State.Good p s)
    : State.Good p (State.twClose s a1 a2 a3 a4) := by
  unfold State.twClose
  exact (State.twRest_good (State.completeB_good (good_core hs rfl rfl rfl)))

theorem State.twEnd_good {p : List Instr} {s a1 a2 a3 a4} (hs : State.Good p s)
    : State.Good p (State.twEnd s a1 a2 a3 a4) := by
  unfold State.twEnd
  exact (good_ite (State.modTwi_good hs) (State.twClose_good hs))

theorem State.twFail_good {p : List Instr} {s a1 a2 a3} (hs : State.Good p s) : State.Good p (State.twFail s a1 a2 a3) := by
  unfold State.twFail
  exact (State.twEnd_good (State.twLast_good hs))

theorem State.twGood_good {p : List Instr} {s a1 a2} (hs : State.Good p s) : State.Good p (State.twGood s a1 a2) := by
  unfold State.twGood
  exact (State.twEnd_good (State.count_good hs))

theorem State.twTurn_good {p : List Instr} {s a1 a2 a3 a4} (hs : State.Good p s)
    : State.Good p (State.twTurn s a1 a2 a3 a4) := by
  unfold State.twTurn
  exact (State.modTwi_good hs)

theorem State.twMove_good {p : List Instr} {s a1 a2 a3 a4} (hs : State.Good p s)
    : State.Good p (State.twMove s a1 a2 a3 a4) := by
  unfold State.twMove
  extract_lets -merge -useContext x1_0 x1_1 x1_2
  exact (State.modTwi_good hs)

theorem State.twLost_good {p : List Instr} {s a1 a2 a3} (hs : State.Good p s) : State.Good p (State.twLost s a1 a2 a3) := by
  unfold State.twLost
  extract_lets -merge -useContext x1_0 x1_1
  have hx1_1 : State.Good p x1_1 := (State.count_good (State.err_good (State.twLast_good hs)))
  try clear_value x1_1
  exact (good_ite (State.twEnd_good hx1_1) (State.setTwiSt_good (State.modTwi_good hx1_1)))

theorem State.twStep_good {p : List Instr} {s a1 a2 a3} (hs : State.Good p s) : State.Good p (State.twStep s a1 a2 a3) := by
  unfold State.twStep
  extract_lets -merge -useContext x1_0 x1_1 x1_2 x1_3 x1_4 x1_5
  have hx1_2 : State.Good p x1_2 := (State.twMove_good hs)
  try clear_value x1_2
  have hx1_4 : State.Good p x1_4 := (State.twMove_good hs)
  try clear_value x1_4
  have hx1_5 : State.Good p x1_5 := (State.twMove_good hs)
  try clear_value x1_5
  exact (by split; (exact (State.twMove_good hs)); (exact (State.err_good (State.twFail_good hx1_2))); (exact (State.twLost_good (State.twMove_good hs))); (exact (State.err_good (State.twFail_good (State.twMove_good hs)))); (exact (good_ite (State.err_good (State.twFail_good hx1_4)) (by split; (exact (State.twGood_good hx1_4)); (exact (State.twTurn_good hx1_4))))); (exact (good_ite (State.mark_good (State.modTwi_good hx1_5)) hx1_5)))

theorem State.twRun_good {p : List Instr} {s i k l} (hs : State.Good p s) : State.Good p (State.twRun s i k l) := by
  induction l generalizing s with
  | nil => exact hs
  | cons x t ih => exact good_ite (ih (State.twStep_good hs)) hs

theorem State.twBegin_good {p : List Instr} {s a1} (hs : State.Good p s) : State.Good p (State.twBegin s a1) := by
  unfold State.twBegin
  extract_lets -merge -useContext x1_0
  exact (State.setTwiSt_good (State.modTwi_good (State.runK_good hs)))

theorem State.twDisabled_good {p : List Instr} {s a1 a2} (hs : State.Good p s) : State.Good p (State.twDisabled s a1 a2) := by
  unfold State.twDisabled
  have h : State.Good p (s.twLast a1 a2 3 0 none) := State.twLast_good hs
  exact State.completeB_good (good_core h rfl rfl rfl)

theorem execTwiXfer_good {p : List Instr} {a0 a1 s2} (hs2 : State.Good p s2) : OutGood p (execTwiXfer a0 a1 s2) := by
  unfold execTwiXfer
  exact good_next (State.settle_good (by split; (exact hs2); (exact (good_ite hs2 (good_ite (State.twRun_good hs2) (State.start_good hs2 (fun _ _ h2 => (by split; (exact (good_ite (State.twDisabled_good h2) (State.failK_good (good_ite h2 (State.twLast_good h2))))); (exact (State.twRun_good (State.twBegin_good h2)))))))))))

theorem execTwiRetry_good {p : List Instr} {a0 a1 a2 s3} (hs3 : State.Good p s3)
    : OutGood p (execTwiRetry a0 a1 a2 s3) := by
  unfold execTwiRetry
  exact good_next (State.settle_good (by split; (exact hs3); (exact (good_ite (State.twRun_good (State.setTwiSt_good (State.modTwi_good hs3))) hs3))))

theorem execTwiPollTimeout_good {p : List Instr} {a0 s1} (hs1 : State.Good p s1)
    : OutGood p (execTwiPollTimeout a0 s1) := by
  unfold execTwiPollTimeout
  exact good_next (State.settle_good (by split; (exact hs1); (exact (good_ite (State.err_good (State.twFail_good hs1)) hs1))))

theorem execTwiStretchTimeout_good {p : List Instr} {a0 a1 s2} (hs2 : State.Good p s2)
    : OutGood p (execTwiStretchTimeout a0 a1 s2) := by
  unfold execTwiStretchTimeout
  exact good_next (State.settle_good (by split; (exact hs2); (exact (good_ite hs2 (State.err_good (State.modTwi_good (State.twFail_good hs2)))))))

theorem State.twOff_good {p : List Instr} {s a1} (hs : State.Good p s) : State.Good p (State.twOff s a1) := by
  unfold State.twOff
  extract_lets -merge -useContext x1_0 x1_1
  have hx1_0 : State.Good p x1_0 := (State.wr_good hs)
  try clear_value x1_0
  have hx1_1 : State.Good p x1_1 := (good_foldl (fun _ _ h3 => (State.twDisabled_good h3)) hx1_0)
  try clear_value x1_1
  exact (good_ite (State.twRest_good hx1_1) hx1_1)

theorem execSclStuck_good {p : List Instr} {a0 a1 s2} (hs2 : State.Good p s2) : OutGood p (execSclStuck a0 a1 s2) := by
  unfold execSclStuck
  exact good_next (State.settle_good (good_ite (State.twOff_good (State.err_good (State.modTwi_good hs2))) hs2))

theorem State.twResume_good {p : List Instr} {s a1} (hs : State.Good p s) : State.Good p (State.twResume s a1) := by
  unfold State.twResume
  split
  (exact (good_ite hs (State.twClose_good hs)))
  (exact hs)

theorem State.twRecover_good {p : List Instr} {s a1 a2} (hs : State.Good p s) : State.Good p (State.twRecover s a1 a2) := by
  unfold State.twRecover
  extract_lets -merge -useContext x1_0 x1_1 x1_2
  have hx1_0 : State.Good p x1_0 := (State.err_good hs)
  try clear_value x1_0
  have hx1_1 : State.Good p x1_1 := (State.err_good hs)
  try clear_value x1_1
  have hx1_2 : State.Good p x1_2 := (by unfold x1_2; split; (exact (State.twEnd_good (State.twLast_good hx1_1))); (exact hx1_1))
  try clear_value x1_2
  exact (good_ite (good_ite (State.twRest_good hx1_0) hx1_0) (State.twOff_good hx1_2))

theorem execTwiRecovery_good {p : List Instr} {a0 a1 a2 s3} (hs3 : State.Good p s3)
    : OutGood p (execTwiRecovery a0 a1 a2 s3) := by
  unfold execTwiRecovery
  exact good_next (State.settle_good (good_ite (State.twRecover_good hs3) hs3))

theorem State.twCtrl_good {p : List Instr} {s a1 a2} (hs : State.Good p s) : State.Good p (State.twCtrl s a1 a2) := by
  unfold State.twCtrl
  extract_lets -merge -useContext x1_0
  have hx1_0 : State.Good p x1_0 := (good_ite (by split; (exact (State.twFail_good hs)); (exact (good_ite (State.twRest_good hs) hs))) hs)
  try clear_value x1_0
  exact (good_ite (State.setTwiSt_good hx1_0) hx1_0)

theorem execTwiReset_good {p : List Instr} {a0 a1 s2} (hs2 : State.Good p s2) : OutGood p (execTwiReset a0 a1 s2) := by
  unfold execTwiReset
  exact good_next (State.settle_good (State.ifWrites_good hs2 (fun _ h2 => (State.twCtrl_good h2))))

theorem execTwiRecover_good {p : List Instr} {a0 a1 s2} (hs2 : State.Good p s2) : OutGood p (execTwiRecover a0 a1 s2) := by
  unfold execTwiRecover
  exact good_next (State.settle_good (State.ifWrites_good hs2 (fun _ h2 => (State.twCtrl_good h2))))

theorem State.twCfg_good {p : List Instr} {s a1 a2} (hs : State.Good p s) : State.Good p (State.twCfg s a1 a2) := by
  unfold State.twCfg
  extract_lets -merge -useContext x1_0
  have hx1_0 : State.Good p x1_0 := (State.setW_good hs)
  try clear_value x1_0
  exact (good_ite (State.twOff_good hx1_0) (good_ite hx1_0 (State.twRest_good hx1_0)))

theorem State.twPause_good {p : List Instr} {s a1} (hs : State.Good p s) : State.Good p (State.twPause s a1).1 := by
  unfold State.twPause
  extract_lets -merge -useContext x1_0 x1_1 x1_2
  exact (good_ite1 (State.twRest_good (good_core hs rfl rfl rfl)) hs)

theorem execStallSlotBoundary_good {p : List Instr} {s} (hs : State.Good p s) : OutGood p (execStallSlotBoundary s) := by
  unfold execStallSlotBoundary
  exact good_next (by extract_lets -merge -useContext x1_0 x1_1; have hx1_1 : State.Good p x1_1 := (State.wr_good hs); try (clear_value x1_1); exact (State.settle_good (good_ite (good_core hx1_1 rfl rfl rfl) hs)))

theorem State.engineGives_good {p : List Instr} {s a1} (hs : State.Good p s) : State.Good p (State.engineGives s a1) := by
  unfold State.engineGives
  split
  (exact (good_ite (State.arbShow_good (State.setGrant_good hs)) hs))
  (exact hs)

theorem State.doomedEnd_good {p : List Instr} {s a1} (hs : State.Good p s) : State.Good p (State.doomedEnd s a1) := by
  unfold State.doomedEnd
  extract_lets -merge -useContext x1_0
  exact (good_ite (good_core hs rfl rfl rfl) (good_ite (State.revoke_good (good_core hs rfl rfl rfl)) hs))

theorem execArbGrant_good {p : List Instr} {a0 a1 a2 s3} (hs3 : State.Good p s3)
    : OutGood p (execArbGrant a0 a1 a2 s3) := by
  unfold execArbGrant
  exact good_next (by extract_lets -merge -useContext x1_0 x1_1 x1_2; have hx1_0 : State.Good p x1_0 := (good_foldl (fun _ _ h3 => (State.doomedEnd_good h3)) hs3); try (clear_value x1_0); have hx1_1 : State.Good p x1_1 := (State.each_good hx1_0 (fun _ _ h4 => (State.engineGives_good h4))); try (clear_value x1_1); have hx1_2 : State.Good p x1_2 := (State.each_good hx1_1 (fun _ _ h5 => (State.engineAsk_good h5))); try (clear_value x1_2); exact (State.settle_good (good_ite (State.each_good hx1_2 (fun _ _ h6 => (State.arbServe_good h6))) hs3)))

theorem State.revokeAt_good {p : List Instr} {s a1 a2} (hs : State.Good p s) : State.Good p (State.revokeAt s a1 a2) := by
  unfold State.revokeAt
  extract_lets -merge -useContext x1_0 x1_1 x1_2
  have hx1_2 : State.Good p x1_2.1 := (by unfold x1_2; split; (exact (by split; (exact (by split; (exact (good_ite1 (State.twPause_good hs) (good_ite1 (State.dgPause_good hs) hs))); (exact hs))); (exact hs))); (exact hs))
  try clear_value x1_2
  exact (good_ite hs (State.arbServe_good (State.revoke_good hx1_2)))

theorem execRevocation_good {p : List Instr} {a0 a1 s2} (hs2 : State.Good p s2) : OutGood p (execRevocation a0 a1 s2) := by
  unfold execRevocation
  exact good_next (State.settle_good (good_ite (State.revokeAt_good hs2) hs2))

theorem State.directAsk_good {p : List Instr} {s a1 a2} (hs : State.Good p s) : State.Good p (State.directAsk s a1 a2) := by
  unfold State.directAsk
  exact (good_ite (State.err_good hs) (good_ite (State.request_good hs) (State.err_good hs)))

theorem State.directRelease_good {p : List Instr} {s a1 a2} (hs : State.Good p s)
    : State.Good p (State.directRelease s a1 a2) := by
  unfold State.directRelease
  exact (good_ite (State.arbShow_good (State.setGrant_good hs)) hs)

theorem State.selfReq_good {p : List Instr} {s a1 a2} (hs : State.Good p s) : State.Good p (State.selfReq s a1 a2) := by
  unfold State.selfReq
  extract_lets -merge -useContext x1_0 x1_1
  exact (good_ite (State.directAsk_good hs) (good_ite (State.directRelease_good hs) hs))

theorem State.selfReqAs_good {p : List Instr} {s a1 a2 a3} (hs : State.Good p s)
    : State.Good p (State.selfReqAs s a1 a2 a3) := by
  unfold State.selfReqAs
  extract_lets -merge -useContext x1_0
  exact (State.ifWrites_good hs (fun _ h3 => (State.selfReq_good h3)))

theorem execDirectRequest_good {p : List Instr} {a0 a1 s2} (hs2 : State.Good p s2)
    : OutGood p (execDirectRequest a0 a1 s2) := by
  unfold execDirectRequest
  exact good_next (State.settle_good (State.selfReqAs_good hs2))

theorem execDirectRelease_good {p : List Instr} {a0 a1 s2} (hs2 : State.Good p s2)
    : OutGood p (execDirectRelease a0 a1 s2) := by
  unfold execDirectRelease
  exact good_next (State.settle_good (State.selfReqAs_good hs2))

theorem execDirectHoldExpiry_good {p : List Instr} {a0 s1} (hs1 : State.Good p s1)
    : OutGood p (execDirectHoldExpiry a0 s1) := by
  unfold execDirectHoldExpiry
  exact good_next (State.settle_good (by split; (exact (good_ite (State.revoke_good (State.err_good hs1)) hs1)); (exact hs1)))

theorem State.directDrop_good {p : List Instr} {s a1} (hs : State.Good p s) : State.Good p (State.directDrop s a1) := by
  unfold State.directDrop
  extract_lets -merge -useContext x1_0 x1_1
  have hx1_0 : State.Good p x1_0 := (State.each_good hs (fun _ _ h3 => (good_ite (State.doomedEnd_good (good_core h3 rfl
    rfl rfl)) h3)))
  try clear_value x1_0
  have hx1_1 : State.Good p x1_1 := (State.each_good hx1_0 (fun _ _ h4 => (State.setQueue_good h4)))
  try clear_value x1_1
  exact (State.arbShow_good hx1_1)

theorem State.claim_good {p : List Instr} {s a1} (hs : State.Good p s) : State.Good p (State.claim s a1).2 := by
  unfold State.claim
  split
  (exact hs)
  (exact (by extract_lets -merge -useContext x2_0; exact (good_ite2 hs (State.intRefresh_good (State.intPut_good (State.intPut_good hs))))))

theorem execClaim_good {p : List Instr} {a0 s1} (hs1 : State.Good p s1) : OutGood p (execClaim a0 s1) := by
  unfold execClaim
  exact good_next (by extract_lets -merge -useContext x1_0; have hx1_0 : State.Good p x1_0.2 := (State.claim_good hs1); try (clear_value x1_0); exact (State.settle_good (good_ite (State.answer_good hx1_0) hs1)))

theorem State.claimDone_good {p : List Instr} {s a1 a2} (hs : State.Good p s) : State.Good p (State.claimDone s a1 a2) := by
  unfold State.claimDone
  extract_lets -merge -useContext x1_0 x1_1
  have hx1_1 : State.Good p x1_1 := (State.modCtx_good hs)
  try clear_value x1_1
  exact (good_ite (State.intRefresh_good (State.intPut_good hx1_1)) (State.errQ_good (State.intRefresh_good hx1_1)))

theorem execClaimDone_good {p : List Instr} {a0 a1 s2} (hs2 : State.Good p s2) : OutGood p (execClaimDone a0 a1 s2) := by
  unfold execClaimDone
  exact good_next (State.settle_good (State.ifWrites_good hs2 (fun _ h2 => (State.claimDone_good h2))))

theorem State.setPend_good {p : List Instr} {s a1 a2} (hs : State.Good p s) : State.Good p (State.setPend s a1 a2) := by
  unfold State.setPend
  extract_lets -merge -useContext x1_0
  exact (good_ite (State.intRefresh_good (State.intPut_good hs)) (State.errQ_good hs))

theorem execSetpend_good {p : List Instr} {a0 a1 s2} (hs2 : State.Good p s2) : OutGood p (execSetpend a0 a1 s2) := by
  unfold execSetpend
  exact good_next (State.settle_good (State.ifWrites_good hs2 (fun _ h2 => (State.setPend_good h2))))

theorem execHirqGapEnd_good {p : List Instr} {a0 s1} (hs1 : State.Good p s1) : OutGood p (execHirqGapEnd a0 s1) := by
  unfold execHirqGapEnd
  exact good_next (State.settle_good (State.intRefresh_good (State.modCtx_good hs1)))

theorem execEdgeLatchApply_good {p : List Instr} {a0 s1} (hs1 : State.Good p s1)
    : OutGood p (execEdgeLatchApply a0 s1) := by
  unfold execEdgeLatchApply
  exact good_next (State.settle_good (good_ite (good_foldl (fun _ _ h2 => (good_ite (good_foldl (fun _ _ h3 =>
    (State.edgeIn_good h3)) h2) h2)) hs1) hs1))

theorem State.irqEnable_good {p : List Instr} {s a1 a2} (hs : State.Good p s) : State.Good p (State.irqEnable s a1 a2) := by
  unfold State.irqEnable
  extract_lets -merge -useContext x1_0 x1_1 x1_2 x1_3
  have hx1_3 : State.Good p x1_3 := (State.setW_good hs)
  try clear_value x1_3
  exact (good_ite hx1_3 (State.each_good hx1_3 (fun _ _ h3 => (by split; (exact (State.edge_good h3)); (exact h3)))))

theorem execIrqEnWrite_good {p : List Instr} {a0 a1 a2 s3} (hs3 : State.Good p s3)
    : OutGood p (execIrqEnWrite a0 a1 a2 s3) := by
  unfold execIrqEnWrite
  exact good_next (State.settle_good (State.ifWrites_good hs3 (fun _ h2 => (State.irqEnable_good h2))))

theorem execRaise_good {p : List Instr} {a0 a1 a2 s3} (hs3 : State.Good p s3) : OutGood p (execRaise a0 a1 a2 s3) := by
  unfold execRaise
  exact good_next (State.settle_good (State.post_good hs3))

theorem State.ackId_good {p : List Instr} {s a1} (hs : State.Good p s) : State.Good p (State.ackId s a1) := by
  unfold State.ackId
  exact (good_ite (State.ackShow_good (State.ackEv_good hs)) (State.errQ_good hs))

theorem State.ackAll_good {p : List Instr} {s} (hs : State.Good p s) : State.Good p (State.ackAll s) := by
  unfold State.ackAll
  exact (State.ackShow_good (State.each_good hs (fun _ _ h2 => (State.ackEv_good h2))))

theorem State.ackWrite_good {p : List Instr} {s a1} (hs : State.Good p s) : State.Good p (State.ackWrite s a1) := by
  unfold State.ackWrite
  exact (good_ite (State.ackAll_good hs) (State.ackId_good hs))

theorem State.latAck_good {p : List Instr} {s a1 a2} (hs : State.Good p s) : State.Good p (State.latAck s a1 a2) := by
  unfold State.latAck
  exact (State.ackShow_good (State.each_good hs (fun _ _ h2 => (State.ackEv_good h2))))

theorem execAckId_good {p : List Instr} {a0 a1 s2} (hs2 : State.Good p s2) : OutGood p (execAckId a0 a1 s2) := by
  unfold execAckId
  exact good_next (State.settle_good (State.ifWrites_good hs2 (fun _ h2 => (State.ackId_good h2))))

theorem execAckAll_good {p : List Instr} {a0 s1} (hs1 : State.Good p s1) : OutGood p (execAckAll a0 s1) := by
  unfold execAckAll
  exact good_next (State.settle_good (State.ifWrites_good hs1 (fun _ h2 => (State.ackAll_good h2))))

theorem execLatAck_good {p : List Instr} {a0 a1 a2 s3} (hs3 : State.Good p s3) : OutGood p (execLatAck a0 a1 a2 s3) := by
  unfold execLatAck
  exact good_next (State.settle_good (State.ifWrites_good hs3 (fun _ h2 => (State.latAck_good h2))))

theorem State.forceRaise_good {p : List Instr} {s a1 a2} (hs : State.Good p s)
    : State.Good p (State.forceRaise s a1 a2) := by
  unfold State.forceRaise
  exact (good_core hs rfl rfl rfl)

theorem State.fltForce_good {p : List Instr} {s a1 a2} (hs : State.Good p s) : State.Good p (State.fltForce s a1 a2) := by
  unfold State.fltForce
  exact (State.each_good hs (fun _ _ h2 => (State.forceRaise_good h2)))

theorem execFltForce_good {p : List Instr} {a0 a1 a2 s3} (hs3 : State.Good p s3)
    : OutGood p (execFltForce a0 a1 a2 s3) := by
  unfold execFltForce
  exact good_next (State.settle_good (State.ifWrites_good hs3 (fun _ h2 => (State.fltForce_good h2))))

theorem State.forcedCls_good {p : List Instr} {s a1 a2} (hs : State.Good p s)
    : State.Good p (State.forcedCls s a1 a2).2 := by
  unfold State.forcedCls
  extract_lets -merge -useContext x1_0 x1_1 x1_2 x1_3
  have hx1_1 : State.Good p x1_1.2 := (State.draw_good hs)
  try clear_value x1_1
  have hx1_2 : State.Good p x1_2.2 := (State.draw_good hs)
  try clear_value x1_2
  exact (good_ite2 hx1_1 (good_ite2 hx1_2 hs))

theorem State.errForce1_good {p : List Instr} {s a1 a2} (hs : State.Good p s) : State.Good p (State.errForce1 s a1 a2) := by
  unfold State.errForce1
  extract_lets -merge -useContext x1_0 x1_1 x1_2
  have hx1_1 : State.Good p x1_1 := (State.errQ_good hs)
  try clear_value x1_1
  have hx1_2 : State.Good p x1_2.2 := (State.forcedCls_good hx1_1)
  try clear_value x1_2
  exact (good_ite hx1_1 (good_ite hx1_2 (State.forceRaise_good hx1_2)))

theorem State.errForce_good {p : List Instr} {s a1 a2} (hs : State.Good p s) : State.Good p (State.errForce s a1 a2) := by
  unfold State.errForce
  exact (State.each_good hs (fun _ _ h2 => (State.errForce1_good h2)))

theorem execErrForceWrite_good {p : List Instr} {a0 a1 a2 s3} (hs3 : State.Good p s3)
    : OutGood p (execErrForceWrite a0 a1 a2 s3) := by
  unfold execErrForceWrite
  exact good_next (State.settle_good (State.ifWrites_good hs3 (fun _ h2 => (State.errForce_good h2))))

theorem State.fctrl_good {p : List Instr} {s a1} (hs : State.Good p s) : State.Good p (State.fctrl s a1) := by
  unfold State.fctrl
  extract_lets -merge -useContext x1_0
  have hx1_0 : State.Good p x1_0 := (State.wr_good hs)
  try clear_value x1_0
  exact (good_ite (State.wr_good hx1_0) (good_ite (State.wr_good hx1_0) (State.errQ_good hx1_0)))

theorem execFctrlLiveWrite_good {p : List Instr} {a0 a1 s2} (hs2 : State.Good p s2)
    : OutGood p (execFctrlLiveWrite a0 a1 s2) := by
  unfold execFctrlLiveWrite
  exact good_next (State.settle_good (State.ifWrites_good hs2 (fun _ h2 => (State.fctrl_good h2))))

end Sys2Proof.Machine
end

