-- ==== Sys2Proof/Laws/Keep9.lean ====
section
/-! SUPPORT. The queue and the two canonical forms, kept by the operations and meanings of Pins, RegWrite, RegRead, Frames, Bale. -/

namespace Sys2Proof.Machine

open Sys2Proof

theorem State.lockWrite_good {p : List Instr} {s a1 a2 a3} (hs : State.Good p s)
    : State.Good p (State.lockWrite s a1 a2 a3) := by
  unfold State.lockWrite
  exact (good_ite (State.wr_good (State.wr_good hs)) (good_ite (State.wr_good hs) hs))

theorem execLockWrite_good {p : List Instr} {a0 a1 a2 s3} (hs3 : State.Good p s3)
    : OutGood p (execLockWrite a0 a1 a2 s3) := by
  unfold execLockWrite
  exact good_next (State.settle_good (State.ifWrites_good hs3 (fun _ h2 => (State.lockWrite_good h2))))

theorem State.ownerWrite_good {p : List Instr} {s a1 a2} (hs : State.Good p s)
    : State.Good p (State.ownerWrite s a1 a2) := by
  unfold State.ownerWrite
  exact (State.wr_good hs)

theorem execOwnerWrite_good {p : List Instr} {a0 a1 a2 s3} (hs3 : State.Good p s3)
    : OutGood p (execOwnerWrite a0 a1 a2 s3) := by
  unfold execOwnerWrite
  exact good_next (State.settle_good (State.ifWrites_good hs3 (fun _ h2 => (State.ownerWrite_good h2))))

theorem State.gpioMark_good {p : List Instr} {s a1} (hs : State.Good p s) : State.Good p (State.gpioMark s a1) := by
  unfold State.gpioMark
  exact (good_core hs rfl rfl rfl)

theorem State.gpioEdge_good {p : List Instr} {s a1 a2} (hs : State.Good p s) : State.Good p (State.gpioEdge s a1 a2) := by
  unfold State.gpioEdge
  extract_lets -merge -useContext x1_0 x1_1
  have hx1_0 : State.Good p x1_0 := (State.wrB_good hs)
  try clear_value x1_0
  exact (good_ite hs (good_ite (State.irq_good (State.gpioMark_good hx1_0)) hx1_0))

theorem State.gpioAgain_good {p : List Instr} {s} (hs : State.Good p s) : State.Good p (State.gpioAgain s) := by
  unfold State.gpioAgain
  exact good_ite (State.each_good hs (fun _ _ h => good_ite (State.irq_good h) (good_ite (State.wr_good h) h))) hs

theorem execGpioEdge_good {p : List Instr} {a0 a1 a2 s3} (hs3 : State.Good p s3)
    : OutGood p (execGpioEdge a0 a1 a2 s3) := by
  unfold execGpioEdge
  exact good_next (State.settle_good (good_ite (State.gpioEdge_good hs3) hs3))

theorem State.outSet_good {p : List Instr} {s a1} (hs : State.Good p s) : State.Good p (State.outSet s a1) := by
  unfold State.outSet
  exact (State.wr_good hs)

theorem State.outClr_good {p : List Instr} {s a1} (hs : State.Good p s) : State.Good p (State.outClr s a1) := by
  unfold State.outClr
  exact (State.wr_good hs)

theorem execOutSet_good {p : List Instr} {a0 a1 s2} (hs2 : State.Good p s2) : OutGood p (execOutSet a0 a1 s2) := by
  unfold execOutSet
  exact good_next (State.settle_good (State.ifWrites_good hs2 (fun _ h2 => (State.outSet_good h2))))

theorem execOutClr_good {p : List Instr} {a0 a1 s2} (hs2 : State.Good p s2) : OutGood p (execOutClr a0 a1 s2) := by
  unfold execOutClr
  exact good_next (State.settle_good (State.ifWrites_good hs2 (fun _ h2 => (State.outClr_good h2))))

theorem State.vioLoss_good {p : List Instr} {s} (hs : State.Good p s) : State.Good p (State.vioLoss s) := by
  unfold State.vioLoss
  extract_lets -merge -useContext x1_0 x1_1
  have hx1_0 : State.Good p x1_0 := (good_core hs rfl rfl rfl)
  try clear_value x1_0
  have hx1_1 : State.Good p x1_1 := (State.each_good hx1_0 (fun _ _ h3 => (State.hintEdge_good h3)))
  try clear_value x1_1
  exact (good_ite (State.twCtrl_good (State.twCtrl_good hx1_1)) hx1_0)

theorem execVioLoss_good {p : List Instr} {a0 a1 s2} (hs2 : State.Good p s2) : OutGood p (execVioLoss a0 a1 s2) := by
  unfold execVioLoss
  exact good_next (State.settle_good (good_ite hs2 (State.vioLoss_good hs2)))

theorem execVioReturn_good {p : List Instr} {a0 s1} (hs1 : State.Good p s1) : OutGood p (execVioReturn a0 s1) := by
  unfold execVioReturn
  exact good_next (State.settle_good (good_ite (good_core hs1 rfl rfl rfl) hs1))

theorem State.tapAct_good {p : List Instr} {s lv d} (hs : State.Good p s) : State.Good p (State.tapAct s lv d) := by
  unfold State.tapAct
  split
  · exact good_ite (good_core hs rfl rfl rfl) (good_core hs rfl rfl rfl)
  · exact good_ite (good_core hs rfl rfl rfl) (good_core hs rfl rfl rfl)
  · exact good_core (State.draw_good hs) rfl rfl rfl
  · exact hs

theorem State.tapClock_good {p : List Instr} {s ins lv m d} (hs : State.Good p s)
    : State.Good p (State.tapClock s ins lv m d) := by
  unfold State.tapClock
  extract_lets -merge -useContext s1 n
  have h1 : State.Good p s1 := State.tapAct_good hs
  clear_value s1 n
  split <;> exact good_core h1 rfl rfl rfl

theorem State.tapRun_good {p : List Instr} {s ins lv l} (hs : State.Good p s) : State.Good p (State.tapRun s ins lv l) := by
  induction l generalizing s with
  | nil => exact hs
  | cons x t ih => exact ih (State.tapClock_good hs)

theorem execTestAccessPort_good {p : List Instr} {a0 a1 a2 a3 s4} (hs4 : State.Good p s4)
    : OutGood p (execTestAccessPort a0 a1 a2 a3 s4) := by
  unfold execTestAccessPort
  exact good_next (State.settle_good (good_ite (State.tapRun_good (good_core hs4 rfl rfl rfl)) hs4))

theorem State.putAt_good {p : List Instr} {s a1 a2 a3 a4} (hs : State.Good p s)
    : State.Good p (State.putAt s a1 a2 a3 a4) := by
  unfold State.putAt
  exact (State.setW_good hs)

theorem State.put_good {p : List Instr} {s a1 a2 a3} (hs : State.Good p s) : State.Good p (State.put s a1 a2 a3) := by
  unfold State.put
  exact (State.putAt_good hs)

theorem State.cmdReg_good {p : List Instr} {s a1 f2} (hs : State.Good p s) (hf2 : ∀ y0, State.Good p y0 → State.Good p (f2
    y0))
    : State.Good p (State.cmdReg s a1 f2) := by
  unfold State.cmdReg
  exact (good_ite hs (hf2 _ hs))

theorem State.enWrite_good {p : List Instr} {s a1 a2 a3} (hs : State.Good p s)
    : State.Good p (State.enWrite s a1 a2 a3) := by
  unfold State.enWrite
  exact (good_ite (State.hostOn_good hs) (State.hostOff_good hs))

theorem State.wrDEV_good {p : List Instr} {s a1 a2 a3 a4} (hs : State.Good p s)
    : State.Good p (State.wrDEV s a1 a2 a3 a4) := by
  unfold State.wrDEV
  exact (good_ite (State.cmdReg_good hs (fun _ h2 => (State.modeReq_good h2))) (good_ite (State.replaceClear_good hs)
    (good_ite (State.wakeCfg_good (State.put_good hs)) (State.put_good hs))))

theorem State.wrCLK_good {p : List Instr} {s a1 a2 a3} (hs : State.Good p s) : State.Good p (State.wrCLK s a1 a2 a3) := by
  unfold State.wrCLK
  exact (good_ite (State.clkRet_good hs) (State.put_good hs))

theorem State.ringCfg_good {p : List Instr} {s a1 a2 a3} (hs : State.Good p s)
    : State.Good p (State.ringCfg s a1 a2 a3) := by
  unfold State.ringCfg
  exact (good_ite (State.err_good hs) (State.setW_good hs))

theorem State.wrCQE_good {p : List Instr} {s a1 a2 a3 a4} (hs : State.Good p s)
    : State.Good p (State.wrCQE s a1 a2 a3 a4) := by
  unfold State.wrCQE
  extract_lets -merge -useContext x1_0 x1_1 x1_2
  exact (good_ite (State.putAt_good hs) (good_ite (State.put_good hs) (good_ite (good_ite hs (State.ringCfg_good hs))
    (good_ite hs (good_ite (State.ringIrq_good (State.put_good hs)) (State.put_good hs))))))

theorem State.wrARB_good {p : List Instr} {s a1 a2 a3 a4} (hs : State.Good p s)
    : State.Good p (State.wrARB s a1 a2 a3 a4) := by
  unfold State.wrARB
  exact (good_ite (State.cmdReg_good hs (fun _ h2 => (State.selfReq_good h2))) (good_ite (State.putAt_good hs)
    (State.put_good hs)))

theorem State.intRegPut_good {p : List Instr} {s a1 a2 a3 a4} (hs : State.Good p s)
    : State.Good p (State.intRegPut s a1 a2 a3 a4) := by
  unfold State.intRegPut
  extract_lets -merge -useContext x1_0
  exact (State.intRefresh_good (State.putAt_good hs))

theorem State.wrINT_good {p : List Instr} {s a1 a2 a3 a4} (hs : State.Good p s)
    : State.Good p (State.wrINT s a1 a2 a3 a4) := by
  unfold State.wrINT
  exact (good_ite (State.put_good hs) (good_ite (State.putAt_good hs) (good_ite (State.cmdReg_good hs (fun _ h2 =>
    (State.claimDone_good h2))) (good_ite (State.cmdReg_good hs (fun _ h3 => (State.setPend_good h3)))
    (State.intRegPut_good hs)))))

theorem State.wrFLT_good {p : List Instr} {s a1 a2 a3} (hs : State.Good p s) : State.Good p (State.wrFLT s a1 a2 a3) := by
  unfold State.wrFLT
  exact (good_ite (State.fctrl_good hs) (good_ite (State.cmdReg_good hs (fun _ h2 => (State.ackWrite_good h2))) (good_ite
    (State.latAck_good hs) (good_ite (State.fltForce_good hs) (good_ite hs (State.put_good hs))))))

theorem State.wrWDG_good {p : List Instr} {s a1 a2 a3 a4} (hs : State.Good p s)
    : State.Good p (State.wrWDG s a1 a2 a3 a4) := by
  unfold State.wrWDG
  exact (good_ite (State.cmdReg_good hs (fun _ h2 => (State.kick_good h2))) (good_ite (State.owlCfg_good hs) (good_ite
    (State.owlTime_good hs) (State.put_good hs))))

theorem State.wrSEQ_good {p : List Instr} {s a1 a2 a3} (hs : State.Good p s) : State.Good p (State.wrSEQ s a1 a2 a3) := by
  unfold State.wrSEQ
  extract_lets -merge -useContext x1_0
  exact (good_ite (State.stepWrite_good hs) (State.put_good hs))

theorem State.wrFLAIL_good {p : List Instr} {s a1 a2 a3 a4} (hs : State.Good p s)
    : State.Good p (State.wrFLAIL s a1 a2 a3 a4) := by
  unfold State.wrFLAIL
  exact (good_ite (good_ite (State.alarmAsk_good hs) hs) (good_ite (State.cmdReg_good hs (fun _ h2 => (State.mctrl_good
    h2))) (good_ite (State.roleWatch_good (State.put_good hs)) (State.put_good hs))))

theorem State.margNext_good {p : List Instr} {s a1 a2 a3} (hs : State.Good p s)
    : State.Good p (State.margNext s a1 a2 a3) := by
  unfold State.margNext
  extract_lets -merge -useContext x1_0 x1_1 x1_2
  have hx1_0 : State.Good p x1_0 := (State.put_good hs)
  try clear_value x1_0
  exact (good_ite hx1_0 (State.errQ_good (State.wrI_good hx1_0)))

theorem State.wrMARG_good {p : List Instr} {s a1 a2 a3} (hs : State.Good p s) : State.Good p (State.wrMARG s a1 a2 a3) := by
  unfold State.wrMARG
  extract_lets -merge -useContext x1_0 x1_1
  have hx1_0 : State.Good p x1_0 := (good_ite (State.margApply_good hs) hs)
  try clear_value x1_0
  have hx1_1 : State.Good p x1_1 := (State.put_good hs)
  try clear_value x1_1
  exact (good_ite (good_ite (State.setArm_good hx1_0) hx1_0) (good_ite (good_ite (State.setArm_good hx1_1) hx1_1) (good_ite
    (State.margNext_good hs) (State.put_good hs))))

theorem State.mapBusy_good {p : List Instr} {s a1 a2} (hs : State.Good p s) : State.Good p (State.mapBusy s a1 a2) := by
  unfold State.mapBusy
  exact (State.err_good hs)

theorem State.mapWrite_good {p : List Instr} {s a1 a2 a3 a4} (hs : State.Good p s)
    : State.Good p (State.mapWrite s a1 a2 a3 a4) := by
  unfold State.mapWrite
  extract_lets -merge -useContext x1_0
  have hx1_0 : State.Good p x1_0 := (State.put_good hs)
  try clear_value x1_0
  exact (good_ite (State.put_good hs) (by split; (exact (State.mapBusy_good hs)); (exact (good_ite hx1_0 (State.each_good (State.phRest_good hx1_0) (fun _ _ h3 => (State.lidStale_good h3)))))))

theorem State.imWrite_good {p : List Instr} {s a1 a2 a3 a4} (hs : State.Good p s)
    : State.Good p (State.imWrite s a1 a2 a3 a4) := by
  unfold State.imWrite
  exact (good_ite (State.mapBusy_good hs) (State.put_good hs))

theorem State.wrPHX_good {p : List Instr} {s a1 a2 a3 a4} (hs : State.Good p s)
    : State.Good p (State.wrPHX s a1 a2 a3 a4) := by
  unfold State.wrPHX
  extract_lets -merge -useContext x1_0 x1_1 x1_2
  exact (good_ite (State.mapWrite_good hs) (good_ite (State.imWrite_good hs) (good_ite (State.put_good hs) (good_ite
    (State.mapBusy_good hs) (State.put_good hs)))))

theorem State.wrRAIL_good {p : List Instr} {s a1 a2 a3 a4 a5} (hs : State.Good p s)
    : State.Good p (State.wrRAIL s a1 a2 a3 a4 a5) := by
  unfold State.wrRAIL
  extract_lets -merge -useContext x1_0 x1_1
  have hx1_1 : State.Good p x1_1 := (State.put_good hs)
  try clear_value x1_1
  exact (good_ite (good_ite (State.enWrite_good hx1_1) hx1_1) (good_ite (good_ite (State.setVset_good hs) hs) (good_ite
    (State.retarget_good (State.put_good hs)) (good_ite (State.cmdReg_good hs (fun _ h3 => (State.setFsw_good h3)))
    (good_ite (good_ite hs (State.coefCtrl_good hs)) (State.put_good hs))))))

theorem State.wrBUSC_good {p : List Instr} {s a1 a2 a3} (hs : State.Good p s) : State.Good p (State.wrBUSC s a1 a2 a3) := by
  unfold State.wrBUSC
  exact (good_ite (good_ite (State.setBusEn_good hs) hs) (good_ite (State.err_good hs) (State.busWatch_good (State.put_good
    hs))))

theorem State.chgRange_good {p : List Instr} {s a1 a2 a3 a4} (hs : State.Good p s)
    : State.Good p (State.chgRange s a1 a2 a3 a4) := by
  unfold State.chgRange
  extract_lets -merge -useContext x1_0
  exact (good_ite (State.err_good (State.wr_good hs)) hs)

theorem State.chgCfg_good {p : List Instr} {s a1 a2} (hs : State.Good p s) : State.Good p (State.chgCfg s a1 a2) := by
  unfold State.chgCfg
  extract_lets -merge -useContext x1_0 x1_1 x1_2 x1_3 x1_4 x1_5 x1_6
  have hx1_4 : State.Good p x1_4 := (State.put_good hs)
  try clear_value x1_4
  have hx1_5 : State.Good p x1_5 := (good_ite (State.err_good hx1_4) (State.chgRange_good hx1_4))
  try clear_value x1_5
  have hx1_6 : State.Good p x1_6 := (good_ite (State.modChg_good (State.wr_good hx1_5)) hx1_5)
  try clear_value x1_6
  exact (good_ite (State.chgEn_good hx1_6) hx1_6)

theorem State.wrCHG_good {p : List Instr} {s a1 a2 a3} (hs : State.Good p s) : State.Good p (State.wrCHG s a1 a2 a3) := by
  unfold State.wrCHG
  extract_lets -merge -useContext x1_0 x1_1
  have hx1_1 : State.Good p x1_1 := (State.put_good hs)
  try clear_value x1_1
  exact (good_ite (State.chgCfg_good hs) (good_ite (State.chgRange_good (State.chgRange_good hx1_1)) (good_ite
    (State.chgRange_good (State.chgRange_good hx1_1)) (good_ite (State.chgWatch_good hx1_1) hx1_1))))

theorem State.wrPORT_good {p : List Instr} {s a1 a2 a3} (hs : State.Good p s) : State.Good p (State.wrPORT s a1 a2 a3) := by
  unfold State.wrPORT
  extract_lets -merge -useContext x1_0 x1_1 x1_2 x1_3
  have hx1_1 : State.Good p x1_1 := (State.put_good hs)
  try clear_value x1_1
  have hx1_2 : State.Good p x1_2 := (good_ite (State.setPEn_good hx1_1) hx1_1)
  try clear_value x1_2
  have hx1_3 : State.Good p x1_3 := (State.put_good hs)
  try clear_value x1_3
  exact (good_ite (good_ite (State.setBlock_good hx1_2) hx1_2) (good_ite (good_ite (State.setNEn_good hx1_3) hx1_3)
    (State.put_good hs)))

theorem State.parWrite_good {p : List Instr} {s a1 a2} (hs : State.Good p s) : State.Good p (State.parWrite s a1 a2) := by
  unfold State.parWrite
  exact (good_ite (State.setPar_good hs) hs)

theorem State.wrBUCK_good {p : List Instr} {s a1 a2 a3 a4} (hs : State.Good p s)
    : State.Good p (State.wrBUCK s a1 a2 a3 a4) := by
  unfold State.wrBUCK
  extract_lets -merge -useContext x1_0 x1_1 x1_2 x1_3
  have hx1_2 : State.Good p x1_2 := (State.put_good hs)
  try clear_value x1_2
  have hx1_3 : State.Good p x1_3 := (good_ite (State.parWrite_good hx1_2) hx1_2)
  try clear_value x1_3
  exact (good_ite (good_ite (good_ite (State.enWrite_good hx1_3) hx1_3) (good_ite (good_ite (State.setVset_good hs) hs)
    (good_ite (State.retarget_good (State.put_good hs)) (State.put_good hs)))) (State.put_good hs))

theorem State.wrLDO_good {p : List Instr} {s a1 a2 a3} (hs : State.Good p s) : State.Good p (State.wrLDO s a1 a2 a3) := by
  unfold State.wrLDO
  extract_lets -merge -useContext x1_0 x1_1 x1_2 x1_3 x1_4
  have hx1_2 : State.Good p x1_2 := (State.put_good hs)
  try clear_value x1_2
  have hx1_3 : State.Good p x1_3 := (good_ite (State.lsClose_good hx1_2) hx1_2)
  try clear_value x1_3
  have hx1_4 : State.Good p x1_4 := (State.put_good hs)
  try clear_value x1_4
  exact (good_ite (good_ite (State.enWrite_good hx1_3) hx1_3) (good_ite (good_ite (State.setVset_good hx1_4)
    (State.retarget_good hx1_4)) (State.put_good hs)))

theorem State.disForceWrite_good {p : List Instr} {s a1 a2} (hs : State.Good p s)
    : State.Good p (State.disForceWrite s a1 a2) := by
  unfold State.disForceWrite
  exact (good_ite (State.disForce_good hs) (good_ite (State.wr_good hs) (good_ite (State.wr_good hs) (good_ite
    (State.undischarge_good hs) hs))))

theorem State.wrSUPV_good {p : List Instr} {s a1 a2 a3} (hs : State.Good p s) : State.Good p (State.wrSUPV s a1 a2 a3) := by
  unfold State.wrSUPV
  extract_lets -merge -useContext x1_0 x1_1 x1_2
  have hx1_2 : State.Good p x1_2 := (State.put_good hs)
  try clear_value x1_2
  exact (good_ite (good_ite (State.disForceWrite_good hx1_2) hx1_2) (State.put_good hs))

theorem State.winWrite_good {p : List Instr} {s a1} (hs : State.Good p s) : State.Good p (State.winWrite s a1) := by
  unfold State.winWrite
  extract_lets -merge -useContext x1_0 x1_1
  have hx1_1 : State.Good p x1_1 := (State.setChCfg_good hs)
  try clear_value x1_1
  exact (good_ite (State.setResult_good hx1_1) hx1_1)

theorem State.wrADC_good {p : List Instr} {s a1 a2 a3 a4} (hs : State.Good p s)
    : State.Good p (State.wrADC s a1 a2 a3 a4) := by
  unfold State.wrADC
  extract_lets -merge -useContext x1_0 x1_1
  exact (good_ite (good_ite (good_ite (State.refOn_good hs) (State.refOff_good hs)) hs) (good_ite (State.cmdReg_good hs
    (fun _ h3 => (State.convWrite_good h3))) (good_ite (State.cmdReg_good hs (fun _ h4 => (State.adcUrg_good h4)))
    (good_ite (State.winWrite_good hs) (good_ite (State.setChCal_good hs) (good_ite (State.adcTabWrite_good hs)
    (State.put_good hs)))))))

theorem State.wrACC_good {p : List Instr} {s a1 a2 a3 a4 a5} (hs : State.Good p s)
    : State.Good p (State.wrACC s a1 a2 a3 a4 a5) := by
  unfold State.wrACC
  extract_lets -merge -useContext x1_0
  exact (good_ite (State.cmdReg_good hs (fun _ h3 => (State.aclr_good h3))) (good_ite (State.cmdReg_good hs (fun _ h4 =>
    (State.tclr_good h4))) (good_ite (State.putAt_good hs) (good_ite (State.satClear_good hs) (State.put_good hs)))))

theorem State.wrTHM_good {p : List Instr} {s a1 a2 a3} (hs : State.Good p s) : State.Good p (State.wrTHM s a1 a2 a3) := by
  unfold State.wrTHM
  exact (good_ite (State.cmdReg_good hs (fun _ h2 => (State.hostAnchor_good h2))) (good_ite (State.wr_good (State.put_good
    hs)) (State.put_good hs)))

theorem State.wrRTC_good {p : List Instr} {s a1 a2 a3 a4} (hs : State.Good p s)
    : State.Good p (State.wrRTC s a1 a2 a3 a4) := by
  unfold State.wrRTC
  extract_lets -merge -useContext x1_0 x1_1
  have hx1_1 : State.Good p x1_1 := (State.put_good hs)
  try clear_value x1_1
  exact (good_ite (good_ite (State.osfClear_good hx1_1) hx1_1) (good_ite (State.cmdReg_good hs (fun _ h3 => (State.rtcCommit_good h3))) (good_ite (State.rtcCtrl_good hs) (by split; (exact (State.cmdReg_good hs (fun _ h4 => (State.rtcHold_good h4)))); (exact (State.put_good hs))))))

theorem State.wrTIME_good {p : List Instr} {s a1 a2 a3} (hs : State.Good p s) : State.Good p (State.wrTIME s a1 a2 a3) := by
  unfold State.wrTIME
  exact (good_ite (State.timeCtrl_good hs) (State.put_good hs))

theorem State.wrTWI_good {p : List Instr} {s a1 a2 a3 a4} (hs : State.Good p s)
    : State.Good p (State.wrTWI s a1 a2 a3 a4) := by
  unfold State.wrTWI
  extract_lets -merge -useContext x1_0
  exact (good_ite (State.cmdReg_good hs (fun _ h3 => (State.twCfg_good h3))) (good_ite (State.twCtrl_good hs)
    (State.put_good hs)))

theorem State.wrOTP_good {p : List Instr} {s a1 a2 a3 a4} (hs : State.Good p s)
    : State.Good p (State.wrOTP s a1 a2 a3 a4) := by
  unfold State.wrOTP
  extract_lets -merge -useContext x1_0
  exact (good_ite (State.putAt_good hs) (good_ite (State.ovrCtrl_good hs) (State.put_good hs)))

theorem State.wrNVM_good {p : List Instr} {s a1 a2 a3 a4} (hs : State.Good p s)
    : State.Good p (State.wrNVM s a1 a2 a3 a4) := by
  unfold State.wrNVM
  exact (good_ite (good_ite hs (State.ldrCtrl_good hs)) (State.put_good hs))

theorem State.wrECC_good {p : List Instr} {s a1 a2 a3} (hs : State.Good p s) : State.Good p (State.wrECC s a1 a2 a3) := by
  unfold State.wrECC
  exact (good_ite (State.retShow_good (State.put_good hs)) (State.put_good hs))

theorem State.wrLOG_good {p : List Instr} {s a1 a2 a3 a4} (hs : State.Good p s)
    : State.Good p (State.wrLOG s a1 a2 a3 a4) := by
  unfold State.wrLOG
  extract_lets -merge -useContext x1_0
  exact (good_ite (State.putAt_good hs) (State.put_good hs))

theorem State.wrGPIO_good {p : List Instr} {s a1 a2 a3} (hs : State.Good p s) : State.Good p (State.wrGPIO s a1 a2 a3) := by
  unfold State.wrGPIO
  exact (good_ite (State.outSet_good hs) (good_ite (State.outClr_good hs) (State.put_good hs)))

theorem State.wrHDR_good {p : List Instr} {s a1 a2 a3 a4 a5} (hs : State.Good p s)
    : State.Good p (State.wrHDR s a1 a2 a3 a4 a5) := by
  unfold State.wrHDR
  extract_lets -merge -useContext x1_0
  exact (good_ite (State.errForce_good hs) (good_ite (State.irqEnable_good hs) (good_ite (State.lockWrite_good hs)
    (good_ite (State.ownerWrite_good hs) (good_ite (State.gpioAgain_good (State.put_good hs)) (State.put_good hs))))))

theorem State.regWrite_good {p : List Instr} {s c a m v imon fail} (hs : State.Good p s) :
    State.Good p (State.regWrite s c a m v imon fail) := by
  unfold State.regWrite
  extract_lets -merge -useContext q o t
  have ht : State.Good p t := good_ite (State.busTouched_good hs) hs
  clear_value t q
  refine good_ite (State.wrHDR_good ht) ?_
  split <;> first
    | exact State.wrDEV_good ht
    | exact State.wrCLK_good ht
    | exact State.wrCQE_good ht
    | exact State.wrARB_good ht
    | exact State.wrINT_good ht
    | exact State.wrFLT_good ht
    | exact State.wrWDG_good ht
    | exact State.wrSEQ_good ht
    | exact State.wrFLAIL_good ht
    | exact State.wrMARG_good ht
    | exact State.wrPHX_good ht
    | exact State.wrBUSC_good ht
    | exact State.wrCHG_good ht
    | exact State.wrPORT_good ht
    | exact State.wrBUCK_good ht
    | exact State.wrLDO_good ht
    | exact State.wrSUPV_good ht
    | exact State.wrADC_good ht
    | exact State.wrACC_good ht
    | exact State.wrTHM_good ht
    | exact State.wrRTC_good ht
    | exact State.wrTIME_good ht
    | exact State.wrTWI_good ht
    | exact State.wrOTP_good ht
    | exact State.wrNVM_good ht
    | exact State.wrECC_good ht
    | exact State.wrLOG_good ht
    | exact State.wrGPIO_good ht
    | exact good_ite (State.wrRAIL_good ht) (State.put_good ht)

theorem State.freeBits_good {p : List Instr} {s a1 a2 a3} (hs : State.Good p s)
    : State.Good p (State.freeBits s a1 a2 a3).2 := by
  unfold State.freeBits
  extract_lets -merge -useContext x1_0
  have hx1_0 : State.Good p x1_0.2 := (State.draw_good hs)
  try clear_value x1_0
  exact hx1_0

theorem State.rdFeStat_good {p : List Instr} {s a1} (hs : State.Good p s) : State.Good p (State.rdFeStat s a1).2 := by
  unfold State.rdFeStat
  extract_lets -merge -useContext x1_0 x1_1
  have hx1_1 : State.Good p x1_1.2 := (State.draw_good hs)
  try clear_value x1_1
  exact (good_ite2 hx1_1 hs)

theorem State.rdINT_good {p : List Instr} {s a1 a2} (hs : State.Good p s) : State.Good p (State.rdINT s a1 a2).2 := by
  unfold State.rdINT
  exact (good_ite2 hs (good_ite2 hs (good_ite2 (State.claim_good hs) hs)))

theorem State.rdRTC_good {p : List Instr} {s a1 a2} (hs : State.Good p s) : State.Good p (State.rdRTC s a1 a2).2 := by
  unfold State.rdRTC
  exact (good_ite2 hs (good_ite2 (State.calRead_good hs) hs))

theorem State.rdTIME_good {p : List Instr} {s a1 a2} (hs : State.Good p s) : State.Good p (State.rdTIME s a1 a2).2 := by
  unfold State.rdTIME
  exact (good_ite2 (State.nsRead_good hs) (good_ite2 hs (good_ite2 hs hs)))

theorem State.rdFLAIL_good {p : List Instr} {s a1} (hs : State.Good p s) : State.Good p (State.rdFLAIL s a1).2 := by
  unfold State.rdFLAIL
  extract_lets -merge -useContext x1_0 x1_1
  have hx1_1 : State.Good p x1_1.2 := (good_ite2 hs (State.freeBits_good hs))
  try clear_value x1_1
  exact (good_ite2 hs (good_ite2 hx1_1 (good_ite2 hx1_1 (State.freeBits_good hx1_1))))

theorem State.rdTWI_good {p : List Instr} {s a1 a2} (hs : State.Good p s) : State.Good p (State.rdTWI s a1 a2).2 := by
  unfold State.rdTWI
  extract_lets -merge -useContext x1_0
  exact (good_ite2 (State.freeBits_good hs) hs)

theorem State.regRead_good {p : List Instr} {s a1 a2 a3} (hs : State.Good p s)
    : State.Good p (State.regRead s a1 a2 a3).2 := by
  unfold State.regRead
  extract_lets -merge -useContext x1_0
  exact (by split; (exact (good_ite2 (State.rdFeStat_good hs) (good_ite2 (State.pcNow_good hs) hs))); (exact hs); (exact hs); (exact hs); (exact (State.rdINT_good hs)); (exact hs); (exact (State.rdFLAIL_good hs)); (exact hs); (exact hs); (exact hs); (exact hs); (exact hs); (exact (State.rdRTC_good hs)); (exact (State.rdTIME_good hs)); (exact (State.rdTWI_good hs)); (exact (State.rdTWI_good hs)); (exact hs); (exact hs); (exact hs); (exact hs); (exact hs))

theorem State.quarantine_good {p : List Instr} {s a1} (hs : State.Good p s) : State.Good p (State.quarantine s a1) := by
  unfold State.quarantine
  exact (State.directDrop_good (State.err_good (State.wrB_good hs)))

theorem State.violation_good {p : List Instr} {s a1 a2 a3} (hs : State.Good p s)
    : State.Good p (State.violation s a1 a2 a3) := by
  unfold State.violation
  extract_lets -merge -useContext x1_0 x1_1 x1_2 x1_3
  have hx1_0 : State.Good p x1_0 := (State.count_good hs)
  try clear_value x1_0
  have hx1_1 : State.Good p x1_1 := (State.wr_good (State.wr_good hx1_0))
  try clear_value x1_1
  have hx1_2 : State.Good p x1_2 := (good_ite (State.errQ_good hx1_1) (State.mark_good (State.err_good hx1_1)))
  try clear_value x1_2
  have hx1_3 : State.Good p x1_3 := (State.bump_good (State.modCtx_good hx1_2))
  try clear_value x1_3
  exact (good_ite (State.quarantine_good hx1_3) hx1_3)

theorem State.frameEnd_good {p : List Instr} {s a1 a2 a3 a4} (hs : State.Good p s)
    : State.Good p (State.frameEnd s a1 a2 a3 a4) := by
  unfold State.frameEnd
  extract_lets -merge -useContext x1_0
  have hx1_0 : State.Good p x1_0 := (State.modCtx_good hs)
  try clear_value x1_0
  exact (good_ite (State.violation_good hx1_0) hx1_0)

theorem State.accept_good {p : List Instr} {s a1 a2} (hs : State.Good p s) : State.Good p (State.accept s a1 a2) := by
  unfold State.accept
  exact (State.count_good (State.wrB_good (State.wr_good hs)))

theorem State.csBoth_good {p : List Instr} {s a1 a2} (hs : State.Good p s) : State.Good p (State.csBoth s a1 a2) := by
  unfold State.csBoth
  exact (good_ite (State.err_good hs) hs)

theorem State.frame_good {p : List Instr} {s c op f run} (hs : State.Good p s)
    (hr : ∀ t, State.Good p t → State.Good p (run t).2) : State.Good p (State.frame s c op f run) := by
  unfold State.frame
  exact good_ite (State.answer_good (hr _ (State.csBoth_good hs))) hs

theorem State.readRegs_good {p : List Instr} {s c f n k} (hs : State.Good p s)
    : State.Good p (State.readRegs s c f n k).2 := by
  induction n generalizing s k with
  | zero => exact hs
  | succ n ih => exact ih (State.regRead_good hs)

theorem State.frameHits_good {p : List Instr} {s a1} (hs : State.Good p s) : State.Good p (State.frameHits s a1) := by
  unfold State.frameHits
  exact (good_foldl (fun _ _ h2 => (good_ite (by split; (exact (State.eccHit_good h2)); (exact h2)) h2)) hs)

theorem State.readDo_good {p : List Instr} {s a1 a2} (hs : State.Good p s) : State.Good p (State.readDo s a1 a2).2 := by
  unfold State.readDo
  extract_lets -merge -useContext x1_0
  have hx1_0 : State.Good p x1_0.2 := (State.readRegs_good hs)
  try clear_value x1_0
  exact (State.modCtx_good (State.frameHits_good hx1_0))

theorem State.readRun_good {p : List Instr} {s a1 a2} (hs : State.Good p s) : State.Good p (State.readRun s a1 a2).2 := by
  unfold State.readRun
  extract_lets -merge -useContext x1_0 x1_1 x1_2 x1_3 x1_4 x1_5 x1_6
  have hx1_2 : State.Good p x1_2.2 := (State.readDo_good hs)
  try clear_value x1_2
  exact (good_ite2 (good_ite (State.frameEnd_good hx1_2) (State.frameEnd_good (State.accept_good hx1_2)))
    (State.frameEnd_good hs))

theorem execRead_good {p : List Instr} {c f s} (hs : State.Good p s) : OutGood p (execRead c f s) := by
  unfold execRead
  exact good_next (State.settle_good (State.frame_good hs (fun _ h => State.readRun_good h)))

theorem State.statusRun_good {p : List Instr} {s a1 a2} (hs : State.Good p s) : State.Good p (State.statusRun s a1 a2) := by
  unfold State.statusRun
  exact (good_ite (State.frameEnd_good hs) (good_ite (State.frameEnd_good hs) (State.frameEnd_good hs)))

theorem execStatus_good {p : List Instr} {c f s} (hs : State.Good p s) : OutGood p (execStatus c f s) := by
  unfold execStatus
  exact good_next (State.settle_good (State.frame_good hs (fun _ h => State.statusRun_good h)))

theorem State.setCqh_good {p : List Instr} {s a1 a2} (hs : State.Good p s) : State.Good p (State.setCqh s a1 a2) := by
  unfold State.setCqh
  extract_lets -merge -useContext x1_0 x1_1 x1_2
  have hx1_2 : State.Good p x1_2 := (State.wr_good (State.wr_good hs))
  try clear_value x1_2
  exact (State.ringIrq_good (State.modCtx_good hx1_2))

theorem execSelfCqh_good {p : List Instr} {a0 a1 s2} (hs2 : State.Good p s2) : OutGood p (execSelfCqh a0 a1 s2) := by
  unfold execSelfCqh
  exact good_next (State.settle_good (State.ifWrites_good hs2 (fun _ h2 => (good_ite (State.setCqh_good h2) h2))))

theorem State.lockPages_good {p : List Instr} {s a1} (hs : State.Good p s) : State.Good p (State.lockPages s a1) := by
  unfold State.lockPages
  exact (State.each_good hs (fun _ _ h2 => (State.wr_good h2)))

theorem State.ctxReset_good {p : List Instr} {s a1} (hs : State.Good p s) : State.Good p (State.ctxReset s a1) := by
  unfold State.ctxReset
  extract_lets -merge -useContext x1_0 x1_1 x1_2 x1_3 x1_4 x1_5
  have hx1_0 : State.Good p x1_0 := (State.resetKeys_good (State.lockPages_good (State.directDrop_good hs)))
  try clear_value x1_0
  have hx1_1 : State.Good p x1_1 := (State.wr_good (State.wrB_good (State.wrB_good hx1_0)))
  try clear_value x1_1
  have hx1_2 : State.Good p x1_2 := (State.modCtx_good (State.wr_good hx1_1))
  try clear_value x1_2
  have hx1_3 : State.Good p x1_3 := (good_core hx1_2 rfl rfl rfl)
  try clear_value x1_3
  have hx1_4 : State.Good p x1_4 := (State.setLatch_good (State.unfreeze_good hx1_3))
  try clear_value x1_4
  have hx1_5 : State.Good p x1_5 := (good_ite (State.unpend_good hx1_4) hx1_4)
  try clear_value x1_5
  exact (State.intRefresh_good (State.arbShow_good hx1_5))

theorem execCtxReset_good {p : List Instr} {a0 s1} (hs1 : State.Good p s1) : OutGood p (execCtxReset a0 s1) := by
  unfold execCtxReset
  exact good_next (State.settle_good (good_ite (State.ctxReset_good hs1) hs1))

theorem State.writeRegs_good {p : List Instr} {s a1 a2 a3} (hs : State.Good p s)
    : State.Good p (State.writeRegs s a1 a2 a3) := by
  unfold State.writeRegs
  exact (good_foldl (fun _ _ h2 => (good_ite (by split; (exact (State.setCqh_good h2)); (exact h2)) (State.regWrite_good h2))) hs)

theorem State.writeRun_good {p : List Instr} {s a1 a2} (hs : State.Good p s) : State.Good p (State.writeRun s a1 a2) := by
  unfold State.writeRun
  extract_lets -merge -useContext x1_0
  exact (good_ite (good_ite (State.ctxReset_good hs) (State.frameEnd_good hs)) (good_ite (State.frameEnd_good
    (State.accept_good (State.writeRegs_good hs))) (State.frameEnd_good hs)))

theorem execWrite_good {p : List Instr} {c f s} (hs : State.Good p s) : OutGood p (execWrite c f s) := by
  unfold execWrite
  exact good_next (State.settle_good (State.frame_good hs (fun _ h => State.writeRun_good h)))

theorem execWriteMasked_good {p : List Instr} {c f s} (hs : State.Good p s) : OutGood p (execWriteMasked c f s) := by
  unfold execWriteMasked
  exact good_next (State.settle_good (State.frame_good hs (fun _ h => State.writeRun_good h)))

theorem State.bellRun_good {p : List Instr} {s a1 a2} (hs : State.Good p s) : State.Good p (State.bellRun s a1 a2) := by
  unfold State.bellRun
  extract_lets -merge -useContext x1_0 x1_1 x1_2
  have hx1_2 : State.Good p x1_2 := (State.wr_good (State.wr_good hs))
  try clear_value x1_2
  exact (good_ite (State.frameEnd_good (State.accept_good (State.modCtx_good hx1_2))) (State.frameEnd_good hs))

theorem execDoorbell_good {p : List Instr} {c f s} (hs : State.Good p s) : OutGood p (execDoorbell c f s) := by
  unfold execDoorbell
  exact good_next (State.settle_good (State.frame_good hs (fun _ h => State.bellRun_good h)))

theorem execViolWindowEnd_good {p : List Instr} {a0 s1} (hs1 : State.Good p s1) : OutGood p (execViolWindowEnd a0 s1) := by
  unfold execViolWindowEnd
  exact good_next (State.settle_good (good_ite (State.wr_good (State.modCtx_good hs1)) hs1))

theorem execRingIrqTimeout_good {p : List Instr} {a0 s1} (hs1 : State.Good p s1)
    : OutGood p (execRingIrqTimeout a0 s1) := by
  unfold execRingIrqTimeout
  exact good_next (State.settle_good (good_ite (State.edge_good (State.modCtx_good hs1)) hs1))

theorem State.letIn_good {p : List Instr} {s a1 a2 a3} (hs : State.Good p s) : State.Good p (State.letIn s a1 a2 a3) := by
  unfold State.letIn
  exact (good_ite (State.complete_good (State.err_good hs)) (good_ite (State.complete_good (State.err_good hs)) (good_ite
    (State.complete_good (State.err_good hs)) (good_ite (State.complete_good (State.err_good hs)) (good_ite
    (State.complete_good hs) (State.askNext_good hs))))))

theorem State.fetch_good {p : List Instr} {s a1 a2} (hs : State.Good p s) : State.Good p (State.fetch s a1 a2) := by
  unfold State.fetch
  extract_lets -merge -useContext x1_0 x1_1 x1_2
  have hx1_0 : State.Good p x1_0 := (State.eccHits_good hs)
  try clear_value x1_0
  exact (by split; (exact hs); (exact (by extract_lets -merge -useContext x3_0 x3_1 x3_2 x3_3; have hx3_0 : State.Good p x3_0.2 := (good_ite2 (State.draw_good hx1_0) hx1_0); try (clear_value x3_0); have hx3_1 : State.Good p x3_1 := (State.wr_good (State.wr_good (State.wr_good hx3_0))); try (clear_value x3_1); have hx3_2 : State.Good p x3_2 := (State.modCtx_good (State.wr_good hx3_1)); try (clear_value x3_2); exact (State.letIn_good (good_core hx3_2 rfl rfl rfl)))))

theorem execCommandFetch_good {p : List Instr} {a0 s1} (hs1 : State.Good p s1) : OutGood p (execCommandFetch a0 s1) := by
  unfold execCommandFetch
  exact good_next (State.settle_good (by split; (exact (State.fetch_good hs1)); (exact hs1)))

theorem State.recWrite_good {p : List Instr} {s a1 a2 a3 a4 a5} (hs : State.Good p s)
    : State.Good p (State.recWrite s a1 a2 a3 a4 a5).1 := by
  unfold State.recWrite
  extract_lets -merge -useContext x1_0
  exact (good_ite1 hs (good_ite1 (State.intRegPut_good hs) (good_ite1 (State.each_good hs (fun _ _ h3 =>
    (State.regWrite_good h3))) (good_ite1 (State.put_good hs) (good_ite1 (State.lenShow_good (State.setW_good hs))
    (State.regWrite_good hs))))))

theorem State.baleRecs_good {p : List Instr} {base nodes imon fail n s i csel keys} (hs : State.Good p s) :
    State.Good p (State.baleRecs base nodes imon fail n s i csel keys).1 := by
  induction n generalizing s i csel keys with
  | zero => exact hs
  | succ n ih => exact good_ite1 hs (ih (State.recWrite_good hs))

theorem State.baleTaken_good {p : List Instr} {s a1 a2} (hs : State.Good p s) : State.Good p (State.baleTaken s a1 a2) := by
  unfold State.baleTaken
  extract_lets -merge -useContext x1_0 x1_1 x1_2 x1_3 x1_4 x1_5
  have hx1_1 : State.Good p x1_1 := (State.wr_good (State.wr_good (State.wr_good (State.wr_good hs))))
  try clear_value x1_1
  have hx1_2 : State.Good p x1_2 := (State.wr_good (State.wr_good hx1_1))
  try clear_value x1_2
  have hx1_3 : State.Good p x1_3 := (good_ite (State.loftKeep_good (State.wr_good hx1_2)) hx1_2)
  try clear_value x1_3
  have hx1_4 : State.Good p x1_4 := (State.thermStart_good (State.chgLeaveAbsent_good (State.wakingEnds_good
    (State.iff_good hx1_3 (fun _ h3 => (State.calLoads_good h3))))))
  try clear_value x1_4
  have hx1_5 : State.Good p x1_5 := (good_core hx1_4 rfl rfl rfl)
  try clear_value x1_5
  exact (good_ite (State.enterParked_good (State.actEnd_good (good_core hx1_5 rfl rfl rfl))) (State.enterRising_good
    (State.actEnd_good hx1_5)))

theorem State.baleFrom_good {p : List Instr} {s a1 a2 a3 a4} (hs : State.Good p s)
    : State.Good p (State.baleFrom s a1 a2 a3 a4) := by
  unfold State.baleFrom
  extract_lets -merge -useContext x1_0 x1_1 x1_2 x1_3
  have hx1_3 : State.Good p x1_3.1 := (State.baleRecs_good hs)
  try clear_value x1_3
  exact (by split; (exact (State.toHold_good hs)); (exact (by split; (exact (State.toHold_good hs)); (exact (by split; (exact (State.toHold_good (State.reject_good hs))); (exact (good_ite (State.toHold_good hs) (good_ite (State.toHold_good hs) (good_ite (State.toHold_good hs) (by split; (exact (State.toHold_good hx1_3)); (exact (by split; (exact (State.toHold_good hx1_3)); (exact (State.baleTaken_good hx1_3))))))))))))))

theorem State.baleLoad_good {p : List Instr} {s a1 a2 a3} (hs : State.Good p s)
    : State.Good p (State.baleLoad s a1 a2 a3) := by
  unfold State.baleLoad
  split
  (exact (State.toHold_good hs))
  (exact (good_ite (State.toHold_good hs) (by split; (exact (State.toHold_good hs)); (exact (by extract_lets -merge -useContext x4_0; have hx4_0 : State.Good p x4_0 := (good_ite hs (State.loftKeep_good (State.wr_good hs))); try (clear_value x4_0); exact (State.baleFrom_good hx4_0))))))

theorem execBaleLoad_good {p : List Instr} {a0 a1 a2 s3} (hs3 : State.Good p s3)
    : OutGood p (execBaleLoad a0 a1 a2 s3) := by
  unfold execBaleLoad
  exact good_next (State.settle_good (good_ite (State.baleLoad_good (State.eccHits_good (State.adcWake_good hs3))) hs3))

end Sys2Proof.Machine
end

