-- ==== Sys2Proof/Laws/Keep10.lean ====
section
/-! SUPPORT. The queue and the two canonical forms, kept by the operations and meanings of Serve, Clock. -/

namespace Sys2Proof.Machine

open Sys2Proof

theorem State.serveDue_good {p : List Instr} {s a1 a2} (hs : State.Good p s) : State.Good p (State.serveDue s a1 a2) := by
  unfold State.serveDue
  split
  (exact (State.feedsLostNow_good hs))
  (exact (State.drainNow_good hs))
  (exact (State.offNow_good hs))
  (exact (State.feedBackNow_good hs))
  (exact (State.onNow_good hs))
  (exact (State.tableDoneNow_good hs))
  (exact (State.tmoNow_good hs))
  (exact (State.standbyNow_good hs))
  (exact (State.serviceNow_good hs))
  (exact (State.svcEndNow_good hs))
  (exact (good_ite (State.warmStart_good hs) hs))
  (exact (good_ite (State.warmStart_good hs) hs))
  (exact (good_ite (State.reachFloor_good hs) hs))
  (exact (good_ite (State.enterRising_good hs) hs))
  (exact (good_ite (State.enterParked_good hs) (State.offNow_good hs)))
  (exact (good_ite (State.restart_good hs) hs))

theorem State.serveRank_good {p : List Instr} {s a1 a2} (hs : State.Good p s) : State.Good p (State.serveRank s a1 a2) := by
  unfold State.serveRank
  exact (good_foldl (fun _ _ h2 => (State.serveDue_good h2)) hs)

theorem State.serveAll_good {p : List Instr} {s} (hs : State.Good p s) : State.Good p (State.serveAll s) := by
  unfold State.serveAll
  extract_lets -merge -useContext x1_0
  have hx1_0 : State.Good p x1_0 := (good_ite (State.enterHoldup_good (good_core hs rfl rfl rfl)) hs)
  try clear_value x1_0
  exact (good_ite (good_foldl (fun _ _ h3 => (State.serveDue_good h3)) (good_core hx1_0 rfl rfl rfl)) (good_foldl (fun _ _
    h4 => (State.serveRank_good h4)) (good_core hs rfl rfl rfl)))

theorem State.serve_good {p : List Instr} {s} (hs : State.Good p s) : State.Good p (State.serve s) := by
  unfold State.serve
  extract_lets -merge -useContext x1_0 x1_1 x1_2
  have hx1_0 : State.Good p x1_0 := (State.owlServe_good hs)
  try clear_value x1_0
  have hx1_1 : State.Good p x1_1 := (good_ite hx1_0 (good_core hx1_0 rfl rfl rfl))
  try clear_value x1_1
  have hx1_2 : State.Good p x1_2 := (State.seqWatch_good (State.holdJudge_good (State.margSync_good (State.serveAll_good
    hx1_1))))
  try clear_value x1_2
  exact (good_ite hs (State.settle_good (State.warmServe_good (State.settle_good (State.iff_good hx1_2 (fun _ h3 =>
    (State.roundNext_good h3)))))))

theorem State.less_good {p : List Instr} {s a1 a2} (hs : State.Good p s) : State.Good p (State.less s a1 a2) := by
  unfold State.less
  exact (good_ite hs (State.wr_good hs))

theorem State.holdupTick_good {p : List Instr} {s} (hs : State.Good p s) : State.Good p (State.holdupTick s) := by
  unfold State.holdupTick
  extract_lets -merge -useContext x1_0
  have hx1_0 : State.Good p x1_0 := (State.less_good hs)
  try clear_value x1_0
  exact (good_ite (good_ite (State.mark_good hx1_0) hx1_0) hs)

theorem State.counts_good {p : List Instr} {s} (hs : State.Good p s) : State.Good p (State.counts s) := by
  unfold State.counts
  extract_lets -merge -useContext x1_0 x1_1 x1_2
  have hx1_0 : State.Good p x1_0 := (good_ite (State.less_good hs) hs)
  try clear_value x1_0
  have hx1_1 : State.Good p x1_1 := (State.each_good hx1_0 (fun _ _ h3 => (good_ite (State.less_good h3) h3)))
  try clear_value x1_1
  have hx1_2 : State.Good p x1_2 := (State.each_good hx1_1 (fun _ _ h4 => (good_ite (State.bump_good h4) h4)))
  try clear_value x1_2
  exact (good_ite (State.bump_good hx1_2) hx1_2)

theorem State.tickOn_good {p : List Instr} {s} (hs : State.Good p s) : State.Good p (State.tickOn s) := by
  unfold State.tickOn
  extract_lets -merge -useContext x1_0 x1_1 x1_2
  have hx1_0 : State.Good p x1_0 := (State.serve_good (State.owlPasses_good (State.ppsEnd_good (State.secondEnd_good hs))))
  try clear_value x1_0
  have hx1_1 : State.Good p x1_1 := (State.lineTick_good (State.oscTick_good (good_core hx1_0 rfl rfl rfl)))
  try clear_value x1_1
  have hx1_2 : State.Good p x1_2 := (good_ite (State.timeTick_good hx1_1) hx1_1)
  try clear_value x1_2
  exact (State.settle_good (good_ite (State.ldrGo_good (State.loftAsk_good (State.twResume_good (State.twResume_good
    (State.counts_good (State.holdupTick_good hx1_2)))))) hx1_2))

end Sys2Proof.Machine
end

