-- ==== Sys2Proof/Laws/PerInstr.lean ====
section
/-! SUPPORT. Statements about commands as syntax. -/

namespace Sys2Proof.Laws

end Sys2Proof.Laws
end

