-- ==== Sys2Proof/Laws/Rows.lean ====
section
/-! SUPPORT. What the shared openings of the rows do: a write that is accepted or refused, and a fetched command that is ready
or absent. -/

namespace Sys2Proof.Machine

open Sys2Proof

theorem State.ifWrites_of {s : State} {c : Fin 8} {a : Nat} {v : Word} (h : s.Accepts c a v) (f : State → State) :
    s.ifWrites c a v f = f s := if_pos h

theorem State.ifWrites_not {s : State} {c : Fin 8} {a : Nat} {v : Word} (h : ¬ s.Accepts c a v) (f : State → State) :
    s.ifWrites c a v f = s := if_neg h

theorem State.ifField_of {s : State} {c : Fin 8} {b : Nat} {f : Fld} {v : Nat} (h : s.AcceptsField c b f v) (g : State → State) :
    s.ifField c b f v g = g s := if_pos h

theorem State.ifField_not {s : State} {c : Fin 8} {b : Nat} {f : Fld} {v : Nat} (h : ¬ s.AcceptsField c b f v)
    (g : State → State) : s.ifField c b f v g = s := if_neg h

theorem State.start_of {s : State} {t : BitVec 8} {op : Nat} {k : Cmd} (h : s.Ready t op k) (f : Cmd → State → State) :
    s.start t op f = f k s := by
  obtain ⟨h1, h2, h3, h4, h5, h6⟩ := h
  have hc : s.canStart k = true := by simp [State.canStart, h3, h4, h5]
  simp only [State.start, h1]
  exact if_pos ⟨h2, hc, h6⟩

theorem State.start_none {s : State} {t : BitVec 8} (h : s.findCmd t.toNat = none) (op : Nat) (f : Cmd → State → State) :
    s.start t op f = s := by simp [State.start, h]

theorem State.start_other {s : State} {t : BitVec 8} {op : Nat} {k : Cmd} (h : s.findCmd t.toNat = some k) (ho : k.op ≠ op)
    (f : Cmd → State → State) : s.start t op f = s := by simp [State.start, h, ho]

end Sys2Proof.Machine
end

