-- ==== Sys2Proof/WellFormed.lean ====
section
/-! DEFINITION. Well-formed commands: what the operands of a command must satisfy beyond their types. -/

namespace Sys2Proof

/-- No number twice. -/
def noRepeat : List Nat → Bool
  | [] => true
  | a :: t => !t.contains a && noRepeat t

/-- The edges applied together name each event once (R362). (DEDUCED, log 43.) -/
def Instr.wf : Instr → Bool
  | .edgeLatchApply es => noRepeat (es.map (fun e => e.1.val))
  | _ => true

end Sys2Proof
end

