-- ==== Sys2Proof/Tests/Slice0.lean ====
section
/-! SUPPORT. Tests of the model: what WellFormed refuses, values the spec writes out, and, for each obligation that has
hypotheses, a state and operands that meet them, clause by clause in the obligation's order. -/

namespace Sys2Proof.Tests

open Sys2Proof Sys2Proof.Machine

-- One theorem at a time: many kernel evaluations at once would each hold a thread's stack.
set_option Elab.async false

theorem test_wf_edge_twice : (Instr.edgeLatchApply [(3, true), (3, false)]).wf = false := by decide
theorem test_wf_edge_once : (Instr.edgeLatchApply [(3, true), (4, false)]).wf = true := by decide

/-! Small states. -/

def inMode (m : Nat) : State := State.reset.wr devB DEV.MODE_CODE m
def unl (p : Nat) (s : State) : State := s.wr (pg p) HDR.LOCK_UNLOCKED 1
/-- A time that began at tick 0, 20,000 s ago. -/
def aged (k : Tmr) (s : State) : State := { s with tick := 20000000000, since := [(k, 0)] }
def cmd (op : Nat) (a0 a1 a2 : Word) : Cmd :=
  { tag := 1, ctx := 0, cookie := 0, quiet := false, op := op, a0 := a0, a1 := a1, a2 := a2, buf := List.replicate 128 0,
    live := true, phase := .waiting, prog := 0, aux := 0, ages := [] }
def withCmd (k : Cmd) (s : State) : State :=
  { s with cmds := [k], grants := Vector.replicate 9 (some ⟨0, .tag 1, 0, 0, 0⟩) }
def frame (h : Word) (body : List Word) (seq : Nat) (rest : List Word) : Frame :=
  { words := (h :: body) ++ [BitVec.ofNat 32 (seq * 0x10000 + frameCrc (h :: body) 16 seq)] ++ rest,
    whole := true, late := false, low := [], hits := [], imon := [], fail := false }
def holder (r : Nat) (g : Grant) (s : State) : State := s.setGrant r (some g)

/-! Values the spec writes out. -/

/-- Chapter 3, the worked tuning at 1.6 MHz, crossover 80 kHz, f0 22.5 kHz, Q 2, ESR zero 199 kHz: KI, KEXP and A1. (Its KP and
KD are computed there from figures rounded on the way.) -/
theorem test_tuning : (fun c : Coef => (c.ki, c.kexp, c.a1)) (lidCoef 1600000 80000 22500 131072 199000 14084) = (141, 5, 8885) := by
  decide +kernel

/-- R313. -/
theorem test_crc16 : crc16 0xFFFF ("123456789".toList.flatMap (fun c => bitsDown 8 c.toNat)) = 0x29B1 := by decide +kernel

/-- R450. -/
theorem test_crc64 : crc64 ("123456789".toList.map (fun c => BitVec.ofNat 8 c.toNat)) = 0x6C40DF5F0B497347 := by decide +kernel

/-- Chapter 27, "What the host reads". -/
theorem test_chipid : State.reset.getW (devB + 0x40) = 0x00B19656 := by decide +kernel

/-- Chapter 27, step 1: HOLD from WAKING, woken by a feed, cause NO_BALE. -/
theorem test_no_bale_mode : (({ State.reset.enterWaking 1 with boot := 5 }.wr devB DEV.MODE_WAKE_CAUSE 0x40).baleLoad
    [] [] false).getW (devB + 0x80) = 0x00014023 := by decide +kernel

/-- Chapter 15, the worked example: FE7 owns group 3 in the slot, and no group has an owner in the others. -/
theorem test_stall_owner : (({ State.reset with slotW := 0x3FF7FFFF } : State).slotOwner 3, ({ State.reset with slotW := 0x3FF7FFFF } : State).slotOwner 2,
  ({ State.reset with slotW := 0x3FFFFFFF } : State).slotOwner 3) = (some 15, none, none) := by decide +kernel

/-- Chapter 23, the read across midnight: 2031-06-30 is a Monday, and the next second is 2031-07-01. -/
theorem test_midnight : (Cal.next ⟨59, 59, 23, 30, 6, 31⟩, weekDay 31 6 30, weekDay 31 7 1) = (⟨0, 0, 0, 1, 7, 31⟩, 1, 2) := by decide

/-- Chapter 16, the nesting example: CLAIM returns 0x00450089. -/
theorem test_claim_word : (match execClaim 1 (((inMode mRUN).intPut 1 0x80 137 true).intPut 1 0x60 137 true |>.setW (intC 1 + 0x188) 0x00004500) with
  | .next u => ((u.ctx 1).data, u.intBit 1 0xA0 137, u.running 1)
  | _ => ([], false, none)) = ([0x00450089], true, some 137) := by decide +kernel

/-- Chapter 17, a second C2 while the first is unanswered: word 0 of the second entry, CAUSE and the mode. -/
theorem test_escalation : (fun u : State => (u.getW (fltB + 0x210), u.getW (fltB + 0x50), u.mode))
    (State.raise1 false ⟨40, 2, some 0, false⟩ (State.raise1 false ⟨3, 2, some 0, false⟩ (inMode mRUN))).settle =
    (0x00A93228, 0x00000328, mSAFE) := by decide +kernel

/-! Hypotheses met. -/

theorem test_wit_PorEntersParked :
    (∃ (s : State), s.wakeLvl.testBit 0 = false) :=
  ⟨State.reset, by decide +kernel⟩

theorem test_wit_WakeSources :
    (∃ (i : Fin 4) (lvl : Bool) (s : State), s.mode = mPARKED ∧ s.rd devB DEV.WAKE_CFG_EN &&& 2 ^ i.val ≠ 0 ∧
      s.wakeLvl.testBit i = !lvl ∧ (s.rd devB DEV.WAKE_CFG_POL).testBit i = lvl) ∧
    (∃ (us : Nat) (s : State), s.bit devB DEV.WAKE_CFG_FLAIL_EN = true ∧ s.mode = mPARKED ∧ 50 ≤ us) ∧
    (∃ (us : Nat) (s : State), s.bit devB DEV.WAKE_CFG_FLAIL_EN = true ∧ s.active = true ∧ 50 ≤ us) ∧
    (∃ (us : Nat) (s : State), (us < 50 ∨ s.bit devB DEV.WAKE_CFG_FLAIL_EN = false)) ∧
    (∃ (s : State), s.holdOver = true ∧ s.wakeDone = false ∧ (s.mode = mHOLD ∨ s.active = true)) ∧
    (∃ (s : State), (s.holdOver = false ∨ s.wakeDone = true)) ∧
    (∃ (s : State), s.mode = mWAKING ∧ s.ran .waking 2500 = true) ∧
    (∃ (s : State), s.mode = mWAKING ∧ s.eng 1 ≠ eHALTED) ∧
    (∃ (s : State), s.tapActs ≠ TapIns.extest) ∧
    (∃ (s : State), s.tapActs ≠ TapIns.extest ∧ s.mode ≠ mFALLOW) ∧
    (∃ (s : State), s.tapActs ≠ TapIns.extest ∧ s.mode = mFALLOW) ∧
    (∃ (s : State), s.tapActs ≠ TapIns.extest ∧ mHOLD ≤ s.mode) :=
  ⟨⟨0, true, (inMode mPARKED).wr devB DEV.WAKE_CFG_EN 1, by decide +kernel⟩,
   ⟨50, (inMode mPARKED).wr devB DEV.WAKE_CFG_FLAIL_EN 1, by decide +kernel⟩,
   ⟨50, (inMode mRUN).wr devB DEV.WAKE_CFG_FLAIL_EN 1, by decide +kernel⟩,
   ⟨49, inMode mRUN, by decide +kernel⟩,
   ⟨aged (.released 0) ((inMode mHOLD).wr devB DEV.WAKE_CFG_HOLDON 1), by decide +kernel⟩,
   ⟨{ inMode mHOLD with wakeDone := true }, by decide +kernel⟩,
   ⟨aged .waking (inMode mWAKING), by decide +kernel⟩,
   ⟨inMode mWAKING, by decide +kernel⟩,
   ⟨inMode mRUN, by decide +kernel⟩,
   ⟨inMode mRUN, by decide +kernel⟩,
   ⟨inMode mFALLOW, by decide +kernel⟩,
   ⟨inMode mRUN, by decide +kernel⟩⟩

theorem test_wit_ModeEndsAndPowerLoss :
    (∃ (s : State), s.mode ≠ mFALLOW) ∧
    (∃ (s : State), s.mode = mFALLOW) ∧
    (∃ (s : State), s.mode = mHOLDUP ∧ s.rd devB DEV.HOLDUP_LEFT_LEFT = 0) ∧
    (∃ (mv : Nat) (us : Nat) (s : State), s.mode = mHOLDUP ∧ mv < s.rd devB DEV.HOLDUP_CFG_FLOOR * 50 ∧ 1000 ≤ us) ∧
    (∃ (mv : Nat) (us : Nat) (s : State), (s.mode ≠ mHOLDUP ∨ s.rd devB DEV.HOLDUP_CFG_FLOOR * 50 ≤ mv ∨ us < 1000)) ∧
    (∃ (s : State), s.mode = mSERVICE ∧ s.lapsed .service = true) ∧
    (∃ (s : State), s.mode = mSERVICE ∧ s.lapsed .service = false) ∧
    (∃ (s : State), s.seqSt = qMINOFF ∧ s.ran .minoff s.minoffUs = true) ∧
    (∃ (s : State), s.mode = mHOLDUP) ∧
    (∃ (s : State), s.mode = mSERVICE) ∧
    (∃ (s : State), s.seqSt = qMINOFF ∧ s.bit devB DEV.STATUS_ON_HELD = true) ∧
    (∃ (s : State), s.frozen = true ∧ s.warmTest = true) ∧
    (∃ (s : State), s.frozen = false) :=
  ⟨⟨inMode mRUN, by decide +kernel⟩,
   ⟨inMode mFALLOW, by decide +kernel⟩,
   ⟨(inMode mHOLDUP).wr devB DEV.HOLDUP_LEFT_LEFT 0, by decide +kernel⟩,
   ⟨6999, 1000, (inMode mHOLDUP).wr devB DEV.HOLDUP_CFG_FLOOR 140, by decide +kernel⟩,
   ⟨7000, 1000, (inMode mHOLDUP).wr devB DEV.HOLDUP_CFG_FLOOR 140, by decide +kernel⟩,
   ⟨aged .service (inMode mSERVICE), by decide +kernel⟩,
   ⟨inMode mSERVICE, by decide +kernel⟩,
   ⟨aged .minoff ((inMode mHOLD).wr seqB SEQ.STATUS_STATE qMINOFF), by decide +kernel⟩,
   ⟨inMode mHOLDUP, by decide +kernel⟩,
   ⟨inMode mSERVICE, by decide +kernel⟩,
   ⟨((inMode mHOLD).wr seqB SEQ.STATUS_STATE qMINOFF).wr devB DEV.STATUS_ON_HELD 1, by decide +kernel⟩,
   ⟨{ (inMode mRUN).wr devB DEV.STATUS_WARM_BUSY 1 with warmTest := true }, by decide +kernel⟩,
   ⟨inMode mRUN, by decide +kernel⟩⟩

theorem test_wit_WakingSteps :
    (∃ (s : State), s.mode = mWAKING ∧ s.boot = 1) ∧
    (∃ (s : State), s.mode = mWAKING ∧ s.boot = 1) ∧
    (∃ (s : State), s.mode = mWAKING ∧ s.boot = 2) ∧
    (∃ (s : State), s.mode = mWAKING ∧ s.boot = 2) ∧
    (∃ (s : State), s.mode = mWAKING ∧ s.boot = 0) ∧
    (∃ (s : State), s.mode = mWAKING ∧ s.boot = 3 ∧ s.eng 7 ≠ eHALTED) ∧
    (∃ (s : State), s.mode = mWAKING ∧ s.boot = 4 ∧ s.eng 7 ≠ eHALTED ∧ (s.stage < uSTAGED ∨ s.grantOf 6 = none)) ∧
    (∃ (s : State), s.mode = mWAKING ∧ s.bit wdgB WDG.STATUS_BOOT_ARMED = true ∧ s.ran .waking 2000000 = true) ∧
    (∃ (s : State), s.mode = mWAKING ∧ 3 ≤ s.boot ∧ s.eng 7 ≠ eHALTED) ∧
    (∃ (s : State), s.mode = mWAKING ∧ s.clk.loaded = false) :=
  ⟨⟨{ inMode mWAKING with boot := 1 }, by decide +kernel⟩,
   ⟨{ inMode mWAKING with boot := 1 }, by decide +kernel⟩,
   ⟨{ inMode mWAKING with boot := 2 }, by decide +kernel⟩,
   ⟨{ inMode mWAKING with boot := 2 }, by decide +kernel⟩,
   ⟨inMode mWAKING, by decide +kernel⟩,
   ⟨{ inMode mWAKING with boot := 3 }, by decide +kernel⟩,
   ⟨{ inMode mWAKING with boot := 4 }, by decide +kernel⟩,
   ⟨aged .waking ((inMode mWAKING).wr wdgB WDG.STATUS_BOOT_ARMED 1), by decide +kernel⟩,
   ⟨{ inMode mWAKING with boot := 3 }, by decide +kernel⟩,
   ⟨inMode mWAKING, by decide +kernel⟩⟩

theorem test_wit_ModeRequestRows :
    (∃ (c : Fin 8) (v : Word) (s : State), s.Accepts c 0x84 (reqWord v 1) ∧ getBits v 16 16 = 0xA5C3 ∧ (s.mode = mSAFE ∨
      s.mode = mHOLD ∨ s.active = true)) ∧
    (∃ (c : Fin 8) (v : Word) (s : State), s.Accepts c 0x84 (reqWord v 2) ∧ getBits v 16 16 = 0xA5C3 ∧ (s.mode = mRUN ∨ s.mode
      = mSTANDBY)) ∧
    (∃ (c : Fin 8) (v : Word) (s : State), s.Accepts c 0x84 (reqWord v 3) ∧ getBits v 16 16 = 0xA5C3 ∧ s.active = true) ∧
    (∃ (c : Fin 8) (v : Word) (s : State), s.Accepts c 0x84 (reqWord v 4) ∧ getBits v 16 16 = 0xA5C3 ∧ (s.mode = mRUN ∨ s.mode
      = mSERVICE) ∧ s.bit (cqeC c) CQE.CTX_PERM_SERVICE = true) ∧
    (∃ (c : Fin 8) (v : Word) (s : State), s.Accepts c 0x84 (reqWord v 5) ∧ getBits v 16 16 = 0xA5C3 ∧ s.mode = mHOLD) ∧
    (∃ (c : Fin 8) (v : Word) (s : State), s.Accepts c 0x84 (reqWord v 6) ∧ getBits v 16 16 = 0xA5C3 ∧ s.mode = mSAFE ∧
      s.anyUnack 3 = false) ∧
    (∃ (c : Fin 8) (v : Word) (s : State), s.Accepts c 0x84 (reqWord v 7) ∧ getBits v 16 16 = 0xA5C3 ∧ s.mode = mHOLD) ∧
    (∃ (c : Fin 8) (v : Word) (s : State), s.Accepts c 0x84 (reqWord v 7) ∧ getBits v 16 16 = 0xA5C3 ∧ s.active = true) ∧
    (∃ (s : State), (s.mode = mRUN ∨ s.mode = mSTANDBY ∨ s.mode = mSERVICE ∨ s.mode = mHOLDUP)) ∧
    (∃ (s : State), s.mode = mHOLD) ∧
    (∃ (s : State), s.mode = mSAFE) ∧
    (∃ (s : State), s.mode ≠ mSAFE) ∧
    (∃ (s : State), s.mode = mSERVICE) ∧
    (∃ (s : State), s.mode = mHOLD) ∧
    (∃ (s : State), s.mode = mRUN) ∧
    (∃ (s : State), s.mode = mSTANDBY ∧ s.seqSt ≠ qSBYIN) ∧
    (∃ (s : State), s.mode = mSTANDBY ∧ s.seqSt = qSBYIN) ∧
    (∃ (s : State), s.mode = mDRAINING) ∧
    (∃ (s : State), s.mode = mRUN) ∧
    (∃ (s : State), s.mode = mSAFE ∧ s.anyUnack 3 = false) ∧
    (∃ (new : Nat), new < 16) ∧
    (∃ (c : Fin 8) (v : Word) (s : State), s.Accepts c 0x84 (reqWord v 1) ∧ getBits v 16 16 ≠ 0xA5C3) ∧
    (∃ (c : Fin 8) (v : Word) (s : State), s.Accepts c 0x84 (reqWord v 4) ∧ s.bit (cqeC c) CQE.CTX_PERM_SERVICE = false) ∧
    (∃ (c : Fin 8) (v : Word) (s : State), s.Accepts c 0x9C v ∧ getBits v 0 1 = 1) ∧
    (∃ (c : Fin 8) (v : Word) (s : State), s.Accepts c 0x9C v ∧ getBits v 3 1 = 1) ∧
    (∃ (c : Fin 8) (v : Word) (s : State), s.mayWrite c 0x9C v = false) :=
  ⟨⟨0, 0xA5C30000, inMode mRUN, by unfold State.Accepts; decide +kernel⟩,
   ⟨0, 0xA5C30000, inMode mSTANDBY, by unfold State.Accepts; decide +kernel⟩,
   ⟨0, 0xA5C30000, inMode mSERVICE, by unfold State.Accepts; decide +kernel⟩,
   ⟨0, 0xA5C30000, (inMode mRUN).wr (cqeC 0) CQE.CTX_PERM_SERVICE 1, by unfold State.Accepts; decide +kernel⟩,
   ⟨0, 0xA5C30000, inMode mHOLD, by unfold State.Accepts; decide +kernel⟩,
   ⟨0, 0xA5C30000, inMode mSAFE, by unfold State.Accepts; decide +kernel⟩,
   ⟨0, 0xA5C30000, inMode mHOLD, by unfold State.Accepts; decide +kernel⟩,
   ⟨0, 0xA5C30000, inMode mRUN, by unfold State.Accepts; decide +kernel⟩,
   ⟨inMode mHOLDUP, by decide +kernel⟩,
   ⟨inMode mHOLD, by decide +kernel⟩,
   ⟨inMode mSAFE, by decide +kernel⟩,
   ⟨inMode mHOLD, by decide +kernel⟩,
   ⟨inMode mSERVICE, by decide +kernel⟩,
   ⟨inMode mHOLD, by decide +kernel⟩,
   ⟨inMode mRUN, by decide +kernel⟩,
   ⟨inMode mSTANDBY, by decide +kernel⟩,
   ⟨(inMode mSTANDBY).wr seqB SEQ.STATUS_STATE qSBYIN, by decide +kernel⟩,
   ⟨inMode mDRAINING, by decide +kernel⟩,
   ⟨inMode mRUN, by decide +kernel⟩,
   ⟨inMode mSAFE, by decide +kernel⟩,
   ⟨15, by decide +kernel⟩,
   ⟨0, 0, inMode mRUN, by unfold State.Accepts; decide +kernel⟩,
   ⟨0, 0xA5C30000, (inMode mRUN).wr (cqeC 0) CQE.CTX_PERM_SERVICE 0, by unfold State.Accepts; decide +kernel⟩,
   ⟨0, 1, (inMode mRUN).wr devB DEV.REPLACE_SRC_SPARE 1, by unfold State.Accepts; decide +kernel⟩,
   ⟨0, 8, inMode mRUN, by unfold State.Accepts; decide +kernel⟩,
   ⟨0, 1, inMode mPARKED, by decide +kernel⟩⟩

theorem test_wit_InternalSupplies :
    (∃ (k : Fin 5) (mv : Nat) (s : State), s.up = true ∧ (k = 1 ∨ k = 2 ∨ k = 4) ∧ s.supOut.testBit k = false ∧ supIn k mv =
      false) ∧
    (∃ (mv : Nat) (s : State), s.mode ≠ mFALLOW ∧ supIn 0 mv = false) ∧
    (∃ (k : Fin 5) (mv : Nat), supIn k mv = true) ∧
    (∃ (k : Fin 5) (mv : Nat) (s : State), s.up = true ∧ s.supOut.testBit k = true ∧ supIn k mv = true) ∧
    (∃ (s : State), s.up = true ∧ s.dieTrip = false) ∧
    (∃ (s : State), s.up = true ∧ s.dieTrip = true) :=
  ⟨⟨4, 0, inMode mRUN, by decide +kernel⟩,
   ⟨0, inMode mRUN, by decide +kernel⟩,
   ⟨4, 2500, by decide +kernel⟩,
   ⟨4, 2500, { inMode mRUN with supOut := 16 }, by decide +kernel⟩,
   ⟨inMode mRUN, by decide +kernel⟩,
   ⟨{ inMode mRUN with dieTrip := true }, by decide +kernel⟩⟩

theorem test_wit_SequencerRows :
    (∃ (s : State), s.fe0Off = false ∧ s.actDue = true ∧ s.stepOp s.seqTab s.seq.pc = 2) ∧
    (∃ (s : State), s.fe0Off = false ∧ s.actDue = true ∧ s.stepOp s.seqTab s.seq.pc = 3) ∧
    (∃ (s : State), s.fe0Off = false ∧ s.actDue = true ∧ s.stepOp s.seqTab s.seq.pc = 4) ∧
    (∃ (imon : List (Fin 56 × Nat)) (s : State), s.fe0Off = false ∧ s.actDue = true ∧ s.stepOp s.seqTab s.seq.pc = 1 ∧ s.bit
      (stepB s.seqTab s.seq.pc) SEQ.STEP_A_PAR = false ∧ ((s.mark .lastAct).enable (s.stepObj s.seqTab s.seq.pc) imon).outEn
      (s.stepObj s.seqTab s.seq.pc) = false) ∧
    (∃ (s : State), s.fe0Off = false ∧ s.actDue = true ∧ s.stepOp s.seqTab s.seq.pc = 7 ∧ s.joins = true) ∧
    (∃ (s : State), s.fe0Off = false ∧ s.actDue = false ∧ s.seqSt ≠ qUNWIND) ∧
    (∃ (s : State), s.fe0Off = false ∧ s.actDue = false ∧ s.seqSt = qUNWIND ∧ s.seqPhase = 0 ∧ s.actFree = true ∧ s.seq.uw =
      []) ∧
    (∃ (s : State), s.fe0Off = true) ∧
    (∃ (k : Fin 64) (s : State), s.fe0Off = false ∧ s.tableRuns = true ∧ s.seq.pends.contains k.val = true ∧ s.stepHolds k =
      true) ∧
    (∃ (s : State), s.fe0Off = false ∧ s.tableRuns = true ∧ s.seqPhase ≠ 0 ∧ s.seqPhase ≠ 3 ∧ s.stepHolds s.seq.pc = true) ∧
    (∃ (s : State), s.fe0Off = false ∧ s.tableRuns = true ∧ s.seqPhase = 3 ∧ s.seq.pends = []) ∧
    (∃ (p : Option (Fin 64)) (s : State), s.fe0Off = false ∧ s.timedOut p = true) ∧
    (∃ (p : Option (Fin 64)) (s : State), s.timedOut p = false) ∧
    (∃ (s : State), s.timedOut none = true ∧ s.rises = true) ∧
    (∃ (s : State), s.timedOut none = true ∧ s.rises = false) ∧
    (∃ (x : Nat) (s : State), s.offInHand = some x ∧ s.seqPhase = 1 ∧ s.fe0Off = false ∧ s.ran .act (s.offTmo x) = true ∧
      s.supv offBELOW x = false) ∧
    (∃ (s : State), s.seqSt = qFLOOR ∧ s.seqPhase = 1 ∧ s.fe0Off = false ∧ s.ran .act s.defTmo = true ∧ s.aboves ≠ []) ∧
    (∃ (s : State), s.seqSt = qFLOOR ∧ s.seqPhase = 2 ∧ s.fe0Off = false ∧ s.ran .second s.tmo2 = true ∧ s.aboves ≠ []) ∧
    (∃ (x : Nat) (s : State), s.seqPhase = 2 ∧ s.seqSt ≠ qFLOOR ∧ s.seqSt ≠ qUNWIND ∧ s.fe0Off = false ∧ s.ran .second s.tmo2
      = true ∧ s.offInHand = some x ∧ s.supv offBELOW x = false ∧ ((s.stuckOut x).err seqB 2 109 (some 1) none).seqSt ≠
      qUNWIND) ∧
    (∃ (x : Nat) (s : State), s.seqSt ≠ qFLOOR ∧ s.offInHand = some x ∧ s.supv offBELOW x = true) ∧
    (∃ (s : State), s.seqSt = qFLOOR ∧ s.aboves = []) ∧
    (∃ (s : State), s.seqSt = qFLOOR) :=
  ⟨⟨aged .delay ((((((inMode mRISING).wr seqB SEQ.STATUS_STATE qUP)).wr (stepB 0 0) SEQ.STEP_A_OP 2).wr (stepB 0 0)
     SEQ.STEP_A_OBJ 0)), by decide +kernel⟩,
   ⟨aged .delay ((((((inMode mRISING).wr seqB SEQ.STATUS_STATE qUP)).wr (stepB 0 0) SEQ.STEP_A_OP 3).wr (stepB 0 0)
     SEQ.STEP_A_OBJ 0)), by decide +kernel⟩,
   ⟨aged .delay ((((((inMode mRISING).wr seqB SEQ.STATUS_STATE qUP)).wr (stepB 0 0) SEQ.STEP_A_OP 4).wr (stepB 0 0)
     SEQ.STEP_A_OBJ 0)), by decide +kernel⟩,
   ⟨[], aged .delay (((((((inMode mRISING).wr seqB SEQ.STATUS_STATE qUP)).wr (stepB 0 0) SEQ.STEP_A_OP 1).wr (stepB 0 0)
     SEQ.STEP_A_OBJ 0)).setW fltB 0), by decide +kernel⟩,
   ⟨aged .delay (((((((inMode mRISING).wr seqB SEQ.STATUS_STATE qUP)).wr (stepB 0 0) SEQ.STEP_A_OP 7).wr (stepB 0 0)
     SEQ.STEP_A_OBJ 0)).wr flailB FLAIL.CFG_JOIN 1), by decide +kernel⟩,
   ⟨inMode mRUN, by decide +kernel⟩,
   ⟨(inMode mRUN).wr seqB SEQ.STATUS_STATE qUNWIND, by decide +kernel⟩,
   ⟨(inMode mRUN).setEng 0 eHALTED, by decide +kernel⟩,
   ⟨0,
     { ((((((inMode mRISING).wr seqB SEQ.STATUS_STATE qUP)).wr (stepB 0 0) SEQ.STEP_A_OP 1).wr (stepB 0 0) SEQ.STEP_A_OBJ 0)).setSupv 0x280 0 true with seq := { SeqHid.reset with pends := [0] } },
     by decide +kernel⟩,
   ⟨(((((((inMode mRISING).wr seqB SEQ.STATUS_STATE qUP)).wr (stepB 0 0) SEQ.STEP_A_OP 1).wr (stepB 0 0) SEQ.STEP_A_OBJ
     0)).setSupv 0x280 0 true).setPhase 1, by decide +kernel⟩,
   ⟨((inMode mRISING).wr seqB SEQ.STATUS_STATE qUP).setPhase 3, by decide +kernel⟩,
   ⟨none, aged .act (((((((inMode mRISING).wr seqB SEQ.STATUS_STATE qUP)).wr (stepB 0 0) SEQ.STEP_A_OP 1).wr (stepB 0 0)
     SEQ.STEP_A_OBJ 0)).setPhase 1), by decide +kernel⟩,
   ⟨some 0, inMode mRUN, by decide +kernel⟩,
   ⟨aged .act (((((((inMode mRISING).wr seqB SEQ.STATUS_STATE qUP)).wr (stepB 0 0) SEQ.STEP_A_OP 1).wr (stepB 0 0)
     SEQ.STEP_A_OBJ 0)).setPhase 1), by decide +kernel⟩,
   ⟨aged .act ((((((inMode mDRAINING).wr seqB SEQ.STATUS_STATE qDOWN).wr (stepB 0 0) SEQ.STEP_A_OP 1).wr (stepB 0 0)
     SEQ.STEP_A_OBJ 0)).setPhase 1), by decide +kernel⟩,
   ⟨0, aged .act ((((((((inMode mRISING).wr seqB SEQ.STATUS_STATE qUP)).wr (stepB 0 0) SEQ.STEP_A_OP 2).wr (stepB 0 0)
     SEQ.STEP_A_OBJ 0)).setPhase 1).setSupv offBELOW 0 false), by decide +kernel⟩,
   ⟨aged .act ((((inMode mDRAINING).wr seqB SEQ.STATUS_STATE qFLOOR).setPhase 1).setSupv offBELOW 0 false), by decide +kernel⟩,
   ⟨aged .second ((((inMode mDRAINING).wr seqB SEQ.STATUS_STATE qFLOOR).setPhase 2).setSupv offBELOW 0 false),
     by decide +kernel⟩,
   ⟨0, aged .second ((((((((inMode mRISING).wr seqB SEQ.STATUS_STATE qUP)).wr (stepB 0 0) SEQ.STEP_A_OP 2).wr (stepB 0 0)
     SEQ.STEP_A_OBJ 0)).setPhase 2).setSupv offBELOW 0 false), by decide +kernel⟩,
   ⟨0, (((((((inMode mRISING).wr seqB SEQ.STATUS_STATE qUP)).wr (stepB 0 0) SEQ.STEP_A_OP 2).wr (stepB 0 0) SEQ.STEP_A_OBJ
     0)).setPhase 2).setSupv offBELOW 0 true, by decide +kernel⟩,
   ⟨(List.range 46).foldl (fun s x => s.setSupv offBELOW x true) ((inMode mDRAINING).wr seqB SEQ.STATUS_STATE qFLOOR),
     by decide +kernel⟩,
   ⟨(inMode mDRAINING).wr seqB SEQ.STATUS_STATE qFLOOR, by decide +kernel⟩⟩

theorem test_wit_SequencerCommands :
    (∃ (t : BitVec 8) (k : Cmd) (s : State), s.Ready t 0x05 k ∧ noArgs k = true ∧ (s.mode = mRUN ∨ s.mode = mSERVICE)) ∧
    (∃ (t : BitVec 8) (k : Cmd) (s : State), s.Ready t 0x05 k ∧ noArgs k = true ∧ (s.mode = mRISING ∨ s.mode = mSTANDBY ∨
      s.mode = mDRAINING)) ∧
    (∃ (t : BitVec 8) (k : Cmd) (s : State), s.Ready t 0x05 k ∧ noArgs k = true ∧ (s.mode = mHOLD ∨ s.mode = mSAFE ∨ s.mode =
      mLOCKOUT)) ∧
    (∃ (t : BitVec 8) (k : Cmd) (s : State), s.Ready t 0x06 k ∧ noArgs k = true ∧ s.mode = mHOLD) ∧
    (∃ (t : BitVec 8) (k : Cmd) (s : State), s.Ready t 0x06 k ∧ noArgs k = true ∧ s.active = true) ∧
    (∃ (t : BitVec 8) (k : Cmd) (s : State), s.Ready t 0x06 k ∧ noArgs k = true ∧ (s.mode = mSAFE ∨ s.mode = mLOCKOUT)) ∧
    (∃ (t : BitVec 8) (k : Cmd) (s : State), s.Ready t 0x07 k ∧ noArgs k = true) ∧
    (∃ (t : BitVec 8) (k : Cmd) (s : State), s.Ready t 0x07 k ∧ noArgs k = false) ∧
    (∃ (c : Fin 8) (k : Fin 64) (v : Word) (s : State), s.Accepts c (seqB + 0x100 + 8 * k + 4) v ∧ s.tabRuns (s.rd seqB
      SEQ.TABSEL_TAB) = false) ∧
    (∃ (c : Fin 8) (k : Fin 64) (v : Word) (s : State), s.Accepts c (seqB + 0x100 + 8 * k) v ∧ s.tabRuns (s.rd seqB
      SEQ.TABSEL_TAB) = false ∧ s.stepBad v = false) ∧
    (∃ (c : Fin 8) (k : Fin 64) (v : Word) (s : State), s.Accepts c (seqB + 0x100 + 8 * k) v ∧ s.tabRuns (s.rd seqB
      SEQ.TABSEL_TAB) = false ∧ s.stepBad v = true) ∧
    (∃ (c : Fin 8) (k : Fin 64) (b : Bool) (v : Word) (s : State), s.Accepts c (seqB + 0x100 + 8 * k + if b then 4 else 0) v ∧
      s.tabRuns (s.rd seqB SEQ.TABSEL_TAB) = true) :=
  ⟨⟨1, cmd 5 0 0 0, withCmd (cmd 5 0 0 0) (inMode mRUN), by unfold State.Ready; decide +kernel⟩,
   ⟨1, cmd 5 0 0 0, withCmd (cmd 5 0 0 0) (inMode mSTANDBY), by unfold State.Ready; decide +kernel⟩,
   ⟨1, cmd 5 0 0 0, withCmd (cmd 5 0 0 0) (inMode mHOLD), by unfold State.Ready; decide +kernel⟩,
   ⟨1, cmd 6 0 0 0, withCmd (cmd 6 0 0 0) (inMode mHOLD), by unfold State.Ready; decide +kernel⟩,
   ⟨1, cmd 6 0 0 0, withCmd (cmd 6 0 0 0) (inMode mRUN), by unfold State.Ready; decide +kernel⟩,
   ⟨1, cmd 6 0 0 0, withCmd (cmd 6 0 0 0) (inMode mSAFE), by unfold State.Ready; decide +kernel⟩,
   ⟨1, cmd 7 0 0 0, withCmd (cmd 7 0 0 0) (inMode mRUN), by unfold State.Ready; decide +kernel⟩,
   ⟨1, cmd 7 1 0 0, withCmd (cmd 7 1 0 0) (inMode mRUN), by unfold State.Ready; decide +kernel⟩,
   ⟨0, 63, 5, unl 0x09 (inMode mRUN), by unfold State.Accepts; decide +kernel⟩,
   ⟨0, 0, 0, unl 0x09 (inMode mRUN), by unfold State.Accepts; decide +kernel⟩,
   ⟨0, 63, 8, unl 0x09 (inMode mRUN), by unfold State.Accepts; decide +kernel⟩,
   ⟨0, 5, true, 0, unl 0x09 ((inMode mRUN).wr seqB SEQ.STATUS_STATE qUP), by unfold State.Accepts; decide +kernel⟩⟩

theorem test_wit_RailControlWrites :
    (∃ (c : Fin 8) (n : Fin 12) (s : State), s.AcceptsField c (rail n) RAIL.CTRL_EN 1 ∧ s.seqWrote n = false ∧ s.held n = true
      ∧ mRISING < s.mode) ∧
    (∃ (c : Fin 8) (n : Fin 12) (s : State), s.AcceptsField c (rail n) RAIL.CTRL_EN 1 ∧ s.seqWrote n = false ∧ s.held n =
      false ∧ s.outSt n ≠ 0 ∧ mRISING < s.mode) ∧
    (∃ (c : Fin 8) (n : Fin 12) (imon : List (Fin 56 × Nat)) (s : State), s.AcceptsField c (rail n) RAIL.CTRL_EN 1 ∧
      s.seqWrote n = false ∧ s.held n = false ∧ s.outSt n = 0 ∧ mRISING < s.mode ∧ (s.railEnable n imon).allPg.mode ≠ mRISING) ∧
    (∃ (n : Fin 12) (s : State), s.seqWrote n = true ∧ s.outEn n = true) ∧
    (∃ (c : Fin 8) (n : Fin 12) (s : State), s.AcceptsField c (rail n) RAIL.CTRL_EN 0 ∧ s.seqWrote n = false ∧ s.outSt n = 0) ∧
    (∃ (c : Fin 8) (n : Fin 12) (s : State), s.AcceptsField c (rail n) RAIL.CTRL_EN 0 ∧ s.seqWrote n = false ∧ s.outSt n ≠ 0) ∧
    (∃ (c : Fin 8) (n : Fin 12) (v : Word) (s : State), s.Accepts c (rail n + 0x44) v ∧ s.rd (rail n) RAIL.VLIM_VMIN ≤ getBits
      v 0 12 ∧ getBits v 0 12 ≤ min 2320 (s.rd (rail n) RAIL.VLIM_VMAX)) ∧
    (∃ (c : Fin 8) (n : Fin 12) (v : Word) (s : State), s.Accepts c (rail n + 0x44) v ∧ min 2320 (s.rd (rail n)
      RAIL.VLIM_VMAX) < getBits v 0 12 ∧ s.rd (rail n) RAIL.VLIM_VMIN ≤ min 2320 (s.rd (rail n) RAIL.VLIM_VMAX)) :=
  ⟨⟨0, 0, (unl 0x10 (inMode mRUN)).wr fltB FLT.STATUS_GHOLD 0xFFFF, by unfold State.AcceptsField; decide +kernel⟩,
   ⟨0, 0, (unl 0x10 (inMode mRUN)).setOutSt 0 3, by unfold State.AcceptsField; decide +kernel⟩,
   ⟨0, 0, [], unl 0x10 (inMode mRUN), by unfold State.AcceptsField; decide +kernel⟩,
   ⟨0, ((unl 0x10 (inMode mRUN)).wr (rail 0) RAIL.CTRL_EN 1).mark (.seqEn 0), by decide +kernel⟩,
   ⟨0, 0, unl 0x10 (inMode mRUN), by unfold State.AcceptsField; decide +kernel⟩,
   ⟨0, 0, (unl 0x10 (inMode mRUN)).setOutSt 0 3, by unfold State.AcceptsField; decide +kernel⟩,
   ⟨0, 0, 1000, ((unl 0x10 (inMode mRUN)).wr (rail 0) RAIL.VLIM_VMAX 2000), by unfold State.Accepts; decide +kernel⟩,
   ⟨0, 0, 2001, ((unl 0x10 (inMode mRUN)).wr (rail 0) RAIL.VLIM_VMAX 2000), by unfold State.Accepts; decide +kernel⟩⟩

theorem test_wit_FswWrite :
    (∃ (c : Fin 8) (n : Fin 12) (v : Word) (s : State), s.Accepts c (rail n + 0x54) v ∧ s.outSt n ≠ 0) ∧
    (∃ (c : Fin 8) (n : Fin 12) (v : Word) (s : State), s.Accepts c (rail n + 0x54) v ∧ s.outSt n = 0 ∧ 250 ≤ getBits v 0 11 ∧
      getBits v 0 11 ≤ 2000) ∧
    (∃ (c : Fin 8) (n : Fin 12) (v : Word) (s : State), s.Accepts c (rail n + 0x54) v ∧ s.outSt n = 0 ∧ getBits v 0 11 < 250) ∧
    (∃ (c : Fin 8) (n : Fin 12) (v : Word) (s : State), s.Accepts c (rail n + 0x54) v ∧ s.outSt n = 0 ∧ 2000 < getBits v 0 11) :=
  ⟨⟨0, 0, 300, (unl 0x10 (inMode mRUN)).setOutSt 0 3, by unfold State.Accepts; decide +kernel⟩,
   ⟨0, 0, 250, unl 0x10 (inMode mRUN), by unfold State.Accepts; decide +kernel⟩,
   ⟨0, 11, 249, unl 0x1B (inMode mRUN), by unfold State.Accepts; decide +kernel⟩,
   ⟨0, 0, 2001, unl 0x10 (inMode mRUN), by unfold State.Accepts; decide +kernel⟩⟩

theorem test_wit_RailLoopRows :
    (∃ (n : Fin 12) (uv : Nat) (s : State), s.outSt n = 1 ∧ (s.railH n).ovOff = false ∧ (s.railH n).vt ≤ uv * 32 / 625) ∧
    (∃ (n : Fin 12) (uv : Nat) (s : State), s.outSt n = 1 ∧ (s.railH n).ovOff = false ∧ uv * 32 / 625 < (s.railH n).vt) ∧
    (∃ (n : Fin 12) (s : State), (s.outSt n ≠ 1 ∨ (s.railH n).ovOff = true)) ∧
    (∃ (s : State), s.up = true) ∧
    (∃ (s : State), s.up = false) ∧
    (∃ (c : Fin 8) (n : Fin 12) (s : State), s.Accepts c (rail n + 0x68) 1 ∧ (s.outSt n = 2 ∨ s.outSt n = 3) ∧ s.bit (rail n)
      RAIL.STATUS_LID_RUN = false ∧ coefOk (s.bank n (1 - s.bankNow n)) = true) ∧
    (∃ (c : Fin 8) (n : Fin 12) (s : State), s.Accepts c (rail n + 0x68) 1 ∧ (s.outSt n = 2 ∨ s.outSt n = 3) ∧ s.bit (rail n)
      RAIL.STATUS_LID_RUN = false ∧ coefOk (s.bank n (1 - s.bankNow n)) = false) ∧
    (∃ (c : Fin 8) (n : Fin 12) (s : State), s.Accepts c (rail n + 0x68) 2 ∧ (s.outSt n = 2 ∨ s.outSt n = 3)) ∧
    (∃ (n : Fin 12) (s : State), 16 ≤ (s.railH n).endRun ∧ (s.railH n).endTold = false) ∧
    (∃ (t : BitVec 8) (k : Cmd) (s : State), s.Ready t 0x01 k) ∧
    (∃ (t : BitVec 8) (k : Cmd) (s : State), s.Ready t 0x02 k) ∧
    (∃ (t : BitVec 8) (k : Cmd) (s : State), s.Ready t 0x01 k ∧ 38 ≤ getBits k.a0 0 6) ∧
    (∃ (t : BitVec 8) (k : Cmd) (s : State), s.Ready t 0x09 k ∧ s.lidRefusal (getBits k.a0 0 4) = none) ∧
    (∃ (t : BitVec 8) (k : Cmd) (s : State), s.Ready t 0x09 k ∧ s.mode ≠ mSERVICE ∧ s.bit (rail (getBits k.a0 0 4))
      RAIL.STATUS_LID_RUN = false ∧ getBits k.a0 0 4 < 12) ∧
    (∃ (n : Fin 12) (s : State), s.bit (rail n) RAIL.STATUS_LID_RUN = true ∧ s.rd (rail n) RAIL.LID_STAT_STATE = 1 ∧ 1 ≤
      (s.railH n).lid.pers) ∧
    (∃ (n : Fin 12) (s : State), s.bit (rail n) RAIL.STATUS_LID_RUN = true ∧ s.rd (rail n) RAIL.LID_STAT_STATE = 2 ∧
      s.lidRuns1 n = false) ∧
    (∃ (n : Fin 12) (s : State), s.bit (rail n) RAIL.STATUS_LID_RUN = true ∧ s.rd (rail n) RAIL.LID_STAT_STATE = 3 ∧ (∀ k ∈
      s.cmds, k.op = 0x09 → s.cmdStopped k = false)) ∧
    (∃ (t : BitVec 8) (k : Cmd) (s : State), s.Ready t 0x0A k ∧ getBits k.a0 0 4 < 12 ∧ s.propFresh (getBits k.a0 0 4)
      (getBits k.a1 0 8) = true ∧ (s.outSt (getBits k.a0 0 4) = 2 ∨ s.outSt (getBits k.a0 0 4) = 3)) ∧
    (∃ (t : BitVec 8) (k : Cmd) (s : State), s.Ready t 0x0A k ∧ s.propFresh (getBits k.a0 0 4) (getBits k.a1 0 8) = false) :=
  ⟨⟨0, 1000000, (unl 0x10 (inMode mRUN)).setOutSt 0 1, by decide +kernel⟩,
   ⟨0, 0, (((unl 0x10 (inMode mRUN)).setOutSt 0 1).modRail 0 (fun h => { h with vt := 20000 })), by decide +kernel⟩,
   ⟨0, inMode mRUN, by decide +kernel⟩,
   ⟨(unl 0x10 (inMode mRUN)).setOutSt 0 3, by decide +kernel⟩,
   ⟨inMode mPARKED, by decide +kernel⟩,
   ⟨0, 0, (unl 0x10 (inMode mRUN)).setOutSt 0 3, by unfold State.Accepts; decide +kernel⟩,
   ⟨0, 0, [0x80, 0x84, 0x88, 0x8C, 0x90, 0x94, 0x98, 0x9C, 0xA0, 0xA4].foldl (fun s k => s.setW (rail 0 + k) 0) ((unl 0x10
     (inMode mRUN)).setOutSt 0 3), by unfold State.Accepts; decide +kernel⟩,
   ⟨0, 0, (unl 0x10 (inMode mRUN)).setOutSt 0 2, by unfold State.Accepts; decide +kernel⟩,
   ⟨0, (inMode mRUN).modRail 0 (fun h => { h with endRun := 16 }), by decide +kernel⟩,
   ⟨1, cmd 1 0 0 0, withCmd (cmd 1 0 0 0) (inMode mRUN), by unfold State.Ready; decide +kernel⟩,
   ⟨1, cmd 2 0 0 3, withCmd (cmd 2 0 0 3) (inMode mRUN), by unfold State.Ready; decide +kernel⟩,
   ⟨1, cmd 1 38 0 0, withCmd (cmd 1 38 0 0) (inMode mRUN), by unfold State.Ready; decide +kernel⟩,
   ⟨1, cmd 9 0 10 0, withCmd (cmd 9 0 10 0) (((inMode mSERVICE).setOutSt 0 3).wr (rail 0) RAIL.STATUS_SS_DONE 1),
     by unfold State.Ready; decide +kernel⟩,
   ⟨1, cmd 9 11 0 0, withCmd (cmd 9 11 0 0) (inMode mRUN), by unfold State.Ready; decide +kernel⟩,
   ⟨0, (((inMode mSERVICE).wr (rail 0) RAIL.STATUS_LID_RUN 1).wr (rail 0) RAIL.LID_STAT_STATE 1).modRail 0 (fun h =>
     { h with lid := { h.lid with pers := 1 } }), by decide +kernel⟩,
   ⟨11, (((inMode mSERVICE).wr (rail 11) RAIL.STATUS_LID_RUN 1).wr (rail 11) RAIL.LID_STAT_STATE 2).modRail 11 (fun h =>
     { h with lid := { h.lid with pers := 1024 } }), by decide +kernel⟩,
   ⟨0, ((inMode mSERVICE).wr (rail 0) RAIL.STATUS_LID_RUN 1).wr (rail 0) RAIL.LID_STAT_STATE 3, by decide +kernel⟩,
   ⟨1, cmd 10 0 0 0, withCmd (cmd 10 0 0 0) (((((inMode mSERVICE).setOutSt 0 3).wr (rail 0) RAIL.STATUS_PROP_VALID 1).wr (rail
     0) RAIL.LID_AGE_SEC 0).modRail 0 (fun h => { h with lid := { h.lid with propV := 20480 } })),
     by unfold State.Ready; decide +kernel⟩,
   ⟨1, cmd 10 0 1 0, withCmd (cmd 10 0 1 0) (((inMode mSERVICE).setOutSt 0 3).wr (rail 0) RAIL.STATUS_SS_DONE 1),
     by unfold State.Ready; decide +kernel⟩⟩

theorem test_wit_SheafRows :
    (∃ (r : Fin 12) (s : State), s.up = true ∧ s.outSt r ≠ 2 ∧ s.outSt r ≠ 3) ∧
    (∃ (r : Fin 12) (s : State), s.up = true ∧ (s.outSt r = 2 ∨ s.outSt r = 3)) ∧
    (∃ (s : State), s.up = false) ∧
    (∃ (r : Fin 12) (s : State), s.up = true ∧ s.vioOut = false ∧ s.outSt r ≠ 3) ∧
    (∃ (s : State), s.up = true ∧ s.vioOut = false) ∧
    (∃ (s : State), s.vioOut = true) ∧
    (∃ (r : Fin 12) (w : HintWin) (s : State), (s.sheafH r).win = some w ∧ w.conf = true ∧ s.ran (.hint r) (orIf0 (s.rd
      (stepCls w.cls) PHX.CLS_A_WIN) 1 / 2) = true) ∧
    (∃ (r : Fin 12) (w : HintWin) (s : State), (s.sheafH r).win = some w ∧ w.conf = false ∧ s.ran (.hint r) (orIf0 (s.rd
      (stepCls w.cls) PHX.CLS_A_WIN) 1 / 2) = true) ∧
    (∃ (r : Fin 12) (w : HintWin) (s : State), (s.sheafH r).win = some w ∧ w.conf = false ∧ s.ran (.hint r) (orIf0 (s.rd
      (stepCls w.cls) PHX.CLS_A_WIN) 1 / 2) = true) ∧
    (∃ (r : Fin 12) (w : HintWin) (s : State), (s.sheafH r).win = some w ∧ s.ran (.hint r) (orIf0 (s.rd (stepCls w.cls)
      PHX.CLS_A_WIN) 1 / 2) = false) ∧
    (∃ (r : Fin 12) (s : State), (s.sheafH r).win = none) ∧
    (∃ (r : Fin 12) (k : Nat) (s : State), s.shedReady r = some k) ∧
    (∃ (r : Fin 12) (s : State), s.shedReady r = none) ∧
    (∃ (r : Fin 12) (s : State), s.rd (sheaf r) PHX.SH_STAT_SST = shSHEDDING ∧ 8 ≤ (s.sheafH r).cyc) ∧
    (∃ (r : Fin 12) (s : State), s.rd (sheaf r) PHX.SH_STAT_SST = shADDING ∧ 8 ≤ (s.sheafH r).cyc) ∧
    (∃ (r : Fin 12) (s : State), s.ran (.shedHold r) (1000 * s.rd (sheaf r) PHX.SH_SHED_HOLD) = true) :=
  ⟨⟨0, inMode mRUN, by decide +kernel⟩,
   ⟨0, (unl 0x10 (inMode mRUN)).setOutSt 0 3, by decide +kernel⟩,
   ⟨inMode mPARKED, by decide +kernel⟩,
   ⟨11, inMode mRUN, by decide +kernel⟩,
   ⟨(unl 0x10 (inMode mRUN)).setOutSt 0 3, by decide +kernel⟩,
   ⟨{ inMode mRUN with vioOut := true }, by decide +kernel⟩,
   ⟨0, ⟨0, true, 0, true⟩, aged (.hint 0) ((inMode mRUN).modSheaf 0 (fun h => { h with win := some ⟨0, true, 0, true⟩ })),
     by decide +kernel⟩,
   ⟨0, ⟨1, true, 5, false⟩, aged (.hint 0) ((inMode mRUN).modSheaf 0 (fun h => { h with win := some ⟨1, true, 5, false⟩ })),
     by decide +kernel⟩,
   ⟨0, ⟨1, true, 5, false⟩, aged (.hint 0) ((inMode mRUN).modSheaf 0 (fun h => { h with win := some ⟨1, true, 5, false⟩ })),
     by decide +kernel⟩,
   ⟨0, ⟨0, true, 0, true⟩, (inMode mRUN).modSheaf 0 (fun h => { h with win := some ⟨0, true, 0, true⟩ }), by decide +kernel⟩,
   ⟨0, inMode mRUN, by decide +kernel⟩,
   ⟨0, 1, ((((((((((unl 0x10 (inMode mRUN)).setOutSt 0 3).wr (rail 0) RAIL.STATUS_SS_DONE 1).wr (sheaf 0) PHX.SH_CFG_SHED_EN
     1).wr (ph 0) PHX.MAP_RAIL 0).wr (ph 1) PHX.MAP_RAIL 0).wr (ph 0) PHX.MAP_ROLE 1).wr (ph 1) PHX.MAP_ROLE 1).wr (ph 1)
     PHX.MAP_SLOT 1).setW (sheaf 0 + 0x10) 1).modSheaf 0 (fun h => { h with dwell := 200000 }), by decide +kernel⟩,
   ⟨0, inMode mRUN, by decide +kernel⟩,
   ⟨0, ((inMode mRUN).wr (sheaf 0) PHX.SH_STAT_SST shSHEDDING).modSheaf 0 (fun h => { h with cyc := 8 }), by decide +kernel⟩,
   ⟨0, ((inMode mRUN).wr (sheaf 0) PHX.SH_STAT_SST shADDING).modSheaf 0 (fun h => { h with cyc := 8 }), by decide +kernel⟩,
   ⟨0, aged (.shedHold 0) ((inMode mRUN).modSheaf 0 (fun h => { h with hold := true })), by decide +kernel⟩⟩

theorem test_wit_PhaseRows :
    (∃ (g : Fin 8) (ns : Nat) (s : State), s.up = true ∧ 25 * orIf0 (s.rd (grp g) PHX.GRP_FILT) 1 ≤ ns) ∧
    (∃ (g : Fin 8) (ns : Nat) (s : State), s.up = true ∧ s.bit (pg 0x0C) (PHX.STATUS_SFLT_LOW.at g) = false ∧ 25 * orIf0 (s.rd
      (grp g) PHX.GRP_FILT) 1 ≤ ns) ∧
    (∃ (g : Fin 8) (ns : Nat) (s : State), ns < 25 * orIf0 (s.rd (grp g) PHX.GRP_FILT) 1) ∧
    (∃ (p : Fin 48) (s : State), s.phRail p < 12 ∧ s.phState p = phACTIVE ∧ s.bit (sheaf (s.phRail p)) PHX.SH_CFG_OOF_EN =
      true ∧ (s.phH p).oofO < orIf0 (s.rd (sheaf (s.phRail p)) PHX.SH_OOF_CNT) 1 ∧ (orIf0 (s.rd (sheaf (s.phRail p))
      PHX.SH_OOF_CNT) 1 ≤ (s.phH p).oofI ∨ orIf0 (s.rd (sheaf (s.phRail p)) PHX.SH_OOF_CNT) 1 ≤ (s.phH p).oofT)) ∧
    (∃ (p : Fin 48) (s : State), s.phRail p < 12 ∧ s.phState p = phACTIVE ∧ s.bit (sheaf (s.phRail p)) PHX.SH_CFG_OOF_EN =
      true ∧ orIf0 (s.rd (sheaf (s.phRail p)) PHX.SH_OOF_CNT) 1 ≤ (s.phH p).oofO) ∧
    (∃ (p : Fin 48) (s : State), s.phState p ≠ phACTIVE) ∧
    (∃ (p : Fin 56) (uv : Nat) (ns : Nat) (s : State), p.val < 48 ∧ s.takesPart p = true ∧ s.phRail p < 12 ∧ s.outSt (s.phRail
      p) = 3 ∧ 5 * s.rd (rail (s.phRail p)) RAIL.OCP_LEB ≤ ns ∧ s.highAt p ns (5 * s.rd (sheaf (s.phRail p))
      PHX.SH_FIRE_TPULSE) = true ∧ s.peakUv p (s.rd (rail (s.phRail p)) RAIL.OCP_IPK) ≤ (uv : Int) ∧ s.bit (rail (s.phRail p))
      RAIL.STATUS_LID_RUN = false) ∧
    (∃ (p : Fin 56) (ns : Nat) (s : State), p.val < 48 ∧ (s.takesPart p = false ∨ ns < 5 * s.rd (rail (s.phRail p))
      RAIL.OCP_LEB)) ∧
    (∃ (p : Fin 56) (uv : Nat) (ns : Nat) (s : State), 48 ≤ p.val ∧ (s.busParts s.busSt).contains p.val = true ∧ s.busRev =
      false ∧ s.highAt p ns 0 = true ∧ min 2000000 (s.imonAt p ((500 * s.rd buscB BUSC.ILIM_IPK : Nat) : Int)) ≤ (uv : Int)) ∧
    (∃ (p : Fin 56) (ma : Int) (s : State), 48 ≤ p.val ∧ (s.busParts s.busSt).contains p.val = true ∧ s.busRev = false ∧
      (s.phH p).pwm ≠ .mid ∧ ma < -((500 * s.rd buscB BUSC.ILIM_NEG : Nat) : Int)) ∧
    (∃ (p : Fin 56) (ma : Int) (s : State), p.val < 48 ∧ s.takesPart p = true ∧ s.phRail p < 12 ∧ s.outSt (s.phRail p) = 3 ∧
      (s.phH p).pwm ≠ .mid ∧ s.bit (rail (s.phRail p)) RAIL.NEGI_NEG_EN = true ∧ (s.railH (s.phRail p)).negFree < 64 ∧ ma <
      -((500 * orIf0 (s.rd (rail (s.phRail p)) RAIL.NEGI_NEG) 1 : Nat) : Int)) ∧
    (∃ (x : Fin 28) (s : State), s.lcntFull x = true ∧ s.ssDue x = false) ∧
    (∃ (x : Fin 28) (s : State), s.lcntFull x = false) ∧
    (∃ (x : Fin 28) (s : State), x.val < 12 ∧ (s.railH x).ovOff = false ∧ s.outSt x = 4 ∧ s.rd (hic x).b (hic x).left = 0) ∧
    (∃ (x : Fin 28) (s : State), 12 ≤ x.val ∧ s.outSt x = 4 ∧ s.rd (hic x).b (hic x).left = 0) ∧
    (∃ (x : Fin 28) (s : State), s.outSt x = 3 ∧ s.ssDoneOf x = true ∧ s.ran (.retry x) (10000 * orIf0 (s.rd (hic x).b (hic
      x).clr) 1) = true) ∧
    (∃ (x : Fin 28) (uv : Nat) (s : State), s.ssDue x = true ∧ s.ssShort x uv = true) ∧
    (∃ (x : Fin 28) (uv : Nat) (s : State), s.ssDue x = true ∧ s.ssShort x uv = false ∧ s.lcntFull x = false) ∧
    (∃ (x : Fin 28) (s : State), s.ssDue x = false) :=
  ⟨⟨7, 100000, inMode mRUN, by decide +kernel⟩,
   ⟨7, 100000, inMode mRUN, by decide +kernel⟩,
   ⟨7, 0, inMode mRUN, by decide +kernel⟩,
   ⟨47, (((((((unl 0x10 (inMode mRUN)).setOutSt 0 3).wr (ph 47) PHX.MAP_RAIL 0).wr (ph 47) PHX.PSTAT_STATE 1)).wr (sheaf 0)
     PHX.SH_CFG_OOF_EN 1).wr (sheaf 0) PHX.SH_OOF_CNT 1).modPh 47 (fun h => { h with oofI := 1 }), by decide +kernel⟩,
   ⟨47, (((((((unl 0x10 (inMode mRUN)).setOutSt 0 3).wr (ph 47) PHX.MAP_RAIL 0).wr (ph 47) PHX.PSTAT_STATE 1)).wr (sheaf 0)
     PHX.SH_CFG_OOF_EN 1).wr (sheaf 0) PHX.SH_OOF_CNT 1).modPh 47 (fun h => { h with oofO := 1 }), by decide +kernel⟩,
   ⟨0, inMode mRUN, by decide +kernel⟩,
   ⟨0, 2000000, 5000, (((((unl 0x10 (inMode mRUN)).setOutSt 0 3).wr (ph 0) PHX.MAP_RAIL 0).wr (ph 0) PHX.PSTAT_STATE 1)).modPh
     0 (fun h => { h with pwm := .run, on := 100000 }), by decide +kernel⟩,
   ⟨0, 0, inMode mRUN, by decide +kernel⟩,
   ⟨48, 2000000, 0, ((inMode mRUN).wr buscB BUSC.STATUS_STATE bFWD).modPh 48 (fun h => { h with pwm := .run, on := 1000 }),
     by decide +kernel⟩,
   ⟨48, -1000000, ((inMode mRUN).wr buscB BUSC.STATUS_STATE bFWD).modPh 48 (fun h => { h with pwm := .run }),
     by decide +kernel⟩,
   ⟨0, -1000000, (((((((unl 0x10 (inMode mRUN)).setOutSt 0 3).wr (ph 0) PHX.MAP_RAIL 0).wr (ph 0) PHX.PSTAT_STATE 1)).wr (rail
     0) RAIL.NEGI_NEG_EN 1).modPh 0 (fun h => { h with pwm := .run })).modRail 0 (fun h => { h with negFree := 0 }),
     by decide +kernel⟩,
   ⟨0, (((unl 0x10 (inMode mRUN)).setOutSt 0 3).wr (rail 0) RAIL.HICCUP_N 2).wr (rail 0) RAIL.HIC_STAT_LCNT 2,
     by decide +kernel⟩,
   ⟨27, inMode mRUN, by decide +kernel⟩,
   ⟨11, (unl 0x1b (inMode mRUN)).setOutSt 11 4, by decide +kernel⟩,
   ⟨12, (inMode mRUN).setOutSt 12 4, by decide +kernel⟩,
   ⟨0, aged (.retry 0) (((unl 0x10 (inMode mRUN)).setOutSt 0 3).wr (rail 0) RAIL.STATUS_SS_DONE 1), by decide +kernel⟩,
   ⟨0, 0, (((unl 0x10 (inMode mRUN)).setOutSt 0 2).wr (rail 0) RAIL.HICCUP_SSHORT_EN 1).modRail 0 (fun h =>
     { h with tau := 100000, vt := 20000, ssLate := false, ssTold := false }), by decide +kernel⟩,
   ⟨0, 1000000, (((unl 0x10 (inMode mRUN)).setOutSt 0 2).wr (rail 0) RAIL.HICCUP_SSHORT_EN 1).modRail 0 (fun h =>
     { h with tau := 100000, vt := 20000, ssLate := false, ssTold := false }), by decide +kernel⟩,
   ⟨12, inMode mRUN, by decide +kernel⟩⟩

theorem test_wit_WindowComparators :
    (∃ (x : Fin 46) (uv : Nat) (vin : Nat) (ns : Nat) (s : State), s.up = true ∧ 28 ≤ x.val ∧ (s.see x uv vin).outEn x = true
      ∧ (s.see x uv vin).follows x = false ∧ (s.see x uv vin).vov x vin < uv * 12800 ∧ 25 * (s.see x uv vin).rd (out x)
      SUPV.OUT_CFG_OVF ≤ ns) ∧
    (∃ (x : Fin 46) (uv : Nat) (vin : Nat) (ns : Nat) (s : State), s.up = true ∧ (s.see x uv vin).follows x = false ∧ (s.see x
      uv vin).outEn x = true ∧ (s.see x uv vin).vov x vin < uv * 12800 ∧ ns < 25 * (s.see x uv vin).rd (out x)
      SUPV.OUT_CFG_OVF) ∧
    (∃ (x : Fin 46) (uv : Nat) (vin : Nat) (s : State), s.up = true ∧ (s.see x uv vin).outEn x = false ∧ (s.see x uv
      vin).forcedNow (.forced x) = false ∧ (s.see x uv vin).bit (out x) SUPV.OUT_CFG_OV_OFF = false) ∧
    (∃ (x : Fin 46) (uv : Nat) (vin : Nat) (us : Nat) (s : State), s.up = true ∧ 12 ≤ x.val ∧ (s.see x uv vin).uvArmed x =
      true ∧ uv * 12800 < (s.see x uv vin).vuv x vin ∧ orIf0 ((s.see x uv vin).rd (out x) SUPV.OUT_CFG_UVF) 1 ≤ us) ∧
    (∃ (x : Fin 46) (uv : Nat) (vin : Nat) (s : State), s.up = true ∧ (s.see x uv vin).uvArmed x = false ∧ (s.see x uv
      vin).forcedNow (.armed x) = false) ∧
    (∃ (x : Fin 46) (uv : Nat) (vin : Nat) (us : Nat) (s : State), s.up = true ∧ (s.see x uv vin).regulates x = true ∧ (s.see
      x uv vin).follows x = false ∧ ((s.see x uv vin).comps x uv vin).inWindow x = true ∧ 10 * (s.see x uv vin).rd (out x)
      SUPV.OUT_CFG_PGD ≤ us ∧ (s.see x uv vin).ran (.ssAt x) (10 * (s.see x uv vin).rd (out x) SUPV.OUT_CFG_PGD) = true) ∧
    (∃ (x : Fin 46) (uv : Nat) (vin : Nat) (s : State), s.up = true ∧ (s.see x uv vin).regulates x = false) ∧
    (∃ (x : Fin 46) (uv : Nat) (s : State), s.up = true ∧ s.follows x = false ∧ 10000 * s.rd (out x) SUPV.OUT_OFF_OFF_TH ≤ uv) ∧
    (∃ (x : Fin 46) (uv : Nat) (s : State), s.up = true ∧ s.follows x = false ∧ uv < 10000 * s.rd (out x) SUPV.OUT_OFF_OFF_TH
      ∧ s.supv offBELOW x = false) :=
  ⟨⟨45, 10000000, 5000000, 100000, ((inMode mRUN).setEn 45 true), by decide +kernel⟩,
   ⟨0, 10000000, 0, 0, (((inMode mRUN).setEn 0 true)).wr (out 0) SUPV.OUT_CFG_OVF 1, by decide +kernel⟩,
   ⟨45, 10000000, 0, (inMode mRUN).wr (out 45) SUPV.OUT_CFG_OV_OFF 0, by decide +kernel⟩,
   ⟨45, 0, 5000000, 1000, ((((inMode mRUN).setEn 45 true)).setOutSt 45 2).wr (out 45) SUPV.OUT_WIN_UV 1, by decide +kernel⟩,
   ⟨0, 0, 0, inMode mRUN, by decide +kernel⟩,
   ⟨45, 5000000, 5000000, 100000, aged (.ssAt 45) ((((inMode mRUN).setEn 45 true)).setOutSt 45 2), by decide +kernel⟩,
   ⟨0, 0, 0, inMode mRUN, by decide +kernel⟩,
   ⟨45, 10000000, inMode mRUN, by decide +kernel⟩,
   ⟨45, 0, ((inMode mRUN).wr (out 45) SUPV.OUT_OFF_OFF_TH 10).setSupv offBELOW 45 false, by decide +kernel⟩⟩

theorem test_wit_DischargeRows :
    (∃ (x : Fin 46) (s : State), s.supv offBELOW x = true ∧ s.ran (.below x) 1000 = true) ∧
    (∃ (x : Fin 46) (s : State), (s.supv offBELOW x = false ∨ s.ran (.below x) 1000 = false)) ∧
    (∃ (c : Fin 8) (x : Fin 46) (s : State), s.AcceptsField c (out x) SUPV.OUT_OFF_DIS_FORCE 1 ∧ (s.wr (out x)
      SUPV.OUT_OFF_DIS_FORCE 1).follows x = false) ∧
    (∃ (x : Fin 46) (s : State), s.refNow x = s.target x ∧ s.ran (.slewEnd x) (s.rd (out x) SUPV.OUT_OFF_SETTLE) = true) ∧
    (∃ (x : Fin 46) (s : State), (s.refNow x ≠ s.target x ∨ s.ran (.slewEnd x) (s.rd (out x) SUPV.OUT_OFF_SETTLE) = false)) ∧
    (∃ (mv : Nat) (us : Nat) (s : State), s.up = true ∧ mv < 10 * s.rd supvB SUPV.VBAK_THR_WEAK ∧ 100000 ≤ us) ∧
    (∃ (mv : Nat) (us : Nat) (s : State), (10 * s.rd supvB SUPV.VBAK_THR_WEAK ≤ mv ∨ us < 100000)) :=
  ⟨⟨45, aged (.below 45) ((inMode mRUN).setSupv offBELOW 45 true), by decide +kernel⟩,
   ⟨0, (inMode mRUN).setSupv offBELOW 0 false, by decide +kernel⟩,
   ⟨0, 0, unl 8 (inMode mRUN), by unfold State.AcceptsField; decide +kernel⟩,
   ⟨45, aged (.slewEnd 45) (inMode mRUN), by decide +kernel⟩,
   ⟨0, inMode mRUN, by decide +kernel⟩,
   ⟨0, 100000, (inMode mRUN).wr supvB SUPV.VBAK_THR_WEAK 1, by decide +kernel⟩,
   ⟨5000, 0, inMode mRUN, by decide +kernel⟩⟩

theorem test_wit_BuckRows :
    (∃ (c : Fin 8) (n : Fin 16) (s : State), s.AcceptsField c (bk n) BUCK.BK_CTRL_EN 1 ∧ s.seqWrote (12 + n) = false ∧ s.held
      (12 + n) = false ∧ s.follows (12 + n) = false ∧ s.outSt (12 + n) = 0 ∧ mRISING < s.mode) ∧
    (∃ (c : Fin 8) (n : Fin 16) (s : State), s.AcceptsField c (bk n) BUCK.BK_CTRL_EN 0 ∧ s.seqWrote (12 + n) = false ∧ s.outSt
      (12 + n) ≠ 0 ∧ s.follows (12 + n) = false) ∧
    (∃ (c : Fin 8) (n : Fin 16) (s : State), s.AcceptsField c (bk n) BUCK.BK_CTRL_EN 0 ∧ s.seqWrote (12 + n) = false ∧ s.outSt
      (12 + n) = 0) ∧
    (∃ (n : Fin 16) (uv : Nat) (s : State), s.outSt (12 + n) = 1 ∧ (s.buckH n).vt ≤ uv * 16 / 625) ∧
    (∃ (n : Fin 16) (uv : Nat) (s : State), s.outSt (12 + n) = 1 ∧ uv * 16 / 625 < (s.buckH n).vt) ∧
    (∃ (n : Fin 16) (s : State), s.outSt (12 + n) ≠ 1) ∧
    (∃ (n : Fin 16) (s : State), s.outSt (12 + n) ≠ 2 ∧ s.outSt (12 + n) ≠ 3 ∧ s.follows (13 + n) = false) ∧
    (∃ (n : Fin 16) (ma : Nat) (s : State), s.lead (12 + n) = 12 + n.val ∧ s.outSt (12 + n) = 3 ∧ (s.buckH n).sw = .run ∧ 100
      * (s.buckH n).ipk ≤ ma) ∧
    (∃ (n : Fin 16) (ma : Nat) (s : State), ma < 100 * (s.buckH n).ipk) ∧
    (∃ (c : Fin 8) (k : Fin 8) (s : State), s.AcceptsField c (bk (2 * k)) BUCK.BK_CTRL_PAR 0 ∧ s.outSt (12 + 2 * k) = 0 ∧
      s.outSt (13 + 2 * k) = 6) ∧
    (∃ (c : Fin 8) (k : Fin 8) (s : State), s.AcceptsField c (bk (2 * k)) BUCK.BK_CTRL_PAR 1 ∧ s.outSt (12 + 2 * k) = 0 ∧
      s.outSt (13 + 2 * k) = 0) ∧
    (∃ (c : Fin 8) (k : Fin 8) (b : Bool) (s : State), s.AcceptsField c (bk (2 * k)) BUCK.BK_CTRL_PAR (if b then 1 else 0) ∧
      s.outSt (12 + 2 * k) ≠ 0) ∧
    (∃ (n : Fin 16) (s : State), s.bit (pg 0x20) BUCK.CLK_STAGGER = true ∧ s.follows (12 + n) = false) ∧
    (∃ (n : Fin 16) (s : State), s.bit (pg 0x20) BUCK.CLK_STAGGER = true ∧ s.follows (12 + n) = true ∧ 1 ≤ n.val) ∧
    (∃ (s : State), s.bit (pg 0x20) BUCK.CLK_STAGGER = false) :=
  ⟨⟨0, 0, unl 0x1D (inMode mRUN), by unfold State.AcceptsField; decide +kernel⟩,
   ⟨0, 0, (unl 0x1D (inMode mRUN)).setOutSt 12 3, by unfold State.AcceptsField; decide +kernel⟩,
   ⟨0, 15, unl 0x1E (inMode mRUN), by unfold State.AcceptsField; decide +kernel⟩,
   ⟨0, 1000000, (unl 0x1D (inMode mRUN)).setOutSt 12 1, by decide +kernel⟩,
   ⟨0, 0, ((unl 0x1D (inMode mRUN)).setOutSt 12 1).modBuck 0 (fun h => { h with vt := 20000 }), by decide +kernel⟩,
   ⟨0, inMode mRUN, by decide +kernel⟩,
   ⟨0, inMode mRUN, by decide +kernel⟩,
   ⟨15, 100000, ((inMode mRUN).setOutSt 27 3).modBuck 15 (fun h => { h with sw := .run }), by decide +kernel⟩,
   ⟨15, 0, (inMode mRUN).modBuck 15 (fun h => { h with ipk := 10 }), by decide +kernel⟩,
   ⟨0, 7, ((unl 0x21 (inMode mRUN)).setOutSt 27 6), by unfold State.AcceptsField; decide +kernel⟩,
   ⟨0, 7, unl 0x21 (inMode mRUN), by unfold State.AcceptsField; decide +kernel⟩,
   ⟨0, 0, true, (unl 0x20 (inMode mRUN)).setOutSt 12 3, by unfold State.AcceptsField; decide +kernel⟩,
   ⟨15, inMode mRUN, by decide +kernel⟩,
   ⟨1, (inMode mRUN).wr (bk 0) BUCK.BK_CTRL_PAR 1, by decide +kernel⟩,
   ⟨(inMode mRUN).wr (pg 0x20) BUCK.CLK_STAGGER 0, by decide +kernel⟩⟩

theorem test_wit_LdoAndSwitchRows :
    (∃ (c : Fin 8) (j : Fin 10) (s : State), s.AcceptsField c (ldo j) LDO.LDO_CTRL_EN 1 ∧ s.seqWrote (28 + j) = false ∧ s.held
      (28 + j) = false ∧ j ≠ 0 ∧ s.outSt (28 + j) = 0 ∧ mRISING < s.mode) ∧
    (∃ (c : Fin 8) (s : State), s.AcceptsField c (ldo 0) LDO.LDO_CTRL_EN 1 ∧ s.seqWrote 28 = false ∧ s.held 28 = false ∧
      s.outSt 28 = 0 ∧ s.mode ≠ mRISING) ∧
    (∃ (c : Fin 8) (j : Fin 10) (s : State), s.AcceptsField c (ldo j) LDO.LDO_CTRL_EN 0 ∧ s.seqWrote (28 + j) = false ∧
      s.outSt (28 + j) ≠ 0) ∧
    (∃ (c : Fin 8) (j : Fin 10) (s : State), s.AcceptsField c (ldo j) LDO.LDO_CTRL_EN 0 ∧ s.seqWrote (28 + j) = false ∧
      s.outSt (28 + j) = 0) ∧
    (∃ (j : Fin 10) (s : State), s.outSt (28 + j) = 1 ∧ (∀ k ∈ s.cmds, moves (28 + j) k = false) ∧ s.ran (.rise (28 + j)) (10
      * orIf0 (s.rd (ldo j) LDO.LDO_CTRL_SS_T) 1) = true) ∧
    (∃ (j : Fin 10) (s : State), s.outSt (28 + j) ≠ 1) ∧
    (∃ (j : Fin 10) (ma : Nat) (vin : Nat) (us : Nat) (s : State), (s.ldoSee j ma vin).ldoRuns (28 + j) = true ∧ (s.ldoSee j
      ma vin).bit (ldo j) LDO.LDO_STAT_LIMITING = true ∧ (s.ldoSee j ma vin).ldoLimUs j ≤ us) ∧
    (∃ (j : Fin 10) (ma : Nat) (vin : Nat) (s : State), (s.ldoSee j ma vin).bit (ldo j) LDO.LDO_STAT_LIMITING = false) ∧
    (∃ (mv : Nat) (us : Nat) (s : State), s.up = true ∧ s.ldoRuns 28 = true ∧ s.ldoMv 0 + s.headroom ≤ mv ∧ 100 ≤ us) ∧
    (∃ (mv : Nat) (us : Nat) (s : State), (mv < s.ldoMv 0 + s.headroom ∨ us < 100)) ∧
    (∃ (mv : Nat) (s : State), s.up = true ∧ s.ldoRuns 28 = true ∧ 2 * mv < 2 * s.ldoMv 0 + s.headroom) ∧
    (∃ (ma : Nat) (us : Nat) (s : State), s.ldoRuns 28 = true ∧ s.bit (ldo 0) LDO.LDO_STAT_KA = true ∧ s.up = true ∧ 50 ≤ ma ∧
      s.ldoLimUs 0 ≤ us) ∧
    (∃ (ma : Nat) (us : Nat) (s : State), s.ldoRuns 28 = true ∧ s.bit (ldo 0) LDO.LDO_STAT_KA = true ∧ s.up = false ∧ 50 ≤ ma
      ∧ s.ldoLimUs 0 ≤ us) ∧
    (∃ (c : Fin 8) (k : Fin 8) (s : State), s.AcceptsField c (ls k) LDO.LS_CTRL_EN 1 ∧ s.seqWrote (38 + k) = false ∧ s.held
      (38 + k) = false ∧ s.outSt (38 + k) = 0 ∧ s.atInput (38 + k) = false ∧ mRISING < s.mode) ∧
    (∃ (c : Fin 8) (k : Fin 8) (s : State), s.AcceptsField c (ls k) LDO.LS_CTRL_EN 1 ∧ s.seqWrote (38 + k) = false ∧ s.held
      (38 + k) = false ∧ s.outSt (38 + k) = 0 ∧ s.atInput (38 + k) = true ∧ mRISING < s.mode) ∧
    (∃ (c : Fin 8) (k : Fin 8) (s : State), s.AcceptsField c (ls k) LDO.LS_CTRL_EN 0 ∧ s.seqWrote (38 + k) = false ∧ s.outSt
      (38 + k) ≠ 0) ∧
    (∃ (k : Fin 8) (uv : Nat) (vin : Nat) (s : State), s.outSt (38 + k) = 1 ∧ vin ≤ uv ∧ s.bit (ls k) LDO.LS_STAT_REV_BLOCK =
      false) ∧
    (∃ (uv : Nat) (vin : Nat), uv < vin) ∧
    (∃ (k : Fin 8) (ma : Int) (us : Nat) (s : State), (s.lsSee k ma).lsRuns k = true ∧ (s.lsSee k ma).bit (ls k)
      LDO.LS_STAT_LIMITING = true ∧ 100 * orIf0 (s.rd (ls k) LDO.LS_ILIM_FLT_T) 1 ≤ us) ∧
    (∃ (k : Fin 8) (us : Nat) (s : State), us < 100 * orIf0 (s.rd (ls k) LDO.LS_ILIM_FLT_T) 1) ∧
    (∃ (k : Fin 8) (ma : Int) (s : State), (s.outSt (38 + k) = 1 ∨ s.outSt (38 + k) = 2) ∧ ((2 * s.lsLim k : Nat) : Int) < ma) ∧
    (∃ (k : Fin 8) (ma : Int) (s : State), ma ≤ ((2 * s.lsLim k : Nat) : Int)) ∧
    (∃ (k : Fin 8) (uv : Nat) (vin : Nat) (s : State), s.outSt (38 + k) = 2 ∧ s.bit (ls k) LDO.LS_CTRL_REV_EN = true ∧ s.bit
      (ls k) LDO.LS_STAT_REV_BLOCK = false ∧ vin + 50000 < uv) ∧
    (∃ (uv : Nat) (vin : Nat), uv ≤ vin + 50000) ∧
    (∃ (k : Fin 8) (uv : Nat) (vin : Nat) (s : State), s.bit (ls k) LDO.LS_STAT_REV_BLOCK = true ∧ uv ≤ vin + 50000) :=
  ⟨⟨0, 9, unl 0x1F (inMode mRUN), by unfold State.AcceptsField; decide +kernel⟩,
   ⟨0, unl 0x1F (inMode mRUN), by unfold State.AcceptsField; decide +kernel⟩,
   ⟨0, 0, (unl 0x1F (inMode mRUN)).setOutSt 28 2, by unfold State.AcceptsField; decide +kernel⟩,
   ⟨0, 9, unl 0x1F (inMode mRUN), by unfold State.AcceptsField; decide +kernel⟩,
   ⟨9, aged (.rise 37) ((inMode mRUN).setOutSt 37 1), by decide +kernel⟩,
   ⟨9, inMode mRUN, by decide +kernel⟩,
   ⟨9, 10000, 5000, 100000, (inMode mRUN).setOutSt 37 2, by
    unfold State.ldoSee
    generalize (decide (5000 < State.ldoMv _ _ + Config.dropout _)) = b
    cases b <;> decide +kernel⟩,
   ⟨9, 0, 5000, (inMode mRUN).setOutSt 37 2, by
    unfold State.ldoSee
    generalize (decide (5000 < State.ldoMv _ _ + Config.dropout _)) = b
    cases b <;> decide +kernel⟩,
   ⟨10000, 100, ((inMode mRUN).setOutSt 28 2).wr (ldo 0) LDO.LDO_STAT_KA 1, by decide +kernel⟩,
   ⟨0, 0, inMode mRUN, by decide +kernel⟩,
   ⟨0, (((inMode mRUN).setOutSt 28 2).wr (ldo 0) LDO.LDO_STAT_KA 1).wr (ldo 0) LDO.LDO_VSET_CODE 300, by decide +kernel⟩,
   ⟨60, 100000, ((inMode mRUN).setOutSt 28 2).wr (ldo 0) LDO.LDO_STAT_KA 1, by decide +kernel⟩,
   ⟨60, 100000, ((inMode mPARKED).setOutSt 28 2).wr (ldo 0) LDO.LDO_STAT_KA 1, by decide +kernel⟩,
   ⟨0, 7, unl 0x1F (inMode mRUN), by unfold State.AcceptsField; decide +kernel⟩,
   ⟨0, 7, (unl 0x1F (inMode mRUN)).see 45 5000000 4000000, by unfold State.AcceptsField; decide +kernel⟩,
   ⟨0, 0, (unl 0x1F (inMode mRUN)).setOutSt 38 2, by unfold State.AcceptsField; decide +kernel⟩,
   ⟨7, 5000000, 5000000, (inMode mRUN).setOutSt 45 1, by decide +kernel⟩,
   ⟨0, 5000000, by decide +kernel⟩,
   ⟨7, 100000, 1000000, (inMode mRUN).setOutSt 45 2, by decide +kernel⟩,
   ⟨7, 0, (inMode mRUN).setOutSt 45 2, by decide +kernel⟩,
   ⟨0, 100000, (inMode mRUN).setOutSt 38 1, by decide +kernel⟩,
   ⟨0, 0, (inMode mRUN).setOutSt 38 1, by decide +kernel⟩,
   ⟨7, 6000000, 5000000, ((inMode mRUN).setOutSt 45 2).wr (ls 7) LDO.LS_CTRL_REV_EN 1, by decide +kernel⟩,
   ⟨0, 5000000, by decide +kernel⟩,
   ⟨0, 0, 5000000, ((inMode mRUN).setOutSt 38 2).wr (ls 0) LDO.LS_STAT_REV_BLOCK 1, by decide +kernel⟩⟩

theorem test_wit_PortRows :
    (∃ (p : Fin 2) (mv : Nat) (s : State), mHOLD ≤ s.mode ∧ s.portSt p = pABSENT ∧ s.presMv p < mv) ∧
    (∃ (p : Fin 2) (mv : Nat) (s : State), mHOLD ≤ s.mode ∧ mv ≤ s.presMv p) ∧
    (∃ (p : Fin 2) (mv : Nat) (s : State), mHOLD ≤ s.mode ∧ s.portSt p = pCONFIRMING ∧ mv < s.presMv p) ∧
    (∃ (p : Fin 2) (s : State), s.up = true ∧ s.portSt p = pCONFIRMING ∧ s.ran (.ret p) (1000 * orIf0 (s.rd (port p)
      PORT.P_TIME_RETURN) 1) = true ∧ s.session = false ∧ s.bit (port p) PORT.P_CFG_BLOCK = false) ∧
    (∃ (p : Fin 2) (s : State), s.up = true ∧ s.portSt p = pCONFIRMING ∧ s.ran (.ret p) (1000 * orIf0 (s.rd (port p)
      PORT.P_TIME_RETURN) 1) = true ∧ s.bit (port p) PORT.P_CFG_BLOCK = true) ∧
    (∃ (p : Fin 2) (uv : Int) (s : State), s.up = true ∧ s.portSt p = pSTANDBY ∧ 0 < uv) ∧
    (∃ (uv : Int), uv ≤ 0) ∧
    (∃ (p : Fin 2) (mv : Nat) (s : State), s.up = true ∧ (s.portSt p = pON ∨ s.portSt p = pSTANDBY ∨ s.portSt p = pBLOCKED) ∧
      mv < s.lossMv p) ∧
    (∃ (p : Fin 2) (mv : Nat) (s : State), s.up = true ∧ s.lossMv p ≤ mv) ∧
    (∃ (p : Fin 2) (mv : Nat) (s : State), s.up = true ∧ s.portSt p = pLOSING ∧ s.lossMv p < mv) ∧
    (∃ (p : Fin 2) (s : State), s.up = true ∧ s.portSt p = pLOSING ∧ s.ran (.conf p) (orIf0 (s.rd (port p)
      PORT.P_TIME_CONFIRM) 1) = true) ∧
    (∃ (p : Fin 2) (s : State), s.ran (.conf p) (orIf0 (s.rd (port p) PORT.P_TIME_CONFIRM) 1) = false) ∧
    (∃ (p : Fin 3) (uv : Int) (s : State), s.up = true ∧ p.val < 2 ∧ s.portSt p = pON ∧ uv < -((1000 * s.rd (port p)
      PORT.P_CFG_REV_MV : Nat) : Int)) ∧
    (∃ (uv : Int) (s : State), s.up = true ∧ s.rd portB PORT.STATUS_N_ST = 2 ∧ uv < -((1000 * s.rd portB PORT.NCFG_REV_MV :
      Nat) : Int)) ∧
    (∃ (uv : Int), 0 ≤ uv) ∧
    (∃ (p : Fin 3) (mv : Nat) (us : Nat) (s : State), s.up = true ∧ p.val < 2 ∧ s.portSt p ≠ pDISABLED ∧ s.portOvMv < mv ∧ 2 ≤
      us) ∧
    (∃ (mv : Nat) (us : Nat) (s : State), (mv ≤ s.portOvMv ∨ us < 2)) ∧
    (∃ (p : Fin 3) (mv : Nat) (s : State), s.up = true ∧ p.val < 2 ∧ s.portSt p = pOVOFF ∧ mv + s.portHysMv < s.portOvMv) ∧
    (∃ (mv : Nat) (s : State), s.up = true ∧ s.rd portB PORT.STATUS_N_ST = 6 ∧ mv + s.portHysMv < s.portOvMv) ∧
    (∃ (c : Fin 8) (p : Fin 3) (s : State), p.val < 2 ∧ s.AcceptsField c (port p) PORT.P_CFG_EN 0) ∧
    (∃ (c : Fin 8) (p : Fin 3) (s : State), p.val < 2 ∧ s.AcceptsField c (port p) PORT.P_CFG_EN 1 ∧ s.portSt p = pDISABLED ∧
      (s.wrB (port p) PORT.P_CFG_EN true).portSt p = pDISABLED) ∧
    (∃ (c : Fin 8) (p : Fin 2) (s : State), s.AcceptsField c (port p) PORT.P_CFG_BLOCK 1 ∧ s.otherConducts p = false) ∧
    (∃ (c : Fin 8) (p : Fin 2) (s : State), s.AcceptsField c (port p) PORT.P_CFG_BLOCK 1 ∧ s.otherConducts p = true) :=
  ⟨⟨1, 50000, inMode mRUN, by decide +kernel⟩,
   ⟨1, 0, inMode mRUN, by decide +kernel⟩,
   ⟨0, 0, ((((inMode mRUN).setPort 0 pCONFIRMING).wr (port 0) PORT.P_THR_PRES 720).wr (port 0) PORT.P_THR_LOSS 600),
     by decide +kernel⟩,
   ⟨0, aged (.ret 0) ((inMode mRUN).setPort 0 pCONFIRMING), by decide +kernel⟩,
   ⟨1, aged (.ret 1) (((inMode mRUN).setPort 1 pCONFIRMING).wr (port 1) PORT.P_CFG_BLOCK 1), by decide +kernel⟩,
   ⟨0, 1, (inMode mRUN).setPort 0 pSTANDBY, by decide +kernel⟩,
   ⟨0, by decide +kernel⟩,
   ⟨1, 0, ((((inMode mRUN).setPort 1 pON).wr (port 1) PORT.P_THR_PRES 720).wr (port 1) PORT.P_THR_LOSS 600),
     by decide +kernel⟩,
   ⟨0, 50000, (((inMode mRUN).wr (port 0) PORT.P_THR_PRES 720).wr (port 0) PORT.P_THR_LOSS 600), by decide +kernel⟩,
   ⟨0, 50000, ((((inMode mRUN).setPort 0 pLOSING).wr (port 0) PORT.P_THR_PRES 720).wr (port 0) PORT.P_THR_LOSS 600),
     by decide +kernel⟩,
   ⟨1, aged (.conf 1) ((inMode mRUN).setPort 1 pLOSING), by decide +kernel⟩,
   ⟨1, (inMode mRUN).setPort 1 pLOSING, by decide +kernel⟩,
   ⟨0, -1000000, (inMode mRUN).setPort 0 pON, by decide +kernel⟩,
   ⟨-1000000, (inMode mRUN).wr portB PORT.STATUS_N_ST 2, by decide +kernel⟩,
   ⟨0, by decide +kernel⟩,
   ⟨1, 1000000, 2, (inMode mRUN).setPort 1 pON, by decide +kernel⟩,
   ⟨0, 2, (inMode mRUN).setPort 1 pON, by decide +kernel⟩,
   ⟨1, 0, (inMode mRUN).setPort 1 pOVOFF, by decide +kernel⟩,
   ⟨0, (inMode mRUN).wr portB PORT.STATUS_N_ST 6, by decide +kernel⟩,
   ⟨0, 1, unl 0x1E (inMode mRUN), by unfold State.AcceptsField; decide +kernel⟩,
   ⟨0, 0, unl 0x1E ((inMode mRUN).setPort 0 pDISABLED), by unfold State.AcceptsField; decide +kernel⟩,
   ⟨0, 0, unl 0x1D (inMode mRUN), by unfold State.AcceptsField; decide +kernel⟩,
   ⟨0, 0, ((unl 0x1D (inMode mRUN)).setPort 1 pSTANDBY).setPort 0 pON, by unfold State.AcceptsField; decide +kernel⟩⟩

theorem test_wit_StartupPathAndVbus :
    (∃ (s : State), s.mode = mFALLOW ∧ s.busSt = bOFF) ∧
    (∃ (s : State), s.busSt = bOFF ∧ s.mode = mFALLOW) ∧
    (∃ (s : State), s.mode = mPARKED) ∧
    (∃ (s : State), s.mode = mPARKED) ∧
    (∃ (mv : Nat) (s : State), s.mode = mPARKED ∧ 36000 < mv) ∧
    (∃ (mv : Nat) (s : State), s.mode = mPARKED ∧ mv ≤ 36000) ∧
    (∃ (ma : Nat) (s : State), s.busSt = bCSTART ∧ (s.mode = mPARKED ∨ s.mode = mFALLOW) ∧ 100 < ma) ∧
    (∃ (s : State), s.busSt = bFSTART ∧ s.fstartOver = true) ∧
    (∃ (s : State), s.busSt = bFSTART ∧ s.fstartOver = false) ∧
    (∃ (mv : Nat) (us : Nat) (s : State), mv + 1000 ≤ s.vbusOvMv ∧ 1000 ≤ us) ∧
    (∃ (mv : Nat) (us : Nat) (s : State), (s.vbusOvMv < mv + 1000 ∨ us < 1000)) ∧
    (∃ (mv : Nat) (us : Nat) (s : State), s.up = true ∧ mv < 50 * s.rd supvB SUPV.VBUS_THR_UV ∧ 20 ≤ us) ∧
    (∃ (mv : Nat) (us : Nat) (s : State), (50 * s.rd supvB SUPV.VBUS_THR_UV ≤ mv ∨ us < 20)) ∧
    (∃ (mv : Nat) (us : Nat) (s : State), s.up = true ∧ s.vbusOvMv < mv ∧ 5 ≤ us) ∧
    (∃ (mv : Nat) (us : Nat) (s : State), (mv ≤ s.vbusOvMv ∨ us < 5)) :=
  ⟨⟨inMode mFALLOW, by decide +kernel⟩,
   ⟨inMode mFALLOW, by decide +kernel⟩,
   ⟨(inMode mPARKED).wr buscB BUSC.STATUS_STATE bCSTART, by decide +kernel⟩,
   ⟨inMode mPARKED, by decide +kernel⟩,
   ⟨36001, inMode mPARKED, by decide +kernel⟩,
   ⟨36000, inMode mPARKED, by decide +kernel⟩,
   ⟨101, (inMode mPARKED).wr buscB BUSC.STATUS_STATE bCSTART, by decide +kernel⟩,
   ⟨((inMode mRUN).wr buscB BUSC.STATUS_STATE bFSTART).modBus (fun b => { b with ramp := 200000 }), by decide +kernel⟩,
   ⟨((inMode mRUN).wr buscB BUSC.STATUS_STATE bFSTART).modBus (fun b => { b with outer := 0, ramp := 0 }), by decide +kernel⟩,
   ⟨0, 1000, inMode mRUN, by decide +kernel⟩,
   ⟨100000, 0, inMode mRUN, by decide +kernel⟩,
   ⟨0, 20, inMode mRUN, by decide +kernel⟩,
   ⟨100000, 0, inMode mRUN, by decide +kernel⟩,
   ⟨100000, 5, inMode mRUN, by decide +kernel⟩,
   ⟨0, 0, inMode mRUN, by decide +kernel⟩⟩

theorem test_wit_DonorSessionRows :
    (∃ (t : BitVec 8) (vbus : Nat) (vpn : Nat) (k : Cmd) (s : State), s.Ready t 0x17 k ∧ getBits k.a0 0 8 = 1 ∧ getBits k.a1 0
      16 ≠ 0 ∧ getBits k.a1 16 16 ≠ 0 ∧ getBits k.a2 0 7 ≠ 0 ∧ s.donorRefusal (getBits k.a1 0 16) (getBits k.a1 16 16) vbus
      vpn = none) ∧
    (∃ (t : BitVec 8) (k : Cmd) (s : State), s.Ready t 0x17 k ∧ getBits k.a0 0 8 = 0 ∧ s.session = true) ∧
    (∃ (t : BitVec 8) (k : Cmd) (s : State), s.Ready t 0x17 k ∧ getBits k.a0 0 8 = 0 ∧ s.session = false) ∧
    (∃ (s : State), s.busSt = bFSTOP ∧ s.bus.ramp = 0) ∧
    (∃ (s : State), s.bus.ramp ≠ 0) ∧
    (∃ (s : State), s.busSt = bDEAD ∧ s.busFor (max 10 (s.rd buscB BUSC.TURN_DEAD)) = true ∧ s.mode ≠ mPARKED ∧ s.session =
      true ∧ s.bus.ended = false) ∧
    (∃ (s : State), s.busSt = bDEAD ∧ s.busFor (max 10 (s.rd buscB BUSC.TURN_DEAD)) = true ∧ s.mode ≠ mPARKED ∧ s.session =
      false) ∧
    (∃ (s : State), s.busFor (max 10 (s.rd buscB BUSC.TURN_DEAD)) = false) ∧
    (∃ (vnode : Nat) (vn : Nat) (s : State), s.busSt = bMATCH ∧ s.nodeNear vnode vn = true) ∧
    (∃ (vnode : Nat) (vn : Nat) (s : State), s.nodeNear vnode vn = false) ∧
    (∃ (s : State), s.busSt = bMATCH ∧ s.busFor (1000 * orIf0 (s.rd buscB BUSC.TURN_MATCH_T) 1) = true) ∧
    (∃ (s : State), s.busSt = bCONNECT ∧ s.busFor (10 * orIf0 (s.rd portB PORT.NCFG_SOFT) 1) = true) ∧
    (∃ (s : State), s.busSt = bRRAMP ∧ s.rrampOver = true) ∧
    (∃ (mv : Nat) (us : Nat) (s : State), mv < s.donorFloor ∧ 1000 ≤ us ∧ s.session = true ∧ s.bus.ended = false ∧ s.busSt =
      bDELIVER) ∧
    (∃ (mv : Nat) (us : Nat) (s : State), (s.donorFloor ≤ mv ∨ us < 1000)) ∧
    (∃ (s : State), s.session = true ∧ s.bus.ended = false ∧ s.busSt = bDELIVER ∧ s.fe2 = true ∧ s.tapered = true) ∧
    (∃ (s : State), s.session = true ∧ s.bus.ended = false ∧ s.busSt = bDELIVER ∧ s.fe2 = true ∧ s.donorOver = true) ∧
    (∃ (s : State), s.fe2 = true ∧ s.tapered = false) ∧
    (∃ (s : State), s.fe2 = true ∧ s.donorOver = false) ∧
    (∃ (s : State), s.busSt = bRSTOP ∧ s.bus.ramp = 0) ∧
    (∃ (c : Fin 8) (v : BitVec 8) (s : State), s.AcceptsField c buscB BUSC.PH_REM_REM v.toNat) ∧
    (∃ (c : Fin 8) (s : State), s.AcceptsField c buscB BUSC.CTRL_EN 1) ∧
    (∃ (c : Fin 8) (s : State), s.AcceptsField c buscB BUSC.CTRL_EN 0) ∧
    (∃ (s : State), s.up = true ∧ (s.busSt = bOFF ∨ s.busSt = bHALT ∨ s.busSt = bDEAD)) ∧
    (∃ (s : State), s.up = true ∧ s.busSt = bFWD) :=
  ⟨⟨1, 14000, 0, cmd 0x17 1 0x006407D0 1, withCmd (cmd 0x17 1 0x006407D0 1) ((((((inMode mRUN).wr chgB CHG.STATUS_STATE
     cDONE).wr portB PORT.NCFG_EN 1).wr buscB BUSC.STATUS_STATE bFWD).setW (buscB + 0x98) 0x00010001)),
     by unfold State.Ready; decide +kernel⟩,
   ⟨1, cmd 23 0 0 0, withCmd (cmd 23 0 0 0) (((inMode mRUN).wr buscB BUSC.STATUS_STATE bDELIVER).wr buscB BUSC.STATUS_SESSION
     1), by unfold State.Ready; decide +kernel⟩,
   ⟨1, cmd 23 0 0 0, withCmd (cmd 23 0 0 0) (inMode mRUN), by unfold State.Ready; decide +kernel⟩,
   ⟨(inMode mRUN).wr buscB BUSC.STATUS_STATE bFSTOP, by decide +kernel⟩,
   ⟨(inMode mRUN).modBus (fun b => { b with ramp := 1 }), by decide +kernel⟩,
   ⟨aged .busAt (((inMode mRUN).wr buscB BUSC.STATUS_STATE bDEAD).wr buscB BUSC.STATUS_SESSION 1), by decide +kernel⟩,
   ⟨aged .busAt ((inMode mRUN).wr buscB BUSC.STATUS_STATE bDEAD), by decide +kernel⟩,
   ⟨(inMode mRUN).wr buscB BUSC.STATUS_STATE bDEAD, by decide +kernel⟩,
   ⟨20000, 20000, (inMode mRUN).wr buscB BUSC.STATUS_STATE bMATCH, by decide +kernel⟩,
   ⟨0, 1000000, (inMode mRUN).wr buscB BUSC.STATUS_STATE bMATCH, by decide +kernel⟩,
   ⟨aged .busAt ((inMode mRUN).wr buscB BUSC.STATUS_STATE bMATCH), by decide +kernel⟩,
   ⟨aged .busAt ((inMode mRUN).wr buscB BUSC.STATUS_STATE bCONNECT), by decide +kernel⟩,
   ⟨(((inMode mRUN).wr buscB BUSC.STATUS_STATE bRRAMP).wr buscB BUSC.DONOR_SET_V 2000).modBus (fun b =>
     { b with nodeRef := 20000 }), by decide +kernel⟩,
   ⟨0, 1000, ((inMode mRUN).wr buscB BUSC.STATUS_STATE bDELIVER).wr buscB BUSC.STATUS_SESSION 1, by decide +kernel⟩,
   ⟨1000000, 0, inMode mRUN, by decide +kernel⟩,
   ⟨aged .taper (((inMode mRUN).wr buscB BUSC.STATUS_STATE bDELIVER).wr buscB BUSC.STATUS_SESSION 1), by decide +kernel⟩,
   ⟨(((inMode mRUN).wr buscB BUSC.STATUS_STATE bDELIVER).wr buscB BUSC.STATUS_SESSION 1).wr buscB BUSC.DONOR_STAT_ELAPSED
     65535, by decide +kernel⟩,
   ⟨inMode mRUN, by decide +kernel⟩,
   ⟨inMode mRUN, by decide +kernel⟩,
   ⟨(inMode mRUN).wr buscB BUSC.STATUS_STATE bRSTOP, by decide +kernel⟩,
   ⟨0, 0xFF, (unl 0x1C (inMode mRUN)).wr buscB BUSC.PH_REM_REM 0x81, by unfold State.AcceptsField; decide +kernel⟩,
   ⟨0, unl 0x1C (inMode mRUN), by unfold State.AcceptsField; decide +kernel⟩,
   ⟨0, unl 0x1C (inMode mRUN), by unfold State.AcceptsField; decide +kernel⟩,
   ⟨inMode mRUN, by decide +kernel⟩,
   ⟨(inMode mRUN).wr buscB BUSC.STATUS_STATE bFWD, by decide +kernel⟩⟩

theorem test_wit_ChargerStates :
    (∃ (s : State), s.up = true ∧ s.llTick.fe2 = true) ∧
    (∃ (s : State), s.up = true ∧ s.llTick.fe2 = false) ∧
    (∃ (s : State), s.bit chgB CHG.STATUS_LOADLIM = false) ∧
    (∃ (s : State), s.bit chgB CHG.STATUS_LOADLIM = true ∧ s.chg.llMs = 999) ∧
    (∃ (v : Nat) (s : State), s.chgSt = cQUALIFY ∧ s.fe2 = true ∧ 200 ≤ s.chg.stMs ∧ s.vcv ≤ s.vcellOf v + s.rchg) ∧
    (∃ (v : Nat) (s : State), s.chgSt = cQUALIFY ∧ s.fe2 = true ∧ 200 ≤ s.chg.stMs ∧ s.vcellOf v + s.rchg < s.vcv ∧ s.rd chgB
      CHG.VCHG_VPRE ≤ s.vcellOf v) ∧
    (∃ (v : Nat) (s : State), s.chgSt = cQUALIFY ∧ s.fe2 = true ∧ 200 ≤ s.chg.stMs ∧ s.vcellOf v + s.rchg < s.vcv ∧ s.vcellOf
      v < s.rd chgB CHG.VCHG_VPRE) ∧
    (∃ (s : State), s.fe2 = true ∧ s.chg.stMs < 200) ∧
    (∃ (s : State), s.chgSt = cPRE ∧ s.fe2 = true ∧ s.okFor 1000 = true) ∧
    (∃ (s : State), s.chgSt = cPRE ∧ s.fe2 = true ∧ s.okFor 1000 = false) ∧
    (∃ (s : State), s.chgSt = cPRE ∧ s.fe2 = true ∧ clampN 1 120 (s.rd chgB CHG.CYCLE_PRE_T) * 60 ≤ s.rd chgB CHG.TIMER_PHASE) ∧
    (∃ (s : State), s.chgSt = cPRE ∧ s.fe2 = true ∧ s.preOver = false) ∧
    (∃ (s : State), s.chgSt = cCC ∧ s.fe2 = true ∧ s.okFor 1000 = true) ∧
    (∃ (s : State), s.chgSt = cCC ∧ s.fe2 = true ∧ s.okFor 1000 = false) ∧
    (∃ (s : State), (s.chgSt = cCC ∨ s.chgSt = cCV) ∧ s.fe2 = true ∧ s.termDue = false ∧ s.safeOver = true) ∧
    (∃ (s : State), (s.chgSt = cCC ∨ s.chgSt = cCV) ∧ s.fe2 = true ∧ s.termDue = false ∧ s.safeOver = false) ∧
    (∃ (s : State), s.chgSt = cCV ∧ s.fe2 = true ∧ s.termDue = true ∧ s.rd chgB CHG.CYCLE_TOPOFF = 0) ∧
    (∃ (s : State), s.chgSt = cCV ∧ s.fe2 = true ∧ s.termDue = true ∧ s.rd chgB CHG.CYCLE_TOPOFF ≠ 0) ∧
    (∃ (s : State), s.fe2 = true ∧ s.termDue = false) ∧
    (∃ (s : State), s.chgSt = cTOPOFF ∧ s.fe2 = true ∧ s.topoffOver = true) ∧
    (∃ (s : State), s.chgSt = cTOPOFF ∧ s.fe2 = true ∧ s.topoffOver = false) ∧
    (∃ (s : State), s.chgSt = cDONE ∧ s.fe2 = true ∧ s.bit chgB CHG.CFG_AUTO_RCHG = true ∧ s.okFor 1000 = true) ∧
    (∃ (s : State), s.chgSt = cDONE ∧ s.fe2 = true ∧ s.bit chgB CHG.CFG_AUTO_RCHG = true ∧ s.okFor 1000 = false) ∧
    (∃ (s : State), s.chgSt = cCC ∧ s.fe2 = true ∧ s.bit chgB CHG.CFG_REST_EN = true ∧ clampN 1 60 (s.rd chgB CHG.REST_INT) *
      60000 ≤ s.chg.restMs) ∧
    (∃ (s : State), s.chgSt = cCC ∧ s.fe2 = true ∧ s.bit chgB CHG.CFG_REST_EN = true ∧ s.chg.restMs < clampN 1 60 (s.rd chgB
      CHG.REST_INT) * 60000) ∧
    (∃ (s : State), s.chgSt = cREST ∧ s.fe2 = true ∧ s.restOver = true) ∧
    (∃ (s : State), s.chgSt = cREST ∧ s.fe2 = true ∧ s.restOver = false) :=
  ⟨⟨inMode mRUN, by decide +kernel⟩,
   ⟨(inMode mRUN).setEng 2 eHALTED, by decide +kernel⟩,
   ⟨(inMode mRUN).wr chgB CHG.STATUS_LOADLIM 0, by decide +kernel⟩,
   ⟨((inMode mRUN).wr chgB CHG.STATUS_LOADLIM 1).modChg (fun h => { h with llMs := 999 }), by decide +kernel⟩,
   ⟨60000, ((inMode mRUN).wr chgB CHG.STATUS_STATE cQUALIFY).modChg (fun h => { h with stMs := 200 }), by decide +kernel⟩,
   ⟨12000, ((((inMode mRUN).wr chgB CHG.VCHG_VCV 4200).wr chgB CHG.VCHG_VPRE 2500).wr chgB CHG.STATUS_STATE cQUALIFY).modChg
     (fun h => { h with stMs := 200 }), by decide +kernel⟩,
   ⟨4000, ((((inMode mRUN).wr chgB CHG.VCHG_VCV 4200).wr chgB CHG.VCHG_VPRE 2500).wr chgB CHG.STATUS_STATE cQUALIFY).modChg
     (fun h => { h with stMs := 200 }), by decide +kernel⟩,
   ⟨inMode mRUN, by decide +kernel⟩,
   ⟨((inMode mRUN).wr chgB CHG.STATUS_STATE cPRE).modChg (fun h => { h with okMs := 1000 }), by decide +kernel⟩,
   ⟨(inMode mRUN).wr chgB CHG.STATUS_STATE cPRE, by decide +kernel⟩,
   ⟨((inMode mRUN).wr chgB CHG.STATUS_STATE cPRE).wr chgB CHG.TIMER_PHASE 7200, by decide +kernel⟩,
   ⟨(inMode mRUN).wr chgB CHG.STATUS_STATE cPRE, by decide +kernel⟩,
   ⟨((inMode mRUN).wr chgB CHG.STATUS_STATE cCC).modChg (fun h => { h with okMs := 1000 }), by decide +kernel⟩,
   ⟨(inMode mRUN).wr chgB CHG.STATUS_STATE cCC, by decide +kernel⟩,
   ⟨((inMode mRUN).wr chgB CHG.STATUS_STATE cCC).wr chgB CHG.TIMER_ELAPSED 72000, by decide +kernel⟩,
   ⟨(inMode mRUN).wr chgB CHG.STATUS_STATE cCC, by decide +kernel⟩,
   ⟨(((inMode mRUN).wr chgB CHG.CYCLE_TOPOFF 0).wr chgB CHG.STATUS_STATE cCV).modChg (fun h => { h with okMs := 10000 }),
     by decide +kernel⟩,
   ⟨(((inMode mRUN).wr chgB CHG.CYCLE_TOPOFF 5).wr chgB CHG.STATUS_STATE cCV).modChg (fun h => { h with okMs := 10000 }),
     by decide +kernel⟩,
   ⟨inMode mRUN, by decide +kernel⟩,
   ⟨((inMode mRUN).wr chgB CHG.STATUS_STATE cTOPOFF).wr chgB CHG.TIMER_PHASE 65535, by decide +kernel⟩,
   ⟨(((inMode mRUN).wr chgB CHG.CYCLE_TOPOFF 5).wr chgB CHG.STATUS_STATE cTOPOFF).wr chgB CHG.TIMER_PHASE 0,
     by decide +kernel⟩,
   ⟨(((inMode mRUN).wr chgB CHG.CFG_AUTO_RCHG 1).wr chgB CHG.STATUS_STATE cDONE).modChg (fun h => { h with okMs := 1000 }),
     by decide +kernel⟩,
   ⟨((inMode mRUN).wr chgB CHG.CFG_AUTO_RCHG 1).wr chgB CHG.STATUS_STATE cDONE, by decide +kernel⟩,
   ⟨(((inMode mRUN).wr chgB CHG.CFG_REST_EN 1).wr chgB CHG.STATUS_STATE cCC).modChg (fun h => { h with restMs := 3600000 }),
     by decide +kernel⟩,
   ⟨((inMode mRUN).wr chgB CHG.CFG_REST_EN 1).wr chgB CHG.STATUS_STATE cCC, by decide +kernel⟩,
   ⟨((inMode mRUN).wr chgB CHG.STATUS_STATE cREST).modChg (fun h => { h with stMs := 60000 }), by decide +kernel⟩,
   ⟨(inMode mRUN).wr chgB CHG.STATUS_STATE cREST, by decide +kernel⟩⟩

theorem test_wit_PackAndChgCtrlRows :
    (∃ (s : State), s.fe2 = true ∧ s.chgSt ≠ cABSENT ∧ s.bit chgB CHG.CFG_NTC_EN = true ∧ s.rd chgB CHG.TEMP_NTC_ST = 1 ∧
      s.chg.ntcSeen = true ∧ s.ran .ntc 1000 = true) ∧
    (∃ (rise : Nat) (us : Nat) (s : State), s.fe2 = true ∧ s.chgSt ≠ cABSENT ∧ s.absCurrent rise us = true) ∧
    (∃ (s : State), s.fe2 = true ∧ s.chgSt ≠ cABSENT ∧ s.absNtc = false ∧ s.chg.gone = false) ∧
    (∃ (rise : Nat) (us : Nat) (s : State), s.fe2 = true ∧ s.chgSt ≠ cABSENT ∧ s.absCurrent rise us = false ∧ s.chg.gone =
      false) ∧
    (∃ (s : State), s.chgSt = cABSENT) ∧
    (∃ (us : Nat) (s : State), s.chgSt = cABSENT ∧ s.fe2 = true ∧ s.seeks 51000 = true ∧ s.iSeen = true ∧ 1000 ≤ us) ∧
    (∃ (us : Nat) (s : State), s.chgSt = cABSENT ∧ s.fe2 = true ∧ (s.seeks 51000 = false ∨ s.iSeen = false ∨ us < 1000)) ∧
    (∃ (s : State), s.chgSt = cABSENT ∧ s.fe2 = true ∧ s.probeDue = true) ∧
    (∃ (s : State), s.chgSt = cABSENT ∧ s.fe2 = true ∧ s.probeDue = false) ∧
    (∃ (s : State), s.fe2 = true ∧ 20 ≤ s.chg.probeMs) ∧
    (∃ (s : State), s.fe2 = true ∧ s.chg.probeMs < 20) ∧
    (∃ (v : Nat) (us : Nat) (s : State), s.fe2 = true ∧ s.chgSt ≠ cABSENT ∧ s.chgSt ≠ cFAULT ∧ s.cells * (s.vcv + 100) < v ∧
      100 ≤ us) ∧
    (∃ (v : Nat) (us : Nat) (s : State), s.chg.cut = false ∧ (v ≤ s.cells * (s.vcv + 100) ∨ us < 100)) ∧
    (∃ (s : State), s.chgSt ≠ cABSENT ∧ s.chgSt ≠ cFAULT ∧ s.bit chgB CHG.CFG_NTC_EN = true ∧ s.rd chgB CHG.TEMP_NTC_ST = 2 ∧
      s.ran .ntc 10000 = true ∧ s.fe2 = true) ∧
    (∃ (s : State), s.fe2 = true ∧ s.ran .ntc 10000 = false) ∧
    (∃ (mv : Nat) (us : Nat) (s : State), s.up = true ∧ s.bit chgB CHG.CFG_NTC_EN = true ∧ 100 ≤ us ∧ s.rd chgB
      CHG.TEMP_NTC_ST ≠ ntcOf mv) ∧
    (∃ (mv : Nat), mv < 50) ∧
    (∃ (mv : Nat), 50 ≤ mv ∧ mv ≤ 1710) ∧
    (∃ (mv : Nat), 1710 < mv) ∧
    (∃ (us : Nat) (s : State), s.up = true ∧ s.bit chgB CHG.CFG_NTC_EN = true ∧ us < 100) ∧
    (∃ (s : State), s.up = true ∧ s.bit chgB CHG.CFG_NTC_EN = false) ∧
    (∃ (s : State), s.up = true) ∧
    (∃ (t : BitVec 8) (k : Cmd) (s : State), s.Ready t 0x16 k ∧ getBits k.a0 0 8 = 0 ∧ getBits k.a1 0 9 = 0 ∧ s.chgRefusal k =
      none) ∧
    (∃ (t : BitVec 8) (k : Cmd) (s : State), s.Ready t 0x16 k ∧ getBits k.a0 0 8 = 1 ∧ getBits k.a1 0 9 = 0 ∧ s.chgRefusal k =
      none) ∧
    (∃ (t : BitVec 8) (k : Cmd) (s : State), s.Ready t 0x16 k ∧ getBits k.a0 0 8 = 2 ∧ getBits k.a1 0 9 = 0 ∧ s.chgRefusal k =
      none ∧ (s.chgSt = cTIMEOUT ∨ s.chgSt = cFAULT)) ∧
    (∃ (t : BitVec 8) (k : Cmd) (s : State), s.Ready t 0x16 k ∧ getBits k.a0 0 8 = 3 ∧ getBits k.a1 0 9 = 0 ∧ s.chgRefusal k =
      none) ∧
    (∃ (t : BitVec 8) (k : Cmd) (s : State), s.Ready t 0x16 k ∧ getBits k.a0 0 8 = 4 ∧ getBits k.a1 0 9 = 0 ∧ s.chgRefusal k =
      none) ∧
    (∃ (t : BitVec 8) (k : Cmd) (c : Nat) (s : State), s.Ready t 0x16 k ∧ getBits k.a0 0 8 = 1 ∧ s.chgRefusal k = some c) ∧
    (∃ (k : Cmd), 4 < getBits k.a0 0 8) :=
  ⟨⟨aged .ntc (((((inMode mRUN).wr chgB CHG.CFG_NTC_EN 1).wr chgB CHG.TEMP_NTC_ST 1).wr chgB CHG.STATUS_STATE cDONE).modChg
     (fun h => { h with ntcSeen := true })), by decide +kernel⟩,
   ⟨100000, 1000, ((inMode mRUN).wr chgB CHG.STATUS_STATE cCC).modBus (fun b => { b with iSet := 1000 }), by decide +kernel⟩,
   ⟨(inMode mRUN).wr chgB CHG.STATUS_STATE cCC, by decide +kernel⟩,
   ⟨0, 0, (inMode mRUN).wr chgB CHG.STATUS_STATE cCC, by decide +kernel⟩,
   ⟨inMode mRUN, by decide +kernel⟩,
   ⟨1000, (((inMode mRUN).wr chgB CHG.CFG_EN 1).wr chgB CHG.CFG_NTC_EN 0).wrI chgB CHG.MON_IPACK 2000, by decide +kernel⟩,
   ⟨0, inMode mRUN, by decide +kernel⟩,
   ⟨(((((inMode mRUN).wr chgB CHG.CFG_EN 1).wr chgB CHG.CFG_NTC_EN 0).wr chgB CHG.STATUS_STATE cABSENT).modChg (fun h =>
     { h with probeMs := 100000 })), by decide +kernel⟩,
   ⟨inMode mRUN, by decide +kernel⟩,
   ⟨(inMode mRUN).modChg (fun h => { h with probeMs := 20 }), by decide +kernel⟩,
   ⟨inMode mRUN, by decide +kernel⟩,
   ⟨20000, 100, ((((inMode mRUN).wr chgB CHG.CFG_CELLS 4).wr chgB CHG.VCHG_VCV 4200)).wr chgB CHG.STATUS_STATE cCC,
     by decide +kernel⟩,
   ⟨0, 0, (inMode mRUN).wr chgB CHG.STATUS_STATE cCC, by decide +kernel⟩,
   ⟨aged .ntc ((((inMode mRUN).wr chgB CHG.CFG_NTC_EN 1).wr chgB CHG.TEMP_NTC_ST 2).wr chgB CHG.STATUS_STATE cCC),
     by decide +kernel⟩,
   ⟨inMode mRUN, by decide +kernel⟩,
   ⟨0, 100, ((inMode mRUN).wr chgB CHG.CFG_NTC_EN 1).wr chgB CHG.TEMP_NTC_ST 0, by decide +kernel⟩,
   ⟨49, by decide +kernel⟩,
   ⟨1710, by decide +kernel⟩,
   ⟨1711, by decide +kernel⟩,
   ⟨0, ((inMode mRUN).wr chgB CHG.CFG_NTC_EN 1).wr chgB CHG.TEMP_NTC_ST 0, by decide +kernel⟩,
   ⟨(inMode mRUN).wr chgB CHG.CFG_NTC_EN 0, by decide +kernel⟩,
   ⟨inMode mRUN, by decide +kernel⟩,
   ⟨1, cmd 22 0 0 0, withCmd (cmd 22 0 0 0) ((inMode mRUN).wr chgB CHG.CFG_EN 1), by unfold State.Ready; decide +kernel⟩,
   ⟨1, cmd 22 1 0 0, withCmd (cmd 22 1 0 0) ((inMode mRUN).wr chgB CHG.CFG_EN 1), by unfold State.Ready; decide +kernel⟩,
   ⟨1, cmd 22 2 0 0, withCmd (cmd 22 2 0 0) (((inMode mRUN).wr chgB CHG.CFG_EN 1).wr chgB CHG.STATUS_STATE cTIMEOUT),
     by unfold State.Ready; decide +kernel⟩,
   ⟨1, cmd 22 3 0 0, withCmd (cmd 22 3 0 0) (((inMode mRUN).wr chgB CHG.CFG_EN 1).wr chgB CHG.STATUS_STATE cCC),
     by unfold State.Ready; decide +kernel⟩,
   ⟨1, cmd 22 4 0 0, withCmd (cmd 22 4 0 0) (((inMode mRUN).wr chgB CHG.CFG_EN 1).wr chgB CHG.STATUS_STATE cDONE),
     by unfold State.Ready; decide +kernel⟩,
   ⟨1, cmd 0x16 1 0 0, 4, withCmd (cmd 0x16 1 0 0) ((inMode mRUN).wr chgB CHG.CFG_EN 0),
     by unfold State.Ready; decide +kernel⟩,
   ⟨cmd 0x16 5 0 0, by decide +kernel⟩⟩

theorem test_wit_FlailLineRows :
    (∃ (ns : Nat) (s : State), 1500 ≤ ns ∧ ns ≤ 3000 ∧ s.classes ns = true ∧ s.inFrame = false ∧ s.role ≠ rMASTER) ∧
    (∃ (ns : Nat) (s : State), 1500 ≤ ns ∧ ns ≤ 3000 ∧ s.classes ns = true ∧ s.role = rMASTER ∧ s.flail.frame = 1 ∧
      s.mayStrobe (ns / 1000) = true) ∧
    (∃ (ns : Nat), (ns < 1500 ∨ 3000 < ns)) ∧
    (∃ (low : Nat) (s : State), s.role = rMASTER ∧ s.flail.frame = 5 ∧ s.bit flailB FLAIL.STATUS_HOLDING = false ∧ s.ran
      .strobe (max s.lineSC low) = true) ∧
    (∃ (low : Nat) (s : State), (s.ran .strobe (max s.lineSC low) = false ∨ s.bit flailB FLAIL.STATUS_HOLDING = true)) ∧
    (∃ (s : State), s.stopped 0 = false ∧ s.role = rMASTER ∧ s.lineBusy = false ∧ s.bit flailB FLAIL.MSTAT_AUTO = true ∧
      s.targetMay = true ∧ s.mayStrobe 0 = true) ∧
    (∃ (s : State), s.stopped 0 = false ∧ (s.mayStrobe 0 = false ∨ s.targetMay = false)) ∧
    (∃ (s : State), s.role = rMASTER ∧ s.lineBusy = false ∧ s.ran .ann s.annT = true) ∧
    (∃ (s : State), s.ran .ann s.annT = false) ∧
    (∃ (h : FlStart) (st : BitVec 8) (comp : BitVec 8) (s : State), s.frameIs h 1 false = true ∧ s.role = rFOLLOWER ∧ comp ≠
      ~~~ st) ∧
    (∃ (h : FlStart) (st : BitVec 8) (comp : BitVec 8) (s : State), s.frameIs h 1 false = true ∧ s.role = rFOLLOWER ∧ comp =
      ~~~ st ∧ s.flailSt = st.toNat) ∧
    (∃ (h : FlStart) (s : State), s.frameIs h 1 true = true ∧ s.role = rMASTER ∧ s.flail.frame = 2 ∧ s.slotsOver 16 = true) ∧
    (∃ (ns : Nat) (w : BitVec 10 × BitVec 16) (cands : List (BitVec 10 × BitVec 16)) (s : State), 9000 ≤ ns ∧ ns ≤ 15000 ∧
      s.listens = true ∧ s.role = rFOLLOWER ∧ s.bit flailB FLAIL.CFG_MCAND = false ∧ winner cands = some w) ∧
    (∃ (ns : Nat) (cands : List (BitVec 10 × BitVec 16)) (s : State), 9000 ≤ ns ∧ ns ≤ 15000 ∧ s.listens = true ∧ s.role =
      rELECTING ∧ winner (s.ownId :: cands) = some s.ownId) ∧
    (∃ (low : Nat) (s : State), s.role = rFOLLOWER ∧ s.flail.lost = false ∧ s.ran .lost (3 * s.annT + low) = true ∧ s.bit
      flailB FLAIL.CFG_MCAND = false) ∧
    (∃ (low : Nat) (s : State), s.ran .lost (3 * s.annT + low) = false) :=
  ⟨⟨2000, { (inMode mRUN).setRole rFOLLOWER with boot := 6 }, by decide +kernel⟩,
   ⟨2000, { (inMode mRUN).setRole rMASTER with boot := 6, flail := { FlailHid.reset with frame := 1 } }, by decide +kernel⟩,
   ⟨0, by decide +kernel⟩,
   ⟨5, aged (.strobe) ({ (inMode mRUN).setRole rMASTER with boot := 6, flail := { FlailHid.reset with frame := 5 } } : State),
     by decide +kernel⟩,
   ⟨5, { (inMode mRUN).setRole rMASTER with boot := 6 }, by decide +kernel⟩,
   ⟨({ (inMode mRUN).setRole rMASTER with boot := 6 } : State).wr flailB FLAIL.MSTAT_AUTO 1, by decide +kernel⟩,
   ⟨(inMode mRUN).mark .strobe, by decide +kernel⟩,
   ⟨aged (.ann) ({ (inMode mRUN).setRole rMASTER with boot := 6 } : State), by decide +kernel⟩,
   ⟨inMode mRUN, by decide +kernel⟩,
   ⟨⟨6000, 50, 0x10⟩, 3, 3, { (inMode mRUN).setRole rFOLLOWER with boot := 6 }, by decide +kernel⟩,
   ⟨⟨6000, 50, 0x10⟩, 0, 0xFF, { (inMode mRUN).setRole rFOLLOWER with boot := 6 }, by decide +kernel⟩,
   ⟨⟨6000, 50, 0x10⟩, aged (.frame)
     ({ (inMode mRUN).setRole rMASTER with boot := 6, flail := { FlailHid.reset with frame := 2 } } : State),
     by decide +kernel⟩,
   ⟨9000, (3, 4), [(3, 4)], (({ (inMode mRUN).setRole rFOLLOWER with boot := 6 } : State).wr flailB FLAIL.CFG_MCAND 0),
     by decide +kernel⟩,
   ⟨15000, [], { (inMode mRUN).setRole rELECTING with boot := 6 }, by decide +kernel⟩,
   ⟨5, aged (.lost) (({ (inMode mRUN).setRole rFOLLOWER with boot := 6 } : State).wr flailB FLAIL.CFG_MCAND 0 : State),
     by decide +kernel⟩,
   ⟨0, inMode mRUN, by decide +kernel⟩⟩

theorem test_wit_FlailViolationsAndAlarms :
    (∃ (s : State), s.bit flailB FLAIL.STATUS_HOLDING = true ∧ s.ran .hold s.holdMax = true) ∧
    (∃ (s : State), s.ran .hold s.holdMax = false) ∧
    (∃ (h : FlStart) (s : State), s.decodes h = true ∧ (frType h = 0 ∨ 4 ≤ frType h) ∧ s.role ≠ rMASTER) ∧
    (∃ (ns : Nat) (s : State), s.classes ns = true ∧ s.inFrame = false ∧ pulseOf ns = plILLEGAL) ∧
    (∃ (ns : Nat), pulseOf ns ≠ plILLEGAL) ∧
    (∃ (p : Fin 2) (us : Nat) (hold : Bool) (s : State), s.listens = true ∧ s.bit flailB (if p = 0 then FLAIL.CFG_A_EN else
      FLAIL.CFG_B_EN) = true ∧ s.flail.stuck.testBit p.val = false ∧ (if hold then s.holdMax + 1000 else 10000) ≤ us) ∧
    (∃ (us : Nat), us < 10000) ∧
    (∃ (p : Fin 2) (us : Nat) (s : State), s.flail.stuck.testBit p.val = true ∧ 1000 ≤ us) ∧
    (∃ (us : Nat), us < 1000) ∧
    (∃ (ns : Nat) (s : State), s.classes ns = true ∧ 20000 ≤ ns ∧ ns ≤ 40000 ∧ s.rd flailB FLAIL.ALCFG_ACT = 0 ∧ s.flail.frame
      = 0) ∧
    (∃ (ns : Nat), (ns < 20000 ∨ 40000 < ns)) ∧
    (∃ (us : Nat) (ns : Nat) (s : State), s.flail.alarmPend = true ∧ 20 ≤ us ∧ 20000 ≤ ns ∧ ns ≤ 40000) ∧
    (∃ (us : Nat) (ns : Nat) (s : State), s.flail.alarmPend = true ∧ 20 ≤ us ∧ (ns < 20000 ∨ 40000 < ns)) ∧
    (∃ (us : Nat), us < 20) ∧
    (∃ (ns : Nat) (s : State), s.flail.alarmReq = true ∧ s.flail.frame ≠ 5 ∧ s.bit flailB FLAIL.STATUS_HOLDING = false ∧
      s.inHold (ns / 1000) = false ∧ 20000 ≤ ns ∧ ns ≤ 40000) ∧
    (∃ (ns : Nat) (s : State), s.flail.alarmReq = true ∧ s.flail.frame ≠ 5 ∧ s.bit flailB FLAIL.STATUS_HOLDING = false ∧
      s.inHold (ns / 1000) = false ∧ (ns < 20000 ∨ 40000 < ns)) ∧
    (∃ (c : Fin 8) (s : State), s.AcceptsField c flailB FLAIL.CTRL_ALARM 1 ∧ s.role ≠ rSILENT) ∧
    (∃ (s : State), s.stopped 0 = false ∧ s.flail.again ≠ 0 ∧ s.role = rMASTER ∧ s.flail.frame = 0 ∧ s.past .alarm 100 = true
      ∧ (s.runningCmd opDigest).isSome = true) ∧
    (∃ (s : State), s.stopped 0 = false ∧ s.past .alarm 100 = false) :=
  ⟨⟨aged .hold ((inMode mRUN).wr flailB FLAIL.STATUS_HOLDING 1), by decide +kernel⟩,
   ⟨inMode mRUN, by decide +kernel⟩,
   ⟨⟨6000, 50, 0x40⟩, { (inMode mRUN).setRole rFOLLOWER with boot := 6 }, by decide +kernel⟩,
   ⟨4000, { (inMode mRUN).setRole rFOLLOWER with boot := 6 }, by decide +kernel⟩,
   ⟨0, by decide +kernel⟩,
   ⟨1, 2000000, false, ({ (inMode mRUN).setRole rMASTER with boot := 6 } : State).wr flailB FLAIL.CFG_B_EN 1,
     by decide +kernel⟩,
   ⟨0, by decide +kernel⟩,
   ⟨1, 1000, { (inMode mRUN).setRole rMASTER with boot := 6, flail := { FlailHid.reset with stuck := 2 } }, by decide +kernel⟩,
   ⟨0, by decide +kernel⟩,
   ⟨30000, ({ (inMode mRUN).setRole rFOLLOWER with boot := 6 } : State).wr flailB FLAIL.ALCFG_ACT 0, by decide +kernel⟩,
   ⟨0, by decide +kernel⟩,
   ⟨20, 30000, { (inMode mRUN).setRole rMASTER with boot := 6, flail := { FlailHid.reset with alarmPend := true } },
     by decide +kernel⟩,
   ⟨20, 0, { (inMode mRUN).setRole rMASTER with boot := 6, flail := { FlailHid.reset with alarmPend := true } },
     by decide +kernel⟩,
   ⟨0, by decide +kernel⟩,
   ⟨30000, { (inMode mRUN).setRole rMASTER with boot := 6, flail := { FlailHid.reset with alarmReq := true } },
     by decide +kernel⟩,
   ⟨0, { (inMode mRUN).setRole rMASTER with boot := 6, flail := { FlailHid.reset with alarmReq := true } }, by decide +kernel⟩,
   ⟨0, (unl 0x0A (inMode mRUN)).setRole rFOLLOWER, by unfold State.AcceptsField; decide +kernel⟩,
   ⟨{ aged (.alarm) ({ (inMode mRUN).setRole rMASTER with boot := 6, flail := { FlailHid.reset with again := 3 } } : State) with cmds := [{ cmd 8 0 0 0 with phase := .running }] },
     by decide +kernel⟩,
   ⟨(inMode mRUN).mark .alarm, by decide +kernel⟩⟩

theorem test_wit_DigestAndMasterRows :
    (∃ (h : FlStart) (a : BitVec 64) (b : BitVec 64) (s : State), s.frameIs h 2 false = true ∧ s.role = rFOLLOWER ∧
      digestResult (s.dgRead (frParam h) a b).1 (s.dgRead (frParam h) a b).2 = 1) ∧
    (∃ (g : Nat) (s : State), s.inGroup g = true) ∧
    (∃ (h : FlStart) (s : State), s.frameIs h 2 false = true ∧ s.role = rFOLLOWER) ∧
    (∃ (h : FlStart) (ref : BitVec 64) (s : State), s.frameIs h 3 false = true ∧ s.role = rFOLLOWER ∧ s.dissents (frParam h)
      ref.toNat = false) ∧
    (∃ (g : Nat) (ref : BitVec 64) (s : State), s.dissents g ref.toNat = true) ∧
    (∃ (h : FlStart) (us : Nat) (s : State), s.role = rFOLLOWER ∧ s.decodes h = true ∧ (frType h = 2 ∨ frType h = 3) ∧ 3 *
      s.slotT ≤ us) ∧
    (∃ (us : Nat) (s : State), us < 3 * s.slotT) ∧
    (∃ (t : BitVec 8) (k : Cmd) (s : State), s.Ready t 0x08 k ∧ k.prog = 0 ∧ s.mode = mRUN ∧ s.role ≠ rMASTER) ∧
    (∃ (t : BitVec 8) (k : Cmd) (s : State), s.Ready t 0x08 k ∧ s.mode = mRUN ∧ s.role = rMASTER ∧ s.lineBusy = false ∧ s.bit
      flailB FLAIL.MSTAT_AUTO = false ∧ k.a0.toNat < 32 ∧ k.a1 = 0 ∧ k.a2 = 0 ∧ k.prog = 0) ∧
    (∃ (t : BitVec 8) (k : Cmd) (s : State), s.Ready t 0x08 k ∧ k.prog ≠ 0 ∧ s.role = rMASTER) ∧
    (∃ (c : Fin 8) (g : Grant) (s : State), s.Accepts c (flailB + 0x58) (BitVec.ofNat 32 (1 * 2 ^ FLAIL.MCTRL_OP.lo)) ∧ s.role
      = rMASTER ∧ s.grantOf 8 = some g ∧ g.who = c ∧ g.org = .direct ∧ s.lineBusy = false) ∧
    (∃ (c : Fin 8) (s : State), s.Accepts c (flailB + 0x58) (BitVec.ofNat 32 (1 * 2 ^ FLAIL.MCTRL_OP.lo)) ∧ s.role ≠ rMASTER) ∧
    (∃ (c : Fin 8) (arg : BitVec 8) (g : Grant) (s : State), s.Accepts c (flailB + 0x58) (BitVec.ofNat 32 (2 * 2 ^
      FLAIL.MCTRL_OP.lo + arg.toNat * 2 ^ FLAIL.MCTRL_ARG.lo)) ∧ s.role = rMASTER ∧ s.grantOf 8 = some g ∧ g.who = c ∧ g.org =
      .direct ∧ s.lineBusy = false) ∧
    (∃ (c : Fin 8) (arg : BitVec 8) (g : Grant) (s : State), s.Accepts c (flailB + 0x58) (BitVec.ofNat 32 (3 * 2 ^
      FLAIL.MCTRL_OP.lo + arg.toNat * 2 ^ FLAIL.MCTRL_ARG.lo)) ∧ s.role = rMASTER ∧ s.grantOf 8 = some g ∧ g.who = c ∧ g.org =
      .direct ∧ s.lineBusy = false ∧ s.flailSt ≠ arg.toNat) ∧
    (∃ (c : Fin 8) (g : Grant) (s : State), s.Accepts c (flailB + 0x58) (BitVec.ofNat 32 (4 * 2 ^ FLAIL.MCTRL_OP.lo)) ∧ s.role
      = rMASTER ∧ s.grantOf 8 = some g ∧ g.who = c ∧ g.org = .direct ∧ (s.flail.frame = 1 ∨ s.flail.frame = 5)) ∧
    (∃ (c : Fin 8) (g : Grant) (s : State), s.Accepts c (flailB + 0x58) (BitVec.ofNat 32 (4 * 2 ^ FLAIL.MCTRL_OP.lo)) ∧ s.role
      = rMASTER ∧ s.grantOf 8 = some g ∧ g.who = c ∧ g.org = .direct ∧ s.lineBusy = false) ∧
    (∃ (c : Fin 8) (g : Grant) (s : State), s.Accepts c (flailB + 0x58) (BitVec.ofNat 32 (5 * 2 ^ FLAIL.MCTRL_OP.lo)) ∧ s.role
      = rMASTER ∧ s.grantOf 8 = some g ∧ g.who = c ∧ g.org = .direct ∧ s.lineBusy = false) :=
  ⟨⟨⟨6000, 50, 0x20⟩, 0, 0xFFFFFFFFFFFFFFFF, { (inMode mRUN).setRole rFOLLOWER with boot := 6 }, by decide +kernel⟩,
   ⟨0, { (inMode mRUN).setRole rFOLLOWER with boot := 6 }, by decide +kernel⟩,
   ⟨⟨6000, 50, 0x20⟩, { (inMode mRUN).setRole rFOLLOWER with boot := 6 }, by decide +kernel⟩,
   ⟨⟨6000, 50, 0x30⟩, 0, { (inMode mRUN).setRole rFOLLOWER with boot := 6 }, by decide +kernel⟩,
   ⟨0, 5, { (inMode mRUN).setRole rFOLLOWER with boot := 6 }, by decide +kernel⟩,
   ⟨⟨6000, 50, 0x20⟩, 100000, { (inMode mRUN).setRole rFOLLOWER with boot := 6 }, by decide +kernel⟩,
   ⟨0, { (inMode mRUN).setRole rFOLLOWER with boot := 6 }, by decide +kernel⟩,
   ⟨1, cmd 8 0 0 0, withCmd (cmd 8 0 0 0) (inMode mRUN), by unfold State.Ready; decide +kernel⟩,
   ⟨1, cmd 8 31 0 0, withCmd (cmd 8 31 0 0) ({ (inMode mRUN).setRole rMASTER with boot := 6 }),
     by unfold State.Ready; decide +kernel⟩,
   ⟨1, { cmd 8 0 0 0 with prog := 2 }, withCmd ({ cmd 8 0 0 0 with prog := 2 })
     ({ (inMode mRUN).setRole rMASTER with boot := 6 }), by unfold State.Ready; decide +kernel⟩,
   ⟨0, ⟨0, .direct, 0, 0, 0⟩,
     { (unl 0x0A (inMode mRUN)).setRole rMASTER with boot := 6, grants := Vector.replicate 9 (some ⟨0, .direct, 0, 0, 0⟩) },
     by unfold State.Accepts; decide +kernel⟩,
   ⟨0, unl 0x0A (inMode mRUN), by unfold State.Accepts; decide +kernel⟩,
   ⟨0, 255, ⟨0, .direct, 0, 0, 0⟩,
     { (unl 0x0A (inMode mRUN)).setRole rMASTER with boot := 6, grants := Vector.replicate 9 (some ⟨0, .direct, 0, 0, 0⟩) },
     by unfold State.Accepts; decide +kernel⟩,
   ⟨0, 7, ⟨0, .direct, 0, 0, 0⟩,
     { (unl 0x0A (inMode mRUN)).setRole rMASTER with boot := 6, grants := Vector.replicate 9 (some ⟨0, .direct, 0, 0, 0⟩) },
     by unfold State.Accepts; decide +kernel⟩,
   ⟨0, ⟨0, .direct, 0, 0, 0⟩,
     { (unl 0x0A (inMode mRUN)).setRole rMASTER with boot := 6, grants := Vector.replicate 9 (some ⟨0, .direct, 0, 0, 0⟩), flail := { FlailHid.reset with frame := 1 } },
     by unfold State.Accepts; decide +kernel⟩,
   ⟨0, ⟨0, .direct, 0, 0, 0⟩,
     { (unl 0x0A (inMode mRUN)).setRole rMASTER with boot := 6, grants := Vector.replicate 9 (some ⟨0, .direct, 0, 0, 0⟩) },
     by unfold State.Accepts; decide +kernel⟩,
   ⟨0, ⟨0, .direct, 0, 0, 0⟩,
     { (unl 0x0A (inMode mRUN)).setRole rMASTER with boot := 6, grants := Vector.replicate 9 (some ⟨0, .direct, 0, 0, 0⟩) },
     by unfold State.Accepts; decide +kernel⟩⟩

theorem test_wit_BaleLoadSteps :
    (∃ (s : State), s.mode = mWAKING ∧ s.boot = 5 ∧ s.eng 7 ≠ eHALTED) ∧
    (∃ (s : State), s.mode ≠ mWAKING) ∧
    (∃ (s : State) (g : Nat), g < 4 ∧ s.regValid g = false ∧ (∀ h, h < g → s.regValid h = true)) ∧
    (∃ (s : State), (∀ g, g < 4 → s.regValid g = true) ∧ s.itemIs (slotB 0) 2 = false ∧ s.itemIs (slotB 1) 2 = false) ∧
    (∃ (s : State) (n : Nat) (w : Nat), s.baleHalf (slotB n) = some w) ∧
    (∃ (base : Nat) (i : Nat) (s : State), addrOk (s.baleLo base i) = false) ∧
    (∃ (cause : Nat) (detail : Nat) (kind : Nat), cause < 16 ∧ detail < 4096 ∧ kind < 3) :=
  ⟨⟨{ inMode mWAKING with boot := 5 }, by decide +kernel⟩,
   ⟨inMode mRUN, by decide +kernel⟩,
   ⟨{ inMode mWAKING with otpCtl := (2 ^ 144, 2 ^ 144, 2 ^ 144) }, 0, by decide +kernel⟩,
   ⟨inMode mWAKING, by decide +kernel⟩,
   ⟨{ inMode mWAKING with nvm := Memory.writes [] (slotB 0 + 0x104) [0, 0, 0, 0, 0, 0, 0, 0] }, 0, 0, by decide +kernel⟩,
   ⟨slotB 0, 0, ({ (inMode mWAKING) with nvm := Memory.writes [] (slotB 0) [2, 0, 0, 0] } : State), by decide +kernel⟩,
   ⟨15, 4095, 2, by decide +kernel⟩⟩

theorem test_wit_MarginAndSnapshotRows :
    (∃ (t : BitVec 8) (k : Cmd) (s : State), s.Ready t 0x03 k ∧ s.mode ≠ mSERVICE ∧ getBits k.a1 8 1 = 0) ∧
    (∃ (t : BitVec 8) (k : Cmd) (s : State), s.Ready t 0x03 k ∧ getBits k.a0 0 6 < 38 ∧ margOk (signOf 6 (getBits k.a1 0 6)) =
      true ∧ k.a0.toNat / 64 = 0 ∧ getBits k.a1 6 2 = 0 ∧ k.a1.toNat / 512 = 0 ∧ k.a2 = 0 ∧ getBits k.a1 8 1 = 1) ∧
    (∃ (t : BitVec 8) (k : Cmd) (u : State) (s : State), s.Ready t 0x03 k ∧ s.mode = mSERVICE ∧ getBits k.a0 0 6 < 38 ∧ margOk
      (signOf 6 (getBits k.a1 0 6)) = true ∧ k.a0.toNat / 64 = 0 ∧ getBits k.a1 6 2 = 0 ∧ k.a1.toNat / 512 = 0 ∧ k.a2 = 0 ∧
      getBits k.a1 8 1 = 0 ∧ u = (((s.endMoves (getBits k.a0 0 6) stSUPERSEDED 0).wr (marg (getBits k.a0 0 6)) MARG.OUT_NEXT
      (getBits k.a1 0 6)).runK (if outKind (getBits k.a0 0 6) = .ldo then { k with aux := s.tick } else k)).margTake (getBits
      k.a0 0 6) ∧ u.regulates (getBits k.a0 0 6) = false ∧ u.outSt (getBits k.a0 0 6) ≠ 1 ∧ u.outSt (getBits k.a0 0 6) ≠ 2) ∧
    (∃ (t : BitVec 8) (k : Cmd) (s : State), s.Ready t 0x03 k ∧ s.mode = mSERVICE ∧ 38 ≤ getBits k.a0 0 6) ∧
    (∃ (c : Fin 8) (s : State), s.AcceptsField c margB MARG.CTRL_APPLY 1 ∧ s.mode = mSERVICE) ∧
    (∃ (c : Fin 8) (x : Nat) (s : State), s.AcceptsField c margB MARG.CTRL_APPLY 1 ∧ s.mode ≠ mSERVICE ∧ x < 38 ∧ s.bit (marg
      x) MARG.OUT_PEND = true ∧ s.rd (marg x) MARG.OUT_NEXT ≠ s.rd (marg x) MARG.OUT_CUR) ∧
    (∃ (c : Fin 8) (s : State), s.AcceptsField c margB MARG.CTRL_DISARM 1) ∧
    (∃ (t : BitVec 8) (k : Cmd) (s : State), s.findCmd t.toNat = some k ∧ k.op = 0x04 ∧ k.phase = .waiting ∧ s.cmdStopped k =
      false ∧ s.inTurn k = true ∧ s.mode ≠ mLOCKOUT ∧ s.snaps.length < 2 ∧ k.a0.toNat / 0x10000 = 0 ∧ k.a1 = 0 ∧ k.a2 = 0) ∧
    (∃ (t : BitVec 8) (k : Cmd) (s : State), s.findCmd t.toNat = some k ∧ k.op = 0x04 ∧ k.phase = .waiting ∧ s.cmdStopped k =
      false ∧ s.inTurn k = true ∧ 2 ≤ s.snaps.length) ∧
    (∃ (s : State), s.snaps.length < 2) ∧
    (∃ (x : Snap) (l : List Snap) (s : State), s.snaps = x :: l ∧ s.up = true ∧ s.stopped 7 = false ∧ s.nvmOff = false ∧
      s.snapPort = true ∧ s.snapLeft ≠ some 0 ∧ s.snapDue = none) ∧
    (∃ (x : Snap) (l : List Snap) (s : State), s.snaps = x :: l ∧ s.up = true ∧ s.stopped 7 = false ∧ s.nvmOff = false ∧
      s.snapPort = true ∧ s.snapLeft ≠ some 0 ∧ x.pages + 1 < 32 ∧ s.mustRevoke 6 = true) ∧
    (∃ (s : State), s.snapLeft = some 0) ∧
    (∃ (x : Snap) (l : List Snap) (s : State), s.snaps = x :: l ∧ x.pages = 0) :=
  ⟨⟨1, cmd 3 0 5 0, withCmd (cmd 3 0 5 0) (inMode mRUN), by unfold State.Ready; decide +kernel⟩,
   ⟨1, cmd 3 37 0x114 0, withCmd (cmd 3 37 0x114 0) (inMode mRUN), by unfold State.Ready; decide +kernel⟩,
   ⟨1, cmd 3 37 20 0, (((((withCmd (cmd 3 37 20 0) (inMode mSERVICE)).wr (marg 37) MARG.OUT_NEXT 20).endMoves 37 stSUPERSEDED
     0).runK (cmd 3 37 20 0)).margTake 37), withCmd (cmd 3 37 20 0) (inMode mSERVICE), by unfold State.Ready; decide +kernel⟩,
   ⟨1, cmd 3 38 5 0, withCmd (cmd 3 38 5 0) (inMode mSERVICE), by unfold State.Ready; decide +kernel⟩,
   ⟨0, unl 0x26 (inMode mSERVICE), by unfold State.AcceptsField; decide +kernel⟩,
   ⟨0, 37, ((unl 0x26 (inMode mRUN)).wr (marg 37) MARG.OUT_PEND 1).wr (marg 37) MARG.OUT_NEXT 5,
     by unfold State.AcceptsField; decide +kernel⟩,
   ⟨0, unl 0x26 (inMode mRUN), by unfold State.AcceptsField; decide +kernel⟩,
   ⟨1, cmd 4 0xFFFF 0 0, withCmd (cmd 4 0xFFFF 0 0) (inMode mRUN), by decide +kernel⟩,
   ⟨1, cmd 4 0 0 0, { withCmd (cmd 4 0 0 0) (inMode mRUN) with snaps := [⟨[], 0, none, 0⟩, ⟨[], 1, none, 0⟩] },
     by decide +kernel⟩,
   ⟨inMode mRUN, by decide +kernel⟩,
   ⟨⟨[], 0, none, 0⟩, [], holder 6 ⟨feSeven, .engine, 0, 0, 0⟩ { inMode mRUN with snaps := [⟨[], 0, none, 0⟩] },
     by decide +kernel⟩,
   ⟨⟨[], 0, none, 0⟩, [], holder 6 ⟨feSeven, .engine, 0, 0, 0⟩
     { (((({ inMode mRUN with queues := (Vector.replicate 6 []).set! 3 [{ who := 3, org := .engine, age := 0, prog := 0, inq := true }], slotW := 0x3FFFFFFF } : State).wr arbB (ARB.CFG_PREEMPT.at 6) 1).setW (arbB + 0x44) 0x8888F880).setW (arbB + 0x48) 0) with snaps := [⟨[], 0, none, 0⟩] },
     by decide +kernel⟩,
   ⟨{ inMode mRUN with snapLeft := some 0 }, by decide +kernel⟩,
   ⟨⟨[1], 4, none, 0⟩, [], { inMode mRUN with snaps := [⟨[1], 4, none, 0⟩] }, by decide +kernel⟩⟩

theorem test_wit_ConversionRows :
    (∃ (v : Fin 2) (ch : Nat) (s : State), s.convOn v = true ∧ s.bit adcB ADC.STATUS_REF_READY = true ∧ s.urgOf v = none ∧
      (s.convAt v).1 ≤ s.quarter ∧ s.adcEntry v (s.rd (convStat v) ADC.CONV_STAT_ENTRY) % 256 = ch ∧ s.rd (convStat v)
      ADC.CONV_STAT_ENTRY + 1 < s.convLen v) ∧
    (∃ (v : Fin 2) (s : State), (s.convOn v = false ∨ s.urgOf v ≠ none ∨ s.quarter < (s.convAt v).1)) ∧
    (∃ (v : Nat) (k : Nat), v < 2 ∧ 0 < k) ∧
    (∃ (v : Nat), v < 2) ∧
    (∃ (ch : Fin 192) (s : State), s.accSync ch = s ∧ (s.acc ch).cnt < 0xFFFFFE) ∧
    (∃ (ch : Fin 192) (s : State), s.accSync ch = s ∧ 0xFFFFFF ≤ (s.acc ch).cnt) ∧
    (∃ (ch : Fin 192) (s : State), s.chWin ch ≠ 0 ∧ s.tick % (1000 * 2 ^ (s.chWin ch - 1)) = 0 ∧ (s.acc ch).bnd ≠ s.tick + 1 ∧
      s.up = true) ∧
    (∃ (ch : Fin 192) (s : State), (s.chWin ch = 0 ∨ s.tick % (1000 * 2 ^ (s.chWin ch - 1)) ≠ 0 ∨ (s.acc ch).bnd = s.tick +
      1)) ∧
    (∃ (sum : Nat) (cnt : Nat), sum < 2 ^ 40 ∧ cnt < 2 ^ 24) :=
  ⟨⟨0, 0, (((inMode mRUN).wr adcB ADC.STATUS_REF_READY 1).wr (convCfg 0) ADC.CONV_CFG_EN 1).wr (convCfg 0) ADC.CONV_CFG_LEN 4,
     by decide +kernel⟩,
   ⟨1, inMode mRUN, by decide +kernel⟩,
   ⟨0, 1, by decide +kernel⟩,
   ⟨1, by decide +kernel⟩,
   ⟨191, { inMode mRUN with tick := 1 }, by decide +kernel⟩,
   ⟨0, ({ inMode mRUN with tick := 1 } : State).modAcc 0 (fun h => { h with cnt := 0xFFFFFF }), by decide +kernel⟩,
   ⟨191, let s := inMode mRUN; s.setChCfg 191 (s.chCfg 191 ||| 1), by decide +kernel⟩,
   ⟨0, { inMode mRUN with tick := 1 }, by decide +kernel⟩,
   ⟨5, 6, by decide +kernel⟩⟩

theorem test_wit_ReferenceAndClearRows :
    (∃ (c : Fin 8) (s : State), s.AcceptsField c adcB ADC.CTRL_REF_EN 1 ∧ s.bit adcB ADC.CTRL_REF_EN = false ∧
      s.supOut.testBit 3 = false) ∧
    (∃ (c : Fin 8) (s : State), s.AcceptsField c adcB ADC.CTRL_REF_EN 0 ∧ s.adc.urg0 = none ∧ s.adc.urg1 = none) ∧
    (∃ (s : State), s.bit adcB ADC.CTRL_REF_EN = true ∧ s.bit adcB ADC.STATUS_REF_READY = false ∧ s.adc.auto = false ∧ s.ran
      .ref 2000 = true) ∧
    (∃ (s : State), s.ran .ref 2000 = false) ∧
    (∃ (c : Fin 8) (k : Fin 2) (v : Word) (s : State), s.Accepts c (convCfg k) v ∧ getBits v 0 1 = 1 ∧ getBits v 8 8 = s.rd
      (convCfg k) ADC.CONV_CFG_LEN ∧ s.bit adcB ADC.STATUS_REF_READY = false) ∧
    (∃ (c : Fin 8) (k : Fin 2) (v : Word) (s : State), s.Accepts c (convCfg k) v ∧ getBits v 0 1 = 1 ∧ s.bit adcB
      ADC.STATUS_REF_READY = true ∧ s.convOn k = false) ∧
    (∃ (c : Fin 8) (v : Word) (s : State), s.Accepts c (adcB + 0x58) v ∧ s.grantOf 7 = none) ∧
    (∃ (c : Fin 8) (v : Word) (g : Grant) (s : State), s.Accepts c (adcB + 0x58) v ∧ s.grantOf 7 = some g ∧ g.who = c ∧ g.org
      = .direct ∧ s.bit adcB ADC.STATUS_REF_READY = true ∧ s.urgOf (getBits v 8 1) = none) ∧
    (∃ (v : Fin 2) (ch : Nat) (q : Nat) (s : State), s.urgOf v = some (ch, false, q) ∧ q ≤ s.quarter ∧ s.convOn v = false) ∧
    (∃ (v : Fin 2) (ch : Nat) (q : Nat) (b : Bool) (s : State), s.urgOf v = some (ch, b, q) ∧ s.quarter < q) ∧
    (∃ (c : Fin 8) (i : Fin 2) (v : Word) (s : State), s.Accepts c (accB i + 0x40) v ∧ getBits v 8 1 = 0 ∧ getBits v 0 7 < 96
      ∧ s.accSync (96 * i + getBits v 0 7) = s ∧ (s.acc (96 * i + getBits v 0 7)).upd ≠ s.tick + 1) ∧
    (∃ (c : Fin 8) (i : Fin 2) (v : Word) (s : State), s.Accepts c (accB i + 0x44) v ∧ getBits v 8 1 = 0 ∧ getBits v 0 7 < 96
      ∧ (s.acc (96 * i + getBits v 0 7)).upd ≠ s.tick + 1) :=
  ⟨⟨0, (unl 0x24 (inMode mRUN)).wr adcB ADC.CTRL_REF_EN 0, by unfold State.AcceptsField; decide +kernel⟩,
   ⟨0, (((unl 0x24 (inMode mRUN)).wr adcB ADC.CTRL_REF_EN 1).wr adcB ADC.STATUS_REF_READY 1).setConv 0 true,
     by unfold State.AcceptsField; decide +kernel⟩,
   ⟨aged .ref (((inMode mRUN).wr adcB ADC.CTRL_REF_EN 1).wr adcB ADC.STATUS_REF_READY 0), by decide +kernel⟩,
   ⟨inMode mRUN, by decide +kernel⟩,
   ⟨0, 1, let s := unl 0x24 (inMode mRUN); BitVec.ofNat 32 (1 + 256 * s.rd (convCfg 1) ADC.CONV_CFG_LEN), (unl 0x24 (inMode
     mRUN)).wr adcB ADC.STATUS_REF_READY 0, by unfold State.Accepts; decide +kernel⟩,
   ⟨0, 1, 0x00107F01, (unl 0x24 (inMode mRUN)).wr adcB ADC.STATUS_REF_READY 1, by unfold State.Accepts; decide +kernel⟩,
   ⟨0, 5, unl 0x24 (inMode mRUN), by unfold State.Accepts; decide +kernel⟩,
   ⟨0, 0x105, ⟨0, .direct, 0, 0, 0⟩, holder 7 ⟨0, .direct, 0, 0, 0⟩ ((unl 0x24 (inMode mRUN)).wr adcB ADC.STATUS_REF_READY 1),
     by unfold State.Accepts; decide +kernel⟩,
   ⟨1, 191, 0, { inMode mRUN with adc := { AdcHid.reset with urg1 := some (191, false, 0) } }, by decide +kernel⟩,
   ⟨1, 191, 100, false, { inMode mRUN with adc := { AdcHid.reset with urg1 := some (191, false, 100) } }, by decide +kernel⟩,
   ⟨0, 1, 95, ({ unl 0x26 (inMode mRUN) with tick := 1 } : State).modAcc 191 (fun h => { h with sum := 7, cnt := 2 }),
     by unfold State.Accepts; decide +kernel⟩,
   ⟨0, 0, 0, ({ unl 0x25 (inMode mRUN) with tick := 1 } : State).modAcc 0 (fun h =>
     { h with mn := 7, mx := 9, empty := false }), by unfold State.Accepts; decide +kernel⟩⟩

theorem test_wit_AdcCalibrationRows :
    (∃ (t : BitVec 8) (k : Cmd) (s : State), s.Ready t 0x0B k ∧ calStep k = 0 ∧ s.calRefusal k false true = none) ∧
    (∃ (t : BitVec 8) (k : Cmd) (s : State), s.Ready t 0x0B k ∧ calStep k = 0 ∧ s.mode ≠ mSERVICE) ∧
    (∃ (t : BitVec 8) (k : Cmd) (z : Nat × Nat × Nat) (s : State), s.Ready t 0x0B k ∧ calStep k = 1 ∧ s.adc.cal.zero = some z
      ∧ s.adc.cal.ch = calChan k ∧ s.calRefusal k false true = none) ∧
    (∃ (t : BitVec 8) (k : Cmd) (s : State), s.Ready t 0x0B k ∧ calStep k = 1 ∧ s.mode = mSERVICE ∧ calChan k < 192 ∧
      k.a1.toNat < 0x4000 ∧ s.adc.cal.zero = none) ∧
    (∃ (k : Cmd) (s : State), s.runningCmd 0x0B = some k ∧ s.cmdStopped k = false ∧ s.adc.cal.act = true ∧ 2 ^ s.adc.cal.ns ≤
      s.adc.cal.n ∧ s.adc.cal.full = false) ∧
    (∃ (k : Cmd) (p : Nat × Int) (s : State), s.runningCmd 0x0B = some k ∧ s.cmdStopped k = false ∧ s.adc.cal.act = true ∧ 2 ^
      s.adc.cal.ns ≤ s.adc.cal.n ∧ s.adc.cal.full = true ∧ calPair (s.adc.cal.zero.getD (0, 0, 0)) (s.adc.cal.sum,
      s.adc.cal.ns, s.adc.cal.e) = some p) ∧
    (∃ (k : Cmd) (s : State), s.runningCmd 0x0B = some k ∧ s.cmdStopped k = false ∧ s.ran .cal 1000000 = true) ∧
    (∃ (s : State), s.ran .cal 1000000 = false) ∧
    (∃ (t : BitVec 8) (k : Cmd) (p : Nat × Int) (s : State), s.Ready t 0x0B k ∧ calStep k = 2 ∧ s.adc.cal.pair = some p ∧
      s.adc.cal.ch = calChan k ∧ s.calRefusal k false false = none ∧ s.supOut.testBit 4 = false) ∧
    (∃ (t : BitVec 8) (k : Cmd) (s : State), s.Ready t 0x0B k ∧ calStep k = 3 ∧ s.mode = mSERVICE ∧ calChan k < 192 ∧ s.bit
      adcB ADC.STATUS_REF_READY = true ∧ k.a0.toNat / 0x400 = 0 ∧ k.a1.toNat / 0x4000 = 0 ∧ k.a2.toNat / 16 = 0 ∧ 4 ≤ getBits
      k.a2 0 4 ∧ getBits k.a2 0 4 ≤ 12) ∧
    (∃ (zero : Nat × Nat × Nat) (full : Nat × Nat × Nat), full.2.2 < zero.2.2 + 4096) :=
  ⟨⟨1, cmd 11 0 0 4, withCmd (cmd 11 0 0 4) ((((((inMode mSERVICE).wr (convCfg 0) ADC.CONV_CFG_EN 1).wr adcB
     ADC.STATUS_REF_READY 1).wr (convCfg 0) ADC.CONV_CFG_LEN 4))), by unfold State.Ready; decide +kernel⟩,
   ⟨1, cmd 11 0 0 4, withCmd (cmd 11 0 0 4) (inMode mRUN), by unfold State.Ready; decide +kernel⟩,
   ⟨1, cmd 0xB 0x100 0x3000 4, (1, 4, 2), withCmd (cmd 0xB 0x100 0x3000 4)
     ({ ((((((inMode mSERVICE).wr (convCfg 0) ADC.CONV_CFG_EN 1).wr adcB ADC.STATUS_REF_READY 1).wr (convCfg 0) ADC.CONV_CFG_LEN 4))) with adc := { AdcHid.reset with cal := { CalHid.reset with ch := 0, zero := some (1, 4, 2) } } }),
     by unfold State.Ready; decide +kernel⟩,
   ⟨1, cmd 11 0x100 0 4, withCmd (cmd 11 0x100 0 4) ((((((inMode mSERVICE).wr (convCfg 0) ADC.CONV_CFG_EN 1).wr adcB
     ADC.STATUS_REF_READY 1).wr (convCfg 0) ADC.CONV_CFG_LEN 4))), by unfold State.Ready; decide +kernel⟩,
   ⟨{ cmd 0xB 0 0 4 with phase := .running }, withCmd { cmd 0xB 0 0 4 with phase := .running }
     ({ ((((((inMode mSERVICE).wr (convCfg 0) ADC.CONV_CFG_EN 1).wr adcB ADC.STATUS_REF_READY 1).wr (convCfg 0) ADC.CONV_CFG_LEN 4))) with adc := { AdcHid.reset with cal := { CalHid.reset with act := true, ns := 4, n := 16 } } }),
     by decide +kernel⟩,
   ⟨{ cmd 0xB 0x100 8000 4 with phase := .running }, (32768, 0), withCmd { cmd 0xB 0x100 8000 4 with phase := .running }
     ({ ((((((inMode mSERVICE).wr (convCfg 0) ADC.CONV_CFG_EN 1).wr adcB ADC.STATUS_REF_READY 1).wr (convCfg 0) ADC.CONV_CFG_LEN 4))) with adc := { AdcHid.reset with cal := { CalHid.reset with act := true, full := true, zero := some (0, 4, 0), ns := 4, n := 16, e := 8000, sum := 2048000 } } }),
     by decide +kernel⟩,
   ⟨{ cmd 0xB 0 0 4 with phase := .running }, aged .cal (withCmd { cmd 0xB 0 0 4 with phase := .running } ((((((inMode
     mSERVICE).wr (convCfg 0) ADC.CONV_CFG_EN 1).wr adcB ADC.STATUS_REF_READY 1).wr (convCfg 0) ADC.CONV_CFG_LEN 4)))),
     by decide +kernel⟩,
   ⟨(((((inMode mSERVICE).wr (convCfg 0) ADC.CONV_CFG_EN 1).wr adcB ADC.STATUS_REF_READY 1).wr (convCfg 0) ADC.CONV_CFG_LEN
     4)), by decide +kernel⟩,
   ⟨1, cmd 0xB 0x200 0 4, (32768, 5), withCmd (cmd 0xB 0x200 0 4)
     ({ ((((((inMode mSERVICE).wr (convCfg 0) ADC.CONV_CFG_EN 1).wr adcB ADC.STATUS_REF_READY 1).wr (convCfg 0) ADC.CONV_CFG_LEN 4))) with adc := { AdcHid.reset with cal := { CalHid.reset with ch := 0, pair := some (32768, 5) } } }),
     by unfold State.Ready; decide +kernel⟩,
   ⟨1, cmd 11 0x300 0 4, withCmd (cmd 11 0x300 0 4) ((((((inMode mSERVICE).wr (convCfg 0) ADC.CONV_CFG_EN 1).wr adcB
     ADC.STATUS_REF_READY 1).wr (convCfg 0) ADC.CONV_CFG_LEN 4))), by unfold State.Ready; decide +kernel⟩,
   ⟨(0, 4, 0), (0, 4, 4095), by decide +kernel⟩⟩

theorem test_wit_ThermalRows :
    (∃ (s : State), s.bit thmB THM.STATUS_RUN = true ∧ s.up = true ∧ s.stopped 3 = false ∧ s.tick % 1000 = 0 ∧ s.thm.done ≠
      s.tick + 1) ∧
    (∃ (s : State), s.bit thmB THM.STATUS_RUN = true ∧ s.up = true ∧ s.stopped 3 = true ∧ s.tick % 1000 = 0 ∧ s.thm.done ≠
      s.tick + 1) ∧
    (∃ (s : State), (s.bit thmB THM.STATUS_RUN = false ∨ s.tick % 1000 ≠ 0 ∨ s.thm.done = s.tick + 1)) ∧
    (∃ (k : Fin 24) (s : State), s.stopped 3 = false ∧ 1 ≤ s.level k ∧ s.level k ≤ 5 ∧ 1000 ≤ (s.nodeH k).low ∧ s.floorLevel k
      < s.level k) ∧
    (∃ (k : Fin 24) (s : State), s.stopped 3 = false ∧ (s.level k = 6 ∨ (s.nodeH k).low < 1000)) ∧
    (∃ (k : Fin 24) (s : State), s.stopped 3 = false ∧ s.bit (node k) THM.NODE_T_RATE = true ∧ 100 ≤ (s.nodeH k).slow) ∧
    (∃ (k : Fin 24) (s : State), s.stopped 3 = false ∧ (s.nodeH k).slow < 100) ∧
    (∃ (s : State), s.stopped 3 = false ∧ s.bit thmB THM.DIEMON_OVER = true ∧ s.thm.dShed = false ∧ s.ran .dieOver (1000000 *
      orIf0 (s.rd thmB THM.DIE_SHED_T) 1) = true) ∧
    (∃ (s : State), s.stopped 3 = false ∧ s.ran .dieOver (1000000 * orIf0 (s.rd thmB THM.DIE_SHED_T) 1) = false) ∧
    (∃ (c : Fin 8) (v : Word) (s : State), s.Accepts c (thmB + 0x39C) v ∧ getBits v 0 5 < 24) ∧
    (∃ (c : Fin 8) (v : Word) (s : State), s.Accepts c (thmB + 0x39C) v ∧ 24 ≤ getBits v 0 5) ∧
    (∃ (s : State) (k : Nat) (l : Nat), l ≤ s.level k) :=
  ⟨⟨(inMode mRUN).wr thmB THM.STATUS_RUN 1, by decide +kernel⟩,
   ⟨((inMode mRUN).wr thmB THM.STATUS_RUN 1).wr devB DEV.STATUS_WARM_BUSY 1, by decide +kernel⟩,
   ⟨(inMode mRUN).wr thmB THM.STATUS_RUN 0, by decide +kernel⟩,
   ⟨23, ((inMode mRUN).wr (node 23) THM.NODE_T_LEVEL 5).modNode 23 (fun h => { h with low := 1000 }), by decide +kernel⟩,
   ⟨0, (inMode mRUN).wr (node 0) THM.NODE_T_LEVEL 6, by decide +kernel⟩,
   ⟨1, (((inMode mRUN).wr (node 1) THM.NODE_T_RATE 1).wr (node 1) THM.NODE_LIM_RMAX 100).modNode 1 (fun h =>
     { h with slow := 100 }), by decide +kernel⟩,
   ⟨1, inMode mRUN, by decide +kernel⟩,
   ⟨aged .dieOver ((inMode mRUN).wr thmB THM.DIEMON_OVER 1), by decide +kernel⟩,
   ⟨inMode mRUN, by decide +kernel⟩,
   ⟨0, 0x80000017, unl 0x27 (inMode mRUN), by unfold State.Accepts; decide +kernel⟩,
   ⟨0, 24, unl 0x27 (inMode mRUN), by unfold State.Accepts; decide +kernel⟩,
   ⟨inMode mRUN, 0, 0, by decide +kernel⟩⟩

theorem test_wit_AcceptedFrames :
    (∃ (c : Fin 8) (f : Frame) (s : State), s.answers c = true ∧ f.of 2 = true ∧ f.low = [] ∧ f.rstKey = false ∧ s.writeStatus
      c f = (fsOK, false)) ∧
    (∃ (c : Fin 8) (f : Frame) (s : State), s.answers c = true ∧ f.of 3 = true ∧ f.low = [] ∧ f.rstKey = false ∧ s.writeStatus
      c f = (fsOK, false)) ∧
    (∃ (c : Fin 8) (f : Frame) (s : State), s.answers c = true ∧ f.of 1 = true ∧ f.low = [] ∧ f.form = fsOK ∧ f.late = false ∧
      s.quar c = false ∧ s.seqCheck c f.seq = fsOK ∧ s.readCheck f.addr f.len = (fsOK, false)) ∧
    (∃ (c : Fin 8) (f : Frame) (s : State), s.answers c = true ∧ f.of 4 = true ∧ f.low = [] ∧ f.form = fsOK ∧ s.quar c = false
      ∧ s.seqCheck c f.seq = fsOK ∧ s.mode ≠ mWAKING ∧ s.mode ≠ mLOCKOUT ∧ s.ringOn c = true ∧ s.ringsServed = true ∧ f.addr %
      64 < s.sqSize c ∧ f.addr % 64 = (s.rd (cqeC c) CQE.CTX_SQT_TAIL + f.len / 4) % s.sqSize c ∧ s.rd (cqeC c)
      CQE.CTX_SQT_WAIT + f.len / 4 ≤ s.sqSize c) ∧
    (∃ (c : Fin 8) (f : Frame) (s : State), s.answers c = true ∧ f.of 5 = true ∧ f.low = [] ∧ f.form = fsOK) :=
  ⟨⟨0, frame 0x20000014 [0xFFFFFFF0] 1 [], inMode mRUN, by decide +kernel⟩,
   ⟨0, frame 0x31000014 [0xFFFFFFFF, 0xFFFFFFF0] 1 [], inMode mRUN, by decide +kernel⟩,
   ⟨0, frame 0x10000080 [] 1 [0, 0, 0], inMode mRUN, by decide +kernel⟩,
   ⟨0, frame 0x43000001 [1, 2, 3, 4] 1 [], (inMode mRUN).wr (cqeC 0) CQE.CTX_CFG_EN 1, by decide +kernel⟩,
   ⟨0, frame 0x50000000 [] 1 [], inMode mRUN, by decide +kernel⟩⟩

theorem test_wit_FramesWithoutEffect :
    (∃ (c : Fin 8) (f : Frame) (s : State) (op : Nat) (i : Instr), s.answers c = true ∧ f.of op = true ∧ f.low = [] ∧ s.quar c
      = true ∧ f.rstKey = false ∧ (op = 1 ∧ i = .read c f ∨ op = 2 ∧ i = .write c f ∨ op = 3 ∧ i = .writeMasked c f ∨ op = 4 ∧
      i = .doorbell c f)) ∧
    (∃ (c : Fin 8) (f : Frame) (s : State) (op : Nat) (i : Instr), s.answers c = true ∧ f.of op = true ∧ f.low = [] ∧ s.quar c
      = false ∧ f.form = fsOK ∧ f.toRst = false ∧ s.seqCheck c f.seq = fsREPEAT ∧ (op = 1 ∧ i = .read c f ∨ op = 2 ∧ i =
      .write c f ∨ op = 3 ∧ i = .writeMasked c f ∨ op = 4 ∧ i = .doorbell c f)) ∧
    (∃ (c : Fin 8) (f : Frame) (s : State), s.answers c = true ∧ f.of 2 = true ∧ f.low = [] ∧ s.quar c = false ∧ f.form =
      fsCRC) ∧
    (∃ (c : Fin 8) (s : State), (s.ctx c).vwin = true ∧ s.ran (.vwin c.val) (1000 * orIf0 (s.rd hifB HIF.CFG_VWIN) 1) = true) ∧
    (∃ (c : Fin 8) (s : State), s.ran (.vwin c.val) (1000 * orIf0 (s.rd hifB HIF.CFG_VWIN) 1) = false) ∧
    (∃ (c : Fin 8) (s : State), s.answers c = true ∧ s.modeTakes c 0x0C44 0xC7C7 = true) :=
  ⟨⟨0, frame 0x20000084 [5] 1 [], (inMode mRUN).wr hifB (HIF.STATUS_QUAR.at 0) 1, 2, .write 0 (frame 0x20000084 [5] 1 []),
     by decide +kernel⟩,
   ⟨0, frame 0x20000084 [5] 7 [], ((inMode mRUN).wr hifB (HIF.STATUS_UNSYNC.at 8) 0).wr (hifC 0) HIF.CTX_SEQ_LAST 7, 2, .write
     0 (frame 0x20000084 [5] 7 []), by decide +kernel⟩,
   ⟨0, { frame 0x20000084 [5] 1 [] with words := [0x20000084, 5, 1] }, (inMode mRUN).wr hifB HDR.ERR_MASK 0xFFFFFFFF,
     by decide +kernel⟩,
   ⟨0, aged (.vwin 0) ((inMode mRUN).modCtx 0 (fun h => { h with vwin := true })), by decide +kernel⟩,
   ⟨0, inMode mRUN, by decide +kernel⟩,
   ⟨0, inMode mRUN, by decide +kernel⟩⟩

theorem test_wit_RingRows :
    (∃ (c : Fin 8) (s : State), s.fetchNext = some c) ∧
    (∃ (s : State), s.fetchNext = none) ∧
    (∃ (k : Cmd), (k.op = 0 ∨ 0x17 < k.op)) ∧
    (∃ (k : Cmd) (flags : Nat), 1 ≤ k.op ∧ k.op ≤ 0x17 ∧ 4 ≤ flags) ∧
    (∃ (k : Cmd) (flags : Nat) (s : State), 1 ≤ k.op ∧ k.op ≤ 0x17 ∧ flags < 4 ∧ (s.getW (cqeC k.ctx + 4)).getLsbD (k.op - 1)
      = false) ∧
    (∃ (k : Cmd) (flags : Nat) (s : State), 1 ≤ k.op ∧ k.op ≤ 0x17 ∧ flags < 4 ∧ (s.getW (cqeC k.ctx + 4)).getLsbD (k.op - 1)
      = true ∧ opServed k.op s.mode = false) ∧
    (∃ (k : Cmd) (flags : Nat) (s : State), 1 ≤ k.op ∧ k.op ≤ 0x17 ∧ flags < 4 ∧ (s.getW (cqeC k.ctx + 4)).getLsbD (k.op - 1)
      = true ∧ opServed k.op s.mode = true) ∧
    (∃ (c : Fin 8) (v : Word) (s : State), s.Accepts c 0x1050 v ∧ s.cqhOk c (getBits v 0 6) = true) ∧
    (∃ (c : Fin 8) (v : Word) (s : State), s.Accepts c 0x1050 v ∧ s.cqhOk c (getBits v 0 6) = false) ∧
    (∃ (c : Fin 8) (s : State), s.ringLate c = true ∧ (s.ctx c).irqTmo = false) ∧
    (∃ (c : Fin 8) (e : Cpl) (s : State), (s.ctx c).cq.find? (fun e => !e.quiet) = some e) ∧
    (∃ (c : Fin 8) (s : State), s.ringLate c = false) :=
  ⟨⟨0, ((((inMode mRUN).wr (cqeC 0) CQE.CTX_CFG_EN 1)).wr (cqeC 0) CQE.CTX_SQT_WAIT 1).modCtx 0 (fun h =>
     { h with sq := [⟨0x07000000, 0, 0, 0⟩] }), by decide +kernel⟩,
   ⟨inMode mRUN, by decide +kernel⟩,
   ⟨cmd 0x18 0 0 0, by decide +kernel⟩,
   ⟨cmd 0x17 0 0 0, 4, by decide +kernel⟩,
   ⟨cmd 0x17 0 0 0, 3, (inMode mRUN).setW (cqeC 0 + 4) 0, by decide +kernel⟩,
   ⟨cmd 0x17 0 0 0, 0, (inMode mHOLD).setW (cqeC 0 + 4) 0xFFFFFFFF, by decide +kernel⟩,
   ⟨cmd 0x17 0 0 0, 0, (inMode mRUN).setW (cqeC 0 + 4) 0xFFFFFFFF, by decide +kernel⟩,
   ⟨0, 1, (inMode mRUN).wr (cqeC 0) CQE.CTX_CQT_FILL 1, by unfold State.Accepts; decide +kernel⟩,
   ⟨0, 1, inMode mRUN, by unfold State.Accepts; decide +kernel⟩,
   ⟨0, { ((inMode mRUN).wr (cqeC 0) CQE.CTX_IRQ_TMO 5).modCtx 0 (fun h => { h with cq := [⟨0, false, 0⟩] }) with tick := 10 },
     by decide +kernel⟩,
   ⟨0, ⟨0, false, 0⟩, ((inMode mRUN).wr (cqeC 0) CQE.CTX_IRQ_TMO 5).modCtx 0 (fun h => { h with cq := [⟨0, false, 0⟩] }),
     by decide +kernel⟩,
   ⟨0, inMode mRUN, by decide +kernel⟩⟩

theorem test_wit_ArbiterRows :
    (∃ (s : State), s.up = true ∧ s.tick % 50 = 0) ∧
    (∃ (s : State), s.tick % 50 ≠ 0) ∧
    (∃ (s : State), s.up = true ∧ s.doomed = []) ∧
    (∃ (g : Nat) (r : Nat) (q : Req) (s : State), (groupRes g).find? (fun r => (s.grantOf r).isNone) = some r ∧ s.pickReq g =
      some q) ∧
    (∃ (g : Nat) (s : State), s.pickReq g = none) ∧
    (∃ (q : Req), q.org = .engine) ∧
    (∃ (r : Fin 9) (s : State), s.up = true ∧ s.mustRevoke r = false) ∧
    (∃ (r : Fin 9) (g : Grant) (s : State), s.up = true ∧ s.mustRevoke r = true ∧ s.atBoundary r = true ∧ 4 ≤ r.val ∧
      s.grantOf r = some g ∧ g.org = .engine) ∧
    (∃ (c : Fin 8) (r : BitVec 4) (s : State), s.Accepts c (arbB + 0x4C) (BitVec.ofNat 32 (1 + r.toNat * 16)) ∧ (r = 7 ∨ r =
      8) ∧ queueFits (s.queueOf (resGroup r.toNat)) c = true) ∧
    (∃ (c : Fin 8) (r : BitVec 4) (s : State), s.Accepts c (arbB + 0x4C) (BitVec.ofNat 32 (1 + r.toNat * 16)) ∧ r ≠ 7 ∧ r ≠ 8) ∧
    (∃ (c : Fin 8) (r : BitVec 4) (s : State), s.Accepts c (arbB + 0x4C) (BitVec.ofNat 32 (2 + r.toNat * 16)) ∧ (r = 7 ∨ r =
      8) ∧ s.directHolds c r.toNat = true) ∧
    (∃ (c : Fin 8) (r : BitVec 4) (s : State), s.Accepts c (arbB + 0x4C) (BitVec.ofNat 32 (2 + r.toNat * 16)) ∧ s.directHolds
      c r.toNat = false) ∧
    (∃ (r : Fin 9) (g : Grant) (s : State), s.grantOf r = some g ∧ g.org = .direct ∧ s.rd arbB ARB.CFG_HOLD_MAX ≠ 0 ∧
      s.atBoundary r = true ∧ g.since + 1000 * s.rd arbB ARB.CFG_HOLD_MAX ≤ s.tick) ∧
    (∃ (r : Fin 9) (g : Grant) (s : State), s.grantOf r = some g ∧ s.tick < g.since + 1000 * s.rd arbB ARB.CFG_HOLD_MAX) :=
  ⟨⟨inMode mRUN, by decide +kernel⟩,
   ⟨{ inMode mRUN with tick := 1 }, by decide +kernel⟩,
   ⟨inMode mRUN, by decide +kernel⟩,
   ⟨5, 8, { who := 3, org := .engine, age := 0, prog := 0, inq := true },
     { inMode mRUN with queues := (Vector.replicate 6 []).set! 5 [{ who := 3, org := .engine, age := 0, prog := 0, inq := true }] },
     by decide +kernel⟩,
   ⟨5, inMode mRUN, by decide +kernel⟩,
   ⟨{ who := 3, org := .engine, age := 0, prog := 0, inq := true }, by decide +kernel⟩,
   ⟨8, inMode mRUN, by decide +kernel⟩,
   ⟨4, ⟨15, .engine, 0, 0, 0⟩, holder 4 ⟨15, .engine, 0, 0, 0⟩
     ((((({ inMode mRUN with queues := (Vector.replicate 6 []).set! 1 [{ who := 3, org := .engine, age := 0, prog := 0, inq := true }] })
     : State).wr arbB (ARB.CFG_PREEMPT.at 4) 1).setW (arbB + 0x44) 0x8888F888).setW (arbB + 0x48) 0), by decide +kernel⟩,
   ⟨0, 7, inMode mRUN, by unfold State.Accepts; decide +kernel⟩,
   ⟨0, 15, inMode mRUN, by unfold State.Accepts; decide +kernel⟩,
   ⟨0, 8, holder 8 ⟨0, .direct, 0, 0, 0⟩ (inMode mRUN), by unfold State.Accepts; decide +kernel⟩,
   ⟨0, 7, inMode mRUN, by unfold State.Accepts; decide +kernel⟩,
   ⟨8, ⟨0, .direct, 0, 0, 0⟩, { holder 8 ⟨0, .direct, 0, 0, 0⟩ ((inMode mRUN).wr arbB ARB.CFG_HOLD_MAX 5) with tick := 5000 },
     by decide +kernel⟩,
   ⟨8, ⟨0, .direct, 0, 0, 0⟩, holder 8 ⟨0, .direct, 0, 0, 0⟩ ((inMode mRUN).wr arbB ARB.CFG_HOLD_MAX 5), by decide +kernel⟩⟩

theorem test_wit_InterruptRows :
    (∃ (c : Fin 8) (e : Nat) (s : State), s.mayRead c 0x1848 = true ∧ s.claimable c = some e ∧ s.mode ≠ mLOCKOUT) ∧
    (∃ (c : Fin 8) (s : State), s.mayRead c 0x1848 = true ∧ s.claimable c = none) ∧
    (∃ (c : Fin 8) (v : Word) (s : State), s.Accepts c 0x184C v ∧ getBits v 0 10 < 160 ∧ s.intBit c 0xA0 (getBits v 0 10) =
      true) ∧
    (∃ (c : Fin 8) (v : Word) (s : State), s.Accepts c 0x184C v ∧ getBits v 0 10 < 160 ∧ s.intBit c 0xA0 (getBits v 0 10) =
      false) ∧
    (∃ (c : Fin 8) (v : Word) (s : State), s.Accepts c 0x1854 v ∧ getBits v 0 10 < 144) ∧
    (∃ (c : Fin 8) (v : Word) (s : State), s.Accepts c 0x1854 v ∧ 144 ≤ getBits v 0 10) ∧
    (∃ (s : State), s.up = true) ∧
    (∃ (c : Fin 8) (e : Nat) (s : State), e < 144 ∧ s.intBit c 0x60 e = true) ∧
    (∃ (c : Fin 8) (p : BitVec 6) (v : Word) (s : State), s.Accepts c (pg p.toNat + 0x1C) v) :=
  ⟨⟨0, 143, (((inMode mRUN).intPut 0 0x80 143 true).intPut 0 0x60 143 true).setW (intC 0 + 0x18C) 0xFF000000,
     by decide +kernel⟩,
   ⟨0, inMode mRUN, by decide +kernel⟩,
   ⟨0, 159, (inMode mRUN).intPut 0 0xA0 159 true, by unfold State.Accepts; decide +kernel⟩,
   ⟨0, 0, inMode mRUN, by unfold State.Accepts; decide +kernel⟩,
   ⟨0, 143, inMode mRUN, by unfold State.Accepts; decide +kernel⟩,
   ⟨0, 144, inMode mRUN, by unfold State.Accepts; decide +kernel⟩,
   ⟨inMode mRUN, by decide +kernel⟩,
   ⟨7, 143, (inMode mRUN).intPut 7 0x60 143 true, by decide +kernel⟩,
   ⟨0, 0, 0xFFFFFFFF, inMode mRUN, by unfold State.Accepts; decide +kernel⟩⟩

theorem test_wit_RaiseAndAcknowledge :
    (∃ (c : Fin 8) (id : BitVec 8) (s : State), s.Accepts c (fltB + 0x44) (BitVec.ofNat 32 id.toNat) ∧ id.toNat < 160 ∧ s.lat
      id.toNat = true) ∧
    (∃ (c : Fin 8) (id : BitVec 8) (s : State), s.Accepts c (fltB + 0x44) (BitVec.ofNat 32 id.toNat) ∧ (160 ≤ id.toNat ∨ s.lat
      id.toNat = false)) ∧
    (∃ (c : Fin 8) (s : State), s.Accepts c (fltB + 0x44) 0x100) ∧
    (∃ (c : Fin 8) (k : Fin 5) (v : Word) (s : State), s.Accepts c (fltB + 0x60 + 4 * k) v) ∧
    (∃ (s : State), s.anyUnack 1 = false) :=
  ⟨⟨0, 159, ((inMode mRUN).setLat 159 true).setUnack 159 1, by unfold State.Accepts; decide +kernel⟩,
   ⟨0, 160, inMode mRUN, by unfold State.Accepts; decide +kernel⟩,
   ⟨0, (inMode mRUN).setLat 0 true, by unfold State.Accepts; decide +kernel⟩,
   ⟨0, 4, 0x80000000, (inMode mRUN).setLat 159 true, by unfold State.Accepts; decide +kernel⟩,
   ⟨inMode mRUN, by decide +kernel⟩⟩

theorem test_wit_ForcingAndLog :
    (∃ (c : Fin 8) (k : Fin 5) (v : Word) (s : State), s.Accepts c (fltB + 0x80 + 4 * k) v) ∧
    (∃ (c : Fin 8) (k : Fin 5) (v : Word) (s : State), s.Accepts c (fltB + 0x80 + 4 * k) v) ∧
    (∃ (c : Fin 8) (p : BitVec 6) (v : Word) (s : State), s.Accepts c (pg p.toNat + 0x10) v) ∧
    (∃ (c : Fin 8) (p : BitVec 6) (v : Word) (s : State), s.Accepts c (pg p.toNat + 0x10) v ∧ v &&& accBits (fun x => x ==
      .w1s) (pg p.toNat + 0x10) = 0) ∧
    (∃ (p : Nat), silentPage (pg p) = true) ∧
    (∃ (c : Fin 8) (v : Word) (s : State), s.Accepts c (fltB + 0x40) v ∧ getBits v 0 1 = 1 ∧ s.mode ≠ mSERVICE) ∧
    (∃ (c : Fin 8) (v : Word) (s : State), s.Accepts c (fltB + 0x40) v ∧ getBits v 0 1 = 1 ∧ s.mode = mSERVICE) ∧
    (∃ (c : Fin 8) (v : Word) (s : State), s.Accepts c (fltB + 0x40) v ∧ getBits v 0 1 = 0) ∧
    (∃ (w : Word × Word) (rest : List (Word × Word)) (s : State), s.logQ = w :: rest ∧ s.fe7Writes = true) ∧
    (∃ (w : Word × Word) (rest : List (Word × Word)) (s : State), s.logQ = w :: rest ∧ s.fe7Writes = false) ∧
    (∃ (s : State), s.Inv) :=
  ⟨⟨0, 4, 1, inMode mSERVICE, by unfold State.Accepts; decide +kernel⟩,
   ⟨0, 0, 1, inMode mRUN, by unfold State.Accepts; decide +kernel⟩,
   ⟨0, 0x1C, 1, inMode mRUN, by unfold State.Accepts; decide +kernel⟩,
   ⟨0, 0, 0, inMode mRUN, by unfold State.Accepts; decide +kernel⟩,
   ⟨0x0B, by decide +kernel⟩,
   ⟨0, 3, unl 7 (inMode mRUN), by unfold State.Accepts; decide +kernel⟩,
   ⟨0, 9, unl 7 (inMode mSERVICE), by unfold State.Accepts; decide +kernel⟩,
   ⟨0, 8, unl 7 (inMode mRUN), by unfold State.Accepts; decide +kernel⟩,
   ⟨(1, 2), [], holder 6 ⟨feSeven, .engine, 0, 0, 0⟩ { (inMode mRUN).wr logB LOG.STATUS_SCAN_DONE 1 with logQ := [(1, 2)] },
     by decide +kernel⟩,
   ⟨(1, 2), [], { inMode mRUN with logQ := [(1, 2)] }, by decide +kernel⟩,
   ⟨inMode mRUN, by unfold State.Inv; decide +kernel⟩⟩

theorem test_wit_OwlRows :
    (∃ (c : Fin 8) (v : Word) (s : State), s.Accepts c 0x2040 v ∧ getBits v 16 16 ≠ 0x0D15) ∧
    (∃ (c : Fin 8) (v : Word) (s : State), s.Accepts c 0x2040 v ∧ getBits v 16 16 = 0x0D15 ∧ s.owlBind (getBits v 0 5) ≠ c) ∧
    (∃ (c : Fin 8) (v : Word) (s : State), s.Accepts c 0x2040 v ∧ getBits v 16 16 = 0x0D15 ∧ s.owlEnds (getBits v 0 5) = false
      ∧ 1 ≤ getBits v 0 5 ∧ getBits v 0 5 < 24 ∧ s.owlBind (getBits v 0 5) = c ∧ (s.owlH (getBits v 0 5)).run = true ∧ (¬
      ((s.owlH (getBits v 0 5)).late = true ∧ s.tick = (s.owlH (getBits v 0 5)).start)) ∧ s.served (getBits v 0 5) = false ∧
      ((s.owlH (getBits v 0 5)).first = true ∨ (s.owlH (getBits v 0 5)).start + (s.owlH (getBits v 0 5)).wopen ≤ s.tick) ∧
      s.tick < 2 ^ 32) ∧
    (∃ (i : Fin 32) (s : State), s.owlEnds i = true ∧ s.served i = true) ∧
    (∃ (i : Fin 32) (s : State), s.owlEnds i = true ∧ s.served i = false) ∧
    (∃ (i : Fin 32) (s : State), s.owlEnds i = false) ∧
    (∃ (n : OwlNote) (s : State), s.owlQ = [n] ∧ n.slot < 32 ∧ (n.cause = 3 ∨ n.cause = 4 ∨ n.cause = 5) ∧ n.shown = true) ∧
    (∃ (c : Fin 8) (i : Fin 32) (v : Word) (s : State), s.Accepts c (owl i) v ∧ getBits v 1 4 ≠ s.owlBind i) ∧
    (∃ (c : Fin 8) (i : Fin 32) (v : Word) (s : State), s.Accepts c (owl i) v ∧ getBits v 1 4 = s.owlBind i) ∧
    (∃ (c : Fin 8) (i : Fin 32) (v : Word) (s : State), s.Accepts c (owl i) v ∧ (getBits v 0 1 == 1) ≠ s.bit (owl i)
      WDG.SLOT_CFG_EN) ∧
    (∃ (i : Nat) (v : Word) (s : State), 1 ≤ i ∧ i < 24 ∧ s.bit (owl i) WDG.SLOT_CFG_EN = true ∧ getBits v 0 1 = 0 ∧ s.mode ≠
      mSERVICE ∧ s.mode ≠ mHOLD) :=
  ⟨⟨0, 0, (inMode mRUN).wr wdgB HDR.ERR_MASK 0xFFFFFFFF, by unfold State.Accepts; decide +kernel⟩,
   ⟨0, 0x0D150001, (inMode mRUN).wr (owl 1) WDG.SLOT_CFG_BIND 3, by unfold State.Accepts; decide +kernel⟩,
   ⟨0, 0x0D150017, ((inMode mRUN).wr (owl 23) WDG.SLOT_CFG_BIND 0).modOwl 23 (fun h =>
     { h with run := true, first := true, per := 5 }), by unfold State.Accepts; decide +kernel⟩,
   ⟨31, ((inMode mRUN).setServed 31 true).modOwl 31 (fun h => { h with run := true }), by decide +kernel⟩,
   ⟨1, (inMode mRUN).modOwl 1 (fun h => { h with run := true }), by decide +kernel⟩,
   ⟨0, inMode mRUN, by decide +kernel⟩,
   ⟨⟨0, 31, 4, 2, true⟩, { inMode mRUN with owlQ := [⟨0, 31, 4, 2, true⟩] }, by decide +kernel⟩,
   ⟨0, 1, 0x10, unl 8 (inMode mRUN), by unfold State.Accepts; decide +kernel⟩,
   ⟨0, 31, let s := inMode mRUN; BitVec.ofNat 32 (2 * s.owlBind 31), unl 8 (inMode mRUN),
     by unfold State.Accepts; decide +kernel⟩,
   ⟨0, 23, 1, unl 8 (inMode mRUN), by unfold State.Accepts; decide +kernel⟩,
   ⟨23, 0, (inMode mRUN).wr (owl 23) WDG.SLOT_CFG_EN 1, by decide +kernel⟩⟩

theorem test_wit_EngineAndClockRows :
    (∃ (n : Fin 8) (s : State), s.up = true ∧ s.eng n ≠ eHALTED ∧ s.eng n ≠ eOFF) ∧
    (∃ (n : Fin 8) (m : Fin 8) (s : State), s.up = true ∧ n ≠ m ∧ s.eng n ≠ eHALTED ∧ s.eng n ≠ eOFF ∧ s.eng m ≠ eHALTED ∧
      s.eng m ≠ eOFF) ∧
    (∃ (n : Fin 8) (s : State), s.eng n = eHALTED) ∧
    (∃ (n : Fin 8) (s : State), s.eng n = eRUN) ∧
    (∃ (us : Nat) (s : State), s.up = true ∧ 20 ≤ us) ∧
    (∃ (us : Nat), us < 20) ∧
    (∃ (ns : Nat) (khz : Nat) (s : State), s.up = true ∧ s.xiGood = true ∧ (2000 ≤ ns ∨ khz < 23750 ∨ 26250 < khz)) ∧
    (∃ (ns : Nat) (khz : Nat), ns < 2000 ∧ 23750 ≤ khz ∧ khz ≤ 26250) ∧
    (∃ (us : Nat) (s : State), s.up = true ∧ s.bit clkB CLK.STATUS_REF_RC = true ∧ s.bit clkB CLK.CFG_AUTO_RET = true ∧ 100000
      ≤ us) ∧
    (∃ (us : Nat) (s : State), s.up = true ∧ s.bit clkB CLK.STATUS_REF_RC = true ∧ (s.bit clkB CLK.CFG_AUTO_RET = false ∨ us <
      100000)) ∧
    (∃ (c : Fin 8) (v : Word) (s : State), s.Accepts c 0x444 v ∧ getBits v 0 1 = 1 ∧ s.xiGood = true ∧ s.bit clkB
      CLK.STATUS_REF_RC = true) ∧
    (∃ (c : Fin 8) (v : Word) (s : State), s.Accepts c 0x444 v ∧ s.xiGood = false) ∧
    (∃ (i : Fin 16) (pm : Nat) (s : State), s.up = true ∧ s.droopLvl < pm ∧ (s.droopOf i).1 = 0) ∧
    (∃ (pm : Nat) (s : State), pm ≤ s.droopLvl) ∧
    (∃ (i : Fin 16) (pm : Nat) (gap : Nat) (s : State), pm + 10 ≤ s.droopLvl ∧ orIf0 (s.rd clkB CLK.CFG_REL_T) 1 ≤ gap ∧
      (s.droopOf i).1 = 1) ∧
    (∃ (i : Fin 16) (pm : Nat) (gap : Nat) (s : State), pm + 10 ≤ s.droopLvl ∧ orIf0 (s.rd clkB CLK.CFG_REL_T) 1 ≤ gap ∧ 2 ≤
      (s.droopOf i).1) ∧
    (∃ (pm : Nat) (gap : Nat) (s : State), (s.droopLvl < pm + 10 ∨ gap < orIf0 (s.rd clkB CLK.CFG_REL_T) 1)) ∧
    (∃ (i : Fin 16) (ns10 : Nat) (s : State), (s.droopOf i).1 ≠ 0 ∧ (s.droopOf i).2 = false ∧ 100 * orIf0 (s.rd clkB
      CLK.CFG_LONG_T) 1 < ns10) ∧
    (∃ (ns10 : Nat) (s : State), ns10 ≤ 100 * orIf0 (s.rd clkB CLK.CFG_LONG_T) 1) :=
  ⟨⟨7, (inMode mRUN).setEng 7 eRUN, by decide +kernel⟩,
   ⟨7, 6, ((inMode mRUN).setEng 7 eRUN).setEng 6 eRUN, by decide +kernel⟩,
   ⟨0, (inMode mRUN).setEng 0 eHALTED, by decide +kernel⟩,
   ⟨7, (inMode mRUN).setEng 7 eRUN, by decide +kernel⟩,
   ⟨20, (inMode mRUN).wr clkB CLK.CFG_HS_CLS 1, by decide +kernel⟩,
   ⟨0, by decide +kernel⟩,
   ⟨2000, 25000, inMode mRUN, by decide +kernel⟩,
   ⟨0, 25000, by decide +kernel⟩,
   ⟨100000, ((inMode mRUN).wr clkB CLK.STATUS_REF_RC 1).wr clkB CLK.CFG_AUTO_RET 1, by decide +kernel⟩,
   ⟨0, ((inMode mRUN).wr clkB CLK.STATUS_REF_RC 1).wr clkB CLK.CFG_AUTO_RET 0, by decide +kernel⟩,
   ⟨0, 1, ((inMode mRUN).wr clkB CLK.STATUS_REF_RC 1), by unfold State.Accepts; decide +kernel⟩,
   ⟨0, 1, { inMode mRUN with xiGood := false }, by unfold State.Accepts; decide +kernel⟩,
   ⟨15, 1000, inMode mRUN, by decide +kernel⟩,
   ⟨0, inMode mRUN, by decide +kernel⟩,
   ⟨15, 0, 255, (inMode mRUN).setDroop 15 (1, false), by decide +kernel⟩,
   ⟨15, 0, 255, (inMode mRUN).setDroop 15 (4, false), by decide +kernel⟩,
   ⟨1000, 0, inMode mRUN, by decide +kernel⟩,
   ⟨0, 1000000, (inMode mRUN).setDroop 0 (4, false), by decide +kernel⟩,
   ⟨0, inMode mRUN, by decide +kernel⟩⟩

theorem test_wit_MemoryCommandRows :
    (∃ (t : BitVec 8) (k : Cmd) (s : State), s.Ready t 0x10 k ∧ spaceTop (getBits k.a1 0 1 == 1) ≤ k.a0.toNat) ∧
    (∃ (t : BitVec 8) (k : Cmd) (s : State), s.Ready t 0x10 k ∧ k.a0.toNat < sramTop ∧ k.a1 = 0 ∧ k.a2 = 0 ∧
      s.retired.contains (k.a0.toNat / 0x1000 * 0x1000, false) = false ∧ s.retCount false < 8 ∧ s.nvmOff = false) ∧
    (∃ (t : BitVec 8) (k : Cmd) (s : State), s.Ready t 0x10 k ∧ k.a0.toNat < sramTop ∧ k.a1 = 0 ∧ k.a2 = 0 ∧
      s.retired.contains (k.a0.toNat / 0x1000 * 0x1000, false) = true) ∧
    (∃ (t : BitVec 8) (k : Cmd) (s : State), s.Ready t 0x0E k ∧ k.a2 = 0 ∧ k.a1.toNat ≠ 0 ∧ k.a0.toNat + k.a1.toNat ≤ sramTop
      ∧ k.a0.toNat % 4 = 0 ∧ k.a1.toNat % 4 = 0 ∧ k.prog = 0 ∧ k.aux = 0 ∧ s.mustYield k = false) ∧
    (∃ (t : BitVec 8) (k : Cmd) (s : State), s.Ready t 0x0E k ∧ k.a1 = 0) ∧
    (∃ (t : BitVec 8) (k : Cmd) (s : State), s.Ready t 0x0D k ∧ 0x68000 ≤ k.a0.toNat ∧ 1 ≤ getBits k.a1 0 8 ∧ getBits k.a1 0 8
      ≤ 128 ∧ k.a0.toNat + getBits k.a1 0 8 ≤ 0x80000 ∧ k.a1.toNat / 0x8000 = 0 ∧ k.a2 = 0 ∧ s.nvmOff = false ∧ getBits k.a1 8
      7 + getBits k.a1 0 8 ≤ 128 ∧ k.prog = 0 ∧ s.mustYield k = false) ∧
    (∃ (t : BitVec 8) (k : Cmd) (s : State), s.Ready t 0x0D k ∧ 0x68000 ≤ k.a0.toNat ∧ 1 ≤ getBits k.a1 0 8 ∧ getBits k.a1 0 8
      ≤ 128 ∧ k.a0.toNat + getBits k.a1 0 8 ≤ 0x80000 ∧ k.a1.toNat / 0x8000 = 0 ∧ k.a2 = 0 ∧ s.nvmOff = false ∧ getBits k.a1 8
      7 + getBits k.a1 0 8 ≤ 128 ∧ s.mustYield k = true ∧ 32 * (k.prog + 1) < getBits k.a1 0 8) ∧
    (∃ (t : BitVec 8) (k : Cmd) (s : State), s.Ready t 0x0E k ∧ k.a2 = 0 ∧ k.a0.toNat + k.a1.toNat ≤ sramTop ∧ k.a0.toNat % 4
      = 0 ∧ k.a1.toNat % 4 = 0 ∧ s.mustYield k = true ∧ k.prog + 1 < k.a1.toNat / 4) ∧
    (∃ (t : BitVec 8) (k : Cmd) (s : State), s.Ready t 0x0D k ∧ k.a0.toNat < 0x68000) ∧
    (∃ (t : BitVec 8) (k : Cmd) (s : State), s.Ready t 0x0F k ∧ 1 ≤ getBits k.a0 0 8 ∧ getBits k.a0 0 8 ≤ 128 ∧ k.a0.toNat /
      0x100 = 0 ∧ k.a1.toNat / 0x80 = 0 ∧ k.a2 = 0 ∧ s.nvmOff = false ∧ getBits k.a1 0 7 + getBits k.a0 0 8 ≤ 128) ∧
    (∃ (s : State), mHOLD ≤ s.mode ∧ s.mode ≠ mLOCKOUT ∧ s.stopped 7 = false ∧ s.nvmOff = false ∧ s.loftStale = true ∧
      s.engineHolds 6 feSeven = true) ∧
    (∃ (s : State), s.engineHolds 6 feSeven = false) ∧
    (∃ (s : State), s.loftStale = false) ∧
    (∃ (host : List Byte) (s : State), s.Inv ∧ host.length ≤ 128) :=
  ⟨⟨1, cmd 16 0x140000 0 0, withCmd (cmd 16 0x140000 0 0) (inMode mRUN), by unfold State.Ready; decide +kernel⟩,
   ⟨1, cmd 16 0x13FFFC 0 0, withCmd (cmd 16 0x13FFFC 0 0) (inMode mRUN), by unfold State.Ready; decide +kernel⟩,
   ⟨1, cmd 16 0x1004 0 0, withCmd (cmd 16 0x1004 0 0) ({ inMode mRUN with retired := [(0, false), (0x1000, false)] }),
     by unfold State.Ready; decide +kernel⟩,
   ⟨1, cmd 14 0x13FFFC 4 0, withCmd (cmd 14 0x13FFFC 4 0) (inMode mRUN), by unfold State.Ready; decide +kernel⟩,
   ⟨1, cmd 0x0E 0 0 0, withCmd (cmd 0x0E 0 0 0) (inMode mRUN), by unfold State.Ready; decide +kernel⟩,
   ⟨1, cmd 13 0x7FFFF 0x7F01 0, withCmd (cmd 13 0x7FFFF 0x7F01 0) (inMode mRUN), by unfold State.Ready; decide +kernel⟩,
   ⟨1, cmd 0xD 0x68000 64 0, withCmd (cmd 0xD 0x68000 64 0)
     (((({ inMode mRUN with queues := (Vector.replicate 6 []).set! 3 [{ who := 3, org := .engine, age := 0, prog := 0, inq := true }], slotW := 0x3FFFFFFF }
     : State).wr arbB (ARB.CFG_PREEMPT.at 6) 1).setW (arbB + 0x44) 0x8888F880).setW (arbB + 0x48) 0),
     by unfold State.Ready; decide +kernel⟩,
   ⟨1, cmd 0xE 0 64 0, withCmd (cmd 0xE 0 64 0)
     (((({ inMode mRUN with queues := (Vector.replicate 6 []).set! 3 [{ who := 3, org := .engine, age := 0, prog := 0, inq := true }], slotW := 0x3FFFFFFF }
     : State).wr arbB (ARB.CFG_PREEMPT.at 6) 1).setW (arbB + 0x44) 0x8888F880).setW (arbB + 0x48) 0),
     by unfold State.Ready; decide +kernel⟩,
   ⟨1, cmd 0x0D 0x67FFF 1 0, withCmd (cmd 0x0D 0x67FFF 1 0) (inMode mRUN), by unfold State.Ready; decide +kernel⟩,
   ⟨1, cmd 15 128 0 0, withCmd (cmd 15 128 0 0) (inMode mRUN), by unfold State.Ready; decide +kernel⟩,
   ⟨holder 6 ⟨feSeven, .engine, 0, 0, 0⟩ ((inMode mRUN).wr loftB LOFT.STATUS_NONE 0), by decide +kernel⟩,
   ⟨inMode mRUN, by decide +kernel⟩,
   ⟨(inMode mRUN).wr loftB LOFT.STATUS_NONE 1, by decide +kernel⟩,
   ⟨[1, 2], State.reset, by unfold State.Inv; decide +kernel⟩⟩

theorem test_wit_OtpRows :
    (∃ (t : BitVec 8) (k : Cmd) (s : State), s.Ready t 0x14 k ∧ getBits k.a0 0 9 < 224 ∧ k.a0.toNat / 512 = 0 ∧ k.a1.toNat /
      128 = 0 ∧ k.a2 = 0 ∧ getBits k.a1 0 7 + 7 ≤ 128 ∧ s.regLocked (regOf (getBits k.a0 0 9)) = false ∧ (s.rowAt (getBits
      k.a0 0 9)).st = oBLANK ∧ s.nvmOff = false) ∧
    (∃ (t : BitVec 8) (k : Cmd) (s : State), s.Ready t 0x14 k ∧ getBits k.a0 0 9 < 224 ∧ k.a0.toNat / 512 = 0 ∧ k.a1.toNat /
      128 = 0 ∧ k.a2 = 0 ∧ getBits k.a1 0 7 + 7 ≤ 128 ∧ s.regLocked (regOf (getBits k.a0 0 9)) = false ∧ (s.rowAt (getBits
      k.a0 0 9)).st = oGOOD) ∧
    (∃ (t : BitVec 8) (k : Cmd) (c : Nat) (s : State), s.Ready t 0x14 k ∧ c < 3 ∧ getBits k.a0 0 9 = 256 + c ∧ k.a0.toNat /
      512 = 0 ∧ k.a1 = 0 ∧ k.a2 = 0 ∧ s.nvmOff = false ∧ s.cntVal c ≠ cntSteps c) ∧
    (∃ (c : Fin 3) (s : State), s.cntVal c ≠ cntSteps c) ∧
    (∃ (t : BitVec 8) (k : Cmd) (c : Nat) (s : State), s.Ready t 0x14 k ∧ c < 3 ∧ getBits k.a0 0 9 = 256 + c ∧ k.a0.toNat /
      512 = 0 ∧ k.a1 = 0 ∧ k.a2 = 0 ∧ s.cntVal c = cntSteps c) ∧
    (∃ (t : BitVec 8) (k : Cmd) (g : Nat) (s : State), s.Ready t 0x14 k ∧ g < 5 ∧ getBits k.a0 0 9 = 272 + g ∧ k.a0.toNat /
      512 = 0 ∧ k.a1 = 0 ∧ k.a2 = 0 ∧ s.nvmOff = false ∧ s.regLocked g = false ∧ (s.ctlBurn (144 + g)).burnedOk g = true) ∧
    (∃ (t : BitVec 8) (k : Cmd) (g : Nat) (s : State), s.Ready t 0x14 k ∧ g < 5 ∧ getBits k.a0 0 9 = 272 + g ∧ k.a0.toNat /
      512 = 0 ∧ k.a1 = 0 ∧ k.a2 = 0 ∧ s.nvmOff = false ∧ s.lockDone g = true) ∧
    (∃ (t : BitVec 8) (k : Cmd) (s : State), s.Ready t 0x15 k ∧ getBits k.a0 0 9 < 224 ∧ k.a0.toNat / 512 = 0 ∧ k.a1 = 0 ∧
      k.a2 = 0 ∧ s.nvmOff = false ∧ (s.rowAt (getBits k.a0 0 9)).st = oWEAK1) ∧
    (∃ (t : BitVec 8) (k : Cmd) (s : State), s.Ready t 0x15 k ∧ getBits k.a0 0 9 < 256 ∧ k.a0.toNat / 512 = 0 ∧ k.a1 = 0 ∧
      k.a2 = 0 ∧ s.nvmOff = false ∧ (s.rowAt (getBits k.a0 0 9)).st = oGOOD) ∧
    (∃ (c : Fin 8) (s : State), s.Accepts c 0xB06C 1 ∧ s.ovrTaken (s.rd (ck c + otpB) OTP.ROWSEL_ROW) = true) ∧
    (∃ (c : Fin 8) (s : State), s.Accepts c 0xB06C 1 ∧ s.ovrTaken (s.rd (ck c + otpB) OTP.ROWSEL_ROW) = false) ∧
    (∃ (c : Fin 8) (s : State), s.Accepts c 0xB06C 2 ∧ s.ovrTaken (s.rd (ck c + otpB) OTP.ROWSEL_ROW) = true) ∧
    (∃ (c : Fin 8) (s : State), s.Accepts c 0xB06C 3 ∧ (s.mode = mSERVICE ∨ s.mode = mHOLD)) :=
  ⟨⟨1, cmd 20 223 121 0, withCmd (cmd 20 223 121 0) (inMode mSERVICE), by unfold State.Ready; decide +kernel⟩,
   ⟨1, cmd 0x14 5 0 0, withCmd (cmd 0x14 5 0 0) ((inMode mSERVICE).setRow 5 (goodRow 7)),
     by unfold State.Ready; decide +kernel⟩,
   ⟨1, cmd 0x14 258 0 0, 2, withCmd (cmd 0x14 258 0 0) (inMode mSERVICE), by unfold State.Ready; decide +kernel⟩,
   ⟨0, inMode mSERVICE, by decide +kernel⟩,
   ⟨1, cmd 0x14 256 0 0, 0, withCmd (cmd 0x14 256 0 0)
     { (inMode mSERVICE) with otp := [(cntRow 0 + 15, ⟨oRAW, 0xC000000000000000, 0⟩)] },
     by unfold State.Ready; decide +kernel⟩,
   ⟨1, cmd 0x14 272 0 0, 0, withCmd (cmd 0x14 272 0 0) ((inMode mSERVICE).setRow 3 (goodRow (BitVec.ofNat 64 (crc32
     (List.replicate 21 0))))), by unfold State.Ready; decide +kernel⟩,
   ⟨1, cmd 0x14 276 0 0, 4, withCmd (cmd 0x14 276 0 0) ((inMode mSERVICE).ctlBurn 148), by unfold State.Ready; decide +kernel⟩,
   ⟨1, cmd 0x15 5 0 0, withCmd (cmd 0x15 5 0 0) ((inMode mSERVICE).setRow 5 ⟨oWEAK1, 7, 0⟩),
     by unfold State.Ready; decide +kernel⟩,
   ⟨1, cmd 0x15 5 0 0, withCmd (cmd 0x15 5 0 0) ((inMode mSERVICE).setRow 5 (goodRow 7)),
     by unfold State.Ready; decide +kernel⟩,
   ⟨0, (unl 0x2C (inMode mSERVICE)).wr (ck 0 + otpB) OTP.ROWSEL_ROW 223, by unfold State.Accepts; decide +kernel⟩,
   ⟨0, (unl 0x2C (inMode mSERVICE)).wr (ck 0 + otpB) OTP.ROWSEL_ROW 224, by unfold State.Accepts; decide +kernel⟩,
   ⟨0, (unl 0x2C (inMode mSERVICE)).wr (ck 0 + otpB) OTP.ROWSEL_ROW 223, by unfold State.Accepts; decide +kernel⟩,
   ⟨0, unl 0x2C (inMode mSERVICE), by unfold State.Accepts; decide +kernel⟩⟩

theorem test_wit_UpdateRows :
    (∃ (t : BitVec 8) (k : Cmd) (s : State), s.Ready t 0x11 k ∧ getBits k.a1 8 7 + getBits k.a1 0 8 ≤ 128 ∧ k.prog = 0 ∧
      s.mustYield k = false) ∧
    (∃ (o : Nat) (n : Nat) (s : State), 256 ≤ o ∧ o % 8 = 0 ∧ n % 8 = 0 ∧ 8 ≤ n ∧ n ≤ 128 ∧ o + n ≤ 0x1C0000 ∧ s.stage =
      uWRITING ∧ o = s.rd nvmB NVM.SILO_NEXT ∧ s.nvmOff = false ∧ s.updBusy = false) ∧
    (∃ (o : Nat) (n : Nat) (s : State), 8 ≤ o ∧ o % 8 = 0 ∧ n % 8 = 0 ∧ 8 ≤ n ∧ n ≤ 128 ∧ o + n ≤ 0x1C0000 ∧ s.stage =
      uWRITING ∧ o ≠ s.rd nvmB NVM.SILO_NEXT) ∧
    (∃ (t : BitVec 8) (k : Cmd) (s : State), s.Ready t 0x12 k ∧ k.prog = 0 ∧ k.a0 = 0 ∧ k.a1 = 0 ∧ k.a2 = 0 ∧ s.updBusy =
      false ∧ s.mode = mHOLD ∧ s.stage = uSTAGED) ∧
    (∃ (t : BitVec 8) (k : Cmd) (s : State), s.Ready t 0x12 k ∧ k.prog = 0 ∧ k.a0 = 0 ∧ k.a1 = 0 ∧ k.a2 = 0 ∧ s.updBusy =
      false ∧ s.mode = mHOLD ∧ s.stage ≠ uSTAGED) ∧
    (∃ (t : BitVec 8) (k : Cmd) (s : State), s.Ready t 0x12 k ∧ k.prog = 0 ∧ k.a0 = 0 ∧ k.a1 = 0 ∧ k.a2 = 0 ∧ s.updBusy =
      false ∧ s.mode = mSERVICE ∧ s.stage ≠ uSTAGED) ∧
    (∃ (t : BitVec 8) (k : Cmd) (hits : List EccHit) (s : State), s.Ready t 0x12 k ∧ k.prog = 0 ∧ k.a0 = 0 ∧ k.a1 = 0 ∧ k.a2 =
      0 ∧ s.updBusy = false ∧ s.mode = mSERVICE ∧ (s.eccHits 1 hits false).actCause hits = none) ∧
    (∃ (t : BitVec 8) (k : Cmd) (s : State), s.Ready t 0x12 k ∧ k.prog = 1) ∧
    (∃ (t : BitVec 8) (k : Cmd) (s : State), s.Ready t 0x12 k ∧ 2 ≤ k.prog ∧ s.nvmOff = true) ∧
    (∃ (t : BitVec 8) (k : Cmd) (s : State), s.Ready t 0x12 k ∧ 2 ≤ k.prog ∧ s.nvmOff = false ∧ (s.copyEnd s.staged none
      (s.confAfter k.aux)).2 = true ∧ k.aux % 2 = 0) ∧
    (∃ (t : BitVec 8) (k : Cmd) (s : State), s.Ready t 0x13 k ∧ k.a0 = 0 ∧ k.a1 = 0 ∧ k.a2 = 0 ∧ s.nvmOff = false ∧ s.rd nvmB
      NVM.UPD_CONF = cUNCONFIRMED) ∧
    (∃ (t : BitVec 8) (k : Cmd) (s : State), s.Ready t 0x13 k ∧ k.a0 = 0 ∧ k.a1 = 0 ∧ k.a2 = 0 ∧ s.nvmOff = false ∧ s.rd nvmB
      NVM.UPD_CONF = cCONFIRMED) ∧
    (∃ (c : Fin 8) (v : Word) (s : State), s.Accepts c 0xB44C v ∧ getBits v 0 2 = 1 ∧ s.bit engB ENG.STATUS_ROM = true ∧
      s.nvmwFree = false) ∧
    (∃ (c : Fin 8) (v : Word) (s : State), s.Accepts c 0xB44C v ∧ getBits v 0 2 = 1 ∧ s.bit engB ENG.STATUS_ROM = true ∧
      s.nvmwFree = true) ∧
    (∃ (c : Fin 8) (v : Word) (s : State), s.Accepts c 0xB44C v ∧ getBits v 0 2 = 1 ∧ s.bit engB ENG.STATUS_ROM = false) ∧
    (∃ (c : Fin 8) (v : Word) (s : State), s.Accepts c 0xB44C v ∧ getBits v 0 2 = 2 ∧ s.bit engB ENG.STATUS_ROM = true ∧
      s.mode = mHOLD ∧ s.stage = uSTAGED) ∧
    (∃ (c : Fin 8) (v : Word) (s : State), s.Accepts c 0xB44C v ∧ getBits v 0 2 = 2 ∧ s.bit engB ENG.STATUS_ROM = true ∧
      s.mode = mHOLD ∧ s.stage ≠ uSTAGED) :=
  ⟨⟨1, cmd 0x11 0 0x7808 0, withCmd (cmd 0x11 0 0x7808 0) (inMode mSERVICE), by unfold State.Ready; decide +kernel⟩,
   ⟨256, 8, ((inMode mRUN).wr nvmB NVM.STATUS_STAGE uWRITING).wr nvmB NVM.SILO_NEXT 256, by decide +kernel⟩,
   ⟨8, 128, ((inMode mRUN).wr nvmB NVM.STATUS_STAGE uWRITING).wr nvmB NVM.SILO_NEXT 256, by decide +kernel⟩,
   ⟨1, cmd 0x12 0 0 0, withCmd (cmd 0x12 0 0 0) ((inMode mHOLD).wr nvmB NVM.STATUS_STAGE uSTAGED),
     by unfold State.Ready; decide +kernel⟩,
   ⟨1, cmd 0x12 0 0 0, withCmd (cmd 0x12 0 0 0) (inMode mHOLD), by unfold State.Ready; decide +kernel⟩,
   ⟨1, cmd 0x12 0 0 0, withCmd (cmd 0x12 0 0 0) (inMode mSERVICE), by unfold State.Ready; decide +kernel⟩,
   ⟨1, cmd 0x12 0 0 0, [], withCmd (cmd 0x12 0 0 0)
     { (inMode mSERVICE).wr nvmB NVM.STATUS_STAGE uSTAGED with nvm := Memory.writes [] (slotB 0) [0x10, 0x51, 1, 2, 0, 1, 0, 0, 0] },
     by unfold State.Ready; decide +kernel⟩,
   ⟨1, { cmd 0x12 0 0 0 with prog := 1 }, withCmd ({ cmd 0x12 0 0 0 with prog := 1 }) (inMode mSERVICE),
     by unfold State.Ready; decide +kernel⟩,
   ⟨1, { cmd 0x12 0 0 0 with prog := 2 }, { withCmd ({ cmd 0x12 0 0 0 with prog := 2 }) (inMode mSERVICE) with supOut := 16 },
     by unfold State.Ready; decide +kernel⟩,
   ⟨1, { cmd 0x12 0 0 0 with prog := 2 }, withCmd ({ cmd 0x12 0 0 0 with prog := 2 }) (inMode mSERVICE),
     by unfold State.Ready; decide +kernel⟩,
   ⟨1, cmd 0x13 0 0 0, withCmd (cmd 0x13 0 0 0) ((inMode mRUN).wr nvmB NVM.UPD_CONF cUNCONFIRMED),
     by unfold State.Ready; decide +kernel⟩,
   ⟨1, cmd 0x13 0 0 0, withCmd (cmd 0x13 0 0 0) ((inMode mRUN).wr nvmB NVM.UPD_CONF cCONFIRMED),
     by unfold State.Ready; decide +kernel⟩,
   ⟨0, 0x101, holder 6 ⟨0, .direct, 0, 0, 0⟩ ((inMode mHOLD).wr engB ENG.STATUS_ROM 1),
     by unfold State.Accepts; decide +kernel⟩,
   ⟨0, 0x101, (inMode mHOLD).wr engB ENG.STATUS_ROM 1, by unfold State.Accepts; decide +kernel⟩,
   ⟨0, 0x101, ((inMode mHOLD).wr engB ENG.STATUS_ROM 0).wr nvmB HDR.ERR_MASK 0xFFFFFFFF,
     by unfold State.Accepts; decide +kernel⟩,
   ⟨0, 2, ((inMode mHOLD).wr engB ENG.STATUS_ROM 1).wr nvmB NVM.STATUS_STAGE uSTAGED, by unfold State.Accepts; decide +kernel⟩,
   ⟨0, 2, (inMode mHOLD).wr engB ENG.STATUS_ROM 1, by unfold State.Accepts; decide +kernel⟩⟩

theorem test_wit_CalendarRows :
    (∃ (s : State), s.oscRuns = true ∧ s.rd rtcB RTC.SUBSEC_COUNT = 32767) ∧
    (∃ (s : State), (s.oscRuns = false ∨ s.rd rtcB RTC.SUBSEC_COUNT ≠ 32767)) ∧
    (∃ (c : Cal), c.sec < 59) ∧
    (∃ (c : Cal), c.sec = 59 ∧ c.min = 59 ∧ c.hour = 23 ∧ c.day = monthLen c.year c.month ∧ c.month = 12 ∧ c.year < 199) ∧
    (∃ (s : State), s.oscRuns = true ∧ 2 ^ 20 ≤ s.clk.cyc ∧ s.rdI rtcB RTC.TRIM_TRIM < 0) ∧
    (∃ (s : State), s.clk.cyc < 2 ^ 20) ∧
    (∃ (s : State), s.oscRuns = true ∧ 2 ^ 20 ≤ s.clk.cyc ∧ 0 ≤ s.rdI rtcB RTC.TRIM_TRIM ∧ s.rd rtcB RTC.SUBSEC_COUNT + (s.rdI
      rtcB RTC.TRIM_TRIM).toNat < 32768) ∧
    (∃ (us : Nat), us < 2000) ∧
    (∃ (us : Nat) (s : State), s.oscRuns = true ∧ 2000 ≤ us) ∧
    (∃ (c : Fin 8) (s : State), s.Accepts c 0xA00C 1 ∧ s.oscRuns = true) ∧
    (∃ (c : Fin 8) (s : State), s.Accepts c 0xA00C 1 ∧ s.oscRuns = false) ∧
    (∃ (c : Fin 8) (i : Fin 8) (s : State), s.mayRead c (0xA040 + 4 * i.val) = true ∧ s.frzOf c = none ∧ i ≠ 7) ∧
    (∃ (c : Fin 8) (i : Fin 8) (l : List Word) (s : State), s.mayRead c (0xA040 + 4 * i.val) = true ∧ s.frzOf c = some l) ∧
    (∃ (c : Fin 8) (s : State), (s.frzOf c).isSome = true ∧ s.ran (.frz c) 250000 = true) ∧
    (∃ (c : Fin 8) (s : State), s.ran (.frz c) 250000 = false) ∧
    (∃ (c : Fin 8) (s : State), s.Accepts c 0xA064 2) ∧
    (∃ (c : Fin 8) (k : Fin 5) (v : Word) (s : State), s.Accepts c (rtcB + heldReg k) v) ∧
    (∃ (c : Fin 8) (s : State), s.Accepts c 0xA064 1) ∧
    (∃ (c : Fin 8) (v : Word) (s : State), s.Accepts c 0xA044 v ∧ (s.formed v).ok = true) ∧
    (∃ (c : Fin 8) (v : Word) (s : State), s.Accepts c 0xA044 v ∧ (s.formed v).ok = false) :=
  ⟨⟨((inMode mRUN).wr rtcB RTC.STATUS_OSC_RUN 1).wr rtcB RTC.SUBSEC_COUNT 32767, by decide +kernel⟩,
   ⟨(inMode mRUN).wr rtcB RTC.STATUS_OSC_RUN 0, by decide +kernel⟩,
   ⟨⟨58, 59, 23, 31, 12, 199⟩, by decide +kernel⟩,
   ⟨⟨59, 59, 23, 31, 12, 198⟩, by decide +kernel⟩,
   ⟨(((inMode mRUN).wr rtcB RTC.STATUS_OSC_RUN 1).wrI rtcB RTC.TRIM_TRIM (-5)).modClk (fun h => { h with cyc := 2 ^ 20 }),
     by decide +kernel⟩,
   ⟨((inMode mRUN).wr rtcB RTC.STATUS_OSC_RUN 1), by decide +kernel⟩,
   ⟨(((inMode mRUN).wr rtcB RTC.STATUS_OSC_RUN 1).wrI rtcB RTC.TRIM_TRIM 5).modClk (fun h => { h with cyc := 2 ^ 20 }),
     by decide +kernel⟩,
   ⟨1999, by decide +kernel⟩,
   ⟨2000, ((inMode mRUN).wr rtcB RTC.STATUS_OSC_RUN 1), by decide +kernel⟩,
   ⟨0, (unl 0x28 (((inMode mRUN).wr rtcB RTC.STATUS_OSC_RUN 1))).wr rtcB RTC.ERR_OSF 1,
     by unfold State.Accepts; decide +kernel⟩,
   ⟨0, unl 0x28 ((inMode mRUN).wr rtcB RTC.STATUS_OSC_RUN 0), by unfold State.Accepts; decide +kernel⟩,
   ⟨0, 6, ((inMode mRUN).wr rtcB RTC.STATUS_OSC_RUN 1), by decide +kernel⟩,
   ⟨0, 7, [1, 2, 3], ((inMode mRUN).wr rtcB RTC.STATUS_OSC_RUN 1).setFrz 0 (some [1, 2, 3]), by decide +kernel⟩,
   ⟨0, aged (.frz 0) (((inMode mRUN).wr rtcB RTC.STATUS_OSC_RUN 1).setFrz 0 (some [1, 2, 3])), by decide +kernel⟩,
   ⟨0, ((inMode mRUN).wr rtcB RTC.STATUS_OSC_RUN 1), by decide +kernel⟩,
   ⟨0, unl 0x28 (((inMode mRUN).wr rtcB RTC.STATUS_OSC_RUN 1).setFrz 0 (some [1])), by unfold State.Accepts; decide +kernel⟩,
   ⟨0, 4, 199, unl 0x28 ((inMode mRUN).wr rtcB RTC.STATUS_OSC_RUN 1), by unfold State.Accepts; decide +kernel⟩,
   ⟨0, unl 0x28 ((inMode mRUN).wr rtcB RTC.STATUS_OSC_RUN 1), by unfold State.Accepts; decide +kernel⟩,
   ⟨0, 59, unl 0x28 (((inMode mRUN).wr rtcB RTC.STATUS_OSC_RUN 1).setCal ⟨0, 0, 0, 1, 1, 0⟩),
     by unfold State.Accepts; decide +kernel⟩,
   ⟨0, 60, unl 0x28 (((inMode mRUN).wr rtcB RTC.STATUS_OSC_RUN 1).setCal ⟨0, 0, 0, 1, 1, 0⟩),
     by unfold State.Accepts; decide +kernel⟩⟩

theorem test_wit_TimeRows :
    (∃ (c : Fin 8) (s : State), s.mayRead c 0xA440 = true) ∧
    (∃ (c : Fin 8) (s : State), s.Accepts c 0xA464 1 ∧ s.rd timeB TIME.SET_NS_NS < nsPerS) ∧
    (∃ (c : Fin 8) (s : State), s.Accepts c 0xA464 1 ∧ nsPerS ≤ s.rd timeB TIME.SET_NS_NS) ∧
    (∃ (c : Fin 8) (s : State), s.Accepts c 0xA464 2) ∧
    (∃ (c : Fin 8) (s : State), s.Accepts c 0xA464 3) ∧
    (∃ (s : State), s.up = true ∧ s.vioOut = false) ∧
    (∃ (s : State), s.vioOut = true) ∧
    (∃ (lead : Nat) (s : State), s.clk.edges = [lead] ∧ s.bit timeB TIME.STATUS_LOCKED = false) ∧
    (∃ (lead : Nat) (s : State), s.clk.edges = [lead] ∧ s.bit timeB TIME.STATUS_LOCKED = true ∧ s.tick * 1000 + lead * 40 -
      s.clk.ppsLast + s.ppsWin < nsPerS) ∧
    (∃ (s : State), s.up = true ∧ s.bit timeB TIME.STATUS_LOCKED = true ∧ s.clk.ppsLast + (s.clk.missed + 1) * nsPerS +
      s.ppsWin ≤ s.tick * 1000 ∧ s.clk.missed + 1 < orIf0 (s.rd timeB TIME.CFG_LOSS_N) 1) ∧
    (∃ (s : State), s.up = true ∧ s.bit timeB TIME.STATUS_LOCKED = true ∧ s.clk.ppsLast + (s.clk.missed + 1) * nsPerS +
      s.ppsWin ≤ s.tick * 1000 ∧ orIf0 (s.rd timeB TIME.CFG_LOSS_N) 1 ≤ s.clk.missed + 1) ∧
    (∃ (s : State), s.tick * 1000 < s.clk.ppsLast + (s.clk.missed + 1) * nsPerS + s.ppsWin) :=
  ⟨⟨0, ((inMode mRUN).modClk (fun h => { h with loaded := true })), by decide +kernel⟩,
   ⟨0, (unl 0x29 ((inMode mRUN).modClk (fun h => { h with loaded := true }))).wr timeB TIME.SET_NS_NS 999999999,
     by unfold State.Accepts; decide +kernel⟩,
   ⟨0, (unl 0x29 ((inMode mRUN).modClk (fun h => { h with loaded := true }))).wr timeB TIME.SET_NS_NS 1000000000,
     by unfold State.Accepts; decide +kernel⟩,
   ⟨0, (unl 0x29 ((inMode mRUN).modClk (fun h => { h with loaded := true }))), by unfold State.Accepts; decide +kernel⟩,
   ⟨0, (unl 0x29 ((inMode mRUN).modClk (fun h => { h with loaded := true }))).wr timeB TIME.STATUS_SET_ARMED 1,
     by unfold State.Accepts; decide +kernel⟩,
   ⟨((inMode mRUN).modClk (fun h => { h with loaded := true })), by decide +kernel⟩,
   ⟨{ (inMode mRUN) with vioOut := true }, by decide +kernel⟩,
   ⟨24, ((inMode mRUN).modClk (fun h => { h with loaded := true, edges := [24] })), by decide +kernel⟩,
   ⟨24,
     { (((inMode mRUN).modClk (fun h => { h with loaded := true, edges := [24] })).wr timeB TIME.STATUS_LOCKED 1) with tick := 5 },
     by decide +kernel⟩,
   ⟨{ (((inMode mRUN).modClk (fun h => { h with loaded := true })).wr timeB TIME.STATUS_LOCKED 1).wr timeB TIME.CFG_LOSS_N 3 with tick := 20000000 },
     by decide +kernel⟩,
   ⟨{ (((inMode mRUN).modClk (fun h => { h with loaded := true })).wr timeB TIME.STATUS_LOCKED 1).wr timeB TIME.CFG_LOSS_N 1 with tick := 20000000 },
     by decide +kernel⟩,
   ⟨inMode mRUN, by decide +kernel⟩⟩

theorem test_wit_TwoWireRows :
    (∃ (t : BitVec 8) (k : Cmd) (s : State), s.Ready t 0x0C k ∧ s.twRefusal k = none) ∧
    (∃ (t : BitVec 8) (k : Cmd) (s : State), s.Ready t 0x0C k ∧ (twAddr k < 8 ∨ 0x77 < twAddr k)) ∧
    (∃ (t : BitVec 8) (k : Cmd) (s : State), s.findCmd t.toNat = some k ∧ k.op = 0x0C ∧ k.phase = .running) ∧
    (∃ (i : Fin 2) (s : State), (s.twi i).retries ≠ 0) ∧
    (∃ (i : Fin 2) (ns : Nat) (k : Cmd) (s : State), s.twCmd i = some k ∧ (s.twi i).wait = true ∧ s.twFree i ≤ ns) ∧
    (∃ (i : Fin 2) (ns : Nat) (s : State), ns < s.twFree i) ∧
    (∃ (i : Fin 2) (k : Cmd) (s : State), s.twCmd i = some k ∧ (s.twi i).poll = true ∧ s.ran (.poll i) (twPoll k * 1000) =
      true) ∧
    (∃ (i : Fin 2) (k : Cmd) (s : State), s.twCmd i = some k ∧ (s.twi i).poll = true ∧ s.ran (.poll i) (twPoll k * 1000) =
      false) ∧
    (∃ (i : Fin 2) (us : Nat) (k : Cmd) (s : State), s.twCmd i = some k ∧ (s.twi i).wait = false ∧ s.twStretch i ≤ us) ∧
    (∃ (i : Fin 2) (us : Nat) (k : Cmd) (s : State), s.twCmd i = some k ∧ (s.twi i).wait = false ∧ us < s.twStretch i) ∧
    (∃ (i : Fin 2) (us : Nat) (s : State), (s.twi i).stretch = true ∧ s.twStretch i ≤ us) ∧
    (∃ (i : Fin 2) (us : Nat) (s : State), ((s.twi i).stretch = false ∨ us < s.twStretch i)) ∧
    (∃ (i : Fin 2) (us : Nat) (s : State), s.bit (twiB i) TWI.CFG_EN = true ∧ (s.rd (twiB i) TWI.STATUS_STATE = 3 ∨ ((s.twNext
      i).isSome = true ∧ orIf0 (s.rd (twiB i) TWI.CFG_RECOV_T) 1 * 10 ≤ us))) ∧
    (∃ (i : Fin 2) (s : State), s.bit (twiB i) TWI.CFG_EN = false) ∧
    (∃ (c : Fin 8) (i : Fin 2) (k : Cmd) (s : State), s.Accepts c (twiB i + 0x44) 1 ∧ s.twCmd i = some k) ∧
    (∃ (c : Fin 8) (i : Fin 2) (s : State), s.Accepts c (twiB i + 0x44) 2 ∧ s.rd (twiB i) TWI.STATUS_STATE = 1) ∧
    (∃ (c : Fin 8) (i : Fin 2) (s : State), s.Accepts c (twiB i + 0x44) 2 ∧ s.rd (twiB i) TWI.STATUS_STATE ≠ 1) :=
  ⟨⟨1, cmd 0x0C 0x1A1 0 0, withCmd (cmd 0x0C 0x1A1 0 0) ((inMode mRUN).wr (twiB 1) TWI.CFG_EN 1),
     by unfold State.Ready; decide +kernel⟩,
   ⟨1, cmd 0x0C 0xF0 0 0, withCmd (cmd 0x0C 0xF0 0 0) (inMode mRUN), by unfold State.Ready; decide +kernel⟩,
   ⟨1, { cmd 0x0C 0x1A1 0 0 with phase := .running }, withCmd ({ cmd 0x0C 0x1A1 0 0 with phase := .running }) (inMode mRUN),
     by decide +kernel⟩,
   ⟨1, (withCmd ({ cmd 0x0C 0x1A1 0 0 with phase := .running }) (inMode mRUN)).modTwi 1 (fun h =>
     { h with tag := some 1, retries := 2 }), by decide +kernel⟩,
   ⟨1, 1000000, { cmd 0x0C 0x1A1 0 0 with phase := .running }, (withCmd ({ cmd 0x0C 0x1A1 0 0 with phase := .running })
     (inMode mRUN)).modTwi 1 (fun h => { h with tag := some 1, wait := true }), by decide +kernel⟩,
   ⟨1, 0, inMode mRUN, by decide +kernel⟩,
   ⟨1, { cmd 0x0C 0x1A1 0 0 with phase := .running }, aged (.poll 1) ((withCmd ({ cmd 0x0C 0x1A1 0 0 with phase := .running })
     (inMode mRUN)).modTwi 1 (fun h => { h with tag := some 1, poll := true })), by decide +kernel⟩,
   ⟨1, { cmd 0x0C 0x1A1 0 0 with phase := .running }, (withCmd ({ cmd 0x0C 0x1A1 0 0 with phase := .running }) (inMode
     mRUN)).modTwi 1 (fun h => { h with tag := some 1, poll := true }), by decide +kernel⟩,
   ⟨1, 1000000, { cmd 0x0C 0x1A1 0 0 with phase := .running }, (withCmd ({ cmd 0x0C 0x1A1 0 0 with phase := .running })
     (inMode mRUN)).modTwi 1 (fun h => { h with tag := some 1, wait := false }), by decide +kernel⟩,
   ⟨1, 0, { cmd 0x0C 0x1A1 0 0 with phase := .running }, (withCmd ({ cmd 0x0C 0x1A1 0 0 with phase := .running }) (inMode
     mRUN)).modTwi 1 (fun h => { h with tag := some 1, wait := false }), by decide +kernel⟩,
   ⟨0, 1000000, (inMode mRUN).modTwi 0 (fun h => { h with stretch := true }), by decide +kernel⟩,
   ⟨0, 0, inMode mRUN, by decide +kernel⟩,
   ⟨1, 0, ((inMode mRUN).wr (twiB 1) TWI.CFG_EN 1).setTwiSt 1 3, by decide +kernel⟩,
   ⟨1, (inMode mRUN).wr (twiB 1) TWI.CFG_EN 0, by decide +kernel⟩,
   ⟨0, 1, { cmd 0x0C 0x1A1 0 0 with phase := .running }, unl 0x2B ((withCmd ({ cmd 0x0C 0x1A1 0 0 with phase := .running })
     (inMode mRUN)).modTwi 1 (fun h => { h with tag := some 1, n := 0 })), by unfold State.Accepts; decide +kernel⟩,
   ⟨0, 0, unl 0x2A ((inMode mRUN).setTwiSt 0 1), by unfold State.Accepts; decide +kernel⟩,
   ⟨0, 0, unl 0x2A ((inMode mRUN).setTwiSt 0 2), by unfold State.Accepts; decide +kernel⟩⟩

theorem test_wit_PageGuardsAndPins :
    (∃ (c : Fin 8) (p : BitVec 6) (s : State), s.Accepts c (pg p.toNat + 0x20) 0x5EED) ∧
    (∃ (c : Fin 8) (p : BitVec 6) (s : State), s.Accepts c (pg p.toNat + 0x20) 0) ∧
    (∃ (c : Fin 8) (p : BitVec 6) (v : Word) (s : State), s.Accepts c (pg p.toNat + 0x20) v ∧ v ≠ 0 ∧ v ≠ 0x5EED) ∧
    (∃ (c : Fin 8) (p : BitVec 6) (v : Word) (s : State), s.Accepts c (pg p.toNat + 0x24) v) ∧
    (∃ (n : Fin 16) (lvl : Bool) (us : Nat) (s : State), s.up = true ∧ s.vioOut = false ∧ s.rd (pin n) GPIO.PIN_CFG_FILT ≤ us
      ∧ s.bit gpioB (GPIO.STATUS_IN.at n) ≠ lvl) ∧
    (∃ (n : Fin 16) (us : Nat) (s : State), (s.vioOut = true ∨ us < s.rd (pin n) GPIO.PIN_CFG_FILT)) ∧
    (∃ (c : Fin 8) (v : Word) (s : State), s.Accepts c (gpioB + 0x84) v) ∧
    (∃ (c : Fin 8) (v : Word) (i : Nat) (s : State), s.Accepts c (gpioB + 0x88) v ∧ i < 16) ∧
    (∃ (mv : Nat) (us : Nat) (s : State), s.vioOut = false ∧ mv < 1500 ∧ 2 ≤ us ∧ s.up = true) ∧
    (∃ (mv : Nat) (us : Nat) (s : State), s.vioOut = false ∧ mv < 1500 ∧ 2 ≤ us ∧ s.up = false) ∧
    (∃ (mv : Nat) (us : Nat), (1500 ≤ mv ∨ us < 2)) ∧
    (∃ (mv : Nat), 1500 ≤ mv) ∧
    (∃ (mv : Nat), mv < 1500) ∧
    (∃ (s : State), s.up = true ∧ s.vioOut = false) ∧
    (∃ (tdi : List Bool) (s : State), tdi.length = 5 ∧ s.up = true ∧ s.vioOut = false) ∧
    (∃ (s : State), s.up = true ∧ s.vioOut = false ∧ s.mode = mHOLD ∧ s.tap = .shDr ∧ s.tapIns = .extest) ∧
    (∃ (s : State), s.tapIns = .extest ∧ s.mode = mHOLD) ∧
    (∃ (s : State), s.tapIns = .extest ∧ s.mode ≠ mHOLD) :=
  ⟨⟨0, 0x24, inMode mRUN, by unfold State.Accepts; decide +kernel⟩,
   ⟨0, 0x24, unl 0x24 (inMode mRUN), by unfold State.Accepts; decide +kernel⟩,
   ⟨0, 0x24, 5, inMode mRUN, by unfold State.Accepts; decide +kernel⟩,
   ⟨0, 0x24, 7, unl 0x24 (inMode mRUN), by unfold State.Accepts; decide +kernel⟩,
   ⟨15, true, 1000, inMode mRUN, by decide +kernel⟩,
   ⟨0, 0, { inMode mRUN with vioOut := true }, by decide +kernel⟩,
   ⟨0, 0xFFFF, unl 0x32 (inMode mRUN), by unfold State.Accepts; decide +kernel⟩,
   ⟨0, 0x8000, 15, unl 0x32 (inMode mRUN), by unfold State.Accepts; decide +kernel⟩,
   ⟨1499, 2, inMode mRUN, by decide +kernel⟩,
   ⟨1499, 2, State.reset, by decide +kernel⟩,
   ⟨1500, 2, by decide +kernel⟩,
   ⟨1500, by decide +kernel⟩,
   ⟨0, by decide +kernel⟩,
   ⟨inMode mRUN, by decide +kernel⟩,
   ⟨[true, true, true, true, true], inMode mRUN, by decide +kernel⟩,
   ⟨{ inMode mHOLD with tap := .shDr, tapIns := .extest }, by decide +kernel⟩,
   ⟨{ inMode mHOLD with tapIns := .extest }, by decide +kernel⟩,
   ⟨{ inMode mRUN with tapIns := .extest }, by decide +kernel⟩⟩

theorem test_wit_StepsAnswerNextStates :
    (∃ (s : State), s.Quiet) :=
  ⟨State.reset, by unfold State.Quiet; decide +kernel⟩

theorem test_wit_IdleStepIsOneTick :
    (∃ (s : State), s.pending = [] ∧ s.later = []) ∧
    (∃ (s : State), s.pending = [] ∧ s.later ≠ [] ∧ s.fe0Off = false ∧ s.stopped 2 = false ∧ s.stopped 3 = false) ∧
    (∃ (s : State), s.due = [] ∧ s.offQ = [] ∧ s.flail.judge = none ∧ s.flail.sync = false ∧ s.flail.fin = 0) ∧
    (∃ (s : State), s.serve = s ∧ s.Quiet ∧ s.up = true ∧ s.clk.loaded = true ∧ s.clk.slewLeft = 0 ∧ s.rdI timeB
      TIME.FTRIM_FTRIM = 0 ∧ s.clk.part < 1024000000 ∧ s.timeTotal + 1000 < 2 ^ 34 * nsPerS) ∧
    (∃ (s : State), s.serve = s ∧ s.Quiet ∧ s.up = false) :=
  ⟨⟨State.reset, by decide +kernel⟩,
   ⟨{ inMode mRUN with later := [.por 0] }, by decide +kernel⟩,
   ⟨State.reset, by decide +kernel⟩,
   ⟨((inMode mRUN).modClk (fun h => { h with loaded := true })), by unfold State.Quiet; decide +kernel⟩,
   ⟨State.reset, by unfold State.Quiet; decide +kernel⟩⟩

theorem test_wit_RefusedWritesChangeNothing :
    (∃ (i : Instr) (c : Fin 8) (a : Nat) (v : Word) (s : State), writeOf i = some (c, a, v) ∧ ¬ s.Accepts c a v) ∧
    (∃ (i : Instr) (c : Fin 8) (b : Nat) (f : Fld) (v : Nat) (s : State), fieldOf i = some (c, b, f, v) ∧ ¬ s.AcceptsField c b
      f v) ∧
    (∃ (s : State), s.up = false) ∧
    (∃ (c : Fin 8) (s : State), s.quar c = true) ∧
    (∃ (s : State), s.vioOut = true) ∧
    (∃ (c : Fin 8) (a : Nat) (s : State), s.ownReg c a = false ∧ s.owned c a = true) :=
  ⟨⟨.modeReqOff 0 0, 0, 0x84, 1, inMode mPARKED, by unfold State.Accepts; decide +kernel⟩,
   ⟨.railEnClear 0 11, 0, rail 11, RAIL.CTRL_EN, 0, inMode mPARKED, by unfold State.AcceptsField; decide +kernel⟩,
   ⟨inMode mPARKED, by decide +kernel⟩,
   ⟨7, (inMode mRUN).wr hifB (HIF.STATUS_QUAR.at 7) 1, by decide +kernel⟩,
   ⟨{ inMode mRUN with vioOut := true }, by decide +kernel⟩,
   ⟨0, 0x3000, (inMode mRUN).wr 0x3000 HDR.OWNER 1, by decide +kernel⟩⟩

theorem test_wit_RingRowsNeedTheirCommand :
    (∃ (i : Instr) (t : BitVec 8) (op : Nat) (s : State), ringOf i = some (t, op) ∧ s.findCmd t.toNat = none) ∧
    (∃ (i : Instr) (t : BitVec 8) (op : Nat) (k : Cmd) (s : State), ringOf i = some (t, op) ∧ s.findCmd t.toNat = some k ∧
      k.op ≠ op) :=
  ⟨⟨.setV 0, 0, 1, inMode mRUN, by decide +kernel⟩,
   ⟨.setV 1, 1, 1, cmd 2 0 0 0, withCmd (cmd 2 0 0 0) (inMode mRUN), by decide +kernel⟩⟩

theorem test_wit_FrameRefusedByLowestWord :
    (∃ (f : Frame) (k : Nat), f.op = 2 ∧ f.form = fsOK ∧ k < f.len) ∧
    (∃ (f : Frame) (k : Nat), f.op = 3 ∧ f.form = fsOK ∧ k < f.len / 2) ∧
    (∃ (a : Nat) (a0 : Nat), a / 0x400 ≠ a0 / 0x400) ∧
    (∃ (a : Nat) (n : Nat) (k : Nat), k < n ∧ (addrOk (a + 4 * k) = false ∨ (a + 4 * k) / 0x400 ≠ a / 0x400)) :=
  ⟨⟨frame 0x21000084 [0, 0] 1 [], 1, by decide +kernel⟩,
   ⟨frame 0x31000084 [0, 0] 1 [], 0, by decide +kernel⟩,
   ⟨0x400, 0x3FC, by decide +kernel⟩,
   ⟨0x3FC, 2, 1, by decide +kernel⟩⟩

theorem test_wit_BankInUseIsLocked :
    (∃ (c : Fin 8) (n : Fin 12) (s : State), s.owned c (rail n) = false ∧ s.rd (rail n) RAIL.STATUS_BANK = 0) ∧
    (∃ (c : Fin 8) (n : Fin 12) (s : State), s.owned c (rail n) = false ∧ s.rd (rail n) RAIL.STATUS_BANK = 1) ∧
    (∃ (c : Fin 8) (n : Fin 12) (s : State), s.owned c (rail n) = false ∧ s.pageLocked (rail n) = false ∧ mRISING ≤ s.mode ∧
      s.mode ≤ mDRAINING ∧ s.rd (rail n) RAIL.STATUS_BANK = 0) ∧
    (∃ (c : Fin 8) (n : Fin 12) (s : State), s.owned c (rail n) = false ∧ s.pageLocked (rail n) = false ∧ mRISING ≤ s.mode ∧
      s.mode ≤ mDRAINING ∧ s.rd (rail n) RAIL.STATUS_BANK = 1) ∧
    (∃ (c : Fin 8) (n : Fin 12) (a0 : Nat) (s : State), s.owned c (rail n) = false ∧ s.rd (rail n) RAIL.STATUS_BANK = 0 ∧ a0 /
      0x400 = rail n / 0x400) :=
  ⟨⟨0, 11, inMode mRUN, by decide +kernel⟩,
   ⟨0, 11, (inMode mRUN).wr (rail 11) RAIL.STATUS_BANK 1, by decide +kernel⟩,
   ⟨0, 0, unl (rail 0 / 0x400) (inMode mRISING), by decide +kernel⟩,
   ⟨0, 11, (unl (rail 11 / 0x400) (inMode mDRAINING)).wr (rail 11) RAIL.STATUS_BANK 1, by decide +kernel⟩,
   ⟨0, 11, rail 11, inMode mRUN, by decide +kernel⟩⟩

theorem test_wit_MaskSuppressesLowClasses :
    (∃ (b : Nat) (i : Nat) (cls : Nat) (s : State), silentPage b = false ∧ s.bit b (HDR.ERR_MASK.at i) = true ∧ cls ≤ 1) ∧
    (∃ (b : Nat) (cls : Nat), silentPage b = false ∧ 2 ≤ cls) ∧
    (∃ (b : Nat) (i : Nat) (s : State), silentPage b = false ∧ s.bit b (HDR.ERR_MASK.at i) = false) :=
  ⟨⟨clkB, 2, 1, (inMode mRUN).wr clkB (HDR.ERR_MASK.at 2) 1, by decide +kernel⟩,
   ⟨clkB, 2, by decide +kernel⟩,
   ⟨clkB, 2, inMode mRUN, by decide +kernel⟩⟩

theorem test_wit_SetpendWhateverEn :
    (∃ (c : Fin 8) (v : Word) (s : State), s.Accepts c 0x1854 v ∧ getBits v 0 10 ≤ 143) ∧
    (∃ (c : Fin 8) (e : Nat) (s : State), s.intBit c 0x60 e = false) ∧
    (∃ (c : Fin 8) (v : Word) (s : State), s.Accepts c 0x1854 v ∧ 144 ≤ getBits v 0 10) :=
  ⟨⟨0, 143, inMode mRUN, by unfold State.Accepts; decide +kernel⟩,
   ⟨0, 143, inMode mRUN, by decide +kernel⟩,
   ⟨0, 144, inMode mRUN, by unfold State.Accepts; decide +kernel⟩⟩

theorem test_wit_ClaimDoneClearsActive :
    (∃ (c : Fin 8) (v : Word) (s : State), s.Accepts c 0x184C v ∧ getBits v 0 10 ≤ 159 ∧ s.intBit c 0xA0 (getBits v 0 10) =
      true) ∧
    (∃ (c : Fin 8) (v : Word) (s : State), s.Accepts c 0x184C v ∧ (159 < getBits v 0 10 ∨ s.intBit c 0xA0 (getBits v 0 10) =
      false)) :=
  ⟨⟨0, 159, (inMode mRUN).intPut 0 0xA0 159 true, by unfold State.Accepts; decide +kernel⟩,
   ⟨0, 160, inMode mRUN, by unfold State.Accepts; decide +kernel⟩⟩

theorem test_wit_StepTakesFront : ∃ (c : Instr) (rest : List Instr) (s : State), s.pending = c :: rest :=
  ⟨.por 0, [.por 1], { State.reset with pending := [.por 0, .por 1] }, rfl⟩

theorem test_wit_EveryStepKeepsInv : ∃ s t : State, s.Inv ∧ step s = .next t :=
  ⟨{ State.reset with pending := [.oscStop 0] }, _, by unfold State.Inv; decide +kernel, rfl⟩

theorem test_wit_NoCommandTouchesTheQueue : ∃ (c : Instr) (s t : State), exec c s = .next t :=
  ⟨.oscStop 0, State.reset, _, rfl⟩

/-- Word 1 offends and word 0 does not. -/
theorem test_wit_FrameRefusedByLowestWord_word1 : ∃ (c : Fin 8) (f : Frame) (j : Nat) (w : Nat × Word × Word) (i : Instr) (s : State),
    s.answers c = true ∧ f.low = [] ∧ (i = .write c f ∧ f.op = 2 ∨ i = .writeMasked c f ∧ f.op = 3) ∧ f.form = fsOK ∧
    s.quar c = false ∧ f.toRst = false ∧ s.seqCheck c f.seq = fsOK ∧ f.writes[j]? = some w ∧
    (s.wordCheck c f.addr w).1 ≠ fsOK ∧ (∀ m v, m < j → f.writes[m]? = some v → (s.wordCheck c f.addr v).1 = fsOK) :=
  ⟨0, frame 0x2100008C [0, 0] 1 [], 1, (0x90, 0xFFFFFFFF, 0), .write 0 (frame 0x2100008C [0, 0] 1 []), inMode mRUN,
   by decide +kernel, by decide +kernel, .inl ⟨rfl, by decide +kernel⟩, by decide +kernel, by decide +kernel,
   by decide +kernel, by decide +kernel, by decide +kernel, by decide +kernel, by
    intro m v hm hv
    obtain rfl : m = 0 := by omega
    have : v = (0x8C, 0xFFFFFFFF, 0) := by
      have h : (frame 0x2100008C [0, 0] 1 []).writes[0]? = some (0x8C, 0xFFFFFFFF, 0) := by decide +kernel
      rw [h] at hv; exact (Option.some.inj hv).symm
    subst this; decide +kernel⟩

end Sys2Proof.Tests
end

section
/-! SUPPORT. The rail control loop: what a write of a coefficient register is answered (R87), and what a write of FSW does
(R86). -/

namespace Sys2Proof.Machine

open Sys2Proof

/-! Addresses of a rail's page (R11, R13). -/

theorem rail_eq (n : Nat) : rail n = (0x10 + n) * 0x400 := rfl

theorem rail_add_page (n : Nat) {o : Nat} (ho : o < 0x400) : (rail n + o) / 0x400 = 0x10 + n := by
  rw [rail_eq]; omega

theorem rail_add_samePage (n : Nat) {o : Nat} (ho : o < 0x400) : (rail n + o) / 0x400 = rail n / 0x400 := by
  rw [rail_eq]; omega

theorem rail_add_offset (n : Nat) {o : Nat} (ho : o < 0x400) : (rail n + o) % 0x400 = o := by
  rw [rail_eq]; omega

theorem intKey_rail_add (n : Fin 12) {o : Nat} (ho : o < 0x400) : intKey (rail n + o) = false := by
  rw [intKey, rail_eq, beq_eq_false_iff_ne]; omega

theorem State.owned_rail_add (s : State) (c n : Nat) {o : Nat} (ho : o < 0x400) :
    s.owned c (rail n + o) = s.owned c (rail n) := by
  rw [State.owned, rail_add_samePage n ho, State.owned]

theorem State.pageLocked_rail_add (s : State) (n : Nat) {o : Nat} (ho : o < 0x400) :
    s.pageLocked (rail n + o) = s.pageLocked (rail n) := by
  rw [State.pageLocked, rail_add_samePage n ho, State.pageLocked]

/-! The status of a write (R320). -/

/-- From RISING to DRAINING the mode takes a write of any register (R40). -/
theorem State.modeTakes_active {s : State} (hlo : mRISING ≤ s.mode) (hhi : s.mode ≤ mDRAINING) (c a : Nat) (v : Word) :
    s.modeTakes c a v = true := by
  have h3 : s.mode ≠ mHOLD := Nat.ne_of_gt hlo
  have h10 : s.mode ≠ mSAFE := Nat.ne_of_lt (Nat.lt_succ_of_le hhi)
  simp [State.modeTakes, h3, h10, hlo, hhi]

/-- A coefficient register in use is refused in every mode and whatever LOCK says. -/
theorem State.wrStatus_inUse {s : State} {c a : Nat} {m : Word} (v : Word) (hadr : addrOk a = true) (hown : s.owned c a = false)
    (huse : s.coefInUse a = true) (hrwl : (rwlBits a &&& m) ≠ 0) : s.wrStatus c a m v = fsLOCKED := by
  have hrwl' : (rwlBits a &&& m != 0) = true := bne_iff_ne.2 hrwl
  simp only [State.wrStatus, hadr, hown, huse, hrwl', Bool.not_true, Bool.and_false, Bool.and_true, Bool.false_eq_true, if_false,
    if_true, ite_self]

theorem State.wrStatus_unlocked {s : State} {c a : Nat} {v : Word} (m : Word) (hadr : addrOk a = true)
    (hown : s.owned c a = false) (hmode : s.modeTakes c a v = true) (hlock : s.pageLocked a = false)
    (huse : s.coefInUse a = false) : s.wrStatus c a m v = fsOK := by
  simp [State.wrStatus, hadr, hown, hmode, hlock, huse]

/-! The coefficient banks (R87): three registers of bank A from offset 0x70 on, then the three of bank B. -/

/-- Coefficient register `j` of a rail, counted over both banks, is in use where STATUS.BANK names its bank. -/
theorem State.coefInUse_coef (s : State) (n : Fin 12) (j : Fin 6) :
    s.coefInUse (rail n + (0x70 + 4 * j)) = decide (s.rd (rail n) RAIL.STATUS_BANK = 0 ↔ j.val < 3) := by
  have ho : 0x70 + 4 * j.val < 0x400 := by omega
  have hpage : 0x10 ≤ 0x10 + n.val ∧ 0x10 + n.val ≤ 0x1B := by omega
  simp only [State.coefInUse, rail_add_page n ho, rail_add_offset n ho, hpage, and_self, if_true]
  change (if s.rd (rail n) RAIL.STATUS_BANK = 0 then _ else _) = _
  by_cases hbank : s.rd (rail n) RAIL.STATUS_BANK = 0
  · rw [if_pos hbank, decide_eq_decide]; omega
  · rw [if_neg hbank, decide_eq_decide]; omega

theorem addrOk_coef : ∀ (n : Fin 12) (j : Fin 6), addrOk (rail n + (0x70 + 4 * j)) = true := by decide +kernel

theorem rwlBits_coef_ne_zero : ∀ (n : Fin 12) (j : Fin 6), (rwlBits (rail n + (0x70 + 4 * j)) &&& 0xFFFFFFFF) ≠ 0 := by
  decide +kernel

theorem State.wrStatus_coef_inUse {s : State} {c : Nat} {n : Fin 12} (j : Fin 6) (v : Word) (hown : s.owned c (rail n) = false)
    (huse : s.rd (rail n) RAIL.STATUS_BANK = 0 ↔ j.val < 3) :
    s.wrStatus c (rail n + (0x70 + 4 * j)) 0xFFFFFFFF v = fsLOCKED :=
  State.wrStatus_inUse v (addrOk_coef n j) ((s.owned_rail_add c n (by omega)).trans hown)
    ((s.coefInUse_coef n j).trans (decide_eq_true huse)) (rwlBits_coef_ne_zero n j)

theorem State.wrStatus_coef_free {s : State} {c : Nat} {n : Fin 12} (j : Fin 6) (v : Word) (hown : s.owned c (rail n) = false)
    (hlock : s.pageLocked (rail n) = false) (hlo : mRISING ≤ s.mode) (hhi : s.mode ≤ mDRAINING)
    (hfree : ¬ (s.rd (rail n) RAIL.STATUS_BANK = 0 ↔ j.val < 3)) :
    s.wrStatus c (rail n + (0x70 + 4 * j)) 0xFFFFFFFF v = fsOK :=
  State.wrStatus_unlocked _ (addrOk_coef n j) ((s.owned_rail_add c n (by omega)).trans hown)
    (State.modeTakes_active hlo hhi _ _ _) ((s.pageLocked_rail_add n (by omega)).trans hlock)
    ((s.coefInUse_coef n j).trans (decide_eq_false hfree))

/-- Register `k` of bank B is number `3 + k` of the two banks' registers. -/
theorem bankB_address (n k : Nat) : rail n + 0x7C + 4 * k = rail n + (0x70 + 4 * (3 + k)) := by omega

/-- While bank A is in use its registers are refused. -/
theorem State.wrStatus_bankA_inUse {s : State} {c : Nat} {n : Fin 12} (k : Fin 3) (v : Word) (hown : s.owned c (rail n) = false)
    (hbank : s.rd (rail n) RAIL.STATUS_BANK = 0) : s.wrStatus c (rail n + 0x70 + 4 * k) 0xFFFFFFFF v = fsLOCKED := by
  rw [Nat.add_assoc]
  exact State.wrStatus_coef_inUse ⟨k, by omega⟩ v hown (by simp [hbank])

/-- Settles O57: the bank that STATUS.BANK names is in use, whatever the page's lock; the other one is held by that lock alone. -/
theorem bankInUseIsLocked : Obligations.BankInUseIsLocked := by
  unfold Obligations.BankInUseIsLocked
  refine ⟨fun c n k v s hown hbank => State.wrStatus_bankA_inUse k v hown hbank, ?_, ?_, ?_, ?_⟩
  · intro c n k v s hown hbank
    rw [bankB_address]
    exact State.wrStatus_coef_inUse ⟨3 + k, by omega⟩ v hown (by simp [hbank])
  · intro c n k v s hown hlock hlo hhi hbank
    rw [bankB_address]
    exact State.wrStatus_coef_free ⟨3 + k, by omega⟩ v hown hlock hlo hhi (by simp [hbank])
  · intro c n k v s hown hlock hlo hhi hbank
    rw [Nat.add_assoc]
    exact State.wrStatus_coef_free ⟨k, by omega⟩ v hown hlock hlo hhi (by simp [hbank])
  · intro c n k v a0 s hown hbank hpage
    have ha : (rail n + 0x70 + 4 * k) / 0x400 = a0 / 0x400 := by
      rw [Nat.add_assoc, rail_add_samePage n (by omega), hpage]
    simp only [State.wordCheck, ha, ne_eq, not_true_eq_false, if_false]
    exact State.wrStatus_bankA_inUse k _ hown hbank

/-! An ERR bit and its reads (R499). -/

/-- A raise and its mask leave the registers as the ERR bit and its IRQ_PEND bit left them. -/
theorem State.getW_err (s : State) (b i ev : Nat) (cls d : Option Nat) (k : Nat) :
    (s.err b i ev cls d).getW k = (s.errQ b i ev).getW k := by
  unfold State.err
  dsimp only
  split
  · rfl
  · split <;> rfl

/-- An occurrence of the cause of ERR bit `i` leaves the bit set. -/
theorem State.bit_err {b i : Nat} (s : State) (ev : Nat) (cls d : Option Nat) (hi : i < 32) (hb : intKey (b + 0xC) = false) :
    (s.err b i ev cls d).bit b (HDR.ERR.at i) = true := by
  have hpend : b + (HDR.ERR.at i).off ≠ b + 0x18 := by simp [Fld.at, HDR.ERR]
  have hrd : (s.errQ b i ev).rd b (HDR.ERR.at i) = (s.wr b (HDR.ERR.at i) 1).rd b (HDR.ERR.at i) :=
    (irq_told _ b i ev).rd b (HDR.ERR.at i) hb hpend
  rw [State.bit, State.rd, State.getW_err, beq_iff_eq]
  exact hrd.trans (s.rd_wr_eq b (HDR.ERR.at i) 1 hi)

/-- An ERR bit of a rail leaves the rail's other registers, IRQ_PEND apart, as they were. -/
theorem State.rd_err_rail (s : State) (n : Fin 12) (i ev : Nat) (cls d : Option Nat) (f : Fld) (ho : f.off < 0x400)
    (he : f.off ≠ 0xC) (hp : f.off ≠ 0x18) : (s.err (rail n) i ev cls d).rd (rail n) f = s.rd (rail n) f :=
  (err_told s (rail n) i ev cls d).rd (rail n) f (intKey_rail_add n ho) (by omega)

/-! FSW (R86). -/

/-- FSW of rail `n` holds frequency `g` and SOFF `o`; where its word changed, a proposal is stale (R99). -/
def State.fswStored (s : State) (n g o : Nat) : State :=
  let s0 := (s.wr (rail n) RAIL.FSW_FREQ g).wr (rail n) RAIL.FSW_SOFF o
  if s0.getW (rail n + 0x54) = s.getW (rail n + 0x54) then s0 else s0.lidStale n

theorem State.getW_fswStored (s : State) (n g o k : Nat) :
    (s.fswStored n g o).getW k = ((s.wr (rail n) RAIL.FSW_FREQ g).wr (rail n) RAIL.FSW_SOFF o).getW k := by
  unfold State.fswStored
  dsimp only
  split <;> rfl

theorem State.getW_fswStored_ne (s : State) (n g o : Nat) {k : Nat} (h : k ≠ rail n + 0x54) :
    (s.fswStored n g o).getW k = s.getW k := by
  rw [State.getW_fswStored]
  exact (State.getW_setW_ne _ _ h).trans (State.getW_setW_ne _ _ h)

theorem State.fswStored_raiseQ (s : State) (n g o : Nat) : (s.fswStored n g o).raiseQ = s.raiseQ := by
  unfold State.fswStored
  dsimp only
  split <;> rfl

theorem State.fswStored_freq (s : State) (n g o : Nat) : (s.fswStored n g o).rd (rail n) RAIL.FSW_FREQ = g % 2 ^ 11 := by
  rw [State.rd, State.getW_fswStored]
  exact (State.rd_wr_off _ _ RAIL.FSW_SOFF o _ RAIL.FSW_FREQ rfl (by decide) (by decide)).trans
    (s.rd_wr_eq _ RAIL.FSW_FREQ g (by decide))

theorem State.fswStored_soff (s : State) (n g o : Nat) : (s.fswStored n g o).rd (rail n) RAIL.FSW_SOFF = o % 2 ^ 5 := by
  rw [State.rd, State.getW_fswStored]
  exact State.rd_wr_eq _ _ RAIL.FSW_SOFF o (by decide)

theorem State.setFsw_not_off {s : State} {n : Nat} (h : s.outSt n ≠ 0) (v : Word) :
    s.setFsw n v = s.err (rail n) 7 n none none := if_pos h

theorem State.setFsw_off {s : State} {n : Nat} (h : s.outSt n = 0) (v : Word) :
    s.setFsw n v =
      if getBits v 0 11 ≠ clampN 250 2000 (getBits v 0 11) then
        (s.fswStored n (clampN 250 2000 (getBits v 0 11)) (getBits v 16 5)).err (rail n) 7 n none none
      else s.fswStored n (clampN 250 2000 (getBits v 0 11)) (getBits v 16 5) := by
  rw [State.setFsw, if_neg (Decidable.not_not.2 h)]
  rfl

theorem State.setFsw_inRange {s : State} {n : Nat} {v : Word} (h : s.outSt n = 0) (hlo : 250 ≤ getBits v 0 11)
    (hhi : getBits v 0 11 ≤ 2000) : s.setFsw n v = s.fswStored n (getBits v 0 11) (getBits v 16 5) := by
  have hg : clampN 250 2000 (getBits v 0 11) = getBits v 0 11 := by
    rw [clampN, if_neg (by omega), if_neg (by omega)]
  rw [State.setFsw_off h, hg, if_neg (Decidable.not_not.2 rfl)]

/-- A frequency that the clamp moves to `g` is stored as `g`, and tells CFG_BUSY. -/
theorem State.setFsw_clamped {s : State} {n : Fin 12} {v : Word} {g : Nat} (h : s.outSt n = 0)
    (hg : clampN 250 2000 (getBits v 0 11) = g) (hne : getBits v 0 11 ≠ g) (hlt : g < 2 ^ 11) :
    (s.setFsw n v).rd (rail n) RAIL.FSW_FREQ = g ∧ (s.setFsw n v).bit (rail n) (HDR.ERR.at 7) = true := by
  rw [State.setFsw_off h, hg, if_pos hne]
  refine ⟨?_, State.bit_err _ _ _ _ (by decide) (intKey_rail_add n (by decide))⟩
  rw [State.rd_err_rail _ n 7 n none none RAIL.FSW_FREQ (by decide) (by decide) (by decide), State.fswStored_freq,
    Nat.mod_eq_of_lt hlt]

/-- An accepted write of FSW has the effect of `setFsw`. -/
theorem effect_railFswWrite {c : Fin 8} {n : Fin 12} {v : Word} {s : State} (h : s.Accepts c (rail n + 0x54) v)
    {P : State → Prop} (hP : P (s.setFsw n v)) : Effect (.railFswWrite c n v) s P := by
  refine ⟨s.setFsw n v, ?_, hP⟩
  rw [← State.ifWrites_of h fun s => s.setFsw n v]
  rfl

/-- Settles O10: while the rail is not OFF only CFG_BUSY is told; at OFF the clamped frequency is stored, and the same bit told
where the clamp moved it. -/
theorem fswWrite : Obligations.FswWrite := by
  unfold Obligations.FswWrite
  refine ⟨?_, ?_, ?_, ?_⟩
  · intro c n v s hacc hst
    refine effect_railFswWrite hacc ?_
    rw [State.setFsw_not_off hst]
    exact ⟨s.rd_err_rail n 7 n none none RAIL.FSW_FREQ (by decide) (by decide) (by decide),
      s.rd_err_rail n 7 n none none RAIL.FSW_SOFF (by decide) (by decide) (by decide),
      s.bit_err n none none (by decide) (intKey_rail_add n (by decide)), err_told s (rail n) 7 n none none⟩
  · intro c n v s hacc hst hlo hhi
    refine effect_railFswWrite hacc ?_
    rw [State.setFsw_inRange hst hlo hhi]
    exact ⟨(s.fswStored_freq n _ _).trans (Nat.mod_mod _ _), (s.fswStored_soff n _ _).trans (Nat.mod_mod _ _),
      fun k hk => s.getW_fswStored_ne n _ _ hk, s.fswStored_raiseQ n _ _⟩
  · intro c n v s hacc hst hlow
    exact effect_railFswWrite hacc (State.setFsw_clamped hst (if_pos hlow) (by omega) (by decide))
  · intro c n v s hacc hst hhigh
    have hg : clampN 250 2000 (getBits v 0 11) = 2000 := by rw [clampN, if_neg (by omega), if_pos hhigh]
    exact effect_railFswWrite hacc (State.setFsw_clamped hst hg (by omega) (by decide))

end Sys2Proof.Machine
end

section
/-! SUPPORT. A refused write (R320): which word decides, what its frame's end records (R317, R322, R323), and what that record
leaves alone. -/

namespace Sys2Proof

open Sys2Proof.Machine

/-! The words of a frame (R312, R315). -/

/-- A frame whose form is in order has words, the whole payload and a trailer among them. -/
theorem Frame.words_of_form {f : Frame} (h : f.form = fsOK) : f.words.isEmpty = false ∧ f.total ≤ f.words.length := by
  unfold Frame.form at h
  split at h
  · exact absurd h (by decide)
  next hwords =>
    split at h
    · exact absurd h (by decide)
    · split at h
      · exact absurd h (by decide)
      next hlen => exact ⟨Bool.eq_false_iff.2 fun he => hwords (.inl he), Nat.le_of_not_lt hlen⟩

theorem Frame.payload_length {f : Frame} {n : Nat} (hform : f.form = fsOK) (hop : f.op ≠ 1) (hpay : f.pay = some n) :
    f.payload.length = n := by
  have htotal := (Frame.words_of_form hform).2
  rw [Frame.total, if_neg hop, hpay, Option.getD_some] at htotal
  rw [Frame.payload, hpay, Option.getD_some, List.length_take, List.length_drop]
  omega

theorem Frame.pay_write {f : Frame} (hop : f.op = 2) (hform : f.form = fsOK) : f.pay = some f.len := by
  simp [Frame.pay, hop, (Frame.words_of_form hform).1]

theorem Frame.write_address {f : Frame} {k : Nat} (hop : f.op = 2) (hform : f.form = fsOK) (hk : k < f.len) :
    (f.writes[k]?).map (·.1) = some (f.addr + 4 * k) := by
  have hlen : k < f.payload.length := by
    rwa [Frame.payload_length hform (by omega) (Frame.pay_write hop hform)]
  simp [Frame.writes, hop, List.getElem?_eq_getElem hlen]

theorem Frame.writeMasked_address {f : Frame} {k : Nat} (hop : f.op = 3) (hk : k < f.len / 2) :
    (f.writes[k]?).map (·.1) = some (f.addr + 4 * k) := by
  simp [Frame.writes, hop, List.getElem?_range hk]

end Sys2Proof

namespace Sys2Proof.Machine

open Sys2Proof

/-! The status of the words. -/

/-- R11: a word outside the page of the frame's address names no register of the frame. -/
theorem State.wordCheck_otherPage (s : State) (c : Nat) {a a0 : Nat} (m v : Word) (h : a / 0x400 ≠ a0 / 0x400) :
    (s.wordCheck c a0 (a, m, v)).1 = fsADDR := if_pos h

/-- The words below the lowest offending one do not count. -/
theorem State.wordsCheck_lowest {s : State} {c a0 : Nat} {w : Nat × Word × Word} :
    ∀ {l : List (Nat × Word × Word)} {j : Nat}, l[j]? = some w → (s.wordCheck c a0 w).1 ≠ fsOK →
      (∀ m v, m < j → l[m]? = some v → (s.wordCheck c a0 v).1 = fsOK) → s.wordsCheck c a0 l = s.wordCheck c a0 w
  | [], _, hw, _, _ => by simp at hw
  | x :: t, 0, hw, hbad, _ => by
    obtain rfl : x = w := by simpa using hw
    exact if_neg hbad
  | x :: t, j + 1, hw, hbad, hlow => by
    have hx : (s.wordCheck c a0 x).1 = fsOK := hlow 0 x (Nat.succ_pos j) rfl
    have ht : s.wordsCheck c a0 t = s.wordCheck c a0 w :=
      State.wordsCheck_lowest hw hbad fun m v hm hv => hlow (m + 1) v (Nat.succ_lt_succ hm) hv
    exact (if_pos hx).trans ht

/-- R320 for a READ: one address that names no register, or leaves the page, refuses them all. -/
theorem State.readCheck_refused (s : State) {a n k : Nat} (hk : k < n)
    (hbad : addrOk (a + 4 * k) = false ∨ (a + 4 * k) / 0x400 ≠ a / 0x400) : s.readCheck a n = (fsADDR, true) :=
  if_pos (List.any_eq_true.2 ⟨k, List.mem_range.2 hk, by simpa using hbad⟩)

theorem State.writeStatus_words {s : State} {c : Fin 8} {f : Frame} (hquar : s.quar c = false) (hform : f.form = fsOK)
    (hrst : f.toRst = false) (hseq : s.seqCheck c f.seq = fsOK) (hbad : (s.wordsCheck c f.addr f.writes).1 ≠ fsOK) :
    s.writeStatus c f = s.wordsCheck c f.addr f.writes := by
  simp [State.writeStatus, hquar, hform, hrst, hseq, hbad]

/-- A refused write ends its frame, and does nothing else. -/
theorem State.writeRun_refused {s : State} {c : Fin 8} {f : Frame} (hrst : f.toRst = false)
    (hbad : (s.writeStatus c f).1 ≠ fsOK) :
    s.writeRun c f = s.frameEnd c f (s.writeStatus c f).1 (s.writeStatus c f).2 := by
  have hkey : f.rstKey = false := by rw [Frame.rstKey, hrst, Bool.false_and]
  simp [State.writeRun, hkey, hbad]

/-! What the record of a refusal may write: the registers of HIF, of ARB with its copies per context, and of INT. -/

/-- A key of the pages HIF and INT, of ARB, or of a context's copy of the last two. -/
def refusalKey (k : Nat) : Bool := k / 0x400 == 0x03 || k % 0x10000 / 0x400 == 0x05 || intKey k

theorem refusalKey_hif {o : Nat} (h : o < 0x400) : refusalKey (hifB + o) = true := by
  have : (hifB + o) / 0x400 = 3 := by simp only [hifB, pg]; omega
  simp [refusalKey, this]

theorem refusalKey_hifC (c : Fin 8) {o : Nat} (h : o < 0x10) : refusalKey (hifC c + o) = true := by
  rw [hifC, Nat.add_assoc, Nat.add_assoc]
  exact refusalKey_hif (by omega)

/-- ERR and IRQ_PEND of the HIF page. -/
theorem refusalKey_hifErr {k : Nat} (h : k = hifB + 0xC ∨ k = hifB + 0x18) : refusalKey k = true := by
  obtain rfl | rfl := h
  · exact refusalKey_hif (by decide)
  · exact refusalKey_hif (by decide)

theorem refusalKey_arb {o : Nat} (h : o < 0x400) : refusalKey (arbB + o) = true := by
  have : (arbB + o) % 0x10000 / 0x400 = 5 := by simp only [arbB, pg]; omega
  simp [refusalKey, this]

theorem refusalKey_res {r o : Nat} (hr : r < 9) (ho : o < 4) : refusalKey (resB r + o) = true := by
  rw [resB, Nat.add_assoc, Nat.add_assoc]
  exact refusalKey_arb (by omega)

theorem refusalKey_arbCopy (c : Nat) {o : Nat} (h : o < 0x400) : refusalKey (ck c + arbB + o) = true := by
  have : (ck c + arbB + o) % 0x10000 / 0x400 = 5 := by simp only [ck, arbB, pg]; omega
  simp [refusalKey, this]

/-- `u` holds `st` as the status of context `c`'s last frame, and the rest of `s` but for what the record of a refusal writes. -/
structure State.RefusedAs (s : State) (c : Fin 8) (st : Nat) (u : State) : Prop where
  lastSt : (u.ctx c).lastSt = st
  nvm : u.nvm = s.nvm
  cmds : u.cmds = s.cmds
  otp : u.otp = s.otp
  clk : u.clk = s.clk
  getW : ∀ k, refusalKey k = false → u.getW k = s.getW k

namespace State.RefusedAs

variable {s t : State} {c : Fin 8} {st : Nat}

theorem told {ks : Nat → Prop} {u : State} (h : s.RefusedAs c st t) (ht : Told ks t u)
    (hks : ∀ k, ks k → refusalKey k = true) : s.RefusedAs c st u := by
  obtain ⟨he, hgetW⟩ := ht
  have hctxs := congrArg State.ctxs he
  refine ⟨?_, (congrArg State.nvm he).trans h.nvm, (congrArg State.cmds he).trans h.cmds, (congrArg State.otp he).trans h.otp,
    (congrArg State.clk he).trans h.clk, fun k hk => ?_⟩
  · rw [State.ctx, hctxs]
    exact h.lastSt
  · have hint : intKey k = false := by
      rw [refusalKey, Bool.or_eq_false_iff] at hk
      exact hk.2
    exact (hgetW k hint fun hin => Bool.false_ne_true (hk.symm.trans (hks k hin))).trans (h.getW k hk)

theorem wr {b : Nat} {f : Fld} (h : s.RefusedAs c st t) (v : Nat) (hk : refusalKey (b + f.off) = true) :
    s.RefusedAs c st (t.wr b f v) :=
  h.told (RegsOnly.wr (ks := fun k => k = b + f.off) t v rfl).told fun _ e => e ▸ hk

theorem wrB {b : Nat} {f : Fld} (h : s.RefusedAs c st t) (v : Bool) (hk : refusalKey (b + f.off) = true) :
    s.RefusedAs c st (t.wrB b f v) := h.wr _ hk

theorem bump {b : Nat} {f : Fld} (h : s.RefusedAs c st t) (hk : refusalKey (b + f.off) = true) : s.RefusedAs c st (t.bump b f) :=
  h.told (bump_only t b f).told fun _ e => e ▸ hk

theorem count {b pb : Nat} {f sat : Fld} (h : s.RefusedAs c st t) (i ev : Nat) (hf : refusalKey (b + f.off) = true)
    (hsat : refusalKey (b + sat.off) = true) (herr : refusalKey (pb + 0xC) = true) (hpend : refusalKey (pb + 0x18) = true) :
    s.RefusedAs c st (t.count b f sat pb i ev) := by
  refine h.told (count_told t b f sat pb i ev) ?_
  rintro k (rfl | rfl | rfl | rfl)
  · exact hf
  · exact hsat
  · exact herr
  · exact hpend

theorem each {l : List Nat} {f : Nat → State → State} (h : s.RefusedAs c st t)
    (hf : ∀ i ∈ l, ∀ u, s.RefusedAs c st u → s.RefusedAs c st (f i u)) : s.RefusedAs c st (t.each l f) := by
  induction l generalizing t with
  | nil => exact h
  | cons i l ih => exact ih (hf i (by simp) t h) fun j hj => hf j (by simp [hj])

theorem modCtx {g : CtxHid → CtxHid} (h : s.RefusedAs c st t) (hg : ∀ x, (g x).lastSt = x.lastSt) :
    s.RefusedAs c st (t.modCtx c g) := by
  refine ⟨?_, h.nvm, h.cmds, h.otp, h.clk, h.getW⟩
  calc ((t.modCtx c g).ctx c).lastSt = (g (t.ctx c)).lastSt := by simp [State.ctx, State.modCtx]
    _ = (t.ctx c).lastSt := hg _
    _ = st := h.lastSt

theorem mark (h : s.RefusedAs c st t) (k : Tmr) : s.RefusedAs c st (t.mark k) :=
  ⟨h.lastSt, h.nvm, h.cmds, h.otp, h.clk, h.getW⟩

theorem setGrant (h : s.RefusedAs c st t) (r : Nat) (g : Option Grant) : s.RefusedAs c st (t.setGrant r g) :=
  ⟨h.lastSt, h.nvm, h.cmds, h.otp, h.clk, h.getW⟩

theorem setQueue (h : s.RefusedAs c st t) (g : Nat) (q : List Req) : s.RefusedAs c st (t.setQueue g q) :=
  ⟨h.lastSt, h.nvm, h.cmds, h.otp, h.clk, h.getW⟩

theorem setDoomed (h : s.RefusedAs c st t) (l : List (Nat × Nat)) : s.RefusedAs c st { t with doomed := l } :=
  ⟨h.lastSt, h.nvm, h.cmds, h.otp, h.clk, h.getW⟩

/-- The arbiter's registers follow its grants and queues (R349, R352). -/
theorem arbShow (h : s.RefusedAs c st t) : s.RefusedAs c st t.arbShow := by
  refine (h.each fun r hr u hu => ?_).each fun n _ u hu => ?_
  · have hr9 : r < 9 := by
      simp only [List.mem_cons, List.not_mem_nil, or_false] at hr
      omega
    exact ((hu.wr _ (refusalKey_res hr9 (by decide))).wr _ (refusalKey_res hr9 (by decide))).wrB _
      (refusalKey_arb (show ARB.STATUS_HELD.off < 0x400 by decide))
  · have hself : ∀ {o : Nat}, o < 0x400 → refusalKey (ck n + arbB + o) = true := refusalKey_arbCopy n
    exact (((hu.wrB _ (hself (by decide))).wrB _ (hself (by decide))).wrB _ (hself (by decide))).wrB _ (hself (by decide))

end State.RefusedAs

/-! Quarantine and violation (R322, R323, R350). -/

/-- A direct grant is taken back for good: its context is told, and no command is touched. -/
theorem State.revoke_direct {s : State} {r : Nat} {g : Grant} (prog : Nat) (hg : s.grantOf r = some g) (ho : g.org = .direct) :
    s.revoke r prog false = (((((s.count (resB r) ARB.RES_STAT_REVOKES ARB.RES_STAT_SAT arbB 3 131).setGrant r none).wr
      (ck g.who + arbB) ARB.SELF_GNT_REVOKED_EV 1).irq arbB 17 131).arbShow) := by
  simp [State.revoke, hg, ho]

namespace State.RefusedAs

variable {s t : State} {c : Fin 8} {st : Nat}

theorem revoke_direct {r : Nat} {g : Grant} (h : s.RefusedAs c st t) (hr : r < 9) (prog : Nat) (hg : t.grantOf r = some g)
    (ho : g.org = .direct) : s.RefusedAs c st (t.revoke r prog false) := by
  rw [State.revoke_direct prog hg ho]
  have hcount := h.count 3 131 (f := ARB.RES_STAT_REVOKES) (sat := ARB.RES_STAT_SAT) (refusalKey_res hr (by decide))
    (refusalKey_res hr (by decide)) (refusalKey_arb (by decide)) (refusalKey_arb (by decide))
  have htold := (hcount.setGrant r none).wr (f := ARB.SELF_GNT_REVOKED_EV) 1 (refusalKey_arbCopy g.who (by decide))
  exact (htold.told (irq_told _ arbB 17 131) fun _ e => e ▸ refusalKey_arb (by decide)).arbShow

theorem doomedEnd {p : Nat × Nat} (h : s.RefusedAs c st t) (hp : p.1 < 9) : s.RefusedAs c st (t.doomedEnd p) := by
  unfold State.doomedEnd
  extract_lets holds
  split
  · exact h.setDoomed _
  next hnot =>
    split
    · cases hg : t.grantOf p.1 with
      | none => simp [holds, hg] at hnot
      | some g =>
        have hdirect : g.who = p.2 ∧ g.org = .direct := by simpa [holds, hg] using hnot
        exact (h.setDoomed _).revoke_direct hp 0 hg hdirect.2
    · exact h

theorem directDrop (h : s.RefusedAs c st t) (n : Nat) : s.RefusedAs c st (t.directDrop n) := by
  refine ((h.each fun r hr u hu => ?_).each fun g _ u hu => hu.setQueue g _).arbShow
  have hr9 : r < 9 := by
    simp only [List.mem_cons, List.not_mem_nil, or_false] at hr
    omega
  split
  · exact (hu.setDoomed _).doomedEnd hr9
  · exact hu

theorem quarantine (h : s.RefusedAs c st t) (n : Fin 8) : s.RefusedAs c st (t.quarantine n) := by
  have hquar := h.wrB (f := HIF.STATUS_QUAR.at n) true (refusalKey_hif (show HIF.STATUS_QUAR.off < 0x400 by decide))
  exact (hquar.told (err_told _ hifB 1 129 _ none) fun _ => refusalKey_hifErr).directDrop n

theorem violation (h : s.RefusedAs c st t) (code addr : Nat) : s.RefusedAs c st (t.violation c code addr) := by
  have hblock : ∀ {o : Nat}, o < 0x10 → refusalKey (hifC c + o) = true := refusalKey_hifC c
  unfold State.violation
  extract_lets s1 s2 s3 s4
  have h2 : s.RefusedAs c st s2 :=
    ((h.count 3 129 (hblock (by decide)) (hblock (by decide)) (refusalKey_hifErr (.inl rfl))
      (refusalKey_hifErr (.inr rfl))).wr _ (hblock (by decide))).wr _ (hblock (by decide))
  have h3 : s.RefusedAs c st s3 := by
    unfold s3
    split
    · exact h2.told (errQ_told _ hifB 0 129) fun _ => refusalKey_hifErr
    · exact (h2.told (err_told _ hifB 0 129 _ _) fun _ => refusalKey_hifErr).mark _
  have hopen : s.RefusedAs c st (s3.modCtx c fun h => { h with vwin := true }) := h3.modCtx fun _ => rfl
  have h4 : s.RefusedAs c st s4 := hopen.bump (f := HIF.CTX_VIOL_WINCNT) (hblock (by decide))
  split
  · exact h4.quarantine c
  · exact h4

end State.RefusedAs

/-- The end of a frame keeps its status for the next status word (R317), and may record a violation. -/
theorem State.refusedAs_frameEnd (s : State) (c : Fin 8) (f : Frame) (st : Nat) (viol : Bool) :
    s.RefusedAs c st (s.frameEnd c f st viol) := by
  have h1 : s.RefusedAs c st (s.modCtx c fun h => { h with lastSt := st, lastSeq := f.seqSeen }) :=
    ⟨by simp [State.ctx, State.modCtx], rfl, rfl, rfl, rfl, fun _ _ => rfl⟩
  unfold State.frameEnd
  cases viol with
  | false => exact h1
  | true => exact h1.violation st _

/-- A row's own frame that the port answers, with no other chip select low, runs; its words on MISO stand beside. -/
theorem State.frame_runs {s : State} {c : Fin 8} {op : Nat} {f : Frame} (run : State → List Word × State)
    (hans : s.answers c = true) (hof : f.of op = true) (hlow : f.low = []) : ∃ d, s.frame c op f run = (run s).2.answer c d := by
  have hcs : s.csBoth c f = s := by simp [State.csBoth, hlow]
  unfold State.frame
  rw [if_pos (by simp [hans, hof]), hcs]
  exact ⟨_, rfl⟩

/-- A write whose lowest offending word is `w` ends with that word's status. -/
theorem State.writeRun_refusedAs {s : State} {c : Fin 8} {f : Frame} {j : Nat} {w : Nat × Word × Word}
    (hquar : s.quar c = false) (hform : f.form = fsOK) (hrst : f.toRst = false) (hseq : s.seqCheck c f.seq = fsOK)
    (hw : f.writes[j]? = some w) (hbad : (s.wordCheck c f.addr w).1 ≠ fsOK)
    (hlow : ∀ m v, m < j → f.writes[m]? = some v → (s.wordCheck c f.addr v).1 = fsOK) :
    s.RefusedAs c (s.wordCheck c f.addr w).1 (s.writeRun c f) := by
  have hwords : s.wordsCheck c f.addr f.writes = s.wordCheck c f.addr w := State.wordsCheck_lowest hw hbad hlow
  have hstatus : s.writeStatus c f = s.wordCheck c f.addr w :=
    (State.writeStatus_words hquar hform hrst hseq (hwords ▸ hbad)).trans hwords
  rw [State.writeRun_refused hrst (hstatus ▸ hbad), hstatus]
  exact s.refusedAs_frameEnd c f _ _

/-- Either row of a write answers the state that the run of its frame makes, followed up. -/
theorem effect_writeFrame {c : Fin 8} {f : Frame} {i : Instr} {s : State} {st : Nat} (hans : s.answers c = true)
    (hlow : f.low = []) (hrow : i = .write c f ∧ f.op = 2 ∨ i = .writeMasked c f ∧ f.op = 3)
    (hrun : s.RefusedAs c st (s.writeRun c f)) : Effect i s (s.RefusedAs c st) := by
  have hframe : ∀ op, f.op = op → s.RefusedAs c st (s.frame c op f fun t => ([], t.writeRun c f)) := by
    intro op hop
    obtain ⟨d, hd⟩ := State.frame_runs (fun t => ([], t.writeRun c f)) hans (show f.of op = true by simp [Frame.of, hop]) hlow
    rw [hd]
    exact hrun.modCtx fun _ => rfl
  obtain ⟨rfl, hop⟩ | ⟨rfl, hop⟩ := hrow
  · exact ⟨_, rfl, hframe 2 hop⟩
  · exact ⟨_, rfl, hframe 3 hop⟩

/-- Settles O56: a frame's words are checked in ascending order, so the first that offends gives the status; its frame's end
then records the refusal in HIF, ARB and INT alone. -/
theorem frameRefusedByLowestWord : Obligations.FrameRefusedByLowestWord := by
  unfold Obligations.FrameRefusedByLowestWord
  refine ⟨fun f k hop hform hk => Frame.write_address hop hform hk, fun f k hop _ hk => Frame.writeMasked_address hop hk, ?_,
    fun c a a0 m v s hpage => s.wordCheck_otherPage c m v hpage, fun a n k s hk hbad => s.readCheck_refused hk hbad⟩
  intro c f j w i s hans hlow hrow hform hquar hrst hseq hw hbad hbelow
  obtain ⟨u, hexec, hu⟩ := effect_writeFrame hans hlow hrow (State.writeRun_refusedAs hquar hform hrst hseq hw hbad hbelow)
  refine ⟨u, hexec, hu.lastSt, hu.nvm, hu.cmds, hu.otp, hu.clk, fun k hhif harb hint => hu.getW k ?_⟩
  simp [refusalKey, hhif, harb, hint]

end Sys2Proof.Machine
end

section
/-! SUPPORT. The interrupt controller: what a write of SETPEND does (R360) and what a write of CLAIM_DONE does (R359). -/

namespace Sys2Proof.Machine

open Sys2Proof

/-- A row that is an accepted write of one register has the effect of that register's own function. -/
theorem effect_ifWrites {i : Instr} {s : State} {c : Fin 8} {a : Nat} {v : Word} {f : State → State} {P : State → Prop}
    (hacc : s.Accepts c a v) (hexec : exec i s = .next (s.ifWrites c a v f).settle) (hP : P (f s)) : Effect i s P :=
  ⟨f s, by rw [hexec, State.ifWrites_of hacc], hP⟩

/-! Places of the INT page (R11, R366). -/

/-- The page's own registers are no context's copy of one. -/
theorem intC_add_ne_intB_add (n o : Nat) {o' : Nat} (ho' : o' < 0x400) : intC n + o ≠ intB + o' := by
  simp only [intC, ck, intB, pg]; omega

/-! One bit per event. -/

theorem State.intBit_intPut_same (s : State) (n off e : Nat) (b : Bool) : (s.intPut n off e b).intBit n off e = b := by
  have he : e % 32 < 32 := Nat.mod_lt _ (by decide)
  rw [State.intBit, State.intPut, State.getW_setW_eq, testBit_putBits _ _ _ _ _ he]
  cases b <;> simp

/-- Another event's bit stands in another word, or at another place of the same one. -/
theorem State.intBit_intPut_ne (s : State) (n off : Nat) {e e' : Nat} (b : Bool) (h : e' ≠ e) :
    (s.intPut n off e b).intBit n off e' = s.intBit n off e' := by
  rw [State.intBit, State.intPut, State.getW_setW]
  by_cases hword : e' / 32 = e / 32
  · have hbit : ¬ (e % 32 ≤ e' % 32 ∧ e' % 32 < e % 32 + 1) := by omega
    rw [hword, if_pos rfl, testBit_putBits _ _ _ _ _ (by omega), if_neg hbit, State.intBit, hword]
  · rw [if_neg (by omega)]
    rfl

/-- A change of registers asks for no raise. -/
theorem RegsOnly.raiseQ {ks : Nat → Prop} {s u : State} (h : RegsOnly ks s u) : u.raiseQ = s.raiseQ := by
  have hrest := h.1
  rw [hrest]

/-- A bit outside what a change names reads as before. -/
theorem RegsOnly.intBit {ks : Nat → Prop} {s u : State} {n off e : Nat} (h : RegsOnly ks s u)
    (hk : ¬ ks (intC n + off + 4 * (e / 32))) : u.intBit n off e = s.intBit n off e := by
  rw [State.intBit, State.intBit, h.2 _ hk]

/-- A family's bits outside what a change names list as before. -/
theorem RegsOnly.intBits {ks : Nat → Prop} {s u : State} {n off : Nat} (h : RegsOnly ks s u)
    (hk : ∀ o, off ≤ o → o ≤ off + 16 → ¬ ks (intC n + o)) : u.intBits n off = s.intBits n off := by
  have hw : ∀ j, j ≤ 16 → u.getW (intC n + off + j) = s.getW (intC n + off + j) := fun j hj =>
    h.2 _ (by rw [Nat.add_assoc]; exact hk _ (by omega) (by omega))
  simp only [State.intBits, hw 4 (by decide), hw 8 (by decide), hw 12 (by decide), hw 16 (by decide),
    show u.getW (intC n + off) = s.getW (intC n + off) from hw 0 (by decide)]

/-! The most urgent event (R355, R358). -/

theorem lt_of_mem_onesFrom {v : Word} {k e : Nat} (h : e ∈ onesFrom v k) : e < k + 32 := by
  unfold onesFrom at h
  split at h
  · exact absurd h (by simp)
  · simp only [List.mem_map, List.mem_filter, List.mem_range] at h
    obtain ⟨j, ⟨hj, -⟩, rfl⟩ := h
    omega

theorem State.lt_of_mem_intBits {s : State} {n off e : Nat} (h : e ∈ s.intBits n off) : e < 160 := by
  simp only [State.intBits, List.mem_append] at h
  obtain (((h | h) | h) | h) | h := h <;> have := lt_of_mem_onesFrom h <;> omega

theorem State.mem_of_urgent {s : State} {n : Nat} : ∀ {l : List Nat} {e : Nat}, s.urgent n l = some e → e ∈ l
  | [], _, h => by simp [State.urgent] at h
  | a :: t, e, h => by
    simp only [State.urgent] at h
    split at h
    · obtain rfl : a = e := by simpa using h
      exact List.mem_cons_self
    next d hd =>
      have hmem : d ∈ t := State.mem_of_urgent hd
      split at h
      · obtain rfl : d = e := by simpa using h
        exact List.mem_cons_of_mem _ hmem
      · obtain rfl : a = e := by simpa using h
        exact List.mem_cons_self

/-- Urgency looks at the priorities alone. -/
theorem State.urgent_congr {s u : State} {n : Nat} (h : ∀ e, u.prio n e = s.prio n e) (l : List Nat) :
    u.urgent n l = s.urgent n l := by
  induction l with
  | nil => rfl
  | cons a t ih => simp only [State.urgent, ih, h]

/-- RUNNING.ID, of ten bits, holds every event that can be active, and 0x3FF where none is. -/
theorem State.running_getD_lt (s : State) (n : Nat) : (s.running n).getD 0x3FF < 2 ^ 10 := by
  cases h : s.running n with
  | none => decide
  | some e => exact Nat.lt_trans (State.lt_of_mem_intBits (State.mem_of_urgent h)) (by decide)

/-! What a refresh of the context's view writes (R356, R357): RUNNING and STATUS. -/

theorem State.intRefresh_eq (s : State) (c : Fin 8) :
    s.intRefresh c = (((s.wr (intC c) INT.RUNNING_ID ((s.running c).getD 0x3FF)).wr (intC c) INT.RUNNING_PRIO
      (((s.running c).map (s.prio c)).getD 0)).wrB intB (INT.STATUS_ASSERTED.at c) ((s.claimable c).isSome && !(s.ctx c).gap)).wrB
      intB (INT.STATUS_ASSERTED.at (8 + c)) (decide (2 ≤ (s.intBits c 0xA0).length)) := by
  unfold State.intRefresh
  dsimp only
  cases s.running c <;> rfl

theorem intRefresh_views (s : State) (c : Fin 8) : RegsOnly (fun k => k = intC c + 0x50 ∨ k = intB + 8) s (s.intRefresh c) := by
  rw [State.intRefresh_eq]
  exact (((RegsOnly.wr s _ (.inl rfl)).trans (RegsOnly.wr _ _ (.inl rfl))).trans (RegsOnly.wr _ _ (.inr rfl))).trans
    (RegsOnly.wr _ _ (.inr rfl))

/-- The registers from EN on are none of those. -/
theorem not_view {c o : Nat} (h : 0x60 ≤ o) : ¬ (intC c + o = intC c + 0x50 ∨ intC c + o = intB + 8) := by
  have := intC_add_ne_intB_add c o (show 8 < 0x400 by decide)
  omega

theorem State.intBit_intRefresh (s : State) (c : Fin 8) {off : Nat} (e : Nat) (h : 0x60 ≤ off) :
    (s.intRefresh c).intBit c off e = s.intBit c off e :=
  (intRefresh_views s c).intBit (by rw [Nat.add_assoc]; exact not_view (by omega))

theorem State.prio_intRefresh (s : State) (c : Fin 8) (e : Nat) : (s.intRefresh c).prio c e = s.prio c e := by
  have hword : (s.intRefresh c).getW (intC c + 0x100 + 4 * (e / 4)) = s.getW (intC c + 0x100 + 4 * (e / 4)) :=
    (intRefresh_views s c).2 _ (by rw [Nat.add_assoc]; exact not_view (by omega))
  rw [State.prio, State.prio, hword]

theorem State.running_intRefresh (s : State) (c : Fin 8) : (s.intRefresh c).running c = s.running c := by
  have hact : (s.intRefresh c).intBits c 0xA0 = s.intBits c 0xA0 :=
    (intRefresh_views s c).intBits fun o ho _ => not_view (by omega)
  rw [State.running, State.running, hact, State.urgent_congr (s.prio_intRefresh c)]

/-- After a refresh RUNNING.ID names the most urgent active event. -/
theorem State.runningId_intRefresh (s : State) (c : Fin 8) :
    (s.intRefresh c).rd (intC c) INT.RUNNING_ID = ((s.intRefresh c).running c).getD 0x3FF := by
  have hview : intC c + INT.RUNNING_ID.off ≠ intB + 8 := intC_add_ne_intB_add c _ (by decide)
  calc (s.intRefresh c).rd (intC c) INT.RUNNING_ID
      = (s.wr (intC c) INT.RUNNING_ID ((s.running c).getD 0x3FF)).rd (intC c) INT.RUNNING_ID := by
        rw [State.intRefresh_eq, State.wrB_eq, State.wrB_eq, State.rd_wr_ne _ _ _ _ _ _ hview, State.rd_wr_ne _ _ _ _ _ _ hview,
          State.rd_wr_off _ _ INT.RUNNING_PRIO _ _ INT.RUNNING_ID rfl (by decide) (by decide)]
    _ = (s.running c).getD 0x3FF :=
        (s.rd_wr_eq _ INT.RUNNING_ID _ (by decide)).trans (Nat.mod_eq_of_lt (s.running_getD_lt c))
    _ = ((s.intRefresh c).running c).getD 0x3FF := by rw [State.running_intRefresh]

/-! An ERR bit of a page without an event number (R499). -/

/-- On MARG, INT and FLT the IRQ_PEND bit of an error is no edge. -/
theorem State.errQ_silent {b : Nat} (hb : silentPage b = true) (s : State) (i ev : Nat) :
    s.errQ b i ev = { (s.wr b (HDR.ERR.at i) 1).wr b (HDR.IRQ_PEND.at i) 1 with
      irqEv := putEv s.irqEv (b / 0x400 * 32 + i) ev } := by
  simp [State.errQ, State.irq, hb]

theorem errQ_silent_only {b : Nat} (hb : silentPage b = true) (s : State) (i ev : Nat) :
    RegsOnly (fun k => k = b + 0xC ∨ k = b + 0x18) s { s.errQ b i ev with irqEv := s.irqEv } := by
  rw [State.errQ_silent hb]
  exact (RegsOnly.wr s 1 (.inl rfl)).trans (RegsOnly.wr _ 1 (.inr rfl))

theorem State.raiseQ_errQ_silent {b : Nat} (hb : silentPage b = true) (s : State) (i ev : Nat) :
    (s.errQ b i ev).raiseQ = s.raiseQ := by
  rw [State.errQ_silent hb]
  rfl

@[simp] theorem State.getW_setIrqEv (s : State) (l : List (Nat × Nat)) (k : Nat) :
    State.getW { s with irqEv := l } k = s.getW k := rfl

theorem State.getW_errQ_silent {b : Nat} (hb : silentPage b = true) (s : State) (i ev k : Nat) :
    (s.errQ b i ev).getW k = ((s.wr b (HDR.ERR.at i) 1).wr b (HDR.IRQ_PEND.at i) 1).getW k := by
  rw [State.errQ_silent hb, State.getW_setIrqEv]

theorem State.bit_errQ_silent {b i : Nat} (hb : silentPage b = true) (hi : i < 32) (s : State) (ev : Nat) :
    (s.errQ b i ev).bit b (HDR.ERR.at i) = true := by
  have hpend : b + (HDR.ERR.at i).off ≠ b + (HDR.IRQ_PEND.at i).off := by simp [Fld.at, HDR.ERR, HDR.IRQ_PEND]
  have hrd : ((s.wr b (HDR.ERR.at i) 1).wr b (HDR.IRQ_PEND.at i) 1).rd b (HDR.ERR.at i) = 1 :=
    (State.rd_wr_ne _ b (HDR.IRQ_PEND.at i) 1 b (HDR.ERR.at i) hpend).trans (s.rd_wr_eq b (HDR.ERR.at i) 1 hi)
  rw [State.bit, State.rd, State.getW_errQ_silent hb, beq_iff_eq]
  exact hrd

/-- An ERR bit of the INT page leaves the contexts' bits as they were. -/
theorem State.intBit_errQ_int (s : State) (i ev n off e : Nat) : (s.errQ intB i ev).intBit n off e = s.intBit n off e := by
  refine (errQ_silent_only (show silentPage intB = true by decide) s i ev).intBit ?_
  rw [Nat.add_assoc, not_or]
  exact ⟨intC_add_ne_intB_add n _ (by decide), intC_add_ne_intB_add n _ (by decide)⟩

/-! SETPEND (R360). -/

theorem State.setPend_event {v : Word} (h : getBits v 0 10 ≤ 143) (s : State) (c : Fin 8) :
    s.setPend c v = (s.intPut c 0x80 (getBits v 0 10) true).intRefresh c := if_pos (by omega)

theorem State.setPend_badId {v : Word} (h : 144 ≤ getBits v 0 10) (s : State) (c : Fin 8) :
    s.setPend c v = s.errQ intB 1 0 := if_neg (by omega)

theorem State.setPend_raiseQ {v : Word} (h : getBits v 0 10 ≤ 143) (s : State) (c : Fin 8) :
    (s.setPend c v).raiseQ = s.raiseQ := by
  rw [State.setPend_event h]
  have hpend : 0x80 + 4 * (getBits v 0 10 / 32) < 0x400 := by omega
  exact ((intPut_only s c 0x80 _ true hpend).trans (intRefresh_only _ c)).raiseQ

/-- An event's EN and PEND bits stand in different words. -/
theorem State.en_intPut_pend (s : State) (n e : Nat) (b : Bool) : (s.intPut n 0x80 e b).intBit n 0x60 e = s.intBit n 0x60 e := by
  rw [State.intBit, State.intPut, State.getW_setW_ne _ _ (by omega), State.intBit]

theorem State.not_deliverable_of_en {s : State} {n e : Nat} (h : s.intBit n 0x60 e = false) : s.deliverable n e = false := by
  simp [State.deliverable, h]

/-- Settles O59: PEND of the event sets and EN stays, or ERR.BAD_ID alone is told; a delivery asks for EN. -/
theorem setpendWhateverEn : Obligations.SetpendWhateverEn := by
  unfold Obligations.SetpendWhateverEn
  refine ⟨?_, fun c e s hen => State.not_deliverable_of_en hen, ?_⟩
  · intro c v s hacc hev
    refine effect_ifWrites (f := fun s => s.setPend c v) hacc rfl ⟨?_, ?_, ?_, s.setPend_raiseQ hev c⟩
    all_goals rw [State.setPend_event hev]
    · rw [State.intBit_intRefresh _ c _ (by decide), State.intBit_intPut_same]
    · rw [State.intBit_intRefresh _ c _ (by decide), State.en_intPut_pend]
    · intro e _ hne
      rw [State.intBit_intRefresh _ c _ (by decide), State.intBit_intPut_ne _ _ _ _ hne]
  · intro c v s hacc hbad
    have hsilent : silentPage intB = true := by decide
    have honly := errQ_silent_only hsilent s 1 0
    refine effect_ifWrites (f := fun s => s.setPend c v) hacc rfl ?_
    rw [State.setPend_badId hbad]
    exact ⟨State.bit_errQ_silent hsilent (by decide) s 0, State.raiseQ_errQ_silent hsilent s 1 0, honly⟩

/-! CLAIM_DONE (R357, R359). -/

/-- The 100 ns gap after a CLAIM_DONE of context `c` is open. -/
def State.gapOpened (s : State) (c : Fin 8) : State := s.modCtx c fun h => { h with gap := true }

@[simp] theorem State.intBit_gapOpened (s : State) (c : Fin 8) (n off e : Nat) :
    (s.gapOpened c).intBit n off e = s.intBit n off e := rfl

theorem State.claimDone_active {s : State} {c : Fin 8} {v : Word} (hlt : getBits v 0 10 ≤ 159)
    (hact : s.intBit c 0xA0 (getBits v 0 10) = true) :
    s.claimDone c v = ((s.gapOpened c).intPut c 0xA0 (getBits v 0 10) false).intRefresh c := if_pos ⟨by omega, hact⟩

theorem State.claimDone_bad {s : State} {c : Fin 8} {v : Word}
    (h : 159 < getBits v 0 10 ∨ s.intBit c 0xA0 (getBits v 0 10) = false) :
    s.claimDone c v = ((s.gapOpened c).intRefresh c).errQ intB 0 0 := by
  refine if_neg ?_
  rintro ⟨hlt, hact⟩
  obtain h | h := h
  · omega
  · exact Bool.false_ne_true (h.symm.trans hact)

/-- A refused CLAIM_DONE leaves every EN, PEND, ACT and MERGE bit of the context. -/
theorem State.intBit_claimDone_bad (s : State) (c : Fin 8) {off : Nat} (e : Nat) (hoff : 0x60 ≤ off) :
    (((s.gapOpened c).intRefresh c).errQ intB 0 0).intBit c off e = s.intBit c off e := by
  rw [State.intBit_errQ_int, State.intBit_intRefresh _ c _ hoff, State.intBit_gapOpened]

/-- Settles O60: ACT of the event clears and RUNNING follows the events still active, or ERR.DONE_BAD alone is told. -/
theorem claimDoneClearsActive : Obligations.ClaimDoneClearsActive := by
  unfold Obligations.ClaimDoneClearsActive
  refine ⟨?_, ?_⟩
  · intro c v s hacc hlt hact
    refine effect_ifWrites (f := fun s => s.claimDone c v) hacc rfl ?_
    rw [State.claimDone_active hlt hact]
    refine ⟨?_, ?_, State.runningId_intRefresh _ c, rfl⟩
    · rw [State.intBit_intRefresh _ c _ (by decide), State.intBit_intPut_same]
    · intro e _ hne
      rw [State.intBit_intRefresh _ c _ (by decide), State.intBit_intPut_ne _ _ _ _ hne, State.intBit_gapOpened]
  · intro c v s hacc hbad
    have hsilent : silentPage intB = true := by decide
    have herr := errQ_silent_only hsilent ((s.gapOpened c).intRefresh c) 0 0
    refine effect_ifWrites (f := fun s => s.claimDone c v) hacc rfl ?_
    rw [State.claimDone_bad hbad]
    refine ⟨State.bit_errQ_silent hsilent (by decide) _ 0, fun e _ => ⟨s.intBit_claimDone_bad c e (by decide),
      s.intBit_claimDone_bad c e (by decide), s.intBit_claimDone_bad c e (by decide)⟩, ?_, ?_⟩
    · intro k hk
      refine (herr.2 k ?_).trans ((intRefresh_only _ c).2 k (by simp [hk]))
      rintro (rfl | rfl) <;> exact absurd hk (by decide)
    · exact (State.raiseQ_errQ_silent hsilent _ 0 0).trans (intRefresh_only _ c).raiseQ

end Sys2Proof.Machine
end

section
/-! SUPPORT. What ERR_MASK holds back (R368): when the cause of an ERR bit puts a raise in the collector's queue. -/

namespace Sys2Proof.Machine

open Sys2Proof

/-! An edge at the interrupt controller is no raise (R332, R353). -/

@[simp] theorem State.raiseQ_edge (s : State) (ev : Nat) : (s.edge ev).raiseQ = s.raiseQ :=
  (edge_only s ev).raiseQ

@[simp] theorem State.raiseQ_irq (s : State) (b i ev : Nat) : (s.irq b i ev).raiseQ = s.raiseQ := by
  unfold State.irq
  dsimp only
  split
  · exact State.raiseQ_edge _ ev
  · rfl

@[simp] theorem State.raiseQ_errQ (s : State) (b i ev : Nat) : (s.errQ b i ev).raiseQ = s.raiseQ :=
  State.raiseQ_irq _ b i ev

/-- The edge of a context's event 136 + n asks for no raise. -/
@[simp] theorem State.raiseQ_ringIrq (s : State) (c : Fin 8) : (s.ringIrq c).raiseQ = s.raiseQ := by
  unfold State.ringIrq
  dsimp only
  split
  · exact State.raiseQ_edge _ _
  · rfl

/-! The cause of an ERR bit: its mask bit and its class decide (R368, R499). -/

theorem State.err_masked {s : State} {b i ev cls : Nat} (d : Option Nat) (hmask : s.bit b (HDR.ERR_MASK.at i) = true)
    (hlow : cls ≤ 1) : s.err b i ev (some cls) d = s.errQ b i ev :=
  if_pos (by simp [hmask, hlow])

theorem State.err_silent {b : Nat} (hb : silentPage b = true) (s : State) (i ev : Nat) (cls d : Option Nat) :
    s.err b i ev cls d = s.errQ b i ev := by
  simp only [State.err, hb, if_true, ite_self]

/-- A class of 2 or above, or a clear mask bit, lets the raise through. -/
theorem State.err_unmasked {s : State} {b i ev cls : Nat} (d : Option Nat) (hb : silentPage b = false)
    (hraise : s.bit b (HDR.ERR_MASK.at i) = false ∨ 2 ≤ cls) :
    s.err b i ev (some cls) d = (s.errQ b i ev).post ev (some cls) d := by
  have hpass : (s.bit b (HDR.ERR_MASK.at i) && decide (cls ≤ 1)) = false := by
    obtain hmask | hhigh := hraise
    · rw [hmask, Bool.false_and]
    · rw [decide_eq_false (by omega), Bool.and_false]
  simp only [State.err, Option.getD_some, hpass, hb, Bool.false_eq_true, if_false]

theorem State.raiseQ_err_unmasked {s : State} {b i ev cls : Nat} (d : Option Nat) (hb : silentPage b = false)
    (hraise : s.bit b (HDR.ERR_MASK.at i) = false ∨ 2 ≤ cls) :
    (s.err b i ev (some cls) d).raiseQ = insRaise s.raiseQ ⟨ev, cls, d, false⟩ := by
  rw [State.err_unmasked d hb hraise, State.post, State.raiseQ_errQ, Option.getD_some]

/-- Settles O58: the mask holds back a raise of class C0 or C1 alone; FLT's ERR bits and the rings' events make none. -/
theorem maskSuppressesLowClasses : Obligations.MaskSuppressesLowClasses := by
  unfold Obligations.MaskSuppressesLowClasses
  refine ⟨?_, ?_, ?_, ?_, fun c s => s.raiseQ_ringIrq c⟩
  · intro b i ev cls d s _ hmask hlow
    rw [State.err_masked d hmask hlow, State.raiseQ_errQ]
  · intro b i ev cls d s hb hhigh
    exact State.raiseQ_err_unmasked d hb (.inr hhigh)
  · intro b i ev cls d s hb hmask
    exact State.raiseQ_err_unmasked d hb (.inl hmask)
  · intro i ev cls d s
    rw [State.err_silent (by decide), State.raiseQ_errQ]

end Sys2Proof.Machine
end

section
/-! SUPPORT. What one step is: it answers a next state, and keeps the queue and the two canonical forms. -/

namespace Sys2Proof.Machine

open Sys2Proof

/-! The step. -/

/-- No meaning stops the block (log 13). -/
theorem exec_next (c : Instr) (s : State) : ∃ t, exec c s = .next t := by
  cases c <;> exact ⟨_, rfl⟩

theorem step_front {c : Instr} {rest : List Instr} {s : State} (h : s.pending = c :: rest) :
    step s = exec c { s with pending := rest } := by
  simp only [step, h]

theorem step_idle {s : State} (h : s.pending = []) :
    step s = .next (if s.resumed.isEmpty then s.tickOn else { s.tickOn with pending := s.resumed, later := [] }) := by
  simp only [step, h]

theorem State.settle_quiet {s : State} (h : s.Quiet) : s.settle = s := by
  obtain ⟨hraise, hoff, -⟩ := h
  simp [State.settle, hraise, hoff]

/-- Settles O48. -/
theorem stepTakesFront : Obligations.StepTakesFront := by
  unfold Obligations.StepTakesFront
  exact fun c rest s h => step_front h

/-- Settles O49: a step is one command's meaning, or the idle tick. -/
theorem stepsAnswerNextStates : Obligations.StepsAnswerNextStates := by
  unfold Obligations.StepsAnswerNextStates
  refine ⟨exec_next, fun s => ?_, fun s h => s.settle_quiet h⟩
  rw [Safe.step]
  cases h : s.pending with
  | nil => exact ⟨_, step_idle h⟩
  | cons c rest =>
    rw [step_front h]
    exact exec_next c _

/-! What every command keeps: the queue, the register file's canonical form and NVM's. -/

theorem exec_good {p : List Instr} {s : State} (c : Instr) (h : s.Good p) : OutGood p (exec c s) := by
  cases c with
  | por => exact execPor_good h
  | fallowEntry => exact execFallowEntry_good h
  | bpor => exact execBpor_good h
  | wakePinChange => exact execWakePinChange_good h
  | holdonRelease => exact execHoldonRelease_good h
  | checkerSelfTest => exact execCheckerSelfTest_good h
  | lockstepSelfTest => exact execLockstepSelfTest_good h
  | otpReadPass => exact execOtpReadPass_good h
  | safeStateLineTest => exact execSafeStateLineTest_good h
  | loftScan => exact execLoftScan_good h
  | logScan => exact execLogScan_good h
  | imageAuthentication => exact execImageAuthentication_good h
  | baleLoad => exact execBaleLoad_good h
  | timeLoad => exact execTimeLoad_good h
  | bootSlotExpiry => exact execBootSlotExpiry_good h
  | warmComplete => exact execWarmComplete_good h
  | holdupCountdownEnd => exact execHoldupCountdownEnd_good h
  | vbusFloor => exact execVbusFloor_good h
  | serviceTimeout => exact execServiceTimeout_good h
  | minoffEnd => exact execMinoffEnd_good h
  | modeReqOff => exact execModeReqOff_good h
  | modeReqStandby => exact execModeReqStandby_good h
  | modeReqRun => exact execModeReqRun_good h
  | modeReqService => exact execModeReqService_good h
  | modeReqRevalidate => exact execModeReqRevalidate_good h
  | modeReqRestart => exact execModeReqRestart_good h
  | modeReqWarm => exact execModeReqWarm_good h
  | replaceSrcClear => exact execReplaceSrcClear_good h
  | railEnSet => exact execRailEnSet_good h
  | railEnClear => exact execRailEnClear_good h
  | railVsetWrite => exact execRailVsetWrite_good h
  | railFswWrite => exact execRailFswWrite_good h
  | prebiasSearchDone => exact execPrebiasSearchDone_good h
  | loopSample => exact execLoopSample_good h
  | coefApply => exact execCoefApply_good h
  | coefCopy => exact execCoefCopy_good h
  | winOvr => exact execWinOvr_good h
  | setV => exact execSetV_good h
  | ramp => exact execRamp_good h
  | loopId => exact execLoopId_good h
  | lidSettleEnd => exact execLidSettleEnd_good h
  | lidInjectionEnd => exact execLidInjectionEnd_good h
  | lidComputeDone => exact execLidComputeDone_good h
  | loopCommit => exact execLoopCommit_good h
  | masterPeriodStart => exact execMasterPeriodStart_good h
  | hintEdge => exact execHintEdge_good h
  | hintWindowEnd => exact execHintWindowEnd_good h
  | shedDecision => exact execShedDecision_good h
  | shedComplete => exact execShedComplete_good h
  | addComplete => exact execAddComplete_good h
  | shedHoldEnd => exact execShedHoldEnd_good h
  | sfltFault => exact execSfltFault_good h
  | outOfFamily => exact execOutOfFamily_good h
  | peakTrip => exact execPeakTrip_good h
  | negCurrentLimit => exact execNegCurrentLimit_good h
  | hiccupEntry => exact execHiccupEntry_good h
  | hiccupOffEnd => exact execHiccupOffEnd_good h
  | retryClear => exact execRetryClear_good h
  | startShortCheck => exact execStartShortCheck_good h
  | ovTrip => exact execOvTrip_good h
  | uvTrip => exact execUvTrip_good h
  | powerGood => exact execPowerGood_good h
  | offThresholdCrossing => exact execOffThresholdCrossing_good h
  | dischargeRelease => exact execDischargeRelease_good h
  | disForceWrite => exact execDisForceWrite_good h
  | vbusOv => exact execVbusOv_good h
  | vbusUv => exact execVbusUv_good h
  | portOv => exact execPortOv_good h
  | vbakWeak => exact execVbakWeak_good h
  | internalSupplyFault => exact execInternalSupplyFault_good h
  | dieTempTrip => exact execDieTempTrip_good h
  | portAbovePres => exact execPortAbovePres_good h
  | portBelowPres => exact execPortBelowPres_good h
  | feedReturn => exact execFeedReturn_good h
  | portReverseTrip => exact execPortReverseTrip_good h
  | portVdsPositive => exact execPortVdsPositive_good h
  | portBelowLoss => exact execPortBelowLoss_good h
  | portAboveLoss => exact execPortAboveLoss_good h
  | portLossConfirmed => exact execPortLossConfirmed_good h
  | portOvClear => exact execPortOvClear_good h
  | portEnWrite => exact execPortEnWrite_good h
  | portBlockWrite => exact execPortBlockWrite_good h
  | coldStart => exact execColdStart_good h
  | startupPathStop => exact execStartupPathStop_good h
  | startupPathRestart => exact execStartupPathRestart_good h
  | fstartDone => exact execFstartDone_good h
  | vbusOvRecovered => exact execVbusOvRecovered_good h
  | buscEnWrite => exact execBuscEnWrite_good h
  | donorStart => exact execDonorStart_good h
  | donorStop => exact execDonorStop_good h
  | fstopDone => exact execFstopDone_good h
  | deadEnd => exact execDeadEnd_good h
  | nodeMatch => exact execNodeMatch_good h
  | matchTimeout => exact execMatchTimeout_good h
  | connectDone => exact execConnectDone_good h
  | deliverEntry => exact execDeliverEntry_good h
  | donorFloor => exact execDonorFloor_good h
  | donorTaper => exact execDonorTaper_good h
  | donorTime => exact execDonorTime_good h
  | rstopDone => exact execRstopDone_good h
  | phRemClear => exact execPhRemClear_good h
  | chargerTick => exact execChargerTick_good h
  | qualifyEnd => exact execQualifyEnd_good h
  | prechargeDone => exact execPrechargeDone_good h
  | prechargeTimeout => exact execPrechargeTimeout_good h
  | cvEntry => exact execCvEntry_good h
  | safetyTimerExpiry => exact execSafetyTimerExpiry_good h
  | termination => exact execTermination_good h
  | topoffDone => exact execTopoffDone_good h
  | autoRecharge => exact execAutoRecharge_good h
  | restDue => exact execRestDue_good h
  | restEnd => exact execRestEnd_good h
  | packAbsence => exact execPackAbsence_good h
  | packReinsertion => exact execPackReinsertion_good h
  | probeStart => exact execProbeStart_good h
  | probeEnd => exact execProbeEnd_good h
  | packOv => exact execPackOv_good h
  | ntcShortFault => exact execNtcShortFault_good h
  | ntcClassChange => exact execNtcClassChange_good h
  | tpackUpdate => exact execTpackUpdate_good h
  | chgCtrlStop => exact execChgCtrlStop_good h
  | chgCtrlStart => exact execChgCtrlStart_good h
  | chgCtrlClear => exact execChgCtrlClear_good h
  | chgCtrlRest => exact execChgCtrlRest_good h
  | chgCtrlRecharge => exact execChgCtrlRecharge_good h
  | buckEnSet => exact execBuckEnSet_good h
  | buckEnClear => exact execBuckEnClear_good h
  | buckPrebiasDone => exact execBuckPrebiasDone_good h
  | buckSample => exact execBuckSample_good h
  | buckPeakTrip => exact execBuckPeakTrip_good h
  | buckParWrite => exact execBuckParWrite_good h
  | ldoEnSet => exact execLdoEnSet_good h
  | ldoEnClear => exact execLdoEnClear_good h
  | ldoRiseDone => exact execLdoRiseDone_good h
  | ldoOcOff => exact execLdoOcOff_good h
  | ldo0ToGroup => exact execLdo0ToGroup_good h
  | ldo0ToKeepalive => exact execLdo0ToKeepalive_good h
  | kaTrip => exact execKaTrip_good h
  | lsEnSet => exact execLsEnSet_good h
  | lsEnClear => exact execLsEnClear_good h
  | lsRampDone => exact execLsRampDone_good h
  | lsOcOff => exact execLsOcOff_good h
  | lsFastTrip => exact execLsFastTrip_good h
  | lsReverseStart => exact execLsReverseStart_good h
  | lsReverseEnd => exact execLsReverseEnd_good h
  | seqStepAction => exact execSeqStepAction_good h
  | seqStepComplete => exact execSeqStepComplete_good h
  | seqStepTimeout => exact execSeqStepTimeout_good h
  | slowOff => exact execSlowOff_good h
  | stuck => exact execStuck_good h
  | floor => exact execFloor_good h
  | floorTimeout => exact execFloorTimeout_good h
  | seqStepWrite => exact execSeqStepWrite_good h
  | seqUp => exact execSeqUp_good h
  | seqDown => exact execSeqDown_good h
  | seqState => exact execSeqState_good h
  | strobe => exact execStrobe_good h
  | announce => exact execAnnounce_good h
  | elect => exact execElect_good h
  | digest => exact execDigest_good h
  | ident => exact execIdent_good h
  | frameType => exact execFrameType_good h
  | alarm => exact execAlarm_good h
  | illegalWidth => exact execIllegalWidth_good h
  | flailWakePulse => exact execFlailWakePulse_good h
  | masterLost => exact execMasterLost_good h
  | holdExp => exact execHoldExp_good h
  | stepDone => exact execStepDone_good h
  | targetStrobe => exact execTargetStrobe_good h
  | announcePeriodExpiry => exact execAnnouncePeriodExpiry_good h
  | mctrlStep => exact execMctrlStep_good h
  | mctrlGoto => exact execMctrlGoto_good h
  | mctrlTarget => exact execMctrlTarget_good h
  | mctrlStop => exact execMctrlStop_good h
  | mctrlWake => exact execMctrlWake_good h
  | alarmSend => exact execAlarmSend_good h
  | alarmRepeat => exact execAlarmRepeat_good h
  | flailStuck => exact execFlailStuck_good h
  | frameAbandon => exact execFrameAbandon_good h
  | digestRound => exact execDigestRound_good h
  | digestRestart => exact execDigestRestart_good h
  | margin => exact execMargin_good h
  | margApply => exact execMargApply_good h
  | margDisarm => exact execMargDisarm_good h
  | snapshot => exact execSnapshot_good h
  | snapshotWritten => exact execSnapshotWritten_good h
  | conversion => exact execConversion_good h
  | accWindowBoundary => exact execAccWindowBoundary_good h
  | adcUrg => exact execAdcUrg_good h
  | urgDone => exact execUrgDone_good h
  | refEnSet => exact execRefEnSet_good h
  | refEnClear => exact execRefEnClear_good h
  | refReady => exact execRefReady_good h
  | convEnWrite => exact execConvEnWrite_good h
  | aclr => exact execAclr_good h
  | tclr => exact execTclr_good h
  | adcCalZero => exact execAdcCalZero_good h
  | adcCalFull => exact execAdcCalFull_good h
  | adcCalCommit => exact execAdcCalCommit_good h
  | adcCalDiscard => exact execAdcCalDiscard_good h
  | adcCalPointDone => exact execAdcCalPointDone_good h
  | adcCalTimeout => exact execAdcCalTimeout_good h
  | thermalUpdate => exact execThermalUpdate_good h
  | levelFall => exact execLevelFall_good h
  | rateClear => exact execRateClear_good h
  | dieShed => exact execDieShed_good h
  | hostaWrite => exact execHostaWrite_good h
  | read => exact execRead_good h
  | write => exact execWrite_good h
  | writeMasked => exact execWriteMasked_good h
  | doorbell => exact execDoorbell_good h
  | status => exact execStatus_good h
  | violWindowEnd => exact execViolWindowEnd_good h
  | ctxReset => exact execCtxReset_good h
  | commandFetch => exact execCommandFetch_good h
  | selfCqh => exact execSelfCqh_good h
  | ringIrqTimeout => exact execRingIrqTimeout_good h
  | stallSlotBoundary => exact execStallSlotBoundary_good h
  | arbGrant => exact execArbGrant_good h
  | revocation => exact execRevocation_good h
  | directRequest => exact execDirectRequest_good h
  | directRelease => exact execDirectRelease_good h
  | directHoldExpiry => exact execDirectHoldExpiry_good h
  | claim => exact execClaim_good h
  | claimDone => exact execClaimDone_good h
  | setpend => exact execSetpend_good h
  | hirqGapEnd => exact execHirqGapEnd_good h
  | edgeLatchApply => exact execEdgeLatchApply_good h
  | irqEnWrite => exact execIrqEnWrite_good h
  | raise => exact execRaise_good h
  | ackId => exact execAckId_good h
  | ackAll => exact execAckAll_good h
  | latAck => exact execLatAck_good h
  | fltForce => exact execFltForce_good h
  | errForceWrite => exact execErrForceWrite_good h
  | fctrlLiveWrite => exact execFctrlLiveWrite_good h
  | eventRecordWrite => exact execEventRecordWrite_good h
  | kick => exact execKick_good h
  | slotPeriodEnd => exact execSlotPeriodEnd_good h
  | wdgBindWrite => exact execWdgBindWrite_good h
  | wdgSlotEnWrite => exact execWdgSlotEnWrite_good h
  | lockstepMismatch => exact execLockstepMismatch_good h
  | engineException => exact execEngineException_good h
  | handshakeTimeout => exact execHandshakeTimeout_good h
  | refLoss => exact execRefLoss_good h
  | refAutoReturn => exact execRefAutoReturn_good h
  | clkRet => exact execClkRet_good h
  | droop => exact execDroop_good h
  | droopReleaseStep => exact execDroopReleaseStep_good h
  | droopLong => exact execDroopLong_good h
  | retire => exact execRetire_good h
  | scrub => exact execScrub_good h
  | loftCommit => exact execLoftCommit_good h
  | loftAutoCommit => exact execLoftAutoCommit_good h
  | nvmWrite => exact execNvmWrite_good h
  | otpBurnRow => exact execOtpBurnRow_good h
  | otpCounterIncrement => exact execOtpCounterIncrement_good h
  | otpLockBurn => exact execOtpLockBurn_good h
  | otpReburn => exact execOtpReburn_good h
  | ovrSet => exact execOvrSet_good h
  | ovrClear => exact execOvrClear_good h
  | ovrClearAll => exact execOvrClearAll_good h
  | imageWrite => exact execImageWrite_good h
  | activate => exact execActivate_good h
  | confirm => exact execConfirm_good h
  | ldrWrite => exact execLdrWrite_good h
  | ldrActivate => exact execLdrActivate_good h
  | oscStop => exact execOscStop_good h
  | oscResume => exact execOscResume_good h
  | trimCorrection => exact execTrimCorrection_good h
  | secondBoundary => exact execSecondBoundary_good h
  | calendarRead => exact execCalendarRead_good h
  | freezeTimeout => exact execFreezeTimeout_good h
  | freezeRel => exact execFreezeRel_good h
  | rtcFieldWrite => exact execRtcFieldWrite_good h
  | rtcCommit => exact execRtcCommit_good h
  | rtcDiscard => exact execRtcDiscard_good h
  | osfClear => exact execOsfClear_good h
  | timeNsRead => exact execTimeNsRead_good h
  | setNow => exact execSetNow_good h
  | setAtPps => exact execSetAtPps_good h
  | cancel => exact execCancel_good h
  | ppsEdge => exact execPpsEdge_good h
  | ppsMissed => exact execPpsMissed_good h
  | twiXfer => exact execTwiXfer_good h
  | twiRetry => exact execTwiRetry_good h
  | twiPollTimeout => exact execTwiPollTimeout_good h
  | twiStretchTimeout => exact execTwiStretchTimeout_good h
  | sclStuck => exact execSclStuck_good h
  | twiRecovery => exact execTwiRecovery_good h
  | twiReset => exact execTwiReset_good h
  | twiRecover => exact execTwiRecover_good h
  | lockWrite => exact execLockWrite_good h
  | ownerWrite => exact execOwnerWrite_good h
  | gpioEdge => exact execGpioEdge_good h
  | outSet => exact execOutSet_good h
  | outClr => exact execOutClr_good h
  | vioLoss => exact execVioLoss_good h
  | internalSupplyRecovery => exact execInternalSupplyRecovery_good h
  | vioReturn => exact execVioReturn_good h
  | busConverterSample => exact execBusConverterSample_good h
  | startupPathDelivery => exact execStartupPathDelivery_good h
  | dieTempRearm => exact execDieTempRearm_good h
  | flailPortHigh => exact execFlailPortHigh_good h
  | testAccessPort => exact execTestAccessPort_good h
  | wakingReadAccess => exact execWakingReadAccess_good h
  | windowSettle => exact execWindowSettle_good h

/-- A command that starts from canonical forms ends in them, with the queue it found. -/
theorem good_of_exec {c : Instr} {s t : State} (hinv : s.Inv) (hexec : exec c s = .next t) : t.Good s.pending :=
  exec_good c ⟨rfl, hinv.1, hinv.2⟩ t hexec

/-- Settles O52: each command's own lemma, and the idle tick's, keep both forms. -/
theorem everyStepKeepsInv : Obligations.EveryStepKeepsInv := by
  unfold Obligations.EveryStepKeepsInv
  intro s t hinv hstep
  cases h : s.pending with
  | nil =>
    rw [step_idle h] at hstep
    obtain rfl := Host.Outcome.next.inj hstep
    obtain ⟨-, htick⟩ := State.tickOn_good (p := s.pending) ⟨rfl, hinv⟩
    split
    · exact htick
    · exact htick
  | cons c rest =>
    rw [step_front h] at hstep
    exact (good_of_exec (s := { s with pending := rest }) hinv hstep).2

/-! The state after reset. -/

theorem State.getW_reset {k : Nat} (hk : k ≠ 0xA0) : State.reset.getW k = resetWord k := by
  have hkeys : findKey State.reset.regs k = none := if_neg (Ne.symm hk)
  rw [State.getW, hkeys, Option.getD_none]

/-- Settles O51: the register file holds one word, RESET_CAUSE. -/
theorem resetState : Obligations.ResetState := by
  unfold Obligations.ResetState
  exact ⟨by decide +kernel, ⟨by decide +kernel, rfl⟩, ⟨rfl, rfl, rfl⟩, rfl, rfl, by decide +kernel, by decide +kernel,
    fun k hk => State.getW_reset hk⟩

end Sys2Proof.Machine
end

section
/-! SUPPORT. Rows that a refusal leaves without effect: the rows that write one register or one field (R318 to R320), and those
that carry out a fetched command (R330, R335). -/

namespace Sys2Proof.Machine

open Sys2Proof

/-! Rows that write. -/

/-- A row's effect is a state that is followed up. -/
theorem does_of_eq {i : Instr} {s t u : State} (hexec : exec i s = .next t.settle) (h : t = u) : Does i s u := h ▸ hexec

theorem State.ite_ifWrites (s : State) (p : Prop) [Decidable p] (c : Fin 8) (a : Nat) (v : Word) (f : State → State) :
    (if p then s.ifWrites c a v f else s) = s.ifWrites c a v fun t => if p then f t else t := by
  by_cases hp : p <;> simp [hp, State.ifWrites]

/-- A row that writes one register is one write of it, under R320's rule, whatever its effect is. -/
theorem exec_writeOf {i : Instr} {c : Fin 8} {a : Nat} {v : Word} (h : writeOf i = some (c, a, v)) (s : State) :
    ∃ f, exec i s = .next (s.ifWrites c a v f).settle := by
  cases i <;> simp only [writeOf, reduceCtorEq, Option.some.injEq, Prod.mk.injEq] at h
  case' ldrWrite => rw [exec, execLdrWrite, State.ite_ifWrites]
  case' ldrActivate => rw [exec, execLdrActivate, State.ite_ifWrites]
  all_goals
    obtain ⟨rfl, rfl, rfl⟩ := h
    exact ⟨_, rfl⟩

theorem exec_fieldOf {i : Instr} {c : Fin 8} {b v : Nat} {f : Fld} (h : fieldOf i = some (c, b, f, v)) (s : State) :
    ∃ g, exec i s = .next (s.ifField c b f v g).settle := by
  cases i <;> simp only [fieldOf, reduceCtorEq, Option.some.injEq, Prod.mk.injEq] at h
  all_goals
    obtain ⟨rfl, rfl, rfl, rfl⟩ := h
    exact ⟨_, rfl⟩

/-- No field is written while the mode has the register file off. -/
theorem State.ifField_down {s : State} (hup : s.up = false) (c : Fin 8) (b : Nat) (f : Fld) (v : Nat) (g : State → State) :
    s.ifField c b f v g = s := by
  simp [State.ifField, State.ifWritesM, hup]

theorem State.not_accepts_quar {s : State} {c : Fin 8} (h : s.quar c = true) (a : Nat) (v : Word) : ¬ s.Accepts c a v := by
  simp [State.Accepts, State.mayWrite, h]

theorem State.not_accepts_vioOut {s : State} (h : s.vioOut = true) (c : Fin 8) (a : Nat) (v : Word) : ¬ s.Accepts c a v := by
  simp [State.Accepts, State.mayWrite, State.ctxOn, h]

theorem State.Accepts.wrStatus {s : State} {c : Fin 8} {a : Nat} {v : Word} (h : s.Accepts c a v) :
    s.wrStatus c a 0xFFFFFFFF v = fsOK := beq_iff_eq.1 (Bool.and_eq_true_iff.1 h).2

/-- R319: another context's page takes no write. -/
theorem State.not_accepts_owned {s : State} {c : Fin 8} {a : Nat} (hreg : s.ownReg c a = false) (hown : s.owned c a = true)
    (v : Word) : ¬ s.Accepts c a v := by
  have hstatus : s.wrStatus c a 0xFFFFFFFF v ≠ fsOK := by
    by_cases hadr : addrOk a = true
    · simp [State.wrStatus, hadr, hreg, hown, fsOWNER, fsOK]
    · simp [State.wrStatus, hadr, fsADDR, fsOK]
  exact fun h => hstatus h.wrStatus

/-- Settles O54: a row that writes is `ifWrites` or `ifField`, which leave the state where the write is refused. -/
theorem refusedWritesChangeNothing : Obligations.RefusedWritesChangeNothing := by
  unfold Obligations.RefusedWritesChangeNothing
  refine ⟨?_, ?_, ?_, fun c a v s h => State.not_accepts_quar h a v, fun c a v s h => State.not_accepts_vioOut h c a v,
    fun c a v s hreg hown => State.not_accepts_owned hreg hown v⟩
  · intro i c a v s hrow hrefused
    obtain ⟨f, hexec⟩ := exec_writeOf hrow s
    exact does_of_eq hexec (State.ifWrites_not hrefused f)
  · intro i c b f v s hrow hrefused
    obtain ⟨g, hexec⟩ := exec_fieldOf hrow s
    exact does_of_eq hexec (State.ifField_not hrefused g)
  · intro c p b s hdown
    refine does_of_eq rfl ?_
    dsimp only
    rw [State.ifField_down hdown, State.ifField_down hdown, ite_self]

/-! Rows that carry out a fetched command. -/

/-- A row of a fetched command acts on the state only where a command of its tag and opcode is there. -/
theorem exec_ringOf {i : Instr} {t : BitVec 8} {op : Nat} (h : ringOf i = some (t, op)) {s : State}
    (habsent : ∀ k, s.findCmd t.toNat = some k → k.op ≠ op) : Does i s s := by
  have hstart : ∀ f, s.start t op f = s := by
    intro f
    cases hk : s.findCmd t.toNat with
    | none => exact State.start_none hk op f
    | some k => exact State.start_other hk (habsent k hk) f
  cases i <;> simp only [ringOf, reduceCtorEq, Option.some.injEq, Prod.mk.injEq] at h
  case snapshot =>
    obtain ⟨rfl, rfl⟩ := h
    refine does_of_eq rfl ?_
    split
    · rfl
    next k hk => exact if_neg fun hcond => habsent k hk hcond.1
  case twiXfer =>
    obtain ⟨rfl, rfl⟩ := h
    refine does_of_eq rfl ?_
    split
    · rfl
    next k hk => exact if_pos (habsent k hk)
  all_goals
    obtain ⟨rfl, rfl⟩ := h
    exact does_of_eq rfl (hstart _)

/-- Settles O55. -/
theorem ringRowsNeedTheirCommand : Obligations.RingRowsNeedTheirCommand := by
  unfold Obligations.RingRowsNeedTheirCommand
  refine ⟨fun i t op s hrow hnone => exec_ringOf hrow (by simp [hnone]), fun i t op k s hrow hk hop => exec_ringOf hrow ?_⟩
  intro k' hk'
  obtain rfl := Option.some.inj (hk.symm.trans hk')
  exact hop

end Sys2Proof.Machine
end

section
/-! SUPPORT. What an operation leaves alone, and the openings of the rows. -/

namespace Sys2Proof.Machine

open Sys2Proof

/-- `u` has the queue, the tick, NVM, the OTP array, the commands, the waiting raises and the levels of the WAKE pins of `s`, and
outside `ks` its registers. -/
structure State.Keeps (ks : Nat → Prop) (s u : State) : Prop where
  getW : ∀ k, ¬ ks k → u.getW k = s.getW k
  pending : u.pending = s.pending
  nvm : u.nvm = s.nvm
  otp : u.otp = s.otp
  cmds : u.cmds = s.cmds
  raiseQ : u.raiseQ = s.raiseQ
  tick : u.tick = s.tick
  wakeLvl : u.wakeLvl = s.wakeLvl

namespace State.Keeps

variable {ks : Nat → Prop} {s t u : State}

/-- A change of other fields alone. -/
theorem fields (h : State.Keeps ks s t) (hregs : u.regs = t.regs := by rfl) (hpending : u.pending = t.pending := by rfl)
    (hnvm : u.nvm = t.nvm := by rfl) (hotp : u.otp = t.otp := by rfl) (hcmds : u.cmds = t.cmds := by rfl)
    (hraise : u.raiseQ = t.raiseQ := by rfl)
    (htick : u.tick = t.tick := by rfl) (hwake : u.wakeLvl = t.wakeLvl := by rfl) : State.Keeps ks s u :=
  ⟨fun k hk => by rw [State.getW, hregs]; exact h.getW k hk, hpending.trans h.pending, hnvm.trans h.nvm, hotp.trans h.otp,
    hcmds.trans h.cmds, hraise.trans h.raiseQ, htick.trans h.tick, hwake.trans h.wakeLvl⟩

theorem refl (ks : Nat → Prop) (s : State) : State.Keeps ks s s := ⟨fun _ _ => rfl, rfl, rfl, rfl, rfl, rfl, rfl, rfl⟩

theorem trans (h1 : State.Keeps ks s t) (h2 : State.Keeps ks t u) : State.Keeps ks s u :=
  ⟨fun k hk => (h2.getW k hk).trans (h1.getW k hk), h2.pending.trans h1.pending, h2.nvm.trans h1.nvm, h2.otp.trans h1.otp,
    h2.cmds.trans h1.cmds, h2.raiseQ.trans h1.raiseQ, h2.tick.trans h1.tick, h2.wakeLvl.trans h1.wakeLvl⟩

theorem mono {q : Nat → Prop} (h : State.Keeps ks s u) (hq : ∀ k, ks k → q k) : State.Keeps q s u :=
  { h with getW := fun k hk => h.getW k fun c => hk (hq k c) }

theorem of_regsOnly (h : RegsOnly ks s u) : State.Keeps ks s u := by
  obtain ⟨he, hgetW⟩ := h
  have hpending := congrArg State.pending he
  have hnvm := congrArg State.nvm he
  have hotp := congrArg State.otp he
  have hcmds := congrArg State.cmds he
  have hraise := congrArg State.raiseQ he
  have htick := congrArg State.tick he
  have hwake := congrArg State.wakeLvl he
  exact ⟨hgetW, hpending, hnvm, hotp, hcmds, hraise, htick, hwake⟩

theorem setW (h : State.Keeps ks s t) {k : Nat} (v : Word) (hk : ks k) : State.Keeps ks s (t.setW k v) :=
  h.trans (of_regsOnly (RegsOnly.setW t v hk))

theorem wr (h : State.Keeps ks s t) {b : Nat} {f : Fld} (v : Nat) (hk : ks (b + f.off)) : State.Keeps ks s (t.wr b f v) :=
  h.setW _ hk

theorem wrB (h : State.Keeps ks s t) {b : Nat} {f : Fld} (v : Bool) (hk : ks (b + f.off)) : State.Keeps ks s (t.wrB b f v) :=
  h.wr _ hk

theorem wrI (h : State.Keeps ks s t) {b : Nat} {f : Fld} (v : Int) (hk : ks (b + f.off)) : State.Keeps ks s (t.wrI b f v) :=
  h.wr _ hk

theorem bump (h : State.Keeps ks s t) {b : Nat} {f : Fld} (hk : ks (b + f.off)) : State.Keeps ks s (t.bump b f) :=
  h.trans ((of_regsOnly (bump_only t b f)).mono fun _ e => e ▸ hk)

theorem ite {c : Prop} [Decidable c] (h1 : State.Keeps ks s t) (h2 : State.Keeps ks s u) :
    State.Keeps ks s (if c then t else u) := by
  split
  · exact h1
  · exact h2

theorem each {l : List Nat} {f : Nat → State → State} (h : State.Keeps ks s t)
    (hf : ∀ i ∈ l, ∀ u, State.Keeps ks s u → State.Keeps ks s (f i u)) : State.Keeps ks s (t.each l f) := by
  induction l generalizing t with
  | nil => exact h
  | cons i l ih => exact ih (hf i (by simp) t h) fun j hj => hf j (by simp [hj])

/-! Changes of fields that no register shows. -/

theorem mark (h : State.Keeps ks s t) (k : Tmr) : State.Keeps ks s (t.mark k) := h.fields
theorem unmark (h : State.Keeps ks s t) (k : Tmr) : State.Keeps ks s (t.unmark k) := h.fields
theorem modCtx (h : State.Keeps ks s t) (c : Fin 8) (f : CtxHid → CtxHid) : State.Keeps ks s (t.modCtx c f) := h.fields
theorem modBus (h : State.Keeps ks s t) (f : BusHid → BusHid) : State.Keeps ks s (t.modBus f) := h.fields
theorem modPh (h : State.Keeps ks s t) (p : Nat) (f : PhaseHid → PhaseHid) : State.Keeps ks s (t.modPh p f) := h.fields
theorem modRail (h : State.Keeps ks s t) (n : Nat) (f : RailHid → RailHid) : State.Keeps ks s (t.modRail n f) := h.fields
theorem modSheaf (h : State.Keeps ks s t) (n : Nat) (f : SheafHid → SheafHid) : State.Keeps ks s (t.modSheaf n f) := h.fields
theorem modOut (h : State.Keeps ks s t) (x : Nat) (f : OutHid → OutHid) : State.Keeps ks s (t.modOut x f) := h.fields

theorem edge (h : State.Keeps ks s t) (ev : Nat) (hint : ∀ k, intKey k = true → ks k) : State.Keeps ks s (t.edge ev) :=
  h.trans ((of_regsOnly (edge_only t ev)).mono hint)

theorem rd (h : State.Keeps ks s u) (b : Nat) (f : Fld) (hk : ¬ ks (b + f.off)) : u.rd b f = s.rd b f := by
  rw [State.rd, h.getW _ hk, State.rd]

theorem bit (h : State.Keeps ks s u) (b : Nat) (f : Fld) (hk : ¬ ks (b + f.off)) : u.bit b f = s.bit b f := by
  rw [State.bit, h.rd b f hk, State.bit]

end State.Keeps

/-! The openings of the rows. -/

section

variable {i : Instr} {s u : State} {c : Fin 8} {P : State → Prop}

theorem does_ifWrites {a : Nat} {v : Word} {f : State → State} (hacc : s.Accepts c a v)
    (hexec : exec i s = .next (s.ifWrites c a v f).settle) (h : f s = u) : Does i s u :=
  does_of_eq hexec ((State.ifWrites_of hacc f).trans h)

theorem effect_ifWrites_eq {a : Nat} {v : Word} {f : State → State} (hacc : s.Accepts c a v)
    (hexec : exec i s = .next (s.ifWrites c a v f).settle) (h : f s = u) (hP : P u) : Effect i s P :=
  ⟨u, by rw [hexec, State.ifWrites_of hacc, h], hP⟩

theorem does_ifField {b v : Nat} {fld : Fld} {g : State → State} (hacc : s.AcceptsField c b fld v)
    (hexec : exec i s = .next (s.ifField c b fld v g).settle) (h : g s = u) : Does i s u :=
  does_of_eq hexec ((State.ifField_of hacc g).trans h)

theorem effect_ifField {b v : Nat} {fld : Fld} {g : State → State} (hacc : s.AcceptsField c b fld v)
    (hexec : exec i s = .next (s.ifField c b fld v g).settle) (h : g s = u) (hP : P u) : Effect i s P :=
  ⟨u, by rw [hexec, State.ifField_of hacc, h], hP⟩

theorem does_start {t : BitVec 8} {op : Nat} {k : Cmd} {f : Cmd → State → State} (hready : s.Ready t op k)
    (hexec : exec i s = .next (s.start t op f).settle) (h : f k s = u) : Does i s u :=
  does_of_eq hexec ((State.start_of hready f).trans h)

theorem effect_of_eq {t : State} (hexec : exec i s = .next t.settle) (h : t = u) (hP : P u) : Effect i s P :=
  ⟨u, h ▸ hexec, hP⟩

end

/-! What a signalled error leaves. -/

section

variable {ks : Nat → Prop} {s u : State}

theorem Told.fields (h : Told ks s u) : u.pending = s.pending ∧ u.nvm = s.nvm ∧ u.otp = s.otp ∧ u.cmds = s.cmds ∧ u.tick = s.tick := by
  have he := h.1
  rw [he]
  exact ⟨rfl, rfl, rfl, rfl, rfl⟩

theorem Told.bit (h : Told ks s u) (b : Nat) (f : Fld) (hint : intKey (b + f.off) = false) (hk : ¬ ks (b + f.off)) :
    u.bit b f = s.bit b f := by
  rw [State.bit, h.rd b f hint hk, State.bit]

end

/-- The registers after an ERR bit, its IRQ_PEND bit and the interrupt controller's own pages apart. -/
theorem State.getW_err_eq {b k : Nat} (s : State) (i ev : Nat) (cls d : Option Nat) (hint : intKey k = false)
    (hk : k ≠ b + 0x18) : (s.err b i ev cls d).getW k = (s.wr b (HDR.ERR.at i) 1).getW k := by
  rw [State.getW_err]
  exact (irq_told _ b i ev).2 k hint hk

/-! One field of one bit. -/

theorem State.bit_wr_one (s : State) (b : Nat) (f : Fld) (hw : 0 < f.w) (hlo : f.lo + f.w ≤ 32) : (s.wr b f 1).bit b f = true := by
  have h1 : 1 < 2 ^ f.w := Nat.one_lt_two_pow (by omega)
  rw [State.bit, State.rd_wr_eq s b f 1 hlo, Nat.mod_eq_of_lt h1, beq_self_eq_true]

theorem State.bit_wr_zero (s : State) (b : Nat) (f : Fld) (hlo : f.lo + f.w ≤ 32) : (s.wr b f 0).bit b f = false := by
  rw [State.bit, State.rd_wr_eq s b f 0 hlo, Nat.zero_mod]
  rfl

theorem State.bit_wrB (s : State) (b : Nat) (f : Fld) (v : Bool) (hw : 0 < f.w) (hlo : f.lo + f.w ≤ 32) :
    (s.wrB b f v).bit b f = v := by
  cases v
  · exact s.bit_wr_zero b f hlo
  · exact s.bit_wr_one b f hw hlo

theorem State.bit_wr_apart (s : State) (b : Nat) (f : Fld) (v b' : Nat) (f' : Fld) (h : Apart b f b' f') :
    (s.wr b f v).bit b' f' = s.bit b' f' := by
  rw [State.bit, s.rd_wr_apart b f v b' f' h, State.bit]

theorem State.getW_wr_ne (s : State) {b : Nat} {f : Fld} (v : Nat) {k : Nat} (h : k ≠ b + f.off) : (s.wr b f v).getW k = s.getW k :=
  State.getW_setW_ne s _ h

end Sys2Proof.Machine
end

section
/-! SUPPORT. POR, the entry to FALLOW and the retention monitor's BPOR (R44, R60, R466); the ends of HOLDUP, of SERVICE, of the
minimum off time and of a WARM (R45, R46, R56, R61, R233). -/

namespace Sys2Proof.Machine

open Sys2Proof

/-! The registers after a reset of the main domain. -/

theorem State.getW_mainReset (s : State) (k : Nat) :
    s.mainReset.getW k = if bporKey k then s.getW k else resetWord k := by
  rw [State.getW, State.mainReset, findKey_filter s.regs bporKey k]
  cases bporKey k <;> rfl

theorem State.getW_mainReset_main {k : Nat} (s : State) (h : bporKey k = false) : s.mainReset.getW k = resetWord k := by
  rw [s.getW_mainReset, h, if_neg Bool.false_ne_true]

theorem State.getW_mainReset_backup {k : Nat} (s : State) (h : bporKey k = true) : s.mainReset.getW k = s.getW k := by
  rw [s.getW_mainReset, if_pos h]

/-! The converter at rest (R163). -/

theorem State.takeOuter_keeps (s : State) (st : Nat) : State.Keeps (· = buscB + 8) s (s.takeOuter st) := by
  unfold State.takeOuter
  extract_lets was o s1
  have h1 : State.Keeps (· = buscB + 8) s s1 := ((State.Keeps.refl _ s).wr _ (by rfl)).modBus _
  exact h1.ite ((h1.modBus _).ite (h1.modBus _))

/-- The converter's entry to OFF: its own status, and then the charger's limit and the current's set point are cleared. -/
theorem State.setBus_off (s : State) : ∃ t : State, State.Keeps (· = buscB + 8) s t ∧
    s.setBus bOFF = (t.wr chgB CHG.STATUS_LOADLIM 0).modBus fun b => { b with iSet := 0, duty := 0 } := by
  refine ⟨_, ?_, rfl⟩
  refine ((State.Keeps.modBus ?_ _).wr _ (by rfl)).wr _ (by rfl)
  refine State.Keeps.each ?_ fun _ _ _ hu => hu.modPh _ _
  exact ((((State.Keeps.refl _ s).wr _ (by rfl)).wr _ (by rfl)).trans (State.takeOuter_keeps _ _)).mark _

/-- The registers that the start-up path's stop may change. -/
def pathStopKeys : List Nat := [buscB + 8, buscB + 0x40, chgB + 8]

theorem State.pathStop_keeps (s : State) : State.Keeps (· ∈ pathStopKeys) s s.pathStop := by
  obtain ⟨t, ht, heq⟩ := s.setBus_off
  rw [State.pathStop, heq]
  have hbus : State.Keeps (· ∈ pathStopKeys) s t := ht.mono (by rintro k rfl; decide)
  exact ((hbus.wr _ (by decide)).modBus _).wr _ (by decide)

theorem State.getW_pathStop_chg (s : State) : s.pathStop.getW (chgB + 8) = (s.wr chgB CHG.STATUS_LOADLIM 0).getW (chgB + 8) := by
  obtain ⟨t, ht, heq⟩ := s.setBus_off
  rw [State.pathStop, State.getW_wr_ne _ _ (by decide), heq]
  change (t.wr chgB CHG.STATUS_LOADLIM 0).getW (chgB + 8) = _
  rw [State.getW_wr, State.getW_wr, ht.getW _ (by decide)]

/-! POR with no feed. -/

/-- Registers outside the backup domain that a POR without a feed leaves off their reset words: those that record the reset, and
the converter's state. -/
def porMainKeys : List Nat := [devB + 0xA0, supvB + 0x2AC, buscB + 8, buscB + 0x40]

def porKeys : List Nat := porMainKeys ++ [rtcB + 8]

theorem mem_porMainKeys_of_main {k : Nat} (hk : bporKey k = false) (h : k ∈ porKeys) : k ∈ porMainKeys := by
  obtain hmain | hrtc := List.mem_append.1 h
  · exact hmain
  · obtain rfl := List.mem_singleton.1 hrtc
    exact absurd hk (by decide)

theorem eq_of_mem_porKeys_backup {k : Nat} (hk : bporKey k = true) (h : k ∈ porKeys) : k = rtcB + 8 := by
  have hmain : ∀ n ∈ porMainKeys, bporKey n = false := by decide
  obtain hin | hrtc := List.mem_append.1 h
  · exact absurd hk (by simp [hmain k hin])
  · exact List.mem_singleton.1 hrtc

/-- A POR's state before the start-up path acts: reset, with what records the reset, and no feed. -/
def State.porCleared (s : State) (core : Bool) : State :=
  let s1 := (((s.mainReset.wr devB DEV.RESET_CAUSE_POR 1).wrB devB DEV.RESET_CAUSE_BPOR_SEEN
    (s.mode == mFALLOW && s.clk.due.testBit 6)).wrB devB DEV.RESET_CAUSE_LOCKOUT_CYCLE
    (s.mode == mLOCKOUT || (s.mode == mFALLOW && s.wasLock))).wrB supvB (SUPV.INSUP_SEEN.at 8) core
  let s2 := ({ s1 with wasLock := false, tap := .reset, tapIns := .bypass, tapBit := false, tdo := [] }.wr rtcB
    RTC.STATUS_ON_BAK 0).wr buscB BUSC.STATUS_CS_SRC (s.rd buscB BUSC.STATUS_CS_SRC)
  s2.modBus fun _ => { (if s.rd buscB BUSC.STATUS_STATE = bCSTART then s.bus.path else BusHid.reset) with feedHi := 0 }

theorem State.por_noFeed (s : State) (core : Bool) :
    s.por 0 core = (s.porCleared core).pathStop.wakeBy (0 ||| (s.porCleared core).pathStop.wakeLevels) := rfl

theorem State.porCleared_keeps (s : State) (core : Bool) : State.Keeps (· ∈ porKeys) s.mainReset (s.porCleared core) := by
  unfold State.porCleared
  extract_lets s1 s2
  have h1 : State.Keeps (· ∈ porKeys) s.mainReset s1 :=
    ((((State.Keeps.refl _ _).wr _ (by decide)).wrB _ (by decide)).wrB _ (by decide)).wrB _ (by decide)
  have h2 : State.Keeps (· ∈ porKeys) s.mainReset s2 := (State.Keeps.wr (h1.fields) _ (by decide)).wr _ (by decide)
  exact h2.modBus _

theorem State.resetCausePor_porCleared (s : State) (core : Bool) : (s.porCleared core).bit devB DEV.RESET_CAUSE_POR = true := by
  unfold State.porCleared
  extract_lets s1 s2
  have h2 : State.Keeps (· ∈ [rtcB + 8, buscB + 8]) s1 s2 :=
    (State.Keeps.wr (State.Keeps.refl _ s1).fields _ (by decide)).wr _ (by decide)
  refine ((h2.modBus _).bit devB DEV.RESET_CAUSE_POR (by decide)).trans ?_
  refine (State.bit_wr_apart _ _ _ _ _ _ (.inl (by decide))).trans ?_
  refine (State.bit_wr_apart _ _ _ _ _ _ (.inr (by decide))).trans ?_
  refine (State.bit_wr_apart _ _ _ _ _ _ (.inr (by decide))).trans ?_
  exact s.mainReset.bit_wr_one devB DEV.RESET_CAUSE_POR (by decide) (by decide)

/-- The state in which a POR without a feed leaves the device, a WAKE pin apart. -/
def State.porStopped (s : State) (core : Bool) : State := (s.porCleared core).pathStop

theorem State.porStopped_chg (s : State) (core : Bool) : (s.porStopped core).getW (chgB + 8) = resetWord (chgB + 8) := by
  rw [State.porStopped, State.getW_pathStop_chg, State.getW_wr, if_pos (by rfl), (s.porCleared_keeps core).getW _ (by decide),
    s.getW_mainReset_main (by decide)]
  decide +kernel

theorem State.porStopped_keeps (s : State) (core : Bool) :
    State.Keeps (· ∈ porKeys) s.mainReset (s.porStopped core) := by
  have h : State.Keeps (· ∈ (chgB + 8) :: porKeys) s.mainReset (s.porStopped core) :=
    ((s.porCleared_keeps core).mono fun k hk => by simp [hk]).trans
      ((s.porCleared core).pathStop_keeps.mono fun k hk => List.Subset.trans (by decide) (List.Subset.refl _) hk)
  refine { h with getW := fun k hk => ?_ }
  by_cases hchg : k = chgB + 8
  · rw [hchg, s.porStopped_chg core, s.getW_mainReset_main (by decide)]
  · exact h.getW k (by simp [hchg, hk])

/-- R45: WAKE0 is the only source at reset, by its level. -/
theorem State.wakeLevels_reset {s : State} (hcfg : s.getW (devB + 0x88) = resetWord (devB + 0x88))
    (h : s.wakeLvl.testBit 0 = false) : s.wakeLevels = 0 := by
  have hen : s.rd devB DEV.WAKE_CFG_EN = 1 := by
    rw [State.rd, show devB + DEV.WAKE_CFG_EN.off = devB + 0x88 from rfl, hcfg]
    decide +kernel
  have hpol : s.rd devB DEV.WAKE_CFG_POL = 15 := by
    rw [State.rd, show devB + DEV.WAKE_CFG_POL.off = devB + 0x88 from rfl, hcfg]
    decide +kernel
  have hlow : s.wakeActive.testBit 0 = false := by
    simpa [State.wakeActive, hpol] using h
  have hmask : s.wakeActive &&& 1 = 0 := by simpa [Nat.testBit_zero, Nat.and_one_is_mod] using hlow
  rw [State.wakeLevels, hen, hmask, Nat.zero_and]

theorem State.mode_of_reset {s : State} (h : s.getW (devB + 0x80) = resetWord (devB + 0x80)) : s.mode = mPARKED := by
  rw [State.mode, State.rd, show devB + DEV.MODE_CODE.off = devB + 0x80 from rfl, h]
  decide +kernel

/-- Without a feed and with WAKE0 at rest nothing wakes the device. -/
theorem State.por_stays {s : State} (core : Bool) (h : s.wakeLvl.testBit 0 = false) : s.por 0 core = s.porStopped core := by
  have hkeeps := s.porStopped_keeps core
  have hlevels : (s.porStopped core).wakeLevels = 0 := by
    refine State.wakeLevels_reset ?_ (by rw [hkeeps.wakeLvl]; exact h)
    rw [hkeeps.getW _ (by decide), s.getW_mainReset_main (by decide)]
  rw [State.por_noFeed]
  change (s.porStopped core).wakeBy (0 ||| (s.porStopped core).wakeLevels) = _
  rw [hlevels]
  exact if_neg fun hwake => hwake.2 rfl

/-- Settles O1. -/
theorem porEntersParked : Obligations.PorEntersParked := by
  unfold Obligations.PorEntersParked
  intro s hwake
  refine ⟨s.porStopped (s.mode != mFALLOW), ?_, ?_⟩
  · rw [← State.por_stays _ hwake]
    rfl
  · generalize hcore : (s.mode != mFALLOW) = core
    have h := s.porStopped_keeps core
    refine ⟨?_, ?_, h.raiseQ, h.cmds, h.nvm, h.otp, h.pending, ?_, ?_⟩
    · exact State.mode_of_reset (by rw [h.getW _ (by decide), s.getW_mainReset_main (by decide)])
    · rw [← s.resetCausePor_porCleared core]
      exact (s.porCleared core).pathStop_keeps.bit _ _ (by decide)
    · intro k hk hne
      rw [h.getW k fun hin => hne (eq_of_mem_porKeys_backup hk hin), s.getW_mainReset_backup hk]
    · intro k hk hne
      rw [h.getW k fun hin => hne (mem_porMainKeys_of_main hk hin), s.getW_mainReset_main hk]

/-! Loss of main power, and BPOR. -/

theorem Told.modClk {ks : Nat → Prop} {s t : State} (h : Told ks s t) (f : ClkHid → ClkHid) :
    (t.modClk f).nvm = s.nvm ∧ (t.modClk f).cmds = s.cmds := by
  obtain ⟨-, hnvm, -, hcmds, -⟩ := h.fields
  exact ⟨hnvm, hcmds⟩

/-- An error of the calendar while the INT page is off leaves its event due; it is the ERR and IRQ_PEND bits all the same. -/
theorem State.rtcErr_sets (s : State) (i : Nat) (cls d : Option Nat) : (s.rtcErr i cls d).nvm = s.nvm ∧
    (s.rtcErr i cls d).cmds = s.cmds ∧ (s.rtcErr i cls d).otp = s.otp ∧ (s.rtcErr i cls d).pending = s.pending ∧
    ∀ k, intKey k = false → k ≠ rtcB + 0x18 → (s.rtcErr i cls d).getW k = (s.wr rtcB (HDR.ERR.at i) 1).getW k := by
  unfold State.rtcErr
  split
  · obtain ⟨hpending, hnvm, hotp, hcmds, -⟩ := (err_told s rtcB i 125 cls d).fields
    exact ⟨hnvm, hcmds, hotp, hpending, fun k hint hk => s.getW_err_eq i 125 cls d hint hk⟩
  · refine ⟨rfl, rfl, rfl, rfl, fun k _ hk => ?_⟩
    change ((s.wr rtcB (HDR.ERR.at i) 1).wr rtcB (HDR.IRQ_PEND.at i) 1).getW k = _
    exact State.getW_wr_ne _ 1 hk

theorem bporKey_int {k : Nat} (h : bporKey k = true) : intKey k = false := by
  rw [bporKey, Bool.or_eq_true, Bool.or_eq_true, Bool.or_eq_true, beq_iff_eq, beq_iff_eq, decide_eq_true_iff, decide_eq_true_iff] at h
  simp only [rtcB, pg] at h
  rw [intKey, beq_eq_false_iff_ne]
  omega

/-- `u` has the queue, NVM and the OTP array of `s`. -/
structure State.SameStore (s u : State) : Prop where
  pending : u.pending = s.pending
  nvm : u.nvm = s.nvm
  otp : u.otp = s.otp

namespace State.SameStore

variable {s t : State}

theorem refl (s : State) : s.SameStore s := ⟨rfl, rfl, rfl⟩

theorem wr (h : s.SameStore t) (b : Nat) (f : Fld) (v : Nat) : s.SameStore (t.wr b f v) := ⟨h.pending, h.nvm, h.otp⟩

theorem bump (h : s.SameStore t) (b : Nat) (f : Fld) : s.SameStore (t.bump b f) := by
  obtain ⟨hpending, hnvm, hotp, -, -⟩ := (bump_only t b f).told.fields
  exact ⟨hpending.trans h.pending, hnvm.trans h.nvm, hotp.trans h.otp⟩

theorem rtcErr (h : s.SameStore t) (i : Nat) (cls d : Option Nat) : s.SameStore (t.rtcErr i cls d) := by
  obtain ⟨hnvm, -, hotp, hpending, -⟩ := t.rtcErr_sets i cls d
  exact ⟨hpending.trans h.pending, hnvm.trans h.nvm, hotp.trans h.otp⟩

/-- The switch-over to VBAK writes registers of the calendar alone (R467). -/
theorem toVbak (h : s.SameStore t) : s.SameStore t.toVbak := by
  unfold State.toVbak
  extract_lets t0 t1 c t2
  have h1 : s.SameStore t1 := by
    unfold t1
    split
    · exact (((h.wr _ _ _).bump _ _).wr _ _ _).rtcErr _ _ _
    · exact (h.wr _ _ _).bump _ _
  split
  · exact h1
  · exact (((((((h1.wr _ _ _).wr _ _ _).wr _ _ _).wr _ _ _).wr _ _ _).wr _ _ _).wr _ _ _).rtcErr _ _ _

end State.SameStore

theorem State.mode_wr (s : State) {m : Nat} (h : m < 16) : (s.wr devB DEV.MODE_CODE m).mode = m := by
  rw [State.mode, State.rd_wr_eq _ _ _ _ (by decide)]
  exact Nat.mod_eq_of_lt h

/-- The calendar's error flags at reset: none but BPOR and OSF. -/
theorem rtcErr_resetWord : ∀ i : Fin 32, i ≠ 0 → i ≠ 6 → (getBits (resetWord (rtcB + 0xC)) i 1 == 1) = false := by
  decide +kernel

/-- The backup domain after a BPOR: reset words, but for the error flags BPOR and OSF. -/
theorem State.bpor_sets (s : State) : s.bpor.nvm = s.nvm ∧ s.bpor.cmds = s.cmds ∧
    ∀ k, bporKey k = true → s.bpor.getW k =
      (((s.resetKeys bporKey).wr rtcB (HDR.ERR.at 0) 1).wr rtcB (HDR.ERR.at 6) 1).getW k := by
  unfold State.bpor
  extract_lets s1 s2
  obtain ⟨hnvm0, hcmds0, -, -, hgetW0⟩ := s1.rtcErr_sets 0 (some 1) (some 1)
  obtain ⟨hnvm6, hcmds6, -, -, hgetW6⟩ := (s1.rtcErr 0 (some 1) (some 1)).rtcErr_sets 6 none none
  have h2 : s2.nvm = s.nvm ∧ s2.cmds = s.cmds ∧ ∀ k, bporKey k = true → s2.getW k =
      (((s.resetKeys bporKey).wr rtcB (HDR.ERR.at 0) 1).wr rtcB (HDR.ERR.at 6) 1).getW k := by
    refine ⟨hnvm6.trans hnvm0, hcmds6.trans hcmds0, fun k hk => ?_⟩
    have hne : k ≠ rtcB + 0x18 := by
      rintro rfl
      exact absurd hk (by decide)
    rw [hgetW6 k (bporKey_int hk) hne, State.getW_wr, State.getW_wr, hgetW0 k (bporKey_int hk) hne]
    rfl
  split
  · exact h2
  · refine ⟨h2.1, h2.2.1, fun k hk => (State.getW_wr_ne _ _ ?_).trans (h2.2.2 k hk)⟩
    rintro rfl
    exact absurd hk (by decide)

theorem State.bpor_notFallow {s : State} (h : s.mode ≠ mFALLOW) : ∃ t : State, s.bpor = t.wr devB DEV.RESET_CAUSE_BPOR_SEEN 1 :=
  ⟨_, if_neg h⟩

/-- Settles O3. -/
theorem modeEndsAndPowerLoss : Obligations.ModeEndsAndPowerLoss := by
  unfold Obligations.ModeEndsAndPowerLoss
  refine ⟨?_, ?_, ?_, ?_, ?_, ?_, ?_, ?_, ?_, ?_, ?_, ?_, ?_, ?_⟩
  · intro vbak s hmode
    have hstore : s.SameStore (if vbak then s.toVbak else s) := by
      split
      · exact (State.SameStore.refl s).toVbak
      · exact State.SameStore.refl s
    refine effect_of_eq rfl (if_neg hmode) ⟨State.mode_wr _ (by decide), hstore.nvm, hstore.otp, hstore.pending, ?_⟩
    intro k hk hne
    simp only [List.mem_cons, List.not_mem_nil, or_false, not_or] at hne
    exact (State.getW_wr_ne _ _ hne.1).trans ((State.getW_wr_ne _ _ hne.2).trans (State.getW_mainReset_main _ hk))
  · exact fun vbak s hmode => does_of_eq rfl (if_pos hmode)
  · intro s
    obtain ⟨hnvm, hcmds, hgetW⟩ := s.bpor_sets
    refine ⟨s.bpor, rfl, ?_, ?_, ?_, ?_, ?_, hnvm, hcmds⟩
    · intro k hk hne
      rw [hgetW k hk, State.getW_wr_ne _ _ hne, State.getW_wr_ne _ _ hne, State.getW_resetKeys, if_pos hk]
    · rw [State.bit, State.rd, hgetW _ (by decide)]
      exact State.bit_wr_one _ rtcB (HDR.ERR.at 6) (by decide) (by decide)
    · rw [State.bit, State.rd, hgetW _ (by decide)]
      exact (State.bit_wr_apart _ _ _ _ _ _ (.inr (by decide))).trans
        (State.bit_wr_one _ rtcB (HDR.ERR.at 0) (by decide) (by decide))
    · intro i hi h0 h6
      have hkey : bporKey (rtcB + (HDR.ERR.at i).off) = true := show bporKey (rtcB + 0xC) = true by decide
      have hword : (s.resetKeys bporKey).getW (rtcB + (HDR.ERR.at i).off) = resetWord (rtcB + 0xC) := by
        rw [State.getW_resetKeys, if_pos hkey]
        rfl
      rw [State.bit, State.rd, hgetW _ hkey]
      refine (State.bit_wr_apart _ _ _ _ _ _ (.inr (by simp [Fld.at]; omega))).trans ?_
      refine (State.bit_wr_apart _ _ _ _ _ _ (.inr (by simp [Fld.at]; omega))).trans ?_
      rw [State.bit, State.rd, hword]
      exact rtcErr_resetWord ⟨i, hi⟩ (fun h => h0 (congrArg Fin.val h)) (fun h => h6 (congrArg Fin.val h))
    · intro hmode
      obtain ⟨t, ht⟩ := State.bpor_notFallow hmode
      rw [ht]
      exact State.bit_wr_one _ devB DEV.RESET_CAUSE_BPOR_SEEN (by decide) (by decide)
  · exact fun s hmode hleft => does_of_eq rfl (if_pos ⟨hmode, hleft⟩)
  · exact fun mv us s hmode hmv hus => does_of_eq rfl (if_pos ⟨hmode, hmv, hus⟩)
  · exact fun mv us s h => does_of_eq rfl (if_neg (by omega))
  · exact fun s hmode hlapsed => does_of_eq rfl (if_pos ⟨hmode, hlapsed⟩)
  · exact fun s hmode hlapsed => does_of_eq rfl (if_neg (by simp [hlapsed]))
  · exact fun s hst hran => does_of_eq rfl (if_pos ⟨hst, hran⟩)
  · exact fun c s hmode => if_pos hmode
  · exact fun c s hmode => if_pos hmode
  · exact fun c s hst hheld => if_pos ⟨hst, hheld⟩
  · exact fun s hfrozen htest => does_of_eq rfl (if_pos ⟨hfrozen, htest⟩)
  · exact fun s hfrozen => does_of_eq rfl (if_neg (by simp [hfrozen]))

end Sys2Proof.Machine
end

section
/-! SUPPORT. The word of DEV.MODE, which only the changes of mode write (R42, R44); wake sources (R50), the steps of WAKING and
the requests by MODE_REQ (R64). -/

namespace Sys2Proof.Machine

open Sys2Proof

/-! What leaves DEV.MODE and the WAKE pins alone. -/

/-- `u` shows the mode, the wake cause and the levels of the WAKE pins that `s` shows. -/
structure State.HoldsMode (s u : State) : Prop where
  word : u.getW (devB + 0x80) = s.getW (devB + 0x80)
  wakeLvl : u.wakeLvl = s.wakeLvl

namespace State.HoldsMode

variable {s t u : State}

theorem refl (s : State) : s.HoldsMode s := ⟨rfl, rfl⟩

theorem trans (h1 : s.HoldsMode t) (h2 : t.HoldsMode u) : s.HoldsMode u :=
  ⟨h2.word.trans h1.word, h2.wakeLvl.trans h1.wakeLvl⟩

theorem fields (h : s.HoldsMode t) (hregs : u.regs = t.regs := by rfl) (hwake : u.wakeLvl = t.wakeLvl := by rfl) :
    s.HoldsMode u := ⟨by rw [State.getW, hregs]; exact h.word, hwake.trans h.wakeLvl⟩

theorem wr (h : s.HoldsMode t) {b : Nat} {f : Fld} (v : Nat) (hk : devB + 0x80 ≠ b + f.off) : s.HoldsMode (t.wr b f v) :=
  ⟨(State.getW_wr_ne t v hk).trans h.word, h.wakeLvl⟩

theorem ite {c : Prop} [Decidable c] (h1 : s.HoldsMode t) (h2 : s.HoldsMode u) : s.HoldsMode (if c then t else u) := by
  split
  · exact h1
  · exact h2

theorem each {l : List Nat} {f : Nat → State → State} (h : s.HoldsMode t)
    (hf : ∀ i ∈ l, ∀ u, s.HoldsMode u → s.HoldsMode (f i u)) : s.HoldsMode (t.each l f) := by
  induction l generalizing t with
  | nil => exact h
  | cons i l ih => exact ih (hf i (by simp) t h) fun j hj => hf j (by simp [hj])

theorem mark (h : s.HoldsMode t) (k : Tmr) : s.HoldsMode (t.mark k) := h.fields
theorem modBus (h : s.HoldsMode t) (f : BusHid → BusHid) : s.HoldsMode (t.modBus f) := h.fields
theorem modPh (h : s.HoldsMode t) (p : Nat) (f : PhaseHid → PhaseHid) : s.HoldsMode (t.modPh p f) := h.fields
theorem modOwl (h : s.HoldsMode t) (i : Nat) (f : OwlHid → OwlHid) : s.HoldsMode (t.modOwl i f) := h.fields
theorem post (h : s.HoldsMode t) (e : Nat) (c d : Option Nat) : s.HoldsMode (t.post e c d) := h.fields

theorem told {ks : Nat → Prop} (h : s.HoldsMode t) (ht : Told ks t u) (hk : ¬ ks (devB + 0x80)) : s.HoldsMode u := by
  have hwake := congrArg State.wakeLvl ht.1
  exact ⟨(ht.2 _ (by decide) hk).trans h.word, hwake.trans h.wakeLvl⟩

theorem mode (h : s.HoldsMode t) : t.mode = s.mode := by
  rw [State.mode, State.rd, show devB + DEV.MODE_CODE.off = devB + 0x80 from rfl, h.word]
  rfl

theorem rd (h : s.HoldsMode t) (f : Fld) (hf : f.off = 0x80) : t.rd devB f = s.rd devB f := by
  rw [State.rd, hf, h.word, State.rd, hf]

theorem err (h : s.HoldsMode t) {b : Nat} (i ev : Nat) (cls d : Option Nat) (hb : devB + 0x80 ≠ b + 0xC ∧ devB + 0x80 ≠ b + 0x18) :
    s.HoldsMode (t.err b i ev cls d) :=
  h.told (err_told t b i ev cls d) (by simp [hb])

end State.HoldsMode

/-- A write of another register leaves the mode. -/
theorem Told.mode {ks : Nat → Prop} {s u : State} (h : Told ks s u) (hk : ¬ ks (devB + 0x80)) : u.mode = s.mode :=
  ((State.HoldsMode.refl s).told h hk).mode

/-- What an entry into another mode tells, its event 135 and its raise, leaves the mode (R43). -/
theorem State.setMode_tells (s : State) (new cause : Nat) :
    ((s.leaveMode.wr devB DEV.MODE_CODE new).wr devB DEV.MODE_PREV s.mode).HoldsMode (s.setMode new cause) := by
  unfold State.setMode
  extract_lets old s0 flail s1
  have h1 : s0.HoldsMode s1 := (State.HoldsMode.refl s0).fields.ite (State.HoldsMode.refl s0)
  refine State.HoldsMode.ite h1 ?_
  exact (h1.told (irq_told s1 devB 16 135) (by decide)).fields

theorem State.setMode_mode (s : State) {new : Nat} (cause : Nat) (h : new < 16) : (s.setMode new cause).mode = new := by
  rw [(s.setMode_tells new cause).mode, State.mode, State.rd_wr_off _ _ _ _ _ _ (by rfl) (by decide) (by decide)]
  exact s.leaveMode.mode_wr h

/-! Waking (R50). -/

theorem inI0_mode : inI0 (devB + 0x80) = true := by decide

/-- The registers that keep their words in PARKED keep them on the way out of it. -/
theorem State.islandsUp_holdsMode (s : State) : s.HoldsMode s.islandsUp := by
  unfold State.islandsUp
  extract_lets st en cs s1 s2
  have h1 : s.HoldsMode s1 := ⟨by rw [State.getW_resetKeys]; rfl, rfl⟩
  exact ((((State.HoldsMode.fields h1).wr _ (by decide)).wr _ (by decide)).wr _ (by decide)).wr _ (by decide)

theorem State.setBus_holdsMode (s : State) (st : Nat) : s.HoldsMode (s.setBus st) := by
  have houter : ∀ t : State, t.HoldsMode (t.takeOuter st) := fun t =>
    have h := t.takeOuter_keeps st
    ⟨h.getW _ (by decide), h.wakeLvl⟩
  unfold State.setBus
  extract_lets ps s1 s2 s3
  have h1 : s.HoldsMode s1 :=
    ((((State.HoldsMode.refl s).wr _ (by decide)).wr _ (by decide)).trans (houter _)).mark _
  have h2 : s.HoldsMode s2 := h1.each fun _ _ _ hu => hu.modPh _ _
  have h3 : s.HoldsMode s3 := h2.modBus _
  exact ((((h3.wr _ (by decide)).wr _ (by decide)).wr _ (by decide)).modBus _).ite h3

theorem State.busWake_holdsMode (s : State) : s.HoldsMode s.busWake := by
  have hph : ∀ n, devB + 0x80 ≠ ph (48 + n) + PHX.PSTAT_STATE.off := by
    intro n
    simp only [devB, ph, phPage, pg, PHX.PSTAT_STATE]
    omega
  unfold State.busWake
  extract_lets s1
  have h1 : s.HoldsMode s1 := (State.HoldsMode.refl s).each fun n _ _ hu => hu.wr _ (hph n)
  exact (h1.trans (s1.setBus_holdsMode _)).ite h1

theorem State.setEngs_holdsMode (s : State) (v : Nat) : s.HoldsMode (s.setEngs v) := by
  refine (State.HoldsMode.refl s).each fun n _ t ht => ?_
  have hfe : ∀ {o : Nat}, devB + 0x80 ≠ fe n + o := by
    intro o
    simp only [devB, fe, engB, pg]
    omega
  have heng : devB + 0x80 ≠ engB + 8 := by decide
  exact ((((ht.wr _ hfe).wr _ heng).wr _ heng).wr _ hfe).wr _ heng

theorem State.owlWatch_holdsMode (s : State) : s.HoldsMode s.owlWatch := by
  refine (State.HoldsMode.refl s).each fun i _ t ht => ?_
  have hstart : ∀ {u : State}, s.HoldsMode u → s.HoldsMode (u.owlStart i) := fun hu =>
    (hu.modOwl _ _).wr _ (show devB + 0x80 ≠ wdgB + WDG.SERVED_SRV.off by decide)
  unfold State.owlSlot
  split
  · exact (ht.modOwl _ _).ite ht
  · extract_lets s1
    have h1 : s.HoldsMode s1 := ht.ite (ht.modOwl _ _)
    exact (h1.modOwl _ _).ite (h1.ite (hstart h1))

theorem State.rtcTell_holdsMode (s : State) : s.HoldsMode s.rtcTell := by
  unfold State.rtcTell
  extract_lets d told clk s1 s2 s3
  have h1 : s.HoldsMode s1 := ⟨rfl, rfl⟩
  have h2 : s.HoldsMode s2 := (h1.post _ _ _).ite h1
  have h3 : s.HoldsMode s3 := (h2.post _ _ _).ite h2
  exact (h3.post _ _ _).ite h3

theorem State.refWake_holdsMode (s : State) : s.HoldsMode s.refWake := by
  unfold State.refWake
  split
  · exact (State.HoldsMode.refl s).wr _ (by decide)
  · have hout : s.HoldsMode ((({ s with xiGood := false }.wr clkB CLK.STATUS_REF_OK 0).wr clkB CLK.STATUS_REF_RC 1).wr timeB
        TIME.STATUS_REF_RC 1) :=
      ((State.HoldsMode.wr (State.HoldsMode.refl s).fields _ (by decide)).wr _ (by decide)).wr _ (by decide)
    exact hout.err _ _ _ _ (by decide)

/-- What of the way out of PARKED comes before the mode changes. -/
def State.wakeBefore (s : State) : State :=
  let s0 := ((s.wr fltB FLT.STATUS_DEV_FORCE 0).wakeReset true).busWake
  let s2 := { s0 with lsHalt := 0, act := none }.mark .waking
  ((s2.setEngs eBOOT).wr clkB CLK.ISL_ON 0xFFFF).wr devB DEV.STATUS_WARM_BUSY 0

/-- And what comes after it. -/
def State.wakeAfter (s : State) : State :=
  let s5 := (((s.bootArm true).owlWatch).rtcTell).refWake
  if s5.kaHeld then { s5 with kaHeld := false }.err ldoB 4 28 none none else s5

theorem State.enterWaking_parked {s : State} (h : s.mode = mPARKED) (cause : Nat) :
    s.enterWaking cause = ((s.wakeBefore).setMode mWAKING cause).wakeAfter := by
  have hne : ¬ (mPARKED = mWAKING) := by decide
  simp only [State.enterWaking, h, State.iff, decide_true, if_true, hne, if_false]
  rfl

theorem State.wakeBefore_holdsMode (s : State) : s.HoldsMode s.wakeBefore := by
  unfold State.wakeBefore
  extract_lets s0 s2
  have hreset : ∀ t : State, t.HoldsMode (t.wakeReset true) := fun t => t.islandsUp_holdsMode.fields
  have h0 : s.HoldsMode s0 :=
    (((State.HoldsMode.refl s).wr _ (by decide)).trans (hreset _)).trans (State.busWake_holdsMode _)
  have h2 : s.HoldsMode s2 := State.HoldsMode.fields h0
  exact ((h2.trans (s2.setEngs_holdsMode _)).wr _ (by decide)).wr _ (by decide)

theorem State.wakeAfter_holdsMode (s : State) : s.HoldsMode s.wakeAfter := by
  have harm : s.HoldsMode (s.bootArm true) := (((State.HoldsMode.refl s).wr _ (by decide)).wr _ (by decide)).modOwl _ _
  unfold State.wakeAfter
  extract_lets s5
  have h5 : s.HoldsMode s5 :=
    ((harm.trans (State.owlWatch_holdsMode _)).trans (State.rtcTell_holdsMode _)).trans (State.refWake_holdsMode _)
  exact State.HoldsMode.ite ((State.HoldsMode.fields h5).err _ _ _ _ (by decide)) h5

theorem State.leaveMode_parked {s : State} (h : s.mode = mPARKED) : s.leaveMode = s := by
  rw [State.leaveMode, if_neg (by rw [h]; decide), if_neg (by rw [h]; decide), if_neg (by rw [h]; decide), if_neg (by rw [h]; decide)]

/-- The way out of PARKED shows WAKING, and PARKED as the mode before, and leaves the wake cause. -/
theorem State.enterWaking_shows {s : State} (h : s.mode = mPARKED) (cause : Nat) :
    (s.enterWaking cause).mode = mWAKING ∧ (s.enterWaking cause).rd devB DEV.MODE_WAKE_CAUSE = s.rd devB DEV.MODE_WAKE_CAUSE ∧
      (s.enterWaking cause).rd devB DEV.MODE_PREV = mPARKED ∧ (s.enterWaking cause).wakeLvl = s.wakeLvl := by
  have hbefore := s.wakeBefore_holdsMode
  have hmode : s.wakeBefore.mode = mPARKED := hbefore.mode.trans h
  have htells := s.wakeBefore.setMode_tells mWAKING cause
  rw [State.leaveMode_parked hmode, hmode] at htells
  have hafter := htells.trans (State.wakeAfter_holdsMode _)
  rw [State.enterWaking_parked h]
  refine ⟨?_, ?_, ?_, ?_⟩
  · rw [hafter.mode, State.mode, State.rd_wr_off _ _ _ _ _ _ (by rfl) (by decide) (by decide)]
    exact State.mode_wr _ (by decide)
  · rw [hafter.rd _ rfl, State.rd_wr_off _ _ _ _ _ _ (by rfl) (by decide) (by decide),
      State.rd_wr_off _ _ _ _ _ _ (by rfl) (by decide) (by decide), hbefore.rd _ rfl]
  · rw [hafter.rd _ rfl, State.rd_wr_eq _ _ _ _ (by decide)]
    rfl
  · rw [hafter.wakeLvl, State.wr_wakeLvl, State.wr_wakeLvl, hbefore.wakeLvl]

/-- A wake source accepted in PARKED: the mode is WAKING, from PARKED, with the source's bits. -/
theorem State.wakeBy_parked {s : State} (h : s.mode = mPARKED) {bits : Nat} (hbits : bits ≠ 0) (hlt : bits < 256) :
    (s.wakeBy bits).mode = mWAKING ∧ (s.wakeBy bits).rd devB DEV.MODE_WAKE_CAUSE = bits ∧
      (s.wakeBy bits).rd devB DEV.MODE_PREV = mPARKED ∧ (s.wakeBy bits).wakeLvl = s.wakeLvl := by
  have hparked : (s.wr devB DEV.MODE_WAKE_CAUSE bits).mode = mPARKED :=
    (State.rd_wr_off _ _ _ _ _ _ (by rfl) (by decide) (by decide)).trans h
  obtain ⟨hmode, hcause, hprev, hlvl⟩ := State.enterWaking_shows hparked 1
  rw [State.rd_wr_eq _ _ _ _ (by decide), show (2 : Nat) ^ DEV.MODE_WAKE_CAUSE.w = 256 from rfl, Nat.mod_eq_of_lt hlt] at hcause
  rw [State.wakeBy, if_pos ⟨h, hbits⟩]
  exact ⟨hmode, hcause, hprev, hlvl⟩

theorem testBit_fifteen : ∀ i : Fin 4, (15 : Nat).testBit i = true := by decide

/-- The levels of the WAKE pins once pin `i` shows `lvl`. -/
theorem testBit_pinLevel (n : Nat) (i : Fin 4) (lvl : Bool) :
    (if lvl then n ||| 2 ^ i.val else n &&& (15 - 2 ^ i.val)).testBit i = lvl := by
  cases lvl with
  | true => simp
  | false =>
    have hclear : (15 - 2 ^ i.val).testBit i = false := by revert i; decide
    simp [hclear]

/-- A WAKE pin's change to its active level, with the pin enabled as a source, in PARKED. -/
theorem State.wakePin_parked {s : State} {i : Fin 4} {lvl : Bool} (hmode : s.mode = mPARKED)
    (hen : s.rd devB DEV.WAKE_CFG_EN &&& 2 ^ i.val ≠ 0) (hwas : s.wakeLvl.testBit i = !lvl)
    (hpol : (s.rd devB DEV.WAKE_CFG_POL).testBit i = lvl) :
    ∃ t : State, s.wakePin i lvl = t.wakeBy (2 ^ i.val) ∧ t.mode = mPARKED ∧ t.wakeLvl.testBit i = lvl := by
  unfold State.wakePin
  extract_lets was bit s1 act s2 source
  have hact : act = true := by
    have hi : i.val < 4 := i.isLt
    have hlvl : s1.wakeLvl.testBit i = lvl := testBit_pinLevel _ _ _
    have hpol1 : (s1.rd devB DEV.WAKE_CFG_POL).testBit i = lvl := hpol
    have hones : (15 : Nat).testBit i = true := testBit_fifteen i
    unfold act State.wakeActive
    rw [show (16 : Nat) = 2 ^ 4 from rfl, Nat.testBit_mod_two_pow]
    change (decide (i.val < 4) && (s1.wakeLvl ^^^ s1.rd devB DEV.WAKE_CFG_POL ^^^ 15).testBit i) = true
    rw [Nat.testBit_xor, Nat.testBit_xor, hlvl, hpol1, hones, decide_eq_true hi]
    cases lvl <;> rfl
  have hdiff : (was == lvl) = false := by rw [show was = !lvl from hwas]; cases lvl <;> rfl
  have hs2 : s2 = ({ s1 with wakeSeen := s1.wakeSeen ||| bit, wakeDone := s1.wakeDone && !s1.holdOn.testBit i }).unmark
      (.released i) := (if_neg (by simp [hdiff])).trans (if_pos hact)
  have hmode2 : s2.mode = mPARKED := by
    rw [hs2]
    exact hmode
  have hsource : source = true := by
    have hen2 : s2.rd devB DEV.WAKE_CFG_EN &&& bit ≠ 0 := by
      rw [hs2]
      exact hen
    simp only [source, hact, Bool.and_true, Bool.and_eq_true]
    exact ⟨bne_iff_ne.2 hen2, by rw [bne, hdiff]; rfl⟩
  refine ⟨s2, ?_, hmode2, ?_⟩
  · rw [if_neg (by simp [hsource]), if_pos hmode2]
  · rw [hs2]
    exact testBit_pinLevel _ _ _

/-- No pin is driven from the boundary register unless EXTEST acts. -/
theorem State.extest_off {s : State} (h : s.tapActs ≠ TapIns.extest) (k : Nat) : s.extest k = none := if_neg h

theorem and_low7_eq_zero_iff (v : Word) : v &&& 0x7F = 0 ↔ getBits v 0 7 = 0 := by
  rw [← BitVec.toNat_inj, BitVec.toNat_and, getBits, Nat.shiftRight_zero]
  exact iff_of_eq (congrArg (· = 0) (Nat.and_two_pow_sub_one_eq_mod v.toNat 7))

/-- Settles O2. -/
theorem wakeSources : Obligations.WakeSources := by
  unfold Obligations.WakeSources
  refine ⟨?_, ?_, ?_, ?_, ?_, ?_, ?_, ?_, ?_, ?_, ?_, ?_, ?_⟩
  · intro i lvl s hmode hen hwas hpol
    obtain ⟨t, heq, htmode, htlvl⟩ := State.wakePin_parked hmode hen hwas hpol
    obtain ⟨hm, hcause, hprev, hlvl⟩ := State.wakeBy_parked htmode (bits := 2 ^ i.val) (Nat.ne_of_gt (Nat.two_pow_pos _))
      (Nat.pow_lt_pow_right (n := 8) (by decide) (by omega))
    exact effect_of_eq rfl heq ⟨hm, hcause, hprev, hlvl ▸ htlvl⟩
  · intro p us s hen hmode hus
    refine does_of_eq rfl ?_
    rw [if_neg (by simp [hen]; omega), if_pos hmode]
    exact if_pos ⟨hmode, by decide⟩
  · intro p us s hen hact hus
    have hparked : s.mode ≠ mPARKED := by
      rintro h
      simp [State.active, h, mPARKED] at hact
    refine does_of_eq rfl ?_
    rw [if_neg (by simp [hen]; omega), if_neg hparked, if_pos hact]
  · intro p us s h
    exact does_of_eq rfl (if_pos (by simpa using h))
  · intro s hover hdone hmode
    exact does_of_eq rfl (if_pos ⟨hmode, hover, hdone⟩)
  · intro s h
    refine does_of_eq rfl (if_neg ?_)
    rintro ⟨-, hover, hdone⟩
    simp [hover, hdone] at h
  · intro mv s hmode hran
    refine effect_of_eq rfl (if_pos ⟨hmode, hran⟩) ⟨rfl, ?_, rfl, fun k h8 h9c => ?_⟩
    · refine (State.bit_wr_apart _ _ _ _ _ _ (.inl (by decide))).trans ?_
      exact State.bit_wrB _ devB DEV.REPLACE_SRC_RTC_WEAK _ (by decide) (by decide)
    · exact (State.getW_wr_ne _ _ h8).trans (State.getW_wr_ne _ _ h9c)
  · intro m s hmode heng
    exact effect_of_eq rfl (if_pos ⟨hmode, heng⟩) ⟨_, rfl⟩
  · intro s
    exact does_of_eq rfl (ite_self _)
  · intro s htap
    simp [State.safeN, State.extest_off htap, bne]
  · intro s htap hmode
    have hbits : s.getW (devB + 0x9C) &&& 0x7F = 0 ↔ getBits (s.getW (devB + DEV.REPLACE_SRC_SPARE.off)) 0 7 = 0 := by
      exact and_low7_eq_zero_iff _
    simp [State.serviceLow, State.extest_off htap, hmode, ← hbits]
  · intro s htap hmode
    simp [State.serviceLow, State.extest_off htap, hmode]
  · intro c s htap hmode
    have hup : s.up = true := decide_eq_true (Nat.le_trans (by decide) hmode)
    have hwaking : (s.mode != mWAKING) = true := bne_iff_ne.2 (Nat.ne_of_gt hmode)
    simp [State.hirqPin, State.hirq, State.extest_off htap, hup, hwaking]

/-! The steps of WAKING (R417, R423, R456, R475, R506). -/

/-- TIME holds `sec` and `ns`, loaded, with the suspect flag `osf`. -/
def State.timeHeld (s : State) (sec ns : Nat) (osf : Bool) : State :=
  (({ s with timeSec := sec, timeNs := ns } : State).modClk fun h => { h with loaded := true }).wrB timeB
    TIME.STATUS_RTC_SUSPECT osf

theorem State.timeLoad_eq (s : State) : s.timeLoad =
    s.timeHeld (dayNum s.cal.year s.cal.month s.cal.day * 86400 + s.cal.hour * 3600 + s.cal.min * 60 + s.cal.sec)
      (s.rd rtcB RTC.SUBSEC_COUNT * 1000000000 / 32768) (s.bit rtcB RTC.ERR_OSF) := rfl

theorem State.timeHeld_shows (s : State) (sec ns : Nat) (osf : Bool) :
    (s.timeHeld sec ns osf).timeSec = sec ∧ (s.timeHeld sec ns osf).timeNs = ns ∧ (s.timeHeld sec ns osf).clk.loaded = true ∧
      (s.timeHeld sec ns osf).bit timeB TIME.STATUS_RTC_SUSPECT = osf ∧ (s.timeHeld sec ns osf).nvm = s.nvm ∧
      (s.timeHeld sec ns osf).cmds = s.cmds :=
  ⟨rfl, rfl, rfl, State.bit_wrB _ timeB TIME.STATUS_RTC_SUSPECT _ (by decide) (by decide), rfl, rfl⟩

/-- Every state whose registers are those after a field of one bit was set shows the bit. -/
theorem State.bit_of_regs_wr {s t : State} {b : Nat} {f : Fld} (h : s.regs = (t.wr b f 1).regs) (hw : 0 < f.w)
    (hlo : f.lo + f.w ≤ 32) : s.bit b f = true := by
  have hone := t.bit_wr_one b f hw hlo
  rw [State.bit, State.rd, State.getW] at hone ⊢
  rwa [h]

theorem State.readPass_done (s : State) (rows : List (Fin 272 × OtpRow)) (ctl : Option (BitVec 192 × BitVec 192 × BitVec 192)) :
    (s.readPass rows ctl).boot = 1 ∧ (s.readPass rows ctl).bit otpB OTP.STATUS_PASS_DONE = true := by
  unfold State.readPass
  extract_lets s0 c s1 s2 s3 s4
  exact ⟨rfl, State.bit_of_regs_wr rfl (by decide) (by decide)⟩

theorem State.logFirst_lt (s : State) : s.logFirst < 8192 := by
  unfold State.logFirst
  extract_lets er
  cases h : (List.range 8192).find? (fun p => er p && !er (p + 8191)) with
  | none => decide
  | some p => exact List.mem_range.1 (List.mem_of_find?_eq_some h)

/-- How many positions of the log hold a record. -/
def State.logHeld (s : State) : Nat := ((List.range 8192).filter (fun p => s.nvmByte (logB0 + 8 * p) != erased)).length

theorem State.logHeld_le (s : State) : s.logHeld ≤ 8192 :=
  Nat.le_trans (List.length_filter_le _ _) (Nat.le_of_eq List.length_range)

theorem State.snapCount_le (s : State) : s.snapCount ≤ 192 :=
  Nat.le_trans (List.length_filter_le _ _) (Nat.le_of_eq List.length_range)

/-- What the log scan shows (R506). -/
theorem State.logScan_shows (s : State) : s.logScan.bit logB LOG.STATUS_SCAN_DONE = true ∧
    s.logScan.rd logB LOG.EV_POS_NEXT = s.logFirst ∧ s.logScan.rd logB LOG.EV_POS_VALID = s.logHeld ∧
    s.logScan.rd logB LOG.SN_STAT_COUNT = s.snapCount ∧ s.logScan.nvm = s.nvm := by
  unfold State.logScan
  extract_lets v s1 s2
  have hv : v = s.logHeld := rfl
  have h2 : ∀ f, Apart logB LOG.SN_STAT_NEWEST logB f → Apart margB MARG.SNAPSEQ_SEQ logB f → s2.rd logB f = s1.rd logB f := by
    intro f hnewest hseq
    unfold s2
    split
    · exact (State.rd_wr_apart _ _ _ _ _ _ hseq).trans (State.rd_wr_apart _ _ _ _ _ _ hnewest)
    · rfl
  have hnvm : s2.nvm = s.nvm := by
    unfold s2
    split <;> rfl
  have hdone : ∀ f, Apart logB LOG.STATUS_SCAN_DONE logB f → (s2.wr logB LOG.STATUS_SCAN_DONE 1).rd logB f = s2.rd logB f :=
    fun f hf => State.rd_wr_apart _ _ _ _ _ _ hf
  have hcount : s1.rd logB LOG.SN_STAT_COUNT = s.snapCount := by
    have hlt := s.snapCount_le
    exact (State.rd_wr_eq _ _ _ _ (by decide)).trans (Nat.mod_eq_of_lt (show _ < 256 by omega))
  have hvalid : s1.rd logB LOG.EV_POS_VALID = s.logHeld := by
    have hlt := s.logHeld_le
    refine (State.rd_wr_apart _ _ _ _ _ _ (.inl (by decide))).trans ?_
    exact ((State.rd_wr_eq _ _ _ _ (by decide)).trans (Nat.mod_eq_of_lt (show v < 2 ^ 14 by omega))).trans hv
  have hnext : s1.rd logB LOG.EV_POS_NEXT = s.logFirst := by
    have hlt := s.logFirst_lt
    refine (State.rd_wr_apart _ _ _ _ _ _ (.inl (by decide))).trans ?_
    refine (State.rd_wr_apart _ _ _ _ _ _ (.inr (by decide))).trans ?_
    exact (State.rd_wr_eq _ _ _ _ (by decide)).trans (Nat.mod_eq_of_lt hlt)
  refine ⟨State.bit_wr_one _ logB LOG.STATUS_SCAN_DONE (by decide) (by decide), ?_, ?_, ?_, hnvm⟩
  · rw [hdone _ (.inl (by decide)), h2 _ (.inl (by decide)) (.inl (by decide)), hnext]
  · rw [hdone _ (.inl (by decide)), h2 _ (.inl (by decide)) (.inl (by decide)), hvalid]
  · rw [hdone _ (.inl (by decide)), h2 _ (.inr (by decide)) (.inl (by decide)), hcount]

/-- Settles O4. -/
theorem wakingSteps : Obligations.WakingSteps := by
  unfold Obligations.WakingSteps
  refine ⟨?_, ?_, ?_, ?_, ?_, ?_, ?_, ?_, ?_, ?_⟩
  · exact fun s hmode hboot => does_of_eq rfl (if_pos ⟨hmode, hboot⟩)
  · exact fun k s hmode hboot => does_of_eq rfl (if_pos ⟨hmode, hboot⟩)
  · intro s hmode hboot
    refine does_of_eq rfl ((if_pos (.inl ⟨hmode, hboot⟩)).trans ?_)
    simp [State.selfTest, hmode, hboot]
  · exact fun n s hmode hboot => does_of_eq rfl (if_pos (.inl ⟨hmode, hboot⟩))
  · intro rows ctl s hmode hboot
    exact effect_of_eq rfl (if_pos ⟨hmode, hboot⟩) ⟨rfl, s.readPass_done rows ctl⟩
  · exact fun hits s hmode hboot heng => does_of_eq rfl (if_pos ⟨hmode, hboot, heng⟩)
  · intro hits failed again s hmode hboot heng hfree
    refine does_of_eq rfl (if_pos ⟨hmode, hboot, heng, ?_⟩)
    obtain hstage | hgrant := hfree
    · exact .inr hstage
    · exact .inl (by simp [State.nvmwFree, hgrant])
  · exact fun s hmode harmed hran => does_of_eq rfl (if_pos ⟨hmode, harmed, hran⟩)
  · intro s hmode hboot heng
    exact effect_of_eq rfl (if_pos ⟨hmode, hboot, heng⟩) s.logScan_shows
  · intro s hmode hloaded
    exact effect_of_eq rfl ((if_pos ⟨hmode, hloaded⟩).trans s.timeLoad_eq) (s.timeHeld_shows _ _ _)

/-! MODE_REQ (R64) and REPLACE_SRC (R59). -/

theorem reqWord_toNat {v : Word} {req : Nat} (h : req < 16) : (reqWord v req).toNat = getBits v 4 28 * 16 + req := by
  have hbits : getBits v 4 28 < 2 ^ 28 := Nat.mod_lt _ (by decide)
  rw [reqWord, BitVec.toNat_ofNat]
  omega

theorem reqWord_req {v : Word} {req : Nat} (h : req < 16) : getBits (reqWord v req) 0 4 = req := by
  rw [getBits, reqWord_toNat h]
  omega

theorem reqWord_key {v : Word} {req : Nat} (h : req < 16) : getBits (reqWord v req) 16 16 = getBits v 16 16 := by
  have hv := v.isLt
  rw [getBits, reqWord_toNat h, getBits, getBits, Nat.shiftRight_eq_div_pow, Nat.shiftRight_eq_div_pow, Nat.shiftRight_eq_div_pow]
  omega

theorem State.reqValid_off {s : State} {c : Nat} (h : s.mode = mSAFE ∨ s.mode = mHOLD ∨ s.active = true) :
    s.reqValid c 1 = true := by
  change (s.active || s.mode == mHOLD || s.mode == mSAFE) = true
  obtain h | h | h := h <;> simp [h]

/-- An accepted request that the mode takes, with the key. -/
theorem State.modeReq_taken {s : State} {c : Fin 8} {v : Word} {req : Nat} (hreq : req < 16) (hkey : getBits v 16 16 = 0xA5C3)
    (hvalid : s.reqValid c req = true) : s.modeReq c (reqWord v req) = s.reqAct req := by
  simp only [State.modeReq, reqWord_req hreq, reqWord_key hreq]
  exact if_pos ⟨hkey, hvalid⟩

theorem State.modeReq_refused {s : State} {c : Fin 8} {v : Word} {req : Nat} (hreq : req < 16)
    (h : getBits v 16 16 ≠ 0xA5C3 ∨ s.reqValid c req = false) : s.modeReq c (reqWord v req) = s.err devB 0 135 (some 0) none := by
  simp only [State.modeReq, reqWord_req hreq, reqWord_key hreq]
  refine if_neg ?_
  rintro ⟨hkey, hvalid⟩
  exact h.elim (fun hk => hk hkey) fun hv => by simp [hv] at hvalid

/-- A refused request tells REQ_REFUSED, and leaves the mode. -/
theorem State.reqRefused (s : State) : (s.err devB 0 135 (some 0) none).bit devB DEV.ERR_REQ_REFUSED = true ∧
    (s.err devB 0 135 (some 0) none).mode = s.mode ∧
    Told (fun k => k = devB + 0xC ∨ k = devB + 0x18) s (s.err devB 0 135 (some 0) none) :=
  ⟨s.bit_err 135 (some 0) none (i := 0) (by decide) (by decide), (err_told s devB 0 135 (some 0) none).mode (by decide),
    err_told s devB 0 135 (some 0) none⟩

/-- One source of REPLACE set or cleared: STATUS.REPLACE follows (R59). -/
theorem State.setRepl_shows (s : State) {f : Fld} (v : Bool) (hoff : f.off = 0x9C) (hw : 0 < f.w) (hlo : f.lo + f.w ≤ 32) :
    (s.setRepl f v).bit devB f = v ∧
    (s.setRepl f v).bit devB DEV.STATUS_REPLACE = (getBits ((s.setRepl f v).getW (devB + 0x9C)) 0 7 != 0) ∧
    State.Keeps (fun k => k = devB + 8 ∨ k = devB + 0x9C) s (s.setRepl f v) := by
  unfold State.setRepl
  extract_lets s1
  refine ⟨?_, ?_, ((State.Keeps.refl _ s).wrB _ (by simp [hoff])).wrB _ (by decide)⟩
  · refine (State.bit_wr_apart _ _ _ _ _ _ (.inl ?_)).trans (s.bit_wrB devB f v hw hlo)
    rw [hoff]
    decide
  · rw [State.wrB_eq _ devB DEV.STATUS_REPLACE, State.getW_wr_ne _ _ (by decide)]
    exact State.bit_wrB s1 devB DEV.STATUS_REPLACE _ (by decide) (by decide)

theorem State.bit_setRepl_apart (s : State) {f f' : Fld} (v : Bool) (hoff : f'.off = 0x9C) (h : Apart devB f devB f') :
    (s.setRepl f v).bit devB f' = s.bit devB f' := by
  have hreplace : Apart devB DEV.STATUS_REPLACE devB f' := .inl (by rw [hoff]; decide)
  exact (State.bit_wr_apart _ _ _ _ _ _ hreplace).trans (State.bit_wr_apart _ _ _ _ _ _ h)

/-- A write of REPLACE_SRC (R59). -/
theorem State.replaceClear_shows (s : State) (v : Word) :
    (getBits v 0 1 = 1 → (s.replaceClear v).bit devB DEV.REPLACE_SRC_SPARE = false) ∧
    (getBits v 3 1 = 1 → (s.replaceClear v).bit devB DEV.REPLACE_SRC_LOCKSTEP = false) ∧
    (getBits v 0 1 = 1 ∨ getBits v 3 1 = 1 → (s.replaceClear v).bit devB DEV.STATUS_REPLACE =
      (getBits ((s.replaceClear v).getW (devB + 0x9C)) 0 7 != 0)) ∧
    State.Keeps (fun k => k = devB + 8 ∨ k = devB + 0x9C) s (s.replaceClear v) := by
  unfold State.replaceClear
  extract_lets s1
  have hspare : getBits v 0 1 = 1 → s1 = ({ s with spareClr := true } : State).setRepl DEV.REPLACE_SRC_SPARE false := fun h => if_pos h
  have hkeeps1 : State.Keeps (fun k => k = devB + 8 ∨ k = devB + 0x9C) s s1 :=
    State.Keeps.ite ((State.Keeps.fields (State.Keeps.refl _ s)).trans (State.setRepl_shows _ _ rfl (by decide) (by decide)).2.2)
      (State.Keeps.refl _ s)
  obtain ⟨hbit1, hreplace1, -⟩ :=
    ({ s with spareClr := true } : State).setRepl_shows (f := DEV.REPLACE_SRC_SPARE) false rfl (by decide) (by decide)
  obtain ⟨hbit2, hreplace2, hkeeps2⟩ :=
    s1.setRepl_shows (f := DEV.REPLACE_SRC_LOCKSTEP) false rfl (by decide) (by decide)
  by_cases hlock : getBits v 3 1 = 1
  · rw [if_pos hlock]
    refine ⟨fun h => ?_, fun _ => hbit2, fun _ => hreplace2, hkeeps1.trans hkeeps2⟩
    rw [s1.bit_setRepl_apart (f := DEV.REPLACE_SRC_LOCKSTEP) false rfl (.inr (by decide)), hspare h]
    exact hbit1
  · rw [if_neg hlock]
    refine ⟨fun h => ?_, fun h => absurd h hlock, fun h => ?_, hkeeps1⟩
    · rw [hspare h]
      exact hbit1
    · rw [hspare (h.resolve_right hlock)]
      exact hreplace1

/-- Settles O5. -/
theorem modeRequestRows : Obligations.ModeRequestRows := by
  unfold Obligations.ModeRequestRows
  refine ⟨?_, ?_, ?_, ?_, ?_, ?_, ?_, ?_, ?_, ?_, ?_, ?_, ?_, ?_, ?_, ?_, ?_, ?_, ?_, ?_, ?_, ?_, ?_, ?_, ?_⟩
  · intro c v s hacc hkey hmode
    exact does_ifWrites hacc rfl (State.modeReq_taken (by decide) hkey (State.reqValid_off (c := c) hmode))
  · intro c v s hacc hkey hmode
    refine does_ifWrites hacc rfl (State.modeReq_taken (by decide) hkey ?_)
    simpa [State.reqValid] using hmode
  · intro c v s hacc hkey hmode
    exact does_ifWrites hacc rfl (State.modeReq_taken (by decide) hkey (hmode : s.active = true))
  · intro c v s hacc hkey hmode hperm
    refine does_ifWrites hacc rfl (State.modeReq_taken (by decide) hkey ?_)
    simpa [State.reqValid, hperm] using hmode
  · intro c v s hacc hkey hmode
    refine does_ifWrites hacc rfl (State.modeReq_taken (by decide) hkey ?_)
    simpa [State.reqValid] using hmode
  · intro c v s hacc hkey hmode hunack
    refine does_ifWrites hacc rfl (State.modeReq_taken (by decide) hkey ?_)
    simpa [State.reqValid, hunack] using hmode
  · intro c v s hacc hkey
    constructor
    · intro hmode
      have hvalid : s.reqValid c 7 = true := by simp [State.reqValid, hmode]
      exact does_ifWrites hacc rfl ((State.modeReq_taken (by decide) hkey hvalid).trans (if_pos hmode))
    · intro hact
      have hhold : s.mode ≠ mHOLD := by
        intro h
        simp [State.active, h, mHOLD] at hact
      have hvalid : s.reqValid c 7 = true := Bool.or_eq_true_iff.2 (.inl hact)
      exact does_ifWrites hacc rfl ((State.modeReq_taken (by decide) hkey hvalid).trans (if_neg hhold))
  · intro cause s hmode
    have hrising : s.mode ≠ mRISING := by rintro h; simp [h, mRISING, mRUN, mSTANDBY, mSERVICE, mHOLDUP] at hmode
    exact (if_neg (by simp [hrising])).trans (if_pos hmode)
  · intro cause s hmode
    simp [State.serveDue, State.offNow, hmode, mHOLD, mRISING, mRUN, mSTANDBY, mSERVICE, mHOLDUP, mDRAINING]
  · exact fun cause s hmode => if_pos hmode
  · exact fun cause s hmode => if_neg hmode
  · intro cause s hmode
    simp [State.serveDue, State.svcEndNow, State.onNow, hmode, mSERVICE, mSTANDBY, mDRAINING, mHOLDUP]
  · exact fun cause s hmode => ⟨if_pos hmode, if_pos hmode⟩
  · exact fun cause s hmode => if_pos hmode
  · intro cause s hmode hseq
    simp [State.serveDue, State.onNow, hmode, hseq]
  · intro cause s hmode hseq
    simp [State.serveDue, State.onNow, hmode, hseq]
  · intro cause s hmode
    simp [State.serveDue, State.onNow, hmode, mSTANDBY, mDRAINING, mHOLDUP]
  · exact fun cause s hmode => if_pos hmode
  · exact fun cause s hmode hunack => if_pos ⟨hmode, hunack⟩
  · exact fun new cause s hnew => s.setMode_mode cause hnew
  · intro c v s hacc hkey
    exact effect_ifWrites_eq hacc rfl (State.modeReq_refused (by decide) (.inl hkey)) s.reqRefused
  · intro c v s hacc hperm
    have hvalid : s.reqValid c 4 = false := by simp [State.reqValid, hperm]
    exact effect_ifWrites_eq hacc rfl (State.modeReq_refused (by decide) (.inr hvalid)) s.reqRefused
  · intro c v s hacc hspare
    refine effect_ifWrites hacc rfl ?_
    obtain ⟨hclear, -, hreplace, hkeeps⟩ := s.replaceClear_shows v
    exact ⟨hclear hspare, hreplace (.inl hspare), hkeeps.raiseQ, fun k h8 h9c => hkeeps.getW k (by simp [h8, h9c])⟩
  · intro c v s hacc hlock
    refine effect_ifWrites hacc rfl ?_
    obtain ⟨-, hclear, hreplace, -⟩ := s.replaceClear_shows v
    exact ⟨hclear hlock, hreplace (.inr hlock)⟩
  · exact fun c v s hacc => does_of_eq rfl (State.ifWrites_not (by simp [State.Accepts, hacc]) _)

end Sys2Proof.Machine
end

section
/-! SUPPORT. Internal supplies and the die comparator (R156, R526). -/

namespace Sys2Proof.Machine

open Sys2Proof

/-- INSUP and STATUS.INSUP_BAD show the supplies outside their windows. -/
theorem State.insupShow_shows (s : State) : s.insupShow.supOut = s.supOut ∧
    s.insupShow.bit supvB SUPV.STATUS_INSUP_BAD = (s.supOut != 0) ∧
    State.Keeps (· ∈ [supvB + 0x2AC, supvB + 8]) s s.insupShow :=
  ⟨rfl, State.bit_wrB _ supvB SUPV.STATUS_INSUP_BAD _ (by decide) (by decide),
    ((State.Keeps.refl _ s).wr _ (by decide)).wrB _ (by decide)⟩

/-- A supply other than the core's and the reference's that leaves its window. -/
theorem State.supplyBad_noRef (s : State) {k : Nat} (h0 : k ≠ 0) (h3 : k ≠ 3) (feeds : Nat) :
    s.supplyBad k feeds = ((({ s with supOut := s.supOut ||| 2 ^ k } : State).insupShow).wr supvB (SUPV.INSUP_SEEN.at (8 + k)) 1).err
      supvB 6 132 (some (if k = 4 then 1 else 3)) none := (if_neg h0).trans (if_neg h3)

/-- Settles O6. -/
theorem internalSupplies : Obligations.InternalSupplies := by
  unfold Obligations.InternalSupplies
  refine ⟨?_, ?_, ?_, ?_, ?_, ?_, ?_⟩
  · intro k mv feeds s hup hk hin hbad
    have hk0 : k.val ≠ 0 := by obtain rfl | rfl | rfl := hk <;> decide
    have hk3 : k.val ≠ 3 := by obtain rfl | rfl | rfl := hk <;> decide
    have hmode : s.mode ≠ mFALLOW := by
      intro h
      simp [State.up, h, mFALLOW] at hup
    have hfalls : supIn k mv = false ∧ s.mode ≠ mFALLOW ∧ (k = 0 ∨ (s.up ∧ !s.supOut.testBit k)) :=
      ⟨hbad, hmode, .inr ⟨hup, by rw [hin]; rfl⟩⟩
    refine does_of_eq rfl ((if_pos hfalls).trans ((s.supplyBad_noRef hk0 hk3 feeds).trans ?_))
    simp only [Fin.ext_iff]
    rfl
  · exact fun mv feeds s hmode hbad => does_of_eq rfl (if_pos ⟨hbad, hmode, .inl rfl⟩)
  · exact fun k mv feeds s hin => does_of_eq rfl (if_neg (by simp [hin]))
  · intro k mv s hup hout hin
    obtain ⟨hsup, hbad, hkeeps⟩ := ({ s with supOut := s.supOut - 2 ^ k.val } : State).insupShow_shows
    exact effect_of_eq rfl (if_pos ⟨hin, hup, hout⟩)
      ⟨hsup, hbad, hkeeps.raiseQ, fun n h2ac h8 => hkeeps.getW n (by simp [h2ac, h8])⟩
  · exact fun s hup htrip => does_of_eq rfl (if_pos ⟨hup, htrip⟩)
  · exact fun s hup htrip => does_of_eq rfl (if_neg (by simp [htrip]))
  · exact fun s => rfl

end Sys2Proof.Machine
end

section
/-! SUPPORT. The sequencer's rows and commands (R219 to R236). -/

namespace Sys2Proof.Machine

open Sys2Proof

/-! The step in progress. -/

theorem State.stepAct_off {s : State} (imon : List (Fin 56 × Nat)) (hop : s.stepOp s.seqTab s.seq.pc = 2) :
    s.stepAct imon = (((s.seqOff (s.stepObj s.seqTab s.seq.pc) (s.rd (stepB s.seqTab s.seq.pc) SEQ.STEP_A_DISC)).mark
      (.seqEn (s.stepObj s.seqTab s.seq.pc))).setPhase 1).mark .act := by
  simp [State.stepAct, hop]

theorem State.stepAct_delay {s : State} (imon : List (Fin 56 × Nat)) (hop : s.stepOp s.seqTab s.seq.pc = 3) :
    s.stepAct imon = s.seqNext := by
  simp [State.stepAct, hop]

theorem State.stepAct_wait {s : State} (imon : List (Fin 56 × Nat)) (hop : s.stepOp s.seqTab s.seq.pc = 4) :
    s.stepAct imon = (s.setPhase 1).mark .act := by
  simp [State.stepAct, hop]

/-- An output that the step's enable leaves off, in a step of its own. -/
theorem State.stepAct_on {s : State} {imon : List (Fin 56 × Nat)} (hop : s.stepOp s.seqTab s.seq.pc = 1)
    (hpar : s.bit (stepB s.seqTab s.seq.pc) SEQ.STEP_A_PAR = false)
    (hout : (s.enable (s.stepObj s.seqTab s.seq.pc) imon).outEn (s.stepObj s.seqTab s.seq.pc) = false) :
    s.stepAct imon = (((s.enable (s.stepObj s.seqTab s.seq.pc) imon).mark (.seqEn (s.stepObj s.seqTab s.seq.pc))).setPhase
      1).mark .act := by
  have hout' : ((s.enable (s.stepObj s.seqTab s.seq.pc) imon).mark (.seqEn (s.stepObj s.seqTab s.seq.pc))).outEn
      (s.stepObj s.seqTab s.seq.pc) = false := hout
  simp [State.stepAct, hop, hpar, hout']

theorem State.stepAct_ready {s : State} (imon : List (Fin 56 × Nat)) (hop : s.stepOp s.seqTab s.seq.pc = 7)
    (hjoins : s.joins = true) :
    s.stepAct imon = (s.ready (s.rd (stepB s.seqTab s.seq.pc) SEQ.STEP_B_STATE)).seqNext := by
  simp [State.stepAct, hop, hjoins]

/-- What the step's action does once its delay has ended. -/
theorem does_seqStepAction {imon : List (Fin 56 × Nat)} {s u : State} (hfe : s.fe0Off = false) (hdue : s.actDue = true)
    (h : (s.mark .lastAct).stepAct imon = u) : Does (.seqStepAction imon) s u :=
  does_of_eq rfl (by rw [if_neg (by simp [hfe]), if_pos hdue, h])

/-- Settles O7. -/
theorem sequencerRows : Obligations.SequencerRows := by
  unfold Obligations.SequencerRows
  refine ⟨?_, ?_, ?_, ?_, ?_, ?_, ?_, ?_, ?_, ?_, ?_, ?_, ?_, ?_, ?_, ?_, ?_⟩
  · intro imon s hfe hdue
    refine ⟨?_, ?_, ?_, ?_, ?_⟩
    · exact fun hop => does_seqStepAction hfe hdue (State.stepAct_off (s := s.mark .lastAct) imon hop)
    · exact fun hop => does_seqStepAction hfe hdue (State.stepAct_delay (s := s.mark .lastAct) imon hop)
    · exact fun hop => does_seqStepAction hfe hdue (State.stepAct_wait (s := s.mark .lastAct) imon hop)
    · exact fun hop hpar hout => does_seqStepAction hfe hdue (State.stepAct_on (s := s.mark .lastAct) hop hpar hout)
    · exact fun hop hjoins => does_seqStepAction hfe hdue (State.stepAct_ready (s := s.mark .lastAct) imon hop hjoins)
  · intro imon s hfe hdue
    refine ⟨fun hst => does_of_eq rfl ?_, fun hst hphase hfree huw => does_of_eq rfl ?_⟩
    · simp [hfe, hdue, hst]
    · simp [hfe, hdue, hst, hphase, hfree, State.unwindAct, huw]
  · exact fun imon s hfe => does_of_eq rfl (if_pos hfe)
  · intro k s hfe hruns hpend hholds
    refine effect_of_eq (u := s.setPends (s.seq.pends.erase k.val)) rfl ?_ ⟨rfl, ?_, ?_⟩
    · simp [hfe, hruns, List.contains_iff_mem.1 hpend, hholds]
    · exact State.rd_wr_eq _ seqB SEQ.STATUS_PEND _ (by decide)
    · exact ((State.HoldsMode.refl (s.modSeq _)).wr _ (by decide)).mode
  · intro s hfe hruns hphase hphase3 hholds
    refine does_of_eq rfl ?_
    simp [hfe, hruns, hphase, hphase3, hholds]
  · intro s hfe hruns hphase hpends
    refine does_of_eq rfl ?_
    simp [hfe, hruns, hphase, hpends]
  · exact fun p s hfe htmo => does_of_eq rfl (if_pos ⟨htmo, hfe⟩)
  · exact fun p s htmo => does_of_eq rfl (if_neg (by simp [htmo]))
  · intro cause s htmo hrises
    simp [State.serveDue, State.tmoNow, htmo, hrises]
  · intro cause s htmo hrises
    simp [State.serveDue, State.tmoNow, htmo, hrises]
  · intro x s hhand hphase hfe hran hbelow
    refine does_of_eq rfl ?_
    simp [hhand, hphase, hfe, hran, hbelow]
  · intro s hst hphase hfe hran habove
    exact does_of_eq rfl (if_pos ⟨hst, hphase, by simp [hfe], hran, by simp [habove]⟩)
  · intro s hst hphase hfe hran habove
    refine does_of_eq rfl ?_
    simp [hst, hphase, hfe, hran, habove, State.iff]
  · intro x s hphase hst hunw hfe hran hhand hbelow hstays
    refine does_of_eq rfl ?_
    simp [hst, hphase, hfe, hran, hhand, hbelow, hstays]
  · intro x s hst hhand hbelow
    refine does_of_eq rfl ?_
    simp [hst, hhand, hbelow]
  · exact fun s hst habove => does_of_eq rfl (if_pos ⟨hst, by simp [habove]⟩)
  · exact fun cause s hst => if_pos hst

/-! The commands, and a write of a step. -/

/-- The word of step `k` in the table that TABSEL names. -/
theorem does_seqStepWrite {c : Fin 8} {k : Fin 64} {b : Bool} {v : Word} {s u : State}
    (hacc : s.Accepts c (seqB + 0x100 + 8 * k + if b then 4 else 0) v) (h : s.stepWrite k b v = u) :
    Does (.seqStepWrite c k b v) s u := does_ifWrites hacc rfl h

/-- Settles O8. -/
theorem sequencerCommands : Obligations.SequencerCommands := by
  unfold Obligations.SequencerCommands
  refine ⟨?_, ?_, ?_, ?_, ?_, ?_, ?_⟩
  · intro t k s hready hargs
    refine ⟨fun hmode => ?_, fun hmode => ?_, fun hmode => ?_⟩ <;> refine does_start hready rfl ?_
    · obtain hmode | hmode := hmode <;> simp [hmode, hargs, mSAFE, mRUN, mSERVICE, mWAKING, mHOLD]
    · obtain hmode | hmode | hmode := hmode <;> simp [hmode, hargs, mSAFE, mRISING, mSTANDBY, mDRAINING, mWAKING, mHOLD, mRUN, mSERVICE]
    · obtain hmode | hmode | hmode := hmode <;> simp [hmode, mSAFE, mLOCKOUT]
  · intro t k s hready hargs
    refine ⟨fun hmode => ?_, fun hact => ?_, fun hmode => ?_⟩ <;> refine does_start hready rfl ?_
    · simp [hmode, hargs, mSAFE, mHOLD]
    · obtain ⟨hlo, hhi⟩ := of_decide_eq_true hact
      rw [if_neg (by simp only [mWAKING, mSAFE]; omega), if_neg (by simp [hargs]), if_neg (by simp only [mHOLD]; omega)]
    · obtain hmode | hmode := hmode <;> simp [hmode, mSAFE, mLOCKOUT]
  · exact fun t k s hready hargs => does_start hready rfl (if_pos hargs)
  · exact fun t k s hready hargs => does_start hready rfl (if_neg (by simp [hargs]))
  · intro c k v s hacc hrun
    refine does_seqStepWrite (b := true) hacc ?_
    simp [State.stepWrite, hrun]
  · intro c k v s hacc hrun
    refine ⟨fun hgood => ?_, fun hbad => ?_⟩ <;> refine does_seqStepWrite (b := false) hacc ?_
    · simp [State.stepWrite, hrun, hgood]
    · simp [State.stepWrite, hrun, hbad]
  · intro c k b v s hacc hrun
    exact does_seqStepWrite hacc (if_pos hrun)

end Sys2Proof.Machine
end

section
/-! SUPPORT. A rail's control registers (R76, R84, R85). -/

namespace Sys2Proof.Machine

open Sys2Proof

theorem outKind_rail (n : Fin 12) : outKind n = .rail := if_pos n.isLt

theorem State.outEn_rail (s : State) (n : Fin 12) : s.outEn n = s.bit (rail n) RAIL.CTRL_EN := by
  rw [State.outEn, outKind_rail]

/-- Only a buck in parallel follows another output. -/
theorem State.follows_rail (s : State) (n : Fin 12) : s.follows n = false := by
  have hn : ¬ (12 ≤ n.val ∧ n.val < 28 ∧ (n.val - 12) % 2 = 1) := by omega
  rw [State.follows, decide_eq_false hn, Bool.false_and]

theorem State.setEn_rail (s : State) (n : Fin 12) (b : Bool) : s.setEn n b = s.wrB (rail n) RAIL.CTRL_EN b := by
  rw [State.setEn, outKind_rail]

theorem rail_add_ne_supv (n : Fin 12) {o o' : Nat} (ho : o < 0x400) (ho' : o' < 0x400) : supvB + o' ≠ rail n + o := by
  rw [rail_eq, supvB, pg]; omega

theorem rail_add_ne_dev (n : Fin 12) {o o' : Nat} (ho : o < 0x400) (ho' : o' < 0x400) : devB + o' ≠ rail n + o := by
  rw [rail_eq, devB, pg]; omega

theorem State.allPg_only {ks : Nat → Prop} (s : State) (h : ks (supvB + 8)) : RegsOnly ks s s.allPg := RegsOnly.wr s _ h

/-- The enable of a rail outside RISING. -/
theorem State.hostOn_rail {s : State} {n : Fin 12} {imon : List (Fin 56 × Nat)} {u : State} (hseq : s.seqWrote n = false)
    (hmode : mRISING < s.mode) (hheld : s.held n = false) (hu : (s.railEnable n imon).allPg = u) (hrising : u.mode ≠ mRISING) :
    s.hostOn n imon = u := by
  have hen : s.enable n imon = u := by
    rw [State.enable, if_neg (by omega), hheld, if_neg Bool.false_ne_true, outKind_rail]
    exact hu
  simp [State.hostOn, hseq, hen, hrising]

theorem State.vmin_rail (s : State) (n : Fin 12) : s.vmin n = s.rd (rail n) RAIL.VLIM_VMIN := by
  rw [State.vmin, outKind_rail]

theorem State.vmax_rail (s : State) (n : Fin 12) : s.vmax n = min 2320 (s.rd (rail n) RAIL.VLIM_VMAX) := by
  rw [State.vmax, outKind_rail]

/-- VSET of a rail stores the code that VLIM leaves of the one written, and tells a changed one (R76). -/
theorem State.setVset_rail (s : State) (n : Fin 12) (code : Nat) : s.setVset n code =
    if clampN (s.vmin n) (max (s.vmin n) (s.vmax n)) code ≠ code then
      ((s.wr (rail n) RAIL.VSET_CODE (clampN (s.vmin n) (max (s.vmin n) (s.vmax n)) code)).retarget n).err (rail n) 4 n none none
    else (s.wr (rail n) RAIL.VSET_CODE (clampN (s.vmin n) (max (s.vmin n) (s.vmax n)) code)).retarget n := by
  rw [State.setVset, outKind_rail]

/-- Settles O9. -/
theorem railControlWrites : Obligations.RailControlWrites := by
  unfold Obligations.RailControlWrites
  refine ⟨?_, ?_, ?_, ?_, ?_, ?_, ?_, ?_⟩
  · intro c n imon s hacc hseq hheld hmode
    refine does_ifField hacc rfl ?_
    have hen : s.enable n imon = s.errQ fltB 2 0 := by
      rw [State.enable, if_neg (by omega), hheld, if_pos rfl]
    have hrising : (s.errQ fltB 2 0).mode ≠ mRISING := by
      rw [(errQ_told s fltB 2 0).mode (by decide)]
      omega
    simp [State.hostOn, hseq, hen, hrising]
  · intro c n imon s hacc hseq hheld hst hmode
    have hrail : s.railEnable n imon = s.wr (rail n) RAIL.CTRL_EN 1 := if_pos hst
    have honly : RegsOnly (fun k => k = rail n + 0x40 ∨ k = supvB + 8) s (s.wr (rail n) RAIL.CTRL_EN 1).allPg :=
      (RegsOnly.wr s 1 (.inl rfl)).trans (State.allPg_only _ (.inr rfl))
    have hrising : (s.wr (rail n) RAIL.CTRL_EN 1).allPg.mode ≠ mRISING := by
      have hmodeKey : ¬ (devB + 0x80 = rail n + 0x40 ∨ devB + 0x80 = supvB + 8) :=
        not_or.2 ⟨rail_add_ne_dev n (by decide) (by decide), by decide⟩
      rw [honly.told.mode hmodeKey]
      omega
    refine effect_ifField hacc rfl (State.hostOn_rail hseq hmode hheld (by rw [hrail]) hrising) ⟨?_, honly⟩
    exact (State.bit_wr_apart _ _ _ _ _ _ (.inl (rail_add_ne_supv n (by decide) (by decide)).symm)).trans
      (s.bit_wr_one _ RAIL.CTRL_EN (by decide) (by decide))
  · exact fun c n imon s hacc hseq hheld hst hmode hrising =>
      does_ifField hacc rfl (State.hostOn_rail hseq hmode hheld rfl hrising)
  · intro c n imon s hseq hen
    have hsame : s.hostOn n imon = s := by simp [State.hostOn, hseq, hen]
    by_cases hacc : s.AcceptsField c (rail n) RAIL.CTRL_EN 1
    · exact does_ifField hacc rfl hsame
    · exact does_of_eq rfl (State.ifField_not hacc _)
  · intro c n s hacc hseq hst
    have hoff : s.hostOff n = s.wr (rail n) RAIL.CTRL_EN 0 := by
      simp [State.hostOff, hseq, State.disable, s.follows_rail n, hst, s.setEn_rail n false, State.wrB_eq]
    exact effect_ifField hacc rfl hoff ⟨s.bit_wr_zero _ RAIL.CTRL_EN (by decide), RegsOnly.wr s 0 rfl⟩
  · intro c n s hacc hseq hst
    refine does_ifField hacc rfl ?_
    simp [State.hostOff, hseq, State.disable, s.follows_rail n, hst]
  · intro c n v s hacc hlo hhi
    have hcode : clampN (s.vmin n) (max (s.vmin n) (s.vmax n)) (getBits v 0 12) = getBits v 0 12 := by
      rw [s.vmin_rail n, s.vmax_rail n, clampN, if_neg (by omega), if_neg (by omega)]
    exact does_ifWrites hacc rfl ((s.setVset_rail n _).trans (by rw [hcode, if_neg (by simp)]))
  · intro c n v s hacc hhi hlo
    have hcode : clampN (s.vmin n) (max (s.vmin n) (s.vmax n)) (getBits v 0 12) = min 2320 (s.rd (rail n) RAIL.VLIM_VMAX) := by
      rw [s.vmin_rail n, s.vmax_rail n, clampN, if_neg (by omega), if_pos (by omega), Nat.max_eq_right hlo]
    exact does_ifWrites hacc rfl ((s.setVset_rail n _).trans (by rw [hcode, if_pos (by omega)]))

end Sys2Proof.Machine
end

section
/-! SUPPORT. The other rows of a rail's loop (R65, R67, R79, R81, R88) and the identification of a loop (R91 to R99). -/

namespace Sys2Proof.Machine

open Sys2Proof

theorem State.lidAbort_idle {s : State} {n : Nat} (h : s.bit (rail n) RAIL.STATUS_LID_RUN = false) (cause : Nat) :
    s.lidAbort n cause = s := if_neg (by simp [h])

/-- A rail in RUN or in soft start keeps its bank until the next period: the coefficients are only asked for (R88). -/
theorem State.coefCtrl_running {s : State} {n : Nat} (h : s.outSt n = 2 ∨ s.outSt n = 3) (apply copy : Bool) :
    s.coefCtrl n apply copy = s.coefWrite n apply copy := if_pos h

theorem State.coefWrite_apply {s : State} {n : Nat} (hidle : s.bit (rail n) RAIL.STATUS_LID_RUN = false)
    (hok : coefOk (s.bank n (1 - s.bankNow n)) = true) :
    s.coefWrite n true false = s.modRail n fun h => { h with swap := true } := by
  simp [State.coefWrite, State.lidAbort_idle hidle, hok]

theorem State.coefWrite_bad {s : State} {n : Nat} (hidle : s.bit (rail n) RAIL.STATUS_LID_RUN = false)
    (hok : coefOk (s.bank n (1 - s.bankNow n)) = false) : s.coefWrite n true false = s.err (rail n) 3 n none none := by
  simp [State.coefWrite, State.lidAbort_idle hidle, hok]

theorem State.coefWrite_copy (s : State) (n : Nat) :
    s.coefWrite n false true = s.copyBank n (s.bankNow n) (1 - s.bankNow n) := by
  simp [State.coefWrite]

theorem Told.railH {ks : Nat → Prop} {s u : State} (h : Told ks s u) (n : Nat) : u.railH n = s.railH n := by
  have hrails := congrArg State.rails h.1
  simp only [State.railH]
  rw [hrails]

/-- The pre-bias search ends (R81). -/
theorem State.railPrebias_above {s : State} {n v : Nat} (hst : s.outSt n = 1) (hov : (s.railH n).ovOff = false)
    (h : (s.railH n).vt ≤ v * 32 / 625) : s.railPrebias n v =
      (((s.railSoft n 0 (s.railH n).vt false).setRef n (min (v * 32 / 625) 262143)).ssDone n).err (rail n) 6 n none none :=
  (if_pos ⟨hst, hov⟩).trans (if_neg (Nat.not_lt.2 h))

theorem State.railPrebias_below {s : State} {n v : Nat} (hst : s.outSt n = 1) (hov : (s.railH n).ovOff = false)
    (h : v * 32 / 625 < (s.railH n).vt) : s.railPrebias n v =
      (s.railSoft n (startAt (s.bit (rail n) RAIL.CTRL_PROFILE) (s.railH n).vt (v * 32 / 625) (s.ssN n)) (s.railH n).vt
        (decide (625 * (s.railH n).vt < 64 * v))).setRef n (v * 32 / 625) :=
  (if_pos ⟨hst, hov⟩).trans (if_pos h)

/-- A step of the identification writes LID_STAT.STATE alone. -/
theorem lidState_only (s : State) (n : Fin 12) {st : Nat} (h : st < 8) :
    (s.wr (rail n) RAIL.LID_STAT_STATE st).rd (rail n) RAIL.LID_STAT_STATE = st ∧
      RegsOnly (fun k => k = rail n + RAIL.LID_STAT_STATE.off) s (s.wr (rail n) RAIL.LID_STAT_STATE st) :=
  ⟨(s.rd_wr_eq _ _ _ (by decide)).trans (Nat.mod_eq_of_lt h), RegsOnly.wr s st rfl⟩

/-- Settles O11. -/
theorem railLoopRows : Obligations.RailLoopRows := by
  unfold Obligations.RailLoopRows
  refine ⟨?_, ?_, ?_, ?_, ?_, ?_, ?_, ?_, ?_, ?_, ?_, ?_, ?_, ?_, ?_, ?_, ?_, ?_, ?_⟩
  · exact fun n uv s hst hov h => does_of_eq rfl (State.railPrebias_above hst hov h)
  · exact fun n uv s hst hov h => does_of_eq rfl (State.railPrebias_below hst hov h)
  · intro n uv s h
    refine does_of_eq rfl (if_neg ?_)
    rintro ⟨hst, hov⟩
    simp [hst, hov] at h
  · exact fun n uv vins high low s hup => does_of_eq rfl (if_pos hup)
  · exact fun n uv vins high low s hup => does_of_eq rfl (if_neg (by simp [hup]))
  · exact fun c n s hacc hst hidle hok =>
      does_ifWrites hacc rfl ((State.coefCtrl_running hst _ _).trans (State.coefWrite_apply hidle hok))
  · intro c n s hacc hst hidle hok
    have htold := err_told s (rail n) 3 n none none
    refine effect_ifWrites_eq hacc rfl ((State.coefCtrl_running hst _ _).trans (State.coefWrite_bad hidle hok)) ⟨?_, ?_, ?_⟩
    · exact s.bit_err n none none (by decide) (intKey_rail_add n (by decide))
    · rw [htold.railH]
    · exact s.rd_err_rail n 3 n none none RAIL.STATUS_BANK (by decide) (by decide) (by decide)
  · exact fun c n s hacc hst => does_ifWrites hacc rfl ((State.coefCtrl_running hst _ _).trans (s.coefWrite_copy n))
  · exact fun n s hrun htold => does_of_eq rfl (if_pos ⟨hrun, by simp [htold]⟩)
  · exact fun t k s hready => does_start hready rfl rfl
  · exact fun t k s hready => does_start hready rfl rfl
  · exact fun t k s hready hout => does_start hready rfl (if_pos hout)
  · intro t k s hready hrefusal
    refine does_start hready rfl ?_
    simp [hrefusal]
  · intro t k s hready hmode hidle hn
    have hrefusal : s.lidRefusal (getBits k.a0 0 4) = some 1 := if_pos hmode
    refine does_start hready rfl ?_
    have hcause : s.lidCause (getBits k.a0 0 4) 1 = s.wr (rail (getBits k.a0 0 4)) RAIL.LID_STAT_CAUSE 1 :=
      if_neg (by simp [hidle, hn])
    simp [hrefusal, hcause]
  · exact fun n s hrun hst hpers => effect_of_eq rfl (if_pos ⟨hrun, hst, hpers⟩) (lidState_only s n (by decide))
  · exact fun n s hrun hst hruns => effect_of_eq rfl (if_pos ⟨hrun, hst, hruns⟩) (lidState_only s n (by decide))
  · intro n f s hrun hst hgoes
    refine does_of_eq rfl (if_pos ⟨hrun, hst, ?_⟩)
    have hnone : s.cmds.any (fun k => k.op == 0x09 && getBits k.a0 0 4 == n.val && s.cmdStopped k) = false := by
      refine List.any_eq_false.2 fun k hk hstop => ?_
      simp only [Bool.and_eq_true, beq_iff_eq] at hstop
      obtain ⟨⟨hop, -⟩, hstopped⟩ := hstop
      exact Bool.false_ne_true ((hgoes k hk hop).symm.trans hstopped)
    rw [hnone]
    rfl
  · intro t k s hready hn hfresh hst
    refine does_start hready rfl ((if_pos ⟨hn, hfresh⟩).trans ?_)
    dsimp only
    rw [if_pos hst]
  · exact fun t k s hready hfresh => does_start hready rfl (if_neg (by simp [hfresh]))

end Sys2Proof.Machine
end

section
/-! SUPPORT. Counts that saturate, and the rows of a sheaf (R103, R107, R116 to R124). -/

namespace Sys2Proof.Machine

open Sys2Proof

/-! A saturating count (R14). -/

theorem State.rd_bump (s : State) (b : Nat) (f : Fld) (h : f.lo + f.w ≤ 32) :
    (s.bump b f).rd b f = min (s.rd b f + 1) (2 ^ f.w - 1) := by
  have hpos : 0 < 2 ^ f.w := Nat.two_pow_pos _
  unfold State.bump
  split
  next hlt => rw [State.rd_wr_eq _ _ _ _ h, Nat.mod_eq_of_lt hlt]; omega
  next hge => rw [State.rd_wr_eq _ _ _ _ h, Nat.mod_eq_of_lt (by omega)]; omega

/-- Filling the count raises its SAT bit and ERR bit, which stand elsewhere. -/
theorem State.rd_count (s : State) {b pb : Nat} {f sat : Fld} (i ev : Nat) (h : f.lo + f.w ≤ 32) (hsat : Apart b sat b f)
    (hint : intKey (b + f.off) = false) (herr : b + f.off ≠ pb + 0xC ∧ b + f.off ≠ pb + 0x18) :
    (s.count b f sat pb i ev).rd b f = min (s.rd b f + 1) (2 ^ f.w - 1) := by
  unfold State.count
  split
  · rw [(err_told _ pb i ev _ none).rd b f hint (not_or.2 herr), State.rd_wr_apart _ _ _ _ _ _ hsat, s.rd_bump b f h]
  · exact s.rd_bump b f h

/-! Sheaves. -/

theorem State.sheafH_modSheaf (s : State) (n : Fin 12) (f : SheafHid → SheafHid) :
    (s.modSheaf n f).sheafH n = f (s.sheafH n) := by
  have hn : n.val < s.sheaves.size := by simp
  simp [State.sheafH, State.modSheaf]

theorem sheaf_lt_page (n : Fin 12) {o : Nat} (ho : o < 0x40) : intKey (sheaf n + o) = false := by
  have hr := Nat.mod_lt n.val (show 0 < 6 by decide)
  have hp : n.val / 6 < 2 := by omega
  simp only [intKey, sheaf, shPage, pg, beq_eq_false_iff_ne]
  omega

/-- The end of a hint window that still runs. -/
theorem State.hintEnd_running {s : State} {r : Nat} {w : HintWin} (hwin : (s.sheafH r).win = some w)
    (h : s.ran (.hint r) (orIf0 (s.rd (stepCls w.cls) PHX.CLS_A_WIN) 1 / 2) = false) : s.hintEnd r = s := by
  simp [State.hintEnd, hwin, h]

theorem State.hintEnd_over {s : State} {r : Nat} {w : HintWin} (hwin : (s.sheafH r).win = some w)
    (h : s.ran (.hint r) (orIf0 (s.rd (stepCls w.cls) PHX.CLS_A_WIN) 1 / 2) = true) : s.hintEnd r =
      let s1 := (s.wr (sheaf r) PHX.SH_STAT_HINT_WIN 0).modSheaf r (fun h => { h with win := none })
      if w.conf then s1 else (s1.hintUnconf r w).pbFall r (s.rd (stepCls w.cls) PHX.CLS_B_UNDO + 1) := by
  simp [State.hintEnd, hwin, h]

theorem Told.sheafH {ks : Nat → Prop} {s u : State} (h : Told ks s u) (n : Nat) : u.sheafH n = s.sheafH n := by
  have hsheaves := congrArg State.sheaves h.1
  simp only [State.sheafH]
  rw [hsheaves]

/-- An unconfirmed hint counts (R118). -/
theorem hintUnconf_told (s : State) (r : Fin 12) (w : HintWin) : Told (fun k => k = sheaf r + 0x34 ∨ k = shPage r + 0xC ∨
    k = shPage r + 0x18) s (s.hintUnconf r w) := by
  refine Told.trans ((count_told s (sheaf r) PHX.SH_CNT2_HUNCONF PHX.SH_CNT2_HUNCONF_SAT (shPage r) 7 r).mono ?_)
    (post_told _ _ _ _ _)
  rintro k (rfl | rfl | rfl | rfl) <;> simp [PHX.SH_CNT2_HUNCONF, PHX.SH_CNT2_HUNCONF_SAT]

theorem State.rd_hintUnconf (s : State) (r : Fin 12) (w : HintWin) : (s.hintUnconf r w).rd (sheaf r) PHX.SH_CNT2_HUNCONF =
    min (s.rd (sheaf r) PHX.SH_CNT2_HUNCONF + 1) (2 ^ 15 - 1) := by
  refine s.rd_count 7 r (by decide) (.inr (by decide)) (sheaf_lt_page r (by decide)) ?_
  simp only [sheaf, PHX.SH_CNT2_HUNCONF]
  omega

/-- Settles O12. -/
theorem sheafRows : Obligations.SheafRows := by
  unfold Obligations.SheafRows
  refine ⟨?_, ?_, ?_, ?_, ?_, ?_, ?_, ?_, ?_, ?_, ?_, ?_, ?_, ?_, ?_, ?_⟩
  · intro r imv s hup h2 h3
    exact does_of_eq rfl ((if_pos hup).trans (if_pos (.inl ⟨h2, h3⟩)))
  · exact fun r imv s hup hst => does_of_eq rfl (if_pos hup)
  · exact fun r imv s hup => does_of_eq rfl (if_neg (by simp [hup]))
  · intro r rising high low s hup hvio hst
    have hedge : s.hintEdge r rising (high.map (·.val)) (lowOf low) = s.wrB (pg 0x0D) (PHX.HINTLVL_LVL.at r) rising := by
      simp [State.hintEdge, hst]
    refine effect_of_eq rfl ((if_pos (by simp [hup, hvio])).trans hedge) ⟨?_, RegsOnly.wr s _ rfl⟩
    exact s.bit_wrB _ _ rising (show 0 < 1 by decide) (show r.val + 1 ≤ 32 by omega)
  · exact fun r rising high low s hup hvio => does_of_eq rfl (if_pos (by simp [hup, hvio]))
  · exact fun r high low s hvio => does_of_eq rfl (if_neg (by simp [hvio]))
  · intro r w s hwin hconf hran
    refine does_of_eq rfl ((State.hintEnd_over hwin hran).trans ?_)
    simp [hconf]
  · intro r w s hwin hconf hran
    refine does_of_eq rfl ((State.hintEnd_over hwin hran).trans ?_)
    simp [hconf]
  · intro r w s hwin hconf hran
    refine effect_of_eq rfl (State.hintEnd_over hwin hran) ?_
    dsimp only
    rw [hconf, if_neg Bool.false_ne_true]
    generalize hs1 : (s.wr (sheaf r) PHX.SH_STAT_HINT_WIN 0).modSheaf r (fun h => { h with win := none }) = s1
    generalize s.rd (stepCls w.cls) PHX.CLS_B_UNDO + 1 = left
    have htold := hintUnconf_told s1 r w
    have hwin1 : (s1.sheafH r).win = none := by rw [← hs1, State.sheafH_modSheaf]
    have hfall : ∀ t : State, (t.pbFall r left).sheafH r = _ := fun t => t.sheafH_modSheaf r _
    rw [hfall, htold.sheafH]
    refine ⟨hwin1, rfl, rfl, ?_, ?_⟩
    · refine (htold.rd (sheaf r) PHX.SH_STAT_HINT_WIN (sheaf_lt_page r (by decide)) ?_).trans ?_
      · simp only [sheaf, PHX.SH_STAT_HINT_WIN]
        omega
      · rw [← hs1]
        exact State.rd_wr_eq s (sheaf r) PHX.SH_STAT_HINT_WIN 0 (by decide)
    · refine (s1.rd_hintUnconf r w).trans ?_
      rw [← hs1]
      have hother : (s.wr (sheaf r) PHX.SH_STAT_HINT_WIN 0).rd (sheaf r) PHX.SH_CNT2_HUNCONF = s.rd (sheaf r) PHX.SH_CNT2_HUNCONF :=
        State.rd_wr_ne _ _ _ _ _ _ (by simp [PHX.SH_STAT_HINT_WIN, PHX.SH_CNT2_HUNCONF])
      rw [← hother]
      rfl
  · exact fun r w s hwin hran => does_of_eq rfl (State.hintEnd_running hwin hran)
  · intro r s hwin
    refine does_of_eq rfl ?_
    simp [State.hintEnd, hwin]
  · intro r k s hready
    refine does_of_eq rfl ?_
    simp [hready]
  · intro r s hready
    refine does_of_eq rfl ?_
    simp [hready]
  · exact fun r s hst hcyc => does_of_eq rfl (if_pos ⟨hst, hcyc⟩)
  · exact fun r s hst hcyc => does_of_eq rfl (if_pos ⟨hst, hcyc⟩)
  · exact fun r s hran => does_of_eq rfl (if_pos hran)

end Sys2Proof.Machine
end

section
/-! SUPPORT. What the supervisors show (R144 to R149). -/

namespace Sys2Proof.Machine

open Sys2Proof

/-! The registers in which the supervisors show what they see: the status, the ERR and IRQ_PEND bits, and a bit for each output. -/

def SupvShown (k : Nat) : Prop :=
  k = supvB + 8 ∨ k = supvB + 0xC ∨ k = supvB + 0x18 ∨ (supvB + 0x280 ≤ k ∧ k < supvB + 0x300)

/-- Outside those, and the interrupt controller's pages, the registers of `s`. -/
def SupvOnly (s u : State) : Prop := ∀ k, intKey k = false → ¬ SupvShown k → u.getW k = s.getW k

theorem SupvOnly.trans {s t u : State} (h1 : SupvOnly s t) (h2 : SupvOnly t u) : SupvOnly s u :=
  fun k hint hk => (h2 k hint hk).trans (h1 k hint hk)

theorem Told.supvOnly {s u : State} (h : Told SupvShown s u) : SupvOnly s u := fun k hint hk => h.2 k hint hk

theorem RegsOnly.supvOnly {s u : State} (h : RegsOnly SupvShown s u) : SupvOnly s u := h.told.supvOnly

theorem SupvOnly.rd {s u : State} (h : SupvOnly s u) (b : Nat) (f : Fld) (hint : intKey (b + f.off) = false)
    (hk : ¬ SupvShown (b + f.off)) : u.rd b f = s.rd b f := by
  rw [State.rd, h _ hint hk, State.rd]

theorem SupvOnly.bit {s u : State} (h : SupvOnly s u) (b : Nat) (f : Fld) (hint : intKey (b + f.off) = false)
    (hk : ¬ SupvShown (b + f.off)) : u.bit b f = s.bit b f := by
  rw [State.bit, h.rd b f hint hk, State.bit]

theorem SupvOnly.outEn {s u : State} (h : SupvOnly s u) (x : Fin 46) : u.outEn x = s.outEn x := by
  have hx := x.isLt
  unfold State.outEn
  cases hkind : outKind x <;> refine h.bit _ _ ?_ ?_ <;>
    simp only [SupvShown, intKey, outKind, rail, bk, bkPage, ldo, ldoB, ls, pg, supvB, RAIL.CTRL_EN, BUCK.BK_CTRL_EN, LDO.LDO_CTRL_EN,
      LDO.LS_CTRL_EN, beq_eq_false_iff_ne] at hkind ⊢ <;> (repeat' split at hkind) <;>
    simp only [reduceCtorEq] at hkind <;> omega

theorem SupvOnly.outSt {s u : State} (h : SupvOnly s u) (x : Fin 46) : u.outSt x = s.outSt x := by
  have hx := x.isLt
  unfold State.outSt
  cases hkind : outKind x <;> refine h.rd _ _ ?_ ?_ <;>
    simp only [SupvShown, intKey, outKind, rail, bk, bkPage, ldo, ldoB, ls, pg, supvB, RAIL.STATUS_STATE, BUCK.BK_STAT_STATE,
      LDO.LDO_STAT_STATE, LDO.LS_STAT_STATE, beq_eq_false_iff_ne] at hkind ⊢ <;> (repeat' split at hkind) <;>
    simp only [reduceCtorEq] at hkind <;> omega

/-- The registers of an output's window, filters and thresholds are none of those. -/
theorem SupvOnly.rd_out {s u : State} (h : SupvOnly s u) (x : Fin 46) (f : Fld) (hf : f.off ≤ 8) : u.rd (out x) f = s.rd (out x) f := by
  have hx := x.isLt
  refine h.rd _ _ ?_ ?_ <;> simp only [SupvShown, out, pg, supvB]
  · have hpage : 35 * 1024 + 64 + 12 * x.val + f.off < 0x10000 := by omega
    rw [intKey, Nat.mod_eq_of_lt hpage, beq_eq_false_iff_ne]
    omega
  · omega

theorem RegsOnly.mono {p q : Nat → Prop} {s u : State} (h : RegsOnly p s u) (hpq : ∀ k, p k → q k) : RegsOnly q s u :=
  ⟨h.1, fun k hk => h.2 k fun c => hk (hpq k c)⟩

/-- The two words of a bit for each output. -/
def SupvPair (off k : Nat) : Prop := supvB + off ≤ k ∧ k < supvB + off + 8

theorem State.setSupv_only (s : State) (off : Nat) {x : Nat} (b : Bool) (hx : x < 64) :
    RegsOnly (SupvPair off) s (s.setSupv off x b) :=
  RegsOnly.setW s _ (by rw [SupvPair]; omega)

theorem State.setPair_only (s : State) (off : Nat) {x : Nat} (b : Bool) (hx : x < 63) :
    RegsOnly (SupvPair off) s (s.setPair off x b) := by
  have hfirst := s.setSupv_only off b (show x < 64 by omega)
  exact RegsOnly.ite _ (hfirst.trans (State.setSupv_only _ off b (by omega))) hfirst

theorem State.setPg_only (s : State) {x : Nat} (b : Bool) (hx : x < 63) :
    RegsOnly (fun k => SupvPair offPG k ∨ k = supvB + 8) s (s.setPg x b) :=
  ((s.setPair_only offPG b hx).mono fun _ => .inl).trans (State.allPg_only _ (.inr rfl))

theorem SupvPair.shown {off k : Nat} (h : SupvPair off k) (hoff : 0x280 ≤ off ∧ off ≤ 0x298) : SupvShown k := by
  rw [SupvPair] at h
  exact .inr (.inr (.inr (by omega)))

theorem State.anyShow_only (s : State) : RegsOnly SupvShown s s.anyShow :=
  (RegsOnly.wr s _ (.inl rfl)).trans (RegsOnly.wr _ _ (.inl rfl))

/-- One bit of a word of bits. -/
theorem State.supv_setSupv (s : State) (off x : Nat) (b : Bool) : (s.setSupv off x b).supv off x = b := by
  have hbit := testBit_putBits (s.getW (supvB + off + 4 * (x / 32))) (x % 32) 1 (if b then 1 else 0) (x % 32) (Nat.mod_lt _ (by decide))
  rw [State.supv, State.setSupv, State.getW_setW_eq, hbit]
  cases b <;> simp

theorem State.supv_setSupv_ne (s : State) (off : Nat) {x y : Nat} (b : Bool) (h : x ≠ y) :
    (s.setSupv off x b).supv off y = s.supv off y := by
  rw [State.supv, State.setSupv]
  by_cases hword : y / 32 = x / 32
  · rw [hword, State.getW_setW_eq, testBit_putBits _ _ _ _ _ (Nat.mod_lt _ (by decide)), if_neg (by omega), State.supv, hword]
  · rw [State.getW_setW_ne _ _ (by omega), State.supv]

theorem State.supv_setPair (s : State) (off x : Nat) (b : Bool) : (s.setPair off x b).supv off x = b := by
  unfold State.setPair
  dsimp only
  split
  · rw [State.supv_setSupv_ne _ _ _ (by omega), State.supv_setSupv]
  · exact s.supv_setSupv off x b

/-- Another word of bits than the one written. -/
theorem RegsOnly.supv {ks : Nat → Prop} {s u : State} (h : RegsOnly ks s u) (off x : Nat) (hk : ¬ ks (supvB + off + 4 * (x / 32))) :
    u.supv off x = s.supv off x := by
  rw [State.supv, h.2 _ hk, State.supv]

theorem Told.supv {ks : Nat → Prop} {s u : State} (h : Told ks s u) {off x : Nat} (hoff : off ≤ 0x298) (hx : x < 64)
    (hk : ¬ ks (supvB + off + 4 * (x / 32))) : u.supv off x = s.supv off x := by
  rw [State.supv, h.2 _ (by simp only [intKey, supvB, pg, beq_eq_false_iff_ne]; omega) hk, State.supv]

theorem State.supv_setPg (s : State) (x : Nat) (b : Bool) : (s.setPg x b).supv offPG x = b := by
  have hpg : RegsOnly (fun k => k = supvB + 8) (s.setPair offPG x b) (s.setPg x b) := State.allPg_only _ rfl
  rw [hpg.supv offPG x (by simp only [supvB, pg, offPG]; omega)]
  exact s.supv_setPair offPG x b

/-! The comparators. -/

theorem State.outH_modOut (s : State) (x : Fin 46) (f : OutHid → OutHid) : (s.modOut x f).outH x = f (s.outH x) := by
  have hx : x.val < s.outs.size := by simp
  simp [State.outH, State.modOut]

theorem RegsOnly.outH {ks : Nat → Prop} {s u : State} (h : RegsOnly ks s u) (x : Nat) : u.outH x = s.outH x := by
  have houts := congrArg State.outs h.1
  rw [State.outH, houts, State.outH]

theorem Told.outH {ks : Nat → Prop} {s u : State} (h : Told ks s u) (x : Nat) : u.outH x = s.outH x := by
  have houts := congrArg State.outs h.1
  rw [State.outH, houts, State.outH]

theorem State.comps_keeps (s : State) (x : Nat) (uv vin : Nat) : State.Keeps SupvShown s (s.comps x uv vin) :=
  (State.Keeps.refl _ s).modOut x _ |>.trans (.of_regsOnly (State.anyShow_only _))

theorem State.see_keeps (s : State) (x : Nat) (uv vin : Nat) : State.Keeps SupvShown s (s.see x uv vin) :=
  (State.Keeps.refl _ s).modOut x _

theorem State.Keeps.supvOnly {s u : State} (h : State.Keeps SupvShown s u) : SupvOnly s u := fun k _ hk => h.getW k hk


theorem State.outH_comps (s : State) (x : Fin 46) (uv vin : Nat) : (s.comps x uv vin).outH x = { s.outH x with
    ovNow := (s.ovWatched x && decide (s.ovTop x vin < uv * 12800)) ||
      ((s.outH x).ovNow && decide (s.ovTop x vin < uv * 12800 + s.vhys x vin)),
    uvNow := (s.uvArmed x || s.forcedNow (.armed x)) && (decide (uv * 12800 < s.vuv x vin) ||
      ((s.outH x).uvNow && decide (uv * 12800 < s.vuv x vin + s.vhys x vin))) } := by
  rw [State.comps]
  exact ((State.anyShow_only _).outH x).trans (s.outH_modOut x _)

/-- What a UV trip of an output that is no rail shows. -/
theorem State.uvTrip_off_rail (s : State) {x : Nat} (h : 12 ≤ x) : s.uvTrip x =
    ((s.setSupv offUVF x true).setPg x false).err supvB 1 x (some (min 3 (s.rd (out x) SUPV.OUT_CFG_CLS_UV))) none :=
  if_neg (by omega)

theorem State.raiseQ_err_cls (s : State) {b i ev cls : Nat} (d : Option Nat) (hb : silentPage b = false) :
    (s.err b i ev (some cls) d).raiseQ = if s.bit b (HDR.ERR_MASK.at i) = true ∧ cls ≤ 1 then s.raiseQ
      else insRaise s.raiseQ ⟨ev, cls, d, false⟩ := by
  split
  next h => rw [State.err_masked d h.1 h.2, State.raiseQ_errQ]
  next h =>
    refine State.raiseQ_err_unmasked d hb ?_
    cases hmask : s.bit b (HDR.ERR_MASK.at i)
    · exact .inl rfl
    · exact .inr (by simp only [hmask, true_and] at h; omega)

/-- What a UV trip of an output that is no rail leaves. -/
theorem State.uvTrip_shows (s : State) {x : Fin 46} (h : 12 ≤ x.val) : Told SupvShown s (s.uvTrip x) ∧
    (s.uvTrip x).supv offUVF x = true ∧ (s.uvTrip x).supv offPG x = false ∧ (s.uvTrip x).raiseQ =
      if s.bit supvB (HDR.ERR_MASK.at 1) = true ∧ s.rd (out x) SUPV.OUT_CFG_CLS_UV ≤ 1 then s.raiseQ
      else insRaise s.raiseQ ⟨x, min 3 (s.rd (out x) SUPV.OUT_CFG_CLS_UV), none, false⟩ := by
  have hx := x.isLt
  rw [s.uvTrip_off_rail h]
  have hflag := s.setSupv_only offUVF true (show x.val < 64 by omega)
  have hpg := State.setPg_only (s.setSupv offUVF x true) false (show x.val < 63 by omega)
  have hshown : RegsOnly SupvShown s ((s.setSupv offUVF x true).setPg x false) :=
    (hflag.mono fun _ hk => hk.shown (by decide)).trans (hpg.mono fun _ hk => hk.elim (fun hk => hk.shown (by decide)) .inl)
  have herr := err_told ((s.setSupv offUVF x true).setPg x false) supvB 1 x (some (min 3 (s.rd (out x) SUPV.OUT_CFG_CLS_UV))) none
  refine ⟨hshown.told.trans (herr.mono ?_), ?_, ?_, ?_⟩
  · rintro k (rfl | rfl) <;> simp [SupvShown]
  · rw [herr.supv (by decide) (by omega) (by simp only [supvB, pg, offUVF]; omega),
      hpg.supv _ _ (by simp only [SupvPair, supvB, pg, offUVF, offPG]; omega)]
    exact s.supv_setSupv offUVF x true
  · rw [herr.supv (by decide) (by omega) (by simp only [supvB, pg, offPG]; omega)]
    exact State.supv_setPg _ x false
  · have hmask : ((s.setSupv offUVF x true).setPg x false).bit supvB (HDR.ERR_MASK.at 1) = s.bit supvB (HDR.ERR_MASK.at 1) :=
      hshown.told.bit _ _ (by decide) (by simp [SupvShown, supvB, pg, HDR.ERR_MASK, Fld.at])
    have hraise : ((s.setSupv offUVF x true).setPg x false).raiseQ = s.raiseQ := hshown.raiseQ
    have hcls : min 3 (s.rd (out x) SUPV.OUT_CFG_CLS_UV) ≤ 1 ↔ s.rd (out x) SUPV.OUT_CFG_CLS_UV ≤ 1 := by omega
    rw [State.raiseQ_err_cls _ _ (by decide), hmask, hraise]
    simp only [hcls]

/-- Settles O14. -/
theorem windowComparators : Obligations.WindowComparators := by
  unfold Obligations.WindowComparators
  refine ⟨?_, ?_, ?_, ?_, ?_, ?_, ?_, ?_, ?_, ?_⟩
  · exact fun x uv vin t => t.outH_comps x uv vin
  · intro x uv vin ns s hup hx hen hfollows hov hns
    refine does_of_eq rfl ((if_pos hup).trans ?_)
    have hen' : ((s.see x uv vin).comps x uv vin).outEn x = true := ((s.see x uv vin).comps_keeps x uv vin).supvOnly.outEn x |>.trans hen
    have hkind : outKind x ≠ .rail ∧ outKind x ≠ .buck := by
      unfold outKind
      (repeat' split) <;> simp <;> omega
    have htrip : ((s.see x uv vin).comps x uv vin).ovTrip x =
        (((((s.see x uv vin).comps x uv vin).ovTell x).outOff x 3).errQ ldoB 1 x).anyShow := by
      rw [State.ovTrip, if_pos hen']
      cases hk : outKind x <;> simp_all
    rw [← htrip]
    exact if_pos (by simp [State.ovWatched, State.ovTop, hfollows, hen, hov, hns])
  · intro x uv vin ns s hup hfollows hen hov hns
    exact does_of_eq rfl ((if_pos hup).trans (if_neg (by simp [hns])))
  · intro x uv vin ns s hup hen hforced hoff
    exact does_of_eq rfl ((if_pos hup).trans (if_neg (by simp [State.ovWatched, hen, hforced, hoff])))
  · intro x uv vin us s hup hx harmed hlow hus
    have hcomps := (s.see_keeps x uv vin).trans ((s.see x uv vin).comps_keeps x uv vin)
    obtain ⟨htold, huvf, hpg, hraise⟩ := ((s.see x uv vin).comps x uv vin).uvTrip_shows hx
    have honly := hcomps.supvOnly.trans htold.supvOnly
    obtain ⟨-, hnvm, -⟩ := htold.fields
    refine effect_of_eq rfl ((if_pos hup).trans (if_pos (by simp [harmed, hlow, hus])))
      ⟨huvf, hpg, honly.outSt x, honly.outEn x, hnvm.trans hcomps.nvm, ?_, ?_⟩
    · rw [htold.outH, State.outH_comps]
      simp [harmed, hlow]
    · rw [hraise, hcomps.raiseQ, hcomps.bit _ _ (by simp [SupvShown, supvB, pg, HDR.ERR_MASK, Fld.at]),
        hcomps.supvOnly.rd_out x SUPV.OUT_CFG_CLS_UV (by decide)]
  · intro x uv vin us s hup harmed hforced
    exact does_of_eq rfl ((if_pos hup).trans (if_neg (by simp [harmed, hforced])))
  · intro x uv vin us s hup hreg hfollows hin hus hran
    exact does_of_eq rfl ((if_pos hup).trans (if_pos (by simp [hreg, hfollows, hin, hus, hran])))
  · intro x uv vin us s hup hreg
    exact does_of_eq rfl ((if_pos hup).trans (if_neg (by simp [hreg])))
  · intro x uv s hup hfollows hth
    refine does_of_eq rfl ((if_pos hup).trans ?_)
    simp [State.belowCross, hfollows, Nat.not_lt.2 hth]
  · intro x uv s hup hfollows hth hsupv
    refine does_of_eq rfl ((if_pos hup).trans ?_)
    simp [State.belowCross, hfollows, hth, hsupv]

end Sys2Proof.Machine
end

section
/-! SUPPORT. What the end of a command leaves (R330), and the bale load (R449 to R451). -/

namespace Sys2Proof.Machine

open Sys2Proof

/-- Outside `ks` the registers of `u` are those of `s`. -/
def RegsOff (ks : Nat → Prop) (s u : State) : Prop := ∀ k, ¬ ks k → u.getW k = s.getW k

namespace RegsOff

variable {ks : Nat → Prop} {s t u : State}

theorem refl (ks : Nat → Prop) (s : State) : RegsOff ks s s := fun _ _ => rfl

theorem trans (h1 : RegsOff ks s t) (h2 : RegsOff ks t u) : RegsOff ks s u := fun k hk => (h2 k hk).trans (h1 k hk)

theorem mono {q : Nat → Prop} (h : RegsOff ks s u) (hq : ∀ k, ks k → q k) : RegsOff q s u := fun k hk => h k fun c => hk (hq k c)

theorem fields (h : RegsOff ks s t) (hregs : u.regs = t.regs := by rfl) : RegsOff ks s u := fun k hk => by
  rw [State.getW, hregs]
  exact h k hk

theorem setW (h : RegsOff ks s t) {k : Nat} (v : Word) (hk : ks k) : RegsOff ks s (t.setW k v) :=
  h.trans fun _ hn => State.getW_setW_ne t v fun e => hn (e.symm ▸ hk)

theorem wr (h : RegsOff ks s t) {b : Nat} {f : Fld} (v : Nat) (hk : ks (b + f.off)) : RegsOff ks s (t.wr b f v) := h.setW _ hk

theorem wrB (h : RegsOff ks s t) {b : Nat} {f : Fld} (v : Bool) (hk : ks (b + f.off)) : RegsOff ks s (t.wrB b f v) := h.wr _ hk

theorem ite {c : Prop} [Decidable c] (h1 : RegsOff ks s t) (h2 : RegsOff ks s u) : RegsOff ks s (if c then t else u) := by
  split
  · exact h1
  · exact h2

theorem each {l : List Nat} {f : Nat → State → State} (h : RegsOff ks s t)
    (hf : ∀ i ∈ l, ∀ u, RegsOff ks s u → RegsOff ks s (f i u)) : RegsOff ks s (t.each l f) := by
  induction l generalizing t with
  | nil => exact h
  | cons i l ih => exact ih (hf i (by simp) t h) fun j hj => hf j (by simp [hj])

theorem foldl {α : Type} {l : List α} {f : State → α → State} (h : RegsOff ks s t)
    (hf : ∀ a ∈ l, ∀ u, RegsOff ks s u → RegsOff ks s (f u a)) : RegsOff ks s (l.foldl f t) := by
  induction l generalizing t with
  | nil => exact h
  | cons a l ih => exact ih (hf a (by simp) t h) fun b hb => hf b (by simp [hb])

theorem told (h : RegsOff ks s t) (ht : Told ks t u) (hint : ∀ k, intKey k = true → ks k) : RegsOff ks s u := fun k hk =>
  (ht.2 k (Bool.eq_false_iff.2 fun hi => hk (hint k hi)) hk).trans (h k hk)

theorem regsOnly (h : RegsOff ks s t) (ht : RegsOnly ks t u) : RegsOff ks s u := fun k hk => (ht.2 k hk).trans (h k hk)

theorem edge (h : RegsOff ks s t) (e : Nat) (hint : ∀ k, intKey k = true → ks k) : RegsOff ks s (t.edge e) :=
  h.trans fun k hk => (edge_only t e).2 k fun hi => hk (hint k hi)

theorem err (h : RegsOff ks s t) {b : Nat} (i ev : Nat) (cls d : Option Nat) (hint : ∀ k, intKey k = true → ks k)
    (herr : ks (b + 0xC) ∧ ks (b + 0x18)) : RegsOff ks s (t.err b i ev cls d) :=
  h.told ((err_told t b i ev cls d).mono (by rintro k (rfl | rfl); exact herr.1; exact herr.2)) hint

theorem irq (h : RegsOff ks s t) {b : Nat} (i ev : Nat) (hint : ∀ k, intKey k = true → ks k) (hpend : ks (b + 0x18)) :
    RegsOff ks s (t.irq b i ev) :=
  h.told ((irq_told t b i ev).mono (by rintro k rfl; exact hpend)) hint

theorem count (h : RegsOff ks s t) {b : Nat} {f sat : Fld} {pb : Nat} (i ev : Nat) (hint : ∀ k, intKey k = true → ks k)
    (hcount : ks (b + f.off) ∧ ks (b + sat.off)) (herr : ks (pb + 0xC) ∧ ks (pb + 0x18)) :
    RegsOff ks s (t.count b f sat pb i ev) := by
  refine h.told ((count_told t b f sat pb i ev).mono ?_) hint
  rintro k (rfl | rfl | rfl | rfl)
  · exact hcount.1
  · exact hcount.2
  · exact herr.1
  · exact herr.2

theorem rd (h : RegsOff ks s u) (b : Nat) (f : Fld) (hk : ¬ ks (b + f.off)) : u.rd b f = s.rd b f := by
  rw [State.rd, h _ hk, State.rd]

theorem bit (h : RegsOff ks s u) (b : Nat) (f : Fld) (hk : ¬ ks (b + f.off)) : u.bit b f = s.bit b f := by
  rw [State.bit, h.rd b f hk, State.bit]

theorem mode (h : RegsOff ks s u) (hk : ¬ ks (devB + 0x80)) : u.mode = s.mode := h.rd devB DEV.MODE_CODE hk

end RegsOff

/-! The end of a command. -/

/-- A register of the rings' pages, the arbiter's, the interrupt controller's or NVM's, in any context's copy. -/
abbrev RingKey (k : Nat) : Prop :=
  k % 0x10000 / 0x400 = 4 ∨ k % 0x10000 / 0x400 = 5 ∨ k % 0x10000 / 0x400 = 6 ∨ k % 0x10000 / 0x400 = 0x2D

theorem ringKey_of_int {k : Nat} (h : intKey k = true) : RingKey k := .inr (.inr (.inl (beq_iff_eq.1 h)))

theorem ringKey_cqe {o : Nat} (ho : o < 0x400) : RingKey (cqeB + o) := .inl (by simp only [cqeB, pg]; omega)

theorem ringKey_cqeC (c : Fin 8) {o : Nat} (ho : o < 0x20) : RingKey (cqeC c + o) :=
  .inl (by have hc := c.isLt; simp only [cqeC, cqeB, pg]; omega)

theorem ringKey_ck {b : Nat} (c : Nat) (hb : RingKey b) : RingKey (ck c + b) := by
  have hmod : (ck c + b) % 0x10000 = b % 0x10000 := by rw [ck]; omega
  rw [RingKey, hmod]
  exact hb

theorem ringKey_arb {o : Nat} (ho : o < 0x400) : RingKey (arbB + o) := .inr (.inl (by simp only [arbB, pg]; omega))

theorem RegsOnly.each {ks : Nat → Prop} {s t : State} {l : List Nat} {f : Nat → State → State} (h : RegsOnly ks s t)
    (hf : ∀ i ∈ l, ∀ u, RegsOnly ks s u → RegsOnly ks s (f i u)) : RegsOnly ks s (t.each l f) := by
  induction l generalizing t with
  | nil => exact h
  | cons i l ih => exact ih (hf i (by simp) t h) fun j hj => hf j (by simp [hj])

theorem RegsOnly.andWrB {ks : Nat → Prop} {s t : State} {b : Nat} {f : Fld} (h : RegsOnly ks s t) (v : Bool) (hk : ks (b + f.off)) :
    RegsOnly ks s (t.wrB b f v) := h.trans (RegsOnly.wr t _ hk)

/-- The arbiter's registers follow its grants and queues. -/
theorem State.arbShow_only (s : State) : RegsOnly RingKey s s.arbShow := by
  rw [State.arbShow, show [0, 1, 2, 3, 4, 5, 6, 7, 8] = List.range 9 from rfl]
  refine RegsOnly.each (RegsOnly.each (RegsOnly.refl _ s) ?_) ?_
  · intro r hr u hu
    have hr8 : r < 9 := List.mem_range.1 hr
    have hres : ∀ o, o < 4 → RingKey (resB r + o) := fun o ho => .inr (.inl (by simp only [resB, arbB, pg]; omega))
    exact ((hu.trans (RegsOnly.wr _ _ (hres _ (by decide)))).trans (RegsOnly.wr _ _ (hres _ (by decide)))).andWrB _
      (ringKey_arb (o := 8) (by decide))
  · intro c _ u hu
    have hself : ∀ f : Fld, f.off = 0x50 → RingKey (ck c + arbB + f.off) := fun f hf => .inr (.inl (by simp only [ck, arbB, pg]; omega))
    exact (((hu.andWrB _ (hself _ rfl)).andWrB _ (hself _ rfl)).andWrB _ (hself _ rfl)).andWrB _ (hself _ rfl)

theorem State.arbShow_off {s t : State} (h : RegsOff RingKey s t) : RegsOff RingKey s t.arbShow := h.regsOnly t.arbShow_only

theorem State.dropOrg_off {s t : State} (h : RegsOff RingKey s t) (p : Nat → Org → Bool) : RegsOff RingKey s (t.dropOrg p) := by
  refine State.arbShow_off (RegsOff.each (RegsOff.each h ?_) fun _ _ _ hu => hu.fields)
  intro r _ u hu
  split
  · exact hu.fields.ite hu
  · exact hu

theorem ringKey_cqErr : RingKey (cqeB + 0xC) ∧ RingKey (cqeB + 0x18) := ⟨ringKey_cqe (by decide), ringKey_cqe (by decide)⟩

theorem State.ringIrq_off {s t : State} (h : RegsOff RingKey s t) (c : Fin 8) : RegsOff RingKey s (t.ringIrq c) :=
  RegsOff.ite (RegsOff.edge h.fields _ fun _ => ringKey_of_int) h.fields

theorem State.writeCpl_off {s t : State} (h : RegsOff RingKey s t) (c : Fin 8) (cookie st tag : Nat) (quiet : Bool) (res : Nat) :
    RegsOff RingKey s (t.writeCpl c cookie st tag quiet res) := by
  have htail := t.rd_lt (cqeC c) CQE.CTX_CQT_TAIL
  have hslot : ∀ o, o < 8 → RingKey (cqSlot c (t.rd (cqeC c) CQE.CTX_CQT_TAIL) + o) := fun o ho => by
    have hkey : cqSlot c (t.rd (cqeC c) CQE.CTX_CQT_TAIL) + o = ck c + (cqeB + (0x200 + 8 * t.rd (cqeC c) CQE.CTX_CQT_TAIL + o)) := by
      rw [cqSlot]; omega
    exact hkey ▸ ringKey_ck c (ringKey_cqe (by change _ < 64 at htail; omega))
  have hctx : ∀ o, o < 0x20 → RingKey (cqeC c + o) := fun o ho => ringKey_cqeC c ho
  have hwords := (h.setW (BitVec.ofNat 32 (cookie + st * 0x10000 + tag * 0x1000000)) (hslot 0 (by decide))).setW (BitVec.ofNat 32 res)
    (hslot 4 (by decide))
  refine State.ringIrq_off (RegsOff.fields (RegsOff.count ?_ 5 130 (fun _ => ringKey_of_int) ⟨hctx 0x18 (by decide), hctx 0x18 (by decide)⟩
    ringKey_cqErr)) c
  exact (hwords.wr _ (hctx 0xC (by decide))).wr _ (hctx 0xC (by decide))

theorem State.complete_off {s t : State} (h : RegsOff RingKey s t) (k : Cmd) (st res : Nat) : RegsOff RingKey s (t.complete k st res) := by
  have hcopy : RegsOff RingKey s
      ({ t with cmds := t.cmds.filter (fun d => d.tag != k.tag) }.iff (k.op == 0x12) fun u => u.wr nvmB NVM.STATUS_COPYING 0) :=
    RegsOff.ite (h.fields.wr _ (by decide)) h.fields
  unfold State.complete State.completeB
  extract_lets s1 s2 s3
  have hs1 : RegsOff RingKey s s1 := hcopy
  have hs2 : RegsOff RingKey s s2 :=
    RegsOff.ite (State.writeCpl_off hs1 _ _ _ _ _ _) (hs1.err _ _ _ _ (fun _ => ringKey_of_int) ringKey_cqErr)
  have hs3 : RegsOff RingKey s s3 := (hs2.wr _ (ringKey_cqeC k.ctx (o := 0x18) (by decide))).wr _ (ringKey_cqe (o := 8) (by decide))
  exact State.dropOrg_off hs3 _

theorem State.actEnd_off {s t : State} (h : RegsOff RingKey s t) (ok : Bool) : RegsOff RingKey s (t.actEnd ok) := by
  have hldr : ∀ (u : State) (cause : Nat), RegsOff RingKey s u → RegsOff RingKey s (u.ldrDone cause) := fun u cause hu =>
    ((hu.wr _ (by decide)).wr _ (by decide)).wr _ (by decide)
  have hfail : ∀ (u : State) (cause : Nat), RegsOff RingKey s u → RegsOff RingKey s (u.actFail cause) := fun u cause hu => by
    unfold State.actFail
    split
    · exact State.complete_off hu _ _ _
    · exact hldr u cause hu
  unfold State.actEnd
  split
  · exact h
  · dsimp only
    refine RegsOff.ite (hfail _ _ h.fields) (RegsOff.ite ?_ (hfail _ _ h.fields))
    split
    · exact State.complete_off h.fields _ _ _
    · exact hldr _ _ h.fields

/-- The word of MODE keeps the cause of HOLD that is written last, and HOLD_INFO what it names. -/
theorem State.holdInfo_shows (t : State) {cause detail kind : Nat} (hcause : cause < 16) (hdetail : detail < 4096) (hkind : kind < 3)
    {u : State} (hu : (((t.wr devB DEV.MODE_HOLD_CAUSE cause).wr devB DEV.MODE_HOLD_DETAIL detail).wr devB DEV.HOLD_INFO_INDEX
      detail).wr devB DEV.HOLD_INFO_KIND kind = u) :
    u.mode = t.mode ∧ u.rd devB DEV.MODE_HOLD_CAUSE = cause ∧ u.rd devB DEV.HOLD_INFO_INDEX = detail ∧
    u.rd devB DEV.HOLD_INFO_KIND = kind := by
  subst hu
  refine ⟨?_, ?_, ?_, ?_⟩
  · simp only [State.mode]
    rw [State.rd_wr_apart _ _ _ _ _ _ (.inl (by decide)), State.rd_wr_apart _ _ _ _ _ _ (.inl (by decide)),
      State.rd_wr_apart _ _ _ _ _ _ (.inr (by decide)), State.rd_wr_apart _ _ _ _ _ _ (.inr (by decide))]
  · rw [State.rd_wr_apart _ _ _ _ _ _ (.inl (by decide)), State.rd_wr_apart _ _ _ _ _ _ (.inl (by decide)),
      State.rd_wr_apart _ _ _ _ _ _ (.inr (by decide)), State.rd_wr_eq _ _ _ _ (by decide)]
    exact Nat.mod_eq_of_lt hcause
  · rw [State.rd_wr_apart _ _ _ _ _ _ (.inr (by decide)), State.rd_wr_eq _ _ _ _ (by decide)]
    exact Nat.mod_eq_of_lt (Nat.lt_of_lt_of_le hdetail (by decide))
  · rw [State.rd_wr_eq _ _ _ _ (by decide)]
    exact Nat.mod_eq_of_lt (Nat.lt_of_lt_of_le hkind (by decide))

/-- Where a start ends in HOLD (R437, R449, R451). -/
theorem State.toHold_shows (s : State) {cause detail kind : Nat} (hcause : cause < 16) (hdetail : detail < 4096) (hkind : kind < 3) :
    (s.toHold cause detail kind).mode = mHOLD ∧ (s.toHold cause detail kind).rd devB DEV.MODE_HOLD_CAUSE = cause ∧
    (s.toHold cause detail kind).rd devB DEV.HOLD_INFO_INDEX = detail ∧ (s.toHold cause detail kind).rd devB DEV.HOLD_INFO_KIND = kind := by
  have hinfo : (if kind = 3 then 0 else detail) = detail := if_neg (by omega)
  have hmode := s.wakingEnds.setMode_mode (new := mHOLD) 4 (by decide)
  obtain ⟨hmodeIs, hcauseIs, hindexIs, hkindIs⟩ := State.holdInfo_shows (s.wakingEnds.setMode mHOLD 4) hcause hdetail hkind rfl
  have hend : RegsOff RingKey _ (s.toHold cause detail kind) := State.actEnd_off (RegsOff.refl RingKey _) false
  rw [hinfo] at hend
  exact ⟨(hend.mode (by decide)).trans (hmodeIs.trans hmode), (hend.rd _ _ (by decide)).trans hcauseIs,
    (hend.rd _ _ (by decide)).trans hindexIs, (hend.rd _ _ (by decide)).trans hkindIs⟩

/-- Settles O26. -/
theorem baleLoadSteps : Obligations.BaleLoadSteps := by
  unfold Obligations.BaleLoadSteps
  refine ⟨?_, ?_, ?_, ?_, ?_, ?_, ?_⟩
  · exact fun hits imon fail s hmode hboot heng => does_of_eq rfl (if_pos ⟨hmode, hboot, heng⟩)
  · exact fun hits imon fail s hmode => does_of_eq rfl (if_neg fun h => hmode h.1)
  · intro hits imon fail s g hg hbad hgood
    have hfind : (List.range 4).find? (fun g => !s.regValid g) = some g := by
      rw [List.find?_range_eq_some]
      exact ⟨by simp [hbad], List.mem_range.2 hg, fun h hh => by simp [hgood h hh]⟩
    simp [State.baleLoad, hfind]
  · intro hits imon fail s hgood h0 h1
    have hfind : (List.range 4).find? (fun g => !s.regValid g) = none := by
      rw [List.find?_eq_none]
      exact fun g hg => by simp [hgood g (List.mem_range.1 hg)]
    simp [State.baleLoad, hfind, h0, h1]
  · intro hits imon fail s n w hhalf
    simp [State.baleFrom, hhalf]
  · intro base nodes n i csel imon fail keys s haddr
    simp [State.baleRecs, haddr]
  · exact fun cause detail kind s hcause hdetail hkind => s.toHold_shows hcause hdetail hkind

end Sys2Proof.Machine
end

section
/-! SUPPORT. Conversions and accumulators (R276 to R282). -/

namespace Sys2Proof.Machine

open Sys2Proof

theorem State.acc_modAcc (s : State) (ch : Fin 192) (f : AccHid → AccHid) : (s.modAcc ch f).acc ch = f (s.acc ch) := by
  have hch : ch.val < s.accs.size := by simp
  simp [State.acc, State.modAcc]

theorem Told.acc {ks : Nat → Prop} {s u : State} (h : Told ks s u) (ch : Nat) : u.acc ch = s.acc ch := by
  have haccs := congrArg State.accs h.1
  rw [State.acc, haccs, State.acc]

/-- What a sample adds to an accumulator, its saturation apart (R282). -/
def accSampled (tick code cnt sum : Nat) (h : AccHid) : AccHid :=
  { accNew tick code h with cnt := cnt, sum := sum, mn := min h.mn code, mx := max h.mx code, empty := false }

/-- A sum is shown, and a full count told, from the registers alone. -/
theorem State.acc_shown (t : State) (full shown : Prop) [Decidable full] [Decidable shown] (sum cnt ch : Nat) :
    (if full then ((if shown then t.setResult ch sum cnt else t).setSat ch true).err (accPg ch) 0 108 (some 0) none
      else if shown then t.setResult ch sum cnt else t).acc ch = t.acc ch := by
  have hshown : (if shown then t.setResult ch sum cnt else t).acc ch = t.acc ch := by split <;> rfl
  split
  · exact ((err_told _ _ _ _ _ _).acc ch).trans hshown
  · exact hshown

theorem State.acc_accumulate {s : State} {ch : Fin 192} (hsync : s.accSync ch = s) (code : Nat) : (s.accumulate ch code).acc ch =
    accSampled s.tick code (if 0xFFFFFF ≤ (s.acc ch).cnt then (s.acc ch).cnt else (s.acc ch).cnt + 1)
      (if 0xFFFFFF ≤ (s.acc ch).cnt then (s.acc ch).sum else (s.acc ch).sum + code) (s.acc ch) := by
  have hmod := s.acc_modAcc ch (accSampled s.tick code (if 0xFFFFFF ≤ (s.acc ch).cnt then (s.acc ch).cnt else (s.acc ch).cnt + 1)
    (if 0xFFFFFF ≤ (s.acc ch).cnt then (s.acc ch).sum else (s.acc ch).sum + code))
  refine Eq.trans ?_ hmod
  unfold State.accumulate
  simp only [hsync, decide_eq_true_eq]
  exact State.acc_shown _ _ _ _ _ ch

theorem State.convAt_nextEntry (s : State) {v : Nat} (hv : v < 2) (k : Nat) : (s.nextEntry v k).convAt v =
    let start := if k = 0 then max (s.convAt v).1 ((s.convAt v).2 + 4 * s.rd (convCfg v) ADC.CONV_CFG_PER) else (s.convAt v).1
    (start + s.entryT v k, if k = 0 then start else (s.convAt v).2) := by
  obtain rfl | rfl : v = 0 ∨ v = 1 := by omega
  all_goals rfl

/-- The code of an uncorrected channel: rounded to 14 bits, and kept below 16384 (R276). -/
theorem correct_plain (raw : Nat) : (correct 0x8000 raw).1 = min 16383 ((raw + 8) / 16) := by
  have hgain : getBits (0x8000 : Word) 0 16 = 32768 := by decide
  have hoffset : signOf 16 (getBits (0x8000 : Word) 16 16) = 0 := by decide
  have hround : roundDiv ((raw : Int) * (32768 : Nat) + 0 * 32768) 524288 = ((raw + 8) / 16 : Nat) := by
    rw [roundDiv, if_pos (by omega)]
    omega
  rw [correct, hgain, hoffset, hround, clampI]
  dsimp only
  (repeat' split) <;> omega

theorem State.resSum_setResult (s : State) (ch : Nat) {sum : Nat} (cnt : Nat) (h : sum < 2 ^ 40) : (s.setResult ch sum cnt).resSum ch = sum := by
  rw [State.resSum, State.setResult]
  rw [State.getW_setW_eq, State.getW_setW_ne _ _ (by omega), State.getW_setW_eq]
  simp only [getBits, BitVec.toNat_ofNat, Nat.shiftRight_zero]
  omega

theorem State.resCnt_setResult (s : State) (ch : Nat) (sum : Nat) {cnt : Nat} (h : cnt < 2 ^ 24) : (s.setResult ch sum cnt).resCnt ch = cnt := by
  have hkey : accPg ch + 0x84 + 8 * accIx ch = accPg ch + 0x80 + 8 * accIx ch + 4 := by omega
  rw [State.resCnt, State.setResult, hkey]
  rw [State.getW_setW_eq]
  simp only [getBits, BitVec.toNat_ofNat, Nat.shiftRight_eq_div_pow]
  omega

/-- Settles O28. -/
theorem conversionRows : Obligations.ConversionRows := by
  unfold Obligations.ConversionRows
  refine ⟨?_, ?_, ?_, ?_, ?_, ?_, ?_, ?_, ?_, ?_, ?_⟩
  · rintro v raw ch s hon hready hurg hdue rfl hnext
    exact does_of_eq rfl ((if_pos ⟨hon, hready, hurg, hdue⟩).trans (if_pos hnext))
  · rintro v raw s hno
    refine does_of_eq rfl (if_neg fun ⟨hon, _, hurg, hdue⟩ => ?_)
    obtain hoff | hbusy | hearly := hno
    · exact Bool.false_ne_true (hoff.symm.trans hon)
    · exact hbusy hurg
    · exact Nat.not_le.2 hearly hdue
  · exact fun ch raw s => rfl
  · intro v k s hv hk
    rw [s.convAt_nextEntry hv k]
    simp [Nat.ne_of_gt hk]
  · intro v s hv
    rw [s.convAt_nextEntry hv 0]
    simp
  · exact fun raw => correct_plain raw.toNat
  · intro ch code s hsync hcnt
    rw [State.acc_accumulate hsync code, if_neg (by omega), if_neg (by omega)]
    exact ⟨rfl, rfl, rfl, rfl⟩
  · intro ch code s hsync hcnt
    rw [State.acc_accumulate hsync code, if_pos hcnt, if_pos hcnt]
    exact ⟨rfl, rfl⟩
  · intro ch s hwin hedge hbnd hup
    exact does_of_eq rfl ((if_pos hup).trans (if_neg (not_or.2 ⟨hwin, not_or.2 ⟨not_not_intro hedge, hbnd⟩⟩)))
  · intro ch s hno
    refine does_of_eq rfl ?_
    have hsync : s.accSync ch = s := if_pos hno
    rw [hsync, ite_self]
  · exact fun ch sum cnt s hsum hcnt => ⟨s.resSum_setResult ch cnt hsum, s.resCnt_setResult ch sum hcnt⟩

end Sys2Proof.Machine
end

section
/-! SUPPORT. Frames that are accepted (R314 to R317). -/

namespace Sys2Proof.Machine

open Sys2Proof

@[simp] theorem State.ctx_modCtx (s : State) (c : Fin 8) (g : CtxHid → CtxHid) : (s.modCtx c g).ctx c = g (s.ctx c) := by
  simp [State.ctx, State.modCtx]

theorem Told.ctx {ks : Nat → Prop} {s u : State} (h : Told ks s u) (c : Fin 8) : u.ctx c = s.ctx c := by
  have hctxs := congrArg State.ctxs h.1
  rw [State.ctx, hctxs, State.ctx]

/-- The words on MISO of a frame: the status word, then what the run answers, as many as were clocked. -/
def State.miso (s : State) (c : Fin 8) (f : Frame) (l : List Word) : List Word :=
  ((s.statusWord c :: l) ++ List.replicate f.words.length 0).take f.words.length

theorem State.frame_answers {s : State} {c : Fin 8} {op : Nat} {f : Frame} (run : State → List Word × State)
    (hans : s.answers c = true) (hof : f.of op = true) (hlow : f.low = []) :
    s.frame c op f run = (run s).2.answer c (s.miso c f (run s).1) := by
  have hcs : s.csBoth c f = s := by simp [State.csBoth, hlow]
  unfold State.frame
  rw [if_pos (by simp [hans, hof]), hcs]
  rfl

theorem Frame.seq_lt (f : Frame) : f.seq < 2 ^ 16 := Nat.mod_lt _ (by decide)

theorem Frame.addr_lt (f : Frame) : f.addr < 2 ^ 16 := Nat.mod_lt _ (by decide)

/-- A well-formed frame was not cut short, and has words. -/
theorem Frame.not_cut_of_ok {f : Frame} (h : f.form = fsOK) : f.cut = false := by
  unfold Frame.form at h
  split at h
  · cases h
  next hwhole =>
  split at h
  · cases h
  split at h
  · cases h
  next hshort =>
  simp only [Bool.not_eq_eq_eq_not, not_or, Bool.not_true, Bool.not_eq_false] at hwhole
  simp [Frame.cut, hwhole.2, hshort]

/-! An accepted frame (R314, R336). -/

theorem State.accept_told (s : State) (c : Fin 8) (seq : Nat) : Told (fun k => k / 0x400 = 3) s (s.accept c seq) := by
  have hblock : ∀ o, o < 0x10 → (hifC c + o) / 0x400 = 3 := fun o ho => by
    have hc := c.isLt
    simp only [hifC, hifB, pg]
    omega
  have hseq : RegsOnly (fun k => k / 0x400 = 3) s (s.wr (hifC c) HIF.CTX_SEQ_LAST seq) := RegsOnly.wr s seq (hblock 0 (by decide))
  refine Told.trans (RegsOnly.told (hseq.andWrB (b := hifB) (f := HIF.STATUS_UNSYNC.at (8 + c)) false (by decide : (hifB + 8) / 0x400 = 3))) ?_
  refine (count_told _ (hifC c) HIF.CTX_FRM_FRAMES HIF.CTX_FRM_SAT hifB 3 129).mono ?_
  rintro k (rfl | rfl | rfl | rfl)
  · exact hblock 0xC (by decide)
  · exact hblock 0xC (by decide)
  · decide
  · decide

theorem hifC_add_ne_hifB_add (c : Nat) {o o' : Nat} (ho' : o' < 0x80) : hifC c + o ≠ hifB + o' := by
  rw [hifC]; omega

theorem State.rd_accept_seq (s : State) (c : Fin 8) {seq : Nat} (h : seq < 2 ^ 16) : (s.accept c seq).rd (hifC c) HIF.CTX_SEQ_LAST = seq := by
  have hhif : ∀ o, o < 0x80 → hifC c ≠ hifB + o := fun o ho => hifC_add_ne_hifB_add c (o := 0) ho
  have hint : intKey (hifC c) = false := by
    have hc := c.isLt
    simp only [intKey, hifC, hifB, pg, beq_eq_false_iff_ne]
    omega
  refine ((count_told _ (hifC c) HIF.CTX_FRM_FRAMES HIF.CTX_FRM_SAT hifB 3 129).rd (hifC c) HIF.CTX_SEQ_LAST hint ?_).trans ?_
  · have hseq : hifC c + HIF.CTX_SEQ_LAST.off = hifC c := rfl
    rw [hseq]
    rintro (he | he | he | he)
    · exact absurd he (by simp [HIF.CTX_FRM_FRAMES])
    · exact absurd he (by simp [HIF.CTX_FRM_SAT])
    · exact hhif _ (by decide) he
    · exact hhif _ (by decide) he
  · rw [State.wrB_eq, State.rd_wr_ne _ _ _ _ _ _ (hhif 8 (by decide)), State.rd_wr_eq _ _ _ _ (by decide)]
    exact Nat.mod_eq_of_lt h

/-- The end of an accepted frame keeps its status and its sequence number for the next status word (R317). -/
theorem State.frameEnd_plain (s : State) (c : Fin 8) (f : Frame) (st : Nat) :
    s.frameEnd c f st false = s.modCtx c fun h => { h with lastSt := st, lastSeq := f.seqSeen } := rfl

theorem State.writeRun_ok {s : State} {c : Fin 8} {f : Frame} (hkey : f.rstKey = false) (hst : s.writeStatus c f = (fsOK, false)) :
    s.writeRun c f = ((s.writeRegs c f f.writes).accept c f.seq).frameEnd c f fsOK false := by
  simp [State.writeRun, hkey, hst]

@[simp] theorem State.rd_modCtx (s : State) (c : Fin 8) (g : CtxHid → CtxHid) (b : Nat) (f : Fld) : (s.modCtx c g).rd b f = s.rd b f := rfl

/-- What an accepted frame shows that has left `t`. -/
theorem State.accepted_shows (t : State) (c : Fin 8) (f : Frame) (d : List Word) {u : State}
    (hu : ((t.accept c f.seq).frameEnd c f fsOK false).answer c d = u) :
    u.rd (hifC c) HIF.CTX_SEQ_LAST = f.seq ∧
    u.ctx c = { t.ctx c with lastSt := fsOK, lastSeq := f.seqSeen, data := d } ∧ u.nvm = t.nvm ∧ u.cmds = t.cmds ∧
    ∀ k, k / 0x400 ≠ 0x03 → intKey k = false → u.getW k = t.getW k := by
  have htold := t.accept_told c f.seq
  obtain ⟨-, hnvm, -, hcmds, -⟩ := htold.fields
  have hseq := t.rd_accept_seq c (Frame.seq_lt f)
  have hctx := htold.ctx c
  generalize t.accept c f.seq = v at *
  subst hu
  refine ⟨hseq, ?_, hnvm, hcmds, fun k hk hint => htold.2 k hint hk⟩
  rw [← hctx, State.answer, State.frameEnd_plain, State.ctx_modCtx, State.ctx_modCtx]

/-- What the run of a WRITE shows once its words have been written (R314, R315, R317). -/
theorem State.writeRun_shows {s : State} {c : Fin 8} {f : Frame} (d : List Word) (hkey : f.rstKey = false)
    (hst : s.writeStatus c f = (fsOK, false)) {u : State} (hu : (s.writeRun c f).answer c d = u) :
    u.rd (hifC c) HIF.CTX_SEQ_LAST = f.seq ∧ (u.ctx c).lastSt = fsOK ∧ (u.ctx c).lastSeq = f.seqSeen ∧
    u.nvm = (s.writeRegs c f f.writes).nvm ∧ ∀ k, k / 0x400 ≠ 0x03 → intKey k = false → u.getW k = (s.writeRegs c f f.writes).getW k := by
  rw [State.writeRun_ok hkey hst] at hu
  obtain ⟨hseq, hctx, hnvm, -, hgetW⟩ := State.accepted_shows _ c f d hu
  rw [hctx]
  exact ⟨hseq, rfl, rfl, hnvm, hgetW⟩

theorem State.readRun_ok {s : State} {c : Fin 8} {f : Frame} (hform : f.form = fsOK) (hlate : f.late = false)
    (hst : s.readStatus c f fsOK = (fsOK, false)) :
    s.readRun c f = (readMiso fsOK f.seq (s.readDo c f).1, ((s.readDo c f).2.accept c f.seq).frameEnd c f fsOK false) := by
  simp [State.readRun, Frame.not_cut_of_ok hform, hform, hlate, hst]

theorem State.readStatus_ok {s : State} {c : Fin 8} {f : Frame} (hquar : s.quar c = false) (hseq : s.seqCheck c f.seq = fsOK)
    (hread : s.readCheck f.addr f.len = (fsOK, false)) : s.readStatus c f fsOK = (fsOK, false) := by
  simp [State.readStatus, hquar, hseq, hread]

theorem State.bellRun_ok {s : State} {c : Fin 8} {f : Frame} (hst : s.bellStatus c f = (fsOK, false)) : s.bellRun c f =
    ((((s.wr (cqeC c) CQE.CTX_SQT_TAIL (f.addr % 64)).wr (cqeC c) CQE.CTX_SQT_WAIT
      (s.rd (cqeC c) CQE.CTX_SQT_WAIT + (entriesOf f.payload).length)).modCtx c
        (fun h => { h with sq := h.sq ++ entriesOf f.payload })).accept c f.seq).frameEnd c f fsOK false := by
  simp [State.bellRun, hst]

/-- A doorbell's payload holds an entry in four words. -/
theorem entriesOf_length_le (l : List Word) : (entriesOf l).length ≤ l.length / 4 := by
  induction l using entriesOf.induct with
  | case1 a b c d t ih =>
    simp only [entriesOf, List.length_cons]
    omega
  | case2 l hl =>
    rw [entriesOf.eq_2 l hl]
    simp

/-- A well-formed frame of a row for opcode `op` has that opcode, for no other opcode gives a trailer's place (R312). -/
theorem Frame.op_of_ok {f : Frame} {op : Nat} (hof : f.of op = true) (hform : f.form = fsOK) : f.op = op ∧ f.words.isEmpty = false := by
  unfold Frame.form at hform
  split at hform
  · cases hform
  next hwords =>
  split at hform
  · cases hform
  next hpay =>
  obtain ⟨hne, -⟩ := not_or.1 hwords
  have hwordsIs : f.words.isEmpty = false := Bool.eq_false_iff.2 hne
  refine ⟨?_, hwordsIs⟩
  have hother : ¬ (f.op = 0 ∨ 6 ≤ f.op) := fun h => hpay (by
    unfold Frame.pay
    rw [hwordsIs, if_neg Bool.false_ne_true, if_neg (by omega), if_neg (by omega), if_neg (by omega), if_neg (by omega), if_neg (by omega)]
    rfl)
  simp only [Frame.of, hwordsIs, Bool.false_or, Bool.or_eq_true, beq_iff_eq, decide_eq_true_eq] at hof
  omega

theorem Frame.bell_payload {f : Frame} (hof : f.of 4 = true) (hform : f.form = fsOK) : f.payload.length ≤ f.len := by
  obtain ⟨hop, hwords⟩ := Frame.op_of_ok hof hform
  have hpay : f.pay.getD 0 ≤ f.len := by
    unfold Frame.pay
    simp only [hwords, hop]
    (repeat' split) <;> simp_all
  exact Nat.le_trans (List.length_take_le _ _) hpay

/-- The entries of a doorbell that the ring has room for. -/
theorem State.bell_shows (s : State) (c : Fin 8) {tail wait : Nat} (q : CtxHid → CtxHid) (htail : tail < 2 ^ 6) (hwait : wait < 2 ^ 7)
    {t : State} (ht : ((s.wr (cqeC c) CQE.CTX_SQT_TAIL tail).wr (cqeC c) CQE.CTX_SQT_WAIT wait).modCtx c q = t) :
    t.rd (cqeC c) CQE.CTX_SQT_TAIL = tail ∧ t.rd (cqeC c) CQE.CTX_SQT_WAIT = wait ∧ t.ctx c = q (s.ctx c) ∧ t.cmds = s.cmds := by
  subst ht
  refine ⟨?_, ?_, State.ctx_modCtx _ c q, rfl⟩
  · rw [State.rd_modCtx, State.rd_wr_apart _ _ _ _ _ _ (.inr (by decide)), State.rd_wr_eq _ _ _ _ (by decide)]
    exact Nat.mod_eq_of_lt htail
  · rw [State.rd_modCtx, State.rd_wr_eq _ _ _ _ (by decide)]
    exact Nat.mod_eq_of_lt hwait

/-- Settles O32. -/
theorem acceptedFrames : Obligations.AcceptedFrames := by
  unfold Obligations.AcceptedFrames
  refine ⟨?_, ?_, ?_, ?_, ?_⟩
  · intro c f s hans hof hlow hkey hst
    exact effect_of_eq rfl (State.frame_answers _ hans hof hlow) (State.writeRun_shows _ hkey hst rfl)
  · intro c f s hans hof hlow hkey hst
    exact effect_of_eq rfl (State.frame_answers _ hans hof hlow) (State.writeRun_shows _ hkey hst rfl)
  · intro c f s hans hof hlow hform hlate hquar hseq hread
    refine effect_of_eq rfl ((State.frame_answers _ hans hof hlow).trans
      (by rw [State.readRun_ok hform hlate (State.readStatus_ok hquar hseq hread)])) ?_
    obtain ⟨hseqLast, hctx, -⟩ := State.accepted_shows (s.readDo c f).2 c f (s.miso c f (readMiso fsOK f.seq (s.readDo c f).1)) rfl
    refine ⟨hseqLast, ?_⟩
    rw [hctx]
    refine ⟨rfl, ?_, rfl⟩
    rw [State.readDo, State.ctx_modCtx]
  · intro c f s hans hof hlow hform hquar hseq hwaking hlockout hring hserved hsize htail hroom
    have hst : s.bellStatus c f = (fsOK, false) := by
      simp [State.bellStatus, hquar, hform, hseq, hwaking, hlockout, hring, hserved, Nat.not_le.2 hsize, ← htail, Nat.not_lt.2 hroom]
    have hlen := Nat.le_trans (entriesOf_length_le f.payload) (Nat.div_le_div_right (c := 4) (Frame.bell_payload hof hform))
    have hsq : s.sqSize c ≤ 64 := by
      rw [State.sqSize, size64]
      (repeat' split) <;> omega
    refine effect_of_eq rfl ((State.frame_answers _ hans hof hlow).trans (by rw [State.bellRun_ok hst])) ?_
    generalize hbell : ((s.wr (cqeC c) CQE.CTX_SQT_TAIL (f.addr % 64)).wr (cqeC c) CQE.CTX_SQT_WAIT
      (s.rd (cqeC c) CQE.CTX_SQT_WAIT + (entriesOf f.payload).length)).modCtx c
        (fun h => { h with sq := h.sq ++ entriesOf f.payload }) = t
    obtain ⟨htailIs, hwaitIs, hctxIs, hcmdsIs⟩ := s.bell_shows c _ (Nat.mod_lt _ (by decide)) (by omega) hbell
    obtain ⟨hseqLast, hctx, -, hcmds, hgetW⟩ := State.accepted_shows t c f (s.miso c f []) rfl
    have hcqe : ∀ o, o < 0x20 → intKey (cqeC c + o) = false ∧ ¬ (cqeC c + o) / 0x400 = 3 := fun o ho => by
      have hc := c.isLt
      simp only [intKey, cqeC, cqeB, pg, beq_eq_false_iff_ne]
      omega
    have hsqt := hgetW (cqeC c + 8) (hcqe 8 (by decide)).2 (hcqe 8 (by decide)).1
    refine ⟨?_, ?_, ?_, hseqLast, ?_, hcmds.trans hcmdsIs⟩
    · rw [hctx, hctxIs]
    · exact (congrArg (fun w => getBits w _ _) hsqt).trans htailIs
    · exact (congrArg (fun w => getBits w _ _) hsqt).trans hwaitIs
    · rw [hctx]
  · intro c f s hans hof hlow hform
    refine effect_of_eq (u := (s.frameEnd c f fsOK false).answer c (s.miso c f [])) rfl
      ((State.frame_answers _ hans hof hlow).trans ?_) ⟨?_, ?_, rfl⟩
    · simp [State.statusRun, hform]
    all_goals simp [State.answer, State.frameEnd_plain, State.miso]

end Sys2Proof.Machine
end

section
/-! SUPPORT. Frames that take no effect, and the reset of a context (R314, R322 to R324). -/

namespace Sys2Proof.Machine

open Sys2Proof

/-- The end of a frame that changes nothing but what its context's next status word reports. -/
theorem State.frameEnd_onlyStatus (s : State) (c : Fin 8) (f : Frame) (st : Nat) (d : List Word) {u : State}
    (hu : (s.frameEnd c f st false).answer c d = u) : (u.ctx c).lastSt = st ∧ u = { s with ctxs := u.ctxs } := by
  subst hu
  exact ⟨by simp [State.answer, State.frameEnd_plain], rfl⟩

/-- Where each opcode's run ends the frame with one status, its row does (R314, R323). -/
theorem effect_onlyStatus {c : Fin 8} {f : Frame} {s : State} {op : Nat} {i : Instr} {st : Nat} (hans : s.answers c = true)
    (hof : f.of op = true) (hlow : f.low = [])
    (hrow : op = 1 ∧ i = .read c f ∨ op = 2 ∧ i = .write c f ∨ op = 3 ∧ i = .writeMasked c f ∨ op = 4 ∧ i = .doorbell c f)
    (hread : (s.readRun c f).2 = s.frameEnd c f st false) (hwrite : s.writeRun c f = s.frameEnd c f st false)
    (hbell : s.bellRun c f = s.frameEnd c f st false) :
    Effect i s fun u => (u.ctx c).lastSt = st ∧ u = { s with ctxs := u.ctxs } := by
  obtain ⟨rfl, rfl⟩ | ⟨rfl, rfl⟩ | ⟨rfl, rfl⟩ | ⟨rfl, rfl⟩ := hrow
  · exact effect_of_eq rfl (State.frame_answers _ hans hof hlow) (s.frameEnd_onlyStatus c f st _ (by rw [← hread]))
  · exact effect_of_eq rfl (State.frame_answers _ hans hof hlow) (s.frameEnd_onlyStatus c f st _ (by rw [← hwrite]))
  · exact effect_of_eq rfl (State.frame_answers _ hans hof hlow) (s.frameEnd_onlyStatus c f st _ (by rw [← hwrite]))
  · exact effect_of_eq rfl (State.frame_answers _ hans hof hlow) (s.frameEnd_onlyStatus c f st _ (by rw [← hbell]))

section

variable {s : State} {c : Fin 8} {f : Frame}

/-! Quarantine (R323). -/

theorem State.readRun_quar (hquar : s.quar c = true) : (s.readRun c f).2 = s.frameEnd c f fsQUAR false := by
  simp [State.readRun, State.readStatus, hquar]

theorem State.writeRun_quar (hquar : s.quar c = true) (hkey : f.rstKey = false) : s.writeRun c f = s.frameEnd c f fsQUAR false := by
  simp [State.writeRun, State.writeStatus, hquar, hkey]

theorem State.bellRun_quar (hquar : s.quar c = true) : s.bellRun c f = s.frameEnd c f fsQUAR false := by
  simp [State.bellRun, State.bellStatus, hquar]

/-! A repeat (R314). -/

theorem isViol_repeat : isViol fsREPEAT = false := rfl

theorem State.readRun_repeat (hquar : s.quar c = false) (hform : f.form = fsOK) (hseq : s.seqCheck c f.seq = fsREPEAT) :
    (s.readRun c f).2 = s.frameEnd c f fsREPEAT false := by
  simp [State.readRun, State.readStatus, hquar, Frame.not_cut_of_ok hform, hform, hseq, isViol_repeat]

theorem State.writeRun_repeat (hquar : s.quar c = false) (hform : f.form = fsOK) (hrst : f.toRst = false)
    (hseq : s.seqCheck c f.seq = fsREPEAT) : s.writeRun c f = s.frameEnd c f fsREPEAT false := by
  simp [State.writeRun, State.writeStatus, Frame.rstKey, hquar, hform, hrst, hseq, isViol_repeat]

theorem State.bellRun_repeat (hquar : s.quar c = false) (hform : f.form = fsOK) (hseq : s.seqCheck c f.seq = fsREPEAT) :
    s.bellRun c f = s.frameEnd c f fsREPEAT false := by
  simp [State.bellRun, State.bellStatus, hquar, hform, hseq, isViol_repeat]

theorem State.writeRun_crc (hquar : s.quar c = false) (hform : f.form = fsCRC) : s.writeRun c f = s.frameEnd c f fsCRC true := by
  simp [State.writeRun, State.writeStatus, hquar, hform]

end

/-! The arbiter's grants, taken from a context (R350). -/

/-- `u` has the contexts' own state of `s`, and outside the rings' pages, the arbiter's, the interrupt controller's and NVM's its
registers. -/
structure State.DropOnly (s u : State) : Prop where
  off : RegsOff RingKey s u
  ctxs : u.ctxs = s.ctxs
  cmds : u.cmds = s.cmds
  nvm : u.nvm = s.nvm

namespace State.DropOnly

variable {s t : State}

theorem refl (s : State) : s.DropOnly s := ⟨RegsOff.refl _ s, rfl, rfl, rfl⟩

theorem told {ks : Nat → Prop} {u : State} (h : s.DropOnly t) (ht : Told ks t u) (hk : ∀ k, ks k → RingKey k) : s.DropOnly u := by
  have hctxs := congrArg State.ctxs ht.1
  obtain ⟨-, hnvm, -, hcmds, -⟩ := ht.fields
  exact ⟨h.off.told (ht.mono hk) fun _ => ringKey_of_int, hctxs.trans h.ctxs, hcmds.trans h.cmds, hnvm.trans h.nvm⟩

theorem each {l : List Nat} {f : Nat → State → State} (h : s.DropOnly t)
    (hf : ∀ i ∈ l, ∀ u, s.DropOnly u → s.DropOnly (f i u)) : s.DropOnly (t.each l f) := by
  induction l generalizing t with
  | nil => exact h
  | cons i l ih => exact ih (hf i (by simp) t h) fun j hj => hf j (by simp [hj])

theorem setGrant (h : s.DropOnly t) (r : Nat) (g : Option Grant) : s.DropOnly (t.setGrant r g) := ⟨h.off.fields, h.ctxs, h.cmds, h.nvm⟩

theorem setQueue (h : s.DropOnly t) (g : Nat) (q : List Req) : s.DropOnly (t.setQueue g q) := ⟨h.off.fields, h.ctxs, h.cmds, h.nvm⟩

theorem setDoomed (h : s.DropOnly t) (l : List (Nat × Nat)) : s.DropOnly { t with doomed := l } :=
  ⟨h.off.fields, h.ctxs, h.cmds, h.nvm⟩

theorem arbShow (h : s.DropOnly t) : s.DropOnly t.arbShow := h.told t.arbShow_only.told fun _ hk => hk

theorem revoke_direct {r : Nat} {g : Grant} (h : s.DropOnly t) (hr : r < 9) (prog : Nat) (hg : t.grantOf r = some g)
    (ho : g.org = .direct) : s.DropOnly (t.revoke r prog false) := by
  rw [State.revoke_direct prog hg ho]
  have hres : ∀ f : Fld, f.off = 0 → RingKey (resB r + f.off) := fun f hf => .inr (.inl (by simp only [resB, arbB, pg]; omega))
  have hself : RingKey (ck g.who + arbB + ARB.SELF_GNT_REVOKED_EV.off) :=
    .inr (.inl (by simp only [ck, arbB, pg, ARB.SELF_GNT_REVOKED_EV]; omega))
  have hcount : s.DropOnly (t.count (resB r) ARB.RES_STAT_REVOKES ARB.RES_STAT_SAT arbB 3 131) := by
    refine h.told (count_told _ _ _ _ _ _ _) ?_
    rintro k (rfl | rfl | rfl | rfl)
    · exact hres _ rfl
    · exact hres _ rfl
    · decide
    · decide
  have htold := (hcount.setGrant r none).told (RegsOnly.wr _ 1 hself).told fun _ hk => hk
  exact (htold.told (irq_told _ arbB 17 131) (by rintro k rfl; decide)).arbShow

theorem doomedEnd {p : Nat × Nat} (h : s.DropOnly t) (hp : p.1 < 9) : s.DropOnly (t.doomedEnd p) := by
  unfold State.doomedEnd
  extract_lets holds
  split
  · exact h.setDoomed _
  next hnot =>
    split
    · cases hg : t.grantOf p.1 with
      | none => simp [holds, hg] at hnot
      | some g =>
        have hdirect : g.who = p.2 ∧ g.org = .direct := by simpa [holds, hg] using hnot
        exact (h.setDoomed _).revoke_direct hp 0 hg hdirect.2
    · exact h

theorem directDrop (h : s.DropOnly t) (n : Nat) : s.DropOnly (t.directDrop n) := by
  refine ((h.each fun r hr u hu => ?_).each fun g _ u hu => hu.setQueue g _).arbShow
  have hr9 : r < 9 := by
    simp only [List.mem_cons, List.not_mem_nil, or_false] at hr
    omega
  split
  · exact (hu.setDoomed _).doomedEnd hr9
  · exact hu

end State.DropOnly

/-! A violation (R322). -/

theorem State.bit_at_of_getW {s u : State} {b : Nat} {f : Fld} (h : u.getW (b + f.off) = s.getW (b + f.off)) : u.bit b f = s.bit b f := by
  rw [State.bit, State.rd, h]
  rfl

theorem State.rd_of_getW {s u : State} {b : Nat} {f : Fld} (h : u.getW (b + f.off) = s.getW (b + f.off)) : u.rd b f = s.rd b f := by
  rw [State.rd, h]
  rfl

theorem hifC_not_int (c : Fin 8) {o : Nat} (ho : o < 0x10) : intKey (hifC c + o) = false ∧ ¬ RingKey (hifC c + o) := by
  have hc := c.isLt
  simp only [intKey, RingKey, hifC, hifB, pg, beq_eq_false_iff_ne]
  omega

/-- Of the registers, `u` has at `k` that of `s`; and context `c`'s violation window as in `s`. -/
structure State.KeepsRecord (k : Nat) (c : Fin 8) (s u : State) : Prop where
  word : u.getW k = s.getW k
  vwin : (u.ctx c).vwin = (s.ctx c).vwin

namespace State.KeepsRecord

variable {k : Nat} {c : Fin 8} {s t : State}

theorem refl (k : Nat) (c : Fin 8) (s : State) : State.KeepsRecord k c s s := ⟨rfl, rfl⟩

theorem told {ks : Nat → Prop} {u : State} (h : State.KeepsRecord k c s t) (ht : Told ks t u) (hint : intKey k = false) (hk : ¬ ks k) :
    State.KeepsRecord k c s u := ⟨(ht.2 k hint hk).trans h.word, (congrArg CtxHid.vwin (ht.ctx c)).trans h.vwin⟩

theorem dropOnly {u : State} (h : State.KeepsRecord k c s t) (ht : t.DropOnly u) (hk : ¬ RingKey k) : State.KeepsRecord k c s u :=
  ⟨(ht.off k hk).trans h.word, by rw [State.ctx, ht.ctxs]; exact h.vwin⟩

end State.KeepsRecord

/-- Quarantine leaves the record of the violation. -/
theorem State.quarantine_keepsRecord {s t : State} {c : Fin 8} (h : State.KeepsRecord (hifC c + 8) c s t) :
    State.KeepsRecord (hifC c + 8) c s (t.quarantine c) := by
  obtain ⟨hint, hring⟩ := hifC_not_int c (show 8 < 0x10 by decide)
  have hhif : ∀ o, o < 0x80 → hifC c + 8 ≠ hifB + o := fun o ho => hifC_add_ne_hifB_add c ho
  have hquar := h.told (RegsOnly.wr (ks := fun k => k = hifB + 8) (b := hifB) (f := HIF.STATUS_QUAR.at c) t 1 rfl).told hint (hhif 8 (by decide))
  have herr := hquar.told (err_told _ hifB 1 129 (some (t.rd hifB HIF.CFG_QCLS)) none) hint
    (not_or.2 ⟨hhif _ (by decide), hhif _ (by decide)⟩)
  exact herr.dropOnly ((State.DropOnly.refl _).directDrop c) hring

/-- What a violation records of its frame, the first or a later one of its window (R322). -/
theorem State.violation_shows (s : State) (c : Fin 8) {st addr : Nat} (hst : st < 2 ^ 8) (haddr : addr < 2 ^ 16) :
    (s.violation c st addr).rd (hifC c) HIF.CTX_LAST_CODE = st ∧ (s.violation c st addr).rd (hifC c) HIF.CTX_LAST_ADDR = addr ∧
    ((s.violation c st addr).ctx c).vwin = true := by
  obtain ⟨hint, hring⟩ := hifC_not_int c (show 8 < 0x10 by decide)
  have hhif : ∀ o, o < 0x80 → hifC c + 8 ≠ hifB + o := fun o ho => hifC_add_ne_hifB_add c ho
  have herrKey : ¬ (hifC c + 8 = hifB + 0xC ∨ hifC c + 8 = hifB + 0x18) := not_or.2 ⟨hhif _ (by decide), hhif _ (by decide)⟩
  unfold State.violation
  extract_lets s1 s2 s3 s4
  have h3 : s3.getW (hifC c + 8) = s2.getW (hifC c + 8) := by
    unfold s3
    split
    · exact (errQ_told s2 hifB 0 129).2 _ hint herrKey
    · exact (err_told s2 hifB 0 129 _ _).2 _ hint herrKey
  have h4 : State.KeepsRecord (hifC c + 8) c s4 s4 := .refl _ _ _
  have hword4 : s4.getW (hifC c + 8) = s2.getW (hifC c + 8) :=
    ((bump_only _ (hifC c) HIF.CTX_VIOL_WINCNT).2 _ (by simp [HIF.CTX_VIOL_WINCNT])).trans h3
  have hvwin4 : (s4.ctx c).vwin = true := by
    have hopen : ((s3.modCtx c fun h => { h with vwin := true }).ctx c).vwin = true := by rw [State.ctx_modCtx]
    exact (congrArg CtxHid.vwin ((bump_only _ (hifC c) HIF.CTX_VIOL_WINCNT).told.ctx c)).trans hopen
  have hend : State.KeepsRecord (hifC c + 8) c s4
      (if orIf0 (s.rd hifB HIF.CFG_VTHR) 1 ≤ s4.rd (hifC c) HIF.CTX_VIOL_WINCNT ∧ !s.quar c then s4.quarantine c else s4) := by
    split
    · exact State.quarantine_keepsRecord h4
    · exact h4
  refine ⟨?_, ?_, hend.vwin.trans hvwin4⟩
  · refine (State.rd_of_getW (f := HIF.CTX_LAST_CODE) (hend.word.trans hword4)).trans ?_
    rw [State.rd_wr_apart _ _ _ _ _ _ (.inr (by decide)), State.rd_wr_eq _ _ _ _ (by decide)]
    exact Nat.mod_eq_of_lt hst
  · refine (State.rd_of_getW (f := HIF.CTX_LAST_ADDR) (hend.word.trans hword4)).trans ?_
    rw [State.rd_wr_eq _ _ _ _ (by decide)]
    exact Nat.mod_eq_of_lt haddr

/-! The reset of a context (R324). -/

theorem State.nvm_lockPages (s : State) (c : Nat) : (s.lockPages c).nvm = s.nvm :=
  (State.Keeps.each (ks := fun _ => True) (State.Keeps.refl _ s) fun _ _ _ hu => hu.wr _ trivial).nvm

/-- A context's reset once its registers stand at their reset words. -/
def State.ctxCleared (s : State) (c : Fin 8) : State :=
  (((s.wrB hifB (HIF.STATUS_QUAR.at c) false).wrB hifB (HIF.STATUS_UNSYNC.at (8 + c)) true).wr (cqeC c) CQE.CTX_STAT_COMPLETED 0).wr
    (cqeC c) CQE.CTX_STAT_SAT 0

/-- Its commands go on dead, and its freeze and latch close. -/
def State.ctxForgotten (s : State) (c : Fin 8) : State :=
  let t := s.modCtx c (fun _ => CtxHid.reset)
  ({ t with cmds := t.cmds.map (fun (k : Cmd) => if k.ctx = c then { k with live := false } else k) }.unfreeze c).setLatch c none

theorem State.ctxReset_eq (s : State) (c : Fin 8) : s.ctxReset c =
    let t := ((((s.directDrop c).lockPages c).resetKeys (ctxKey c)).ctxCleared c).ctxForgotten c
    (if t.rd rtcB RTC.PEND_CTX = c.val then t.unpend else t).arbShow.intRefresh c := by
  unfold State.ctxReset State.ctxForgotten State.ctxCleared
  rfl

theorem State.ctxForgotten_shows (s : State) (c : Fin 8) : (s.ctxForgotten c).ctx c = CtxHid.reset ∧
    (∀ k ∈ (s.ctxForgotten c).cmds, k.ctx = c → k.live = false) ∧ (s.ctxForgotten c).regs = s.regs ∧ (s.ctxForgotten c).nvm = s.nvm := by
  refine ⟨s.ctx_modCtx c fun _ => CtxHid.reset, ?_, rfl, rfl⟩
  intro k hk hkc
  obtain ⟨d, -, rfl⟩ := List.mem_map.1 hk
  split at hkc
  · next hin => rw [if_pos hin]
  · next hout => exact absurd hkc (by simpa using hout)

theorem State.ctxCleared_shows (s : State) (c : Fin 8) : (s.ctxCleared c).quar c = false ∧
    (s.ctxCleared c).bit hifB (HIF.STATUS_UNSYNC.at (8 + c)) = true ∧ (s.ctxCleared c).nvm = s.nvm := by
  have hc := c.isLt
  have hcq : hifB + 8 ≠ cqeC c + 0x18 := by simp only [hifB, cqeC, cqeB, pg]; omega
  have hword : (s.ctxCleared c).getW (hifB + 8) =
      ((s.wrB hifB (HIF.STATUS_QUAR.at c) false).wrB hifB (HIF.STATUS_UNSYNC.at (8 + c)) true).getW (hifB + 8) :=
    (State.getW_wr_ne _ 0 hcq).trans (State.getW_wr_ne _ 0 hcq)
  refine ⟨(State.bit_at_of_getW (f := HIF.STATUS_QUAR.at c) hword).trans ?_,
    (State.bit_at_of_getW (f := HIF.STATUS_UNSYNC.at (8 + c)) hword).trans ?_, rfl⟩
  · rw [State.wrB_eq _ _ _ true, State.bit_wr_apart _ _ _ _ _ _ (.inr ⟨?_, .inl ?_⟩)]
    · exact State.bit_wrB _ _ _ _ (show 0 < 1 by decide) (by simp only [Fld.at, HIF.STATUS_QUAR]; omega)
    · simp only [Fld.at, HIF.STATUS_QUAR]; omega
    · simp only [Fld.at, HIF.STATUS_QUAR, HIF.STATUS_UNSYNC]; omega
  · exact State.bit_wrB _ _ _ _ (show 0 < 1 by decide) (by simp only [Fld.at, HIF.STATUS_UNSYNC]; omega)

/-- The pages of the arbiter, the interrupts and the calendar follow the reset of a context. -/
theorem State.ctxReset_only (s : State) (c : Fin 8) : RegsOnly (fun k => RingKey k ∨ k = rtcB + RTC.PEND_HELD.off)
    (((((s.directDrop c).lockPages c).resetKeys (ctxKey c)).ctxCleared c).ctxForgotten c) (s.ctxReset c) := by
  rw [State.ctxReset_eq]
  generalize ((((s.directDrop c).lockPages c).resetKeys (ctxKey c)).ctxCleared c).ctxForgotten c = t
  dsimp only
  have hpend : RegsOnly (fun k => RingKey k ∨ k = rtcB + RTC.PEND_HELD.off) t (if t.rd rtcB RTC.PEND_CTX = c.val then t.unpend else t) :=
    RegsOnly.ite _ (RegsOnly.wr _ _ (.inr rfl)) (RegsOnly.refl _ _)
  generalize (if t.rd rtcB RTC.PEND_CTX = c.val then t.unpend else t) = v at hpend ⊢
  refine (hpend.trans (v.arbShow_only.mono fun _ hk => .inl hk)).trans ((intRefresh_views v.arbShow c).mono ?_)
  have hc := c.isLt
  rintro k (rfl | rfl)
  · exact .inl (.inr (.inr (.inl (by simp only [intC, ck, intB, pg]; omega))))
  · exact .inl (by decide)

/-- What the reset of a context leaves of it. -/
theorem State.ctxReset_shows (s : State) (c : Fin 8) : (s.ctxReset c).ctx c = CtxHid.reset ∧ (s.ctxReset c).quar c = false ∧
    (s.ctxReset c).bit hifB (HIF.STATUS_UNSYNC.at (8 + c)) = true ∧ (∀ k ∈ (s.ctxReset c).cmds, k.ctx = c → k.live = false) ∧
    (s.ctxReset c).nvm = s.nvm := by
  have honly := s.ctxReset_only c
  have hnvm0 : (((s.directDrop c).lockPages c).resetKeys (ctxKey c)).nvm = s.nvm :=
    (State.nvm_lockPages _ c).trans ((State.DropOnly.refl s).directDrop c).nvm
  generalize ((s.directDrop c).lockPages c).resetKeys (ctxKey c) = v at honly hnvm0
  obtain ⟨hquar, hunsync, hnvm1⟩ := v.ctxCleared_shows c
  generalize v.ctxCleared c = w at *
  obtain ⟨hctx, hcmdsAll, hregs, hnvm2⟩ := w.ctxForgotten_shows c
  obtain ⟨-, hnvm, -, hcmds, -⟩ := honly.told.fields
  have hword : (s.ctxReset c).getW (hifB + 8) = w.getW (hifB + 8) := by
    rw [honly.2 _ (by decide), State.getW, hregs]
    rfl
  exact ⟨(honly.told.ctx c).trans hctx, (State.bit_at_of_getW (f := HIF.STATUS_QUAR.at c) hword).trans hquar,
    (State.bit_at_of_getW (f := HIF.STATUS_UNSYNC.at (8 + c)) hword).trans hunsync, fun k hk => hcmdsAll k (hcmds ▸ hk),
    hnvm.trans (hnvm2.trans (hnvm1.trans hnvm0))⟩

/-- Settles O33. -/
theorem framesWithoutEffect : Obligations.FramesWithoutEffect := by
  unfold Obligations.FramesWithoutEffect
  refine ⟨?_, ?_, ?_, ?_, ?_, ?_⟩
  · intro c f s op i hans hof hlow hquar hkey hrow
    exact effect_onlyStatus hans hof hlow hrow (State.readRun_quar hquar) (State.writeRun_quar hquar hkey) (State.bellRun_quar hquar)
  · intro c f s op i hans hof hlow hquar hform hrst hseq hrow
    exact effect_onlyStatus hans hof hlow hrow (State.readRun_repeat hquar hform hseq) (State.writeRun_repeat hquar hform hrst hseq)
      (State.bellRun_repeat hquar hform hseq)
  · intro c f s hans hof hlow hquar hform
    have hrun := State.writeRun_crc hquar hform
    have hwords : f.words.isEmpty = false := by
      cases hempty : f.words.isEmpty with
      | false => rfl
      | true => simp [Frame.form, hempty] at hform
    have hrefused := s.refusedAs_frameEnd c f fsCRC true
    have hviol : s.frameEnd c f fsCRC true = (s.modCtx c fun h => { h with lastSt := fsCRC, lastSeq := f.seqSeen }).violation c fsCRC f.addr := by
      simp [State.frameEnd, hwords]
    obtain ⟨hcode, haddr, hvwin⟩ := State.violation_shows (s.modCtx c fun h => { h with lastSt := fsCRC, lastSeq := f.seqSeen }) c
      (show fsCRC < 2 ^ 8 by decide) (Frame.addr_lt f)
    rw [← hviol] at hcode haddr hvwin
    refine effect_of_eq (u := (s.frameEnd c f fsCRC true).answer c (s.miso c f [])) rfl ((State.frame_answers _ hans hof hlow).trans
      (by rw [hrun])) ?_
    generalize s.frameEnd c f fsCRC true = t at *
    refine ⟨?_, hcode, haddr, ?_, hrefused.nvm, fun k hhif harb hint => hrefused.getW k (by simp [refusalKey, hhif, harb, hint])⟩
    · rw [State.answer, State.ctx_modCtx]
      exact hrefused.lastSt
    · rw [State.answer, State.ctx_modCtx]
      exact hvwin
  · intro c s hvwin hran
    refine effect_of_eq rfl (if_pos ⟨hvwin, hran⟩) ⟨?_, ?_, fun k hk => State.getW_wr_ne _ _ hk⟩
    · exact congrArg CtxHid.vwin (s.ctx_modCtx c fun h => { h with vwin := false })
    · exact State.rd_wr_eq _ _ _ 0 (by decide)
  · exact fun c s hran => does_of_eq rfl (if_neg fun h => Bool.false_ne_true (hran.symm.trans h.2))
  · intro c s hans htakes
    exact effect_of_eq rfl (if_pos (by rw [hans, Bool.true_and]; exact htakes)) (s.ctxReset_shows c)

end Sys2Proof.Machine
end

section
/-! SUPPORT. The command rings (R328 to R333). -/

namespace Sys2Proof.Machine

open Sys2Proof

theorem RegsOff.ringIrq {ks : Nat → Prop} {s t : State} (h : RegsOff ks s t) (c : Fin 8) (hint : ∀ k, intKey k = true → ks k) :
    RegsOff ks s (t.ringIrq c) :=
  RegsOff.ite (RegsOff.edge h.fields _ hint) h.fields

@[simp] theorem State.cmds_modCtx (s : State) (c : Fin 8) (g : CtxHid → CtxHid) : (s.modCtx c g).cmds = s.cmds := by rw [State.modCtx]

@[simp] theorem State.nvm_modCtx (s : State) (c : Fin 8) (g : CtxHid → CtxHid) : (s.modCtx c g).nvm = s.nvm := by rw [State.modCtx]

/-- The condition on the count of completions changes no ring. -/
theorem State.ringIrq_keeps (s : State) (c : Fin 8) :
    ((s.ringIrq c).ctx c).cq = (s.ctx c).cq ∧ (s.ringIrq c).cmds = s.cmds ∧ (s.ringIrq c).nvm = s.nvm := by
  unfold State.ringIrq
  extract_lets n now s1
  have hcq : (s1.ctx c).cq = (s.ctx c).cq := by
    unfold s1
    rw [State.ctx_modCtx]
  have hedge := (edge_only s1 (136 + c.val)).told
  obtain ⟨-, hnvm, -, hcmds, -⟩ := hedge.fields
  split
  · exact ⟨(congrArg CtxHid.cq (hedge.ctx c)).trans hcq, hcmds, hnvm⟩
  · exact ⟨hcq, rfl, rfl⟩

theorem cqSize_pos_le (s : State) (c : Nat) : 0 < s.cqSize c ∧ s.cqSize c ≤ 64 := by
  rw [State.cqSize, size64]
  (repeat' split) <;> omega

/-- The registers that a completion changes beside its two words. -/
def CplKey (c : Fin 8) (k : Nat) : Prop :=
  intKey k = true ∨ k = cqeC c + 0xC ∨ k = cqeC c + 0x18 ∨ k = cqeB + 0xC ∨ k = cqeB + 0x18

theorem slot_not_cplKey (s : State) (c : Fin 8) {o : Nat} (ho : o < 8) : ¬ CplKey c (cqSlot c (s.rd (cqeC c) CQE.CTX_CQT_TAIL) + o) := by
  have htail := s.rd_lt (cqeC c) CQE.CTX_CQT_TAIL
  have hc := c.isLt
  change _ < 64 at htail
  generalize s.rd (cqeC c) CQE.CTX_CQT_TAIL = tail at htail
  simp only [CplKey, intKey, cqSlot, cqeC, cqeB, ck, pg, beq_iff_eq]
  omega

/-- A completion is two words at the tail, which moves on by one (R330). -/
theorem State.writeCpl_shows (s : State) (c : Fin 8) (cookie st tag : Nat) (quiet : Bool) (res : Nat) :
    (s.writeCpl c cookie st tag quiet res).getW (cqSlot c (s.rd (cqeC c) CQE.CTX_CQT_TAIL)) =
      BitVec.ofNat 32 (cookie + st * 0x10000 + tag * 0x1000000) ∧
    (s.writeCpl c cookie st tag quiet res).getW (cqSlot c (s.rd (cqeC c) CQE.CTX_CQT_TAIL) + 4) = BitVec.ofNat 32 res ∧
    (s.writeCpl c cookie st tag quiet res).rd (cqeC c) CQE.CTX_CQT_TAIL = (s.rd (cqeC c) CQE.CTX_CQT_TAIL + 1) % s.cqSize c := by
  have hslot0 := slot_not_cplKey s c (o := 0) (by decide)
  have hslot4 := slot_not_cplKey s c (o := 4) (by decide)
  obtain ⟨hpos, hle⟩ := cqSize_pos_le s c
  unfold State.writeCpl
  extract_lets t s1 s2 s3 s4 s5
  have h5 : RegsOff (fun k => intKey k = true ∨ k = cqeC c + 0x18 ∨ k = cqeB + 0xC ∨ k = cqeB + 0x18) s4
      ((s5.modCtx c (fun h => { h with cq := h.cq ++ [⟨t, quiet, s.tick⟩] })).ringIrq c) :=
    RegsOff.ringIrq (RegsOff.fields ((RegsOff.refl _ s4).count (b := cqeC c) (f := CQE.CTX_STAT_COMPLETED) (sat := CQE.CTX_STAT_SAT)
      (pb := cqeB) 5 130 (fun _ => .inl) ⟨.inr (.inl rfl), .inr (.inl rfl)⟩ ⟨.inr (.inr (.inl rfl)), .inr (.inr (.inr rfl))⟩)) c fun _ => .inl
  have h4 : RegsOff (CplKey c) s2 s4 := ((RegsOff.refl _ s2).wr (b := cqeC c) (f := CQE.CTX_CQT_TAIL) _ (.inr (.inl rfl))).wr
    (b := cqeC c) (f := CQE.CTX_CQT_FILL) _ (.inr (.inl rfl))
  have hwords := h4.trans (h5.mono (q := CplKey c) (by
    rintro k (h | h | h | h)
    · exact .inl h
    · exact .inr (.inr (.inl h))
    · exact .inr (.inr (.inr (.inl h)))
    · exact .inr (.inr (.inr (.inr h)))))
  refine ⟨(hwords _ hslot0).trans ?_, (hwords _ hslot4).trans (State.getW_setW_eq _ _ _), (h5.rd _ _ ?_).trans ?_⟩
  · exact (State.getW_setW_ne _ _ (Nat.ne_of_lt (Nat.lt_add_of_pos_right (by decide)))).trans (State.getW_setW_eq _ _ _)
  · have hc := c.isLt
    simp only [intKey, cqeC, cqeB, pg, CQE.CTX_CQT_TAIL, beq_iff_eq]
    omega
  · refine (State.rd_wr_apart _ _ _ _ _ _ (.inr (by decide))).trans ((State.rd_wr_eq _ _ _ _ (by decide)).trans ?_)
    exact Nat.mod_eq_of_lt (Nat.lt_of_lt_of_le (Nat.mod_lt _ hpos) hle)

/-- The head of a context's completion ring, `d` completions on. -/
theorem State.cqhTaken_shows (s : State) (c : Fin 8) {h : Nat} (fill d : Nat) (hlt : h < 2 ^ 6) {u : State}
    (hu : (((s.wr (cqeC c) CQE.CTX_CQH_HEAD h).wr (cqeC c) CQE.CTX_CQT_FILL fill).modCtx c fun x => { x with cq := x.cq.drop d }).ringIrq c = u) :
    u.rd (cqeC c) CQE.CTX_CQH_HEAD = h ∧ (u.ctx c).cq.length ≤ (s.ctx c).cq.length ∧ u.cmds = s.cmds ∧ u.nvm = s.nvm := by
  generalize hs1 : (s.wr (cqeC c) CQE.CTX_CQH_HEAD h).wr (cqeC c) CQE.CTX_CQT_FILL fill = s1 at hu
  have honly : RegsOnly (fun k => k = cqeC c + 0x10 ∨ k = cqeC c + 0xC) s s1 := by
    rw [← hs1]
    exact (RegsOnly.wr _ _ (.inl rfl)).trans (RegsOnly.wr _ _ (.inr rfl))
  have hhead : s1.rd (cqeC c) CQE.CTX_CQH_HEAD = h := by
    rw [← hs1, State.rd_wr_ne _ _ _ _ _ _ (by simp [CQE.CTX_CQH_HEAD, CQE.CTX_CQT_FILL]), State.rd_wr_eq _ _ _ _ (by decide)]
    exact Nat.mod_eq_of_lt hlt
  obtain ⟨hcq, hcmds, hnvm⟩ := State.ringIrq_keeps (s1.modCtx c fun x => { x with cq := x.cq.drop d }) c
  have hoff : RegsOff (fun k => intKey k = true) s1 ((s1.modCtx c fun x => { x with cq := x.cq.drop d }).ringIrq c) :=
    RegsOff.ringIrq (RegsOff.fields (RegsOff.refl _ s1)) c fun _ h => h
  rw [hu] at hcq hcmds hnvm hoff
  rw [State.cmds_modCtx] at hcmds
  rw [State.nvm_modCtx] at hnvm
  obtain ⟨-, hnvm1, -, hcmds1, -⟩ := honly.told.fields
  refine ⟨(hoff.rd _ _ ?_).trans hhead, ?_, hcmds.trans hcmds1, hnvm.trans hnvm1⟩
  · have hc := c.isLt
    simp only [intKey, cqeC, cqeB, pg, CQE.CTX_CQH_HEAD, beq_iff_eq]
    omega
  · rw [hcq, State.ctx_modCtx, honly.told.ctx, List.length_drop]
    exact Nat.sub_le _ _

/-- Settles O34. -/
theorem ringRows : Obligations.RingRows := by
  unfold Obligations.RingRows
  refine ⟨?_, ?_, ?_, ?_, ?_, ?_, ?_, ?_, ?_, ?_, ?_, ?_, ?_⟩
  · intro c hits s hnext
    refine does_of_eq rfl ?_
    rw [hnext]
  · intro hits s hnext
    refine does_of_eq rfl ?_
    rw [hnext]
  · intro k flags s hop
    simp [State.letIn, hop]
  · intro k flags s hlo hhi hflags
    simp [State.letIn, show ¬ (k.op = 0 ∨ 0x17 < k.op) by omega, hflags]
  · intro k flags s hlo hhi hflags hmask
    simp [State.letIn, show ¬ (k.op = 0 ∨ 0x17 < k.op) by omega, Nat.not_le.2 hflags, hmask]
  · intro k flags s hlo hhi hflags hmask hserved
    simp [State.letIn, show ¬ (k.op = 0 ∨ 0x17 < k.op) by omega, Nat.not_le.2 hflags, hmask, hserved]
  · intro k flags s hlo hhi hflags hmask hserved
    simp [State.letIn, show ¬ (k.op = 0 ∨ 0x17 < k.op) by omega, Nat.not_le.2 hflags, hmask, hserved]
  · exact fun c cookie st tag res quiet s => s.writeCpl_shows c cookie st tag quiet res
  · exact fun c v s hacc hok => effect_ifWrites_eq hacc rfl (if_pos hok) (s.cqhTaken_shows c _ _ (Nat.mod_lt _ (by decide)) rfl)
  · exact fun c v s hacc hbad => does_ifWrites hacc rfl (if_neg (by simp [hbad]))
  · exact fun c s hlate htmo => does_of_eq rfl (if_pos ⟨hlate, htmo⟩)
  · intro c e s hfind
    simp [State.ringLate, hfind]
  · exact fun c s hlate => does_of_eq rfl (if_neg (by simp [hlate]))

end Sys2Proof.Machine
end

section
/-! SUPPORT. Claims, pends and enables at the interrupt controller (R353, R357 to R362). -/

namespace Sys2Proof.Machine

open Sys2Proof

theorem State.lt_of_claimable {s : State} {c : Fin 8} {e : Nat} (h : s.claimable c = some e) : e < 160 :=
  State.lt_of_mem_intBits (List.mem_filter.1 (State.mem_of_urgent h)).1

/-- An event's bits of two families stand in different words. -/
theorem State.intBit_intPut_family (s : State) (n : Nat) {off off' : Nat} (e : Nat) (b : Bool) (h : off' ≠ off) :
    (s.intPut n off e b).intBit n off' e = s.intBit n off' e := by
  rw [State.intBit, State.intPut, State.getW_setW_ne _ _ (by omega), State.intBit]

@[simp] theorem State.getW_modCtx (s : State) (c : Fin 8) (g : CtxHid → CtxHid) (k : Nat) : (s.modCtx c g).getW k = s.getW k := rfl

@[simp] theorem State.intBit_modCtx (s : State) (c : Fin 8) (g : CtxHid → CtxHid) (n off e : Nat) :
    (s.modCtx c g).intBit n off e = s.intBit n off e := rfl

theorem State.raiseQ_gapOpened (s : State) (c : Fin 8) : (s.gapOpened c).raiseQ = s.raiseQ := by rw [State.gapOpened, State.modCtx]

theorem State.getW_gapOpened (s : State) (c : Fin 8) (k : Nat) : (s.gapOpened c).getW k = s.getW k := rfl

theorem State.claim_none {s : State} {c : Fin 8} (h : s.claimable c = none) : s.claim c = (0x3FF, s) := by
  simp [State.claim, h]

theorem State.claim_some {s : State} {c : Fin 8} {e : Nat} (h : s.claimable c = some e) (hmode : s.mode ≠ mLOCKOUT) :
    s.claim c = (BitVec.ofNat 32 (e + s.prio c e * 0x10000), ((s.intPut c 0x80 e false).intPut c 0xA0 e true).intRefresh c) := by
  simp [State.claim, h, hmode]

theorem State.gap_gapOpened (s : State) (c : Fin 8) : ((s.gapOpened c).ctx c).gap = true := by
  rw [State.gapOpened, State.ctx_modCtx]

/-- An edge that finds its event enabled in a context sets PEND there (R353, R354). -/
theorem State.edgeIn_pend {s : State} {c : Fin 8} {e : Nat} (many : Bool) (hen : s.intBit c 0x60 e = true) :
    (s.edgeIn e many c).intBit c 0x80 e = true := by
  rw [State.edgeIn, if_pos hen]
  dsimp only
  rw [State.intBit_intRefresh _ c _ (by decide), State.intBit_intPut_same]

/-- IRQ_EN of a page stores its writable bits; the edges that it frees stay in the interrupt controller's pages. -/
theorem State.irqEnable_shows (s : State) {p : Nat} (hp : p < 64) (v : Word) :
    (s.irqEnable p v).getW (pg p + 0x1C) = v &&& rwBits (pg p + 0x1C) ∧
    ∀ k, k ≠ pg p + 0x1C → intKey k = false → (s.irqEnable p v).getW k = s.getW k := by
  unfold State.irqEnable
  extract_lets b n rise s1
  have hset : s1.getW (pg p + 0x1C) = v &&& rwBits (pg p + 0x1C) := State.getW_setW_eq _ _ _
  have hother : ∀ k, k ≠ pg p + 0x1C → s1.getW k = s.getW k := fun k hk => State.getW_setW_ne _ _ hk
  split
  · exact ⟨hset, fun k hk _ => hother k hk⟩
  next hloud =>
    have hedges : RegsOff (fun k => intKey k = true) s1
        (s1.each (onesFrom rise 0) fun i t => match findEv t.irqEv (p * 32 + i) with | some e => t.edge e | none => t) := by
      refine RegsOff.each (RegsOff.refl _ s1) fun i _ u hu => ?_
      split
      · exact hu.edge _ fun _ h => h
      · exact hu
    have hpage : intKey (pg p + 0x1C) = false := by
      have hne : p ≠ 6 := fun h => hloud (by simp [b, h, silentPage, intB])
      simp only [intKey, pg, beq_eq_false_iff_ne]
      omega
    exact ⟨(hedges _ (by simp [hpage])).trans hset, fun k hk hint => (hedges k (by simp [hint])).trans (hother k hk)⟩

/-- Settles O36. -/
theorem interruptRows : Obligations.InterruptRows := by
  unfold Obligations.InterruptRows
  refine ⟨?_, ?_, ?_, ?_, ?_, ?_, ?_, ?_, ?_, ?_⟩
  · intro c e s hread hclaim hmode
    have he := State.lt_of_claimable hclaim
    have honly : RegsOnly (fun k => intKey k = true) s (((s.intPut c 0x80 e false).intPut c 0xA0 e true).intRefresh c) :=
      ((intPut_only s c 0x80 e false (by omega)).trans (intPut_only _ c 0xA0 e true (by omega))).trans (intRefresh_only _ c)
    refine effect_of_eq (u := (((s.intPut c 0x80 e false).intPut c 0xA0 e true).intRefresh c).answer c
      [BitVec.ofNat 32 (e + s.prio c e * 0x10000)]) rfl ((if_pos hread).trans (by rw [State.claim_some hclaim hmode])) ⟨?_, ?_, ?_, ?_⟩
    · rw [State.answer, State.ctx_modCtx]
    · rw [State.answer, State.intBit_modCtx, State.intBit_intRefresh _ c e (by decide), State.intBit_intPut_family _ _ _ _ (by decide),
        State.intBit_intPut_same]
    · rw [State.answer, State.intBit_modCtx, State.intBit_intRefresh _ c e (by decide), State.intBit_intPut_same]
    · intro k hint
      rw [State.answer, State.getW_modCtx]
      exact honly.2 k (by simp [hint])
  · intro c s hread hclaim
    refine effect_of_eq (u := s.answer c [0x3FF]) rfl ((if_pos hread).trans (by rw [State.claim_none hclaim])) ⟨?_, rfl⟩
    rw [State.answer, State.ctx_modCtx]
  · intro c v s hacc hlt hact
    have honly : RegsOnly (fun k => intKey k = true) (s.gapOpened c) (((s.gapOpened c).intPut c 0xA0 (getBits v 0 10) false).intRefresh c) :=
      (intPut_only _ c 0xA0 _ false (by omega)).trans (intRefresh_only _ c)
    refine effect_ifWrites_eq hacc rfl (State.claimDone_active (by omega) hact) ⟨?_, ?_, ?_, honly.raiseQ.trans (s.raiseQ_gapOpened c)⟩
    · rw [State.intBit_intRefresh _ c _ (by decide), State.intBit_intPut_same]
    · rw [honly.told.ctx c, State.gap_gapOpened]
    · exact fun k hint => (honly.2 k (by simp [hint])).trans (s.getW_gapOpened c k)
  · intro c v s hacc hlt hidle
    have hsilent : silentPage intB = true := by decide
    exact effect_ifWrites_eq hacc rfl (State.claimDone_bad (.inr hidle)) ⟨State.bit_errQ_silent hsilent (by decide) _ 0,
      fun e _ => s.intBit_claimDone_bad c e (by decide), (State.raiseQ_errQ_silent hsilent _ 0 0).trans ((intRefresh_only _ c).raiseQ.trans (s.raiseQ_gapOpened c))⟩
  · intro c v s hacc hev
    have honly : RegsOnly (fun k => intKey k = true) s ((s.intPut c 0x80 (getBits v 0 10) true).intRefresh c) :=
      (intPut_only _ c 0x80 _ true (by omega)).trans (intRefresh_only _ c)
    refine effect_ifWrites_eq hacc rfl (State.setPend_event (by omega) s c) ⟨?_, fun k hint => honly.2 k (by simp [hint]), honly.raiseQ⟩
    rw [State.intBit_intRefresh _ c _ (by decide), State.intBit_intPut_same]
  · intro c v s hacc hbad
    exact effect_ifWrites_eq hacc rfl (State.setPend_badId hbad s c) ⟨State.bit_errQ_silent (by decide) (by decide) s 0,
      fun e _ => s.intBit_errQ_int 1 0 c 0x80 e⟩
  · intro c s
    have honly := intRefresh_only (s.modCtx c fun h => { h with gap := false }) c
    refine effect_of_eq rfl rfl ⟨?_, fun k hint => (honly.2 k (by simp [hint])).trans (State.getW_modCtx s c _ k)⟩
    rw [honly.told.ctx c, State.ctx_modCtx]
  · intro e many s hup
    refine does_of_eq rfl ((if_pos hup).trans ?_)
    simp [e.isLt]
  · exact fun c e many s _ hen => State.edgeIn_pend many hen
  · exact fun c p v s hacc => effect_ifWrites_eq hacc rfl rfl (s.irqEnable_shows p.isLt v)

end Sys2Proof.Machine
end

section
/-! SUPPORT. Raises and acknowledgements at the fault collector (R371 to R374). -/

namespace Sys2Proof.Machine

open Sys2Proof

/-! The bits of an event: LAT, UNACK and RPT. -/

/-- The words of LAT, those of UNACK and RPT, and the word of MODE. -/
abbrev AckKey (k : Nat) : Prop :=
  (fltB + 0x60 ≤ k ∧ k < fltB + 0x74) ∨ (fltB + 0x140 ≤ k ∧ k < fltB + 0x1E0) ∨ k = devB + 0x80

theorem ackKey_not_int {k : Nat} (h : AckKey k) : intKey k = false := by
  simp only [AckKey, intKey, fltB, devB, pg, beq_eq_false_iff_ne] at h ⊢
  omega

theorem latK_ack {e : Nat} (h : e < 160) : AckKey (latK e) := .inl (by rw [latK]; omega)

theorem evstK_ack {e : Nat} (h : e < 160) : AckKey (evstK e) := .inr (.inl (by rw [evstK]; omega))

theorem latK_ne_evstK {e : Nat} (h : e < 160) (ev : Nat) : latK e ≠ evstK ev := by
  rw [latK, evstK]; omega

theorem mode_ne_latK (e : Nat) : devB + 0x80 ≠ latK e := by
  simp only [latK, devB, fltB, pg]; omega

theorem mode_ne_evstK (e : Nat) : devB + 0x80 ≠ evstK e := by
  simp only [evstK, devB, fltB, pg]; omega

theorem State.lat_setLat (s : State) (ev : Nat) (b : Bool) : (s.setLat ev b).lat ev = b := by
  rw [State.lat, State.setLat, State.getW_setW_eq, testBit_putBits _ _ _ _ _ (Nat.mod_lt _ (by decide))]
  cases b <;> simp

theorem State.lat_setLat_ne (s : State) {ev e : Nat} (b : Bool) (h : e ≠ ev) : (s.setLat ev b).lat e = s.lat e := by
  rw [State.lat, State.setLat]
  by_cases hword : e / 32 = ev / 32
  · have hkey : latK e = latK ev := by rw [latK, latK, hword]
    rw [hkey, State.getW_setW_eq, testBit_putBits _ _ _ _ _ (Nat.mod_lt _ (by decide)), if_neg (by omega), State.lat, hkey]
  · rw [State.getW_setW_ne _ _ (by rw [latK, latK]; omega), State.lat]

theorem State.lat_of_word {s u : State} {e : Nat} (h : u.getW (latK e) = s.getW (latK e)) : u.lat e = s.lat e := by
  rw [State.lat, h, State.lat]

theorem State.unack_of_word {s u : State} {e : Nat} (h : u.getW (evstK e) = s.getW (evstK e)) : u.unack e = s.unack e := by
  rw [State.unack, h, State.unack]

theorem State.unack_setUnack (s : State) (ev v : Nat) : (s.setUnack ev v).unack ev = v % 2 ^ 4 := by
  rw [State.unack, State.setUnack, State.getW_setW_eq, getBits_putBits _ _ _ _ (by omega)]

theorem State.unack_setRpt (s : State) (ev v : Nat) : (s.setRpt ev v).unack ev = s.unack ev := by
  rw [State.unack, State.setRpt, State.getW_setW_eq, getBits_putBits_off _ _ _ _ _ _ (by omega) (by omega), State.unack]

theorem State.rpt_setRpt (s : State) (ev v : Nat) : (s.setRpt ev v).rpt ev = v % 2 ^ 4 := by
  rw [State.rpt, State.setRpt, State.getW_setW_eq, getBits_putBits _ _ _ _ (by omega)]

theorem State.unack_lt (s : State) (ev : Nat) : s.unack ev < 2 ^ 4 := Nat.mod_lt _ (by decide)

/-! What the record of a raise leaves. -/

/-- `u` has the mode, the bits of every event, the holds and the snapshots of `s`. -/
structure State.KeepsAcks (s u : State) : Prop where
  words : RegsOff (fun k => ¬ AckKey k) s u
  holds : u.holds = s.holds
  snaps : u.snaps = s.snaps

namespace State.KeepsAcks

variable {s t u : State}

theorem refl (s : State) : s.KeepsAcks s := ⟨RegsOff.refl _ s, rfl, rfl⟩

theorem trans (h1 : s.KeepsAcks t) (h2 : t.KeepsAcks u) : s.KeepsAcks u :=
  ⟨h1.words.trans h2.words, h2.holds.trans h1.holds, h2.snaps.trans h1.snaps⟩

theorem told {ks : Nat → Prop} (h : s.KeepsAcks t) (ht : Told ks t u) (hk : ∀ k, ks k → ¬ AckKey k) : s.KeepsAcks u :=
  ⟨h.words.told (ht.mono hk) fun _ hint ha => Bool.false_ne_true ((ackKey_not_int ha).symm.trans hint),
    (congrArg State.holds ht.1).trans h.holds, (congrArg State.snaps ht.1).trans h.snaps⟩

theorem setW (h : s.KeepsAcks t) {k : Nat} (v : Word) (hk : ¬ AckKey k) : s.KeepsAcks (t.setW k v) :=
  ⟨h.words.setW v hk, h.holds, h.snaps⟩

theorem wr (h : s.KeepsAcks t) {b : Nat} {f : Fld} (v : Nat) (hk : ¬ AckKey (b + f.off)) : s.KeepsAcks (t.wr b f v) := h.setW _ hk

theorem edge (h : s.KeepsAcks t) (e : Nat) : s.KeepsAcks (t.edge e) :=
  h.told (edge_only t e).told fun _ hint ha => Bool.false_ne_true ((ackKey_not_int ha).symm.trans hint)

theorem ite {c : Prop} [Decidable c] (h1 : s.KeepsAcks t) (h2 : s.KeepsAcks u) : s.KeepsAcks (if c then t else u) := by
  split
  · exact h1
  · exact h2

theorem err (h : s.KeepsAcks t) {b : Nat} (i ev : Nat) (cls d : Option Nat) (herr : ¬ AckKey (b + 0xC) ∧ ¬ AckKey (b + 0x18)) :
    s.KeepsAcks (t.err b i ev cls d) :=
  h.told (err_told t b i ev cls d) (by rintro k (rfl | rfl); exact herr.1; exact herr.2)

theorem errQ (h : s.KeepsAcks t) {b : Nat} (i ev : Nat) (herr : ¬ AckKey (b + 0xC) ∧ ¬ AckKey (b + 0x18)) : s.KeepsAcks (t.errQ b i ev) :=
  h.told (errQ_told t b i ev) (by rintro k (rfl | rfl); exact herr.1; exact herr.2)

theorem count (h : s.KeepsAcks t) {b : Nat} {f sat : Fld} {pb : Nat} (i ev : Nat) (hf : ¬ AckKey (b + f.off)) (hsat : ¬ AckKey (b + sat.off))
    (herr : ¬ AckKey (pb + 0xC) ∧ ¬ AckKey (pb + 0x18)) : s.KeepsAcks (t.count b f sat pb i ev) :=
  h.told (count_told t b f sat pb i ev) (by rintro k (rfl | rfl | rfl | rfl); exact hf; exact hsat; exact herr.1; exact herr.2)

theorem lat (h : s.KeepsAcks u) {e : Nat} (he : e < 160) : u.lat e = s.lat e := State.lat_of_word (h.words _ (not_not_intro (latK_ack he)))

theorem unack (h : s.KeepsAcks u) {e : Nat} (he : e < 160) : u.unack e = s.unack e :=
  State.unack_of_word (h.words _ (not_not_intro (evstK_ack he)))

theorem mode (h : s.KeepsAcks u) : u.mode = s.mode := h.words.mode (not_not_intro (.inr (.inr rfl)))

end State.KeepsAcks

theorem ringKey_not_ack {k : Nat} (h : RingKey k) : ¬ AckKey k := by
  simp only [RingKey, AckKey, fltB, devB, pg] at h ⊢
  omega

theorem State.engineAsk_keepsAcks {s t : State} (h : s.KeepsAcks t) (g who : Nat) : s.KeepsAcks (t.engineAsk g who) := by
  have hqueue : ∀ q, s.KeepsAcks (t.setQueue g q) := fun q => ⟨h.words.fields, h.holds, h.snaps⟩
  exact h.ite ((hqueue _).told (State.arbShow_only _).told fun _ => ringKey_not_ack)

theorem State.logLost_keepsAcks {s t : State} (h : s.KeepsAcks t) : s.KeepsAcks t.logLost :=
  (h.count _ _ (by decide) (by decide) (by decide)).err _ _ _ _ (by decide)

/-- A raise's record goes into the history and to the log (R380, R381). -/
theorem State.record_keepsAcks (s : State) (r : RaiseReq) (eff : Nat) (esc dry chg : Bool) (detail : Word) :
    s.KeepsAcks (s.record r eff esc dry chg detail) := by
  have hnewest := s.rd_lt fltB FLT.HSTAT_NEWEST
  unfold State.record
  extract_lets i b w0 s1 s2 rec0 s3 lost s4
  have hi : i < 32 := by
    unfold i
    (repeat' split) <;> omega
  have hhist : ∀ o, o < 0x10 → ¬ AckKey (histB i + o) := fun o ho => by
    simp only [AckKey, histB, fltB, devB, pg]
    omega
  have h1 : s.KeepsAcks s1 := (((((State.KeepsAcks.refl s).setW _ (hhist 0 (by decide))).setW _ (hhist 4 (by decide))).wr (b := histB i)
    (f := FLT.HIST2_NS) _ (hhist _ (by decide)))).setW _ (hhist 0xC (by decide))
  have h2 : s.KeepsAcks s2 := (h1.wr _ (by decide)).wr _ (by decide)
  have h3 : s.KeepsAcks s3 := ⟨h2.words.fields, h2.holds, h2.snaps⟩
  have hlost : s.KeepsAcks lost := State.logLost_keepsAcks h3
  have h4 : s.KeepsAcks s4 := State.KeepsAcks.ite ⟨hlost.words.fields, hlost.holds, hlost.snaps⟩ h3
  exact h2.ite (State.engineAsk_keepsAcks h4 3 feSeven)

/-! One raise (R371, R372). -/

/-- A raise latches its event and counts, and leaves what is not acknowledged. -/
theorem State.raiseLatched_shows (s : State) {ev : Nat} (hev : ev < 160) {t : State} (ht : (s.setLat ev true).countRaise ev = t) :
    t.lat ev = true ∧ t.unack ev = s.unack ev ∧ t.mode = s.mode ∧ t.holds = s.holds ∧ t.snaps = s.snaps ∧
    ∀ e, e < 160 → e ≠ ev → t.lat e = s.lat e := by
  subst ht
  have hfltErr : ¬ AckKey (fltB + 0xC) ∧ ¬ AckKey (fltB + 0x18) := by decide
  obtain ⟨n, hkeep⟩ : ∃ n, ((s.setLat ev true).setRpt ev n).KeepsAcks ((s.setLat ev true).countRaise ev) := by
    unfold State.countRaise
    dsimp only
    split
    · exact ⟨_, (State.KeepsAcks.refl _).count 3 0 (by decide) (by decide) hfltErr⟩
    · exact ⟨15, ((State.KeepsAcks.refl _).errQ 3 0 hfltErr).count 3 0 (by decide) (by decide) hfltErr⟩
  have hlat : ∀ e, e < 160 → ((s.setLat ev true).setRpt ev n).lat e = (s.setLat ev true).lat e := fun e he =>
    State.lat_of_word (State.getW_setW_ne _ _ (latK_ne_evstK he ev))
  have hunack : (s.setLat ev true).unack ev = s.unack ev := State.unack_of_word (State.getW_setW_ne _ _ (latK_ne_evstK hev ev).symm)
  refine ⟨?_, ?_, hkeep.mode.trans ?_, hkeep.holds, hkeep.snaps, ?_⟩
  · rw [hkeep.lat hev, hlat ev hev, State.lat_setLat]
  · rw [hkeep.unack hev, State.unack_setRpt, hunack]
  · exact (RegsOnly.setW (ks := fun k => k = evstK ev) _ _ rfl).told.mode (mode_ne_evstK ev) |>.trans
      ((RegsOnly.setW (ks := fun k => k = latK ev) s _ rfl).told.mode (mode_ne_latK ev))
  · intro e he hne
    rw [hkeep.lat he, hlat e he, s.lat_setLat_ne true hne]

/-- The detail of a raise: its own, or a free value. -/
def State.detailOf (s : State) : Option Nat → Word × State
  | some v => (BitVec.ofNat 32 v, s)
  | none => s.draw

theorem State.detailOf_keepsAcks (s : State) (d : Option Nat) : s.KeepsAcks (s.detailOf d).2 := by
  cases d with
  | some v => exact .refl s
  | none => exact ⟨(RegsOff.refl _ s).fields, rfl, rfl⟩

/-- A raise of class C0 latches, and is recorded. -/
theorem State.raise1_c0 (s : State) (ev : Nat) (d : Option Nat) (f lock : Bool) :
    ((s.setLat ev true).countRaise ev).KeepsAcks (State.raise1 lock ⟨ev, 0, d, f⟩ s) := by
  generalize ht : (s.setLat ev true).countRaise ev = t
  have heq : State.raise1 lock ⟨ev, 0, d, f⟩ s =
      (State.record (t.detailOf d).2 ⟨ev, 0, d, f⟩ 0 false false false (t.detailOf d).1).edge ev := by
    subst ht
    cases d <;> simp [State.raise1, State.forces, State.detailOf]
  rw [heq]
  exact ((t.detailOf_keepsAcks d).trans (State.record_keepsAcks _ _ _ _ _ _ _)).edge ev

/-- A raise of class C1 that nothing escalates sets its UNACK bit beside. -/
theorem State.raise1_c1 (s : State) (ev : Nat) (d : Option Nat) (f lock : Bool) (hnone : s.anyUnack 1 = false) {t : State}
    (ht : (s.setLat ev true).countRaise ev = t) :
    ((t.setUnack ev (t.unack ev ||| 1)).unackShow).KeepsAcks (State.raise1 lock ⟨ev, 1, d, f⟩ s) := by
  have heq : State.raise1 lock ⟨ev, 1, d, f⟩ s =
      (State.record (((t.setUnack ev (t.unack ev ||| 1)).unackShow).detailOf d).2 ⟨ev, 1, d, f⟩ 1 false false false
        (((t.setUnack ev (t.unack ev ||| 1)).unackShow).detailOf d).1).edge ev := by
    subst ht
    cases d <;> simp [State.raise1, State.forces, State.detailOf, hnone]
  rw [heq]
  exact ((State.detailOf_keepsAcks _ d).trans (State.record_keepsAcks _ _ _ _ _ _ _)).edge ev

theorem or_one_lt {n : Nat} (h : n < 2 ^ 4) : n ||| 1 < 2 ^ 4 := Nat.or_lt_two_pow h (by decide)

theorem State.raise1_c1_shows (s : State) {ev : Nat} (hev : ev < 160) (d : Option Nat) (f lock : Bool) (hnone : s.anyUnack 1 = false) {u : State}
    (hu : State.raise1 lock ⟨ev, 1, d, f⟩ s = u) :
    u.lat ev = true ∧ u.unack ev = s.unack ev ||| 1 ∧ u.mode = s.mode ∧ u.holds = s.holds ∧ u.snaps = s.snaps := by
  subst hu
  have hkeep := s.raise1_c1 ev d f lock hnone rfl
  obtain ⟨hlat, hunack, hmode, hholds, hsnaps, -⟩ := s.raiseLatched_shows hev rfl
  generalize (s.setLat ev true).countRaise ev = t at *
  have hshow : (t.setUnack ev (t.unack ev ||| 1)).KeepsAcks ((t.setUnack ev (t.unack ev ||| 1)).unackShow) :=
    (State.KeepsAcks.refl _).wr _ (by decide)
  have hall := hshow.trans hkeep
  refine ⟨?_, ?_, ?_, hall.holds.trans hholds, hall.snaps.trans hsnaps⟩
  · rw [hall.lat hev, ← hlat]
    exact State.lat_of_word (State.getW_setW_ne _ _ (latK_ne_evstK hev ev))
  · rw [hall.unack hev, State.unack_setUnack, Nat.mod_eq_of_lt (or_one_lt (t.unack_lt ev)), hunack]
  · rw [hall.mode, ← hmode]
    exact (RegsOnly.setW (ks := fun k => k = evstK ev) t _ rfl).told.mode (mode_ne_evstK ev)

/-! Acknowledgements (R374). -/

theorem State.getW_ackEv (s : State) (ev k : Nat) :
    (s.ackEv ev).getW k = (((s.setLat ev false).setUnack ev 0).setRpt ev 0).getW k := by
  unfold State.ackEv State.getW
  rfl

theorem State.lat_ackEv (s : State) (ev : Nat) {e : Nat} (he : e < 160) : (s.ackEv ev).lat e = (s.lat e && decide (e ≠ ev)) := by
  have hword : (s.ackEv ev).lat e = (s.setLat ev false).lat e :=
    State.lat_of_word ((s.getW_ackEv ev _).trans
      ((State.getW_setW_ne _ _ (latK_ne_evstK he ev)).trans (State.getW_setW_ne _ _ (latK_ne_evstK he ev))))
  rw [hword]
  by_cases h : e = ev
  · rw [h, State.lat_setLat]
    simp
  · rw [s.lat_setLat_ne false h]
    simp [h]

theorem State.unack_ackEv (s : State) (ev : Nat) : (s.ackEv ev).unack ev = 0 :=
  (State.unack_of_word (s.getW_ackEv ev _)).trans ((State.unack_setRpt _ ev 0).trans (State.unack_setUnack _ ev 0))

theorem State.rpt_ackEv (s : State) (ev : Nat) : (s.ackEv ev).rpt ev = 0 := by
  rw [State.rpt, s.getW_ackEv ev]
  exact State.rpt_setRpt _ ev 0

/-- Many events acknowledged: each loses its latch and its holds. -/
theorem State.ackEach_shows (l : List Nat) (s : State) : (∀ e, e < 160 → (s.each l fun e t => t.ackEv e).lat e = (s.lat e && decide (e ∉ l))) ∧
    (s.each l fun e t => t.ackEv e).holds = s.holds.filter (fun h => decide (h.1 ∉ l)) ∧
    (s.each l fun e t => t.ackEv e).raiseQ = s.raiseQ := by
  induction l generalizing s with
  | nil => exact ⟨fun e _ => by simp [State.each], (List.filter_eq_self.2 (by simp)).symm, rfl⟩
  | cons a l ih =>
    obtain ⟨hlat, hholds, hraise⟩ := ih (s.ackEv a)
    refine ⟨fun e he => ?_, ?_, hraise.trans rfl⟩
    · refine (hlat e he).trans ?_
      rw [s.lat_ackEv a he, Bool.and_assoc, ← Bool.decide_and]
      simp
    · refine hholds.trans ?_
      have hone : (s.ackEv a).holds = s.holds.filter (fun h => h.1 != a) := rfl
      rw [hone, List.filter_filter]
      congr 1
      funext h
      rw [Bool.eq_iff_iff]
      simp [and_comm]

/-- The views leave the bits of the events, the holds and the waiting raises. -/
theorem State.ackShow_keepsAcks (s : State) : s.KeepsAcks s.ackShow ∧ s.ackShow.raiseQ = s.raiseQ :=
  ⟨((State.KeepsAcks.refl s).wr _ (by decide)).wr _ (by decide), rfl⟩

theorem State.rpt_ackShow (s : State) {e : Nat} (he : e < 160) : s.ackShow.rpt e = s.rpt e := by
  rw [State.rpt, s.ackShow_keepsAcks.1.words _ (not_not_intro (evstK_ack he)), State.rpt]

theorem mem_onesFrom {v : Word} {k0 e : Nat} : e ∈ onesFrom v k0 ↔ ∃ j, j < 32 ∧ v.getLsbD j = true ∧ e = j + k0 := by
  unfold onesFrom
  split
  next h => simp [h]
  next h =>
    simp only [List.mem_map, List.mem_filter, List.mem_range, BitVec.getLsbD]
    constructor
    · rintro ⟨j, ⟨hj, hbit⟩, rfl⟩
      exact ⟨j, hj, hbit, rfl⟩
    · rintro ⟨j, hj, hbit, rfl⟩
      exact ⟨j, ⟨hj, hbit⟩, rfl⟩

/-- Settles O37. -/
theorem raiseAndAcknowledge : Obligations.RaiseAndAcknowledge := by
  unfold Obligations.RaiseAndAcknowledge
  refine ⟨fun ev cls detail s => does_of_eq rfl rfl, ?_, ?_, ?_, ?_, ?_, ?_⟩
  · intro ev d f lock s
    have hkeep := s.raise1_c0 ev d f lock
    obtain ⟨hlat, hunack, hmode, hholds, -, hother⟩ := s.raiseLatched_shows ev.isLt rfl
    exact ⟨(hkeep.lat ev.isLt).trans hlat, (hkeep.unack ev.isLt).trans hunack, hkeep.mode.trans hmode, hkeep.holds.trans hholds,
      fun e _ hne => (hkeep.lat e.isLt).trans (hother e e.isLt fun h => hne (Fin.ext h))⟩
  · intro c id s hacc hid hlat
    have hack : s.ackId id.toNat = (s.ackEv id.toNat).ackShow := if_pos ⟨hid, hlat⟩
    obtain ⟨hkeep, hraise⟩ := (s.ackEv id.toNat).ackShow_keepsAcks
    refine effect_ifWrites_eq hacc rfl hack ⟨?_, ?_, ?_, ?_, ?_, hraise.trans rfl⟩
    · rw [hkeep.lat hid, s.lat_ackEv _ hid]
      simp
    · rw [hkeep.unack hid, s.unack_ackEv]
    · rw [State.rpt_ackShow _ hid, s.rpt_ackEv]
    · intro h hh
      rw [hkeep.holds] at hh
      obtain ⟨-, hne⟩ := List.mem_filter.1 hh
      exact bne_iff_ne.1 hne
    · intro e he hne
      rw [hkeep.lat he, s.lat_ackEv _ he]
      simp [hne]
  · intro c id s hacc hno
    have hack : s.ackId id.toNat = s.errQ fltB 0 0 := if_neg (by
      rintro ⟨hid, hlat⟩
      obtain h | h := hno
      · omega
      · simp_all)
    have hsilent : silentPage fltB = true := by decide
    exact effect_ifWrites_eq hacc rfl hack ⟨State.bit_errQ_silent hsilent (by decide) s 0, State.raiseQ_errQ_silent hsilent s 0 0,
      errQ_silent_only hsilent s 0 0⟩
  · intro c s hacc
    obtain ⟨hlat, hholds, hraise⟩ := State.ackEach_shows ((List.range 160).filter s.lat) s
    obtain ⟨hkeep, hraise'⟩ := (s.each ((List.range 160).filter s.lat) fun e t => t.ackEv e).ackShow_keepsAcks
    refine effect_ifWrites_eq hacc rfl rfl ⟨?_, ?_, hraise'.trans hraise⟩
    · intro e he
      refine (hkeep.lat he).trans ((hlat e he).trans ?_)
      simp [he]
    · intro h hh
      rw [State.ackAll, hkeep.holds, hholds] at hh
      obtain ⟨hmem, hout⟩ := List.mem_filter.1 hh
      simp only [List.mem_filter, List.mem_range, not_and, Bool.not_eq_true, decide_eq_true_eq] at hout
      exact (Nat.lt_or_ge h.1 160).imp (fun hlt => ⟨hmem, hout hlt⟩) id
  · intro c k v s hacc
    obtain ⟨hlat, -, hraise⟩ := State.ackEach_shows ((onesFrom v (32 * k)).filter s.lat) s
    obtain ⟨hkeep, hraise'⟩ := (s.each ((onesFrom v (32 * k)).filter s.lat) fun e t => t.ackEv e).ackShow_keepsAcks
    refine effect_ifWrites_eq hacc rfl rfl ⟨?_, hraise'.trans hraise⟩
    intro i hi
    have he : 32 * k.val + i < 160 := by omega
    have hmem : 32 * k.val + i ∈ onesFrom v (32 * k) ↔ v.getLsbD i = true := by
      rw [mem_onesFrom]
      constructor
      · rintro ⟨j, -, hbit, hj⟩
        obtain rfl : i = j := by omega
        exact hbit
      · exact fun hbit => ⟨i, hi, hbit, Nat.add_comm _ _⟩
    refine (hkeep.lat he).trans ((hlat _ he).trans ?_)
    simp only [List.mem_filter, hmem]
    cases s.lat (32 * k.val + i) <;> cases v.getLsbD i <;> simp
  · exact fun ev d f lock s hnone => s.raise1_c1_shows ev.isLt d f lock hnone rfl

end Sys2Proof.Machine
end

section
/-! SUPPORT. The bytes of NVM, forced raises, and the event log (R380 to R382, R499, R506). -/

namespace Sys2Proof.Machine

open Sys2Proof

/-! Reads of a canonical memory after a write, after writes in a row, and after an erase. -/

theorem Memory.read_of_lt {a n : Nat} {l : List Host.Cell} (w : Memory.wfFrom a l = true) (h : n < a) : Memory.read l n = erased := by
  induction l generalizing a with
  | nil => rfl
  | cons e t ih =>
    obtain ⟨k, v⟩ := e
    simp only [Memory.wfFrom, Bool.and_eq_true, decide_eq_true_eq] at w
    obtain ⟨⟨hk, -⟩, ht⟩ := w
    rw [Memory.read, if_neg (by omega)]
    exact ih ht (by omega)

theorem Memory.read_write_from {a : Nat} {l : List Host.Cell} (w : Memory.wfFrom a l = true) (n m : Nat) (x : Byte) :
    Memory.read (Memory.write l n x) m = if m = n then x else Memory.read l m := by
  induction l generalizing a with
  | nil =>
    by_cases hx : x = erased
    · simp [Memory.write, Memory.read, hx]
    · by_cases hm : m = n
      · simp [Memory.write, Memory.read, hx, hm]
      · simp [Memory.write, Memory.read, hx, hm, Ne.symm hm]
  | cons e t ih =>
    obtain ⟨k, v⟩ := e
    have hwf := w
    simp only [Memory.wfFrom, Bool.and_eq_true, decide_eq_true_eq] at w
    obtain ⟨-, ht⟩ := w
    rcases Nat.lt_trichotomy n k with hlt | rfl | hgt
    · have hbelow : Memory.read ((k, v) :: t) n = erased := by
        rw [Memory.read, if_neg (by omega), Memory.read_of_lt ht (by omega)]
      by_cases hx : x = erased
      · rw [Memory.write, if_pos hlt, if_pos hx]
        split
        next hm => rw [hm, hbelow, hx]
        next => rfl
      · rw [Memory.write, if_pos hlt, if_neg hx, Memory.read]
        simp only [eq_comm]
    · by_cases hx : x = erased
      · rw [Memory.write, if_neg (Nat.lt_irrefl _), if_pos rfl, if_pos hx, Memory.read]
        split
        next hm => rw [hm, Memory.read_of_lt ht (Nat.lt_succ_self _), hx]
        next hm => rw [if_neg (Ne.symm hm)]
      · rw [Memory.write, if_neg (Nat.lt_irrefl _), if_pos rfl, if_neg hx, Memory.read, Memory.read]
        by_cases hm : m = n
        · rw [if_pos hm.symm, if_pos hm]
        · rw [if_neg (Ne.symm hm), if_neg hm, if_neg (Ne.symm hm)]
    · rw [Memory.write, if_neg (by omega), if_neg (by omega), Memory.read, ih ht, Memory.read]
      by_cases hm : m = n
      · rw [if_pos hm, if_neg (by omega), if_pos hm]
      · rw [if_neg hm, if_neg hm]

theorem Memory.read_write {l : List Host.Cell} (w : Memory.wf l = true) (n m : Nat) (x : Byte) :
    Memory.read (Memory.write l n x) m = if m = n then x else Memory.read l m := Memory.read_write_from w n m x

theorem Memory.read_writes_off {x : List Byte} : ∀ {l : List Host.Cell} {n m : Nat}, Memory.wf l = true → m < n ∨ n + x.length ≤ m →
    Memory.read (Memory.writes l n x) m = Memory.read l m := by
  induction x with
  | nil => exact fun _ _ => rfl
  | cons b t ih =>
    intro l n m w h
    rw [List.length_cons] at h
    rw [Memory.writes, ih (Memory.write_wf w) (by omega), Memory.read_write w, if_neg (by omega)]

theorem Memory.read_writes_at {x : List Byte} : ∀ {l : List Host.Cell} {n i : Nat}, Memory.wf l = true → (hi : i < x.length) →
    Memory.read (Memory.writes l n x) (n + i) = x[i] := by
  induction x with
  | nil => exact fun _ hi => absurd hi (Nat.not_lt_zero _)
  | cons b t ih =>
    intro l n i w hi
    cases i with
    | zero => rw [Memory.writes, Memory.read_writes_off (Memory.write_wf w) (by omega), Memory.read_write w, if_pos (by omega), List.getElem_cons_zero]
    | succ i =>
      have hplace : n + (i + 1) = n + 1 + i := by omega
      rw [Memory.writes, hplace, ih (Memory.write_wf w) (Nat.lt_of_succ_lt_succ hi), List.getElem_cons_succ]

theorem Memory.read_erase_off {l : List Host.Cell} {lo n m : Nat} (h : m < lo ∨ lo + n ≤ m) :
    Memory.read (Memory.erase l lo n) m = Memory.read l m := by
  induction l with
  | nil => rfl
  | cons e t ih =>
    obtain ⟨k, v⟩ := e
    by_cases hk : k < lo ∨ lo + n ≤ k
    · rw [Memory.erase, List.filter_cons_of_pos (by simpa using hk), Memory.read, Memory.read]
      rw [Memory.erase] at ih
      rw [ih]
    · rw [Memory.erase, List.filter_cons_of_neg (by simpa using hk), Memory.read, if_neg (by omega)]
      exact ih

/-! Bytes and words of NVM. -/

theorem State.nvmBytes_nvmPut {s : State} (w : Memory.wf s.nvm = true) (a : Nat) (l : List Byte) : (s.nvmPut a l).nvmBytes a l.length = l := by
  refine List.ext_getElem (by simp [State.nvmBytes]) fun i h1 h2 => ?_
  simp only [State.nvmBytes, List.getElem_map, List.getElem_range]
  exact Memory.read_writes_at w h2

theorem State.nvmByte_nvmPut_off {s : State} (w : Memory.wf s.nvm = true) {a m : Nat} {l : List Byte} (h : m < a ∨ a + l.length ≤ m) :
    (s.nvmPut a l).nvmByte m = s.nvmByte m := Memory.read_writes_off w h

theorem leBytes_length (n v : Nat) : (leBytes n v).length = n := by
  induction n generalizing v with
  | zero => rfl
  | succ n ih => rw [leBytes, List.length_cons, ih]

theorem leNat_leBytes (n v : Nat) : leNat (leBytes n v) = v % 256 ^ n := by
  induction n generalizing v with
  | zero => simp [leBytes, leNat, Nat.mod_one]
  | succ n ih =>
    have hsplit : v % 256 ^ (n + 1) = v % 256 + 256 * (v / 256 % 256 ^ n) := by rw [Nat.pow_succ', Nat.mod_mul]
    rw [leBytes, leNat, ih, hsplit, BitVec.toNat_ofNat]

/-- The word of bytes written from `a` on. -/
theorem State.nvmWord_nvmPut {s : State} (w : Memory.wf s.nvm = true) (a : Nat) (p q : List Byte) (v : Word) :
    (s.nvmPut a (p ++ leBytes 4 v.toNat ++ q)).nvmWord (a + p.length) = v := by
  have hbytes : (s.nvmPut a (p ++ leBytes 4 v.toNat ++ q)).nvmBytes (a + p.length) 4 = leBytes 4 v.toNat := by
    refine List.ext_getElem (by simp [State.nvmBytes, leBytes_length]) fun i h1 h2 => ?_
    have hi : i < 4 := by simpa [leBytes_length] using h2
    have hin : p.length + i < (p ++ leBytes 4 v.toNat ++ q).length := by
      simp only [List.length_append, leBytes_length]
      omega
    have hread := Memory.read_writes_at (n := a) w hin
    simp only [State.nvmBytes, List.getElem_map, List.getElem_range, State.nvmByte, State.nvmPut, Nat.add_assoc, hread]
    rw [List.getElem_append_left (by simp only [List.length_append, leBytes_length]; omega), List.getElem_append_right (by omega)]
    simp
  rw [State.nvmWord, hbytes, leNat_leBytes]
  have hv := v.isLt
  refine BitVec.eq_of_toNat_eq ?_
  rw [BitVec.toNat_ofNat]
  omega

/-! Forced raises (R382). -/

theorem State.fltForce_onlyRaises (s : State) (l : List Nat) (g : State → Nat) :
    ∃ q, (s.each l fun e t => t.forceRaise e (g t)) = { s with raiseQ := q } := by
  induction l generalizing s with
  | nil => exact ⟨s.raiseQ, rfl⟩
  | cons e l ih =>
    obtain ⟨q, hq⟩ := ih (s.forceRaise e (g s))
    exact ⟨q, hq⟩

/-! FCTRL (R382). -/

theorem State.fctrl_shows (s : State) (v : Word) {b : Nat} {u : State}
    (hu : (s.wr fltB FLT.FCTRL_CLS (getBits v 1 3)).wr fltB FLT.FCTRL_LIVE b = u) :
    u.rd fltB FLT.FCTRL_LIVE = b % 2 ^ 1 ∧ u.rd fltB FLT.FCTRL_CLS = getBits v 1 3 ∧ RegsOnly (fun k => k = fltB + 0x40) s u := by
  subst hu
  have hcls : RegsOnly (fun k => k = fltB + 0x40) s (s.wr fltB FLT.FCTRL_CLS (getBits v 1 3)) := RegsOnly.wr _ _ rfl
  refine ⟨State.rd_wr_eq _ _ _ _ (by decide), ?_, hcls.trans (RegsOnly.wr _ _ rfl)⟩
  rw [State.rd_wr_apart _ _ _ _ _ _ (.inr (by decide)), State.rd_wr_eq _ _ _ _ (by decide)]
  exact Nat.mod_eq_of_lt (Nat.mod_lt _ (by decide))

theorem State.fctrl_refused (s : State) (v : Word) {u : State} (hu : (s.wr fltB FLT.FCTRL_CLS (getBits v 1 3)).errQ fltB 1 0 = u) :
    u.bit fltB FLT.FCTRL_LIVE = s.bit fltB FLT.FCTRL_LIVE ∧ u.bit fltB (HDR.ERR.at 1) = true := by
  subst hu
  refine ⟨((errQ_told _ fltB 1 0).bit fltB FLT.FCTRL_LIVE (by decide) (by decide)).trans ?_, State.bit_errQ_silent (by decide) (by decide) _ 0⟩
  exact State.bit_wr_apart _ _ _ _ _ _ (.inr (by decide))

/-! The event log (R505, R506). -/

theorem State.logErase_shows (s : State) (w : Memory.wf s.nvm = true) : Memory.wf s.logErase.nvm = true ∧
    s.logErase.rd logB LOG.EV_POS_NEXT = s.rd logB LOG.EV_POS_NEXT ∧
    ∀ a, a < logB0 ∨ logB0 + 0x10000 ≤ a → s.logErase.nvmByte a = s.nvmByte a := by
  have hnext : s.rd logB LOG.EV_POS_NEXT < 8192 := s.rd_lt logB LOG.EV_POS_NEXT
  unfold State.logErase
  dsimp only
  split
  · refine ⟨Memory.erase_wf w, State.rd_wr_apart _ _ _ _ _ _ (.inr (by decide)), fun a ha => Memory.read_erase_off ?_⟩
    simp only [logB0] at ha ⊢
    omega
  · exact ⟨w, rfl, fun _ _ => rfl⟩

/-- A record stands at the position that the log shows, which moves on by one (R381). -/
theorem State.logPut_shows (s : State) (r : Word × Word) (w : Memory.wf s.nvm = true) :
    (s.logPut r).nvmWord (logB0 + 8 * s.rd logB LOG.EV_POS_NEXT) = r.1 ∧
    (s.logPut r).nvmWord (logB0 + 8 * s.rd logB LOG.EV_POS_NEXT + 4) = r.2 ∧
    (s.logPut r).rd logB LOG.EV_POS_NEXT = (s.rd logB LOG.EV_POS_NEXT + 1) % 8192 ∧
    ∀ a, a < logB0 ∨ logB0 + 0x10000 ≤ a → (s.logPut r).nvmByte a = s.nvmByte a := by
  have hnext : s.rd logB LOG.EV_POS_NEXT < 8192 := s.rd_lt logB LOG.EV_POS_NEXT
  obtain ⟨hwf, hpos, hbytes⟩ := s.logErase_shows w
  unfold State.logPut
  extract_lets p s1 s2 s3
  have hput : (s3.logNext.count logB LOG.EV_CNT_WRITTEN LOG.EV_CNT_WR_SAT logB 2 123).nvm = s2.nvm := by
    obtain ⟨-, hnvm, -⟩ := (count_told s3.logNext logB LOG.EV_CNT_WRITTEN LOG.EV_CNT_WR_SAT logB 2 123).fields
    exact hnvm
  have hword : ∀ a, (s3.logNext.count logB LOG.EV_CNT_WRITTEN LOG.EV_CNT_WR_SAT logB 2 123).nvmWord a = s2.nvmWord a := fun a => by
    simp only [State.nvmWord, State.nvmBytes, State.nvmByte, hput]
  have hp3 : s3.rd logB LOG.EV_POS_NEXT = p := (State.rd_wr_apart _ _ _ _ _ _ (.inr (by decide))).trans hpos
  refine ⟨(hword _).trans ?_, (hword _).trans ?_, ?_, fun a ha => ?_⟩
  · exact State.nvmWord_nvmPut hwf (logB0 + 8 * p) [] (leBytes 4 r.2.toNat) r.1
  · have hsecond := State.nvmWord_nvmPut hwf (logB0 + 8 * p) (leBytes 4 r.1.toNat) [] r.2
    rw [List.append_nil, leBytes_length] at hsecond
    exact hsecond
  · refine ((count_told s3.logNext logB LOG.EV_CNT_WRITTEN LOG.EV_CNT_WR_SAT logB 2 123).rd logB LOG.EV_POS_NEXT (by decide)
      (by decide)).trans ?_
    rw [State.logNext, State.rd_wr_eq _ _ _ _ (by decide), hp3]
    exact Nat.mod_eq_of_lt (Nat.mod_lt _ (by decide))
  · have hlen : (leBytes 4 r.1.toNat ++ leBytes 4 r.2.toNat).length = 8 := by rw [List.length_append, leBytes_length, leBytes_length]
    have hoff : s2.nvmByte a = s1.nvmByte a := State.nvmByte_nvmPut_off hwf (by rw [hlen]; omega)
    rw [State.nvmByte, hput]
    exact hoff.trans (hbytes a ha)

/-- Settles O38. -/
theorem forcingAndLog : Obligations.ForcingAndLog := by
  unfold Obligations.ForcingAndLog
  refine ⟨?_, fun c k v s hacc => does_ifWrites hacc rfl rfl, fun c p v s hacc => does_ifWrites hacc rfl rfl, ?_, ?_, ?_, ?_, ?_, ?_, ?_,
    fun r s hinv => s.logPut_shows r hinv.2⟩
  · intro c k v s hacc
    obtain ⟨q, hq⟩ := s.fltForce_onlyRaises ((onesFrom v (32 * k)).filter (· < 136)) fun t => min 4 (t.rd fltB FLT.FCTRL_CLS)
    exact effect_ifWrites_eq hacc rfl hq rfl
  · intro c p v s hacc hnone
    refine does_ifWrites hacc rfl ?_
    rw [State.errForce, hnone]
    rfl
  · intro p i s hsilent
    simp [State.errForce1, hsilent]
  · intro c v s hacc hlive hmode
    have hfctrl : s.fctrl v = (s.wr fltB FLT.FCTRL_CLS (getBits v 1 3)).errQ fltB 1 0 := by
      simp [State.fctrl, hlive, hmode]
    exact effect_ifWrites_eq hacc rfl rfl (s.fctrl_refused v hfctrl.symm)
  · intro c v s hacc hlive hmode
    have hfctrl : s.fctrl v = (s.wr fltB FLT.FCTRL_CLS (getBits v 1 3)).wr fltB FLT.FCTRL_LIVE 1 := by
      simp [State.fctrl, hlive, hmode]
    obtain ⟨hlive, hcls, honly⟩ := s.fctrl_shows v hfctrl.symm
    refine effect_ifWrites_eq hacc rfl rfl ⟨?_, hcls, honly⟩
    rw [State.bit, hlive]
    rfl
  · intro c v s hacc hlive
    have hfctrl : s.fctrl v = (s.wr fltB FLT.FCTRL_CLS (getBits v 1 3)).wr fltB FLT.FCTRL_LIVE 0 := by
      simp [State.fctrl, hlive]
    obtain ⟨hlive, hcls, honly⟩ := s.fctrl_shows v hfctrl.symm
    refine effect_ifWrites_eq hacc rfl rfl ⟨?_, hcls, honly⟩
    rw [State.bit, hlive]
    rfl
  · intro r rest s hq hwrites
    refine does_of_eq rfl ?_
    simp [hq, hwrites]
  · intro r rest s hq hwrites
    refine does_of_eq rfl ?_
    simp [hq, hwrites]

end Sys2Proof.Machine
end

section
/-! SUPPORT. Retirement, scrubs, the NVM host area and the lofts (R418 to R427). -/

namespace Sys2Proof.Machine

open Sys2Proof

theorem State.loftRec_length (s : State) (seq : Nat) {host : List Byte} (h : host.length ≤ 128) : (s.loftRec seq host).length = 0x200 := by
  simp only [State.loftRec, State.loftFields, List.length_append, leBytes_length, List.length_replicate, List.length_map, List.length_range]
  omega

theorem State.loftShow_only (s : State) (seq t : Nat) (host : List Byte) :
    RegsOnly (fun k => loftB + 0x40 ≤ k ∧ k < loftB + 0x100) s (s.loftShow seq t host) := by
  refine RegsOnly.each ?_ fun w hw u hu => hu.trans (RegsOnly.setW u _ ?_)
  · exact ((((RegsOnly.wr s _ (by decide)).trans (RegsOnly.wr _ _ (by decide))).trans (RegsOnly.wr _ _ (by decide))).trans
      (RegsOnly.wr _ _ (by decide))).trans (RegsOnly.wr _ _ (by decide))
  · have hlt := List.mem_range.1 hw
    omega

theorem State.nvmBytes_of_nvm {s u : State} (h : u.nvm = s.nvm) (a n : Nat) : u.nvmBytes a n = s.nvmBytes a n := by
  simp only [State.nvmBytes, State.nvmByte, h]

/-- The number of the record that is shown. -/
theorem State.rd_loftShow_seq (s : State) (seq t : Nat) (host : List Byte) :
    (s.loftShow seq t host).rd loftB LOFT.CUR_SEQ_SEQ = seq % 2 ^ 32 := by
  have hdata : ∀ v : State, RegsOnly (fun k => loftB + 0x80 ≤ k) v (v.each (List.range 32) fun w u =>
      u.setW (loftB + 0x80 + 4 * w) (BitVec.ofNat 32 (leNat ((host.drop (4 * w)).take 4)))) := fun v =>
    RegsOnly.each (RegsOnly.refl _ v) fun w _ u hu => hu.trans (RegsOnly.setW u _ (Nat.le_add_right _ _))
  unfold State.loftShow
  dsimp only
  rw [(hdata _).rd loftB LOFT.CUR_SEQ_SEQ (by decide), State.rd_wr_ne _ _ _ _ _ _ (by decide), State.rd_wr_ne _ _ _ _ _ _ (by decide),
    State.rd_wr_ne _ _ _ _ _ _ (by decide), State.rd_wr_ne _ _ _ _ _ _ (by decide), State.rd_wr_eq _ _ _ _ (by decide)]
  rfl

/-- What a commit that has written its record tells. -/
theorem State.loftTold_shows (s : State) (seq t : Nat) (host : List Byte) {u : State}
    (hu : (((s.loftShow seq t host).wr loftB LOFT.STATUS_NONE 0).wr loftB LOFT.STATUS_TORN 0).count loftB LOFT.COMMITS_COUNT
      LOFT.COMMITS_SAT loftB 3 124 = u) : u.nvm = s.nvm ∧ u.rd loftB LOFT.CUR_SEQ_SEQ = seq % 2 ^ 32 := by
  have hseq := s.rd_loftShow_seq seq t host
  have hshown := (s.loftShow_only seq t host).told
  obtain ⟨-, hnvm0, -⟩ := hshown.fields
  generalize s.loftShow seq t host = v at *
  have hnone : RegsOnly (fun k => k = loftB + 8) v (v.wr loftB LOFT.STATUS_NONE 0) := RegsOnly.wr v 0 rfl
  have honly := hnone.trans (RegsOnly.wr (b := loftB) (f := LOFT.STATUS_TORN) _ 0 rfl)
  generalize (v.wr loftB LOFT.STATUS_NONE 0).wr loftB LOFT.STATUS_TORN 0 = x at *
  have hcount := count_told x loftB LOFT.COMMITS_COUNT LOFT.COMMITS_SAT loftB 3 124
  rw [hu] at hcount
  obtain ⟨-, hnvm1, -⟩ := honly.told.fields
  obtain ⟨-, hnvm2, -⟩ := hcount.fields
  exact ⟨hnvm2.trans (hnvm1.trans hnvm0), (hcount.rd _ _ (by decide) (by decide)).trans ((honly.rd _ _ (by decide)).trans hseq)⟩

/-- A commit's record stands in its slot, and its number is shown (R423, R426). -/
theorem State.loftCommit_shows (s : State) {host : List Byte} (w : Memory.wf s.nvm = true) (h : host.length ≤ 128) :
    (s.loftCommit host false).nvmBytes (loftAt s.loftNext) 0x200 = s.loftRec s.loftNext host ∧
    (s.loftCommit host false).rd loftB LOFT.CUR_SEQ_SEQ = s.loftNext % 2 ^ 32 ∧ (s.loftRec s.loftNext host).length = 0x200 := by
  have hlen := s.loftRec_length s.loftNext h
  obtain ⟨v, hwf, hcommit⟩ : ∃ v : State, Memory.wf v.nvm = true ∧ s.loftCommit host false =
      (((v.nvmPut (loftAt s.loftNext) (s.loftRec s.loftNext host)).loftShow s.loftNext s.logTime.toNat host |>.wr loftB LOFT.STATUS_NONE 0).wr
        loftB LOFT.STATUS_TORN 0).count loftB LOFT.COMMITS_COUNT LOFT.COMMITS_SAT loftB 3 124 := by
    refine ⟨_, ?_, rfl⟩
    split
    · exact Memory.erase_wf w
    · exact w
  obtain ⟨hnvm, hseq⟩ := State.loftTold_shows _ _ _ _ hcommit.symm
  have hbytes := State.nvmBytes_nvmPut hwf (loftAt s.loftNext) (s.loftRec s.loftNext host)
  rw [hlen] at hbytes
  exact ⟨(State.nvmBytes_of_nvm hnvm _ _).trans hbytes, hseq, hlen⟩

/-! Work in units (R347). -/

theorem State.unitsNow_all {s : State} {k : Cmd} (n : Nat) (h : s.mustYield k = false) : s.unitsNow k n = n - k.prog :=
  if_neg (by simp [h])

theorem State.unitsNow_one {s : State} {k : Cmd} {n : Nat} (h : s.mustYield k = true) (hmore : k.prog + 1 < n) : s.unitsNow k n = 1 :=
  if_pos ⟨h, hmore⟩

/-- A scrub of SRAM that finds nothing wrong. -/
theorem scrubbed_nothing : Scrubbed.plus (Scrubbed.ofAux 0) [] = ⟨0, 0, none, none⟩ := by decide

/-- Settles O41. -/
theorem memoryCommandRows : Obligations.MemoryCommandRows := by
  unfold Obligations.MemoryCommandRows
  refine ⟨?_, ?_, ?_, ?_, ?_, ?_, ?_, ?_, ?_, ?_, ?_, ?_, ?_, ?_⟩
  · intro t k s hready htop
    exact does_start hready rfl (if_pos htop)
  · intro t k s hready htop ha1 ha2 hnew hroom hnvm
    have hspace : (getBits k.a1 0 1 == 1) = false := by rw [ha1]; decide
    refine does_start hready rfl ?_
    dsimp only
    rw [hspace, if_neg (show ¬ spaceTop false ≤ k.a0.toNat from Nat.not_le.2 htop), if_neg (by simp [ha1, ha2]), if_neg (by rw [hnew]; exact Bool.false_ne_true), if_neg (by simpa using hroom),
      if_neg (by simp [hnvm])]
    rfl
  · intro t k s hready htop ha1 ha2 hold
    have hspace : (getBits k.a1 0 1 == 1) = false := by rw [ha1]; decide
    refine does_start hready rfl ?_
    dsimp only
    rw [hspace, if_neg (show ¬ spaceTop false ≤ k.a0.toNat from Nat.not_le.2 htop), if_neg (by simp [ha1, ha2]), if_pos hold]
  · intro t k s hready ha2 hlen htop hlo hn hprog haux hyield
    have hspace : getBits k.a2 0 1 = 0 ∧ getBits k.a2 8 7 = 0 ∧ getBits k.a2 1 1 = 0 ∧ getBits k.a2 2 6 = 0 ∧ k.a2.toNat = 0 := by
      rw [ha2]
      decide
    obtain ⟨hsp, hofs, hrew, hmask, hhigh⟩ := hspace
    refine does_start hready rfl ?_
    dsimp only
    rw [hsp, hofs, hrew, hmask, hhigh, State.unitsNow_all _ hyield, hprog, haux]
    simp [hlen, Nat.not_lt.2 htop, spaceTop, hlo, hn, scrubbed_nothing, State.eccHits]
  · intro t k hits s hready ha1
    exact does_start hready rfl (if_pos (.inl (by rw [ha1]; rfl)))
  · intro t k s hready hlo hn hmax htop ha1 ha2 hnvm hbuf hprog hyield
    refine does_start hready rfl ?_
    dsimp only
    rw [if_neg (by omega), if_neg (by simp [ha1, ha2]), if_neg (by simp [hnvm]), if_neg (by omega), if_neg Bool.false_ne_true,
      State.unitsNow_all _ hyield, hprog, if_neg (by omega)]
    have hall : (((k.buf.drop (getBits k.a1 8 7)).take (getBits k.a1 0 8)).drop (32 * 0)).take (32 * ((getBits k.a1 0 8 + 31) / 32 - 0)) =
        (k.buf.drop (getBits k.a1 8 7)).take (getBits k.a1 0 8) :=
      List.take_of_length_le (by rw [List.length_drop, List.length_take]; omega)
    rw [hall]
    rfl
  · intro t k s hready hlo hn hmax htop ha1 ha2 hnvm hbuf hyield hmore
    refine does_start hready rfl ?_
    dsimp only
    rw [if_neg (by omega), if_neg (by simp [ha1, ha2]), if_neg (by simp [hnvm]), if_neg (by omega), if_neg Bool.false_ne_true,
      State.unitsNow_one hyield (by omega), if_pos (by omega)]
  · intro t k s hready ha2 htop hlo hn hyield hmore
    have hspace : getBits k.a2 0 1 = 0 ∧ getBits k.a2 8 7 = 0 ∧ getBits k.a2 1 1 = 0 ∧ getBits k.a2 2 6 = 0 ∧ k.a2.toNat = 0 := by
      rw [ha2]
      decide
    obtain ⟨hsp, hofs, hrew, hmask, hhigh⟩ := hspace
    have hunit : s.unitsNow k (k.a1.toNat / 4) = 1 := State.unitsNow_one hyield hmore
    refine does_start hready rfl ?_
    dsimp only
    rw [hsp, hofs, hrew, hmask, hhigh]
    simp [Nat.not_lt.2 htop, spaceTop, hlo, hn, hunit, hmore, show k.a1.toNat ≠ 0 by omega]
  · exact fun t k fail s hready hlo => does_start hready rfl (if_pos (.inl hlo))
  · intro t k s hready hn hmax ha0 ha1 ha2 hnvm hbuf
    refine does_start hready rfl ?_
    dsimp only
    rw [if_neg (by omega), if_neg (by simp [ha0, ha1, ha2]), if_neg (by simp [hnvm]), if_neg (by omega), if_neg Bool.false_ne_true]
  · intro s hmode hlock hrun hnvm hstale hholds
    exact does_of_eq rfl (if_pos (by simp [State.loftDue, hmode, hlock, hrun, hnvm, hstale, hholds]))
  · intro fail s hholds
    exact does_of_eq rfl (if_neg (by simp [hholds]))
  · intro fail s hstale
    exact does_of_eq rfl (if_neg (by simp [State.loftDue, hstale]))
  · exact fun host s hinv hlen => s.loftCommit_shows hinv.2 hlen

end Sys2Proof.Machine
end

section
/-! SUPPORT. The one-time-programmable array (R431 to R445). -/

namespace Sys2Proof.Machine

open Sys2Proof

/-! Rows. -/

theorem otpFind_dropped (l : List (Nat × OtpRow)) (r : Nat) : otpFind (l.filter (fun p => p.1 != r)) r = none := by
  induction l with
  | nil => rfl
  | cons p t ih =>
    obtain ⟨k, v⟩ := p
    by_cases hk : k = r
    · rw [List.filter_cons_of_neg (by simp [hk])]
      exact ih
    · rw [List.filter_cons_of_pos (by simp [hk]), otpFind, if_neg hk]
      exact ih

theorem otpFind_dropped_ne (l : List (Nat × OtpRow)) {r n : Nat} (h : n ≠ r) : otpFind (l.filter (fun p => p.1 != r)) n = otpFind l n := by
  induction l with
  | nil => rfl
  | cons p t ih =>
    obtain ⟨k, v⟩ := p
    by_cases hk : k = r
    · rw [List.filter_cons_of_neg (by simp [hk]), otpFind, if_neg (by omega)]
      exact ih
    · rw [List.filter_cons_of_pos (by simp [hk]), otpFind, otpFind, ih]

theorem otpFind_ins {l : List (Nat × OtpRow)} {n : Nat} (x : OtpRow) (h : otpFind l n = none) : otpFind (otpIns l n x) n = some x := by
  induction l with
  | nil => simp [otpIns, otpFind]
  | cons p t ih =>
    obtain ⟨k, v⟩ := p
    by_cases hk : k = n
    · simp [otpFind, hk] at h
    · rw [otpFind, if_neg hk] at h
      rw [otpIns]
      split
      · simp [otpFind]
      · rw [otpFind, if_neg hk, ih h]

theorem otpFind_ins_ne (l : List (Nat × OtpRow)) {n m : Nat} (x : OtpRow) (h : m ≠ n) : otpFind (otpIns l n x) m = otpFind l m := by
  induction l with
  | nil => simp [otpIns, otpFind, Ne.symm h]
  | cons p t ih =>
    obtain ⟨k, v⟩ := p
    rw [otpIns]
    split
    · rw [otpFind, if_neg (Ne.symm h)]
    · rw [otpFind, otpFind, ih]

theorem State.otpRow_setRow (s : State) (r : Nat) (x : OtpRow) : (s.setRow r x).otpRow r = x := by
  unfold State.otpRow State.setRow
  dsimp only
  split
  next hx => rw [otpFind_dropped, hx]; rfl
  next => rw [otpFind_ins _ (otpFind_dropped _ _)]; rfl

theorem State.otpRow_setRow_ne (s : State) {r n : Nat} (x : OtpRow) (h : n ≠ r) : (s.setRow r x).otpRow n = s.otpRow n := by
  unfold State.otpRow State.setRow
  dsimp only
  split
  next => rw [otpFind_dropped_ne _ h]
  next => rw [otpFind_ins_ne _ _ h, otpFind_dropped_ne _ h]

/-- The array's page shows its rows. -/
theorem State.otpShow_only (s : State) : RegsOnly (fun k => k / 0x400 = 0x2C) s s.otpShow := by
  have hpage : ∀ o, o < 0x400 → (otpB + o) / 0x400 = 0x2C := fun o ho => by simp only [otpB, pg]; omega
  unfold State.otpShow
  extract_lets st weak fail free mask s1 s2 s3 s4
  have h1 : RegsOnly (fun k => k / 0x400 = 0x2C) s s1 :=
    ((RegsOnly.wr s _ (by decide)).trans (RegsOnly.wr _ _ (by decide))).trans (RegsOnly.wr _ _ (by decide))
  have h2 : RegsOnly (fun k => k / 0x400 = 0x2C) s s2 :=
    (((h1.trans (RegsOnly.wr _ _ (by decide))).trans (RegsOnly.wr _ _ (by decide))).trans (RegsOnly.wr _ _ (by decide))).andWrB _ (by decide)
  have h3 : RegsOnly (fun k => k / 0x400 = 0x2C) s s3 := by
    refine RegsOnly.each h2 fun k hk u hu => ?_
    have hk3 : k < 3 := by
      simp only [List.mem_cons, List.not_mem_nil, or_false] at hk
      omega
    have hkey : ∀ o, o < 4 → (otpB + 0x48 + 4 * k + o) / 0x400 = 0x2C := fun o ho => by
      have := hpage (0x48 + 4 * k + o) (by omega)
      simpa only [Nat.add_assoc] using this
    exact ((hu.trans (RegsOnly.wr _ _ (hkey _ (by decide)))).andWrB _ (hkey _ (by decide))).andWrB _ (hkey _ (by decide))
  have h4 : RegsOnly (fun k => k / 0x400 = 0x2C) s s4 := by
    refine RegsOnly.each h3 fun k hk u hu => ?_
    have hk16 : k < 16 := List.mem_range.1 hk
    have hkey : ∀ o, o < 4 → (otpB + 0x80 + 4 * k + o) / 0x400 = 0x2C := fun o ho => by
      have := hpage (0x80 + 4 * k + o) (by omega)
      simpa only [Nat.add_assoc] using this
    exact (((hu.trans (RegsOnly.wr _ _ (hkey _ (by decide)))).andWrB _ (hkey _ (by decide))).andWrB _ (hkey _ (by decide))).andWrB _
      (hkey _ (by decide))
  exact h4.trans (RegsOnly.wr _ _ (by decide))

theorem State.otpShow_keeps (s : State) : s.otpShow.otp = s.otp ∧ s.otpShow.otpCtl = s.otpCtl ∧ s.otpShow.otpOvr = s.otpOvr ∧
    s.otpShow.raiseQ = s.raiseQ := by
  obtain ⟨he, -⟩ := s.otpShow_only
  have hotp := congrArg State.otp he
  have hctl := congrArg State.otpCtl he
  have hovr := congrArg State.otpOvr he
  have hraise := congrArg State.raiseQ he
  exact ⟨hotp, hctl, hovr, hraise⟩

theorem State.otpRow_of_otp {s u : State} (h : u.otp = s.otp) (r : Nat) : u.otpRow r = s.otpRow r := by
  rw [State.otpRow, h, State.otpRow]

/-! Counters (R440). -/

/-- 1 plus the largest index below `n` at which `f` holds, or 0. -/
theorem foldl_last_eq {f : Nat → Bool} {m : Nat} : ∀ {n : Nat}, m ≤ n → (m = 0 ∨ f (m - 1) = true) → (∀ j, m ≤ j → j < n → f j = false) →
    (List.range n).foldl (fun a i => if f i then i + 1 else a) 0 = m
  | 0, hm, _, _ => (Nat.le_zero.1 hm).symm
  | n + 1, hm, hlast, habove => by
    rw [List.range_succ, List.foldl_append, List.foldl_cons, List.foldl_nil]
    by_cases hend : m = n + 1
    · have hfn : f n = true := by
        obtain h0 | hf := hlast
        · omega
        · rwa [hend, Nat.add_sub_cancel] at hf
      rw [if_pos hfn, hend]
    · rw [if_neg (by simp [habove n (by omega) (by omega)])]
      exact foldl_last_eq (by omega) hlast fun j hj hlt => habove j hj (by omega)

theorem foldl_last_le (f : Nat → Bool) (n : Nat) : (List.range n).foldl (fun a i => if f i then i + 1 else a) 0 ≤ n := by
  induction n with
  | zero => exact Nat.le_refl 0
  | succ n ih =>
    rw [List.range_succ, List.foldl_append, List.foldl_cons, List.foldl_nil]
    split <;> omega

theorem foldl_last_above (f : Nat → Bool) : ∀ (n j : Nat), (List.range n).foldl (fun a i => if f i then i + 1 else a) 0 ≤ j → j < n → f j = false
  | 0, _, _, h => absurd h (Nat.not_lt_zero _)
  | n + 1, j, hle, hlt => by
    rw [List.range_succ, List.foldl_append, List.foldl_cons, List.foldl_nil] at hle
    split at hle
    next hfn => omega
    next hfn =>
      by_cases hj : j = n
      · rw [hj]
        exact Bool.eq_false_iff.2 hfn
      · exact foldl_last_above f n j hle (by omega)

theorem State.cntVal_eq (s : State) (k : Nat) :
    s.cntVal k = (List.range (cntSteps k)).foldl (fun a i => if s.pairDone k i then i + 1 else a) 0 := rfl

theorem State.cntVal_of_otp {s u : State} (h : u.otp = s.otp) (k : Nat) : u.cntVal k = s.cntVal k := by
  have hpair : u.pairDone k = s.pairDone k := funext fun i => by simp only [State.pairDone, State.otpRow_of_otp h]
  rw [State.cntVal_eq, hpair, State.cntVal_eq]

/-- The row of a counter after its step `n`. -/
def State.stepRow (s : State) (k n : Nat) : OtpRow :=
  { s.otpRow (pairAt k n).1 with v := (s.otpRow (pairAt k n).1).v ||| BitVec.ofNat 64 (3 * 2 ^ (pairAt k n).2) }

theorem State.cntStep_below {s : State} {k : Nat} (h : s.cntVal k ≠ cntSteps k) :
    s.cntStep k = ((s.setRow (pairAt k (s.cntVal k)).1 (s.stepRow k (s.cntVal k))).otpShow, true) := if_neg h

/-- The two bits of a step's pair. -/
theorem getLsbD_pair (b : Nat) {j : Nat} (hj : j < 64) : (BitVec.ofNat 64 (3 * 2 ^ b)).getLsbD j = (decide (j = b) || decide (j = b + 1)) := by
  have hthree : ∀ i : Nat, Nat.testBit 3 i = (decide (i = 0) || decide (i = 1)) := fun i => by
    match i with
    | 0 | 1 => rfl
    | i + 2 => simp [Nat.testBit_succ]
  rw [BitVec.getLsbD_ofNat, Nat.mul_comm, Nat.testBit_two_pow_mul, hthree]
  by_cases hlow : b ≤ j
  · simp [hj, hlow, show (j - b = 0) = (j = b) by simp; omega, show (j - b = 1) = (j = b + 1) by simp; omega]
  · simp [hj, hlow, show ¬ j = b by omega, show ¬ j = b + 1 by omega]

theorem State.pairDone_step (s : State) (k n : Nat) : (s.setRow (pairAt k n).1 (s.stepRow k n)).pairDone k n = true := by
  have hbit : (pairAt k n).2 ≤ 62 := by simp only [pairAt]; omega
  simp only [State.pairDone, State.otpRow_setRow, State.stepRow, BitVec.getLsbD_or]
  rw [getLsbD_pair _ (by omega), getLsbD_pair _ (by omega)]
  simp

theorem State.pairDone_step_ne (s : State) (k : Nat) {n j : Nat} (h : j ≠ n) :
    (s.setRow (pairAt k n).1 (s.stepRow k n)).pairDone k j = s.pairDone k j := by
  have hbit : (pairAt k n).2 ≤ 62 := by simp only [pairAt]; omega
  by_cases hrow : (pairAt k j).1 = (pairAt k n).1
  · have hapart : (pairAt k j).2 ≠ (pairAt k n).2 ∧ (pairAt k j).2 ≠ (pairAt k n).2 + 1 ∧ (pairAt k j).2 + 1 ≠ (pairAt k n).2 ∧
        (pairAt k j).2 ≤ 62 := by
      simp only [pairAt] at hrow ⊢
      omega
    obtain ⟨h0, h1, h2, hle⟩ := hapart
    simp only [State.pairDone, hrow, State.otpRow_setRow, State.stepRow, BitVec.getLsbD_or]
    rw [getLsbD_pair _ (by omega), getLsbD_pair _ (by omega)]
    simp [h0, h1, h2]
  · simp only [State.pairDone, State.otpRow_setRow_ne _ _ hrow]

/-- A counter that is not at its end moves on by one. -/
theorem State.cntVal_cntStep {s : State} {k : Nat} (h : s.cntVal k ≠ cntSteps k) : (s.cntStep k).1.cntVal k = s.cntVal k + 1 := by
  rw [State.cntStep_below h, State.cntVal_of_otp (State.otpShow_keeps _).1]
  have hle : s.cntVal k ≤ cntSteps k := foldl_last_le (s.pairDone k) (cntSteps k)
  refine foldl_last_eq (by omega) (.inr ?_) fun j hj hlt => ?_
  · exact s.pairDone_step k (s.cntVal k)
  · rw [s.pairDone_step_ne k (by omega)]
    exact foldl_last_above (s.pairDone k) (cntSteps k) j (show s.cntVal k ≤ j by omega) hlt

/-! Locks (R439). -/

theorem State.ctlBit_ctlBurn (s : State) {i : Nat} (h : i < 192) : (s.ctlBurn i).ctlBit i = true := by
  have hbit : ∀ c : BitVec 192, (c ||| BitVec.ofNat 192 (2 ^ i)).getLsbD i = true := fun c => by
    rw [BitVec.getLsbD_or, BitVec.getLsbD_ofNat, Nat.testBit_two_pow_self, decide_eq_true h, Bool.and_self, Bool.or_true]
  simp only [State.ctlBit, State.ctlBurn, hbit]
  rfl

/-! Burns (R441, R442). -/

theorem burnOk_goodRow (v : BitVec 64) : burnOk (goodRow v) v = true := by
  by_cases hv : v = 0
  · rw [goodRow, if_pos hv, hv]
    rfl
  · rw [goodRow, if_neg hv]
    simp [burnOk]

/-- A row that reads as it was burned. -/
theorem State.burnRow_first (s : State) (k : Cmd) (r : Nat) (v : BitVec 64) :
    s.burnRow k r v true [] = (s.setRow (s.physRow r) (goodRow v)).otpShow.doneK k 0 := by
  simp [State.burnRow, burnOk_goodRow]

/-! Overrides (R436, R444). -/

theorem ovrFind_ins (l : List (Nat × BitVec 64)) (n : Nat) (x : BitVec 64) : ovrFind (ovrIns l n x) n = some x := by
  induction l with
  | nil => simp [ovrIns, ovrFind]
  | cons p t ih =>
    obtain ⟨k, v⟩ := p
    rw [ovrIns]
    split
    · simp [ovrFind]
    split
    · simp [ovrFind]
    · rw [ovrFind, if_neg (by omega), ih]

theorem ovrFind_dropped (l : List (Nat × BitVec 64)) (r : Nat) : ovrFind (l.filter (fun p => p.1 != r)) r = none := by
  induction l with
  | nil => rfl
  | cons p t ih =>
    obtain ⟨k, v⟩ := p
    by_cases hk : k = r
    · rw [List.filter_cons_of_neg (by simp [hk])]
      exact ih
    · rw [List.filter_cons_of_pos (by simp [hk]), ovrFind, if_neg hk]
      exact ih

theorem State.shadow_of_otp {s u : State} (h : u.otp = s.otp) (hctl : u.otpCtl = s.otpCtl) (r : Nat) : u.shadow r = s.shadow r := by
  have hbit : u.ctlBit = s.ctlBit := funext fun i => by simp only [State.ctlBit, hctl]
  have hvalid : u.rdrValid = s.rdrValid := funext fun k => by rw [State.rdrValid, hbit, State.rdrValid]
  have hrow : u.rdrRow = s.rdrRow := funext fun k => by rw [State.rdrRow, State.ctlNum, hbit, State.rdrRow, State.ctlNum]
  have hphys : u.physRow r = s.physRow r := by rw [State.physRow, State.redir, hvalid, hrow, State.physRow, State.redir]
  rw [State.shadow, State.rowAt, hphys, State.otpRow_of_otp h, State.shadow, State.rowAt]

/-- The state with another list of overrides. -/
def State.withOvr (s : State) (l : List (Nat × BitVec 64)) : State := { s with otpOvr := l }

/-- What the overrides become, and nothing else of the array. -/
theorem State.ovr_shows (s : State) (l : List (Nat × BitVec 64)) {u : State} (hu : (s.withOvr l).otpShow = u) :
    u.otpOvr = l ∧ u.otp = s.otp ∧ u.otpCtl = s.otpCtl ∧ u.raiseQ = s.raiseQ ∧ ∀ r, u.effRow r = (ovrFind l r).getD (s.shadow r) := by
  obtain ⟨hotp, hctl, hovr, hraise⟩ := (s.withOvr l).otpShow_keeps
  rw [hu] at hotp hctl hovr hraise
  have hovrIs : u.otpOvr = l := hovr
  have hotpIs : u.otp = s.otp := hotp
  have hctlIs : u.otpCtl = s.otpCtl := hctl
  exact ⟨hovrIs, hotpIs, hctlIs, hraise, fun r => by rw [State.effRow, hovrIs, State.shadow_of_otp hotpIs hctlIs]⟩

theorem State.ovrCtrl_set {s : State} {c : Nat} (h : s.ovrTaken (s.rd (ck c + otpB) OTP.ROWSEL_ROW) = true) : s.ovrCtrl c 1 =
    (s.withOvr (ovrIns s.otpOvr (s.rd (ck c + otpB) OTP.ROWSEL_ROW)
      (BitVec.ofNat 64 (s.rd otpB OTP.OVR_LO_DATA + s.rd otpB OTP.OVR_HI_DATA * 2 ^ 32)))).otpShow := by
  simp [State.ovrCtrl, h, State.withOvr]

theorem State.ovrCtrl_clear {s : State} {c : Nat} (h : s.ovrTaken (s.rd (ck c + otpB) OTP.ROWSEL_ROW) = true) : s.ovrCtrl c 2 =
    (s.withOvr (s.otpOvr.filter (fun p => p.1 != s.rd (ck c + otpB) OTP.ROWSEL_ROW))).otpShow := by
  simp [State.ovrCtrl, h, State.withOvr]

theorem State.ovrCtrl_clearAll {s : State} (c : Nat) (h : s.mode = mSERVICE ∨ s.mode = mHOLD) : s.ovrCtrl c 3 = (s.withOvr []).otpShow := by
  simp [State.ovrCtrl, h, State.withOvr]

/-- Settles O42. -/
theorem otpRows : Obligations.OtpRows := by
  unfold Obligations.OtpRows
  refine ⟨?_, ?_, ?_, ?_, ?_, ?_, ?_, ?_, ?_, ?_, ?_, ?_, ?_, ?_⟩
  · intro t k s hready hr ha0 ha1 ha2 hbuf hlock hblank hnvm
    refine does_start hready rfl ?_
    dsimp only
    rw [if_neg (by omega), if_neg (by omega), if_neg (by simp [ha0, ha1, ha2]), if_neg (by omega)]
    have hmay : s.burnRefusal (getBits k.a0 0 9) (BitVec.ofNat 64 (leNat ((k.buf.drop (getBits k.a1 0 7)).take 7))) = none := by
      simp [State.burnRefusal, hlock, hblank]
    simp only [hmay, hnvm, hblank, Bool.false_eq_true, if_false, beq_self_eq_true]
    exact s.burnRow_first k _ _
  · intro t k reads s hready hr ha0 ha1 ha2 hbuf hlock hgood
    refine does_start hready rfl ?_
    dsimp only
    rw [if_neg (by omega), if_neg (by omega), if_neg (by simp [ha0, ha1, ha2]), if_neg (by omega)]
    have hmay : s.burnRefusal (getBits k.a0 0 9) (BitVec.ofNat 64 (leNat ((k.buf.drop (getBits k.a1 0 7)).take 7))) = some 4 := by
      simp [State.burnRefusal, hlock, hgood, oGOOD, oFAIL]
    simp only [hmay]
  · intro t k c s hready hc hr ha0 ha1 ha2 hnvm hbelow
    refine does_start hready rfl ?_
    have hrow : getBits k.a0 0 9 - 256 = c := by omega
    dsimp only
    have hstep : (if s.cntVal c = cntSteps c ∨ !s.nvmOff then s.cntStep c else (s, true)) = s.cntStep c := if_pos (by simp [hnvm])
    have hdone : (s.cntStep c).2 = true := congrArg Prod.snd (State.cntStep_below hbelow)
    rw [if_neg (by omega), if_neg (by simp [ha0, ha1, ha2]), hrow, hstep, if_neg (by simp [hdone]), if_neg (by simp [hnvm])]
  · exact fun c s hbelow => State.cntVal_cntStep hbelow
  · intro t k c s hready hc hr ha0 ha1 ha2 hfull
    refine does_start hready rfl ?_
    have hrow : getBits k.a0 0 9 - 256 = c := by omega
    have hstep : s.cntStep c = (s.otpErr 4 6 (256 + c), false) := if_pos hfull
    dsimp only
    have hnow : (if s.cntVal c = cntSteps c ∨ !s.nvmOff then s.cntStep c else (s, true)) = (s.otpErr 4 6 (256 + c), false) :=
      (if_pos (.inl hfull)).trans hstep
    rw [if_neg (by omega), if_neg (by simp [ha0, ha1, ha2]), hrow, hnow, if_pos (by simp)]
  · intro t k g s hready hg hr ha0 ha1 ha2 hnvm hlock hok
    refine does_start hready rfl ?_
    have hrow : getBits k.a0 0 9 - 272 = g := by omega
    have hopen : s.lockDone g = false := by
      simp only [State.regLocked, State.ctlBit, Bool.or_eq_false_iff] at hlock
      simp [State.lockDone, hlock]
    dsimp only
    rw [if_neg (by omega), if_neg (by simp [ha0, ha1, ha2]), if_neg (by simp [hnvm]), hrow, if_neg (by simp [hopen]), if_pos hok]
  · exact fun g s => s.ctlBit_ctlBurn (by omega)
  · intro t k g s hready hg hr ha0 ha1 ha2 hnvm hdone
    refine does_start hready rfl ?_
    have hrow : getBits k.a0 0 9 - 272 = g := by omega
    dsimp only
    rw [if_neg (by omega), if_neg (by simp [ha0, ha1, ha2]), if_neg (by simp [hnvm]), hrow, if_pos hdone]
  · intro t k reads s hready hr ha0 ha1 ha2 hnvm hweak
    refine does_start hready rfl ?_
    dsimp only
    rw [if_neg (by omega), if_neg (by simp [ha0, ha1, ha2]), if_neg (by simp [hnvm]), if_neg (by rw [hweak]; decide), if_pos (.inr hweak)]
  · intro t k reads s hready hr ha0 ha1 ha2 hnvm hgood
    refine does_start hready rfl ?_
    dsimp only
    rw [if_neg (by omega), if_neg (by simp [ha0, ha1, ha2]), if_neg (by simp [hnvm]), if_neg (by rw [hgood]; decide),
      if_neg (by rw [hgood]; decide), if_neg (by rw [hgood]; decide)]
  · intro c s hacc htaken
    obtain ⟨-, hotp, hctl, hraise, heff⟩ := s.ovr_shows _ (State.ovrCtrl_set htaken).symm
    refine effect_ifWrites_eq hacc rfl rfl ⟨?_, hotp, hctl, hraise⟩
    rw [heff, ovrFind_ins]
    rfl
  · intro c s hacc hno
    have hovr := congrArg State.otpOvr (err_told s otpB 6 122 none none).1
    exact effect_ifWrites_eq hacc rfl (by simp [State.ovrCtrl, hno]) ⟨hovr, s.bit_err 122 none none (by decide) (by decide)⟩
  · intro c s hacc htaken
    obtain ⟨-, hotp, -, -, heff⟩ := s.ovr_shows _ (State.ovrCtrl_clear htaken).symm
    refine effect_ifWrites_eq hacc rfl rfl ⟨?_, hotp⟩
    rw [heff, ovrFind_dropped]
    rfl
  · intro c s hacc hmode
    obtain ⟨hovr, hotp, -, -, heff⟩ := s.ovr_shows _ (State.ovrCtrl_clearAll c hmode).symm
    exact effect_ifWrites_eq hacc rfl rfl ⟨hovr, fun r => heff r, hotp⟩

end Sys2Proof.Machine
end

section
/-! SUPPORT. The calendar (R465 to R480). -/

namespace Sys2Proof.Machine

open Sys2Proof

/-! The calendar's fields. -/

theorem monthLen_le (y m : Nat) : monthLen y m ≤ 31 := by
  unfold monthLen
  (repeat' split) <;> decide

/-- The words of the live calendar, WDAY apart. -/
abbrev CalKey (k : Nat) : Prop := rtcB + 0x44 ≤ k ∧ k < rtcB + 0x60

theorem State.cal_of_words {s u : State} (h : ∀ k, CalKey k → u.getW k = s.getW k) : u.cal = s.cal := by
  simp only [State.cal, State.rd, h (rtcB + RTC.SEC_SEC.off) (by decide), h (rtcB + RTC.MIN_MIN.off) (by decide),
    h (rtcB + RTC.HOUR_HOUR.off) (by decide), h (rtcB + RTC.DAY_DAY.off) (by decide), h (rtcB + RTC.MONTH_MONTH.off) (by decide),
    h (rtcB + RTC.YEAR_YEAR.off) (by decide)]

/-- A calendar of the range reads as it was set. -/
theorem State.cal_setCal (s : State) {c : Cal} (h : c.ok = true) : (s.setCal c).cal = c := by
  obtain ⟨hsec, hmin, hhour, -, hmonth, hyear, -, hday⟩ := of_decide_eq_true h
  have hlen := monthLen_le c.year c.month
  have hfield : ∀ (t : State) (f : Fld) (v : Nat), f.lo + f.w ≤ 32 → v < 2 ^ f.w → (t.wr rtcB f v).rd rtcB f = v := fun t f v hw hv => by
    rw [State.rd_wr_eq _ _ _ _ hw, Nat.mod_eq_of_lt hv]
  have hne : ∀ (t : State) (f g : Fld) (v : Nat), g.off ≠ f.off → (t.wr rtcB f v).rd rtcB g = t.rd rtcB g := fun t f g v hfg =>
    State.rd_wr_ne _ _ _ _ _ _ (by omega)
  have secIs : (s.setCal c).rd rtcB RTC.SEC_SEC = c.sec := by
    rw [State.setCal, hne _ _ _ _ (by decide), hne _ _ _ _ (by decide), hne _ _ _ _ (by decide), hne _ _ _ _ (by decide), hne _ _ _ _ (by decide), hne _ _ _ _ (by decide),
      hfield _ _ _ (by decide) (show c.sec < 2 ^ 6 by omega)]
  have minIs : (s.setCal c).rd rtcB RTC.MIN_MIN = c.min := by
    rw [State.setCal, hne _ _ _ _ (by decide), hne _ _ _ _ (by decide), hne _ _ _ _ (by decide), hne _ _ _ _ (by decide), hne _ _ _ _ (by decide),
      hfield _ _ _ (by decide) (show c.min < 2 ^ 6 by omega)]
  have hourIs : (s.setCal c).rd rtcB RTC.HOUR_HOUR = c.hour := by
    rw [State.setCal, hne _ _ _ _ (by decide), hne _ _ _ _ (by decide), hne _ _ _ _ (by decide), hne _ _ _ _ (by decide),
      hfield _ _ _ (by decide) (show c.hour < 2 ^ 5 by omega)]
  have dayIs : (s.setCal c).rd rtcB RTC.DAY_DAY = c.day := by
    rw [State.setCal, hne _ _ _ _ (by decide), hne _ _ _ _ (by decide), hne _ _ _ _ (by decide),
      hfield _ _ _ (by decide) (show c.day < 2 ^ 5 by omega)]
  have monthIs : (s.setCal c).rd rtcB RTC.MONTH_MONTH = c.month := by
    rw [State.setCal, hne _ _ _ _ (by decide), hne _ _ _ _ (by decide),
      hfield _ _ _ (by decide) (show c.month < 2 ^ 4 by omega)]
  have yearIs : (s.setCal c).rd rtcB RTC.YEAR_YEAR = c.year := by
    rw [State.setCal, hne _ _ _ _ (by decide),
      hfield _ _ _ (by decide) (show c.year < 2 ^ 8 by omega)]
  rw [State.cal, secIs, minIs, hourIs, dayIs, monthIs, yearIs]

theorem State.cal_rtcErr (s : State) (i : Nat) (cls d : Option Nat) : (s.rtcErr i cls d).cal = s.cal := by
  obtain ⟨-, -, -, -, hgetW⟩ := s.rtcErr_sets i cls d
  refine State.cal_of_words fun k hk => ?_
  have hint : intKey k = false := by
    simp only [CalKey, intKey, rtcB, pg, beq_eq_false_iff_ne] at hk ⊢
    omega
  have herr : k ≠ rtcB + 0x18 ∧ k ≠ rtcB + 0xC := by
    simp only [CalKey] at hk
    omega
  exact (hgetW k hint herr.1).trans (State.getW_wr_ne s 1 herr.2)

theorem State.frzOf_rtcErr (s : State) (i : Nat) (cls d : Option Nat) (c : Fin 8) : (s.rtcErr i cls d).frzOf c = s.frzOf c := by
  unfold State.rtcErr
  split
  · have hclk := congrArg State.clk (err_told s rtcB i 125 cls d).1
    rw [State.frzOf, hclk, State.frzOf]
  · rfl

theorem State.bit_rtcErr (s : State) {i : Nat} (cls d : Option Nat) (hi : i < 32) : (s.rtcErr i cls d).bit rtcB (HDR.ERR.at i) = true := by
  obtain ⟨-, -, -, -, hgetW⟩ := s.rtcErr_sets i cls d
  refine (State.bit_at_of_getW (f := HDR.ERR.at i) (hgetW _ (by decide : intKey (rtcB + 0xC) = false)
    (by decide : rtcB + 0xC ≠ rtcB + 0x18))).trans ?_
  exact s.bit_wr_one rtcB (HDR.ERR.at i) (show 0 < 1 by decide) (show i + 1 ≤ 32 by omega)

@[simp] theorem State.clk_modClk (s : State) (f : ClkHid → ClkHid) : (s.modClk f).clk = f s.clk := rfl

@[simp] theorem State.clk_wr (s : State) (b : Nat) (f : Fld) (v : Nat) : (s.wr b f v).clk = s.clk := rfl

@[simp] theorem State.regs_modClk (s : State) (f : ClkHid → ClkHid) : (s.modClk f).regs = s.regs := rfl

@[simp] theorem State.getW_modClk (s : State) (f : ClkHid → ClkHid) (k : Nat) : (s.modClk f).getW k = s.getW k := rfl

@[simp] theorem State.rd_modClk (s : State) (f : ClkHid → ClkHid) (b : Nat) (g : Fld) : (s.modClk f).rd b g = s.rd b g := rfl

@[simp] theorem State.rdI_modClk (s : State) (f : ClkHid → ClkHid) (b : Nat) (g : Fld) : (s.modClk f).rdI b g = s.rdI b g := rfl

@[simp] theorem State.bit_modClk (s : State) (f : ClkHid → ClkHid) (b : Nat) (g : Fld) : (s.modClk f).bit b g = s.bit b g := rfl

/-! The freeze of a context (R471). -/

theorem State.frzOf_setFrz (s : State) (c : Fin 8) (f : Option (List Word)) : (s.setFrz c f).frzOf c = f := by
  simp [State.frzOf, State.setFrz, State.modClk]

/-! The trim of the oscillator (R468). -/

/-- The state with fewer cycles of the trim interval. -/
def State.lessCycles (s : State) (n : Nat) : State :=
  s.modClk fun h => { h with cyc := h.cyc - n }

theorem State.clk_ins_lessCycles (s : State) (n : Nat) : (s.lessCycles n).clk.ins = s.clk.ins := rfl

theorem State.clk_cyc_lessCycles (s : State) (n : Nat) : (s.lessCycles n).clk.cyc = s.clk.cyc - n := rfl

theorem State.regs_lessCycles (s : State) (n : Nat) : (s.lessCycles n).regs = s.regs := rfl

theorem State.getW_lessCycles (s : State) (n k : Nat) : (s.lessCycles n).getW k = s.getW k := rfl

/-- The state with `n` cycles to insert besides. -/
def State.moreIns (s : State) (n : Nat) : State :=
  s.modClk fun h => { h with ins := h.ins + n }

theorem State.moreIns_shows (s : State) (n : Nat) :
    (s.moreIns n).clk.ins = s.clk.ins + n ∧ (s.moreIns n).clk.cyc = s.clk.cyc ∧ (s.moreIns n).regs = s.regs :=
  ⟨rfl, rfl, rfl⟩

theorem execTrimCorrection_skip {s : State} (hruns : s.oscRuns = true) (hcyc : 2 ^ 20 ≤ s.clk.cyc) (htrim : s.rdI rtcB RTC.TRIM_TRIM < 0) :
    execTrimCorrection s = .next ((s.lessCycles (2 ^ 20)).moreIns (-s.rdI rtcB RTC.TRIM_TRIM).toNat).settle := by
  rw [execTrimCorrection, if_pos ⟨hruns, hcyc⟩]
  dsimp only
  rw [if_pos (show (s.modClk fun h => { h with cyc := h.cyc - 2 ^ 20 }).rdI rtcB RTC.TRIM_TRIM < 0 by rwa [State.rdI_modClk]), State.rdI_modClk,
    State.moreIns, State.lessCycles]

theorem execTrimCorrection_add {s : State} (hruns : s.oscRuns = true) (hcyc : 2 ^ 20 ≤ s.clk.cyc) (htrim : 0 ≤ s.rdI rtcB RTC.TRIM_TRIM)
    (hroom : s.rd rtcB RTC.SUBSEC_COUNT + (s.rdI rtcB RTC.TRIM_TRIM).toNat < 32768) :
    execTrimCorrection s = .next ((s.lessCycles (2 ^ 20)).wr rtcB RTC.SUBSEC_COUNT
      (s.rd rtcB RTC.SUBSEC_COUNT + (s.rdI rtcB RTC.TRIM_TRIM).toNat)).settle := by
  rw [execTrimCorrection, if_pos ⟨hruns, hcyc⟩]
  dsimp only
  rw [if_neg (show ¬ (s.modClk fun h => { h with cyc := h.cyc - 2 ^ 20 }).rdI rtcB RTC.TRIM_TRIM < 0 by rwa [State.rdI_modClk, Int.not_lt]),
    State.rdI_modClk, State.rd_modClk, if_neg (Nat.not_le.2 hroom), State.lessCycles]

theorem execTrimCorrection_none {s : State} (hcyc : s.clk.cyc < 2 ^ 20) : execTrimCorrection s = .next s.settle := by
  rw [execTrimCorrection, if_neg fun h => Nat.not_le.2 hcyc h.2]

/-- Settles O44. -/
theorem calendarRows : Obligations.CalendarRows := by
  unfold Obligations.CalendarRows
  refine ⟨?_, ?_, ?_, ?_, ?_, ?_, ?_, ?_, ?_, ?_, ?_, ?_, ?_, ?_, ?_, ?_, ?_, ?_, ?_, ?_, ?_⟩
  · exact fun s hruns hlast => does_of_eq rfl (if_pos ⟨hruns, hlast⟩)
  · intro s hno
    refine does_of_eq rfl (if_neg fun ⟨hruns, hlast⟩ => ?_)
    obtain hstopped | hbefore := hno
    · exact Bool.false_ne_true (hstopped.symm.trans hruns)
    · exact hbefore hlast
  · exact fun c hsec => if_pos hsec
  · intro c hsec hmin hhour hday hmonth hyear
    simp [Cal.next, hsec, hmin, hhour, hday, hmonth, hyear]
  · intro s hruns hcyc htrim
    obtain ⟨hins, hcycle, hregs⟩ := (s.lessCycles (2 ^ 20)).moreIns_shows (-s.rdI rtcB RTC.TRIM_TRIM).toNat
    rw [State.clk_ins_lessCycles] at hins
    rw [State.clk_cyc_lessCycles] at hcycle
    rw [State.regs_lessCycles] at hregs
    exact ⟨_, execTrimCorrection_skip hruns hcyc htrim, hins, hcycle, hregs⟩
  · exact fun s hcyc => execTrimCorrection_none hcyc
  · intro s hruns hcyc htrim hroom
    refine ⟨_, execTrimCorrection_add hruns hcyc htrim hroom, (State.rd_wr_eq _ _ _ _ (by decide)).trans (Nat.mod_eq_of_lt hroom), ?_, ?_, ?_⟩
    · rw [State.clk_wr, State.clk_cyc_lessCycles]
    · rw [State.clk_wr, State.clk_ins_lessCycles]
    · exact fun k hk => (State.getW_wr_ne _ _ hk).trans (s.getW_lessCycles _ k)
  · exact fun us s hus => does_of_eq rfl (if_neg fun h => Nat.not_le.2 hus h.2)
  · intro us s hruns hus
    refine effect_of_eq rfl (if_pos ⟨hruns, hus⟩) ?_
    generalize hstop : (s.wr rtcB RTC.STATUS_OSC_RUN 0).wr rtcB RTC.STATUS_OSF 1 = t
    obtain ⟨-, -, -, -, hgetW⟩ := t.rtcErr_sets 0 (some 1) (some 1)
    have hstatus : (t.rtcErr 0 (some 1) (some 1)).getW (rtcB + 8) = t.getW (rtcB + 8) :=
      (hgetW _ (by decide) (by decide)).trans (State.getW_wr_ne t 1 (by decide))
    refine ⟨(State.bit_at_of_getW (f := RTC.STATUS_OSC_RUN) hstatus).trans ?_, (State.bit_at_of_getW (f := RTC.STATUS_OSF) hstatus).trans ?_,
      t.bit_rtcErr (some 1) (some 1) (by decide)⟩
    · rw [← hstop, State.bit_wr_apart _ _ _ _ _ _ (.inr (by decide)), State.bit_wr_zero _ _ _ (by decide)]
    · rw [← hstop, State.bit_wr_one _ _ _ (by decide) (by decide)]
  · intro s
    refine effect_of_eq rfl rfl ⟨s.bit_wr_one _ _ (by decide) (by decide), ?_, RegsOnly.wr s 1 rfl⟩
    exact State.bit_wr_apart _ _ _ _ _ _ (.inl (by decide))
  · intro c s hacc hruns
    refine effect_ifWrites_eq hacc rfl (if_pos hruns) ⟨?_, State.bit_wr_zero _ _ _ (by decide), ?_⟩
    · rw [State.bit_wr_apart _ _ _ _ _ _ (.inl (by decide)), State.bit_wr_zero _ _ _ (by decide)]
    · exact (RegsOnly.wr _ _ (.inr rfl)).trans (RegsOnly.wr _ _ (.inl rfl))
  · exact fun c s hacc hstopped => does_ifWrites hacc rfl (if_neg (by simp [hstopped]))
  · intro c i s hread hopen hi
    have hcal : s.calRead c i = (s.getW (rtcB + 0x40 + 4 * i), (s.setFrz c (some s.calWords)).mark (.frz c)) := by
      have hword : (s.calWords[i.val]?).getD 0 = s.getW (rtcB + 0x40 + 4 * i) := by simp [State.calWords, State.words]
      rw [State.calRead, hopen, Option.getD_none, hword, if_neg fun h : i.val = 7 => hi (Fin.ext h)]
      rfl
    refine effect_of_eq (u := ((s.setFrz c (some s.calWords)).mark (.frz c)).answer c [s.getW (rtcB + 0x40 + 4 * i)]) rfl
      ((if_pos hread).trans (by rw [hcal])) ⟨?_, s.frzOf_setFrz c _, rfl⟩
    rw [State.answer, State.ctx_modCtx]
  · intro c i l s hread hfrz
    have hcal : s.calRead c i = ((l[i.val]?).getD 0, if i = 7 then s.unfreeze c else s) := by
      rw [State.calRead, hfrz]
      simp only [Fin.ext_iff]
      rfl
    refine effect_of_eq (u := (if i = 7 then s.unfreeze c else s).answer c [(l[i.val]?).getD 0]) rfl
      ((if_pos hread).trans (by rw [hcal])) ⟨?_, ?_, ?_⟩
    · rw [State.answer, State.ctx_modCtx]
    · change (if i = 7 then s.unfreeze c else s).frzOf c = _
      split
      · exact s.frzOf_setFrz c none
      · exact hfrz
    · change (if i = 7 then s.unfreeze c else s).regs = _
      split <;> rfl
  · intro c s hfrz hran
    refine effect_of_eq rfl (if_pos ⟨hfrz, hran⟩) ⟨?_, State.bit_rtcErr _ _ _ (by decide)⟩
    rw [State.frzOf_rtcErr, State.unfreeze, State.frzOf_setFrz]
  · exact fun c s hran => does_of_eq rfl (if_neg fun h => Bool.false_ne_true (hran.symm.trans h.2))
  · exact fun c s hacc => effect_ifWrites_eq (u := s.unfreeze c) hacc rfl rfl ⟨s.frzOf_setFrz c none, rfl⟩
  · intro c k v s hacc
    refine effect_ifWrites_eq hacc rfl rfl ⟨?_, ?_, ?_, ?_, ?_⟩
    · refine (State.bit_modClk _ _ _ _).trans ?_
      refine (State.bit_wr_apart _ rtcB RTC.PEND_CTX c rtcB (RTC.PEND_HELD.at k) (.inr ⟨?_, .inl ?_⟩)).trans (s.bit_wr_one _ _ (show 0 < 1 by decide) ?_)
      all_goals
        simp only [Fld.at, RTC.PEND_HELD, RTC.PEND_CTX]
        omega
    · exact (State.rd_modClk _ _ _ _).trans ((State.rd_wr_eq _ _ _ _ (by decide)).trans (Nat.mod_eq_of_lt c.isLt))
    · simp [State.rtcHold]
    · refine State.cal_of_words fun j hj => ?_
      have hne : j ≠ rtcB + 0x60 := by
        simp only [CalKey] at hj
        omega
      exact (State.getW_modClk _ _ j).trans ((State.getW_wr_ne _ _ hne).trans (State.getW_wr_ne _ _ hne))
    · have hheld : RegsOnly (fun j => j = rtcB + RTC.PEND_CTX.off) s (s.wr rtcB (RTC.PEND_HELD.at k) 1) := RegsOnly.wr _ _ rfl
      exact hheld.trans (RegsOnly.wr _ _ rfl)
  · intro c s hacc
    refine effect_ifWrites_eq (u := s.unpend) hacc rfl rfl ⟨State.rd_wr_eq _ _ _ 0 (by decide), State.cal_of_words fun j hj => ?_⟩
    exact State.getW_wr_ne _ _ (by simp only [CalKey, RTC.PEND_HELD] at hj ⊢; omega)
  · intro c v s hacc hok
    refine effect_ifWrites_eq hacc rfl (if_pos hok) ⟨?_, ?_, (State.rd_modClk _ _ _ _).trans (State.rd_wr_eq _ _ _ 0 (by decide)), ?_⟩
    · refine (State.cal_of_words fun j hj => ?_).trans (s.cal_setCal hok)
      have hne : j ≠ rtcB + 0x60 ∧ j ≠ rtcB + 0x40 := by
        simp only [CalKey] at hj
        omega
      exact (State.getW_modClk _ _ j).trans ((State.getW_wr_ne _ _ hne.1).trans (State.getW_wr_ne _ _ hne.2))
    · exact (State.rd_modClk _ _ _ _).trans ((State.rd_wr_ne _ _ _ _ _ _ (by decide)).trans (State.rd_wr_eq _ _ _ 0 (by decide)))
    · intro d
      simp [State.frzOf]
  · intro c v s hacc hbad
    have hheld : s.unpend.rd rtcB RTC.PEND_HELD = 0 := State.rd_wr_eq _ _ _ 0 (by decide)
    have hcal : s.unpend.cal = s.cal := State.cal_of_words fun j hj =>
      State.getW_wr_ne _ _ (by simp only [CalKey, RTC.PEND_HELD] at hj ⊢; omega)
    obtain ⟨-, -, -, -, hgetW⟩ := s.unpend.rtcErr_sets 4 (some 0) none
    refine effect_ifWrites_eq hacc rfl (if_neg (by simp [hbad])) ⟨(State.cal_rtcErr _ _ _ _).trans hcal, ?_, State.bit_rtcErr _ _ _ (by decide)⟩
    exact (State.rd_of_getW (f := RTC.PEND_HELD) ((hgetW (rtcB + 0x60) (by decide) (by decide)).trans (State.getW_wr_ne _ 1 (by decide)))).trans hheld

end Sys2Proof.Machine
end

section
/-! SUPPORT. Discharge, the widened window and the weak backup supply (R144, R153, R156). -/

namespace Sys2Proof.Machine

open Sys2Proof

theorem State.undischarge_keeps (s : State) (x : Nat) :
    State.Keeps (fun k => k = out x + SUPV.OUT_OFF_DIS_FORCE.off) s (s.undischarge x) := by
  have hforce : State.Keeps (fun k => k = out x + SUPV.OUT_OFF_DIS_FORCE.off) s (s.wr (out x) SUPV.OUT_OFF_DIS_FORCE 0) :=
    (State.Keeps.refl _ s).wr 0 rfl
  exact ((hforce.modOut x _).modOut (x + 1) _).ite (hforce.modOut x _)

theorem State.outH_modOut_ne (s : State) {x y : Nat} (f : OutHid → OutHid) (h : y ≠ x) : (s.modOut y f).outH x = s.outH x :=
  congrArg (Option.getD · OutHid.reset) (show (s.outs.setIfInBounds y (f (s.outH y)))[x]? = s.outs[x]? from
    Vector.getElem?_setIfInBounds_ne h)

theorem State.dis_undischarge (s : State) (x : Fin 46) : ((s.undischarge x).outH x).dis = false := by
  have hout : (((s.wr (out x) SUPV.OUT_OFF_DIS_FORCE 0).modOut x fun h => { h with dis := false }).outH x).dis = false := by
    rw [State.outH_modOut]
  unfold State.undischarge
  dsimp only
  split
  · rw [State.outH_modOut_ne _ _ (by omega), hout]
  · exact hout

theorem State.bit_modOut (s : State) (x : Nat) (f : OutHid → OutHid) (b : Nat) (g : Fld) : (s.modOut x f).bit b g = s.bit b g := rfl

theorem State.force_undischarge (s : State) (x : Nat) : (s.undischarge x).bit (out x) SUPV.OUT_OFF_DIS_FORCE = false := by
  unfold State.undischarge
  dsimp only
  split <;> simp only [State.bit_modOut, State.bit_wr_zero _ _ _ (by decide : SUPV.OUT_OFF_DIS_FORCE.lo + SUPV.OUT_OFF_DIS_FORCE.w ≤ 32)]

/-- A forced discharge changes no buck's pairing. -/
theorem State.follows_force (s : State) (x : Fin 46) : (s.wr (out x) SUPV.OUT_OFF_DIS_FORCE 1).follows x = s.follows x := by
  have hx := x.isLt
  rw [State.follows, State.bit_wr_apart _ _ _ _ _ _ (.inl ?_), State.follows]
  simp only [bk, bkPage, out, supvB, pg, BUCK.BK_CTRL_PAR, SUPV.OUT_OFF_DIS_FORCE]
  omega

/-- Settles O15. -/
theorem dischargeRows : Obligations.DischargeRows := by
  unfold Obligations.DischargeRows
  refine ⟨?_, ?_, ?_, ?_, ?_, ?_, ?_⟩
  · intro x s hbelow hran
    have hkeeps := s.undischarge_keeps x
    refine effect_of_eq (u := s.undischarge x) rfl (if_pos (by simp [hbelow, hran])) ⟨s.force_undischarge x, s.dis_undischarge x, fun k hk => hkeeps.getW k hk, hkeeps.raiseQ⟩
  · exact fun x s hno => does_of_eq rfl (if_neg (by rcases hno with h | h <;> simp [h]))
  · exact fun c x s hacc hfollows => does_ifField hacc rfl (by rw [State.disForce, ← s.follows_force x, hfollows, if_neg Bool.false_ne_true])
  · exact fun x s href hran => does_of_eq rfl (if_pos ⟨href, hran⟩)
  · intro x s hno
    refine does_of_eq rfl (if_neg fun ⟨href, hran⟩ => ?_)
    obtain hmoving | hsettling := hno
    · exact hmoving href
    · exact Bool.false_ne_true (hsettling.symm.trans hran)
  · intro mv us s hup hlow hus
    exact does_of_eq rfl (if_pos (by simp [State.vbakLow, hup, hlow, hus]))
  · intro mv us s hno
    refine does_of_eq rfl (if_neg ?_)
    simp only [State.vbakLow, Bool.and_eq_true, decide_eq_true_eq]
    omega

end Sys2Proof.Machine
end

section
/-! SUPPORT. The arbiter's slots, grants and revocations (R341 to R350). -/

namespace Sys2Proof.Machine

open Sys2Proof

theorem State.grantOf_setGrant (s : State) (r : Fin 9) (g : Option Grant) : (s.setGrant r g).grantOf r = g := by
  have hr : r.val < s.grants.size := by simp
  simp [State.grantOf, State.setGrant]

theorem State.grantOf_setGrant_ne (s : State) {r q : Nat} (g : Option Grant) (h : r ≠ q) : (s.setGrant r g).grantOf q = s.grantOf q :=
  congrArg (Option.getD · none) (show (s.grants.setIfInBounds r g)[q]? = s.grants[q]? from Vector.getElem?_setIfInBounds_ne h)

theorem State.grantOf_arbShow (s : State) (r : Nat) : s.arbShow.grantOf r = s.grantOf r := by
  have hgrants := congrArg State.grants s.arbShow_only.1
  rw [State.grantOf, hgrants, State.grantOf]

/-- An engine's request gets the grant. -/
theorem State.grantOf_give_engine (s : State) (r : Fin 9) {q : Req} (h : q.org = .engine) :
    (s.give r q).grantOf r = some ⟨q.who, q.org, q.age, q.prog, s.tick⟩ := by
  have hgive : s.give r q = ((s.setGrant r (some ⟨q.who, q.org, q.age, q.prog, s.tick⟩)).setQueue (resGroup r)
      (promote ((s.queueOf (resGroup r)).erase q))).arbShow := by
    rw [State.give, h]
  rw [hgive, State.grantOf_arbShow]
  exact s.grantOf_setGrant r _

/-- The operation that a write of SELF_REQ asks for, and its resource. -/
theorem State.selfReq_eq (s : State) (c op : Nat) (r : BitVec 4) (hop : op < 4) :
    s.selfReq c (BitVec.ofNat 32 (op + r.toNat * 16)) =
      if op = 1 then s.directAsk c r.toNat else if op = 2 then s.directRelease c r.toNat else s := by
  have hr := r.isLt
  have hopIs : getBits (BitVec.ofNat 32 (op + r.toNat * 16)) 0 2 = op := by
    simp [getBits, BitVec.toNat_ofNat, Nat.shiftRight_eq_div_pow]
    omega
  have hrIs : getBits (BitVec.ofNat 32 (op + r.toNat * 16)) 4 4 = r.toNat := by
    simp [getBits, BitVec.toNat_ofNat, Nat.shiftRight_eq_div_pow]
    omega
  rw [State.selfReq, hopIs, hrIs]

/-- An engine's grant ends at once, where no command's transfer holds it. -/
theorem State.revokeAt_engine (s : State) {r done : Nat} {g : Grant} (hmust : s.mustRevoke r = true) (hat : s.atBoundary r = true)
    (hr : 4 ≤ r) (hg : s.grantOf r = some g) (horg : g.org = .engine) : s.revokeAt r done = (s.revoke r done true).arbServe (resGroup r) := by
  unfold State.revokeAt
  extract_lets ended due q
  have hended : ended = false := by
    refine List.any_eq_false.2 fun h _ => ?_
    cases h.tag with
    | none => simp
    | some t => simp [hg, horg]
  have hdue : due = true := by simp [due, hended, hmust, hat, hr]
  have hq : q = (s, done) := by simp [q, hg, horg]
  rw [hdue, hq]
  rfl

theorem State.revokeAt_none (s : State) {r : Nat} (done : Nat) (hmust : s.mustRevoke r = false) : s.revokeAt r done = s := by
  unfold State.revokeAt
  simp [hmust]

/-- A release of a grant that the context holds. -/
theorem State.directRelease_shows (s : State) (c : Nat) (r : Fin 9) (h : s.directHolds c r = true) :
    (s.directRelease c r).grantOf r = none ∧ (∀ q, q ≠ r.val → (s.directRelease c r).grantOf q = s.grantOf q) ∧
    (s.directRelease c r).raiseQ = s.raiseQ := by
  rw [State.directRelease, if_pos h]
  have hraise := congrArg State.raiseQ (s.setGrant r none).arbShow_only.1
  refine ⟨?_, fun q hq => ?_, hraise⟩
  · rw [State.grantOf_arbShow, State.grantOf_setGrant]
  · rw [State.grantOf_arbShow, State.grantOf_setGrant_ne _ _ (Ne.symm hq)]

/-- Settles O35. -/
theorem arbiterRows : Obligations.ArbiterRows := by
  unfold Obligations.ArbiterRows
  refine ⟨?_, ?_, ?_, ?_, ?_, ?_, ?_, ?_, ?_, ?_, ?_, ?_, ?_, ?_⟩
  · intro s hup hslot
    have hmod : s.tick / 50 % 64 < 64 := Nat.mod_lt _ (by decide)
    refine effect_of_eq rfl (if_pos ⟨hup, hslot⟩) ⟨?_, rfl, fun k hk => State.getW_wr_ne s _ hk⟩
    exact (State.rd_wr_eq s _ _ _ (by decide)).trans (Nat.mod_eq_of_lt hmod)
  · exact fun s hslot => does_of_eq rfl (if_neg fun h => hslot h.2)
  · intro g s hup hdoomed
    refine does_of_eq rfl ((if_pos hup).trans ?_)
    rw [hdoomed]
    rfl
  · intro g r q s hfree hpick
    rw [State.arbServe, hfree, hpick]
  · intro g s hpick
    rw [State.arbServe, hpick]
    split
    next hsome => exact absurd hsome (by simp)
    next => rfl
  · exact fun r q s horg => s.grantOf_give_engine r horg
  · exact fun r done s hup hmust => does_of_eq rfl ((if_pos hup).trans (s.revokeAt_none done hmust))
  · exact fun r done g s hup hmust hat hr hg horg => does_of_eq rfl ((if_pos hup).trans (s.revokeAt_engine hmust hat hr hg horg))
  · intro c r s hacc hr hfits
    have hval : r.toNat = 7 ∨ r.toNat = 8 := hr.imp (congrArg BitVec.toNat) (congrArg BitVec.toNat)
    refine does_ifWrites hacc rfl ((s.selfReq_eq c 1 r (by decide)).trans ?_)
    rw [if_pos rfl, State.directAsk, if_neg (by omega), if_pos hfits]
  · intro c r s hacc h7 h8
    have hval : r.toNat ≠ 7 ∧ r.toNat ≠ 8 := ⟨fun h => h7 (BitVec.eq_of_toNat_eq h), fun h => h8 (BitVec.eq_of_toNat_eq h)⟩
    refine does_ifWrites hacc rfl ((s.selfReq_eq c 1 r (by decide)).trans ?_)
    rw [if_pos rfl, State.directAsk, if_pos hval]
  · intro c r s hacc hr hholds
    have hval : r.toNat = 7 ∨ r.toNat = 8 := hr.imp (congrArg BitVec.toNat) (congrArg BitVec.toNat)
    obtain ⟨hnone, hothers, hraise⟩ := s.directRelease_shows c ⟨r.toNat, by omega⟩ hholds
    exact effect_ifWrites_eq hacc rfl ((s.selfReq_eq c 2 r (by decide)).trans rfl) ⟨hnone, fun q _ hq => hothers q hq, hraise⟩
  · intro c r s hacc hholds
    refine does_ifWrites hacc rfl ((s.selfReq_eq c 2 r (by decide)).trans ?_)
    rw [if_neg (by decide), if_pos rfl, State.directRelease, hholds, if_neg Bool.false_ne_true]
  · intro r g s hg horg hmax hat hage
    refine does_of_eq rfl ?_
    rw [hg]
    exact if_pos ⟨horg, hmax, hat, hage⟩
  · intro r g s hg hage
    refine does_of_eq rfl ?_
    rw [hg]
    exact if_neg fun ⟨_, _, _, h⟩ => by omega

end Sys2Proof.Machine
end

section
/-! SUPPORT. Outputs by their kind, and the bucks (R202, R205, R207 to R210). -/

namespace Sys2Proof.Machine

open Sys2Proof

/-! Outputs by their kind. -/

theorem outKind_buck (n : Fin 16) : outKind (12 + n) = .buck := by
  rw [outKind, if_neg (by omega), if_pos (by omega)]

theorem outKind_ldo (j : Fin 10) : outKind (28 + j) = .ldo := by
  rw [outKind, if_neg (by omega), if_neg (by omega), if_pos (by omega)]

theorem outKind_ls (k : Fin 8) : outKind (38 + k) = .ls := by
  rw [outKind, if_neg (by omega), if_neg (by omega), if_neg (by omega)]

/-- Only a buck in parallel follows another output. -/
theorem State.follows_ge (s : State) {x : Nat} (hx : 28 ≤ x) : s.follows x = false := by
  have hnot : ¬ (12 ≤ x ∧ x < 28 ∧ (x - 12) % 2 = 1) := by omega
  rw [State.follows, decide_eq_false hnot, Bool.false_and]

/-! The control registers of outputs lie outside the device page, so that turning an output on or off moves no mode. -/

theorem dev_mode_ne_out {x o : Nat} (hx : x < 46) (ho : o ≤ 8) : devB + 0x80 ≠ out x + o := by
  simp only [devB, out, supvB, pg]
  omega

theorem dev_mode_ne_buck {n o : Nat} (hn : n < 16) (ho : o < 0x20) :
    devB + 0x80 ≠ bk n + o ∧ devB + 0x80 ≠ bkPage n + 8 := by
  simp only [devB, bk, bkPage, pg]
  omega

theorem dev_mode_ne_ldo {j o : Nat} (hj : j < 10) (ho : o < 0x20) : devB + 0x80 ≠ ldo j + o ∧ devB + 0x80 ≠ ldoB + 8 := by
  simp only [devB, ldo, ldoB, pg]
  omega

theorem dev_mode_ne_ls {k o : Nat} (hk : k < 8) (ho : o < 0x20) : devB + 0x80 ≠ ls k + o := by
  simp only [devB, ls, ldoB, pg]
  omega

namespace State.HoldsMode

variable {s t : State}

theorem modOut (h : s.HoldsMode t) (x : Nat) (f : OutHid → OutHid) : s.HoldsMode (t.modOut x f) := h.fields

theorem modBuck (h : s.HoldsMode t) (n : Nat) (f : BuckHid → BuckHid) : s.HoldsMode (t.modBuck n f) := h.fields

theorem allPg (h : s.HoldsMode t) : s.HoldsMode t.allPg := h.wr _ (by decide)

theorem undischarge (h : s.HoldsMode t) {x : Nat} (hx : x < 46) : s.HoldsMode (t.undischarge x) := by
  have hforce : s.HoldsMode (t.wr (out x) SUPV.OUT_OFF_DIS_FORCE 0) := h.wr _ (dev_mode_ne_out hx (by decide))
  exact ((hforce.modOut x _).modOut (x + 1) _).ite (hforce.modOut x _)

theorem setEn (h : s.HoldsMode t) {x : Nat} (hx : 12 ≤ x ∧ x < 46) (b : Bool) : s.HoldsMode (t.setEn x b) := by
  unfold State.setEn outKind
  rw [if_neg (by omega)]
  by_cases hbuck : x < 28
  · rw [if_pos hbuck]
    exact h.wr _ (dev_mode_ne_buck (by omega) (by decide)).1
  rw [if_neg hbuck]
  by_cases hldo : x < 38
  · rw [if_pos hldo]
    exact h.wr _ (dev_mode_ne_ldo (by omega) (by decide)).1
  · rw [if_neg hldo]
    exact h.wr _ (dev_mode_ne_ls (by omega) (by decide))

theorem setOutSt (h : s.HoldsMode t) {x : Nat} (hx : 12 ≤ x ∧ x < 46) (v : Nat) : s.HoldsMode (t.setOutSt x v) := by
  unfold State.setOutSt outKind
  rw [if_neg (by omega)]
  by_cases hbuck : x < 28
  · rw [if_pos hbuck]
    exact (h.wr _ (dev_mode_ne_buck (by omega) (by decide)).1).wr _ (dev_mode_ne_buck (o := 0) (by omega) (by decide)).2
  rw [if_neg hbuck]
  by_cases hldo : x < 38
  · rw [if_pos hldo]
    exact (h.wr _ (dev_mode_ne_ldo (by omega) (by decide)).1).wr _ (show devB + 0x80 ≠ ldoB + 8 by decide)
  · rw [if_neg hldo]
    exact (h.wr _ (dev_mode_ne_ls (by omega) (by decide))).wr _ (show devB + 0x80 ≠ ldoB + 8 by decide)

end State.HoldsMode

/-- An enable of the host outside RISING. -/
theorem State.hostOn_of_enable {s u : State} {x : Nat} {imon : List (Fin 56 × Nat)} (hseq : s.seqWrote x = false)
    (hen : s.enable x imon = u) (hmode : s.HoldsMode u) (hrising : s.mode ≠ mRISING) : s.hostOn x imon = u := by
  simp [State.hostOn, hseq, hen, hmode.mode, hrising]

/-- A disable of the host. -/
theorem State.hostOff_of_follows {s : State} {x : Nat} (hseq : s.seqWrote x = false) (hfollows : s.follows x = false) :
    s.hostOff x = if s.outSt x = 0 then s.setEn x false else s.outOff x 0 := by
  simp [State.hostOff, hseq, State.disable, hfollows]

/-- A disable of the host of an output that is off. -/
theorem State.hostOff_of_off {s : State} {x : Nat} (hseq : s.seqWrote x = false) (hst : s.outSt x = 0) :
    s.hostOff x = s.setEn x false := by
  simp [State.hostOff, hseq, State.disable, hst]

theorem State.setEn_buck (s : State) (n : Fin 16) (b : Bool) : s.setEn (12 + n) b = s.wrB (bk n) BUCK.BK_CTRL_EN b := by
  rw [State.setEn, outKind_buck]
  dsimp only
  rw [Nat.add_sub_cancel_left]

/-! The bucks. -/

/-- The enable of a buck that is off. -/
theorem State.enable_buck {s : State} {n : Fin 16} {imon : List (Fin 56 × Nat)} (hmode : mRISING < s.mode)
    (hheld : s.held (12 + n) = false) (hfollows : s.follows (12 + n) = false) (hst : s.outSt (12 + n) = 0) :
    s.enable (12 + n) imon = (((((s.setEn (12 + n) true).undischarge (12 + n)).setOutSt (12 + n) 1).modBuck n
      (fun h => { h with vt := (s.setEn (12 + n) true).target (12 + n), sw := .mid })).allPg) := by
  rw [State.enable, if_neg (by omega), hheld, if_neg Bool.false_ne_true, outKind_buck]
  dsimp only
  rw [hfollows, if_neg Bool.false_ne_true, if_pos hst, Nat.add_sub_cancel_left]

/-- Settles O16. -/
theorem buckRows : Obligations.BuckRows := by
  unfold Obligations.BuckRows
  refine ⟨?_, ?_, ?_, ?_, ?_, ?_, ?_, ?_, ?_, ?_, ?_, ?_, ?_, ?_, ?_, ?_⟩
  · intro c n s hacc hseq hheld hfollows hst hmode
    have hmoves : s.HoldsMode (((((s.setEn (12 + n) true).undischarge (12 + n)).setOutSt (12 + n) 1).modBuck n
        (fun h => { h with vt := (s.setEn (12 + n) true).target (12 + n), sw := .mid })).allPg) :=
      (((((State.HoldsMode.refl s).setEn (by omega) true).undischarge (by omega)).setOutSt (by omega) 1).modBuck _ _).allPg
    exact does_ifField hacc rfl (State.hostOn_of_enable hseq (State.enable_buck hmode hheld hfollows hst) hmoves (by omega))
  · intro c n s hacc hseq hst hfollows
    exact does_ifField hacc rfl ((State.hostOff_of_follows hseq hfollows).trans (if_neg hst))
  · intro c n s hacc hseq hst
    refine effect_ifField hacc rfl ((State.hostOff_of_off hseq hst).trans (s.setEn_buck n false)) ⟨?_, RegsOnly.wr s 0 rfl⟩
    exact s.bit_wrB _ BUCK.BK_CTRL_EN false (by decide) (by decide)
  · intro n uv s hst hle
    refine does_of_eq rfl ((if_pos hst).trans ?_)
    dsimp only
    rw [Nat.add_sub_cancel_left, if_neg (by omega)]
  · intro n uv s hst hlt
    refine does_of_eq rfl ((if_pos hst).trans ?_)
    dsimp only
    rw [Nat.add_sub_cancel_left, if_pos hlt]
  · exact fun n uv s hst => does_of_eq rfl (if_neg hst)
  · exact fun n uv vin ma fma cycle s => rfl
  · intro n uv vin ma fma cycle s h2 h3 hfollows
    refine does_of_eq rfl ((if_pos ⟨h2, h3⟩).trans ?_)
    rw [show 12 + n.val + 1 = 13 + n.val by omega, hfollows, Nat.add_sub_cancel_left]
    rfl
  · intro n ma s hlead hst hrun hpeak
    refine does_of_eq rfl ?_
    dsimp only
    rw [hlead, if_pos ⟨.inr hst, hrun, hpeak⟩, Nat.add_sub_cancel_left]
  · exact fun n ma s hlow => does_of_eq rfl (if_neg fun h => Nat.not_le.2 hlow h.2.2)
  · intro c k s hacc hlead hfollow
    have hnext : 12 + 2 * k.val + 1 = 13 + 2 * k.val := by omega
    refine does_ifField hacc rfl ((if_pos ⟨hlead, .inr (by rw [hnext, hfollow])⟩).trans ?_)
    rw [hnext]
    rfl
  · intro c k s hacc hlead hfollow
    have hnext : 12 + 2 * k.val + 1 = 13 + 2 * k.val := by omega
    refine does_ifField hacc rfl ((if_pos ⟨hlead, .inl (by rw [hnext, hfollow])⟩).trans ?_)
    rw [hnext]
    rfl
  · exact fun c k b s hacc hlead => does_ifField hacc rfl (if_neg fun h => hlead h.1)
  · intro n s hstagger hfollows
    simp [State.buckAngle, hstagger, hfollows]
  · intro n s hstagger hfollows hn
    simp [State.buckAngle, hstagger, hfollows]
    omega
  · intro n s hstagger
    simp [State.buckAngle, hstagger]

end Sys2Proof.Machine
end

section
/-! SUPPORT. The LDOs and the load switches (R211 to R215). -/

namespace Sys2Proof.Machine

open Sys2Proof

namespace State.HoldsMode

variable {s t : State}

theorem ssDone_ls (h : s.HoldsMode t) (k : Fin 8) : s.HoldsMode (t.ssDone (38 + k)) := by
  have hk := k.isLt
  rw [State.ssDone, outKind_ls]
  exact ((h.mark _).mark _).setOutSt (by omega) 2

end State.HoldsMode

/-! Enables. -/

/-- The enable of an LDO that is off. -/
theorem State.enable_ldo {s : State} {j : Fin 10} {imon : List (Fin 56 × Nat)} (hmode : j = 0 ∨ mRISING ≤ s.mode)
    (hheld : s.held (28 + j) = false) (hst : s.outSt (28 + j) = 0) :
    s.enable (28 + j) imon = (if j = 0 then
        ((((s.setEn (28 + j) true).undischarge (28 + j)).setOutSt (28 + j) 1).mark (.rise (28 + j))).wr (ldo 0) LDO.LDO_STAT_KA 1
      else (((s.setEn (28 + j) true).undischarge (28 + j)).setOutSt (28 + j) 1).mark (.rise (28 + j))).allPg := by
  have hfirst : (28 + j.val = 28) = (j = 0) := propext ⟨fun h => Fin.ext (by simpa using h), fun h => by rw [h]; rfl⟩
  have hmodes : ¬ (28 + j.val ≠ 28 ∧ s.mode < mRISING) := by
    rw [ne_eq, hfirst]
    rintro ⟨hne, hlow⟩
    exact hmode.elim hne fun h => Nat.not_le.2 hlow h
  rw [State.enable, if_neg hmodes, hheld, if_neg Bool.false_ne_true, outKind_ldo]
  dsimp only
  rw [if_pos hst]
  simp only [hfirst]

/-- The enable of a load switch that is off. -/
theorem State.enable_ls {s : State} {k : Fin 8} {imon : List (Fin 56 × Nat)} (hmode : mRISING ≤ s.mode)
    (hheld : s.held (38 + k) = false) (hst : s.outSt (38 + k) = 0) :
    s.enable (38 + k) imon = (if s.atInput (38 + k) then ((s.setEn (38 + k) true).undischarge (38 + k)).ssDone (38 + k)
      else ((s.setEn (38 + k) true).undischarge (38 + k)).setOutSt (38 + k) 1).allPg := by
  rw [State.enable, if_neg (by omega), hheld, if_neg Bool.false_ne_true, outKind_ls]
  dsimp only
  rw [if_pos hst]

theorem State.setOutSt_ldo (s : State) (j : Fin 10) (v : Nat) :
    s.setOutSt (28 + j) v = (s.wr (ldo j) LDO.LDO_STAT_STATE v).wrB ldoB (LDO.STATUS_LDO_ON.at j) (v != 0) := by
  rw [State.setOutSt, outKind_ldo]
  dsimp only
  rw [Nat.add_sub_cancel_left]

theorem State.setOutSt_ls (s : State) (k : Fin 8) (v : Nat) :
    s.setOutSt (38 + k) v = (s.wr (ls k) LDO.LS_STAT_STATE v).wrB ldoB (LDO.STATUS_LS_ON.at (16 + k)) (v != 0) := by
  rw [State.setOutSt, outKind_ls]
  dsimp only
  rw [Nat.add_sub_cancel_left]

theorem State.outSt_ldo (s : State) (j : Fin 10) : s.outSt (28 + j) = s.rd (ldo j) LDO.LDO_STAT_STATE := by
  rw [State.outSt, outKind_ldo]
  dsimp only
  rw [Nat.add_sub_cancel_left]

theorem State.outSt_ls (s : State) (k : Fin 8) : s.outSt (38 + k) = s.rd (ls k) LDO.LS_STAT_STATE := by
  rw [State.outSt, outKind_ls]
  dsimp only
  rw [Nat.add_sub_cancel_left]

theorem State.endWaits_none {s : State} {x : Nat} (h : ∀ k ∈ s.cmds, moves x k = false) : s.endWaits x = s := by
  have hcmds : s.cmds.filter (moves x) = [] := List.filter_eq_nil_iff.2 fun k hk => by simp [h k hk]
  rw [State.endWaits, hcmds, List.foldl_nil]

/-- The end of an LDO's rise, where no command waits for it. -/
theorem State.ssDone_ldo {s : State} {j : Fin 10} (hnone : ∀ k ∈ s.cmds, moves (28 + j) k = false) :
    s.ssDone (28 + j) = (((s.mark (.ssAt (28 + j))).mark (.retry (28 + j))).setOutSt (28 + j) 2).wr (ldo j) LDO.LDO_STAT_SS_DONE 1 := by
  rw [State.ssDone, outKind_ldo]
  dsimp only
  rw [Nat.add_sub_cancel_left]
  refine State.endWaits_none fun k hk => hnone k ?_
  rw [State.setOutSt_ldo] at hk
  exact hk

/-- What the state RUN of an LDO shows. -/
theorem State.ldoRun_shows (t : State) (j : Fin 10) :
    ((t.setOutSt (28 + j) 2).wr (ldo j) LDO.LDO_STAT_SS_DONE 1).outSt (28 + j) = 2 ∧
    ((t.setOutSt (28 + j) 2).wr (ldo j) LDO.LDO_STAT_SS_DONE 1).bit (ldo j) LDO.LDO_STAT_SS_DONE = true ∧
    ((t.setOutSt (28 + j) 2).wr (ldo j) LDO.LDO_STAT_SS_DONE 1).bit ldoB (LDO.STATUS_LDO_ON.at j) = true ∧
    RegsOnly (fun k => k = ldo j + LDO.LDO_STAT_STATE.off ∨ k = ldoB + LDO.STATUS_LDO_ON.off) t
      ((t.setOutSt (28 + j) 2).wr (ldo j) LDO.LDO_STAT_SS_DONE 1) := by
  have hj := j.isLt
  have hkeys : ldoB + 8 ≠ ldo j + 0xC := by rw [ldo]; omega
  rw [State.setOutSt_ldo]
  refine ⟨?_, State.bit_wr_one _ _ _ (by decide) (by decide), ?_, ?_⟩
  · rw [State.outSt_ldo, State.rd_wr_apart _ _ _ _ _ _ (.inr (by decide)), State.wrB_eq, State.rd_wr_ne _ _ _ _ _ _ hkeys.symm,
      State.rd_wr_eq _ _ _ _ (by decide)]
    rfl
  · rw [State.bit_wr_apart _ _ _ _ _ _ (.inl hkeys)]
    exact State.bit_wrB _ _ _ true (show 0 < 1 by decide) (show j.val + 1 ≤ 32 by omega)
  · exact ((RegsOnly.wr t 2 (.inl rfl)).trans (RegsOnly.wr _ 1 (.inr rfl))).trans (RegsOnly.wr _ 1 (.inl rfl))

theorem State.ssDone_ls_shows (s : State) (k : Fin 8) :
    (s.ssDone (38 + k)).outSt (38 + k) = 2 ∧ (s.ssDone (38 + k)).bit ldoB (LDO.STATUS_LS_ON.at (16 + k)) = true ∧
    State.Keeps (fun n => n = ls k + LDO.LS_STAT_STATE.off ∨ n = ldoB + LDO.STATUS_LS_ON.off) s (s.ssDone (38 + k)) := by
  have hk := k.isLt
  have hkeys : ldoB + 8 ≠ ls k + 8 := by rw [ls]; omega
  rw [State.ssDone, outKind_ls]
  dsimp only
  rw [State.setOutSt_ls]
  generalize hmark : (s.mark (.ssAt (38 + k))).mark (.retry (38 + k)) = t
  have hkeeps : State.Keeps (fun n => n = ls k + LDO.LS_STAT_STATE.off ∨ n = ldoB + LDO.STATUS_LS_ON.off) s t :=
    hmark ▸ ((State.Keeps.refl _ s).mark _).mark _
  refine ⟨?_, ?_, (hkeeps.wr 2 (.inl rfl)).wrB _ (.inr rfl)⟩
  · rw [State.outSt_ls, State.wrB_eq, State.rd_wr_ne _ _ _ _ _ _ hkeys.symm, State.rd_wr_eq _ _ _ _ (by decide)]
    rfl
  · exact State.bit_wrB _ _ _ true (show 0 < 1 by decide) (show 16 + k.val + 1 ≤ 32 by omega)

/-- The reverse block of a load switch, and its record. -/
theorem State.lsBlock_shows (t : State) (k : Fin 8) {u : State}
    (hu : (((t.wr (ls k) LDO.LS_STAT_REV_BLOCK 1).wr (ls k) LDO.LS_STAT_LIMITING 0).wr (ls k) LDO.LS_STAT_IOUT 0).err ldoB 3 (38 + k)
      (some 0) none = u) :
    u.bit (ls k) LDO.LS_STAT_REV_BLOCK = true ∧ u.outSt (38 + k) = t.outSt (38 + k) ∧ u.bit (ls k) LDO.LS_STAT_LIMITING = false ∧
    u.rd (ls k) LDO.LS_STAT_IOUT = 0 ∧
    Told (fun n => n = ls k + LDO.LS_STAT_REV_BLOCK.off ∨ n = ldoB + 0xC ∨ n = ldoB + 0x18) t u := by
  have hk := k.isLt
  have hint : intKey (ls k + 8) = false := by
    simp only [intKey, ls, ldoB, pg, beq_eq_false_iff_ne]
    omega
  have hkeys : ¬ (ls k + 8 = ldoB + 0xC ∨ ls k + 8 = ldoB + 0x18) := by
    rw [ls]
    omega
  have hblock : RegsOnly (fun n => n = ls k + LDO.LS_STAT_REV_BLOCK.off ∨ n = ldoB + 0xC ∨ n = ldoB + 0x18) t
      (((t.wr (ls k) LDO.LS_STAT_REV_BLOCK 1).wr (ls k) LDO.LS_STAT_LIMITING 0).wr (ls k) LDO.LS_STAT_IOUT 0) :=
    ((RegsOnly.wr t 1 (.inl rfl)).trans (RegsOnly.wr _ 0 (.inl rfl))).trans (RegsOnly.wr _ 0 (.inl rfl))
  have htold := err_told (((t.wr (ls k) LDO.LS_STAT_REV_BLOCK 1).wr (ls k) LDO.LS_STAT_LIMITING 0).wr (ls k) LDO.LS_STAT_IOUT 0)
    ldoB 3 (38 + k) (some 0) none
  rw [hu] at htold
  refine ⟨?_, ?_, ?_, ?_, hblock.told.trans (htold.mono fun _ => .inr)⟩
  · rw [htold.bit _ _ hint hkeys, State.bit_wr_apart _ _ _ _ _ _ (.inr (by decide)), State.bit_wr_apart _ _ _ _ _ _ (.inr (by decide)),
      State.bit_wr_one _ _ _ (by decide) (by decide)]
  · rw [State.outSt_ls, htold.rd _ _ hint hkeys, State.rd_wr_apart _ _ _ _ _ _ (.inr (by decide)),
      State.rd_wr_apart _ _ _ _ _ _ (.inr (by decide)), State.rd_wr_apart _ _ _ _ _ _ (.inr (by decide)), State.outSt_ls]
  · rw [htold.bit _ _ hint hkeys, State.bit_wr_apart _ _ _ _ _ _ (.inr (by decide)), State.bit_wr_zero _ _ _ (by decide)]
  · rw [htold.rd _ _ hint hkeys, State.rd_wr_eq _ _ _ _ (by decide), Nat.zero_mod]

/-- Settles O17. -/
theorem ldoAndSwitchRows : Obligations.LdoAndSwitchRows := by
  unfold Obligations.LdoAndSwitchRows
  refine ⟨?_, ?_, ?_, ?_, ?_, ?_, ?_, ?_, ?_, ?_, ?_, ?_, ?_, ?_, ?_, ?_, ?_, ?_, ?_, ?_, ?_, ?_, ?_, ?_, ?_⟩
  · intro c j s hacc hseq hheld hj hst hmode
    have hmoves : s.HoldsMode ((((s.setEn (28 + j) true).undischarge (28 + j)).setOutSt (28 + j) 1).mark (.rise (28 + j))).allPg :=
      (((((State.HoldsMode.refl s).setEn (by omega) true).undischarge (by omega)).setOutSt (by omega) 1).mark _).allPg
    refine does_ifField hacc rfl (State.hostOn_of_enable hseq ?_ hmoves (by omega))
    rw [State.enable_ldo (.inr (by omega)) hheld hst, if_neg hj]
  · intro c s hacc hseq hheld hst hmode
    have hmoves : s.HoldsMode (((((s.setEn 28 true).undischarge 28).setOutSt 28 1).mark (.rise 28)).wr (ldo 0) LDO.LDO_STAT_KA 1).allPg :=
      ((((((State.HoldsMode.refl s).setEn (by omega) true).undischarge (by omega)).setOutSt (by omega) 1).mark _).wr _ (by decide)).allPg
    refine does_ifField hacc rfl (State.hostOn_of_enable (u := _) hseq ?_ hmoves hmode)
    exact State.enable_ldo (j := 0) (.inl rfl) hheld hst
  · intro c j s hacc hseq hst
    exact does_ifField hacc rfl ((State.hostOff_of_follows hseq (s.follows_ge (by omega))).trans (if_neg hst))
  · exact fun c j s hacc hseq hst => does_ifField hacc rfl (State.hostOff_of_off hseq hst)
  · intro j s hst hnone hran
    obtain ⟨hstate, hdone, hon, honly⟩ := State.ldoRun_shows ((s.mark (.ssAt (28 + j))).mark (.retry (28 + j))) j
    refine effect_of_eq rfl ((if_pos ⟨hst, hran⟩).trans (State.ssDone_ldo hnone)) ⟨hstate, hdone, hon, ?_, fun k hk hk' => ?_⟩
    · exact (State.Keeps.of_regsOnly honly).raiseQ
    · exact honly.2 k fun h => h.elim hk hk'
  · exact fun j s hst => does_of_eq rfl (if_neg fun h => hst h.1)
  · exact fun j ma vin us s hruns hlim hus => does_of_eq rfl (if_pos ⟨hruns, hlim, hus⟩)
  · exact fun j ma vin us s hlim => does_of_eq rfl (if_neg fun h => Bool.false_ne_true (hlim.symm.trans h.2.1))
  · intro mv us s hup hruns hmv hus
    exact effect_of_eq rfl (if_pos ⟨hup, hruns, hmv, hus⟩) ⟨State.bit_wr_zero _ _ _ (by decide), RegsOnly.wr s 0 rfl⟩
  · refine fun mv us s hno => does_of_eq rfl (if_neg fun ⟨_, _, hmv, hus⟩ => ?_)
    omega
  · intro mv s hup hruns hmv
    refine effect_of_eq rfl (if_pos ⟨hup, hruns, hmv⟩) ⟨?_, State.bit_wr_zero _ _ _ (by decide), ?_⟩
    · exact (State.bit_wr_apart _ _ _ _ _ _ (.inr (by decide))).trans (s.bit_wr_one _ _ (by decide) (by decide))
    · have hka : RegsOnly (fun k => k = ldo 0 + LDO.LDO_STAT_KA.off) s (s.wr (ldo 0) LDO.LDO_STAT_KA 1) := RegsOnly.wr s 1 rfl
      exact hka.trans (RegsOnly.wr _ 0 rfl)
  · exact fun ma us s hruns hka hup hma hus => does_of_eq rfl ((if_pos ⟨hruns, hka, hma, hus⟩).trans (if_pos hup))
  · intro ma us s hruns hka hup hma hus
    have hoff := (s.outOff 28 0).bit_wr_zero (ldo 0) LDO.LDO_STAT_KA (by decide)
    refine effect_of_eq rfl ((if_pos ⟨hruns, hka, hma, hus⟩).trans (if_neg (by simp [hup]))) ?_
    generalize (s.outOff 28 0).wr (ldo 0) LDO.LDO_STAT_KA 0 = t at hoff
    exact ⟨rfl, hoff⟩
  · intro c k s hacc hseq hheld hst hinput hmode
    have hmoves : s.HoldsMode (((s.setEn (38 + k) true).undischarge (38 + k)).setOutSt (38 + k) 1).allPg :=
      ((((State.HoldsMode.refl s).setEn (by omega) true).undischarge (by omega)).setOutSt (by omega) 1).allPg
    refine does_ifField hacc rfl (State.hostOn_of_enable hseq ?_ hmoves (by omega))
    rw [State.enable_ls (by omega) hheld hst, hinput, if_neg Bool.false_ne_true]
  · intro c k s hacc hseq hheld hst hinput hmode
    have hmoves : s.HoldsMode (((s.setEn (38 + k) true).undischarge (38 + k)).ssDone (38 + k)).allPg :=
      ((((State.HoldsMode.refl s).setEn (by omega) true).undischarge (by omega)).ssDone_ls k).allPg
    refine does_ifField hacc rfl (State.hostOn_of_enable hseq ?_ hmoves (by omega))
    rw [State.enable_ls (by omega) hheld hst, hinput, if_pos rfl]
  · intro c k s hacc hseq hst
    exact does_ifField hacc rfl ((State.hostOff_of_follows hseq (s.follows_ge (by omega))).trans (if_neg hst))
  · intro k uv vin s hst hle hrev
    obtain ⟨hstate, hon, hkeeps⟩ := (s.see (38 + k) uv vin).ssDone_ls_shows k
    have hsee : State.Keeps (fun n => n = ls k + LDO.LS_STAT_STATE.off ∨ n = ldoB + LDO.STATUS_LS_ON.off) s (s.see (38 + k) uv vin) :=
      (State.Keeps.refl _ s).modOut _ _
    refine effect_of_eq rfl (if_pos ⟨hst, hle, by simp [← hrev, State.see, State.bit_modOut]⟩) ⟨hstate, hon, (hsee.trans hkeeps).raiseQ, ?_⟩
    exact fun n hn hn' => (hsee.trans hkeeps).getW n fun h => h.elim hn hn'
  · exact fun k uv vin s hlow => does_of_eq rfl (if_neg fun h => Nat.not_le.2 hlow h.2.1)
  · exact fun k ma us s hruns hlim hus => does_of_eq rfl (if_pos ⟨hruns, hlim, hus⟩)
  · exact fun k ma us s hus => does_of_eq rfl (if_neg fun h => Nat.not_le.2 hus h.2.2)
  · intro k ma s hst hma
    have hruns : s.lsRuns k = true := by simpa [State.lsRuns] using hst
    exact does_of_eq rfl ((if_neg (Int.not_le.2 hma)).trans (if_pos hruns))
  · exact fun k ma s hma => does_of_eq rfl (if_pos hma)
  · intro k uv vin s hst hen hrev hrise
    have hruns : (s.see (38 + k) uv vin).lsRuns k = true := by
      have hsee : (s.see (38 + k) uv vin).outSt (38 + k) = s.outSt (38 + k) := rfl
      simp [State.lsRuns, hsee, hst]
    refine effect_of_eq rfl (if_pos ⟨hruns, hen, by simp [← hrev, State.see, State.bit_modOut], hrise⟩) ?_
    obtain ⟨hblock, hstate, hlim, hiout, htold⟩ := (s.see (38 + k) uv vin).lsBlock_shows k rfl
    exact ⟨hblock, hstate.trans hst, hlim, hiout, htold⟩
  · exact fun k uv vin s hlow => does_of_eq rfl (if_neg fun h => Nat.not_lt.2 hlow h.2.2.2)
  · intro k uv vin s hrev hle
    refine effect_of_eq rfl ((if_pos hle).trans (if_pos hrev)) ?_
    generalize s.see (38 + k) uv vin = t
    have hk := k.isLt
    have hkeys : ls k + 8 ≠ ldoB + 8 := by rw [ls]; omega
    rw [State.setOutSt_ls, State.outSt_ls]
    constructor
    · rw [State.wrB_eq, State.bit_wr_apart _ _ _ _ _ _ (.inl hkeys), State.bit_wr_apart _ _ _ _ _ _ (.inr (by decide)),
        State.bit_wr_zero _ _ _ (by decide)]
    · rw [State.wrB_eq, State.rd_wr_ne _ _ _ _ _ _ hkeys, State.rd_wr_eq _ _ _ _ (by decide)]
      rfl

end Sys2Proof.Machine
end

section
/-! SUPPORT. The input ports (R156, R159, R160, R162, R177). -/

namespace Sys2Proof.Machine

open Sys2Proof

/-- A measured voltage shows, and moves neither the port's state nor its thresholds. -/
theorem State.portSee_only (s : State) (p : Fin 2) (mv : Nat) : RegsOnly (fun k => k = port p + PORT.P_MON_V.off) s (s.portSee p mv) := by
  have hp := p.isLt
  rw [State.portSee, if_pos hp]
  exact RegsOnly.wr s _ rfl

theorem portB_ne_port (p : Fin 2) {o o' : Nat} (ho : o < 0x40) : portB + o ≠ port p + o' := by
  rw [port]
  omega

theorem State.portSt_portSee (s : State) (p : Fin 2) (mv : Nat) : (s.portSee p mv).portSt p = s.portSt p :=
  (s.portSee_only p mv).rd _ _ (by split <;> exact portB_ne_port p (by decide))

theorem State.presMv_portSee (s : State) (p : Fin 2) (mv : Nat) : (s.portSee p mv).presMv p = s.presMv p := by
  rw [State.presMv, (s.portSee_only p mv).rd _ _ (by simp [PORT.P_THR_PRES, PORT.P_MON_V]), State.presMv]

theorem State.lossMv_portSee (s : State) (p : Fin 2) (mv : Nat) : (s.portSee p mv).lossMv p = s.lossMv p := by
  rw [State.lossMv, (s.portSee_only p mv).rd _ PORT.P_THR_PRES (by simp [PORT.P_THR_PRES, PORT.P_MON_V]),
    (s.portSee_only p mv).rd _ PORT.P_THR_LOSS (by simp [PORT.P_THR_LOSS, PORT.P_MON_V]), State.lossMv]

theorem State.portPrev_portSee (s : State) (p : Fin 2) (mv : Nat) : (s.portSee p mv).portPrev p = s.portPrev p := by
  rw [State.portSee]
  split <;> rfl

/-- A mode from HOLD on. -/
theorem State.up_of_hold {s : State} (h : mHOLD ≤ s.mode) : s.mode ≠ mPARKED ∧ s.up = true := by
  have hthree : 3 ≤ s.mode := h
  exact ⟨fun hparked : s.mode = 1 => by omega, decide_eq_true (by omega)⟩

theorem State.setPEn_off (s : State) (p : Nat) : s.setPEn p false = (s.wrB (port p) PORT.P_CFG_EN false).portGone p pDISABLED := by
  rw [State.setPEn, if_neg Bool.false_ne_true]

theorem State.setPEn_on (s : State) (p : Nat) : s.setPEn p true =
    if (s.wrB (port p) PORT.P_CFG_EN true).portSt p = pDISABLED then ((s.wrB (port p) PORT.P_CFG_EN true).setPort p pABSENT).feedsShow
    else s.wrB (port p) PORT.P_CFG_EN true := by
  rw [State.setPEn, if_pos rfl]

/-- Settles O18. -/
theorem portRows : Obligations.PortRows := by
  unfold Obligations.PortRows
  refine ⟨?_, ?_, ?_, ?_, ?_, ?_, ?_, ?_, ?_, ?_, ?_, ?_, ?_, ?_, ?_, ?_, ?_, ?_, ?_, ?_, ?_, ?_, ?_⟩
  · intro p mv s hmode hst hpres
    obtain ⟨hparked, hup⟩ := State.up_of_hold hmode
    refine does_of_eq rfl ((if_neg hparked).trans ((if_pos hup).trans (if_pos ?_)))
    rw [s.portSt_portSee p, s.presMv_portSee p]
    exact ⟨hst, hpres⟩
  · intro p mv s hmode hpres
    obtain ⟨hparked, hup⟩ := State.up_of_hold hmode
    refine does_of_eq rfl ((if_neg hparked).trans ((if_pos hup).trans (if_neg ?_)))
    rw [s.portSt_portSee p, s.presMv_portSee p]
    exact fun h => Nat.not_lt.2 hpres h.2
  · intro p mv s hmode hst hpres
    obtain ⟨hparked, hup⟩ := State.up_of_hold hmode
    refine does_of_eq rfl ((if_neg hparked).trans ((if_pos hup).trans (if_pos ?_)))
    rw [s.portSt_portSee p, s.presMv_portSee p]
    exact ⟨hst, hpres⟩
  · intro p s hup hst hran hsession hblock
    refine does_of_eq rfl ((if_pos ⟨hup, hst, hran⟩).trans ?_)
    simp only [hsession, hblock, Bool.or_false, if_neg Bool.false_ne_true]
  · intro p s hup hst hran hblock
    refine does_of_eq rfl ((if_pos ⟨hup, hst, hran⟩).trans ?_)
    simp only [hblock, Bool.or_true, if_pos]
  · exact fun p uv s hup hst huv => does_of_eq rfl (if_pos ⟨hup, hst, huv⟩)
  · exact fun p uv s huv => does_of_eq rfl (if_neg fun h => Int.not_lt.2 huv h.2.2)
  · intro p mv s hup hst hloss
    refine does_of_eq rfl ((if_pos hup).trans ?_)
    dsimp only
    rw [s.portSt_portSee p, s.lossMv_portSee p]
    exact if_pos ⟨hst, hloss⟩
  · intro p mv s hup hloss
    refine does_of_eq rfl ((if_pos hup).trans ?_)
    dsimp only
    rw [s.portSt_portSee p, s.lossMv_portSee p]
    exact if_neg fun h => Nat.not_lt.2 hloss h.2
  · intro p mv s hup hst hloss
    refine does_of_eq rfl ((if_pos hup).trans ?_)
    dsimp only
    rw [s.portSt_portSee p, s.lossMv_portSee p, s.portPrev_portSee p]
    exact if_pos ⟨hst, hloss⟩
  · exact fun p s hup hst hran => does_of_eq rfl (if_pos ⟨hup, hst, hran⟩)
  · exact fun p s hran => does_of_eq rfl (if_neg fun h => Bool.false_ne_true (hran.symm.trans h.2.2))
  · intro p uv s hup hp hst hrev
    refine does_of_eq rfl ((if_neg (by simp [hup])).trans ((if_neg (by omega)).trans ((if_pos (decide_eq_true hrev)).trans (if_pos hst))))
  · intro uv s hup hst hrev
    exact does_of_eq rfl ((if_neg (by simp [hup])).trans ((if_pos rfl).trans (if_pos ⟨hst, decide_eq_true hrev⟩)))
  · intro p uv s huv
    have hnot : ∀ mv : Nat, decide (uv < -((1000 * mv : Nat) : Int)) = false := fun mv => decide_eq_false (by omega)
    refine does_of_eq rfl ?_
    simp only [hnot, Bool.false_eq_true, and_false, if_false, ite_self]
  · intro p mv us s hup hp hst hov hus
    exact does_of_eq rfl ((if_pos ⟨hup, hov, hus⟩).trans ((if_neg (by omega)).trans (if_neg hst)))
  · exact fun p mv us s hno => does_of_eq rfl (if_neg fun ⟨_, hov, hus⟩ => by omega)
  · intro p mv s hup hp hst hov
    exact does_of_eq rfl ((if_pos ⟨hup, hov⟩).trans ((if_neg (by omega)).trans (if_pos hst)))
  · intro mv s hup hst hov
    refine effect_of_eq rfl ((if_pos ⟨hup, hov⟩).trans ((if_pos rfl).trans (if_pos hst))) ⟨?_, RegsOnly.wr s 0 rfl⟩
    exact State.rd_wr_eq s _ _ _ (by decide)
  · intro c p s hp hacc
    exact does_of_eq rfl ((if_neg (by omega)).trans ((State.ifField_of hacc _).trans (State.setPEn_off _ _)))
  · intro c p s hp hacc hst hst'
    exact does_of_eq rfl ((if_neg (by omega)).trans ((State.ifField_of hacc _).trans ((State.setPEn_on _ _).trans (if_pos hst'))))
  · exact fun c p s hacc hother => does_ifField hacc rfl ((if_pos rfl).trans (if_neg (by simp [hother])))
  · exact fun c p s hacc hother => does_ifField hacc rfl ((if_pos rfl).trans (if_pos hother))

end Sys2Proof.Machine
end

section
/-! SUPPORT. The start-up path and VBUS (R156, R166 to R170). -/

namespace Sys2Proof.Machine

open Sys2Proof

/-- The converter's state, the start-up path's voltage and its feed of `s`, in `u`. -/
structure State.SamePath (s u : State) : Prop where
  state : u.busSt = s.busSt
  pathMv : u.bus.pathMv = s.bus.pathMv
  feedHi : u.bus.feedHi = s.bus.feedHi

namespace State.SamePath

variable {s t u : State}

theorem refl (s : State) : s.SamePath s := ⟨rfl, rfl, rfl⟩

theorem trans (h1 : s.SamePath t) (h2 : t.SamePath u) : s.SamePath u :=
  ⟨h2.state.trans h1.state, h2.pathMv.trans h1.pathMv, h2.feedHi.trans h1.feedHi⟩

theorem wr (h : s.SamePath t) {b : Nat} {f : Fld} (v : Nat) (hk : Apart b f buscB BUSC.STATUS_STATE) : s.SamePath (t.wr b f v) :=
  ⟨(State.rd_wr_apart _ _ _ _ _ _ hk).trans h.state, h.pathMv, h.feedHi⟩

theorem modBus (h : s.SamePath t) (f : BusHid → BusHid) (hmv : (f t.bus).pathMv = t.bus.pathMv := by rfl)
    (hhi : (f t.bus).feedHi = t.bus.feedHi := by rfl) : s.SamePath (t.modBus f) :=
  ⟨h.state, hmv.trans h.pathMv, hhi.trans h.feedHi⟩

theorem fields (h : s.SamePath t) (hregs : u.regs = t.regs := by rfl) (hbus : u.bus = t.bus := by rfl) : s.SamePath u :=
  ⟨by rw [State.busSt, State.rd, State.getW, hregs]; exact h.state, hbus ▸ h.pathMv, hbus ▸ h.feedHi⟩

theorem ite {c : Prop} [Decidable c] (h1 : s.SamePath t) (h2 : s.SamePath u) : s.SamePath (if c then t else u) := by
  split
  · exact h1
  · exact h2

theorem each {l : List Nat} {f : Nat → State → State} (h : s.SamePath t)
    (hf : ∀ i ∈ l, ∀ u, s.SamePath u → s.SamePath (f i u)) : s.SamePath (t.each l f) := by
  induction l generalizing t with
  | nil => exact h
  | cons i l ih => exact ih (hf i (by simp) t h) fun j hj => hf j (by simp [hj])

end State.SamePath

theorem State.takeOuter_samePath (s : State) (st : Nat) : s.SamePath (s.takeOuter st) := by
  unfold State.takeOuter
  extract_lets was o s1
  have h1 : s.SamePath s1 := ((State.SamePath.refl s).wr _ (.inr (by decide))).modBus _
  exact h1.ite ((h1.modBus _).ite (h1.modBus _))

/-- An entry of the converter's state, with nothing else of the start-up path. -/
theorem State.setBus_samePath (s : State) (st : Nat) : (s.wr buscB BUSC.STATUS_STATE st).SamePath (s.setBus st) := by
  unfold State.setBus
  extract_lets ps s1 s2 s3
  have h1 : (s.wr buscB BUSC.STATUS_STATE st).SamePath s1 :=
    (((State.SamePath.refl _).wr (f := BUSC.STATUS_NPH) _ (.inr (by decide))).trans (State.takeOuter_samePath _ _)).fields
  have h2 : (s.wr buscB BUSC.STATUS_STATE st).SamePath s2 := h1.each fun _ _ _ hu => hu.fields
  have h3 : (s.wr buscB BUSC.STATUS_STATE st).SamePath s3 := h2.modBus _
  exact ((((h3.wr _ (.inr (by decide))).wr _ (.inr (by decide))).wr _ (.inl (by decide))).modBus _).ite h3

/-- What an entry of the converter's state keeps of the registers. -/
theorem State.setBus_keeps (s : State) (st : Nat) : State.Keeps (fun k => k = buscB + 8 ∨ k = chgB + 8) s (s.setBus st) := by
  unfold State.setBus
  extract_lets ps s1 s2 s3
  have h1 : State.Keeps (fun k => k = buscB + 8 ∨ k = chgB + 8) s s1 :=
    ((((State.Keeps.refl _ s).wr _ (.inl rfl)).wr _ (.inl rfl)).trans ((State.takeOuter_keeps _ _).mono fun _ => .inl)).mark _
  have h2 : State.Keeps (fun k => k = buscB + 8 ∨ k = chgB + 8) s s2 := h1.each fun _ _ _ hu => hu.modPh _ _
  have h3 := h2.modBus fun b => { b with ramp := s.rampFrom st, rampRem := 0, ovr := 0, cap := none, overCap := false }
  exact ((((h3.wr _ (.inl rfl)).wr _ (.inl rfl)).wr _ (.inr rfl)).modBus _).ite h3

/-- The start-up path's start. -/
theorem State.pathStart_shows (s : State) (mv : Nat) : (s.pathStart mv).busSt = bCSTART ∧ (s.pathStart mv).bus.pathMv = mv ∧
    (s.pathStart mv).bus.feedHi = s.bus.feedHi ∧ (s.pathStart mv).mode = s.mode ∧ (s.pathStart mv).raiseQ = s.raiseQ := by
  generalize ht : s.modBus (fun b => { b with pathMv := mv }) = t
  have hpath : (t.wr buscB BUSC.STATUS_STATE bCSTART).SamePath (s.pathStart mv) := by
    rw [State.pathStart, ht]
    exact ((t.setBus_samePath bCSTART).wr _ (.inr (by decide))).wr _ (.inl (by decide))
  have hkeeps : State.Keeps (fun k => k = buscB + 8 ∨ k = chgB + 8 ∨ k = buscB + 0x40) t (s.pathStart mv) := by
    rw [State.pathStart, ht]
    exact ((((t.setBus_keeps bCSTART).mono (by rintro k (rfl | rfl) <;> simp)).wr _ (.inl rfl)).wr _ (.inr (.inr rfl)))
  have hraise : t.raiseQ = s.raiseQ := ht ▸ rfl
  have hmode : t.mode = s.mode := ht ▸ rfl
  have hmv : t.bus.pathMv = mv := ht ▸ rfl
  have hhi : t.bus.feedHi = s.bus.feedHi := ht ▸ rfl
  refine ⟨hpath.state.trans (State.rd_wr_eq _ _ _ _ (by decide)), hpath.pathMv.trans hmv, hpath.feedHi.trans hhi, ?_, hkeeps.raiseQ.trans hraise⟩
  exact (hkeeps.rd devB DEV.MODE_CODE (by decide)).trans hmode

/-- Settles O19. -/
theorem startupPathAndVbus : Obligations.StartupPathAndVbus := by
  unfold Obligations.StartupPathAndVbus
  refine ⟨?_, ?_, ?_, ?_, ?_, ?_, ?_, ?_, ?_, ?_, ?_, ?_, ?_, ?_, ?_⟩
  · exact fun f s hmode hst => does_of_eq rfl (if_pos ⟨hmode, hst⟩)
  · intro f s hst hmode
    obtain ⟨hstate, hmv, hhi, hkept, hraise⟩ := (s.modBus fun b => { b with feedHi := f + 1 }).pathStart_shows 14000
    exact effect_of_eq rfl (if_pos ⟨hmode, hst⟩) ⟨hstate, hmv, hhi, hkept.trans hmode, hraise⟩
  · exact fun s hmode => does_of_eq rfl (if_pos hmode)
  · exact fun f s hmode => does_of_eq rfl (if_pos hmode)
  · exact fun p mv s hmode hmv => does_of_eq rfl ((if_pos hmode).trans (if_pos hmv))
  · exact fun p mv s hmode hmv => does_of_eq rfl ((if_pos hmode).trans (if_neg (Nat.not_lt.2 hmv)))
  · intro ma s hst hmode hma
    have hparked : s.mode ≤ mPARKED := hmode.elim Nat.le_of_eq fun h => by
      rw [h]
      decide
    exact does_of_eq rfl (if_pos ⟨hst, hparked, by omega⟩)
  · exact fun s hst hover => does_of_eq rfl (if_pos ⟨hst, hover⟩)
  · exact fun s hst hover => does_of_eq rfl (if_neg fun h => Bool.false_ne_true (hover.symm.trans h.2))
  · exact fun mv us s hmv hus => does_of_eq rfl (if_pos ⟨hmv, hus⟩)
  · exact fun mv us s hno => does_of_eq rfl (if_neg fun ⟨hmv, hus⟩ => by omega)
  · exact fun mv us s hup hmv hus => does_of_eq rfl (if_pos ⟨hup, hmv, hus⟩)
  · exact fun mv us s hno => does_of_eq rfl (if_neg fun ⟨_, hmv, hus⟩ => by omega)
  · exact fun mv us s hup hmv hus => does_of_eq rfl (if_pos ⟨hup, hmv, hus⟩)
  · exact fun mv us s hno => does_of_eq rfl (if_neg fun ⟨_, hmv, hus⟩ => by omega)

end Sys2Proof.Machine
end

section
/-! SUPPORT. The bus converter and the donor sessions (R163 to R174). -/

namespace Sys2Proof.Machine

open Sys2Proof

/-- The end of a delivery. -/
theorem State.endSession_deliver {s : State} {cause : Nat} (hsession : s.session = true) (hended : s.bus.ended = false)
    (hst : s.busSt = bDELIVER) : s.endSession cause = (s.endCause cause).setBus bRSTOP := by
  have hrun : (s.session && !s.bus.ended) = true := by simp [hsession, hended]
  rw [State.endSession, if_pos hrun]
  exact if_pos (.inr (.inr (.inl hst)))

/-- Settles O20. -/
theorem donorSessionRows : Obligations.DonorSessionRows := by
  unfold Obligations.DonorSessionRows
  refine ⟨?_, ?_, ?_, ?_, ?_, ?_, ?_, ?_, ?_, ?_, ?_, ?_, ?_, ?_, ?_, ?_, ?_, ?_, ?_, ?_, ?_, ?_, ?_⟩
  · intro t vbus vpn k s hready hop hv hi hlim hnone
    refine does_start hready rfl ((if_pos (by simpa [isStart] using hop)).trans ?_)
    dsimp only
    rw [if_neg hv, if_neg hi, if_neg hlim, hnone]
  · intro t k s hready hop
    have hstart : isStart k = false := by simp [isStart, hop]
    constructor
    · intro hsession
      exact does_start hready rfl ((if_neg (by simp [hstart])).trans ((if_neg (by simp [hop])).trans (if_pos hsession)))
    · intro hsession
      exact does_start hready rfl ((if_neg (by simp [hstart])).trans ((if_neg (by simp [hop])).trans (if_neg (by simp [hsession]))))
  · exact fun s hst hramp => does_of_eq rfl (if_pos ⟨hst, hramp⟩)
  · exact fun s hramp => ⟨does_of_eq rfl (if_neg fun h => hramp h.2), does_of_eq rfl (if_neg fun h => hramp h.2)⟩
  · intro s hst hfor hmode hsession hended
    exact does_of_eq rfl ((if_pos ⟨hst, hfor⟩).trans ((if_neg hmode).trans (if_pos ⟨hsession, by simp [hended]⟩)))
  · intro s hst hfor hmode hsession
    exact does_of_eq rfl ((if_pos ⟨hst, hfor⟩).trans ((if_neg hmode).trans (if_neg (by simp [hsession]))))
  · exact fun s hfor => does_of_eq rfl (if_neg fun h => Bool.false_ne_true (hfor.symm.trans h.2))
  · exact fun vnode vn s hst hnear => does_of_eq rfl (if_pos ⟨hst, hnear⟩)
  · exact fun vnode vn s hnear => does_of_eq rfl (if_neg fun h => Bool.false_ne_true (hnear.symm.trans h.2))
  · exact fun s hst hfor => does_of_eq rfl (if_pos ⟨hst, hfor⟩)
  · exact fun s hst hfor => does_of_eq rfl (if_pos ⟨hst, hfor⟩)
  · exact fun s hst hover => does_of_eq rfl (if_pos ⟨hst, hover⟩)
  · intro mv us s hmv hus hsession hended hst
    exact does_of_eq rfl ((if_pos ⟨hmv, hus⟩).trans (State.endSession_deliver hsession hended hst))
  · exact fun mv us s hno => does_of_eq rfl (if_neg fun ⟨hmv, hus⟩ => by omega)
  · intro s hsession hended hst hfe
    constructor
    · intro htaper
      exact does_of_eq rfl ((if_pos hfe).trans ((if_pos htaper).trans (State.endSession_deliver hsession hended hst)))
    · intro hover
      exact does_of_eq rfl ((if_pos hfe).trans ((if_pos hover).trans (State.endSession_deliver hsession hended hst)))
  · exact fun s hfe htaper => does_of_eq rfl ((if_pos hfe).trans (if_neg (by simp [htaper])))
  · exact fun s hfe hover => does_of_eq rfl ((if_pos hfe).trans (if_neg (by simp [hover])))
  · exact fun s hst hramp => does_of_eq rfl (if_pos ⟨hst, hramp⟩)
  · exact fun c v s hacc => does_ifField hacc rfl rfl
  · exact fun c s hacc => does_ifField hacc rfl rfl
  · exact fun c s hacc => does_ifField hacc rfl rfl
  · exact fun m s hup hst => does_of_eq rfl ((if_pos (.inl hup)).trans (if_pos hst))
  · exact fun m s hup _ => does_of_eq rfl (if_pos (.inl hup))

end Sys2Proof.Machine
end

section
/-! SUPPORT. The charger's states as FE2 steps them (R179 to R198). -/

namespace Sys2Proof.Machine

open Sys2Proof

/-- A step of the charger in one of its states, while FE2 runs. -/
theorem does_chgStep {i j : Instr} {fr : List Nat} {f : State → State} {s u : State} (hexec : exec i s = .next (s.chgStep j fr f).settle)
    (hfe : s.fe2 = true) (hst : s.chgSt ∈ fr) (h : f s = u) : Does i s u := by
  refine does_of_eq hexec ((if_pos hfe).trans ((if_pos ?_).trans h))
  simpa using hst

/-- A step that its condition leaves undone, in whatever state. -/
theorem does_chgStep_none {i j : Instr} {fr : List Nat} {f : State → State} {s : State} (hexec : exec i s = .next (s.chgStep j fr f).settle)
    (hfe : s.fe2 = true) (h : f s = s) : Does i s s := by
  refine does_of_eq hexec ((if_pos hfe).trans ?_)
  split
  · exact h
  · rfl

/-- Settles O21. -/
theorem chargerStates : Obligations.ChargerStates := by
  unfold Obligations.ChargerStates
  refine ⟨?_, ?_, ?_, ?_, ?_, ?_, ?_, ?_, ?_, ?_, ?_, ?_, ?_, ?_, ?_⟩
  · intro v s hup hfe
    refine does_of_eq rfl ?_
    rw [State.chgTick, if_pos hup]
    exact if_pos hfe
  · intro v s hup hfe
    refine does_of_eq rfl ?_
    rw [State.chgTick, if_pos hup]
    exact if_neg (by simp [hfe])
  · exact fun s hlim => if_neg (by simp [hlim])
  · intro s hlim hms
    rw [State.llTick, if_pos hlim, hms]
    rfl
  · intro v s hst hfe hms
    have hend : s.qualifyEnd v = (if s.vcv ≤ s.vcellOf v + s.rchg then (s.wr chgB CHG.MON_VCELL (s.vcellOf v)).setChg cDONE
        else if s.vcellOf v < s.rd chgB CHG.VCHG_VPRE then ((s.wr chgB CHG.MON_VCELL (s.vcellOf v)).phaseZero).setChg cPRE
        else (s.wr chgB CHG.MON_VCELL (s.vcellOf v)).toCC).chgWatch := if_pos ⟨hst, hms⟩
    refine ⟨fun hfull => ?_, fun hlow hpre => ?_, fun hlow hpre => ?_⟩ <;> refine does_of_eq rfl ((if_pos hfe).trans (hend.trans ?_))
    · rw [if_pos hfull]
    · rw [if_neg (by omega), if_neg (by omega)]
    · rw [if_neg (by omega), if_pos hpre]
  · exact fun v s hfe hms => does_of_eq rfl ((if_pos hfe).trans (if_neg fun h => Nat.not_le.2 hms h.2))
  · intro s hst hfe
    refine ⟨fun hok => ?_, fun hok => ?_, fun hover => ?_, fun hover => ?_⟩
    · exact does_chgStep rfl hfe (by simp [hst]) (if_pos hok)
    · exact does_chgStep_none rfl hfe (if_neg (by simp [hok]))
    · exact does_chgStep rfl hfe (by simp [hst]) (if_pos (decide_eq_true hover))
    · exact does_chgStep_none rfl hfe (if_neg (by simp [hover]))
  · intro s hst hfe
    exact ⟨fun hok => does_chgStep rfl hfe (by simp [hst]) (if_pos hok), fun hok => does_chgStep_none rfl hfe (if_neg (by simp [hok]))⟩
  · intro s hst hfe hterm
    have hexpiry : s.safeExpiry = if s.safeOver then s.chgTimeout 4 else s := if_neg (by simp [hterm])
    refine ⟨fun hover => does_chgStep rfl hfe (by simpa using hst) (hexpiry.trans (if_pos hover)), fun hover => ?_⟩
    exact does_chgStep_none rfl hfe (hexpiry.trans (if_neg (by simp [hover])))
  · intro s hst hfe hterm
    refine ⟨fun htop => ?_, fun htop => ?_⟩
    · have hdone : s.terminate = s.setChg cDONE := (if_pos hterm).trans (if_pos htop)
      exact ⟨does_chgStep rfl hfe (by simp [hst]) hdone, does_chgStep rfl hfe (by simp [hst]) ((if_pos hterm).trans hdone)⟩
    · exact does_chgStep rfl hfe (by simp [hst]) ((if_pos hterm).trans (if_neg htop))
  · exact fun s hfe hterm => does_chgStep_none rfl hfe (if_neg (by simp [hterm]))
  · intro s hst hfe
    exact ⟨fun hover => does_chgStep rfl hfe (by simp [hst]) (if_pos hover), fun hover => does_chgStep_none rfl hfe (if_neg (by simp [hover]))⟩
  · intro s hst hfe hauto
    refine ⟨fun hok => does_chgStep rfl hfe (by simp [hst]) (if_pos (by simp [hauto, hok])), fun hok => ?_⟩
    exact does_chgStep_none rfl hfe (if_neg (by simp [hok]))
  · intro s hst hfe hen
    refine ⟨fun hdue => ?_, fun hdue => ?_⟩
    · refine does_chgStep rfl hfe (by simp [hst]) ((if_pos (by simp [State.restDue, hen, hdue])).trans ?_)
      rw [State.restStart, hst]
    · exact does_chgStep_none rfl hfe (if_neg (by simp [State.restDue, Nat.not_le.2 hdue]))
  · intro s hst hfe
    exact ⟨fun hover => does_chgStep rfl hfe (by simp [hst]) (if_pos hover), fun hover => does_chgStep_none rfl hfe (if_neg (by simp [hover]))⟩

end Sys2Proof.Machine
end

section
/-! SUPPORT. The pack, its thermistor and CHG_CTRL (R178 to R197). -/

namespace Sys2Proof.Machine

open Sys2Proof

theorem State.fe2_modChg (s : State) (f : ChgHid → ChgHid) : (s.modChg f).fe2 = s.fe2 := rfl

theorem State.up_of_fe2 {s : State} (h : s.fe2 = true) : s.up = true := by
  rw [State.fe2, Bool.and_eq_true] at h
  exact h.1

/-- The pack found absent, or known to be. -/
theorem State.packAbsence_found {s : State} {i : Instr} {found : Bool} (hfe : s.fe2 = true) (hst : s.chgSt ≠ cABSENT) (hfound : found = true) :
    s.packAbsence i found = ((s.modChg fun h => { h with gone := true }).chgErr 0 2).chgAbsent 2 := by
  rw [State.packAbsence, if_pos (by simp [State.up_of_fe2 hfe, hst, hfound])]
  exact if_pos hfe

theorem State.packAbsence_none {s : State} {i : Instr} {found : Bool} (h : s.chgSt = cABSENT ∨ found = false ∧ s.chg.gone = false) :
    s.packAbsence i found = s :=
  if_neg (by rcases h with h | ⟨hfound, hgone⟩ <;> simp_all)

/-! A state of the charger. -/

theorem State.chgSt_setChg (s : State) {c : Nat} (hc : c < 16) : (s.setChg c).chgSt = c := by
  have hwritten : (s.wr chgB CHG.STATUS_STATE c).chgSt = c := (State.rd_wr_eq _ _ _ _ (by decide)).trans (Nat.mod_eq_of_lt hc)
  have hcv : ∀ t : State, (t.wr chgB CHG.STATUS_CV_ACT 0).chgSt = t.chgSt := fun t => State.rd_wr_apart _ _ _ _ _ _ (.inr (by decide))
  unfold State.setChg
  extract_lets s1 s2
  have h2 : s2.chgSt = c := by
    dsimp only [s2]
    split <;> exact hwritten
  split
  · exact (hcv s2).trans h2
  · exact h2

theorem State.chgErr_shows (s : State) {bit cause : Nat} (hcause : cause < 16) :
    (s.chgErr bit cause).chgSt = s.chgSt ∧ (s.chgErr bit cause).rd chgB CHG.STATUS_CAUSE = cause := by
  have htold := err_told (s.wr chgB CHG.STATUS_CAUSE cause) chgB bit 103 (some 1) none
  constructor
  · exact (htold.rd chgB CHG.STATUS_STATE (by decide) (by decide)).trans (State.rd_wr_apart _ _ _ _ _ _ (.inr (by decide)))
  · exact (htold.rd chgB CHG.STATUS_CAUSE (by decide) (by decide)).trans ((State.rd_wr_eq _ _ _ _ (by decide)).trans (Nat.mod_eq_of_lt hcause))

/-! CHG_CTRL. -/

/-- CHG_CTRL by its action, where nothing refuses it and no set point is given. -/
theorem does_chgCtrl {i : Instr} {t : BitVec 8} {k : Cmd} {a : Nat} {s u : State} (hexec : exec i s = .next (s.chgCtrl t a).settle)
    (hready : s.Ready t 0x16 k) (haction : getBits k.a0 0 8 = a) (hset : getBits k.a1 0 9 = 0) (hnone : s.chgRefusal k = none)
    (h : s.chgAct a = u) : Does i s (u.doneK k (u.chgSt + 16 * u.rd chgB CHG.STATUS_CAUSE)) := by
  refine does_start hready hexec ((if_pos (.inl haction)).trans ?_)
  rw [hnone]
  dsimp only
  rw [if_pos (.inl hset), h]

/-- Settles O22. -/
theorem packAndChgCtrlRows : Obligations.PackAndChgCtrlRows := by
  unfold Obligations.PackAndChgCtrlRows
  refine ⟨?_, ?_, ?_, ?_, ?_, ?_, ?_, ?_, ?_, ?_, ?_, ?_, ?_, ?_, ?_, ?_, ?_, ?_, ?_, ?_⟩
  · intro rise us s hfe hst
    refine ⟨fun hen hopen hseen hran => ?_, fun hfound => ?_, fun hno hgone => ?_, fun hno hgone => ?_⟩
    · exact does_of_eq rfl (State.packAbsence_found hfe hst (by simp [State.absNtc, hen, hopen, hseen, hran]))
    · exact does_of_eq rfl (State.packAbsence_found hfe hst hfound)
    · exact does_of_eq rfl (State.packAbsence_none (.inr ⟨hno, hgone⟩))
    · exact does_of_eq rfl (State.packAbsence_none (.inr ⟨hno, hgone⟩))
  · exact fun b rise us s hst => does_of_eq rfl (State.packAbsence_none (.inl hst))
  · intro us s hst hfe
    refine ⟨fun hseeks hseen hus => ?_, fun hno => ?_, fun hdue => ?_, fun hdue => ?_⟩
    · exact does_chgStep rfl hfe (by simp [hst]) (if_pos (by simp [hseeks, hseen, hus]))
    · refine does_chgStep_none rfl hfe (if_neg ?_)
      simp only [Bool.and_eq_true, decide_eq_true_eq]
      rintro ⟨⟨hseeks, hseen⟩, hus⟩
      rcases hno with h | h | h
      · exact Bool.false_ne_true (h.symm.trans hseeks)
      · exact Bool.false_ne_true (h.symm.trans hseen)
      · omega
    · exact does_chgStep rfl hfe (by simp [hst]) (if_pos hdue)
    · exact does_chgStep_none rfl hfe (if_neg (by simp [hdue]))
  · intro s hfe
    exact ⟨fun hms => does_of_eq rfl ((if_pos hfe).trans (if_pos hms)), fun hms => does_of_eq rfl ((if_pos hfe).trans (if_neg (by omega)))⟩
  · intro v us s hfe hst hst' hv hus
    have hcut : s.packOv (.packOv v us) (s.overCut v us) =
        (((((s.modChg fun h => { h with cut := true }).modChg fun h => { h with cut := false }).restZero).setChg cFAULT).chgErr 2 6) := by
      rw [State.packOv, if_pos (by simp [State.up_of_fe2 hfe, hst, hst', State.overCut, hv, hus])]
      exact if_pos hfe
    obtain ⟨hstate, hcause⟩ := State.chgErr_shows
      ((((s.modChg fun h => { h with cut := true }).modChg fun h => { h with cut := false }).restZero).setChg cFAULT) (bit := 2) (cause := 6) (by decide)
    exact effect_of_eq rfl hcut ⟨hstate.trans (State.chgSt_setChg _ (by decide)), hcause⟩
  · intro v us s hcut hno
    refine does_of_eq rfl (if_neg ?_)
    have hover : s.overCut v us = false := decide_eq_false (by omega)
    simp [hover, hcut]
  · intro s hst hst' hen hshort hran hfe
    exact does_of_eq rfl ((if_pos hfe).trans (if_pos ⟨hst, hst', hen, hshort, hran⟩))
  · exact fun s hfe hran => does_of_eq rfl ((if_pos hfe).trans (if_neg fun h => Bool.false_ne_true (hran.symm.trans h.2.2.2.2)))
  · intro mv us s hup hen hus hne
    have hclass : ntcOf mv < 4 := by
      unfold ntcOf
      (repeat' split) <;> decide
    refine effect_of_eq rfl ((if_pos hup).trans ((if_neg (by simp [hen])).trans (if_neg (by omega)))) ⟨?_, ?_, rfl⟩
    · exact (State.rd_wr_eq s _ _ _ (by decide)).trans (Nat.mod_eq_of_lt hclass)
    · exact fun n hn => State.getW_wr_ne s _ hn
  · intro mv
    refine ⟨fun h => ?_, fun h h' => ?_, fun h => ?_⟩
    · rw [ntcOf, if_neg (by omega), if_pos h]
    · rw [ntcOf, if_neg (by omega), if_neg (by omega)]
    · rw [ntcOf, if_pos h]
  · intro mv us s hup hen hus
    exact does_of_eq rfl ((if_pos hup).trans ((if_neg (by simp [hen])).trans (if_pos (.inl hus))))
  · exact fun mv us s hup hen => does_of_eq rfl ((if_pos hup).trans (if_pos (by simp [hen])))
  · exact fun mv s hup => does_of_eq rfl (if_pos hup)
  · exact fun t k s hready hact hset hnone => does_chgCtrl rfl hready hact hset hnone rfl
  · exact fun t k s hready hact hset hnone => does_chgCtrl rfl hready hact hset hnone rfl
  · exact fun t k s hready hact hset hnone _ => does_chgCtrl rfl hready hact hset hnone rfl
  · exact fun t k s hready hact hset hnone => does_chgCtrl rfl hready hact hset hnone rfl
  · exact fun t k s hready hact hset hnone => does_chgCtrl rfl hready hact hset hnone rfl
  · intro t k c s hready hact hrefused
    refine does_start hready rfl ((if_pos (.inl hact)).trans ?_)
    rw [hrefused]
  · exact fun k s hact => if_pos (.inl hact)

end Sys2Proof.Machine
end

section
/-! SUPPORT. The Flail line: strobes, announcements and elections (R243 to R251). -/

namespace Sys2Proof.Machine

open Sys2Proof

/-! The pulses by their width (R243). -/

theorem pulseOf_strobe {ns : Nat} (hlo : 1500 ≤ ns) (hhi : ns ≤ 3000) : pulseOf ns = plSTROBE := by
  rw [pulseOf, if_neg (by omega), if_pos ⟨hlo, hhi⟩]

theorem pulseOf_ne_strobe {ns : Nat} (h : ns < 1500 ∨ 3000 < ns) : pulseOf ns ≠ plSTROBE := by
  have hno : ¬ (1500 ≤ ns ∧ ns ≤ 3000) := by omega
  rw [pulseOf, if_neg hno]
  (repeat' split) <;> decide

theorem pulseOf_elect {ns : Nat} (hlo : 9000 ≤ ns) (hhi : ns ≤ 15000) : pulseOf ns = plELECT := by
  rw [pulseOf, if_neg (by omega), if_neg (by omega), if_neg (by omega), if_pos ⟨hlo, hhi⟩]

theorem State.dethrone_of_ne {s : State} (h : s.role ≠ rMASTER) : s.dethrone = s := if_neg h

/-- The line's free time is no part of the role. -/
theorem State.dethrone_unmark {s : State} (k : Tmr) (h : s.role ≠ rMASTER) : (s.unmark k).dethrone = s.unmark k :=
  State.dethrone_of_ne h

/-- The master that an election names, for a follower that is no candidate. -/
theorem State.masterId_shows (s : State) (w : BitVec 10) :
    (s.wr flailB FLAIL.STATE_MASTER_ID w.toNat).rd flailB FLAIL.STATE_MASTER_ID = w.toNat ∧
    (s.wr flailB FLAIL.STATE_MASTER_ID w.toNat).role = s.role :=
  ⟨(State.rd_wr_eq _ _ _ _ (by decide)).trans (Nat.mod_eq_of_lt w.isLt), State.rd_wr_ne _ _ _ _ _ _ (by decide)⟩

/-- Settles O23. -/
theorem flailLineRows : Obligations.FlailLineRows := by
  unfold Obligations.FlailLineRows
  refine ⟨?_, ?_, ?_, ?_, ?_, ?_, ?_, ?_, ?_, ?_, ?_, ?_, ?_, ?_, ?_, ?_⟩
  · intro ns s hlo hhi hclasses hframe hrole
    refine does_of_eq rfl ((if_pos (by simp [hclasses, hframe, pulseOf_strobe hlo hhi])).trans ?_)
    rw [if_neg Bool.false_ne_true, State.dethrone_of_ne hrole]
  · intro ns s hlo hhi hclasses hrole hframe hmay
    exact does_of_eq rfl (if_pos (by simp [hclasses, State.inFrame, hframe, pulseOf_strobe hlo hhi, hrole, hmay]))
  · intro own ns s hwidth
    exact does_of_eq rfl (if_neg (by simp [pulseOf_ne_strobe hwidth]))
  · exact fun low s hrole hframe hhold hran => does_of_eq rfl (if_pos ⟨hrole, hframe, hhold, hran⟩)
  · refine fun low s hno => does_of_eq rfl (if_neg fun ⟨_, _, hhold, hran⟩ => ?_)
    obtain h | h := hno
    · exact Bool.false_ne_true (h.symm.trans hran)
    · exact Bool.false_ne_true (hhold.symm.trans h)
  · intro s hfe hrole hbusy hauto htarget hmay
    exact does_of_eq rfl ((if_neg (by simp [hfe])).trans (if_pos ⟨hrole, hbusy, hauto, htarget, hmay⟩))
  · intro s hfe hno
    refine does_of_eq rfl ((if_neg (by simp [hfe])).trans (if_neg fun ⟨_, _, _, htarget, hmay⟩ => ?_))
    obtain h | h := hno
    · exact Bool.false_ne_true (h.symm.trans hmay)
    · exact Bool.false_ne_true (h.symm.trans htarget)
  · exact fun s hrole hbusy hran => does_of_eq rfl (if_pos ⟨hrole, hbusy, hran⟩)
  · exact fun s hran => does_of_eq rfl (if_neg fun h => Bool.false_ne_true (hran.symm.trans h.2.2))
  · intro h st comp s his hrole hcomp
    refine does_of_eq rfl ((if_neg (by simp [his])).trans ((if_neg Bool.false_ne_true).trans ?_))
    dsimp only
    rw [State.dethrone_unmark _ (by rw [hrole]; decide), if_neg Bool.false_ne_true, if_pos hcomp]
  · intro h st comp s his hrole hcomp hst
    refine does_of_eq rfl ((if_neg (by simp [his])).trans ((if_neg Bool.false_ne_true).trans ?_))
    dsimp only
    rw [State.dethrone_unmark _ (by rw [hrole]; decide), if_neg Bool.false_ne_true, if_neg (not_not_intro hcomp)]
    exact congrArg (State.flailSet · st.toNat false) (if_neg fun h => h.2 hst)
  · intro h st comp s his hrole hframe hslots
    refine does_of_eq rfl ((if_neg (by simp [his])).trans ((if_pos rfl).trans ((if_neg ?_).trans ((if_neg Bool.false_ne_true).trans (if_pos hslots)))))
    simp [hrole, hframe]
  · intro ns w cands s hlo hhi hlistens hrole hcand hwins
    obtain ⟨hid, hkept⟩ := s.masterId_shows w.1
    refine effect_of_eq (u := s.wr flailB FLAIL.STATE_MASTER_ID w.1.toNat) rfl ?_ ⟨hid, hkept.trans hrole, RegsOnly.wr s _ rfl⟩
    have hjoins : (s.role == rELECTING || (s.role == rFOLLOWER && s.bit flailB FLAIL.CFG_MCAND)) = false := by
      rw [hrole, hcand]
      rfl
    rw [if_neg (by simp [hlistens, pulseOf_elect hlo hhi])]
    dsimp only
    rw [hjoins, if_neg Bool.false_ne_true, if_neg Bool.false_ne_true, hwins]
    rfl
  · intro ns cands s hlo hhi hlistens hrole hwins
    refine does_of_eq rfl ?_
    have hjoins : (s.role == rELECTING || (s.role == rFOLLOWER && s.bit flailB FLAIL.CFG_MCAND)) = true := by simp [hrole]
    rw [if_neg (by simp [hlistens, pulseOf_elect hlo hhi])]
    dsimp only
    rw [hjoins, if_neg Bool.false_ne_true, if_pos rfl, hwins]
    exact if_pos rfl
  · intro low s hrole hlost hran hcand
    generalize ht : s.modFlail (fun h => { h with lost := true }) = t
    have htold := err_told t flailB 9 110 (some 1) none
    have hmc : (t.err flailB 9 110 (some 1) none).bit flailB FLAIL.CFG_MCAND = false := by
      rw [htold.bit _ _ (by decide) (by decide), ← ht]
      exact hcand
    have hflail := congrArg State.flail htold.1
    refine effect_of_eq (u := t.err flailB 9 110 (some 1) none) rfl ?_ ⟨?_, ?_, t.bit_err 110 (some 1) none (by decide) (by decide)⟩
    · rw [if_pos ⟨hrole, hlost, hran⟩, ht]
      exact if_neg (by simp [hmc])
    · rw [hflail, ← ht]
      rfl
    · refine (htold.rd flailB FLAIL.STATUS_ROLE (by decide) (by decide)).trans ?_
      rw [← ht]
      exact hrole
  · exact fun low s hran => does_of_eq rfl (if_neg fun h => Bool.false_ne_true (hran.symm.trans h.2.2))

end Sys2Proof.Machine
end

section
/-! SUPPORT. Violations, holds and alarms on the Flail line (R243 to R258). -/

namespace Sys2Proof.Machine

open Sys2Proof

theorem pulseOf_illegal_iff (ns : Nat) : pulseOf ns = plILLEGAL ↔ 200 ≤ ns ∧ ns < 1500 ∨ 3000 < ns ∧ ns < 5000 ∨ 7000 < ns ∧ ns < 9000 ∨
    15000 < ns ∧ ns < 20000 ∨ 40000 < ns ∧ ns < 50000 := by
  simp only [pulseOf, plSTROBE, plFRAME, plELECT, plALARM, plWAKE, plILLEGAL]
  (repeat' split) <;> simp <;> omega

theorem pulseOf_alarm_iff (ns : Nat) : pulseOf ns = plALARM ↔ 20000 ≤ ns ∧ ns ≤ 40000 := by
  simp only [pulseOf, plSTROBE, plFRAME, plELECT, plALARM, plWAKE, plILLEGAL]
  (repeat' split) <;> simp <;> omega

theorem pulseOf_ne_alarm {ns : Nat} (h : ns < 20000 ∨ 40000 < ns) : pulseOf ns ≠ plALARM := by
  rw [ne_eq, pulseOf_alarm_iff]
  omega

/-- An alarm aborts nothing while no frame is on the line. -/
theorem State.alarmAborts_idle {s : State} (h : s.flail.frame = 0) : s.alarmAborts = s.mark .alarm := by
  rw [State.alarmAborts, h]
  rfl

/-- What counts and tells an alarm is no part of the line's own state. -/
theorem State.flail_alarmTold (s : State) : (((s.unmark .shut).flCount FLAIL.CNT2_RX FLAIL.CNT2_RX_SAT).irq flailB 20 110).flail = s.flail := by
  have hirq := congrArg State.flail (irq_told ((s.unmark .shut).flCount FLAIL.CNT2_RX FLAIL.CNT2_RX_SAT) flailB 20 110).1
  have hcount := congrArg State.flail (count_told (s.unmark .shut) flailB FLAIL.CNT2_RX FLAIL.CNT2_RX_SAT flailB 12 110).1
  exact hirq.trans hcount

/-- An alarm that goes out. -/
theorem State.alarmSend_sent {s : State} {ns : Nat} (hreq : s.flail.alarmReq = true) (hframe : s.flail.frame ≠ 5)
    (hhold : s.bit flailB FLAIL.STATUS_HOLDING = false) (hin : s.inHold (ns / 1000) = false) : s.alarmSend ns =
    (s.flCount FLAIL.CNT2_TX FLAIL.CNT2_TX_SAT).modFlail (fun h => { h with alarmReq := false, alarmPend := pulseOf ns != plALARM }) :=
  if_pos ⟨hreq, hframe, by simp [hhold], by simp [hin]⟩

theorem does_alarmSend {s : State} {ns : Nat} {pend : Bool} (hreq : s.flail.alarmReq = true) (hframe : s.flail.frame ≠ 5)
    (hhold : s.bit flailB FLAIL.STATUS_HOLDING = false) (hin : s.inHold (ns / 1000) = false) (hpend : (pulseOf ns != plALARM) = pend) :
    Does (.alarmSend none ns) s (((s.flCount FLAIL.CNT2_TX FLAIL.CNT2_TX_SAT).modFlail
      (fun h => { h with alarmReq := false, alarmPend := pend })).iff (!pend) State.alarmAborts) := by
  have hsent := State.alarmSend_sent hreq hframe hhold hin
  rw [hpend] at hsent
  have hgone : (s.alarmSend ns).flail.alarmReq = false := by rw [hsent]; rfl
  have hseen : (pulseOf ns == plALARM) = !pend := by rw [← hpend, bne, Bool.not_not]
  refine does_of_eq rfl ?_
  dsimp only
  rw [hreq, hgone, hseen, hsent]
  rfl

/-- Settles O24. -/
theorem flailViolationsAndAlarms : Obligations.FlailViolationsAndAlarms := by
  unfold Obligations.FlailViolationsAndAlarms
  refine ⟨?_, ?_, ?_, ?_, ?_, ?_, ?_, ?_, ?_, ?_, ?_, ?_, ?_, ?_, ?_, ?_, ?_, ?_⟩
  · exact fun s hhold hran => does_of_eq rfl (if_pos ⟨hhold, hran⟩)
  · exact fun s hran => does_of_eq rfl (if_neg fun h => Bool.false_ne_true (hran.symm.trans h.2))
  · intro h s hdec htype hrole
    have hother : (!(decide (1 ≤ frType h ∧ frType h ≤ 3))) = true := by
      rw [Bool.not_eq_true', decide_eq_false_iff_not]
      omega
    refine does_of_eq rfl ((if_pos ⟨hdec, hother⟩).trans ?_)
    rw [State.dethrone_of_ne hrole]
  · intro ns s hclasses hframe hpulse
    refine does_of_eq rfl ?_
    rw [if_pos (by simp [hclasses, hframe, hpulse])]
  · intro ns s hpulse
    refine does_of_eq rfl ?_
    rw [if_neg (by simp [hpulse])]
  · exact pulseOf_illegal_iff
  · intro p us hold s hlistens hen hstuck hus
    refine does_of_eq rfl (if_pos ?_)
    rw [← apply_ite (s.bit flailB)]
    simp [hlistens, hen, hstuck, hus]
  · exact fun p us s hus => does_of_eq rfl (if_neg (by simp [Nat.not_le.2 hus]))
  · exact fun p us s hstuck hus => does_of_eq rfl (if_pos ⟨hstuck, hus⟩)
  · exact fun p us s hus => does_of_eq rfl (if_neg fun h => Nat.not_le.2 hus h.2)
  · intro ns s hclasses hlo hhi hact hframe
    refine does_of_eq rfl ((if_pos ⟨hclasses, (pulseOf_alarm_iff ns).2 ⟨hlo, hhi⟩⟩).trans ?_)
    dsimp only
    rw [hact, if_neg (by decide), if_pos rfl]
    exact State.alarmAborts_idle ((congrArg FlailHid.frame s.flail_alarmTold).trans hframe)
  · exact fun ns h s hwidth => does_of_eq rfl (if_neg fun hpulse => pulseOf_ne_alarm hwidth hpulse.2)
  · intro us ns s hpend hus
    refine ⟨fun hlo hhi => ?_, fun hwidth => ?_⟩
    · refine does_of_eq rfl ((if_pos ⟨hpend, hus⟩).trans ?_)
      rw [(pulseOf_alarm_iff ns).2 ⟨hlo, hhi⟩]
      rfl
    · refine does_of_eq rfl ((if_pos ⟨hpend, hus⟩).trans ?_)
      rw [beq_false_of_ne (pulseOf_ne_alarm hwidth), bne_iff_ne.2 (pulseOf_ne_alarm hwidth)]
      rfl
  · exact fun us ns s hus => does_of_eq rfl (if_neg fun h => Nat.not_le.2 hus h.2)
  · intro ns s hreq hframe hhold hin
    refine ⟨fun hlo hhi => ?_, fun hwidth => ?_⟩
    · exact does_alarmSend (pend := false) hreq hframe hhold hin (by simp [(pulseOf_alarm_iff ns).2 ⟨hlo, hhi⟩])
    · exact does_alarmSend (pend := true) hreq hframe hhold hin (bne_iff_ne.2 (pulseOf_ne_alarm hwidth))
  · intro c ns s hacc hrole
    have hask : s.alarmAsk false = s.modFlail fun h => { h with alarmReq := true } := if_pos (by simp [hrole])
    change execAlarmSend (some c) ns s = execAlarmSend none ns (s.modFlail fun h => { h with alarmReq := true })
    rw [execAlarmSend, execAlarmSend]
    dsimp only
    rw [State.ifField_of hacc, hask]
  · intro s hfe hagain hrole hframe hpast hrun
    exact does_of_eq rfl ((if_neg (by simp [hfe])).trans (if_pos ⟨hagain, hrole, hframe, hpast, hrun⟩))
  · intro s hfe hpast
    refine does_of_eq rfl ((if_neg (by simp [hfe])).trans (if_neg fun h => ?_))
    exact Bool.false_ne_true (hpast.symm.trans h.2.2.2.1)

end Sys2Proof.Machine
end

section
/-! SUPPORT. Digest and ident rounds, and MCTRL (R251 to R256). -/

namespace Sys2Proof.Machine

open Sys2Proof

/-! The IDs that a round names. -/

theorem mem_insId (x y : BitVec 10) (l : List (BitVec 10)) : x ∈ insId l y ↔ x ∈ l ∨ x = y := by
  induction l with
  | nil => simp [insId]
  | cons z l ih =>
    unfold insId
    split
    · simp [or_comm]
    split
    next heq =>
      rw [heq, List.mem_cons]
      exact ⟨.inl, fun h => h.elim id .inl⟩
    · simp [ih, or_assoc]

theorem insId_sorted (y : BitVec 10) {l : List (BitVec 10)} (h : l.Pairwise (· < ·)) : (insId l y).Pairwise (· < ·) := by
  induction l with
  | nil => simp [insId]
  | cons z l ih =>
    obtain ⟨hz, hl⟩ := List.pairwise_cons.1 h
    unfold insId
    split
    next hlt =>
      refine List.pairwise_cons.2 ⟨fun x hx => ?_, h⟩
      obtain rfl | hx := List.mem_cons.1 hx
      · exact hlt
      · exact BitVec.lt_trans hlt (hz x hx)
    split
    · exact h
    · refine List.pairwise_cons.2 ⟨fun x hx => ?_, ih hl⟩
      obtain hx | rfl := (mem_insId x y l).1 hx
      · exact hz x hx
      · bv_omega

theorem foldl_insId (l acc : List (BitVec 10)) (hacc : acc.Pairwise (· < ·)) :
    (∀ x, x ∈ l.foldl insId acc ↔ x ∈ acc ∨ x ∈ l) ∧ (l.foldl insId acc).Pairwise (· < ·) := by
  induction l generalizing acc with
  | nil => exact ⟨by simp, hacc⟩
  | cons y l ih =>
    obtain ⟨hmem, hsorted⟩ := ih (insId acc y) (insId_sorted y hacc)
    exact ⟨fun x => by rw [List.foldl_cons, hmem, mem_insId, List.mem_cons, or_assoc], hsorted⟩

theorem mem_namedIds (x : BitVec 10) (l : List (BitVec 10)) : x ∈ namedIds l ↔ x ∈ l := by
  rw [namedIds, (foldl_insId l [] .nil).1]
  simp

theorem namedIds_sorted (l : List (BitVec 10)) : (namedIds l).Pairwise (· < ·) := (foldl_insId l [] .nil).2

/-! Digests. -/

theorem pairCount_eq_nil {p : Bool → Bool → Bool} {a b : BitVec 64} :
    (pairCount p a b).length = 0 ↔ ∀ i, i < 64 → p (a.getLsbD i) (b.getLsbD i) = false := by
  rw [List.length_eq_zero_iff, pairCount, List.filter_eq_nil_iff]
  simp

theorem digestResult_eq_one (a b : BitVec 64) : digestResult a b = 1 ↔ ∀ i, i < 64 → a.getLsbD i ≠ b.getLsbD i := by
  have hboth : digestResult a b = 1 ↔ (pairCount (fun x y => x && y) a b).length = 0 ∧ (pairCount (fun x y => !x && !y) a b).length = 0 := by
    unfold digestResult
    dsimp only
    generalize (pairCount (fun x y => x && y) a b).length = high
    generalize (pairCount (fun x y => !x && !y) a b).length = low
    (repeat' split) <;> simp <;> omega
  rw [hboth, pairCount_eq_nil, pairCount_eq_nil]
  have hbits : ∀ x y : Bool, ((x && y) = false ∧ (!x && !y) = false) ↔ x ≠ y := by decide
  exact ⟨fun h i hi => (hbits _ _).1 ⟨h.1 i hi, h.2 i hi⟩,
    fun h => ⟨fun i hi => ((hbits _ _).2 (h i hi)).1, fun i hi => ((hbits _ _).2 (h i hi)).2⟩⟩

/-! MCTRL (R251). -/

theorem State.frame_of_idle {s : State} (h : s.lineBusy = false) : s.flail.frame = 0 := by
  simp only [State.lineBusy, Bool.or_eq_false_iff, bne_eq_false_iff_eq] at h
  exact h.1

/-- MCTRL by the context that holds FLAIL, while this node is the master. -/
theorem State.mctrl_granted {s : State} {c : Fin 8} {g : Grant} {op : Nat} (arg : Nat) (hrole : s.role = rMASTER) (hg : s.grantOf 8 = some g)
    (hwho : g.who = c) (horg : g.org = .direct) (hop : 1 ≤ op ∧ op < 6) : s.mctrl c op arg =
    if op = 4 ∧ (s.flail.frame = 1 ∨ s.flail.frame = 5) then s.modFlail (fun h => { h with stop := true })
    else
      let s1 := s.iff (op == 3) fun t => t.modFlail fun h => { h with tctx := c }
      if s1.lineBusy then s1.modFlail (fun h => { h with mq := h.mq ++ [(op, arg)] }) else s1.mctrlRun op arg := by
  unfold State.mctrl
  extract_lets granted
  have hgranted : granted = true := by simp [granted, hg, hwho, horg]
  rw [if_neg (by simp [hrole, hgranted]), if_neg (by omega)]

/-- The operation runs where the line is free. -/
theorem State.mctrl_runs {s : State} {c : Fin 8} {g : Grant} {op : Nat} (arg : Nat) (hrole : s.role = rMASTER) (hg : s.grantOf 8 = some g)
    (hwho : g.who = c) (horg : g.org = .direct) (hop : 1 ≤ op ∧ op < 6) (hbusy : s.lineBusy = false) : s.mctrl c op arg =
    (s.iff (op == 3) fun t => t.modFlail fun h => { h with tctx := c }).mctrlRun op arg := by
  have hframe := State.frame_of_idle hbusy
  have hidle : (s.iff (op == 3) fun t => t.modFlail fun h => { h with tctx := c }).lineBusy = false := by
    rw [State.iff]
    split <;> exact hbusy
  rw [State.mctrl_granted arg hrole hg hwho horg hop, if_neg (by omega)]
  dsimp only
  rw [hidle, if_neg Bool.false_ne_true]

/-- Settles O25. -/
theorem digestAndMasterRows : Obligations.DigestAndMasterRows := by
  unfold Obligations.DigestAndMasterRows
  refine ⟨?_, ?_, ?_, ?_, ?_, ?_, ?_, ?_, ?_, ?_, ?_, ?_, ?_, ?_, ?_, ?_, ?_, ?_⟩
  · intro h a b s his hrole hres
    have hkept := s.dethrone_unmark .shut (by rw [hrole]; decide)
    refine does_of_eq rfl ?_
    dsimp only
    rw [his, hkept, hres]
    rfl
  · intro g a b s hin i hi
    rw [State.dgRead, if_pos hin]
    simp [hi]
  · intro h a b s his hrole
    have hkept := s.dethrone_unmark .shut (by rw [hrole]; decide)
    refine does_of_eq rfl ?_
    dsimp only
    rw [his, hkept]
    rfl
  · intro h ref maxn s his hrole hdiss
    have hkept := s.dethrone_unmark .shut (by rw [hrole]; decide)
    have hnames : s.identNames (frParam h) ref [] false = (ref.toNat, []) := by
      rw [State.identNames, if_neg Bool.false_ne_true, hdiss]
      rfl
    change execIdent h ref [] maxn false false s = _
    rw [execIdent]
    dsimp only
    rw [hnames, his, hkept, hdiss, List.take_nil]
    rfl
  · intro g ref ids s hdiss
    rw [State.identNames, if_neg Bool.false_ne_true]
    simp [mem_namedIds, hdiss]
  · exact fun l => ⟨fun x => mem_namedIds x l, namedIds_sorted l⟩
  · intro h us s hrole hdec htype hus
    have hparam : frParam h < 16 := Nat.mod_lt _ (by decide)
    refine effect_of_eq rfl ((if_pos ⟨hrole, hdec, hus⟩).trans (if_pos htype)) ⟨?_, ?_, ?_⟩
    · exact (State.rd_wr_apart _ _ _ _ _ _ (.inr (by decide))).trans (State.rd_wr_eq _ _ _ _ (by decide))
    · exact (State.rd_wr_eq _ _ _ _ (by decide)).trans (Nat.mod_eq_of_lt hparam)
    · have hres : RegsOnly (fun k => k = flailB + FLAIL.DGRES_RESULT.off) s (s.wr flailB FLAIL.DGRES_RESULT 5) := RegsOnly.wr s 5 rfl
      exact hres.trans (RegsOnly.wr _ _ rfl)
  · exact fun h us s hus => does_of_eq rfl (if_neg fun h => Nat.not_le.2 hus h.2.2)
  · intro t k s hready hprog hmode hrole
    exact does_start hready rfl ((if_neg (not_not_intro hprog)).trans ((if_neg (by simp [hmode])).trans (if_pos hrole)))
  · intro t k s hready hmode hrole hbusy hauto ha0 ha1 ha2 hprog
    refine does_start hready rfl ((if_neg (not_not_intro hprog)).trans ((if_neg (by simp [hmode])).trans ((if_neg (not_not_intro hrole)).trans
      ((if_neg (by simp [hbusy, hauto])).trans ((if_neg ?_).trans ?_)))))
    · simp only [ha1, ha2, ne_eq, not_true_eq_false, or_false, Decidable.not_not]
      omega
    · rw [State.dgGo, if_pos ⟨State.frame_of_idle hbusy, .inr hprog⟩, if_pos hprog]
      simp [hprog]
  · exact fun t k s hready hprog hrole => does_start hready rfl ((if_pos hprog).trans (if_pos hrole))
  · exact digestResult_eq_one
  · intro c g s hacc hrole hg hwho horg hbusy
    exact does_ifWrites hacc rfl (State.mctrl_runs 0 hrole hg hwho horg (by decide) hbusy)
  · exact fun c s hacc hrole => does_ifWrites hacc rfl (if_pos (.inl hrole))
  · intro c arg g s hacc hrole hg hwho horg hbusy
    exact does_ifWrites hacc rfl (State.mctrl_runs arg.toNat hrole hg hwho horg (by decide) hbusy)
  · intro c arg g s hacc hrole hg hwho horg hbusy hst
    refine does_ifWrites hacc rfl ((State.mctrl_runs arg.toNat hrole hg hwho horg (by decide) hbusy).trans ?_)
    have hdiffers : ((s.modFlail fun h => { h with tctx := c }).wr flailB FLAIL.MSTAT_TARGET arg.toNat).flailSt ≠ arg.toNat := by
      rw [State.flailSt, State.rd_wr_ne _ _ _ _ _ _ (by decide)]
      exact hst
    exact if_neg hdiffers
  · intro c g s hacc hrole hg hwho horg
    refine ⟨fun hframe => ?_, fun hbusy => ?_⟩
    · exact does_ifWrites hacc rfl ((State.mctrl_granted 0 hrole hg hwho horg (by decide)).trans (if_pos ⟨rfl, hframe⟩))
    · exact does_ifWrites hacc rfl (State.mctrl_runs 0 hrole hg hwho horg (by decide) hbusy)
  · intro c g s hacc hrole hg hwho horg hbusy
    exact does_ifWrites hacc rfl (State.mctrl_runs 0 hrole hg hwho horg (by decide) hbusy)

end Sys2Proof.Machine
end

section
/-! SUPPORT. Margins and snapshots (R262 to R272). -/

namespace Sys2Proof.Machine

open Sys2Proof

theorem State.bit_errQ (s : State) (b : Nat) {i : Nat} (ev : Nat) (hi : i < 32) (hint : intKey (b + 0xC) = false) :
    (s.errQ b i ev).bit b (HDR.ERR.at i) = true := by
  refine (Told.bit (irq_told _ b i ev) b (HDR.ERR.at i) hint (show b + 0xC ≠ b + 0x18 by omega)).trans ?_
  exact s.bit_wr_one b (HDR.ERR.at i) (show 0 < 1 by decide) (show i + 1 ≤ 32 by omega)

/-! Margins. -/

theorem State.margChanges_of {s : State} {x : Nat} (hx : x < 38) (hpend : s.bit (marg x) MARG.OUT_PEND = true)
    (hne : s.rd (marg x) MARG.OUT_NEXT ≠ s.rd (marg x) MARG.OUT_CUR) : s.margChanges = true :=
  List.any_eq_true.2 ⟨x, List.mem_filter.2 ⟨List.mem_range.2 hx, hpend⟩, bne_iff_ne.2 hne⟩

/-! Snapshots. -/

theorem State.snapWords_length (s : State) (trig seq ev cls tag ctx : Nat) : (s.snapWords trig seq ev cls tag ctx).length = 255 := by
  simp [State.snapWords, State.words, pack16]

/-- The snapshots that wait and the next one's number, as in `s`. -/
structure State.SameSnaps (s u : State) : Prop where
  snaps : u.snaps = s.snaps
  next : u.snapNext = s.snapNext

theorem Told.sameSnaps {ks : Nat → Prop} {s u : State} (h : Told ks s u) : s.SameSnaps u := by
  have hsnaps := congrArg State.snaps h.1
  have hnext := congrArg State.snapNext h.1
  exact ⟨hsnaps, hnext⟩

theorem State.SameSnaps.trans {s t u : State} (h1 : s.SameSnaps t) (h2 : t.SameSnaps u) : s.SameSnaps u :=
  ⟨h2.snaps.trans h1.snaps, h2.next.trans h1.next⟩

theorem State.engineAsk_sameSnaps (s : State) (g who : Nat) : s.SameSnaps (s.engineAsk g who) := by
  unfold State.engineAsk
  extract_lets has
  split
  · exact ⟨rfl, rfl⟩
  · have hqueue : ∀ q, s.SameSnaps (s.setQueue g q) := fun q => ⟨rfl, rfl⟩
    exact (hqueue _).trans (State.arbShow_only _).told.sameSnaps

/-- A snapshot that is taken waits behind the earlier ones. -/
theorem State.snapshot_shows (s : State) (trig ev cls tag ctx : Nat) (cmd : Option Nat) (hroom : s.snaps.length < 2) :
    (s.snapshot trig ev cls tag ctx cmd).snaps = s.snaps ++ [⟨s.snapWords trig s.snapNext ev cls tag ctx, s.snapNext, cmd, 0⟩] ∧
    (s.snapshot trig ev cls tag ctx cmd).snapNext = (s.snapNext + 1) % 2 ^ 32 := by
  rw [State.snapshot, if_pos hroom]
  extract_lets s1 s2
  have hsnaps : s1.snaps = s.snaps ++ [⟨s.snapWords trig s.snapNext ev cls tag ctx, s.snapNext, cmd, 0⟩] := rfl
  have hnext : s1.snapNext = (s.snapNext + 1) % 2 ^ 32 := rfl
  have h2 : s1.SameSnaps s2 := (RegsOnly.wr (ks := fun _ => True) s1 _ trivial).told.sameSnaps.trans (count_told _ _ _ _ _ _ _).sameSnaps
  have hshown : s1.SameSnaps (if s2.snapLeft = none then s2.snapAsk else s2) := by
    split
    · exact h2.trans (s2.engineAsk_sameSnaps 3 feSeven)
    · exact h2
  exact ⟨hshown.snaps.trans hsnaps, hshown.next.trans hnext⟩

/-- A snapshot goes to its slot whole. -/
theorem State.nvm_snapPut (s : State) {x : Snap} (hpages : x.pages = 0) : (s.snapPut x).nvm =
    Memory.writes (if x.seq % 192 % 4 = 0 then s.nvmErase (snapAt (x.seq % 192)) else s).nvm (snapAt (x.seq % 192)) (x.bytes.take 1024) := by
  have hput : (s.snapPut x).nvm = (s.snapPages x 32).nvm := rfl
  rw [hput, State.snapPages, hpages]
  simp only [and_true, Nat.mul_zero, Nat.add_zero, List.drop_zero]
  rfl

theorem State.snapMay_of {s : State} (hup : s.up = true) (hruns : s.stopped 7 = false) (hnvm : s.nvmOff = false) (hport : s.snapPort = true)
    (hleft : s.snapLeft ≠ some 0) : s.snapMay = true := by
  simp [State.snapMay, hup, hruns, hnvm, hport, hleft]

/-- Settles O27. -/
theorem marginAndSnapshotRows : Obligations.MarginAndSnapshotRows := by
  unfold Obligations.MarginAndSnapshotRows
  refine ⟨?_, ?_, ?_, ?_, ?_, ?_, ?_, ?_, ?_, ?_, ?_, ?_, ?_, ?_, ?_⟩
  · intro t k s hready hmode hnow
    exact does_start hready rfl (if_pos ⟨hmode, by simp [hnow]⟩)
  · intro t k s hready hx hok ha0 ha1 ha1' ha2 hdefer
    refine does_start hready rfl ((if_neg (by simp [hdefer])).trans ((if_neg (by simp [hok]; omega)).trans
      ((if_neg (by simp [ha0, ha1, ha1', ha2])).trans (if_pos (by simp [hdefer])))))
  · intro t k u s hready hmode hx hok ha0 ha1 ha1' ha2 hnow hu hreg h1 h2
    refine does_start hready rfl ((if_neg (by simp [hmode])).trans ((if_neg (by simp [hok]; omega)).trans
      ((if_neg (by simp [ha0, ha1, ha1', ha2])).trans ((if_neg (by simp [hnow])).trans ?_))))
    dsimp only
    rw [← hu]
    exact if_pos (by simp [hreg, h1, h2])
  · intro t k s hready hmode hx
    exact does_start hready rfl ((if_neg (by simp [hmode])).trans (if_pos (.inl hx)))
  · exact fun c s hacc hmode => does_ifField hacc rfl (if_neg fun h => h.1 hmode)
  · intro c x s hacc hmode hx hpend hne
    refine effect_ifField hacc rfl (if_pos ⟨hmode, State.margChanges_of hx hpend hne⟩) ⟨?_, State.raiseQ_errQ _ _ _ _, errQ_told s margB 0 0⟩
    exact s.bit_errQ margB 0 (by decide) (by decide)
  · intro c s hacc
    refine effect_ifField hacc rfl rfl ⟨?_, State.bit_wr_zero _ _ _ (by decide), ?_⟩
    · exact (State.bit_wr_apart _ _ _ _ _ _ (.inl (by decide))).trans (State.bit_wr_zero _ _ _ (by decide))
    · exact (RegsOnly.wr s 0 (.inl rfl)).trans (RegsOnly.wr _ 0 (.inr rfl))
  · intro t k s hfind hop hphase hstop hturn hmode hroom ha0 ha1 ha2
    refine does_of_eq rfl ?_
    rw [hfind]
    dsimp only
    rw [if_pos ⟨hop, hphase, by simp [hstop], hturn⟩, if_neg]
    simp [hmode, ha0, ha1, ha2]
    omega
  · intro t k s hfind hop hphase hstop hturn hfull
    refine does_of_eq rfl ?_
    rw [hfind]
    dsimp only
    rw [if_pos ⟨hop, hphase, by simp [hstop], hturn⟩, if_pos (.inr (.inl hfull))]
  · exact fun trig seq ev cls tag ctx s => s.snapWords_length trig seq ev cls tag ctx
  · exact fun trig ev cls tag ctx cmd s hroom => s.snapshot_shows trig ev cls tag ctx cmd hroom
  · intro x l s hsnaps hup hruns hnvm hport hleft hdue
    refine does_of_eq rfl ((if_pos (State.snapMay_of hup hruns hnvm hport hleft)).trans ?_)
    rw [hdue]
  · intro x l s hsnaps hup hruns hnvm hport hleft hpages hrevoke
    refine does_of_eq rfl ((if_pos (State.snapMay_of hup hruns hnvm hport hleft)).trans ?_)
    have hdue : s.snapDue = some 6 := by
      rw [State.snapDue, hsnaps]
      exact if_pos ⟨hpages, hrevoke⟩
    rw [hdue]
  · exact fun s hleft => does_of_eq rfl (if_neg (by simp [State.snapMay, hleft]))
  · intro x l s hsnaps hpages
    exact s.nvm_snapPut hpages

end Sys2Proof.Machine
end

section
/-! SUPPORT. The reference, urgent conversions and clears (R278 to R286). -/

namespace Sys2Proof.Machine

open Sys2Proof

/-! A converter's start and stop. -/

theorem conv_keys (v : Fin 2) : convCfg v ≠ convStat v ∧ adcB + 8 ≠ convCfg v ∧ adcB + 8 ≠ convStat v ∧
    (∀ w : Fin 2, convCfg w ≠ convStat v) ∧ (∀ w : Fin 2, w ≠ v → convCfg w ≠ convCfg v) := by
  have hv := v.isLt
  simp only [convCfg, convStat]
  refine ⟨by omega, by omega, by omega, fun w => ?_, fun w hw => ?_⟩
  · have hlt := w.isLt
    omega
  · have hne : w.val ≠ v.val := fun h => hw (Fin.ext h)
    omega

theorem State.setConv_keeps (s : State) (v : Fin 2) (b : Bool) :
    State.Keeps (fun k => k = convCfg v ∨ k = convStat v ∨ k = adcB + 8) s (s.setConv v b) := by
  have hat : State.Keeps (fun k => k = convCfg v ∨ k = convStat v ∨ k = adcB + 8) s
      (s.setConvAt v (if b then (4 * s.tick + s.entryT v 0, 4 * s.tick) else (0, 0))) := (State.Keeps.refl _ s).fields
  have hcfg := hat.wrB (b := convCfg v) (f := ADC.CONV_CFG_EN) b (.inl rfl)
  have hrun : State.Keeps (fun k => k = convCfg v ∨ k = convStat v ∨ k = adcB + 8) s
      (((s.setConvAt v (if b then (4 * s.tick + s.entryT v 0, 4 * s.tick) else (0, 0))).wrB (convCfg v) ADC.CONV_CFG_EN b).wrB adcB
        (if v.val = 0 then ADC.STATUS_RUN0 else ADC.STATUS_RUN1) b) := hcfg.wrB b (by split <;> exact .inr (.inr rfl))
  exact hrun.wr _ (.inr (.inl rfl))

theorem State.bit_ready_setConv (s : State) (v : Fin 2) (b : Bool) :
    (s.setConv v b).bit adcB ADC.STATUS_REF_READY = s.bit adcB ADC.STATUS_REF_READY := by
  obtain ⟨-, hcfg, hstat, -⟩ := conv_keys v
  rw [State.setConv, State.bit_wr_apart _ _ _ _ _ _ (.inl hstat), State.wrB_eq,
    State.bit_wr_apart _ _ _ _ _ _ (.inr (by split <;> decide)), State.wrB_eq, State.bit_wr_apart _ _ _ _ _ _ (.inl hcfg)]
  rfl

theorem State.convOn_setConv (s : State) (v : Fin 2) (b : Bool) : (s.setConv v b).convOn v = b := by
  obtain ⟨hne, hcfg, -⟩ := conv_keys v
  rw [State.convOn, State.setConv, State.bit_wr_apart _ _ _ _ _ _ (.inl hne), State.wrB_eq (s.setConvAt _ _ |>.wrB _ _ _),
    State.bit_wr_apart _ _ _ _ _ _ (.inl (by split <;> exact hcfg.symm)), State.bit_wrB _ _ _ _ (by decide) (by decide)]

theorem State.urgOf_setUrg (s : State) (v : Nat) (u : Option (Nat × Bool × Nat)) : (s.setUrg v u).urgOf v = u := by
  unfold State.setUrg State.urgOf
  split <;> rfl

theorem State.convOn_setUrg (s : State) (v : Nat) (u : Option (Nat × Bool × Nat)) (w : Nat) : (s.setUrg v u).convOn w = s.convOn w := rfl

/-- A converter that starts. -/
theorem State.convAt_setConv (s : State) (v : Fin 2) :
    (s.setConv v true).convAt v = (4 * s.tick + s.entryT v 0, 4 * s.tick) := by
  obtain rfl | rfl : v = 0 ∨ v = 1 := by omega
  all_goals rfl

theorem State.rd_entry_setConv (s : State) (v : Fin 2) : (s.setConv v true).rd (convStat v) ADC.CONV_STAT_ENTRY = 0 :=
  State.rd_wr_eq _ _ _ 0 (by decide)

theorem State.urgOf_setConv (s : State) (v : Nat) (b : Bool) (w : Nat) : (s.setConv v b).urgOf w = s.urgOf w := by
  unfold State.setConv State.setConvAt State.urgOf
  split <;> split <;> rfl

theorem State.urgRefuse_none {s : State} {v : Nat} (h : s.urgOf v = none) : s.urgRefuse v = s := if_neg (by simp [h])

theorem State.rd_unmark (s : State) (k : Tmr) (b : Nat) (f : Fld) : (s.unmark k).rd b f = s.rd b f := rfl

theorem State.bit_unmark (s : State) (k : Tmr) (b : Nat) (f : Fld) : (s.unmark k).bit b f = s.bit b f := rfl

/-- The reference goes off while no urgent conversion waits. -/
theorem State.refOff_idle {s : State} (h0 : s.adc.urg0 = none) (h1 : s.adc.urg1 = none) : s.refOff =
    ((((((s.wr adcB ADC.CTRL_REF_EN 0).wr adcB ADC.STATUS_REF_READY 0).wr adcB ADC.REFSTAT_LEFT 0).unmark .ref).setConv 0 false).setConv 1 false) := by
  rw [State.refOff]
  generalize hs : (((s.wr adcB ADC.CTRL_REF_EN 0).wr adcB ADC.STATUS_REF_READY 0).wr adcB ADC.REFSTAT_LEFT 0).unmark .ref = t
  have hurg : ∀ w, ((t.setConv 0 false).setConv 1 false).urgOf w = none := fun w => by
    rw [State.urgOf_setConv, State.urgOf_setConv, ← hs]
    change (if w = 0 then s.adc.urg0 else s.adc.urg1) = none
    rw [h0, h1, ite_self]
  rw [State.urgRefuse_none (hurg 0), State.urgRefuse_none (hurg 1)]

theorem State.refOff_shows {s : State} (h0 : s.adc.urg0 = none) (h1 : s.adc.urg1 = none) :
    s.refOff.bit adcB ADC.CTRL_REF_EN = false ∧ s.refOff.bit adcB ADC.STATUS_REF_READY = false ∧ s.refOff.rd adcB ADC.REFSTAT_LEFT = 0 ∧
    s.refOff.convOn 0 = false ∧ s.refOff.convOn 1 = false ∧ s.refOff.raiseQ = s.raiseQ := by
  rw [State.refOff_idle h0 h1]
  generalize hs : (((s.wr adcB ADC.CTRL_REF_EN 0).wr adcB ADC.STATUS_REF_READY 0).wr adcB ADC.REFSTAT_LEFT 0).unmark .ref = t
  have hen : t.bit adcB ADC.CTRL_REF_EN = false := by
    rw [← hs, State.bit_unmark, State.bit_wr_apart _ _ _ _ _ _ (.inl (by decide)), State.bit_wr_apart _ _ _ _ _ _ (.inl (by decide)),
      State.bit_wr_zero _ _ _ (by decide)]
  have hready : t.bit adcB ADC.STATUS_REF_READY = false := by
    rw [← hs, State.bit_unmark, State.bit_wr_apart _ _ _ _ _ _ (.inl (by decide)), State.bit_wr_zero _ _ _ (by decide)]
  have hleft : t.rd adcB ADC.REFSTAT_LEFT = 0 := by
    rw [← hs, State.rd_unmark, State.rd_wr_eq _ _ _ _ (by decide)]
    rfl
  have hraise : t.raiseQ = s.raiseQ := by rw [← hs]; rfl
  have hfirst := t.setConv_keeps 0 false
  have hsecond := (t.setConv 0 false).setConv_keeps 1 false
  refine ⟨?_, ?_, ?_, ?_, State.convOn_setConv _ 1 false, hsecond.raiseQ.trans (hfirst.raiseQ.trans hraise)⟩
  · exact (hsecond.bit _ _ (by decide)).trans ((hfirst.bit _ _ (by decide)).trans hen)
  · exact (State.bit_ready_setConv _ 1 false).trans ((State.bit_ready_setConv _ 0 false).trans hready)
  · exact (hsecond.rd _ _ (by decide)).trans ((hfirst.rd _ _ (by decide)).trans hleft)
  · exact (hsecond.bit _ _ (by decide)).trans (t.convOn_setConv 0 false)

/-! A converter's configuration (R276). -/

/-- What a write of CFG leaves before EN: LEN where the converter is off, and PER. -/
def State.convSet (s : State) (k : Nat) (v : Word) : State :=
  (if getBits v 8 8 = s.rd (convCfg k) ADC.CONV_CFG_LEN then s else s.wr (convCfg k) ADC.CONV_CFG_LEN (getBits v 8 8)).wr
    (convCfg k) ADC.CONV_CFG_PER (getBits v 16 16)

theorem State.convSet_shows (s : State) (k : Nat) (v : Word) : RegsOnly (fun j => j = convCfg k) s (s.convSet k v) ∧
    (s.convSet k v).convOn k = s.convOn k ∧ (s.convSet k v).rd (convCfg k) ADC.CONV_CFG_LEN = getBits v 8 8 ∧
    (s.convSet k v).rd (convCfg k) ADC.CONV_CFG_PER = getBits v 16 16 := by
  have hlen : getBits v 8 8 < 2 ^ 8 := Nat.mod_lt _ (by decide)
  have hper : getBits v 16 16 < 2 ^ 16 := Nat.mod_lt _ (by decide)
  rw [State.convSet]
  refine ⟨RegsOnly.trans ?_ (RegsOnly.wr _ _ rfl), ?_, ?_, (State.rd_wr_eq _ _ _ _ (by decide)).trans (Nat.mod_eq_of_lt hper)⟩
  · exact RegsOnly.ite _ (RegsOnly.refl _ s) (RegsOnly.wr s _ rfl)
  · rw [State.convOn, State.bit_wr_apart _ _ _ _ _ _ (.inr (by decide))]
    split
    · rfl
    · exact State.bit_wr_apart _ _ _ _ _ _ (.inr (by decide))
  · rw [State.rd_wr_apart _ _ _ _ _ _ (.inr (by decide))]
    split
    next h => exact h.symm
    next => exact (State.rd_wr_eq _ _ _ _ (by decide)).trans (Nat.mod_eq_of_lt hlen)

theorem State.convWrite_eq {s : State} {k : Nat} {v : Word} (hon : getBits v 0 1 = 1)
    (h : s.convOn k = false ∨ getBits v 8 8 = s.rd (convCfg k) ADC.CONV_CFG_LEN) : s.convWrite k v = (s.convSet k v).setConvEn k true := by
  have hset : (if getBits v 8 8 = s.rd (convCfg k) ADC.CONV_CFG_LEN then s else if s.convOn k then s.err adcB 1 108 none none
      else s.wr (convCfg k) ADC.CONV_CFG_LEN (getBits v 8 8)).wr (convCfg k) ADC.CONV_CFG_PER (getBits v 16 16) = s.convSet k v := by
    rw [State.convSet]
    obtain h | h := h
    · rw [h, if_neg Bool.false_ne_true]
    · rw [if_pos h, if_pos h]
  rw [← hset, State.convWrite]
  simp only [hon]
  rfl

theorem State.convWrite_starts {s : State} {k : Fin 2} {v : Word} (hon : getBits v 0 1 = 1) (hready : s.bit adcB ADC.STATUS_REF_READY = true)
    (hoff : s.convOn k = false) : s.convWrite k v = (s.convSet k v).setConv k true := by
  obtain ⟨honly, hkept, -⟩ := s.convSet_shows k v
  have hready' : (s.convSet k v).bit adcB ADC.STATUS_REF_READY = true :=
    (honly.told.bit adcB ADC.STATUS_REF_READY (by decide) (conv_keys k).2.1).trans hready
  rw [State.convWrite_eq hon (.inl hoff), State.setConvEn, hready', hkept, hoff]
  rfl

/-- EN apart, a start leaves the configuration as it is. -/
theorem State.rd_cfg_setConv (s : State) (v : Fin 2) (b : Bool) {f : Fld} (hoff : f.off = 0) (hf : f.lo + f.w ≤ 32 ∧ 1 ≤ f.lo) :
    (s.setConv v b).rd (convCfg v) f = s.rd (convCfg v) f := by
  obtain ⟨hne, hcfg, -⟩ := conv_keys v
  have hstat : convCfg v + f.off ≠ convStat v := by rw [hoff]; exact hne
  have hrun : convCfg v + f.off ≠ adcB + 8 := by rw [hoff]; exact hcfg.symm
  rw [State.setConv, State.rd_wr_ne _ _ _ _ _ _ hstat, State.wrB_eq (s.setConvAt _ _ |>.wrB _ _ _),
    State.rd_wr_ne _ _ _ _ _ _ (by split <;> exact hrun), State.wrB_eq,
    State.rd_wr_apart _ _ ADC.CONV_CFG_EN _ _ f (.inr ⟨hf.1, .inr hf.2⟩)]
  rfl

theorem State.setConv_eq (s : State) (v : Nat) (b : Bool) :
    s.setConv v b = { s with regs := (s.setConv v b).regs, adc := (s.setConv v b).adc } := by
  have honly : RegsOnly (fun _ => True) (s.setConvAt v (if b then (4 * s.tick + s.entryT v 0, 4 * s.tick) else (0, 0))) (s.setConv v b) :=
    ((RegsOnly.wr _ _ trivial).trans (RegsOnly.wr _ _ trivial)).trans (RegsOnly.wr _ _ trivial)
  have hadc := congrArg State.adc honly.1
  have hat : ∀ (p : Nat × Nat) (r : List (Nat × Word)), { s.setConvAt v p with regs := r } = { s with regs := r, adc := (s.setConvAt v p).adc } :=
    fun p r => rfl
  exact honly.1.trans ((hat _ _).trans (by rw [hadc]))

theorem State.entryT_of_regsOnly {s t : State} {k : Fin 2} (h : RegsOnly (fun j => j = convCfg k) s t) : t.entryT k 0 = s.entryT k 0 := by
  have hkey : adcTab k 0 ≠ convCfg k := by
    have hk := k.isLt
    simp only [adcTab, convCfg, adcB, pg]
    omega
  rw [State.entryT, State.adcEntry, h.2 _ hkey, State.entryT, State.adcEntry]

/-- A converter that its CFG starts. -/
theorem State.convStart_shows (s : State) (k : Fin 2) (v : Word) {u : State} (hu : (s.convSet k v).setConv k true = u) :
    u.convOn k = true ∧ u.rd (convCfg k) ADC.CONV_CFG_LEN = getBits v 8 8 ∧ u.rd (convCfg k) ADC.CONV_CFG_PER = getBits v 16 16 ∧
    u.rd (convStat k) ADC.CONV_STAT_ENTRY = 0 ∧ u.convAt k = (4 * s.tick + s.entryT k 0, 4 * s.tick) ∧
    u = { s with regs := u.regs, adc := u.adc } ∧ (∀ j, j ≠ convCfg k → j ≠ convStat k → j ≠ adcB + 8 → u.getW j = s.getW j) := by
  obtain ⟨honly, hkept, hlen, hper⟩ := s.convSet_shows k v
  have hentry := State.entryT_of_regsOnly honly
  have htick := honly.told.fields.2.2.2.2
  generalize s.convSet k v = t at hu honly hkept hlen hper hentry htick
  have hkeeps := t.setConv_keeps k true
  rw [hu] at hkeeps
  refine ⟨?_, ?_, ?_, ?_, ?_, ?_, fun j hcfg hstat hrun => (hkeeps.getW j (by simp [hcfg, hstat, hrun])).trans (honly.2 j hcfg)⟩
  · rw [← hu, t.convOn_setConv]
  · rw [← hu, t.rd_cfg_setConv k true rfl (by decide), hlen]
  · rw [← hu, t.rd_cfg_setConv k true rfl (by decide), hper]
  · rw [← hu, t.rd_entry_setConv]
  · rw [← hu, t.convAt_setConv, hentry, htick]
  · have heq := t.setConv_eq k true
    rw [hu] at heq
    rw [honly.1] at heq
    exact heq

/-- An urgent conversion by the context that holds the converters. -/
theorem State.adcUrg_taken {s : State} {c : Fin 8} {v : Word} {g : Grant} (hg : s.grantOf 7 = some g) (hwho : g.who = c)
    (horg : g.org = .direct) (hready : s.bit adcB ADC.STATUS_REF_READY = true) (hnone : s.urgOf (getBits v 8 1) = none) : s.adcUrg c v =
    (s.setUrg (getBits v 8 1) (some (getBits v 0 8, getBits v 9 1 == 1, 4 * s.tick + 2 + getBits v 10 3))).wr adcB ADC.URG_RES_STAT 2 := by
  unfold State.adcUrg
  extract_lets granted ch cv
  have hgranted : granted = true := by simp [granted, hg, hwho, horg]
  rw [if_neg (by simp [hgranted]), if_neg (by simp [hready]), if_neg (by simp [cv, hnone])]

/-! Accumulators that are cleared. -/

theorem State.acc_modAcc_ne (s : State) {x y : Nat} (f : AccHid → AccHid) (h : x ≠ y) : (s.modAcc x f).acc y = s.acc y :=
  congrArg (Option.getD · AccHid.reset) (show (s.accs.setIfInBounds x (f (s.acc x)))[y]? = s.accs[y]? from
    Vector.getElem?_setIfInBounds_ne h)

theorem State.aclr_shows (s : State) {ch : Fin 192} (hsync : s.accSync ch = s) (hupd : (s.acc ch).upd ≠ s.tick + 1) :
    (s.aclr1 ch).acc ch = { s.acc ch with sum := 0, cnt := 0 } ∧ (∀ x, x ≠ ch.val → (s.aclr1 ch).acc x = s.acc x) ∧
    (s.aclr1 ch).raiseQ = s.raiseQ := by
  have hclear : s.aclr1 ch = if s.chWin ch = 0 then (s.modAcc ch fun h => { h with sum := 0, cnt := 0 }).setResult ch 0 0
      else s.modAcc ch fun h => { h with sum := 0, cnt := 0 } := by
    unfold State.aclr1
    dsimp only
    rw [hsync, if_neg hupd, if_neg hupd]
  have haccs : ∀ x, (s.aclr1 ch).acc x = (s.modAcc ch fun h => { h with sum := 0, cnt := 0 }).acc x := fun x => by
    rw [hclear]
    split <;> rfl
  refine ⟨(haccs ch).trans (s.acc_modAcc ch _), fun x hx => (haccs x).trans (s.acc_modAcc_ne _ (Ne.symm hx)), ?_⟩
  rw [hclear]
  split <;> rfl

theorem clrChans_one {i : Nat} {v : Word} (hall : getBits v 8 1 = 0) (hch : getBits v 0 7 < 96) :
    clrChans i v = [96 * i + getBits v 0 7] := by
  rw [clrChans, if_neg (by omega), if_pos hch]

/-- Settles O29. -/
theorem referenceAndClearRows : Obligations.ReferenceAndClearRows := by
  unfold Obligations.ReferenceAndClearRows
  refine ⟨?_, ?_, ?_, ?_, ?_, ?_, ?_, ?_, ?_, ?_, ?_, ?_⟩
  · exact fun c s hacc hoff hsup => does_ifField hacc rfl (if_neg (by simp [hoff, hsup]))
  · exact fun c s hacc h0 h1 => effect_ifField hacc rfl rfl (State.refOff_shows h0 h1)
  · intro s hen hready hauto hran
    refine effect_of_eq rfl ((if_pos ⟨hen, by simp [hready], hran⟩).trans (if_neg (by rw [show
      ((s.wr adcB ADC.STATUS_REF_READY 1).wr adcB ADC.REFSTAT_LEFT 0).adc = s.adc from rfl, hauto]; decide)))
      ⟨?_, State.rd_wr_eq _ _ _ 0 (by decide), (RegsOnly.wr s 1 (.inl rfl)).trans (RegsOnly.wr _ 0 (.inr rfl))⟩
    exact (State.bit_wr_apart _ _ _ _ _ _ (.inl (by decide))).trans (s.bit_wr_one _ _ (by decide) (by decide))
  · exact fun s hran => does_of_eq rfl (if_neg fun h => Bool.false_ne_true (hran.symm.trans h.2.2))
  · intro c k v s hacc hon hlen hready
    obtain ⟨honly, hkept, -⟩ := s.convSet_shows k v
    have hready' : (s.convSet k v).bit adcB ADC.STATUS_REF_READY = false :=
      (honly.told.bit adcB ADC.STATUS_REF_READY (by decide) (conv_keys k).2.1).trans hready
    have herr : s.convWrite k v = (s.convSet k v).err adcB 0 108 none none := by
      rw [State.convWrite_eq hon (.inr hlen), State.setConvEn, hready']
      rfl
    have htold := err_told (s.convSet k v) adcB 0 108 none none
    refine effect_ifWrites_eq hacc rfl herr ⟨?_, State.bit_err _ _ _ _ (by decide) (by decide), ?_⟩
    · have hint : intKey (convCfg k) = false ∧ ¬ (convCfg k = adcB + 0xC ∨ convCfg k = adcB + 0x18) := by
        have hk := k.isLt
        simp only [intKey, convCfg, adcB, pg, beq_eq_false_iff_ne]
        omega
      exact (htold.bit (convCfg k) ADC.CONV_CFG_EN hint.1 hint.2).trans hkept
    · exact (honly.told.mono fun _ => .inl).trans (htold.mono fun _ => .inr)
  · intro c k v s hacc hon hready hoff
    exact effect_ifWrites_eq hacc rfl (State.convWrite_starts hon hready hoff) (s.convStart_shows k v rfl)
  · intro c v s hacc hnone
    have hrefused : s.adcUrg c v = s.err adcB 3 108 none none := by
      rw [State.adcUrg, hnone]
      rfl
    have htold := err_told s adcB 3 108 none none
    have hadc := congrArg State.adc htold.1
    exact effect_ifWrites_eq hacc rfl hrefused ⟨s.bit_err _ _ _ (by decide) (by decide), hadc, htold⟩
  · intro c v g s hacc hg hwho horg hready hnone
    refine effect_ifWrites_eq hacc rfl (State.adcUrg_taken hg hwho horg hready hnone) ⟨State.rd_wr_eq _ _ _ 2 (by decide), ?_, ?_⟩
    · exact s.urgOf_setUrg _ _
    · exact fun j hj => State.getW_wr_ne _ _ hj
  · intro v raw ch q s hurg hq hoff
    refine does_of_eq rfl ?_
    have hagain : (s.setUrg v none).entryAgain v q = s.setUrg v none := if_neg (by rw [State.convOn_setUrg, hoff]; decide)
    rw [hurg]
    dsimp only
    rw [if_neg (Nat.not_lt.2 hq), hagain, if_neg Bool.false_ne_true]
  · intro v raw ch q b s hurg hq
    refine does_of_eq rfl ?_
    rw [hurg]
    exact if_pos hq
  · intro c i v s hacc hall hch hsync hupd
    obtain ⟨hacc', hothers, hraise⟩ := s.aclr_shows (ch := ⟨96 * i + getBits v 0 7, by omega⟩) hsync hupd
    have hone : s.aclr i v = s.aclr1 (96 * i + getBits v 0 7) := by
      rw [State.aclr, clrChans_one hall hch]
      rfl
    exact effect_ifWrites_eq hacc rfl hone ⟨hacc', hothers, hraise⟩
  · intro c i v s hacc hall hch hupd
    have hone : s.tclr i v = s.tclr1 (96 * i + getBits v 0 7) := by
      rw [State.tclr, clrChans_one hall hch]
      rfl
    refine effect_ifWrites_eq hacc rfl hone ⟨?_, rfl⟩
    exact (s.acc_modAcc ⟨96 * i + getBits v 0 7, by omega⟩ _).trans (if_neg hupd)

end Sys2Proof.Machine
end

section
/-! SUPPORT. The steps of ADC_CAL (R287). -/

namespace Sys2Proof.Machine

open Sys2Proof

/-- A step of ADC_CAL in its turn. -/
theorem does_calStart {i : Instr} {t : BitVec 8} {k : Cmd} {st : Nat} {f : Cmd → State → State} {s u : State} (hready : s.Ready t 0x0B k)
    (hstep : calStep k = st) (hexec : exec i s = .next (s.calStart t st f).settle) (h : f k s = u) : Does i s u :=
  does_start hready hexec ((if_pos hstep).trans h)

/-- Settles O30. -/
theorem adcCalibrationRows : Obligations.AdcCalibrationRows := by
  unfold Obligations.AdcCalibrationRows
  refine ⟨?_, ?_, ?_, ?_, ?_, ?_, ?_, ?_, ?_, ?_, ?_⟩
  · intro t k s hready hstep hnone
    refine does_calStart hready hstep rfl ?_
    rw [hnone]
  · intro t k s hready hstep hmode
    refine does_calStart hready hstep rfl ?_
    have hrefused : s.calRefusal k false true = some 1 := if_pos hmode
    rw [hrefused]
  · intro t k z s hready hstep hzero hch hnone
    refine does_calStart hready hstep rfl ?_
    have hpoint : (s.adc.cal.zero.isNone || s.adc.cal.ch != calChan k) = false := by simp [hzero, hch]
    rw [hpoint, hnone]
  · intro t k s hready hstep hmode hch ha1 hzero
    refine does_calStart hready hstep rfl ?_
    have hpoint : (s.adc.cal.zero.isNone || s.adc.cal.ch != calChan k) = true := by simp [hzero]
    have hrefused : s.calRefusal k true true = some 3 := by
      rw [State.calRefusal, if_neg (not_not_intro hmode), if_neg (by omega), if_pos rfl]
    rw [hpoint, hrefused]
  · intro k s hrun hstop hact hn hfull
    refine does_of_eq rfl ?_
    dsimp only
    rw [show s.runningCmd opAdcCal = some k from hrun]
    exact (if_neg (by simp [hact, hstop, Nat.not_lt.2 hn])).trans (if_pos (by simp [hfull]))
  · intro k p s hrun hstop hact hn hfull hpair
    refine does_of_eq rfl ?_
    dsimp only
    rw [show s.runningCmd opAdcCal = some k from hrun]
    refine (if_neg (by simp [hact, hstop, Nat.not_lt.2 hn])).trans ((if_neg (by simp [hfull])).trans ?_)
    rw [hpair]
  · intro k s hrun hstop hran
    refine does_of_eq rfl ?_
    rw [show s.runningCmd opAdcCal = some k from hrun]
    exact if_pos ⟨hran, hstop⟩
  · intro s hran
    refine does_of_eq rfl ?_
    split
    · rfl
    · exact if_neg fun h => Bool.false_ne_true (hran.symm.trans h.1)
  · intro t k p s hready hstep hpair hch hnone hsup
    refine ⟨_, ?_, rfl⟩
    refine does_calStart hready hstep rfl ?_
    have hpoint : (s.adc.cal.pair.isNone || s.adc.cal.ch != calChan k) = false := by simp [hpair, hch]
    rw [hpoint, hnone, hpair]
    exact if_neg (by simp [hsup])
  · intro t k s hready hstep hmode hch href ha0 ha1 ha2 hlo hhi
    refine does_calStart hready hstep rfl ((if_neg (not_not_intro hmode)).trans ((if_neg (by omega)).trans ((if_neg (by simp [href])).trans (if_neg ?_))))
    omega
  · intro zero full hspan
    exact if_pos (.inl (by omega))

end Sys2Proof.Machine
end

section
/-! SUPPORT. The thermal model (R292 to R305). -/

namespace Sys2Proof.Machine

open Sys2Proof

theorem State.nodeH_modNode (s : State) (k : Fin 24) (f : NodeHid → NodeHid) : (s.modNode k f).nodeH k = f (s.nodeH k) := by
  have hk : k.val < s.nodes.size := by simp
  simp [State.nodeH, State.modNode]

/-- Settles O31. -/
theorem thermalRows : Obligations.ThermalRows := by
  unfold Obligations.ThermalRows
  refine ⟨?_, ?_, ?_, ?_, ?_, ?_, ?_, ?_, ?_, ?_, ?_, ?_⟩
  · intro s hrun hup hfe htick hdone
    exact does_of_eq rfl ((if_neg (by simp [hrun, hup, htick, hdone])).trans (if_neg (by simp [hfe])))
  · intro s hrun hup hfe htick hdone
    exact does_of_eq rfl ((if_neg (by simp [hrun, hup, htick, hdone])).trans (if_pos hfe))
  · intro s hno
    refine does_of_eq rfl (if_pos ?_)
    obtain h | h | h := hno
    · exact .inl (by simp [h])
    · exact .inr (.inr (.inl h))
    · exact .inr (.inr (.inr h))
  · intro k s hfe hlo hhi hlow hfloor
    exact does_of_eq rfl ((if_neg (by simp [hfe])).trans (if_pos ⟨hlo, hhi, hlow, hfloor⟩))
  · intro k s hfe hno
    exact does_of_eq rfl ((if_neg (by simp [hfe])).trans (if_neg fun ⟨_, hhi, hlow, _⟩ => by omega))
  · intro k s hfe hrate hslow
    exact effect_of_eq rfl ((if_neg (by simp [hfe])).trans (if_pos ⟨hrate, hslow⟩)) ⟨s.bit_wr_zero _ _ (by decide), RegsOnly.wr s 0 rfl⟩
  · exact fun k s hfe hslow => does_of_eq rfl ((if_neg (by simp [hfe])).trans (if_neg fun h => Nat.not_le.2 hslow h.2))
  · exact fun s hfe hover hshed hran => does_of_eq rfl ((if_neg (by simp [hfe])).trans (if_pos ⟨hover, by simp [hshed], hran⟩))
  · intro s hfe hran
    exact does_of_eq rfl ((if_neg (by simp [hfe])).trans (if_neg fun h => Bool.false_ne_true (hran.symm.trans h.2.2)))
  · intro c v s hacc hnode
    have hset := s.nodeH_modNode ⟨getBits v 0 5, hnode⟩ fun h =>
      { h with hostT := signOf 16 (getBits v 16 16) * 1024, hostEnd := s.tick + 1000000 }
    exact effect_ifWrites_eq hacc rfl (if_pos hnode) ⟨congrArg NodeHid.hostT hset, congrArg NodeHid.hostEnd hset, rfl⟩
  · exact fun c v s hacc hnode => does_ifWrites hacc rfl (if_neg (Nat.not_lt.2 hnode))
  · exact fun s k l hl => if_pos hl

end Sys2Proof.Machine
end

section
/-! SUPPORT. The Owl's slots (R388 to R392). -/

namespace Sys2Proof.Machine

open Sys2Proof

theorem State.owlSlot_off (s : State) (i : Nat) : RegsOff (fun k => k = wdgB + 0x48) s (s.owlSlot i) := by
  have hmod : ∀ {t : State} (f : OwlHid → OwlHid), RegsOff (fun k => k = wdgB + 0x48) s t →
      RegsOff (fun k => k = wdgB + 0x48) s (t.modOwl i f) := fun _ ht => ht.fields
  unfold State.owlSlot
  extract_lets s1
  have h1 : RegsOff (fun k => k = wdgB + 0x48) s s1 := (RegsOff.refl _ s).ite (hmod _ (RegsOff.refl _ s))
  have hstart : RegsOff (fun k => k = wdgB + 0x48) s (s1.owlStart i) := (hmod _ h1).wrB _ rfl
  exact ((hmod _ (RegsOff.refl _ s)).ite (RegsOff.refl _ s)).ite ((hmod _ h1).ite (h1.ite hstart))

/-- The findings of a tick, slot by slot, where there is one. -/
theorem flatMap_one (n : OwlNote) (m : Nat) :
    (List.range m).flatMap (fun i => [n].filter fun x => x.slot == i) = if n.slot < m then [n] else [] := by
  induction m with
  | zero => rfl
  | succ m ih =>
    rw [List.range_succ, List.flatMap_append, ih]
    rcases Nat.lt_trichotomy n.slot m with hlt | heq | hgt
    · simp [hlt, Nat.lt_succ_of_lt hlt, Nat.ne_of_lt hlt]
    · simp [heq]
    · have hnot : ¬ n.slot < m + 1 := by omega
      simp [Nat.not_lt.2 (Nat.le_of_lt hgt), hnot, Nat.ne_of_gt hgt]

theorem State.owlServe_one {s : State} {n : OwlNote} (hq : s.owlQ = [n]) (hslot : n.slot < 32) (hcause : n.cause = 3 ∨ n.cause = 4 ∨ n.cause = 5)
    (hshown : n.shown = true) :
    s.owlServe = (({ s with owlQ := [] } : State).post 111 (some n.cls) (some (n.slot + n.cause * 32 + n.who * 256))).settle := by
  have hcap : (n.cause == 1 || n.cause == 2 || n.cause == 6) = false := by
    simp only [Bool.or_eq_false_iff, beq_eq_false_iff_ne]
    omega
  unfold State.owlServe
  rw [hq, if_neg (by simp)]
  extract_lets l s1
  have hl : l = [n] := (flatMap_one n 32).trans (if_pos hslot)
  have hs1 : s1 = { s with owlQ := [] } := by
    dsimp only [s1]
    rw [hl, List.filter_cons, hcap, if_neg Bool.false_ne_true]
    rfl
  have hbest : owlBest (l.filter OwlNote.shown) = some n := by
    rw [hl, List.filter_cons, if_pos hshown]
    rfl
  rw [hbest, hs1]
  dsimp only
  rw [if_neg (by omega)]

/-! A slot's configuration. -/

/-- Outside SERVICE and HOLD a slot stays enabled, and the attempt shows. -/
theorem State.owlCfg_refused {s : State} {i : Nat} {v : Word} (hlo : 1 ≤ i) (hhi : i < 24) (hen : s.bit (owl i) WDG.SLOT_CFG_EN = true)
    (hclear : getBits v 0 1 = 0) (hservice : s.mode ≠ mSERVICE) (hhold : s.mode ≠ mHOLD) :
    (s.owlCfg i v).bit (owl i) WDG.SLOT_CFG_EN = true ∧ (s.owlCfg i v).bit wdgB (HDR.ERR.at 5) = true := by
  have hint : intKey (owl i) = false ∧ owl i ≠ wdgB + 0xC ∧ owl i ≠ wdgB + 0x18 ∧ owl i ≠ wdgB + 0x48 := by
    simp only [intKey, owl, wdgB, pg, beq_eq_false_iff_ne]
    omega
  unfold State.owlCfg
  extract_lets en clr no s1 bind s2 s3 s4
  have hno : no = true := by simp [no, clr, en, hen, hclear, hservice, hhold]
  have h2 : s2.bit (owl i) WDG.SLOT_CFG_EN = true := by
    refine Eq.trans ?_ hen
    dsimp only [s2, s1]
    rw [State.bit_wr_apart _ _ _ _ _ _ (.inr (by decide)), State.bit_wr_apart _ _ _ _ _ _ (.inr (by decide)),
      State.bit_wr_apart _ _ _ _ _ _ (.inr (by decide)), State.bit_wr_apart _ _ _ _ _ _ (.inr (by decide)),
      State.bit_wr_apart _ _ _ _ _ _ (.inr (by decide))]
  have h3 : s3 = s2.err wdgB 5 111 none none := if_pos hno
  have h4 : RegsOff (fun _ => False) s3 s4 := RegsOff.ite (RegsOff.fields (RegsOff.refl _ s3)) (RegsOff.refl _ s3)
  have hslot := s4.owlSlot_off i
  rw [if_neg (by omega), if_neg (by omega)]
  constructor
  · rw [hslot.bit _ _ hint.2.2.2, h4.bit _ _ not_false, h3]
    exact ((err_told s2 wdgB 5 111 none none).bit _ _ hint.1 (not_or.2 ⟨hint.2.1, hint.2.2.1⟩)).trans h2
  · rw [hslot.bit _ _ (by decide), h4.bit _ _ not_false, h3]
    exact s2.bit_err _ _ _ (by decide) (by decide)

/-- A check-in in time, by the context that the slot is bound to. -/
theorem State.kick_serves {s : State} {c : Nat} {v : Word} (hkey : getBits v 16 16 = 0x0D15) (hends : s.owlEnds (getBits v 0 5) = false)
    (hlo : 1 ≤ getBits v 0 5) (hhi : getBits v 0 5 < 24) (hbind : s.owlBind (getBits v 0 5) = c) (hrun : (s.owlH (getBits v 0 5)).run = true)
    (hlate : ¬ ((s.owlH (getBits v 0 5)).late = true ∧ s.tick = (s.owlH (getBits v 0 5)).start)) (hserved : s.served (getBits v 0 5) = false)
    (hopen : (s.owlH (getBits v 0 5)).first = true ∨ (s.owlH (getBits v 0 5)).start + (s.owlH (getBits v 0 5)).wopen ≤ s.tick) :
    s.kick c v = (s.setServed (getBits v 0 5) true).wr (owl (getBits v 0 5)) WDG.SLOT_SVC_TICK s.tick := by
  have hmine : ¬ (getBits v 0 5 = 0 ∨ 24 ≤ getBits v 0 5 ∨ s.owlBind (getBits v 0 5) ≠ c ∨ (!(s.owlH (getBits v 0 5)).run) = true) := by
    simp only [hbind, hrun, ne_eq, not_true_eq_false, Bool.not_true, Bool.false_eq_true, or_false]
    omega
  have hearly : ¬ ((!(s.owlH (getBits v 0 5)).first) = true ∧
      s.tick < (s.owlH (getBits v 0 5)).start + (s.owlH (getBits v 0 5)).wopen) := by
    rintro ⟨hfirst, hbefore⟩
    obtain h | h := hopen
    · simp [h] at hfirst
    · omega
  unfold State.kick
  dsimp only
  rw [if_neg (not_not_intro hkey), if_neg hmine, hends, if_neg Bool.false_ne_true, if_pos hrun, State.owlCheck, if_neg hlate, hserved, if_neg Bool.false_ne_true]
  exact if_neg hearly

/-- Settles O39. -/
theorem owlRows : Obligations.OwlRows := by
  unfold Obligations.OwlRows
  refine ⟨?_, ?_, ?_, ?_, ?_, ?_, ?_, ?_, ?_, ?_, ?_⟩
  · intro c v s hacc hkey
    have htold := err_told s wdgB 4 111 none none
    have howls := congrArg State.owls htold.1
    exact effect_ifWrites_eq hacc rfl (if_pos hkey) ⟨s.bit_err _ _ _ (by decide) (by decide), howls, htold⟩
  · intro c v s hacc hkey hbind
    exact does_ifWrites hacc rfl ((if_neg (not_not_intro hkey)).trans (if_pos (.inr (.inr (.inl hbind)))))
  · intro c v s hacc hkey hends hlo hhi hbind hrun hlate hserved hopen htick
    refine effect_ifWrites_eq hacc rfl (State.kick_serves hkey hends hlo hhi hbind hrun hlate hserved hopen) ⟨?_, ?_, rfl, rfl⟩
    · have hkeys : wdgB + 0x48 ≠ owl (getBits v 0 5) + 0xC := by
        rw [owl]
        omega
      rw [State.served, State.bit_wr_apart _ _ _ _ _ _ (.inl hkeys)]
      exact State.bit_wrB _ _ _ _ (show 0 < 1 by decide) (show getBits v 0 5 + 1 ≤ 32 by omega)
    · exact (State.rd_wr_eq _ _ _ _ (by decide)).trans (Nat.mod_eq_of_lt htick)
  · exact fun i s hends hserved => does_of_eq rfl ((if_pos hends).trans (if_pos hserved))
  · exact fun i s hends hserved => does_of_eq rfl ((if_pos hends).trans (if_neg (by simp [hserved])))
  · exact fun i s hends => does_of_eq rfl (if_neg (by simp [hends]))
  · exact fun n s hq hslot hcause hshown => State.owlServe_one hq hslot hcause hshown
  · exact fun c i v s hacc hbind => does_ifWrites hacc rfl (if_neg hbind)
  · exact fun c i v s hacc hbind => does_ifWrites hacc rfl (if_pos hbind)
  · exact fun c i v s hacc hen => does_ifWrites hacc rfl (if_neg hen)
  · exact fun i v s hlo hhi hen hclear hservice hhold => State.owlCfg_refused hlo hhi hen hclear hservice hhold

end Sys2Proof.Machine
end

section
/-! SUPPORT. Engines, handshakes, the reference clock and droop (R399 to R411). -/

namespace Sys2Proof.Machine

open Sys2Proof

/-! Engines. -/

theorem fe_ne_engB (n : Nat) {o o' : Nat} (ho' : o' < 0x80) : fe n + o ≠ engB + o' := by
  rw [fe]
  omega

theorem State.eng_setEng (s : State) (n : Nat) {v : Nat} (hv : v < 8) : (s.setEng n v).eng n = v := by
  rw [State.eng, State.setEng, State.wrB_eq, State.rd_wr_ne _ _ _ _ _ _ (fe_ne_engB n (by decide)), State.wrB_eq,
    State.rd_wr_ne _ _ _ _ _ _ (by simp [ENG.FE_STAT_STATE, ENG.FE_PC_STOPPED]), State.wrB_eq,
    State.rd_wr_ne _ _ _ _ _ _ (fe_ne_engB n (show 8 < 0x80 by decide)), State.wrB_eq,
    State.rd_wr_ne _ _ _ _ _ _ (fe_ne_engB n (show 8 < 0x80 by decide)), State.rd_wr_eq _ _ _ _ (by decide)]
  exact Nat.mod_eq_of_lt hv

theorem State.eng_haltEng (s : State) (n : Nat) : (s.haltEng n).eng n = eHALTED := by
  have hpc : fe n + ENG.FE_STAT_STATE.off ≠ fe n + 0xC := by simp [ENG.FE_STAT_STATE]
  rw [State.haltEng, State.eng, State.rd, State.getW_setW_ne _ _ hpc, ← State.rd,
    State.rd_wr_ne _ _ _ _ _ _ (by simp [ENG.FE_STAT_STATE, ENG.FE_PC_PC])]
  exact State.eng_setEng _ n (by decide)

/-- The registers of one engine's stop, the interrupt controller's pages among them. -/
def EngKey (n k : Nat) : Prop :=
  (fe n ≤ k ∧ k < fe n + 0x10) ∨ k = engB + 8 ∨ k = engB + 0xC ∨ k = engB + 0x18 ∨ intKey k = true

theorem engKey_fe {n o : Nat} (ho : o < 0x10) : EngKey n (fe n + o) := .inl ⟨by omega, by omega⟩

theorem State.haltEng_off (s : State) (n : Nat) : RegsOff (EngKey n) s (s.haltEng n) := by
  have hset : ∀ t : State, RegsOff (EngKey n) s t → RegsOff (EngKey n) s (t.setEng n eHALTED) := fun t ht =>
    ((((ht.wr _ (engKey_fe (o := 0) (by decide))).wrB _ (.inr (.inl rfl))).wrB _ (.inr (.inl rfl))).wrB _
      (engKey_fe (o := 4) (by decide))).wrB _ (.inr (.inl rfl))
  exact ((hset _ (RegsOff.fields (RegsOff.refl _ s))).wr _ (engKey_fe (o := 4) (by decide))).setW _ (engKey_fe (o := 0xC) (by decide))

theorem EngKey.of_int {n k : Nat} (h : intKey k = true) : EngKey n k := .inr (.inr (.inr (.inr h)))

theorem State.countMismatch_off {s t : State} {n : Nat} (h : RegsOff (EngKey n) s t) :
    RegsOff (EngKey n) s (t.count (fe n) ENG.FE_CNT_MISMATCH ENG.FE_CNT_MM_SAT engB 3 (112 + n)) := by
  refine h.told ((count_told _ _ _ _ _ _ _).mono ?_) fun _ => EngKey.of_int
  rintro k (rfl | rfl | rfl | rfl)
  · exact engKey_fe (o := 8) (by decide)
  · exact engKey_fe (o := 8) (by decide)
  · exact .inr (.inr (.inl rfl))
  · exact .inr (.inr (.inr (.inl rfl)))

theorem State.tellMismatch_off {s t : State} {n : Nat} (cls d : Option Nat) (h : RegsOff (EngKey n) s t) :
    RegsOff (EngKey n) s (t.err engB 0 (112 + n) cls d) := by
  refine h.told ((err_told _ _ _ _ _ _).mono ?_) fun _ => EngKey.of_int
  rintro k (rfl | rfl)
  · exact .inr (.inr (.inl rfl))
  · exact .inr (.inr (.inr (.inl rfl)))

/-- The state that remembers a halt for lockstep. -/
def State.lsNote (s : State) (halt warm : Nat) (last : Option Nat) : State :=
  { s with lsHalt := halt, lsLast := last, warmReq := warm }

theorem State.lsNote_off {s t : State} {ks : Nat → Prop} (h : RegsOff ks s t) (halt warm : Nat) (last : Option Nat) :
    RegsOff ks s (t.lsNote halt warm last) := h.fields

theorem State.mismatchAs_off (s : State) (rep : Bool) (n : Nat) : RegsOff (EngKey n) s (s.mismatchAs rep n) := by
  unfold State.mismatchAs
  extract_lets cls s1 s2
  have h1 : RegsOff (EngKey n) s s1 := State.countMismatch_off (s.haltEng_off n)
  clear_value s1
  have h2 : RegsOff (EngKey n) s s2 := State.lsNote_off h1 _ _ _
  exact State.tellMismatch_off _ _ h2

theorem State.eng_mismatchAs_ne (s : State) (rep : Bool) {n m : Fin 8} (h : n ≠ m) : (s.mismatchAs rep n).eng m = s.eng m := by
  have hn := n.isLt
  have hm := m.isLt
  have hne : n.val ≠ m.val := fun e => h (Fin.ext e)
  refine (s.mismatchAs_off rep n).rd _ _ ?_
  simp only [EngKey, intKey, fe, engB, pg, ENG.FE_STAT_STATE, beq_iff_eq]
  omega

theorem State.mismatches_two {s : State} {n m : Nat} (hfirst : s.eng n ≠ eHALTED ∧ s.eng n ≠ eOFF)
    (hsecond : (s.mismatchAs s.lsRepeats n).eng m ≠ eHALTED ∧ (s.mismatchAs s.lsRepeats n).eng m ≠ eOFF) :
    s.mismatches [n, m] = (s.mismatchAs s.lsRepeats n).mismatchAs s.lsRepeats m := by
  rw [State.mismatches, State.each, List.foldl_cons, List.foldl_cons, List.foldl_nil, if_pos hfirst, if_pos hsecond]

/-! The reference clock. -/

theorem State.refLoss_shows (s : State) : s.refLoss.xiGood = false ∧ s.refLoss.bit clkB CLK.STATUS_REF_OK = false ∧
    s.refLoss.bit clkB CLK.STATUS_REF_RC = true ∧ s.refLoss.bit timeB TIME.STATUS_REF_RC = true ∧
    s.refLoss.bit clkB (HDR.ERR.at 0) = true := by
  unfold State.refLoss
  extract_lets s1
  have htold := err_told s1 clkB 0 132 (some (min 2 (s.rd clkB CLK.CFG_REF_CLS))) (some 3)
  have hxi := congrArg State.xiGood htold.1
  refine ⟨hxi, ?_, ?_, ?_, s1.bit_err _ _ _ (by decide) (by decide)⟩
  · rw [htold.bit _ _ (by decide) (by decide), State.bit_wr_apart _ _ _ _ _ _ (.inl (by decide)),
      State.bit_wr_apart _ _ _ _ _ _ (.inr (by decide)), State.bit_wr_zero _ _ _ (by decide)]
  · rw [htold.bit _ _ (by decide) (by decide), State.bit_wr_apart _ _ _ _ _ _ (.inl (by decide)),
      State.bit_wr_one _ _ _ (by decide) (by decide)]
  · rw [htold.bit _ _ (by decide) (by decide), State.bit_wr_one _ _ _ (by decide) (by decide)]

theorem State.refBack_shows (s : State) : s.refBack.xiGood = s.xiGood ∧ s.refBack.bit clkB CLK.STATUS_REF_OK = true ∧
    s.refBack.bit clkB CLK.STATUS_REF_RC = false ∧ s.refBack.bit timeB TIME.STATUS_REF_RC = false := by
  unfold State.refBack
  extract_lets s1
  have htold := err_told s1 clkB 1 132 (some 0) none
  have hxi := congrArg State.xiGood htold.1
  refine ⟨hxi, ?_, ?_, ?_⟩
  · rw [htold.bit _ _ (by decide) (by decide), State.bit_wr_apart _ _ _ _ _ _ (.inl (by decide)),
      State.bit_wr_one _ _ _ (by decide) (by decide)]
  · rw [htold.bit _ _ (by decide) (by decide), State.bit_wr_apart _ _ _ _ _ _ (.inl (by decide)),
      State.bit_wr_apart _ _ _ _ _ _ (.inr (by decide)), State.bit_wr_zero _ _ _ (by decide)]
  · rw [htold.bit _ _ (by decide) (by decide), State.bit_wr_zero _ _ _ (by decide)]

/-! Droop. -/

theorem State.droopOf_setDroop (s : State) (i : Fin 16) (d : Nat × Bool) : (s.setDroop i d).droopOf i = d := by
  have hi : i.val < s.droops.size := by simp
  simp [State.droopOf, State.setDroop]

theorem State.droop_shows (s : State) (i : Fin 16) (hnone : (s.droopOf i).1 = 0) :
    (s.droop i).droopOf i = (4, false) ∧ (s.droop i).bit clkB (CLK.ISL_STRETCH.at (16 + i)) = true := by
  have hi := i.isLt
  rw [State.droop, if_neg (not_not_intro hnone)]
  generalize hs : (s.setDroop i (4, false)).wr clkB (CLK.ISL_STRETCH.at (16 + i)) 1 = t
  have htold := count_told t (drp i) CLK.DRP_COUNT CLK.DRP_SAT clkB 4 132
  have hdroops := congrArg State.droops htold.1
  have hkey : ¬ (clkB + 0x48 = drp i + 0 ∨ clkB + 0x48 = drp i + CLK.DRP_SAT.off ∨ clkB + 0x48 = clkB + 0xC ∨ clkB + 0x48 = clkB + 0x18) := by
    rw [drp]
    omega
  constructor
  · change ((t.count (drp i) CLK.DRP_COUNT CLK.DRP_SAT clkB 4 132).droops[i.val]?).getD (0, false) = _
    rw [hdroops, ← hs]
    exact s.droopOf_setDroop i _
  · refine (htold.bit clkB (CLK.ISL_STRETCH.at (16 + i)) (show intKey (clkB + 0x48) = false by decide) hkey).trans ?_
    rw [← hs]
    exact State.bit_wr_one _ _ _ (show 0 < 1 by decide) (show 16 + i.val + 1 ≤ 32 by omega)

/-- The last step of a release. -/
theorem State.droopEnd_shows (s : State) (i : Fin 16) (ns10 : Nat) {u : State}
    (hu : ((s.setDroop i (0, false)).wr clkB (CLK.ISL_STRETCH.at (16 + i)) 0).wr (drp i) CLK.DRP_LONGEST
      (max (s.rd (drp i) CLK.DRP_LONGEST) (min 0x7FFF ns10)) = u) :
    u.droopOf i = (0, false) ∧ u.bit clkB (CLK.ISL_STRETCH.at (16 + i)) = false ∧
    u.rd (drp i) CLK.DRP_LONGEST = max (s.rd (drp i) CLK.DRP_LONGEST) (min 0x7FFF ns10) ∧ u.raiseQ = s.raiseQ := by
  have hi := i.isLt
  have hkey : clkB + 0x48 ≠ drp i + 0 := by
    rw [drp]
    omega
  have hlast : s.rd (drp i) CLK.DRP_LONGEST < 2 ^ 15 := Nat.mod_lt _ (by decide)
  rw [← hu]
  refine ⟨s.droopOf_setDroop i _, ?_, ?_, rfl⟩
  · rw [State.bit_wr_apart _ _ _ _ _ _ (.inl hkey)]
    exact State.bit_wr_zero _ _ _ (show 16 + i.val + 1 ≤ 32 by omega)
  · exact (State.rd_wr_eq _ _ _ _ (by decide)).trans (Nat.mod_eq_of_lt (show _ < 2 ^ 15 by omega))

/-- Settles O40. -/
theorem engineAndClockRows : Obligations.EngineAndClockRows := by
  unfold Obligations.EngineAndClockRows
  refine ⟨?_, ?_, ?_, ?_, ?_, ?_, ?_, ?_, ?_, ?_, ?_, ?_, ?_, ?_, ?_, ?_, ?_, ?_, ?_⟩
  · exact fun n s hup hhalt hoff => does_of_eq rfl ((if_pos hup).trans (if_pos ⟨hhalt, hoff⟩))
  · intro n m s hup hnm hhalt hoff hhalt' hoff'
    exact does_of_eq rfl ((if_pos hup).trans (State.mismatches_two ⟨hhalt, hoff⟩ (by
      rw [s.eng_mismatchAs_ne _ hnm]
      exact ⟨hhalt', hoff'⟩)))
  · intro n s hhalt
    refine does_of_eq rfl ?_
    split
    · exact if_neg fun h => h.1 hhalt
    · rfl
  · exact fun n s hrun => does_of_eq rfl (if_pos (.inl hrun))
  · exact fun n s => s.eng_haltEng n
  · intro i us s hup hus
    have htold := err_told s clkB 2 132 (some (clampN 1 4 (s.rd clkB CLK.CFG_HS_CLS))) (some (4 + 16 * Config.detailOf 7 i.val))
    exact effect_of_eq rfl (if_pos ⟨hup, hus⟩) ⟨s.bit_err _ _ _ (by decide) (by decide), htold.mode (by decide), htold.fields.2.2.2.1⟩
  · exact fun i us s hus => does_of_eq rfl (if_neg fun h => Nat.not_le.2 hus h.2)
  · exact fun ns khz s hup hgood hbad => effect_of_eq rfl (if_pos ⟨hup, hgood, hbad⟩) s.refLoss_shows
  · exact fun ns khz s hns hlo hhi => does_of_eq rfl (if_neg fun ⟨_, _, h⟩ => by omega)
  · intro us s hup hrc hauto hus
    obtain ⟨hgood, hok, hback, htime⟩ := (({ s with xiGood := true } : State).wr clkB CLK.STATUS_REF_OK 1).refBack_shows
    exact effect_of_eq rfl ((if_pos ⟨hup, hrc⟩).trans (if_pos ⟨hauto, hus⟩)) ⟨hgood, hok, hback, htime⟩
  · intro us s hup hrc hno
    refine effect_of_eq rfl ((if_pos ⟨hup, hrc⟩).trans (if_neg fun h => ?_)) ⟨rfl, State.bit_wr_one _ _ _ (by decide) (by decide), ?_⟩
    · obtain hoff | hearly := hno
      · exact Bool.false_ne_true (hoff.symm.trans h.1)
      · exact Nat.not_le.2 hearly h.2
    · exact (State.bit_wr_apart _ _ CLK.STATUS_REF_OK _ _ _ (.inr (by decide))).trans hrc
  · intro c v s hacc hret hgood hrc
    obtain ⟨-, -, hback, htime⟩ := s.refBack_shows
    exact effect_ifWrites_eq hacc rfl (if_pos ⟨hret, hgood, hrc⟩) ⟨hback, htime⟩
  · exact fun c v s hacc hbad => does_ifWrites hacc rfl (if_neg fun h => Bool.false_ne_true (hbad.symm.trans h.2.1))
  · exact fun i pm s hup hlvl hnone => effect_of_eq rfl (if_pos ⟨hup, hlvl⟩) (s.droop_shows i hnone)
  · exact fun i pm s hlvl => does_of_eq rfl (if_neg fun h => Nat.not_lt.2 hlvl h.2)
  · intro i pm gap ns10 s hlvl hgap
    have hi := i.isLt
    refine ⟨fun hlast => ?_, fun hmore => ?_⟩
    · obtain ⟨hdroop, hstretch, hlongest, hraise⟩ := s.droopEnd_shows i ns10 rfl
      exact effect_of_eq rfl ((if_neg (by omega)).trans (if_pos hlast)) ⟨hdroop, hstretch, hlongest, hraise⟩
    · exact does_of_eq rfl ((if_neg (by omega)).trans (if_neg (by omega)))
  · exact fun i pm gap ns10 s hno => does_of_eq rfl (if_pos (.inr hno))
  · exact fun i ns10 s hon htold hlong => does_of_eq rfl (if_pos ⟨hon, by simp [htold], hlong⟩)
  · exact fun i ns10 s hshort => does_of_eq rfl (if_neg fun h => Nat.not_lt.2 hshort h.2.2)

end Sys2Proof.Machine
end

section
/-! SUPPORT. Images, activation, confirmation and the ROM loader (R454 to R461). -/

namespace Sys2Proof.Machine

open Sys2Proof

/-! The silo. -/

theorem State.siloWrite_next {s : State} {o n : Nat} (bytes : List Byte) (hlo : 256 ≤ o) (ho : o % 8 = 0) (hn : n % 8 = 0) (hmin : 8 ≤ n)
    (hmax : n ≤ 128) (hend : o + n ≤ 0x1C0000) (hstage : s.stage = uWRITING) (hnext : o = s.rd nvmB NVM.SILO_NEXT) (hnvm : s.nvmOff = false)
    (hbusy : s.updBusy = false) : s.siloWrite o n n bytes false false =
      ((((s.siloErase o n).nvmPut (siloB + o) (bytes.take n)).wr nvmB NVM.SILO_NEXT (o + n)).siloLook o (o + n) |>.1,
       if ((((s.siloErase o n).nvmPut (siloB + o) (bytes.take n)).wr nvmB NVM.SILO_NEXT (o + n)).siloLook o (o + n)).2 then some 4 else none) := by
  rw [State.siloWrite, if_neg (by omega), if_neg (by omega), if_neg (by simp [hstage, ← hnext]), hnvm, if_neg Bool.false_ne_true, hbusy,
    if_neg Bool.false_ne_true, if_neg Bool.false_ne_true]
  dsimp only
  rw [if_neg Bool.false_ne_true, if_neg (by omega)]

theorem State.siloWrite_gap {s : State} {o n : Nat} (m : Nat) (bytes : List Byte) (args fail : Bool) (hlo : 8 ≤ o) (ho : o % 8 = 0) (hn : n % 8 = 0)
    (hmin : 8 ≤ n) (hmax : n ≤ 128) (hend : o + n ≤ 0x1C0000) (hnext : o ≠ s.rd nvmB NVM.SILO_NEXT) :
    s.siloWrite o n m bytes args fail = (s.err nvmB 2 123 none none, some 3) := by
  rw [State.siloWrite, if_neg (by omega), if_neg (by omega), if_pos ⟨by omega, .inr hnext⟩]

/-! ACTIVATE. -/

theorem State.actBegin_unstaged {s : State} {k : Cmd} (h : s.stage ≠ uSTAGED) : s.actBegin k [] = s.failK k 1 := by
  have hcause : (s.eccHits 1 [] false).actCause [] = some 1 := if_pos h
  rw [State.actBegin, hcause]
  rfl

/-- Settles O43. -/
theorem updateRows : Obligations.UpdateRows := by
  unfold Obligations.UpdateRows
  refine ⟨?_, ?_, ?_, ?_, ?_, ?_, ?_, ?_, ?_, ?_, ?_, ?_, ?_, ?_, ?_⟩
  · intro t k fail s hready hfits hprog hyield
    refine does_start hready rfl ((if_neg (by omega)).trans ?_)
    have hwhole : min (32 * s.unitsNow k ((getBits k.a1 0 8 + 31) / 32)) (getBits k.a1 0 8 - 32 * k.prog) = getBits k.a1 0 8 := by
      rw [State.unitsNow_all _ hyield, hprog]
      omega
    dsimp only
    rw [hwhole, hprog]
    simp only [Nat.mul_zero, Nat.add_zero, Nat.sub_zero, List.drop_zero, Nat.zero_add, Nat.lt_irrefl, if_false] <;> rfl
  · exact fun o n bytes s hlo ho hn hmin hmax hend hstage hnext hnvm hbusy =>
      State.siloWrite_next bytes hlo ho hn hmin hmax hend hstage hnext hnvm hbusy
  · exact fun o n m bytes args fail s hlo ho hn hmin hmax hend _ hnext => State.siloWrite_gap m bytes args fail hlo ho hn hmin hmax hend hnext
  · intro t k hits failed s hready hprog ha0 ha1 ha2 hbusy hmode
    have hbegins : ∀ u : State, (if s.stage = uSTAGED then ((s.setCmd { k with phase := .running }).dropOrg (fun _ o => o == .tag k.tag)).actHold
        else s.failK k 1) = u → Does (.activate t hits failed) s u := fun u hu => by
      refine does_start hready rfl ((if_neg (by omega)).trans ((if_neg (by omega)).trans ((if_neg ?_).trans ((if_pos hmode).trans hu))))
      simp [ha0, ha1, ha2, hbusy]
    exact ⟨fun hstage => hbegins _ (if_pos hstage), fun hstage => hbegins _ (if_neg hstage)⟩
  · intro t k failed s hready hprog ha0 ha1 ha2 hbusy hmode hstage
    refine does_start hready rfl ((if_neg (by omega)).trans ((if_neg (by omega)).trans ((if_neg ?_).trans ((if_neg ?_).trans
      (State.actBegin_unstaged hstage)))))
    · simp [ha0, ha1, ha2, hbusy]
    · rw [hmode]
      decide
  · intro t k hits failed s hready hprog ha0 ha1 ha2 hbusy hmode hnone
    refine does_start hready rfl ((if_neg (by omega)).trans ((if_neg (by omega)).trans ((if_neg ?_).trans ((if_neg ?_).trans ?_))))
    · simp [ha0, ha1, ha2, hbusy]
    · rw [hmode]
      decide
    · rw [State.actBegin, hnone]
  · exact fun t k hits failed s hready hprog => does_start hready rfl (if_pos hprog)
  · exact fun t k hits failed s hready hprog hnvm =>
      does_start hready rfl ((if_neg (by omega)).trans ((if_pos hprog).trans (if_pos hnvm)))
  · intro t k hits s hready hprog hnvm hcopied heven
    refine does_start hready rfl ((if_neg (by omega)).trans ((if_pos hprog).trans ((if_neg (by simp [hnvm])).trans ((if_pos hcopied).trans ?_))))
    rw [if_neg (by omega)]
  · intro t k s hready ha0 ha1 ha2 hnvm hconf
    refine does_start hready rfl ((if_neg ?_).trans ((if_neg ?_).trans (if_neg (by simp [ha0, ha1, ha2, hnvm]))))
    · rw [hconf]
      decide
    · rw [hconf]
      decide
  · exact fun t k s hready _ _ _ _ hconf => does_start hready rfl (if_pos hconf)
  · intro c v fail s hacc hop hrom hbusy
    refine does_of_eq rfl ((if_pos hop).trans ((State.ifWrites_of hacc _).trans ((if_neg (by simp [hrom])).trans
      (if_pos ⟨hop, by simp [hbusy]⟩))))
  · intro c v fail s hacc hop hrom hfree
    refine does_of_eq rfl ((if_pos hop).trans ((State.ifWrites_of hacc _).trans ((if_neg (by simp [hrom])).trans ((if_neg ?_).trans (if_pos hop)))))
    simp [hfree]
  · intro c v fail s hacc hop hrom
    refine effect_of_eq rfl ((if_pos hop).trans ((State.ifWrites_of hacc _).trans (if_pos (by simp [hrom])))) ?_
    have htold := err_told s nvmB 3 123 none none
    exact ⟨s.bit_err _ _ _ (by decide) (by decide), htold.fields.2.1, htold⟩
  · intro c v s hacc hop hrom hmode
    have hruns : s.ldrCtrl v false = if s.stage = uSTAGED then s.actHold else s.ldrDone 1 := by
      rw [State.ldrCtrl, if_neg (by simp [hrom]), if_neg (by omega), if_neg (by omega), if_pos ⟨hop, hmode⟩]
    refine ⟨fun hstage => ?_, fun hstage => ?_⟩
    · exact does_of_eq rfl ((if_pos hop).trans ((State.ifWrites_of hacc _).trans (hruns.trans (if_pos hstage))))
    · exact does_of_eq rfl ((if_pos hop).trans ((State.ifWrites_of hacc _).trans (hruns.trans (if_neg hstage))))

end Sys2Proof.Machine
end

section
/-! SUPPORT. The rows of stage faults, phase comparators and hiccup. -/

namespace Sys2Proof.Machine

open Sys2Proof

theorem State.railH_modRail (s : State) {n : Nat} (f : RailHid → RailHid) (hn : n < 12) : (s.modRail n f).railH n = f (s.railH n) := by
  simp [State.modRail, State.railH, hn]

theorem State.phH_modPh (s : State) {p : Nat} (f : PhaseHid → PhaseHid) (hp : p < 56) : (s.modPh p f).phH p = f (s.phH p) := by
  simp [State.modPh, State.phH, hp]

theorem State.lidAbort_stopped {s : State} {n : Nat} (h : s.bit (rail n) RAIL.STATUS_LID_RUN = false) (cause : Nat) : s.lidAbort n cause = s := by
  rw [State.lidAbort, if_neg (by simp [h])]

theorem hic_retry_fits (x : Nat) : (hic x).retry.lo + (hic x).retry.w ≤ 32 := by
  rw [hic]
  split
  · exact (show 8 + 4 ≤ 32 by decide)
  · exact (show 14 + 4 ≤ 32 by decide)

/-- A trip in the on-time, with no identification running. -/
theorem State.peakTrip_cuts {s : State} {p uv ns : Nat} (hpart : s.takesPart p = true) (hr : s.phRail p < 12) (hst : s.outSt (s.phRail p) = 3)
    (hleb : 5 * s.rd (rail (s.phRail p)) RAIL.OCP_LEB ≤ ns)
    (hhigh : s.highAt p ns (5 * s.rd (sheaf (s.phRail p)) PHX.SH_FIRE_TPULSE) = true)
    (hpeak : s.peakUv p (s.rd (rail (s.phRail p)) RAIL.OCP_IPK) ≤ (uv : Int))
    (hlid : s.bit (rail (s.phRail p)) RAIL.STATUS_LID_RUN = false) : s.peakTrip p uv ns =
      ((s.modPh p (fun h => { h with pwm := .low, kept := true })).modRail (s.phRail p) (fun h => { h with cut := true })).wr
        (rail (s.phRail p)) RAIL.PROT_LAST_PHASE p := by
  rw [State.peakTrip, if_pos ⟨hpart, hr, .inr hst, hleb, hhigh, hpeak⟩, State.lidAbort_stopped hlid]

/-- Settles O13. -/
theorem phaseRows : Obligations.PhaseRows := by
  unfold Obligations.PhaseRows
  refine ⟨?_, ?_, ?_, ?_, ?_, ?_, ?_, ?_, ?_, ?_, ?_, ?_, ?_, ?_, ?_, ?_, ?_, ?_⟩
  · intro g ns imon s hup hfilt
    refine effect_of_eq rfl (if_pos ⟨hup, hfilt⟩) (u := (s.wrB (pg 0x0C) (PHX.STATUS_SFLT_LOW.at g) false).wrB (pg 0x0D)
      (PHX.STATUS_SFLT_LOW.at g) false) ⟨?_, ?_, ?_⟩
    · refine (State.bit_wr_apart _ _ _ _ _ _ (.inl (show pg 0x0C + 8 ≠ pg 0x0D + 8 by decide))).trans ?_
      exact s.bit_wrB _ _ false (show 0 < 1 by decide) (show g.val + 1 ≤ 32 by omega)
    · exact State.bit_wrB _ _ _ false (show 0 < 1 by decide) (show g.val + 1 ≤ 32 by omega)
    · exact (RegsOnly.wr s 0 (.inl rfl)).andWrB false (.inr rfl)
  · intro g ns imon s hup hlow hfilt
    refine does_of_eq rfl ((if_pos ⟨hup, hfilt⟩).trans ?_)
    dsimp only
    rw [hlow]
    rfl
  · exact fun g low ns imon s hns => does_of_eq rfl (if_neg fun h => Nat.not_le.2 hns h.2)
  · intro p s hr hst hen ho hit
    refine does_of_eq rfl ?_
    dsimp only
    rw [if_pos ⟨hr, hst, hen, by omega⟩, if_neg (by omega)]
  · intro p s hr hst hen ho
    refine does_of_eq rfl ?_
    dsimp only
    rw [if_pos ⟨hr, hst, hen, by omega⟩, if_pos ho]
  · exact fun p s hst => does_of_eq rfl (if_neg fun h => hst h.2.1)
  · intro p uv ns s hp hpart hr hst hleb hhigh hpeak hlid
    refine effect_of_eq rfl ((if_pos hp).trans (State.peakTrip_cuts hpart hr hst hleb hhigh hpeak hlid)) ⟨?_, ?_, ?_, ?_, rfl, ?_⟩
    · exact congrArg RailHid.cut (((s.modPh p (fun h => { h with pwm := .low, kept := true })).railH_modRail
        (fun h => { h with cut := true }) hr))
    · exact (State.rd_wr_eq _ _ _ _ (by decide)).trans (Nat.mod_eq_of_lt (show p.val < 2 ^ 6 by omega))
    · exact congrArg PhaseHid.pwm (s.phH_modPh (fun h => { h with pwm := .low, kept := true }) p.isLt)
    · exact congrArg PhaseHid.kept (s.phH_modPh (fun h => { h with pwm := .low, kept := true }) p.isLt)
    · exact fun k hk => State.getW_wr_ne _ _ hk
  · intro p uv ns s hp hout
    refine does_of_eq rfl ((if_pos hp).trans (if_neg ?_))
    rintro ⟨hpart, -, -, hleb, -, -⟩
    obtain hnot | hns := hout
    · simp [hnot] at hpart
    · omega
  · intro p uv ns s hp hpart hrev hhigh hpeak
    refine does_of_eq rfl ((if_neg (by omega)).trans (if_pos ?_))
    simp only [hpart, hhigh, hrev, Bool.true_and, Bool.false_eq_true, if_false, decide_eq_true_eq]
    exact hpeak
  · intro p ma s hp hpart hrev hpwm hma
    refine does_of_eq rfl ((if_neg (by omega)).trans (if_pos ?_))
    have hpulse : ((s.phH p).pwm != .mid) = true := bne_iff_ne.2 hpwm
    simp only [hpart, hpulse, hrev, Bool.true_and, Bool.false_eq_true, if_false, decide_eq_true_eq]
    split <;> omega
  · intro p ma s hp hpart hr hst hpwm hen hfree hma
    refine does_of_eq rfl ((if_pos hp).trans ((if_neg ?_).trans ((if_pos ⟨.inl ⟨hst, hen⟩, decide_eq_true hma⟩).trans (if_neg ?_))))
    · simp [hpart, hr, hpwm]
    · omega
  · intro x s hfull hdue
    exact does_of_eq rfl (if_pos (by simp [hfull, hdue]))
  · exact fun x s hfull => does_of_eq rfl (if_neg (by simp [hfull]))
  · intro x s hx hoff hst hleft
    refine does_of_eq rfl ((if_pos ⟨hst, hleft, by simp [hoff]⟩).trans (if_pos hx))
  · intro x s hx hst hleft
    refine does_of_eq rfl ((if_pos ⟨hst, hleft, by simp [hx]⟩).trans (if_neg (by omega)))
  · intro x s hst hdone hran
    exact effect_of_eq rfl (if_pos ⟨hst, hdone, hran⟩) ⟨by rw [State.rd_wr_eq _ _ _ _ (hic_retry_fits x), Nat.zero_mod], RegsOnly.wr s 0 rfl⟩
  · intro x uv s hdue
    refine ⟨fun hshort => does_of_eq rfl ?_, fun hshort hfull => does_of_eq rfl ?_⟩
    · rw [State.ssCheck, hdue, hshort]
      rfl
    · rw [State.ssCheck, hdue, hshort, hfull]
      rfl
  · intro x uv s hdue
    exact does_of_eq rfl (by rw [State.ssCheck, hdue]; rfl)

end Sys2Proof.Machine
end

section
/-! SUPPORT. TIME and the PPS input. -/

namespace Sys2Proof.Machine

open Sys2Proof

/-! The second kept by a read of the nanoseconds (R475). -/

theorem State.latchOf_setLatch (s : State) (c : Fin 8) (v : Option (Nat × Nat)) : (s.setLatch c v).latchOf c = v := by
  simp [State.latchOf, State.setLatch]

theorem State.secRead_setLatch (s : State) (c : Fin 8) (v : Nat × Nat) : (s.setLatch c (some v)).secRead c = v := by
  rw [State.secRead, State.latchOf_setLatch, Option.getD_some]

/-! Edges of the PPS input (R477, R478). -/

/-- `u` shows the lock, the captured nanoseconds and the last good edge as `s` does. -/
def State.SamePps (s u : State) : Prop :=
  u.bit timeB TIME.STATUS_LOCKED = s.bit timeB TIME.STATUS_LOCKED ∧ u.rd timeB TIME.PPS_CAP_NS_NS = s.rd timeB TIME.PPS_CAP_NS_NS ∧
    u.clk.ppsLast = s.clk.ppsLast

namespace State.SamePps

variable {s t u : State}

theorem refl (s : State) : s.SamePps s := ⟨rfl, rfl, rfl⟩

theorem trans (h1 : s.SamePps t) (h2 : t.SamePps u) : s.SamePps u :=
  ⟨h2.1.trans h1.1, h2.2.1.trans h1.2.1, h2.2.2.trans h1.2.2⟩

theorem of_told {ks : Nat → Prop} (h : Told ks s u) (hstatus : ¬ ks (timeB + 8)) (hcap : ¬ ks (timeB + 0x68)) : s.SamePps u :=
  ⟨h.bit _ _ (by decide) hstatus, h.rd _ _ (by decide) hcap, congrArg (·.clk.ppsLast) h.1⟩

theorem err (s : State) (i ev : Nat) (cls d : Option Nat) : s.SamePps (s.err timeB i ev cls d) :=
  of_told (err_told s timeB i ev cls d) (by decide) (by decide)

theorem timeStep (s : State) (t off : Int) : s.SamePps (s.timeStep t off) := by
  unfold State.timeStep
  generalize hset : (s.setTime t).modClk (fun h => { h with slewLeft := 0, part := 0 }) = u
  have hstep : s.SamePps u := by
    rw [← hset]
    exact ⟨rfl, rfl, rfl⟩
  exact hstep.trans (err u 2 126 _ _)

theorem timeSlew (s : State) (off : Int) : s.SamePps (s.timeSlew off) := ⟨rfl, rfl, rfl⟩

theorem disarm (s : State) : s.SamePps (s.wr timeB TIME.STATUS_SET_ARMED 0) :=
  ⟨State.bit_wr_apart _ _ _ _ _ _ (.inr (by decide)), State.rd_wr_ne _ _ _ _ _ _ (by decide), rfl⟩

end State.SamePps

theorem State.ppsGood_shows (s : State) (lead now : Nat) : (s.ppsGood lead now).bit timeB TIME.STATUS_LOCKED = true ∧
    (s.ppsGood lead now).rd timeB TIME.PPS_CAP_NS_NS = (s.timeTotal + lead) % nsPerS ∧ (s.ppsGood lead now).clk.ppsLast = now := by
  unfold State.ppsGood
  extract_lets first cap ns sec off s1 s2 m step
  have hwritten : s2.bit timeB TIME.STATUS_LOCKED = true ∧ s2.rd timeB TIME.PPS_CAP_NS_NS = cap % nsPerS ∧ s2.clk.ppsLast = now := by
    have hcount := count_told ((((s.wr timeB TIME.STATUS_LOCKED 1).wr timeB TIME.PPS_CAP_NS_NS ns).wr timeB TIME.PPS_CAP_SEC_SEC
      (cap / nsPerS)).wrI timeB TIME.PPS_OFF_OFF off) timeB TIME.PPS_CNT_EDGES TIME.PPS_CNT_EDGES_SAT timeB 4 126
    refine ⟨(hcount.bit _ _ (by decide) (by decide)).trans ?_, (hcount.rd _ _ (by decide) (by decide)).trans ?_, rfl⟩
    · rw [State.wrI, State.bit_wr_apart _ _ _ _ _ _ (.inl (by decide)), State.bit_wr_apart _ _ _ _ _ _ (.inl (by decide)),
        State.bit_wr_apart _ _ _ _ _ _ (.inl (by decide)), State.bit_wr_one _ _ _ (by decide) (by decide)]
    · rw [State.wrI, State.rd_wr_ne _ _ _ _ _ _ (by decide), State.rd_wr_ne _ _ _ _ _ _ (by decide), State.rd_wr_eq _ _ _ _ (by decide)]
      exact Nat.mod_eq_of_lt (Nat.lt_trans (Nat.mod_lt _ (by decide)) (by decide))
  have hkept : ∀ u : State, s2.SamePps u →
      u.bit timeB TIME.STATUS_LOCKED = true ∧ u.rd timeB TIME.PPS_CAP_NS_NS = cap % nsPerS ∧ u.clk.ppsLast = now :=
    fun u h => ⟨h.1.trans hwritten.1, h.2.1.trans hwritten.2.1, h.2.2.trans hwritten.2.2⟩
  apply hkept
  clear_value s2
  split
  · exact (State.SamePps.disarm s2).trans (State.SamePps.timeStep _ _ _)
  split
  · exact State.SamePps.refl s2
  split
  · exact State.SamePps.timeStep _ _ _
  · exact State.SamePps.timeSlew _ _

/-- One edge at the end of its tick. -/
theorem State.ppsEnd_one {s : State} {lead : Nat} (h : s.clk.edges = [lead]) :
    s.ppsEnd = ({ s with clk := { s.clk with edges := [] } }).ppsTake lead := by
  rw [State.ppsEnd, h]
  rfl

theorem State.ppsBad_told (s : State) : Told (fun k => k = timeB + 0x74 ∨ k = timeB + 0xC ∨ k = timeB + 0x18) s s.ppsBad := by
  refine ((count_told s timeB TIME.PPS_CNT_BAD TIME.PPS_CNT_BAD_SAT timeB 4 126).mono fun k hk => ?_).trans
    ((err_told _ timeB 0 126 (some 0) none).mono fun k hk => .inr hk)
  obtain h | h | h | h := hk
  · exact .inl h
  · exact .inl h
  · exact .inr (.inl h)
  · exact .inr (.inr h)

/-- Settles O45. -/
theorem timeRows : Obligations.TimeRows := by
  unfold Obligations.TimeRows
  refine ⟨?_, ?_, ?_, ?_, ?_, ?_, ?_, ?_, fun lead now s => s.ppsGood_shows lead now, ?_, ?_, ?_, ?_⟩
  · intro c s hread
    refine effect_of_eq rfl (if_pos hread) ⟨?_, ?_, rfl, rfl, rfl⟩
    · exact congrArg CtxHid.data ((s.setLatch c _).ctx_modCtx c _)
    · exact s.secRead_setLatch c _
  · intro c s hacc hns
    exact effect_ifWrites_eq hacc rfl ((if_pos rfl).trans (if_pos hns)) ⟨rfl, rfl, rfl⟩
  · intro c s hacc hns
    have htold := err_told s timeB 0 126 (some 0) none
    have hsec := congrArg State.timeSec htold.1
    have hnsec := congrArg State.timeNs htold.1
    exact effect_ifWrites_eq hacc rfl ((if_pos rfl).trans (if_neg (by omega))) ⟨hsec, hnsec, s.bit_err _ _ _ (by decide) (by decide)⟩
  · intro c s hacc
    exact effect_ifWrites_eq hacc rfl rfl ⟨s.bit_wr_one _ _ (by decide) (by decide), RegsOnly.wr s 1 rfl⟩
  · intro c s hacc
    exact effect_ifWrites_eq hacc rfl rfl ⟨s.bit_wr_zero _ _ (by decide), RegsOnly.wr s 0 rfl⟩
  · exact fun lead s hup hvio => does_of_eq rfl (if_pos (by simp [hup, hvio]))
  · exact fun lead s hvio => does_of_eq rfl (if_neg (by simp [hvio]))
  · intro lead s hedges hlocked
    exact (State.ppsEnd_one hedges).trans (if_pos (.inl (congrArg not hlocked)))
  · intro lead s hedges hlocked hearly
    refine (State.ppsEnd_one hedges).trans ((if_neg ?_).trans (if_pos hearly))
    rintro (hfree | ⟨hdue, -⟩)
    · exact Bool.false_ne_true ((congrArg not hlocked).symm.trans hfree)
    · exact Nat.not_le.2 hearly hdue
  · intro s hup hlocked hdue hleft
    refine effect_of_eq rfl ((if_pos ⟨hup, hlocked, hdue⟩).trans (if_neg (by omega))) ⟨rfl, ?_⟩
    exact (s.ppsBad_told.bit _ _ (by decide) (by decide)).trans hlocked
  · intro s hup hlocked hdue hlost
    refine effect_of_eq rfl ((if_pos ⟨hup, hlocked, hdue⟩).trans (if_pos hlost)) ?_
    generalize hcls : some (min 2 (s.rd timeB TIME.CFG_LOSS_CLS)) = cls
    generalize hfree : (State.wr _ timeB TIME.STATUS_LOCKED 0).modClk _ = t
    have htold := err_told t timeB 1 126 cls none
    refine ⟨(congrArg (·.clk.missed) htold.1).trans ?_, (htold.bit _ _ (by decide) (by decide)).trans ?_,
      t.bit_err _ _ _ (by decide) (by decide)⟩
    · rw [← hfree]
      rfl
    · rw [← hfree, State.bit_modClk, State.bit_wr_zero _ _ _ (by decide)]
  · exact fun s hbefore => does_of_eq rfl (if_neg fun h => Nat.not_le.2 hbefore h.2.2)

end Sys2Proof.Machine
end

section
/-! SUPPORT. The two-wire controllers. -/

namespace Sys2Proof.Machine

open Sys2Proof

theorem State.twi_modTwi (s : State) (i : Fin 2) (f : TwiHid → TwiHid) : (s.modTwi i f).twi i = f (s.twi i) := by
  simp [State.twi, State.modTwi]

theorem State.twi_setTwiSt (s : State) (i j : Fin 2) (v : Nat) : (s.setTwiSt i v).twi j = s.twi j := rfl

theorem Told.twi {ks : Nat → Prop} {s u : State} (h : Told ks s u) (i : Fin 2) : u.twi i = s.twi i :=
  congrArg (·.twis[i]) h.1

theorem State.rd_setTwiSt (s : State) (i : Fin 2) {v : Nat} (hv : v < 8) : (s.setTwiSt i v).rd (twiB i) TWI.STATUS_STATE = v :=
  (State.rd_wr_eq s _ TWI.STATUS_STATE v (by decide)).trans (Nat.mod_eq_of_lt hv)

/-- No word of a controller's page but the interrupt header is an interrupt register. -/
theorem intKey_twi (i : Fin 2) {o : Nat} (h : intKey (pg 0x2A + o) = false ∧ intKey (pg 0x2B + o) = false) :
    intKey (twiB i + o) = false := by
  match i with
  | 0 => exact h.1
  | 1 => exact h.2

/-- A transfer that is ready: what its refusal answers. -/
theorem does_twiXfer_ready {t : BitVec 8} {k : Cmd} {l : List TwiTx} {s u : State} (hready : s.Ready t 0x0C k)
    (h : (match s.twRefusal k with
        | some c =>
          if c = 3 then s.twDisabled (twiOf k) k
          else (if c = 0xFE then s else s.twLast (twiOf k) k c 0 none).failK k c
        | none => (s.twBegin k).twRun (twiOf k) k l) = u) : Does (.twiXfer t l) s u := by
  refine does_of_eq rfl ?_
  have hstart := State.start_of hready fun k s =>
    match s.twRefusal k with
    | some c =>
      if c = 3 then s.twDisabled (twiOf k) k
      else (if c = 0xFE then s else s.twLast (twiOf k) k c 0 none).failK k c
    | none => (s.twBegin k).twRun (twiOf k) k l
  obtain ⟨hfind, hop, hphase, -, -, -⟩ := hready
  rw [hfind]
  dsimp only
  rw [if_neg (not_not_intro hop), if_neg (by rw [hphase]; decide)]
  exact hstart.trans h

/-- A lost arbitration with retries left (R488). -/
theorem State.twLost_retries (s : State) (i : Fin 2) (k : Cmd) (bit : Nat) (h : (s.twi i).retries ≠ 0) : (s.twLost i k bit).twi i =
      { s.twi i with retries := (s.twi i).retries - 1, wait := true, n := 0, ins := [] } ∧
    (s.twLost i k bit).rd (twiB i) TWI.STATUS_STATE = 4 ∧ (s.twLost i k bit).rd (twiB i) TWI.LAST_CAUSE = 6 := by
  unfold State.twLost
  dsimp only
  rw [if_neg h]
  generalize hlast : s.twLast i k 6 (s.twi i).n (some bit) = s0
  have hcause : s0.rd (twiB i) TWI.LAST_CAUSE = 6 := by
    rw [← hlast, State.twLast]
    dsimp only
    rw [State.rd_wr_apart _ _ _ _ _ _ (.inr (by decide)), State.rd_wr_apart _ _ _ _ _ _ (.inr (by decide)),
      State.rd_wr_apart _ _ _ _ _ _ (.inr (by decide)), State.rd_wr_eq _ _ _ _ (by decide)]
    rfl
  have htwi : s0.twi i = s.twi i := by
    rw [← hlast]
    rfl
  have herr := err_told s0 (twiB i) 1 (twEv i) (some 0) none
  have hcount := count_told (s0.err (twiB i) 1 (twEv i) (some 0) none) (twiB i) TWI.CNT_ARBLOST TWI.CNT_AL_SAT (twiB i) 8 (twEv i)
  have hint : intKey (twiB i + 0x48) = false := intKey_twi i (by decide)
  generalize (s0.err (twiB i) 1 (twEv i) (some 0) none).count (twiB i) TWI.CNT_ARBLOST TWI.CNT_AL_SAT (twiB i) 8 (twEv i) = s1 at hcount ⊢
  have hshown : s1.rd (twiB i) TWI.LAST_CAUSE = 6 :=
    (hcount.rd _ _ hint (by simp [TWI.LAST_CAUSE, TWI.CNT_ARBLOST, TWI.CNT_AL_SAT])).trans
      ((herr.rd _ _ hint (by simp [TWI.LAST_CAUSE])).trans hcause)
  have hkept : s1.twi i = s.twi i := (hcount.twi i).trans ((herr.twi i).trans htwi)
  refine ⟨by rw [State.twi_setTwiSt, State.twi_modTwi, hkept], State.rd_setTwiSt _ i (by decide), ?_⟩
  exact (State.rd_wr_ne _ _ _ _ _ _ (show twiB i + 0x48 ≠ twiB i + 8 by omega)).trans hshown

/-! The bits of CTRL (R493): RESET and RECOVER. -/

theorem State.twCtrl_reset {s : State} {i : Fin 2} {k : Cmd} (h : s.twCmd i = some k) : s.twCtrl i 1 = s.twFail i k 0xB := by
  have hreset : getBits (1 : Word) 0 1 = 1 := by decide
  have hrecover : getBits (1 : Word) 1 1 ≠ 1 := by decide
  rw [State.twCtrl, if_pos hreset, h]
  exact if_neg fun hr => hrecover hr.1

theorem State.twCtrl_recover (s : State) (i : Fin 2) :
    s.twCtrl i 2 = if s.rd (twiB i) TWI.STATUS_STATE = 1 then s.setTwiSt i 3 else s := by
  have hreset : getBits (2 : Word) 0 1 ≠ 1 := by decide
  have hrecover : getBits (2 : Word) 1 1 = 1 := by decide
  rw [State.twCtrl, if_neg hreset]
  simp only [hrecover, true_and]

/-- Settles O46. -/
theorem twoWireRows : Obligations.TwoWireRows := by
  unfold Obligations.TwoWireRows
  refine ⟨?_, ?_, ?_, ?_, fun i k bit s => s.twLost_retries i k bit, ?_, ?_, ?_, ?_, ?_, ?_, ?_, ?_, ?_, ?_, ?_⟩
  · intro t k l s hready hnone
    exact does_twiXfer_ready hready (by rw [hnone])
  · intro t k l s hready haddr
    have hrefused : s.twRefusal k = some 1 := if_pos haddr
    refine does_twiXfer_ready hready ?_
    rw [hrefused]
    dsimp only
    rw [if_neg (by decide), if_neg (by decide)]
  · intro t k l s hfind hop hphase
    refine does_of_eq rfl ?_
    rw [hfind]
    dsimp only
    rw [if_neg (not_not_intro hop), if_pos hphase]
  · intro k s
    refine ⟨?_, State.rd_setTwiSt _ _ (by decide)⟩
    rw [State.twBegin, State.twi_setTwiSt, State.twi_modTwi, State.twKept]
    cases s.twiGot.find? (fun g => g.1 == k.tag) <;> rfl
  · intro i ns k l s hcmd hwait hfree
    refine does_of_eq rfl ?_
    rw [hcmd]
    exact if_pos ⟨hwait, hfree⟩
  · intro i ns l s hbefore
    refine does_of_eq rfl ?_
    split
    · rfl
    · exact if_neg fun h => Nat.not_le.2 hbefore h.2
  · intro i k s hcmd hpoll
    refine ⟨fun hran => does_of_eq rfl ?_, fun hran => does_of_eq rfl ?_⟩
    · rw [hcmd]
      exact if_pos ⟨hpoll, hran⟩
    · rw [hcmd]
      exact if_neg (by simp [hran])
  · intro i us k s hcmd hwait
    refine ⟨fun hus => does_of_eq rfl ?_, fun hus => does_of_eq rfl ?_⟩
    · rw [hcmd]
      exact if_neg (not_or.2 ⟨by simp [hwait], by omega⟩)
    · rw [hcmd]
      exact if_pos (.inr hus)
  · exact fun i us s hstretch hus => does_of_eq rfl (if_pos ⟨hstretch, hus⟩)
  · intro i us s hquiet
    refine does_of_eq rfl (if_neg ?_)
    rintro ⟨hstretch, hus⟩
    obtain h | h := hquiet
    · simp [h] at hstretch
    · omega
  · exact fun i us freed s hen hdue => does_of_eq rfl (if_pos ⟨hen, hdue⟩)
  · exact fun i us freed s hen => does_of_eq rfl (if_neg (by simp [hen]))
  · exact fun c i k s hacc hcmd => does_ifWrites hacc rfl (State.twCtrl_reset hcmd)
  · intro c i s hacc hst
    refine effect_ifWrites_eq hacc rfl (u := s.setTwiSt i 3) ?_ ⟨s.rd_setTwiSt i (by decide), RegsOnly.wr s 3 rfl⟩
    exact (s.twCtrl_recover i).trans (if_pos hst)
  · exact fun c i s hacc hst => does_ifWrites hacc rfl ((s.twCtrl_recover i).trans (if_neg hst))

end Sys2Proof.Machine
end

section
/-! SUPPORT. The queue and what is known of VIO, kept by every operation of the model. -/

namespace Sys2Proof.Machine

open Sys2Proof

/-- `u` has the queue that `s` has, and knows of VIO what `s` does. -/
structure State.Kept (s u : State) : Prop where
  pending : u.pending = s.pending
  vioOut : u.vioOut = s.vioOut

namespace State.Kept

variable {s t u : State} {α : Type}

-- Elaborated in order: as many short proofs at once would each wait on a thread of its own.
set_option Elab.async false

theorem refl (s : State) : s.Kept s := ⟨rfl, rfl⟩

/-- A change of other fields alone. -/
theorem fields (h : s.Kept t) (hpending : u.pending = t.pending := by rfl) (hvio : u.vioOut = t.vioOut := by rfl) : s.Kept u :=
  ⟨hpending.trans h.pending, hvio.trans h.vioOut⟩

theorem ite {c : Prop} [Decidable c] (h1 : s.Kept t) (h2 : s.Kept u) : s.Kept (if c then t else u) := by
  split
  · exact h1
  · exact h2

theorem ite1 {c : Prop} [Decidable c] {x y : State × α} (h1 : s.Kept x.1) (h2 : s.Kept y.1) : s.Kept (if c then x else y).1 := by
  split
  · exact h1
  · exact h2

theorem ite2 {c : Prop} [Decidable c] {x y : α × State} (h1 : s.Kept x.2) (h2 : s.Kept y.2) : s.Kept (if c then x else y).2 := by
  split
  · exact h1
  · exact h2

theorem foldl {f : State → α → State} {l : List α} (h : s.Kept t) (hf : ∀ u x, s.Kept u → s.Kept (f u x)) : s.Kept (l.foldl f t) := by
  induction l generalizing t with
  | nil => exact h
  | cons a l ih => exact ih (hf t a h)

theorem fst {x : α} (h : s.Kept t) : s.Kept (t, x).1 := h

theorem snd {x : α} (h : s.Kept t) : s.Kept (x, t).2 := h

theorem setW {k v} (h : s.Kept t) : s.Kept (t.setW k v) := h.fields

theorem resetKeys {q} (h : s.Kept t) : s.Kept (t.resetKeys q) := h.fields

theorem nvmPut {a l} (h : s.Kept t) : s.Kept (t.nvmPut a l) := h.fields

theorem nvmErase {a} (h : s.Kept t) : s.Kept (t.nvmErase a) := h.fields

theorem eraseArea {a n} (h : s.Kept t) : s.Kept (t.eraseArea a n) := h.fields

/-! The operations and meanings of Ops, Flags, Arbiter, Complete, Outputs, Modes, Bus. -/

theorem wr {b f v} (h : s.Kept t) : s.Kept (t.wr b f v) := h.setW
theorem wrI {b f v} (h : s.Kept t) : s.Kept (t.wrI b f v) := h.wr
theorem wrB {b f v} (h : s.Kept t) : s.Kept (t.wrB b f v) := h.wr
theorem bump {b f} (h : s.Kept t) : s.Kept (t.bump b f) := ite h.wr h.wr
theorem draw (h : s.Kept t) : s.Kept t.draw.2 := h.fields
theorem mark {k} (h : s.Kept t) : s.Kept (t.mark k) := h.fields
theorem markAgo {k us} (h : s.Kept t) : s.Kept (t.markAgo k us) := h.fields
theorem unmark {k} (h : s.Kept t) : s.Kept (t.unmark k) := h.fields
theorem putOff {c} (h : s.Kept t) : s.Kept (t.putOff c) := h.fields
theorem each {l f} (h : s.Kept t) (hf : ∀ i u, s.Kept u → s.Kept (f i u)) : s.Kept (t.each l f) := h.foldl fun _ _ h => hf _ _ h
theorem iff {b f} (h : s.Kept t) (hf : ∀ u, s.Kept u → s.Kept (f u)) : s.Kept (t.iff b f) := ite (hf _ h) h
theorem modCtx {c f} (h : s.Kept t) : s.Kept (t.modCtx c f) := h.fields
theorem answer {c d} (h : s.Kept t) : s.Kept (t.answer c d) := h.modCtx
theorem intPut {n off e b} (h : s.Kept t) : s.Kept (t.intPut n off e b) := h.setW

theorem intRefresh {c} (h : s.Kept t) : s.Kept (t.intRefresh c) := by
  unfold State.intRefresh
  extract_lets _ _ s1
  have hs1 : s.Kept s1 := by
    unfold s1
    split
    · exact h.wr.wr
    · exact h.wr.wr
  exact hs1.wrB.wrB

theorem edgeIn {e again c} (h : s.Kept t) : s.Kept (t.edgeIn e again c) := ite ((ite h.intPut h).intPut.intRefresh) h
theorem edge {e} (h : s.Kept t) : s.Kept (t.edge e) := ite (h.foldl (fun _ _ h => h.edgeIn)) h

theorem irq {b i ev} (h : s.Kept t) : s.Kept (t.irq b i ev) := by
  unfold State.irq
  extract_lets _ _ s1
  have hs1 : s.Kept s1 := h.fields
  exact ite hs1.edge hs1

theorem post {ev cls detail} (h : s.Kept t) : s.Kept (t.post ev cls detail) := h.fields
theorem errQ {b i ev} (h : s.Kept t) : s.Kept (t.errQ b i ev) := h.wr.irq
theorem err {b i ev cls detail} (h : s.Kept t) : s.Kept (t.err b i ev cls detail) := ite h.errQ (ite h.errQ h.errQ.post)
theorem count {b f sat pb i ev} (h : s.Kept t) : s.Kept (t.count b f sat pb i ev) := ite h.bump.wr.err h.bump
theorem setRepl {f b} (h : s.Kept t) : s.Kept (t.setRepl f b) := h.wrB.wrB
theorem setGrant {r g} (h : s.Kept t) : s.Kept (t.setGrant r g) := h.fields
theorem setQueue {g q} (h : s.Kept t) : s.Kept (t.setQueue g q) := h.fields
theorem arbShow (h : s.Kept t) : s.Kept t.arbShow := (h.each (fun _ _ h => h.wr.wr.wrB)).each fun _ _ h => h.wrB.wrB.wrB.wrB
theorem request {g who org age prog} (h : s.Kept t) : s.Kept (t.request g who org age prog) := h.setQueue.arbShow
theorem setCmd {c} (h : s.Kept t) : s.Kept (t.setCmd c) := h.fields

theorem askNext {c} (h : s.Kept t) : s.Kept (t.askNext c) := by
  unfold State.askNext
  split
  · exact h
  · exact h.setCmd.request

theorem dropOrg {p} (h : s.Kept t) : s.Kept (t.dropOrg p) := by
  unfold State.dropOrg
  extract_lets s1 _
  have hs1 : s.Kept s1 := h.each (fun _ _ h => by
    split
    · exact ite h.setGrant h
    · exact h)
  exact (hs1.each (fun _ _ h => h.setQueue)).arbShow

theorem give {r q} (h : s.Kept t) : s.Kept (t.give r q) := by
  unfold State.give
  extract_lets _ s1
  have hs1 : s.Kept s1 := h.setGrant.setQueue
  split
  · exact hs1.arbShow
  · exact hs1.wr.irq.arbShow
  · split
    · exact hs1.askNext.arbShow
    · exact hs1.arbShow

theorem arbServe {g} (h : s.Kept t) : s.Kept (t.arbServe g) := by
  unfold State.arbServe
  split
  · exact h.give
  · exact h

theorem revoke {r prog again} (h : s.Kept t) : s.Kept (t.revoke r prog again) := by
  unfold State.revoke
  extract_lets s1 _ s2
  have hs1 : s.Kept s1 := h.count
  clear_value s1
  have hs2 : s.Kept s2 := hs1.setGrant
  clear_value s2
  split
  · exact h
  · split
    · extract_lets s2'
      have hs2' : s.Kept s2' := hs1.dropOrg
      clear_value s2'
      split
      · exact hs1.setGrant.arbShow
      · extract_lets s3
        have hs3 : s.Kept s3 := hs2'.setCmd
        clear_value s3
        split
        · exact hs3
        · exact hs3.setQueue.arbShow
    · extract_lets s3' s4
      have hs3' : s.Kept s3' := ite hs2.setQueue hs2
      clear_value s3'
      have hs4 : s.Kept s4 := ite hs3'.wr.irq hs3'
      clear_value s4
      exact hs4.arbShow

theorem yield {k done} (h : s.Kept t) : s.Kept (t.yield k done) := by
  unfold State.yield
  split
  · exact h.setCmd.revoke.arbServe
  · exact h

theorem engineAsk {g who} (h : s.Kept t) : s.Kept (t.engineAsk g who) := ite h h.request
theorem engineDone {r who} (h : s.Kept t) : s.Kept (t.engineDone r who) := ite h.setGrant.arbShow h
theorem setDbuf {c i b} (h : s.Kept t) : s.Kept (t.setDbuf c i b) := h.setW

theorem putDbuf {c i l} (h : s.Kept t) : s.Kept (t.putDbuf c i l) := by
  induction l generalizing t i with
  | nil => exact h
  | cons b l ih => exact ih h.setDbuf

theorem ringIrq {c} (h : s.Kept t) : s.Kept (t.ringIrq c) := ite h.modCtx.edge h.modCtx

theorem writeCpl {c cookie st tag quiet res} (h : s.Kept t) : s.Kept (t.writeCpl c cookie st tag quiet res) :=
  h.setW.setW.wr.wr.count.modCtx.ringIrq

theorem completeB {k st res ofs bytes} (h : s.Kept t) : s.Kept (t.completeB k st res ofs bytes) := by
  unfold State.completeB
  extract_lets s1 _ _
  have hs1 : s.Kept s1 := h.fields.iff fun _ h => h.wr
  exact (ite hs1.putDbuf.writeCpl hs1.err).wr.wr.dropOrg

theorem complete {k st res} (h : s.Kept t) : s.Kept (t.complete k st res) := h.completeB
theorem doneK {k res} (h : s.Kept t) : s.Kept (t.doneK k res) := h.complete
theorem failK {k cause} (h : s.Kept t) : s.Kept (t.failK k cause) := h.complete
theorem failFree {k} (h : s.Kept t) : s.Kept (t.failFree k) := h.draw.failK
theorem runK {k} (h : s.Kept t) : s.Kept (t.runK k) := h.setCmd

theorem start {tag op f} (h : s.Kept t) (hf : ∀ i u, s.Kept u → s.Kept (f i u)) : s.Kept (t.start tag op f) := by
  unfold State.start
  split
  · exact h
  · exact ite (hf _ _ h) h

theorem endRunning {op st res p} (h : s.Kept t) : s.Kept (t.endRunning op st res p) := h.foldl fun _ _ h => h.complete
theorem modTwi {i f} (h : s.Kept t) : s.Kept (t.modTwi i f) := h.fields
theorem setTwiSt {i v} (h : s.Kept t) : s.Kept (t.setTwiSt i v) := h.wr
theorem twRest {i} (h : s.Kept t) : s.Kept (t.twRest i) := h.modTwi.setTwiSt
theorem refuseWaiting {m} (h : s.Kept t) : s.Kept (t.refuseWaiting m) := h.foldl fun _ _ h => ite h.complete h.complete
theorem abortRunning (h : s.Kept t) : s.Kept t.abortRunning := ite (h.foldl (fun _ _ h => ite h.complete.twRest h.complete)) h
theorem modRail {n f} (h : s.Kept t) : s.Kept (t.modRail n f) := h.fields
theorem modSheaf {n f} (h : s.Kept t) : s.Kept (t.modSheaf n f) := h.fields
theorem modPh {p f} (h : s.Kept t) : s.Kept (t.modPh p f) := h.fields
theorem modBuck {n f} (h : s.Kept t) : s.Kept (t.modBuck n f) := h.fields
theorem modOut {x f} (h : s.Kept t) : s.Kept (t.modOut x f) := h.fields

theorem setEn {x b} (h : s.Kept t) : s.Kept (t.setEn x b) := by
  unfold State.setEn
  split
  · exact h.wrB
  · exact h.wrB
  · exact h.wrB
  · exact h.wrB

theorem setOutSt {x v} (h : s.Kept t) : s.Kept (t.setOutSt x v) := by
  unfold State.setOutSt
  split
  · exact h.wr
  · exact h.wr.wrB
  · exact h.wr.wrB
  · exact h.wr.wrB

theorem setSupv {off x b} (h : s.Kept t) : s.Kept (t.setSupv off x b) := h.setW
theorem allPg (h : s.Kept t) : s.Kept t.allPg := h.wrB
theorem setPair {off x b} (h : s.Kept t) : s.Kept (t.setPair off x b) := ite h.setSupv.setSupv h.setSupv
theorem setPg {x b} (h : s.Kept t) : s.Kept (t.setPg x b) := h.setPair.allPg
theorem anyShow (h : s.Kept t) : s.Kept t.anyShow := h.wrB.wrB

theorem setRef {x v} (h : s.Kept t) : s.Kept (t.setRef x v) := by
  unfold State.setRef
  split
  · exact h.wr
  · exact h.modBuck
  · exact h

theorem setSlewing {x b} (h : s.Kept t) : s.Kept (t.setSlewing x b) := by
  unfold State.setSlewing
  split
  · exact h.wrB
  · exact h.wrB
  · exact h

theorem endMoves {x st res} (h : s.Kept t) : s.Kept (t.endMoves x st res) := h.foldl fun _ _ h => h.complete
theorem endWaits {x} (h : s.Kept t) : s.Kept (t.endWaits x) := h.foldl fun _ _ h => h.complete

theorem slewDone {x} (h : s.Kept t) : s.Kept (t.slewDone x) := by
  unfold State.slewDone
  extract_lets s1 _
  have hs1 : s.Kept s1 := h.setSlewing.mark.endWaits
  split
  · exact ite hs1.modRail.irq hs1.modRail
  · exact hs1.modBuck
  · exact hs1

theorem waitSample {x} (h : s.Kept t) : s.Kept (t.waitSample x) := h.fields
theorem lidAbort {n cause} (h : s.Kept t) : s.Kept (t.lidAbort n cause) := ite h.wr.wr.wr.err.endRunning h

theorem retarget {x} (h : s.Kept t) : s.Kept (t.retarget x) := by
  unfold State.retarget
  extract_lets _ _ _ _ s1 s2
  have hs1 : s.Kept s1 := ite (ite h.wrB.errQ h.wrB) h
  have hs2 : s.Kept s2 := ite hs1.lidAbort hs1
  exact ite hs2 (ite hs2.slewDone hs2.modOut.setSlewing)

theorem phRest {p st} (h : s.Kept t) : s.Kept (t.phRest p st) := h.wr.wr.wr.modPh
theorem sheafRest {r} (h : s.Kept t) : s.Kept (t.sheafRest r) := (h.each (fun _ _ h => h.phRest)).wr.wr.wr.wr.wr.modSheaf.wr
theorem protLast {n cause} (h : s.Kept t) : s.Kept (t.protLast n cause) := h.wr.wr
theorem discharge {x} (h : s.Kept t) : s.Kept (t.discharge x) := ite (ite h.protLast (ite h.modOut h.protLast.err)) (ite h.modOut.modOut h.modOut)
theorem margClear {x} (h : s.Kept t) : s.Kept (t.margClear x) := ite h.wr.wr.wr.wr h
theorem margAny (h : s.Kept t) : s.Kept t.margAny := h.wrB
theorem buckRest {x} (h : s.Kept t) : s.Kept (t.buckRest x) := h.wr.wr.wr.modBuck

theorem outStop {x st} (h : s.Kept t) : s.Kept (t.outStop x st) := by
  unfold State.outStop
  extract_lets s0 a _ _ _ c s1
  have hs0 : s.Kept s0 := h.setOutSt.endMoves
  have ha : s.Kept a := hs0.sheafRest.wr.wr.wr.wr
  have hc : s.Kept c := (ite hs0.wr.wr.wr hs0.wr).wr.wr.modBuck.buckRest
  have hs1 : s.Kept s1 := by
    unfold s1
    split
    · exact (ite ha.wr.wr ha).wr.modRail
    · exact ite hc.buckRest hc
    · exact hs0.wr.wr.wr.wr.wr
    · exact hs0.wr.wr.wr.modOut
  exact hs1.setSlewing.modOut.anyShow.setPg

theorem outDown {x how} (h : s.Kept t) : s.Kept (t.outDown x how) := by
  unfold State.outDown
  extract_lets _ s2 s3 _
  have hs2 : s.Kept s2 := (ite h.lidAbort h).setEn.outStop
  have hs3 : s.Kept s3 := ite hs2.margClear.margAny hs2
  exact ite hs3 hs3.fields

theorem outOff {x how} (h : s.Kept t) : s.Kept (t.outOff x how) := ite h.outDown.discharge h.outDown

theorem outLatch {x} (h : s.Kept t) : s.Kept (t.outLatch x) := by
  unfold State.outLatch
  extract_lets _ _ s2 s3
  have hs2 : s.Kept s2 := (ite h.lidAbort h).outStop.margClear.margAny
  have hs3 : s.Kept s3 := ite hs2 hs2.fields
  exact ite hs3.discharge hs3

theorem safeState {x} (h : s.Kept t) : s.Kept (t.safeState x) := by
  unfold State.safeState
  extract_lets s' _ s1
  have hs' : s.Kept s' := (h.iff (fun _ h => h.mark)).iff fun _ h => h.mark
  have hs1 : s.Kept s1 := ite hs'.setEn (by
    split
    · exact hs'.outDown.protLast
    · exact hs'.outDown.wr
    · exact hs'.outDown)
  exact ite hs1.discharge hs1

theorem ldo0Ka (h : s.Kept t) : s.Kept t.ldo0Ka := h.wr.wr
theorem forceGroup {g} (h : s.Kept t) : s.Kept (t.forceGroup g) := h.each fun _ _ h => ite h.safeState h
theorem islandsUp (h : s.Kept t) : s.Kept t.islandsUp := h.fields.wr.wr.wr.wr
theorem wakeCfg (h : s.Kept t) : s.Kept t.wakeCfg := h.fields

theorem wakeReset {fromParked} (h : s.Kept t) : s.Kept (t.wakeReset fromParked) := by
  unfold State.wakeReset
  extract_lets _ _ s1 _
  have hs1 : s.Kept s1 := ite h.fields h.fields
  exact hs1.fields

theorem leaveMode (h : s.Kept t) : s.Kept t.leaveMode := by
  unfold State.leaveMode
  extract_lets _ _ s2 _ _
  have hs2 : s.Kept s2 := ((h.each (fun _ _ h => h.lidAbort)).each (fun _ _ h => ite h h.wr.retarget)).iff fun _ h => h.mark
  exact ite hs2.fields.wr.margAny.wr.wr.wr (ite h.wr (ite h.wr (ite h.wr.wr.wr.wr h)))

theorem setMode {new cause} (h : s.Kept t) : s.Kept (t.setMode new cause) := by
  unfold State.setMode
  extract_lets _ s0 _ s1
  have hs0 : s.Kept s0 := h.leaveMode.wr.wr
  have hs1 : s.Kept s1 := ite hs0.fields hs0
  exact ite hs1 hs1.irq.post

theorem modBus {f} (h : s.Kept t) : s.Kept (t.modBus f) := h.fields
theorem setPort {p v} (h : s.Kept t) : s.Kept (t.setPort p v) := h.wr
theorem busRejoin (h : s.Kept t) : s.Kept t.busRejoin := h.each fun _ _ h => ite h.phRest h

theorem takeOuter {st} (h : s.Kept t) : s.Kept (t.takeOuter st) := by
  unfold State.takeOuter
  extract_lets _ _ s1
  have hs1 : s.Kept s1 := h.wr.modBus
  exact ite hs1 (ite hs1.modBus hs1.modBus)

theorem setBus {st} (h : s.Kept t) : s.Kept (t.setBus st) := by
  unfold State.setBus
  extract_lets _ _ _ s3
  have hs3 : s.Kept s3 := (h.wr.wr.takeOuter.mark.each (fun _ _ h => h.modPh)).modBus
  exact ite hs3.wr.wr.wr.modBus hs3

theorem busTryStart (h : s.Kept t) : s.Kept t.busTryStart := ite (ite h.modBus.setBus h.busRejoin.setBus) h
theorem endCause {cause} (h : s.Kept t) : s.Kept (t.endCause cause) := ite h h.wr.modBus
theorem unblock (h : s.Kept t) : s.Kept t.unblock := h.each fun _ _ h => ite h.setPort h
theorem sessionClose (h : s.Kept t) : s.Kept t.sessionClose := ite h.wr.irq.unmark.post.endRunning.endRunning.modBus.unblock h
theorem ornOff {v} (h : s.Kept t) : s.Kept (t.ornOff v) := ite h h.wr
theorem endSession {cause} (h : s.Kept t) : s.Kept (t.endSession cause) := ite (ite h.endCause.setBus (ite h.endCause.ornOff.setBus h.endCause)) h

theorem fastEnd {cause orn} (h : s.Kept t) : s.Kept (t.fastEnd cause orn) := by
  unfold State.fastEnd
  extract_lets s1
  have hs1 : s.Kept s1 := h.endCause.ornOff
  exact ite ((ite hs1 hs1.setBus).err) h

theorem busOff (h : s.Kept t) : s.Kept t.busOff := by
  unfold State.busOff
  extract_lets s1
  have hs1 : s.Kept s1 := h.wr.fastEnd
  clear_value s1
  exact hs1.ornOff.setBus.sessionClose.modBus

theorem busWatch (h : s.Kept t) : s.Kept t.busWatch := by
  unfold State.busWatch
  extract_lets _ _ s1
  have hs1 : s.Kept s1 := ite (ite h h.fastEnd) (ite h.endSession h)
  exact ite hs1.setBus (ite hs1.busTryStart hs1)

theorem buscPor (h : s.Kept t) : s.Kept t.buscPor := h.resetKeys.wr.wr.wr
theorem pathStart {mv} (h : s.Kept t) : s.Kept (t.pathStart mv) := h.modBus.setBus.wr.wr
theorem pathStop (h : s.Kept t) : s.Kept t.pathStop := h.setBus.wr

theorem busPark (h : s.Kept t) : s.Kept t.busPark := by
  unfold State.busPark
  extract_lets _ _ _ s1
  have hs1 : s.Kept s1 := h.endCause.ornOff.sessionClose.buscPor.modBus
  exact ite hs1.pathStop (ite hs1 (ite hs1.setBus hs1.pathStart))

theorem busWake (h : s.Kept t) : s.Kept t.busWake := by
  unfold State.busWake
  extract_lets s1
  have hs1 : s.Kept s1 := h.each fun _ _ h => h.wr
  exact ite hs1.setBus hs1

theorem feedsRefresh (h : s.Kept t) : s.Kept t.feedsRefresh.1 := ite1 h.wrB.err h.wrB
theorem setLost {p b} (h : s.Kept t) : s.Kept (t.setLost p b) := h.modBus
theorem setPrev {p v} (h : s.Kept t) : s.Kept (t.setPrev p v) := h.modBus
theorem holdPort {p} (h : s.Kept t) : s.Kept (t.holdPort p) := ite h.setPort (ite h.setPrev h)
theorem setBlock {p b} (h : s.Kept t) : s.Kept (t.setBlock p b) := ite (ite h.wr.holdPort.busWatch h.err) (ite h.wr.setPort.busWatch h.wr)
theorem setNEn {b} (h : s.Kept t) : s.Kept (t.setNEn b) := ite (ite h.wrB.wr h.wrB) h.wrB.endSession.wr
theorem busTouched (h : s.Kept t) : s.Kept t.busTouched := ite h.setBus h

theorem vbusOv (h : s.Kept t) : s.Kept t.vbusOv := by
  unfold State.vbusOv
  extract_lets s1
  have hs1 : s.Kept s1 := h.modBus.errQ
  exact ite hs1.setBus hs1.fastEnd

theorem busRemove {p} (h : s.Kept t) : s.Kept (t.busRemove p) := h.phRest.wr.wr

theorem busShort (h : s.Kept t) : s.Kept t.busShort := by
  unfold State.busShort
  extract_lets _ s1 _ _
  have hs1 : s.Kept s1 := ite h.endSession h
  exact ite (ite hs1.err.setBus hs1.err) hs1

/-! The operations and meanings of Charger, Sheaf, Rails, Regs. -/

theorem modChg {f} (h : s.Kept t) : s.Kept (t.modChg f) := h.fields

theorem setChg {c} (h : s.Kept t) : s.Kept (t.setChg c) := by
  unfold State.setChg
  extract_lets s1 s2
  have hs1 : s.Kept s1 := h.wr.modChg
  have hs2 : s.Kept s2 := ite hs1.modChg hs1
  exact ite hs2.wr hs2

theorem safeZero (h : s.Kept t) : s.Kept t.safeZero := h.wr.modChg
theorem phaseZero (h : s.Kept t) : s.Kept t.phaseZero := h.wr.modChg
theorem restZero (h : s.Kept t) : s.Kept t.restZero := h.modChg
theorem toCC (h : s.Kept t) : s.Kept t.toCC := h.safeZero.setChg
theorem chgErr {bit cause} (h : s.Kept t) : s.Kept (t.chgErr bit cause) := h.wr.err
theorem chgCount {f sat} (h : s.Kept t) : s.Kept (t.chgCount f sat) := h.count
theorem onFe2 {i f} (h : s.Kept t) (hf : ∀ u, s.Kept u → s.Kept (f u)) : s.Kept (t.onFe2 i f) := ite (hf _ h) (ite h.putOff h)
theorem chgAbsent {cause} (h : s.Kept t) : s.Kept (t.chgAbsent cause) := h.wr.setChg.modChg.restZero.busWatch

theorem chgWatch (h : s.Kept t) : s.Kept t.chgWatch := by
  unfold State.chgWatch
  extract_lets _ _ s1 _
  have hs1 : s.Kept s1 := h.modChg.wr
  exact ite (ite hs1.chgAbsent (ite hs1.wr.setChg (ite hs1.restZero.setChg (ite hs1.setChg hs1)))) h

theorem chgEn {b} (h : s.Kept t) : s.Kept (t.chgEn b) := h.wrB.chgWatch
theorem chgFound (h : s.Kept t) : s.Kept t.chgFound := h.safeZero.phaseZero.restZero.wr.setChg.modChg.irq.busWatch
theorem chgLeaveAbsent (h : s.Kept t) : s.Kept t.chgLeaveAbsent := ite (ite h.wr (ite h.wr.setChg.err.busWatch h.chgFound)) h
theorem zoneRefresh (h : s.Kept t) : s.Kept t.zoneRefresh := h.wr.chgWatch

theorem safeTick (h : s.Kept t) : s.Kept t.safeTick := by
  unfold State.safeTick
  extract_lets _ _ _ s2
  have hs2 : s.Kept s2 := h.wrB.modChg
  exact ite (ite hs2.bump hs2) h.wrB

theorem phaseTick (h : s.Kept t) : s.Kept t.phaseTick := ite (ite h.modChg.bump h.modChg) h
theorem restTick {vcell} (h : s.Kept t) : s.Kept (t.restTick vcell) := ite h.modChg (ite h.modChg h)

theorem spanTick {vcell} (h : s.Kept t) : s.Kept (t.spanTick vcell) := by
  unfold State.spanTick
  extract_lets s1 _
  have hs1 : s.Kept s1 := h.modChg
  clear_value s1
  exact hs1.modChg

theorem countTick (h : s.Kept t) : s.Kept t.countTick := ite h.modChg.bump h.modChg
theorem llTick (h : s.Kept t) : s.Kept t.llTick := ite (ite h.modChg.chgCount h.modChg) h

theorem chgTick {vbsn} (h : s.Kept t) : s.Kept (t.chgTick vbsn) := by
  unfold State.chgTick
  extract_lets s' _
  have hs' : s.Kept s' := ite h.llTick h
  exact ite hs'.wr.safeTick.phaseTick.restTick.spanTick.countTick.zoneRefresh hs'

theorem qualifyEnd {vbsn} (h : s.Kept t) : s.Kept (t.qualifyEnd vbsn) := ite ((ite h.wr.setChg (ite h.wr.phaseZero.setChg h.wr.toCC)).chgWatch) h
theorem chgStep {i fr f} (h : s.Kept t) (hf : ∀ u, s.Kept u → s.Kept (f u)) : s.Kept (t.chgStep i fr f) := h.onFe2 fun _ h => ite (hf _ h) h
theorem chgTimeout {cause} (h : s.Kept t) : s.Kept (t.chgTimeout cause) := h.setChg.chgErr
theorem terminate (h : s.Kept t) : s.Kept t.terminate := ite (ite h.setChg h.phaseZero.setChg.post) h
theorem safeExpiry (h : s.Kept t) : s.Kept t.safeExpiry := ite h.terminate (ite h.chgTimeout h)
theorem topoffDone (h : s.Kept t) : s.Kept t.topoffDone := h.setChg.chgCount.irq
theorem recharge (h : s.Kept t) : s.Kept t.recharge := h.toCC.chgCount
theorem restStart (h : s.Kept t) : s.Kept t.restStart := h.wr.restZero.setChg
theorem restEnd (h : s.Kept t) : s.Kept t.restEnd := h.wr.wr.modChg.irq.post.restZero.setChg
theorem packAbsence {i found} (h : s.Kept t) : s.Kept (t.packAbsence i found) := ite (h.modChg.onFe2 (fun _ h => h.chgErr.chgAbsent)) h
theorem packOv {i found} (h : s.Kept t) : s.Kept (t.packOv i found) := ite (h.modChg.onFe2 (fun _ h => h.modChg.restZero.setChg.chgErr)) h
theorem ntcShort (h : s.Kept t) : s.Kept t.ntcShort := ite h.restZero.setChg.chgErr h
theorem ntcClass {mv us} (h : s.Kept t) : s.Kept (t.ntcClass mv us) := ite h.wr.modChg (ite h h.wr.mark.modChg)

theorem terms {vbsn} (h : s.Kept t) : s.Kept (t.terms vbsn) := by
  unfold State.terms
  extract_lets s1 _ _
  have hs1 : s.Kept s1 := ite h.modChg h
  exact (ite hs1.modChg hs1).wrB.wrB

theorem chgAct {a} (h : s.Kept t) : s.Kept (t.chgAct a) :=
  ite h.wr.chgWatch (ite h.wr.chgWatch (ite (ite h.safeZero.phaseZero.restZero.wr.setChg h) (ite h.restStart h.recharge)))

theorem chgCtrl {tag a} (h : s.Kept t) : s.Kept (t.chgCtrl tag a) :=
  h.start (fun _ _ h => by
    extract_lets _ _
    exact ite (by
      split
      · exact h.failK
      · exact (ite h h.wr).chgAct.doneK) h)

theorem weigh {p w} (h : s.Kept t) : s.Kept (t.weigh p w) := h.wr
theorem trimZero {p} (h : s.Kept t) : s.Kept (t.trimZero p) := h.wr
theorem phActive {p} (h : s.Kept t) : s.Kept (t.phActive p) := h.wr.weigh.modPh
theorem countM {r} (h : s.Kept t) : s.Kept (t.countM r) := h.wr.wr
theorem lidStale {n} (h : s.Kept t) : s.Kept (t.lidStale n) := h.modRail
theorem countSpares {r} (h : s.Kept t) : s.Kept (t.countSpares r) := h.wr

theorem sheafStart {r} (h : s.Kept t) : s.Kept (t.sheafStart r) :=
  (((h.each (fun _ _ h => h.phActive.trimZero)).each (fun _ _ h => h.phRest)).each (fun _ _ h => h.phRest)).modSheaf.countSpares.countM

theorem fillSlots {r} (h : s.Kept t) : s.Kept (t.fillSlots r) :=
  h.foldl (fun _ _ h => by
    extract_lets _ _
    exact ite h (by
      split
      · exact h.wr.wr.phRest.lidStale
      · exact ite h h.wr.lidStale))

theorem dutySet {n} (h : s.Kept t) : s.Kept (t.dutySet n) := h.each fun _ _ h => h.modPh
theorem shCount {r f sat} (h : s.Kept t) : s.Kept (t.shCount r f sat) := h.count
theorem goFull {r} (h : s.Kept t) : s.Kept (t.goFull r) := (h.each (fun _ _ h => ite h.phActive.trimZero h)).wr.wr.wr.modSheaf.mark.dutySet
theorem comeBack {r} (h : s.Kept t) : s.Kept (t.comeBack r) := ite ((h.each (fun _ _ h => ite h h.phActive.trimZero)).modSheaf) h
theorem shedAbort {r red cause} (h : s.Kept t) : s.Kept (t.shedAbort r red cause) := ite h.goFull.shCount.post (ite h.goFull h)
theorem fireOut {r n high low} (h : s.Kept t) : s.Kept (t.fireOut r n high low) := (h.each (fun _ _ h => h.modPh)).wr
theorem shedBegin {r k} (h : s.Kept t) : s.Kept (t.shedBegin r k) := (h.each (fun _ _ h => h.wr.trimZero.modPh)).wr.wr.modSheaf.countM
theorem addBegin {r} (h : s.Kept t) : s.Kept (t.addBegin r) := (h.each (fun _ _ h => h.wr.weigh.trimZero.modPh)).wr.wr.modSheaf.countM
theorem shedEnd {r} (h : s.Kept t) : s.Kept (t.shedEnd r) := (h.each (fun _ _ h => h.phRest)).wr.wr.wr.modSheaf.countM
theorem addEnd {r} (h : s.Kept t) : s.Kept (t.addEnd r) := (h.each (fun _ _ h => h.phActive.trimZero)).wr.wr.wr.modSheaf.countM
theorem noSlot {r} (h : s.Kept t) : s.Kept (t.noSlot r) := ite h.outLatch.protLast.post h

theorem substitute {r p q slot ang} (h : s.Kept t) : s.Kept (t.substitute r p q slot ang) := by
  unfold State.substitute
  extract_lets s1 _
  have hs1 : s.Kept s1 := h.wr.wr.setRepl
  exact (ite hs1.phRest (ite hs1.phActive.trimZero.modPh.modSheaf.dutySet hs1.phRest.modSheaf)).countSpares

theorem removePhase {p cls} (h : s.Kept t) : s.Kept (t.removePhase p cls) := by
  unfold State.removePhase
  extract_lets _ _ _ _ _ _ s1 s2 s3 _
  have hs1 : s.Kept s1 := h.wr.phRest
  have hs2 : s.Kept s2 := hs1.protLast.wr
  have hs3 : s.Kept s3 := hs2.shedAbort.lidStale
  exact ite h (ite hs1.err (ite hs2.err.lidAbort.countSpares.setRepl (by
    split
    · exact hs3.lidAbort.err.substitute
    · exact hs3.lidAbort.err.wr.errQ.noSlot)))

theorem identify {g imon} (h : s.Kept t) : s.Kept (t.identify g imon) := by
  unfold State.identify
  extract_lets _ s' _ _ s1 _ _ _ _ _ _ s4
  have hs1 : s.Kept s1 := (h.each (fun _ _ h => h.modPh)).wr
  have hs4 : s.Kept s4 := ((ite hs1.errQ hs1).each (fun _ _ h => h.errQ)).each fun _ _ h => ite h.removePhase (ite h h.busRemove.err)
  exact ite hs4.busShort hs4

theorem identifyRail {r imon} (h : s.Kept t) : s.Kept (t.identifyRail r imon) := h.each fun _ _ h => h.identify

theorem restorePhases (h : s.Kept t) : s.Kept t.restorePhases :=
  ite h ((h.fields.each (fun _ _ h => ite h.wr.wr.wr.phRest.lidStale h)).each (fun _ _ h => h.wr.countSpares.iff (fun _ h => h.modSheaf)))

theorem respread {r} (h : s.Kept t) : s.Kept (t.respread r) := by
  unfold State.respread
  extract_lets _ _ s1 _
  have hs1 : s.Kept s1 := h.each (fun _ _ h => by
    split
    · exact h.modPh
    · exact h)
  exact ite h hs1.wr.modSheaf.countM

theorem balance {r imv} (h : s.Kept t) : s.Kept (t.balance r imv) := h.foldl fun _ _ h => h.wrI.wrI.modPh
theorem count0 {b f sat ev} (h : s.Kept t) : s.Kept (t.count0 b f sat ev) := ite h.bump.wr.post h.bump

theorem undischarge {x} (h : s.Kept t) : s.Kept (t.undischarge x) := by
  unfold State.undischarge
  extract_lets s1
  have hs1 : s.Kept s1 := h.wr.modOut
  exact ite hs1.modOut hs1

theorem railSoft {n n0 vt late} (h : s.Kept t) : s.Kept (t.railSoft n n0 vt late) := by
  unfold State.railSoft
  extract_lets _ s1
  have hs1 : s.Kept s1 := h.setOutSt.setRef.wr.sheafStart
  clear_value s1
  exact hs1.modRail

theorem ssDone {x} (h : s.Kept t) : s.Kept (t.ssDone x) := by
  unfold State.ssDone
  extract_lets s'
  have hs' : s.Kept s' := h.mark.mark
  split
  · exact hs'.setOutSt.wr.retarget.irq
  · exact hs'.setOutSt.wr.retarget
  · exact hs'.setOutSt.wr.endWaits
  · exact hs'.setOutSt

theorem railEnable {n imon} (h : s.Kept t) : s.Kept (t.railEnable n imon) := by
  unfold State.railEnable
  extract_lets _ s2
  have hs2 : s.Kept s2 := h.wr.undischarge.identifyRail
  exact ite h.wr (ite h.wr.wr.err (ite (ite hs2.noSlot hs2) (ite hs2.setOutSt.modRail hs2.railSoft)))

theorem railPrebias {n v} (h : s.Kept t) : s.Kept (t.railPrebias n v) := ite (ite h.railSoft.setRef h.railSoft.setRef.ssDone.err) h

theorem refSample {n} (h : s.Kept t) : s.Kept (t.refSample n) := by
  unfold State.refSample
  extract_lets _ _ _ s1 _ _ _ _ s1'
  have hs1 : s.Kept s1 := h.setRef.modRail
  have hs1' : s.Kept s1' := h.setRef.setSlewing.modRail
  exact ite (ite hs1.ssDone hs1) (ite h (ite hs1'.slewDone hs1'))

theorem copyBank {n fr dst} (h : s.Kept t) : s.Kept (t.copyBank n fr dst) := h.setW.setW.setW

theorem coefWrite {n apply copy} (h : s.Kept t) : s.Kept (t.coefWrite n apply copy) := by
  unfold State.coefWrite
  extract_lets _ s1 s2
  have hs1 : s.Kept s1 := ite h.lidAbort h
  have hs2 : s.Kept s2 := ite hs1.err hs1
  exact ite hs2.modRail (ite hs2.copyBank hs2)

theorem swapNow {n} (h : s.Kept t) : s.Kept (t.swapNow n) := by
  unfold State.swapNow
  extract_lets _ _ _ _ _ a s1
  have ha : s.Kept a := h.wr.wrI.modRail
  have hs1 : s.Kept s1 := ite (ite ha.err ha) h
  exact ite hs1.copyBank.modRail hs1

theorem lidSample {n e} (h : s.Kept t) : s.Kept (t.lidSample n e) := ite (ite h.lidAbort h.wr.modRail) h
theorem commitProp {n} (h : s.Kept t) : s.Kept (t.commitProp n) := h.setW.setW.setW.coefWrite.wr.wr

theorem stepSample {n e ePrev high low} (h : s.Kept t) : s.Kept (t.stepSample n e ePrev high low) := by
  unfold State.stepSample
  extract_lets _ _ _ _ _ _ _ _ _ s2
  have hs2 : s.Kept s2 := (ite (ite h.shCount.fireOut h.shCount) h).lidAbort.shedAbort.modSheaf
  exact ite h (ite h.modSheaf (ite (ite (hs2.each (fun _ _ h => h.modPh)) hs2) h))

theorem pbSample {n} (h : s.Kept t) : s.Kept (t.pbSample n) := h.modSheaf
theorem pbFall {r n} (h : s.Kept t) : s.Kept (t.pbFall r n) := h.modSheaf
theorem ffSample {n vins} (h : s.Kept t) : s.Kept (t.ffSample n vins) := h.modRail.wr

theorem loopRun {n v high low} (h : s.Kept t) : s.Kept (t.loopRun n v high low) := by
  unfold State.loopRun
  extract_lets _ s1 h' _ _ _ _ _ _ _ _ _ _ _ _ _ _ s3 s4 s5 s6 _
  have hs3 : s.Kept s3 := h.swapNow.waitSample.refSample.modRail.wrI.wr.wrI.wrB.wrB
  have hs4 : s.Kept s4 := ite hs3.err hs3
  have hs5 : s.Kept s5 := ite hs4.err hs4
  have hs6 : s.Kept s6 := ite hs5.count0 hs5
  exact (ite hs6.count0 hs6).lidSample.stepSample.pbSample.dutySet

theorem railSample {n v vins high low} (h : s.Kept t) : s.Kept (t.railSample n v vins high low) :=
  ite h.ffSample.outOff (ite h.ffSample.loopRun h.ffSample)

theorem lastCause {x c} (h : s.Kept t) : s.Kept (t.lastCause x c) := ite h.protLast h.wr

theorem enterHiccup {x short} (h : s.Kept t) : s.Kept (t.enterHiccup x short) := by
  unfold State.enterHiccup
  extract_lets _ _ _ s1 _ s2
  have hs1 : s.Kept s1 := (ite h.errQ h).err
  have hs2 : s.Kept s2 := ite hs1.lidAbort.wrB hs1
  exact ite hs1.lastCause.outOff (ite hs2.lastCause.outLatch.err hs2.outStop.wr.wr.lastCause.mark)

theorem limited {x lim unlim} (h : s.Kept t) : s.Kept (t.limited x lim unlim) := ite ((ite h.err h).wr.mark) h.wr

theorem totals {r} (h : s.Kept t) : s.Kept (t.totals r) := by
  unfold State.totals
  extract_lets _ _ _
  exact h.wrI.wrI.modSheaf

theorem periodLimits {r} (h : s.Kept t) : s.Kept (t.periodLimits r) := by
  unfold State.periodLimits
  extract_lets _ _ _ s1 s2
  have hs1 : s.Kept s1 := h.limited
  clear_value s1
  have hs2 : s.Kept s2 := ite hs1.lidAbort.count0 hs1
  clear_value s2
  exact hs2.modRail

theorem cycleStep {r} (h : s.Kept t) : s.Kept (t.cycleStep r) := ite ((h.each (fun _ _ h => ite h.weigh (ite h.weigh h))).wr.modSheaf) h
theorem levelStep {r} (h : s.Kept t) : s.Kept (t.levelStep r) := ite h.wrB.modSheaf (ite h.wrB.shedAbort (ite h.wrB.addBegin h.wrB.modSheaf))

theorem hintCheck {r} (h : s.Kept t) : s.Kept (t.hintCheck r) := by
  unfold State.hintCheck
  extract_lets _
  split
  · exact ite h.shCount.modSheaf.pbFall h
  · exact h

theorem imSample {r imv} (h : s.Kept t) : s.Kept (t.imSample r imv) := h.foldl fun _ _ h => ite h.wrI h

theorem period {r imv} (h : s.Kept t) : s.Kept (t.period r imv) :=
  ite h.imSample ((h.imSample.totals.periodLimits.balance.hintCheck.levelStep.cycleStep.comeBack.respread.each (fun _ _ h => h.modPh)).dutySet)

theorem hintUnconf {r w} (h : s.Kept t) : s.Kept (t.hintUnconf r w) := h.shCount.post

theorem hintEdge {r rising high low} (h : s.Kept t) : s.Kept (t.hintEdge r rising high low) := by
  unfold State.hintEdge
  extract_lets _ s1 _ _ _ _
  have hs1 : s.Kept s1 := by
    unfold s1
    split
    · exact ite h.wrB h.wrB.hintUnconf
    · exact h.wrB
  exact ite ((ite hs1 hs1.fireOut).shedAbort.lidAbort.wr.modSheaf.mark) h.wrB

theorem hintEnd {r} (h : s.Kept t) : s.Kept (t.hintEnd r) := by
  unfold State.hintEnd
  extract_lets s1
  have hs1 : s.Kept s1 := h.wr.modSheaf
  split
  · exact ite (ite hs1 hs1.hintUnconf.pbFall) h
  · exact h

theorem peakTrip {p uv ns} (h : s.Kept t) : s.Kept (t.peakTrip p uv ns) := ite h.lidAbort.modPh.modRail.wr h

theorem negTrip {p ma} (h : s.Kept t) : s.Kept (t.negTrip p ma) := by
  unfold State.negTrip
  extract_lets _ _ _ s1
  have hs1 : s.Kept s1 := h.lidAbort.modPh.modRail
  exact ite h (ite (ite hs1.count0.err hs1) (ite h.modPh h))

theorem buckEdge {x sw} (h : s.Kept t) : s.Kept (t.buckEdge x sw) := h.modBuck
theorem buckSoft {x n0 vt late} (h : s.Kept t) : s.Kept (t.buckSoft x n0 vt late) := h.setOutSt.setRef.modBuck.each fun _ _ h => h.buckEdge
theorem buckPrebias {x v} (h : s.Kept t) : s.Kept (t.buckPrebias x v) := ite (ite h.buckSoft.setRef h.buckSoft.setRef.ssDone) h

theorem buckRef {x} (h : s.Kept t) : s.Kept (t.buckRef x) := by
  unfold State.buckRef
  extract_lets _ _ s1 _ _ _ _ s1'
  have hs1 : s.Kept s1 := h.setRef.modBuck
  have hs1' : s.Kept s1' := h.setRef.setSlewing.modBuck
  exact ite (ite hs1.ssDone hs1) (ite h (ite hs1'.slewDone hs1'))

theorem halfCycle {x d} (h : s.Kept t) : s.Kept (t.halfCycle x d) := (ite h.err h).wrB.modBuck.buckEdge

theorem buckCycle {x a b} (h : s.Kept t) : s.Kept (t.buckCycle x a b) := by
  unfold State.buckCycle
  extract_lets _ _ s4
  have hs4 : s.Kept s4 := h.limited.modBuck.each fun _ _ h => h.halfCycle
  exact ite hs4.modBuck hs4

theorem buckLoop {x uv vin} (h : s.Kept t) : s.Kept (t.buckLoop x uv vin) := by
  unfold State.buckLoop
  extract_lets _ _ _ _ _ _ _ _ _
  exact h.modBuck

theorem buckShow {x d ma} (h : s.Kept t) : s.Kept (t.buckShow x d ma) := h.wr.wrI
theorem buckNeg {x ma first} (h : s.Kept t) : s.Kept (t.buckNeg x ma first) := ite h (ite h.modBuck h)
theorem buckSink {x ma} (h : s.Kept t) : s.Kept (t.buckSink x ma) := ite h.modBuck h

theorem buckSample {x uv vin a b first} (h : s.Kept t) : s.Kept (t.buckSample x uv vin a b first) := by
  unfold State.buckSample
  extract_lets _ s2 _
  have hs2 : s.Kept s2 := (ite h.buckCycle h).waitSample.buckRef.buckLoop
  exact ite (h.modBuck.buckSink.iff (fun _ h => h.buckSink)) (ite hs2.buckShow.buckShow.buckNeg.buckNeg hs2.buckShow.buckNeg)

theorem setPar {k b} (h : s.Kept t) : s.Kept (t.setPar k b) := by
  unfold State.setPar
  extract_lets _ _ _ s2
  have hs2 : s.Kept s2 := h.wrB.setOutSt.modOut
  exact ite (ite hs2.setSupv.setSupv.allPg hs2) h.err

theorem enable {x imon} (h : s.Kept t) : s.Kept (t.enable x imon) := by
  unfold State.enable
  refine ite h (ite h.errQ (allPg ?_))
  split
  · exact h.railEnable
  · exact ite h.setEn (ite h.setEn.undischarge.setOutSt.modBuck h.setEn)
  · exact ite (ite h.setEn.undischarge.setOutSt.mark.wr h.setEn.undischarge.setOutSt.mark) h.setEn
  · exact ite (ite h.setEn.undischarge.ssDone h.setEn.undischarge.setOutSt) h.setEn

theorem disable {x} (h : s.Kept t) : s.Kept (t.disable x) := ite h.setEn (ite h.setEn h.outOff)
theorem lsClose {k} (h : s.Kept t) : s.Kept (t.lsClose k) := ite h.wr.setOutSt h

theorem setVset {x code} (h : s.Kept t) : s.Kept (t.setVset x code) := by
  unfold State.setVset
  split
  · exact ite h.wr.retarget.err h.wr.retarget
  · exact ite h.wr.retarget.err h.wr.retarget
  · exact ite h.wr.retarget.err h.wr.retarget
  · exact h

theorem moveTo {k slew} (h : s.Kept t) : s.Kept (t.moveTo k slew) := by
  unfold State.moveTo
  extract_lets _ _ s1 _ _
  have hs1 : s.Kept s1 := h.endMoves.runK.setVset
  exact ite h.failK (ite h.failFree (ite hs1.endMoves (ite hs1 (by
    split
    · exact hs1.modRail
    · exact hs1.modBuck
    · exact hs1))))

theorem see {x uv vin} (h : s.Kept t) : s.Kept (t.see x uv vin) := h.modOut
theorem ovTell {x} (h : s.Kept t) : s.Kept (t.ovTell x) := h.setSupv.setPg.err
theorem railOv {x} (h : s.Kept t) : s.Kept (t.railOv x) := ite h.protLast.outOff ((h.protLast.lidAbort.each (fun _ _ h => h.modPh)).modRail.setEn)

theorem ovTrip {x} (h : s.Kept t) : s.Kept (t.ovTrip x) := by
  unfold State.ovTrip
  extract_lets _ _ _
  exact ite (by
    split
    · exact h.ovTell.railOv.anyShow
    · exact (h.ovTell.wr.outOff.errQ.each (fun _ _ h => h.modBuck)).anyShow
    · exact h.ovTell.outOff.errQ.anyShow) ((ite h.ovTell.discharge h.ovTell).anyShow)

theorem comps {x uv vin} (h : s.Kept t) : s.Kept (t.comps x uv vin) := h.modOut.anyShow
theorem ovSense {x uv vin ns} (h : s.Kept t) : s.Kept (t.ovSense x uv vin ns) := ite h.comps.ovTrip h.comps

theorem uvTrip {x} (h : s.Kept t) : s.Kept (t.uvTrip x) := by
  unfold State.uvTrip
  extract_lets s1 _
  have hs1 : s.Kept s1 := h.setSupv.setPg.err
  exact ite hs1.protLast.lidAbort hs1

theorem uvSense {x uv vin us} (h : s.Kept t) : s.Kept (t.uvSense x uv vin us) := ite h.comps.uvTrip h.comps
theorem powerGood {x uv vin us} (h : s.Kept t) : s.Kept (t.powerGood x uv vin us) := ite h.comps.setPg h.comps

theorem belowCross {x uv} (h : s.Kept t) : s.Kept (t.belowCross x uv) := by
  unfold State.belowCross
  extract_lets _ s1
  have hs1 : s.Kept s1 := h.setPair.modOut
  exact ite h (ite hs1.unmark (ite hs1 hs1.mark))

theorem disRelease {x} (h : s.Kept t) : s.Kept (t.disRelease x) := ite h.undischarge h
theorem disForce {x} (h : s.Kept t) : s.Kept (t.disForce x) := ite h.wr h.wr.discharge

/-! The operations and meanings of Flail, Snap, Seq, Store, Boot, Fault. -/

theorem setRole {r} (h : s.Kept t) : s.Kept (t.setRole r) := h.wr
theorem modFlail {f} (h : s.Kept t) : s.Kept (t.modFlail f) := h.fields
theorem lineLow {us} (h : s.Kept t) : s.Kept (t.lineLow us) := ite h (ite h.mark h.unmark)
theorem flCount {f sat} (h : s.Kept t) : s.Kept (t.flCount f sat) := h.count
theorem viol {i cls} (h : s.Kept t) : s.Kept (t.viol i cls) := h.flCount.err
theorem setFrame {k} (h : s.Kept t) : s.Kept (t.setFrame k) := h.modFlail.wrB.mark
theorem unhold (h : s.Kept t) : s.Kept t.unhold := h.wr

theorem ready {x} (h : s.Kept t) : s.Kept (t.ready x) := by
  unfold State.ready
  extract_lets s1
  have hs1 : s.Kept s1 := ite h.unhold h
  exact ite hs1 hs1.modFlail

theorem dropOps (h : s.Kept t) : s.Kept t.dropOps := h.modFlail
theorem digestLost {g} (h : s.Kept t) : s.Kept (t.digestLost g) := h.wr.wr
theorem frameLost {hid} (h : s.Kept t) : s.Kept (t.frameLost hid) := ite h.digestLost h

theorem roundAbort (h : s.Kept t) : s.Kept t.roundAbort := by
  unfold State.roundAbort
  extract_lets s1
  have hs1 : s.Kept s1 := ite h.digestLost h
  clear_value s1
  exact hs1.endRunning.modFlail

theorem roleWatch (h : s.Kept t) : s.Kept t.roleWatch := by
  unfold State.roleWatch
  extract_lets _ s0
  have hs0 : s.Kept s0 := h.iff fun _ h => h.modFlail
  exact ite (ite hs0.setRole.modFlail.mark hs0) (ite hs0 hs0.setRole.unhold.roundAbort.dropOps.setFrame.wr)

theorem dethrone (h : s.Kept t) : s.Kept t.dethrone := ite h.setRole.roundAbort.dropOps.setFrame.wr.mark.err h
theorem alarmAsk {always} (h : s.Kept t) : s.Kept (t.alarmAsk always) := ite h.modFlail h
theorem alarmSend {ns} (h : s.Kept t) : s.Kept (t.alarmSend ns) := ite h.flCount.modFlail h
theorem setChan {n v} (h : s.Kept t) : s.Kept (t.setChan n v) := h.fields
theorem snapAsk (h : s.Kept t) : s.Kept t.snapAsk := h.engineAsk

theorem snapshot {ev cls detail mode who bits} (h : s.Kept t) : s.Kept (t.snapshot ev cls detail mode who bits) := by
  unfold State.snapshot
  refine ite ?_ h.count.errQ
  extract_lets s1 s2
  have h1 : s.Kept s1 := h.fields
  have h2 : s.Kept s2 := h1.wr.count
  exact ite h2.snapAsk h2

theorem setSeqSt {v} (h : s.Kept t) : s.Kept (t.setSeqSt v) := h.wr
theorem setPhase {v} (h : s.Kept t) : s.Kept (t.setPhase v) := h.wr
theorem modSeq {f} (h : s.Kept t) : s.Kept (t.modSeq f) := h.fields
theorem restartTmos (h : s.Kept t) : s.Kept t.restartTmos := h.fields
theorem lenShow (h : s.Kept t) : s.Kept t.lenShow := h.wr.wr.wr.wr
theorem setLast {tab step cause obj} (h : s.Kept t) : s.Kept (t.setLast tab step cause obj) := h.wr.wr.wr.wr
theorem seqFail {i} (h : s.Kept t) : s.Kept (t.seqFail i) := h.snapshot.err
theorem endWith {op st res} (h : s.Kept t) : s.Kept (t.endWith op st res) := h.foldl fun _ _ h => h.complete

theorem seqOff {x disc} (h : s.Kept t) : s.Kept (t.seqOff x disc) := by
  unfold State.seqOff
  extract_lets s1 s2
  have hs1 : s.Kept s1 := (ite h.setEn h.outDown).mark
  have hs2 : s.Kept s2 := ite hs1.discharge hs1
  exact hs2.fields

theorem drivePin {p l} (h : s.Kept t) : s.Kept (t.drivePin p l) := h.fields

theorem seqBegin {n k} (h : s.Kept t) : s.Kept (t.seqBegin n k) := by
  induction n generalizing t k with
  | zero => exact h
  | succ n ih =>
    unfold State.seqBegin
    extract_lets tab s0
    have h0 : s.Kept s0 := h.modSeq.wr.setPhase.mark
    clear_value s0
    exact ite h0.setPhase (ite (ih h0.setLast.err) (ite (ih h0) h0))

theorem seqNext (h : s.Kept t) : s.Kept t.seqNext := h.seqBegin
theorem setPends {l} (h : s.Kept t) : s.Kept (t.setPends l) := h.modSeq.wr
theorem startRun {tab} (h : s.Kept t) : s.Kept (t.startRun tab) := h.unhold.setSeqSt.wr.setPends.modSeq.seqBegin
theorem runEnds (h : s.Kept t) : s.Kept t.runEnds := h.wr.wr.setPhase

theorem enterRising {tab cause} (h : s.Kept t) : s.Kept (t.enterRising tab cause) :=
  (h.setMode.restorePhases.each (fun _ _ h => h.fillSlots.countSpares)).modSeq.startRun

theorem enterParked {cause} (h : s.Kept t) : s.Kept (t.enterParked cause) := by
  unfold State.enterParked
  extract_lets s1 src
  have hs1 : s.Kept s1 := h.setMode.busPark.setSeqSt
  have hsrc : s.Kept src := hs1.outOff.wr
  exact ite (ite hs1.ldo0Ka hs1) hsrc.fields

theorem waitFloor (h : s.Kept t) : s.Kept t.waitFloor := h.setSeqSt.setPhase.mark

theorem endDown (h : s.Kept t) : s.Kept t.endDown := by
  unfold State.endDown
  extract_lets s1
  have hs1 : s.Kept s1 := h.each (fun _ _ h => by
    extract_lets src
    have hsrc : s.Kept src := h.disable.mark
    exact ite hsrc.fields h)
  exact hs1.runEnds.waitFloor

theorem unwindEnd (h : s.Kept t) : s.Kept t.unwindEnd := ite h.startRun h.waitFloor

theorem hostClear (h : s.Kept t) : s.Kept t.hostClear := by
  unfold State.hostClear
  extract_lets s1
  have hs1 : s.Kept s1 := h.each (fun _ _ h => by
    extract_lets src
    have hsrc : s.Kept src := h.disable.mark
    exact hsrc.fields)
  exact hs1.modSeq.unwindEnd

theorem unwindNext {l} (h : s.Kept t) : s.Kept (t.unwindNext l) := by
  induction l generalizing t with
  | nil => exact ite h.modSeq.unwindEnd h.modSeq.setPhase.mark
  | cons x l ih =>
    unfold State.unwindNext
    extract_lets s1
    have h1 : s.Kept s1 := h.modSeq.wr.wr
    clear_value s1
    exact ite (ih h1.drivePin) (ite (ih h1) (ite h1.seqOff.setPhase.mark.mark h1.setPhase))

theorem seqDiscard (h : s.Kept t) : s.Kept t.seqDiscard := (ite h h.setLast.setSeqSt.setPhase).setPends.modSeq.endWith.endWith
theorem ask {d cause} (h : s.Kept t) : s.Kept (t.ask d cause) := h.fields
theorem feedsLost (h : s.Kept t) : s.Kept t.feedsLost := h.ask
theorem logNext (h : s.Kept t) : s.Kept t.logNext := h.wr
theorem logLost (h : s.Kept t) : s.Kept t.logLost := h.count.err
theorem logErase (h : s.Kept t) : s.Kept t.logErase := ite h.nvmErase.wr h
theorem logPut {w} (h : s.Kept t) : s.Kept (t.logPut w) := h.logErase.nvmPut.wr.logNext.count

theorem logFlush (h : s.Kept t) : s.Kept t.logFlush := by
  unfold State.logFlush
  extract_lets _ src
  have hsrc : s.Kept src := (ite h h.wr).foldl fun _ _ h => h.logPut
  exact hsrc.fields

theorem snapPages {x n} (h : s.Kept t) : s.Kept (t.snapPages x n) := (ite h.nvmErase h).nvmPut
theorem snapPut {x} (h : s.Kept t) : s.Kept (t.snapPut x) := h.snapPages.wr.wr.wr

theorem snapWrite (h : s.Kept t) : s.Kept t.snapWrite := by
  unfold State.snapWrite
  split
  · exact h
  · extract_lets src _ s2
    have hsrc : s.Kept src := h.snapPut
    have hs2 : s.Kept s2 := hsrc.fields.wr
    split
    · exact hs2.doneK
    · exact hs2

theorem snapYield {r} (h : s.Kept t) : s.Kept (t.snapYield r) := by
  unfold State.snapYield
  split
  · exact h
  · extract_lets src
    have hsrc : s.Kept src := h.snapPages
    exact hsrc.fields.revoke.arbServe

theorem setEng {n v} (h : s.Kept t) : s.Kept (t.setEng n v) := h.wr.wrB.wrB.wrB.wrB
theorem setEngs {v} (h : s.Kept t) : s.Kept (t.setEngs v) := h.each fun _ _ h => h.setEng
theorem modOwl {i f} (h : s.Kept t) : s.Kept (t.modOwl i f) := h.fields
theorem setServed {i b} (h : s.Kept t) : s.Kept (t.setServed i b) := h.wrB
theorem owlStart {i} (h : s.Kept t) : s.Kept (t.owlStart i) := h.modOwl.setServed

theorem owlSlot {i} (h : s.Kept t) : s.Kept (t.owlSlot i) := by
  unfold State.owlSlot
  extract_lets s1
  have hs1 : s.Kept s1 := ite h h.modOwl
  exact ite (ite h.modOwl h) (ite hs1.modOwl (ite hs1 hs1.owlStart))

theorem owlWatch (h : s.Kept t) : s.Kept t.owlWatch := h.each fun _ _ h => h.owlSlot
theorem bootArm {b} (h : s.Kept t) : s.Kept (t.bootArm b) := h.wrB.wrB.modOwl

theorem rtcTell (h : s.Kept t) : s.Kept t.rtcTell := by
  unfold State.rtcTell
  extract_lets _ _ _ s1 s2 s3
  have hs1 : s.Kept s1 := h.fields
  have hs2 : s.Kept s2 := ite hs1.post hs1
  have hs3 : s.Kept s3 := ite hs2.post hs2
  exact ite hs3.post hs3

theorem engWork (h : s.Kept t) : s.Kept t.engWork := by
  unfold State.engWork
  extract_lets s1 _ _
  have hs1 : s.Kept s1 := h.each fun _ _ h => h.lidAbort
  exact hs1.fields.wr.endRunning

theorem refLoss (h : s.Kept t) : s.Kept t.refLoss := h.fields.wr.wr.wr.err
theorem refWake (h : s.Kept t) : s.Kept t.refWake := ite h.wr h.refLoss

theorem enterWaking {cause} (h : s.Kept t) : s.Kept (t.enterWaking cause) := by
  unfold State.enterWaking
  extract_lets _ s0 s1 _ s3 _ s5
  have hs0 : s.Kept s0 := h.wr.wakeReset.iff fun _ h => h.busWake
  have hs1 : s.Kept s1 := ite hs0 hs0.engWork
  have hs3 : s.Kept s3 := hs1.fields.mark.setEngs.wr.wr
  have hs5 : s.Kept s5 := (ite hs3 hs3.setMode).bootArm.owlWatch.rtcTell.iff fun _ h => h.refWake
  exact ite hs5.fields.err hs5

theorem wakeBy {bits} (h : s.Kept t) : s.Kept (t.wakeBy bits) := ite h.wr.enterWaking h
theorem wakeWatch (h : s.Kept t) : s.Kept t.wakeWatch := h.wakeBy

theorem warmBusy (h : s.Kept t) : s.Kept t.warmBusy := by
  unfold State.warmBusy
  extract_lets s1
  have hs1 : s.Kept s1 := h.wr.setEngs.engWork
  exact hs1.fields.owlWatch

theorem warmStart {bit cause} (h : s.Kept t) : s.Kept (t.warmStart bit cause) := by
  unfold State.warmStart
  extract_lets _ s1 s2
  have hs1 : s.Kept s1 := by
    unfold s1
    split
    · exact h.wr
    · exact h
  have hs2 : s.Kept s2 := hs1.fields
  exact ite (ite hs1 (ite hs2.enterWaking hs2.warmBusy)) h

theorem engUp (h : s.Kept t) : s.Kept t.engUp := by
  unfold State.engUp
  extract_lets s1 src
  have hs1 : s.Kept s1 := h.each fun _ _ h => ite h.setEng h
  clear_value s1
  have hsrc : s.Kept src := hs1.wr.setRepl
  clear_value src
  exact ite hsrc.fields hs1

theorem engWatch (h : s.Kept t) : s.Kept t.engWatch := ite (h.each (fun _ _ h => ite h h.setEng)) h
theorem setLat {ev b} (h : s.Kept t) : s.Kept (t.setLat ev b) := h.setW
theorem setUnack {ev v} (h : s.Kept t) : s.Kept (t.setUnack ev v) := h.setW
theorem setRpt {ev v} (h : s.Kept t) : s.Kept (t.setRpt ev v) := h.setW
theorem unackShow (h : s.Kept t) : s.Kept t.unackShow := h.wr
theorem holdShow (h : s.Kept t) : s.Kept t.holdShow := h.wr
theorem ackEv {ev} (h : s.Kept t) : s.Kept (t.ackEv ev) := h.fields
theorem ackShow (h : s.Kept t) : s.Kept t.ackShow := h.unackShow.holdShow

theorem record {r eff esc dry chg detail} (h : s.Kept t) : s.Kept (t.record r eff esc dry chg detail) := by
  unfold State.record
  extract_lets i b w0 s1 s2 rec0 s3 s4a s4
  have h2 : s.Kept s2 := h.setW.setW.wr.setW.wr.wr
  have h3 : s.Kept s3 := h2.fields
  exact ite h2 ((ite h3.logLost.fields h3).engineAsk)

theorem countRaise {ev} (h : s.Kept t) : s.Kept (t.countRaise ev) := (ite h.setRpt h.setRpt.errQ).count
theorem bootOver {r} (h : s.Kept t) : s.Kept (t.bootOver r) := ite (ite h.bootArm h.bootArm.wr) h

theorem deviceForce {ev who} (h : s.Kept t) : s.Kept (t.deviceForce ev who) := by
  unfold State.deviceForce
  extract_lets m s0 s1 s2 src s3
  have h0 : s.Kept s0 := ite h.fields h
  have h1 : s.Kept s1 := h0.wr.each fun _ _ h => h.safeState
  have h2 : s.Kept s2 := h1.bootOver.setMode.seqDiscard
  have hsrc : s.Kept src := h2.refuseWaiting
  clear_value src
  have h3 : s.Kept s3 := hsrc.fields
  exact ite h3.alarmAsk h3

theorem raise1 {lock r} (h : s.Kept t) : s.Kept (State.raise1 lock r t) := by
  unfold State.raise1
  extract_lets esc eff dry g s2 s3 s4 chg s5 s6 s7 s8 d
  have h2 : s.Kept s2 := h.setLat.countRaise
  have h3 : s.Kept s3 := ite h2 h2.setUnack.unackShow
  have h3' : ∀ l, s.Kept { s3 with holds := l } := fun _ => h3.fields
  have h4 : s.Kept s4 := ite (h3' _).holdShow h3
  have h5 : s.Kept s5 := ite h4 (ite h4.forceGroup (ite h4.deviceForce h4))
  have h6 : s.Kept s6 := ite h5.wr.wr.setW h5
  have h7 : s.Kept s7 := ite h6.snapshot h6
  have h8 : s.Kept s8 := ite h7.fields h7
  have hd : s.Kept d.2 := by
    unfold d
    split
    · exact h8
    · exact h8.draw
  exact hd.record.edge

theorem collect1 (h : s.Kept t) : s.Kept t.collect1 := by
  unfold State.collect1
  extract_lets _ s0 _
  have hs0 : s.Kept s0 := h.fields
  exact ite (ite (hs0.foldl (fun _ _ h => h.raise1)) (hs0.foldl (fun _ _ h => h.raise1))) hs0

theorem collect {n} (h : s.Kept t) : s.Kept (t.collect n) := by
  induction n generalizing t with
  | zero => exact h
  | succ n ih => exact ite h (ih h.collect1)

theorem parkWatch (h : s.Kept t) : s.Kept t.parkWatch := by
  unfold State.parkWatch
  extract_lets t'
  have ht' : s.Kept t' := h.fields
  exact ite h (ite ht'.fields ht'.logFlush)

theorem follow (h : s.Kept t) : s.Kept t.follow :=
  h.collect.busWatch.roleWatch.chgWatch.collect.abortRunning.engWatch.owlWatch.parkWatch.wakeWatch.collect

theorem settle (h : s.Kept t) : s.Kept t.settle := ite h h.follow

/-! The operations and meanings of Access, Loops, Sheaves, BusLoop, Protect, Feeds, Marg, Donor. -/

theorem ifWritesM {c a m v f} (h : s.Kept t) (hf : ∀ u, s.Kept u → s.Kept (f u)) : s.Kept (t.ifWritesM c a m v f) := ite (hf _ h) h
theorem ifField {c b f v g} (h : s.Kept t) (hg : ∀ y0, s.Kept y0 → s.Kept (g y0)) : s.Kept (t.ifField c b f v g) := h.ifWritesM hg
theorem ifWrites {c a v f} (h : s.Kept t) (hf : ∀ u, s.Kept u → s.Kept (f u)) : s.Kept (t.ifWrites c a v f) := ite (hf _ h) h

theorem hostOn {x imon} (h : s.Kept t) : s.Kept (t.hostOn x imon) := by
  unfold State.hostOn
  extract_lets _ s1
  have hs1 : s.Kept s1 := ite h h.enable
  exact ite hs1.modSeq hs1

theorem hostOff {x} (h : s.Kept t) : s.Kept (t.hostOff x) := ite h h.disable

theorem setFsw {n v} (h : s.Kept t) : s.Kept (t.setFsw n v) := by
  unfold State.setFsw
  extract_lets _ _ s0 s1
  have hs0 : s.Kept s0 := h.wr.wr
  have hs1 : s.Kept s1 := ite hs0 hs0.lidStale
  exact ite h.err (ite hs1.err hs1)

theorem coefCtrl {n apply copy} (h : s.Kept t) : s.Kept (t.coefCtrl n apply copy) := ite h.coefWrite h.coefWrite.swapNow
theorem lidCause {n cause} (h : s.Kept t) : s.Kept (t.lidCause n cause) := ite h h.wr

theorem lidStart {n fc} (h : s.Kept t) : s.Kept (t.lidStart n fc) := by
  unfold State.lidStart
  extract_lets a b s' _ _ _
  have ha : s.Kept a.2 := h.draw
  clear_value a
  have hb : s.Kept b.2 := ha.draw
  clear_value b
  have hs' : s.Kept s' := hb
  clear_value s'
  exact hs'.wr.wr.wr.wr.wr.wrB.modRail

theorem lidDone {n f} (h : s.Kept t) : s.Kept (t.lidDone n f) := by
  unfold State.lidDone
  extract_lets _ p _ s1 _ _ _ _ _ _ s6 _
  have hs1 : s.Kept s1 := h.wr.wr.wr.wr.wr.wr
  have hs6 : s.Kept s6 := hs1.wr.wr.wr.wrI.wrI.wrI.wr.wrI.wrI.wr.wr.wr.wr.mark.modRail.irq
  exact ite hs1.wr.wr.endRunning ((ite hs6 (ite hs6.commitProp hs6.wr)).endRunning)

theorem rampStep (h : s.Kept t) : s.Kept t.rampStep := ite h.modBus h
theorem busMon {m} (h : s.Kept t) : s.Kept (t.busMon m) := h.wrI.wr.wr.wrI.wr.wrI.wr.wrI.wr.wr.wrI.foldl fun _ _ h => h.wrI
theorem csSeen {ma} (h : s.Kept t) : s.Kept (t.csSeen ma) := ite h.wr h
theorem energy {m} (h : s.Kept t) : s.Kept (t.energy m) := ite (ite h.modBus.wr (ite h.modBus.wr h.modBus.wr.wr.err)) h

theorem taperWatch (h : s.Kept t) : s.Kept t.taperWatch :=
  ite (by
    split
    · exact h
    · exact h.mark) h.unmark

theorem nodeStep {m} (h : s.Kept t) : s.Kept (t.nodeStep m) := ite h h.modBus

theorem pathStep (h : s.Kept t) : s.Kept t.pathStep := by
  unfold State.pathStep
  extract_lets _ _
  exact h.modBus

theorem loopStep {m} (h : s.Kept t) : s.Kept (t.loopStep m).1 := ite1 (fst h.modBus) (ite1 (fst h.modBus) (fst h.modBus))

theorem busDuty {v vnode} (h : s.Kept t) : s.Kept (t.busDuty v vnode) := by
  unfold State.busDuty
  extract_lets _ _ _ _ _
  exact h.modBus

theorem busPeriod (h : s.Kept t) : s.Kept t.busPeriod := by
  unfold State.busPeriod
  extract_lets _ _ s1
  have hs1 : s.Kept s1 := h.each (fun _ _ h => by
    split
    · exact h.modPh
    · exact h)
  exact ite h.modBus hs1.modBus

theorem busEdges (h : s.Kept t) : s.Kept t.busEdges := h.each fun _ _ h => h.modPh

theorem busCapped {m} (h : s.Kept t) : s.Kept (t.busCapped m) := by
  unfold State.busCapped
  extract_lets _ _ _ _ _ _ _ _ s1 _
  have hs1 : s.Kept s1 := h.wrB.wrB.wrB
  exact (ite hs1.chgCount hs1).modBus

theorem busSample {m} (h : s.Kept t) : s.Kept (t.busSample m) := by
  unfold State.busSample
  extract_lets s0 _ s1 s2 s3 _ r
  have hs0 : s.Kept s0 := h.busMon.energy.taperWatch.terms.csSeen
  have hs1 : s.Kept s1 := ite hs0.takeOuter hs0
  have hs2 : s.Kept s2 := (ite hs1.pathStep hs1).rampStep.busPeriod.busCapped
  have hs3 : s.Kept s3 := ite hs2.nodeStep hs2
  exact ite hs0 ((ite hs3.err hs3).loopStep.busDuty.busEdges)

theorem busPeak {p uv ns} (h : s.Kept t) : s.Kept (t.busPeak p uv ns) := ite h.modPh h
theorem busNeg {p ma} (h : s.Kept t) : s.Kept (t.busNeg p ma) := ite h.modPh h
theorem ssMark {x} (h : s.Kept t) : s.Kept (t.ssMark x) := ite h.modRail h.modBuck
theorem ssCheck {x uv} (h : s.Kept t) : s.Kept (t.ssCheck x uv) := ite h (ite h.ssMark.enterHiccup (ite h.ssMark.enterHiccup h.ssMark))
theorem feedsShow (h : s.Kept t) : s.Kept t.feedsShow := (ite h.feedsRefresh.feedsLost h.feedsRefresh).busWatch
theorem pathFeed {mask} (h : s.Kept t) : s.Kept (t.pathFeed mask) := (ite h.modBus.pathStart h.modBus).wakeBy
theorem pathLoss {mask} (h : s.Kept t) : s.Kept (t.pathLoss mask) := ite h.modBus.pathStop h.modBus
theorem portSee {p mv} (h : s.Kept t) : s.Kept (t.portSee p mv) := ite h.wr h.wr
theorem freePort {p} (h : s.Kept t) : s.Kept (t.freePort p) := ite h.setPort h
theorem portGone {p v} (h : s.Kept t) : s.Kept (t.portGone p v) := h.setLost.setPort.feedsShow
theorem setPEn {p b} (h : s.Kept t) : s.Kept (t.setPEn p b) := ite (ite h.wrB.setPort.feedsShow h.wrB) h.wrB.portGone
theorem margTake {x} (h : s.Kept t) : s.Kept (t.margTake x) := (h.iff (fun _ h => h.lidAbort)).wr.wr.retarget.margAny
theorem margCopy (h : s.Kept t) : s.Kept t.margCopy := h.each fun _ _ h => h.margTake
theorem margApply (h : s.Kept t) : s.Kept t.margApply := ite h.errQ h.margCopy
theorem setArm {b} (h : s.Kept t) : s.Kept (t.setArm b) := h.wrB.wrB
theorem setBusEn {b} (h : s.Kept t) : s.Kept (t.setBusEn b) := ite h.wr.busWatch h.busOff.chgWatch
theorem donorBegin {v i tmax} (h : s.Kept t) : s.Kept (t.donorBegin v i tmax) := h.wr.wr.wr.wr.wr.wr.wr.modBus.setBus.mark.chgWatch
theorem blockPorts (h : s.Kept t) : s.Kept t.blockPorts := h.each fun _ _ h => h.holdPort

/-! The operations and meanings of Pack, Regulators, Owl, Engines, Memory. -/

theorem ldoSee {j ma vin} (h : s.Kept t) : s.Kept (t.ldoSee j ma vin) := ite h.wr.wrB.wrB h
theorem lsSee {k ma} (h : s.Kept t) : s.Kept (t.lsSee k ma) := ite h.wrI.wrB h
theorem lsFast {k ma} (h : s.Kept t) : s.Kept (t.lsFast k ma) := ite h.lsSee (ite h.outLatch.err (ite h.err h))
theorem pcNow {n} (h : s.Kept t) : s.Kept (t.pcNow n).2 := ite2 h.draw h

theorem owlFind {bit cls i cause who} (h : s.Kept t) : s.Kept (t.owlFind bit cls i cause who) := by
  unfold State.owlFind
  extract_lets _ s1
  have hs1 : s.Kept s1 := by
    unfold s1
    split
    · exact h.errQ
    · exact h
  exact hs1.fields

theorem owlCount {i f} (h : s.Kept t) : s.Kept (t.owlCount i f) := ite h.bump.wr.owlFind h.bump

theorem owlReact {i bit cause} (h : s.Kept t) : s.Kept (t.owlReact i bit cause) := by
  unfold State.owlReact
  extract_lets _ s1
  have hs1 : s.Kept s1 := h.owlFind
  exact ite hs1.fields hs1

theorem owlNext {i late} (h : s.Kept t) : s.Kept (t.owlNext i late) := h.modOwl.setServed.owlSlot
theorem owlExpire {i} (h : s.Kept t) : s.Kept (t.owlExpire i) := h.owlCount.wr.owlReact.owlNext
theorem owlEnd {i} (h : s.Kept t) : s.Kept (t.owlEnd i) := ite h.owlNext h.owlExpire

theorem owlCheck {i who} (h : s.Kept t) : s.Kept (t.owlCheck i who) :=
  ite h.owlCount.owlFind (ite h.owlCount.owlFind (ite h.owlCount.owlReact h.setServed.wr))

theorem kick {c v} (h : s.Kept t) : s.Kept (t.kick c v) := by
  unfold State.kick
  extract_lets _ s1
  have hs1 : s.Kept s1 := ite h.owlEnd h
  exact ite h.err (ite h.owlFind (ite hs1.owlCheck hs1.owlFind))

theorem owlCfg {i v} (h : s.Kept t) : s.Kept (t.owlCfg i v) := by
  unfold State.owlCfg
  extract_lets _ _ _ s1 _ _ s3 _
  have hs1 : s.Kept s1 := h.wr.wr.wr.wr
  have hs3 : s.Kept s3 := ite hs1.wr.err hs1.wr.wr
  exact ite hs1.wr (ite hs1 ((ite hs3.modOwl hs3).owlSlot))

theorem owlTime {i v} (h : s.Kept t) : s.Kept (t.owlTime i v) := h.setW.iff fun _ h => h.wr

theorem bootExpire (h : s.Kept t) : s.Kept t.bootExpire := by
  unfold State.bootExpire
  extract_lets _ _ s2
  have hs2 : s.Kept s2 := h.wr.owlCount.wr.owlFind
  clear_value s2
  exact ite hs2 hs2.fields

theorem haltEng {n} (h : s.Kept t) : s.Kept (t.haltEng n) := h.draw.setEng.wr.setW

theorem mismatchAs {rep n} (h : s.Kept t) : s.Kept (t.mismatchAs rep n) := by
  unfold State.mismatchAs
  have hwarm : ∀ u n l w, s.Kept u → s.Kept { u with lsHalt := n, lsLast := l, warmReq := w } := fun _ _ _ _ h => h.fields
  exact (hwarm _ _ _ _ h.haltEng.count).err

theorem mismatches {l} (h : s.Kept t) : s.Kept (t.mismatches l) := h.each fun _ _ h => ite h.mismatchAs h

theorem selfTest {failed} (h : s.Kept t) : s.Kept (t.selfTest failed) := by
  unfold State.selfTest
  split
  · exact ite h.fields h.fields
  · exact h.haltEng.err

theorem refBack (h : s.Kept t) : s.Kept t.refBack := h.wr.wr.wr.err
theorem clkRet {v} (h : s.Kept t) : s.Kept (t.clkRet v) := ite h.refBack h
theorem setDroop {i d} (h : s.Kept t) : s.Kept (t.setDroop i d) := h.fields
theorem droop {i} (h : s.Kept t) : s.Kept (t.droop i) := ite h.setDroop h.setDroop.wr.count.post

theorem nvmJunk {a n} (h : s.Kept t) : s.Kept (t.nvmJunk a n) := by
  induction n generalizing t a with
  | zero => exact h
  | succ n ih => exact ih h.draw.nvmPut

theorem hardFault {sp addr} (h : s.Kept t) : s.Kept (t.hardFault sp addr) := h.wr.wr.wr.err

theorem eccHit {sp hid quiet} (h : s.Kept t) : s.Kept (t.eccHit sp hid quiet) := by
  unfold State.eccHit
  extract_lets a b c
  have ha : s.Kept a := h.wr.wr
  have hb : s.Kept b := ite ha.count ha.count
  have hc : s.Kept c := ite hb.errQ (ite hb.err (ite hb.fields.err hb.errQ))
  exact ite hc.hardFault hc

theorem eccHits {sp l quiet} (h : s.Kept t) : s.Kept (t.eccHits sp l quiet) := h.foldl fun _ _ h => h.eccHit
theorem retShow (h : s.Kept t) : s.Kept t.retShow := h.wr.wr.setRepl

theorem retLoad {n i} (h : s.Kept t) : s.Kept (State.retLoad n i t) := by
  induction n generalizing t i with
  | zero => exact h
  | succ n ih => exact ite h (ite (ih h.fields) (ih h.post))

theorem loftShow {seq tag host} (h : s.Kept t) : s.Kept (t.loftShow seq tag host) := h.wr.wr.wr.wr.wr.each fun _ _ h => h.setW

theorem loftCommit {host fail} (h : s.Kept t) : s.Kept (t.loftCommit host fail) := by
  unfold State.loftCommit
  extract_lets _ s0 s1 _
  have hs0 : s.Kept s0 := h.fields
  have hs1 : s.Kept s1 := ite hs0.nvmErase hs0
  exact ite hs1.nvmJunk.err hs1.nvmPut.loftShow.wr.wr.count

theorem loftKeep (h : s.Kept t) : s.Kept t.loftKeep := ite h.loftCommit h
theorem fe7Done (h : s.Kept t) : s.Kept t.fe7Done := ite h.engineDone h

theorem loftApply {sets} (h : s.Kept t) : s.Kept (t.loftApply sets) := by
  unfold State.loftApply
  extract_lets _ _ _ s3 s4 _ f
  have h3 : s.Kept s3 := h.setRepl.setRepl
  have h4 : s.Kept s4 := h3.each fun _ _ h => ite h.wrB.wrB.wr.wr h.wrB.wrB.wr
  have hf : ∀ {x y0 y1 y2}, s.Kept x → s.Kept (f x y0 y1 y2) := fun h => h.wr
  clear_value f s4
  exact (hf (hf (hf (hf (hf (hf h4)))))).wr.wr

theorem loftScan {hits} (h : s.Kept t) : s.Kept (t.loftScan hits) := by
  unfold State.loftScan
  generalize hlook : t.eccHits 1 hits false = s0
  have h0 : s.Kept s0 := hlook ▸ h.eccHits
  have hnext : ∀ u n, s.Kept u → s.Kept { u with loftNext := n } := fun _ _ h => h.fields
  dsimp only
  split
  · exact (hnext _ _ h0.loftApply.loftShow.wr.wr).err
  · exact ite (hnext _ _ h0.loftApply.loftShow.wr.wr).wr.err (hnext _ _ h0.loftApply.loftShow.wr.wr)

theorem logScan (h : s.Kept t) : s.Kept t.logScan := by
  unfold State.logScan
  extract_lets _ s1 s2
  have hs1 : s.Kept s1 := h.wr.wr.wr
  have hs2 : s.Kept s2 := by
    unfold s2
    split
    · exact hs1.fields
    · exact hs1
  exact hs2.wr

/-! The operations and meanings of Otp, Update, Line, Sequence. -/

theorem setRow {r x} (h : s.Kept t) : s.Kept (t.setRow r x) := h.fields
theorem ctlBurn {i} (h : s.Kept t) : s.Kept (t.ctlBurn i) := h.fields
theorem otpErr {bit cause row} (h : s.Kept t) : s.Kept (t.otpErr bit cause row) := h.err.collect
theorem otpPost {cause row} (h : s.Kept t) : s.Kept (t.otpPost cause row) := h.post.collect

theorem otpShow (h : s.Kept t) : s.Kept t.otpShow :=
  ((h.wr.wr.wr.wr.wr.wr.wrB.each (fun _ _ h => h.wr.wrB.wrB)).each (fun _ _ h => h.wr.wrB.wrB.wrB)).wr

theorem rowTell {r} (h : s.Kept t) : s.Kept (t.rowTell r) := ite h.otpErr (ite h.otpErr (ite h.otpErr h))
theorem otpRepl (h : s.Kept t) : s.Kept t.otpRepl := h.setRepl.setRepl.setRepl
theorem serialLoad (h : s.Kept t) : s.Kept t.serialLoad := h.wr.wr.wr

theorem readPass {rows ctl} (h : s.Kept t) : s.Kept (t.readPass rows ctl) := by
  unfold State.readPass
  extract_lets a s0 c s1 s2 s3 s4 b
  have ha : s.Kept a := h.foldl fun _ _ h => h.setRow
  clear_value a
  have h0 : s.Kept s0 := ha.fields
  have h1 : s.Kept s1 := ite h0 h0.otpErr
  have h2 : s.Kept s2 := h1.each fun _ _ h => h.rowTell
  have h3 : s.Kept s3 := h2.each fun _ _ h => by
    split
    · exact h
    · exact h.otpErr
  have h4 : s.Kept s4 := h3.each fun _ _ h => ite h.otpErr h
  have hb : s.Kept b := h4.otpRepl.serialLoad.otpShow.wr
  clear_value b
  exact hb.fields

theorem toSpare {r v l reads} (h : s.Kept t) : s.Kept (t.toSpare r v l reads).1 := by
  induction l generalizing t reads with
  | nil => exact h
  | cons k l ih =>
    unfold State.toSpare
    extract_lets x s1 s2 s3
    have h1 : s.Kept s1 := h.setRow
    clear_value s1
    have h2 : s.Kept s2 := h1.foldl fun _ _ h => ite h.ctlBurn h
    clear_value s2
    have h3 : s.Kept s3 := h2.ctlBurn.otpPost
    clear_value s3
    exact ite1 (ite h3.otpErr h3) (ih h1)

theorem burnRow {k r v direct reads} (h : s.Kept t) : s.Kept (t.burnRow k r v direct reads) := by
  unfold State.burnRow
  extract_lets _ s1 q
  have hs1 : s.Kept s1 := ite h.setRow h
  exact ite hs1.otpShow.doneK (ite hs1.toSpare.otpShow.doneK hs1.toSpare.err.collect.otpShow.failK)

theorem cntStep {k} (h : s.Kept t) : s.Kept (t.cntStep k).1 := ite1 h.otpErr h.setRow.otpShow

theorem ovrCtrl {c op} (h : s.Kept t) : s.Kept (t.ovrCtrl c op) :=
  ite h (ite (ite h.fields.otpShow h.err) (ite h.err (ite h.fields.otpShow h.fields.otpShow)))

theorem reject {cause item} (h : s.Kept t) : s.Kept (t.reject cause item) := h.wr.wr.err
theorem setStage {v} (h : s.Kept t) : s.Kept (t.setStage v) := h.wr
theorem stagedNow {ends kinds} (h : s.Kept t) : s.Kept (t.stagedNow ends kinds) := h.setStage.wr.wr.loftKeep.irq
theorem hdrBad (h : s.Kept t) : s.Kept t.hdrBad := h.setStage.loftKeep.err

theorem siloLook {lo hi} (h : s.Kept t) : s.Kept (t.siloLook lo hi).1 :=
  ite1 h.hdrBad (ite1 h (ite1 (ite h.stagedNow h) (ite1 h.hdrBad (ite1 h.stagedNow h))))

theorem siloErase {o n} (h : s.Kept t) : s.Kept (t.siloErase o n) := h.each fun _ _ h => ite h.nvmErase h

theorem siloWrite {o n m bytes args fail} (h : s.Kept t) : s.Kept (t.siloWrite o n m bytes args fail).1 := by
  unfold State.siloWrite
  extract_lets _ s2 q
  have hs2 : s.Kept s2 := (ite h.setStage.wr.wr.loftKeep.wr h).siloErase
  exact ite1 h (ite1 h (ite1 h.err (ite1 h.post (ite1 h (ite1 h (ite1 hs2.nvmJunk.err hs2.nvmPut.wr.siloLook))))))

theorem copyItem {it} (h : s.Kept t) : s.Kept (t.copyItem it) := h.eraseArea.nvmPut
theorem copyBad {it} (h : s.Kept t) : s.Kept (t.copyBad it) := h.eraseArea.nvmJunk
theorem copyBegin {items} (h : s.Kept t) : s.Kept (t.copyBegin items) := h.wr.loftKeep.foldl fun _ _ h => h.eraseArea

theorem copyEnd {items bad conf} (h : s.Kept t) : s.Kept (t.copyEnd items bad conf).1 := by
  unfold State.copyEnd
  extract_lets _ _ _ _ s3 s4 s5 _
  have hs3 : s.Kept s3 := (h.foldl (fun _ _ h => ite h.copyBad h.copyItem)).wr
  have hs4 : s.Kept s4 := hs3.setStage.wr
  have hs5 : s.Kept s5 := ite hs4.wr hs4
  exact ite1 ((ite hs5.wr.wr hs5).loftKeep) hs3.loftKeep.err

theorem takeFw {a} (h : s.Kept t) : s.Kept (t.takeFw a) := (h.each (fun _ _ h => h.setW)).setW.setW
theorem fwRuns (h : s.Kept t) : s.Kept t.fwRuns := h.engUp.setW
theorem ldrDone {cause} (h : s.Kept t) : s.Kept (t.ldrDone cause) := h.wr.wr.wr
theorem actNote {v} (h : s.Kept t) : s.Kept (t.actNote v) := h.fields

theorem actFail {c} (h : s.Kept t) : s.Kept (t.actFail c) := by
  unfold State.actFail
  split
  · exact h.failK
  · exact h.ldrDone

theorem actEnd {ok} (h : s.Kept t) : s.Kept (t.actEnd ok) := by
  unfold State.actEnd
  extract_lets t' d
  have ht' : s.Kept t' := h.fields
  split
  · exact h
  · exact ite ht'.actFail (ite (by
      split
      · exact ht'.doneK
      · exact ht'.ldrDone) ht'.draw.actFail)

theorem wakingEnds (h : s.Kept t) : s.Kept t.wakingEnds := h.bootArm.wr.wr.each fun _ _ h => ite h.wr h
theorem toHold {cause detail kind} (h : s.Kept t) : s.Kept (t.toHold cause detail kind) := h.wakingEnds.setMode.wr.wr.wr.wr.actEnd
theorem noImage (h : s.Kept t) : s.Kept t.noImage := h.setEngs.setEng.toHold.setW

theorem stagedStep {hits failed} (h : s.Kept t) : s.Kept (t.stagedStep hits failed) := by
  unfold State.stagedStep
  split
  · exact h.setStage.loftKeep.reject.actNote
  · exact ite h.actNote h.copyBegin.copyEnd.actNote

theorem fwStep {hits again} (h : s.Kept t) : s.Kept (t.fwStep hits again) := by
  unfold State.fwStep
  extract_lets _ _
  split
  · exact h
  · extract_lets s1 s2 s3
    have hs1 : s.Kept s1 := h.reject
    clear_value s1
    have hs2 : s.Kept s2 := hs1.wr.loftKeep
    clear_value s2
    have hs3 : s.Kept s3 := ite hs2.copyBad.err hs2.copyItem.wr.wr
    clear_value s3
    exact ite hs3.wr.loftKeep hs1

theorem imageAuth {hits failed again} (h : s.Kept t) : s.Kept (t.imageAuth hits failed again) := by
  unfold State.imageAuth
  extract_lets src s1 s2 s3 s4 s5 src'
  have hsrc : s.Kept src := h.eccHits
  clear_value src
  have hs1 : s.Kept s1 := hsrc.fields.retLoad.retShow
  clear_value s1
  have hs2 : s.Kept s2 := ite hs1.setStage.loftKeep hs1
  clear_value s2
  have hs3 : s.Kept s3 := hs2.wrB.wr
  clear_value s3
  have hs4 : s.Kept s4 := ite hs3.stagedStep hs3
  clear_value s4
  have hs5 : s.Kept s5 := hs4.fwStep
  clear_value s5
  have hsrc' : s.Kept src' := hs5.wr.takeFw.fwRuns
  clear_value src'
  exact ite hsrc'.fields hs5.wr.noImage

theorem actReject {hits} (h : s.Kept t) : s.Kept (t.actReject hits) := by
  unfold State.actReject
  split
  · exact h.reject
  · exact h

theorem actBegin {k hits} (h : s.Kept t) : s.Kept (t.actBegin k hits) := by
  unfold State.actBegin
  extract_lets _
  split
  · exact (ite h.eccHits.actReject h.eccHits).failK
  · exact h.eccHits.setCmd.askNext

theorem actCopy {k failed} (h : s.Kept t) : s.Kept (t.actCopy k failed) :=
  ite h.failK (ite ((ite h.copyEnd.takeFw h.copyEnd).setCmd.dropOrg.warmStart) h.copyEnd.failK)

theorem actHold (h : s.Kept t) : s.Kept t.actHold := by
  unfold State.actHold
  extract_lets src
  have hsrc : s.Kept src := h.warmStart
  exact hsrc.fields

theorem activated (h : s.Kept t) : s.Kept t.activated := by
  unfold State.activated
  split
  · exact h
  · exact h.doneK

theorem cntTo {k v} (h : s.Kept t) : s.Kept (t.cntTo k v) := h.foldl fun _ _ h => h.cntStep

theorem confirm (h : s.Kept t) : s.Kept t.confirm := by
  unfold State.confirm
  extract_lets _ _ s3 _
  have hs3 : s.Kept s3 := (ite h.cntTo.cntStep h.cntTo).cntTo
  exact (ite hs3.eraseArea hs3).wr.wr.wr.loftKeep

theorem ldrCtrl {v fail} (h : s.Kept t) : s.Kept (t.ldrCtrl v fail) := by
  unfold State.ldrCtrl
  extract_lets _ _ src q
  have hsrc : s.Kept src := h.engineAsk
  exact ite h.err (ite hsrc.fields.wr (ite h.siloWrite.ldrDone (ite (ite h.actHold h.ldrDone) h)))

theorem flailAsk {x} (h : s.Kept t) : s.Kept (t.flailAsk x) := by
  unfold State.flailAsk
  extract_lets s1 s2
  have hs1 : s.Kept s1 := ite h.ask h
  have hs2 : s.Kept s2 := ite hs1.ask hs1
  exact ite hs2.ask hs2

theorem flailSet {x strobe} (h : s.Kept t) : s.Kept (t.flailSet x strobe) := by
  unfold State.flailSet
  extract_lets _ _ s1 _ _
  have hs1 : s.Kept s1 := h.wr.irq.flailAsk
  exact ite h ((ite hs1.modSeq hs1).modFlail)

theorem autoEnd (h : s.Kept t) : s.Kept t.autoEnd := ite h.wr.modFlail h

theorem mctrlRun {op arg} (h : s.Kept t) : s.Kept (t.mctrlRun op arg) :=
  ite h.setFrame (ite h.modFlail.setFrame (ite (ite h.wr h.wr.wr.setFrame) (ite h.wr (ite h.setFrame h))))

theorem mctrl {c op arg} (h : s.Kept t) : s.Kept (t.mctrl c op arg) := by
  unfold State.mctrl
  extract_lets _ s1
  have hs1 : s.Kept s1 := h.iff fun _ h => h.modFlail
  exact ite h.viol (ite h (ite h.modFlail (ite hs1.modFlail hs1.mctrlRun)))

theorem lineFree (h : s.Kept t) : s.Kept t.lineFree := (h.iff (fun _ h => h.mark)).setFrame.foldl fun _ _ h => ite h.modFlail.mctrlRun h
theorem collide {own} (h : s.Kept t) : s.Kept (t.collide own) := ite (ite h.viol.modFlail.mark h.viol.roundAbort.lineFree) h.viol

theorem alarmAborts (h : s.Kept t) : s.Kept t.alarmAborts := by
  unfold State.alarmAborts
  extract_lets _ s1
  have hs1 : s.Kept s1 := (h.iff (fun _ h => h.digestLost)).mark
  exact ite (ite hs1.setFrame.modFlail hs1.roundAbort.lineFree) (ite hs1.lineFree hs1)

theorem roundDone (h : s.Kept t) : s.Kept t.roundDone := by
  unfold State.roundDone
  extract_lets _
  exact h.endWith.modFlail

theorem roundNext {f} (h : s.Kept t) : s.Kept (t.roundNext f) := by
  unfold State.roundNext
  extract_lets _ s2
  have hs2 : s.Kept s2 := (h.modFlail.iff (fun _ h => h.mark)).setFrame
  exact ite (by
    split
    · exact ite hs2.yield.lineFree hs2.setFrame
    · exact hs2.setFrame) h.modFlail.roundDone.lineFree

theorem roundFrame {f} (h : s.Kept t) : s.Kept (t.roundFrame f) := ite h.lineFree.modFlail h.roundNext

theorem putDiss {i l} (h : s.Kept t) : s.Kept (t.putDiss i l) := by
  induction l generalizing t i with
  | nil => exact h
  | cons d l ih => exact ih h.setW

theorem dgPause {k} (h : s.Kept t) : s.Kept (t.dgPause k).1 := fst h.modFlail

theorem dgGo {k} (h : s.Kept t) : s.Kept (t.dgGo k) := by
  unfold State.dgGo
  extract_lets _ s1
  have hs1 : s.Kept s1 := h.runK.modFlail
  exact ite hs1.setFrame hs1.modFlail

theorem taken {gpio obj level} (h : s.Kept t) : s.Kept (t.taken gpio obj level) := h.modSeq

theorem stepAct {imon} (h : s.Kept t) : s.Kept (t.stepAct imon) := by
  unfold State.stepAct
  extract_lets _ _ _ _ _ _ wait s1 s2 _
  have hwait : s.Kept wait := h.setPhase.mark
  have hs1 : s.Kept s1 := h.enable.mark
  have hs2 : s.Kept s2 := ite hs1.taken hs1
  exact ite (ite hs2.setPends.mark.seqNext hs2.setPhase.mark) (ite h.seqOff.mark.setPhase.mark (ite h.seqNext (ite hwait
    (ite h.drivePin.taken.seqNext (ite (ite hwait.modSeq h.post.seqNext) (ite (ite h.ready.seqNext h.post.seqNext) h.setPhase))))))

theorem unwindAct (h : s.Kept t) : s.Kept t.unwindAct := ite h.hostClear h.unwindNext

theorem sbyDone (h : s.Kept t) : s.Kept t.sbyDone := by
  unfold State.sbyDone
  extract_lets s1
  have hs1 : s.Kept s1 := h.runEnds.irq.setSeqSt
  exact ite hs1.enterRising hs1

theorem endRun (h : s.Kept t) : s.Kept t.endRun := ite h.endDown (ite h.sbyDone h.ask)
theorem unwound (h : s.Kept t) : s.Kept t.unwound := h.unwindNext
theorem slow {x} (h : s.Kept t) : s.Kept (t.slow x) := h.disForce.setLast
theorem stuckOut {x} (h : s.Kept t) : s.Kept (t.stuckOut x) := h.setW.setLast
theorem stepWrite {k b v} (h : s.Kept t) : s.Kept (t.stepWrite k b v) := ite h.err (ite h.setW (ite h.err h.setW.lenShow))

/-! The operations and meanings of Telemetry, Thermal, Rtc. -/

theorem modAdc {f} (h : s.Kept t) : s.Kept (t.modAdc f) := h.fields
theorem modCal {f} (h : s.Kept t) : s.Kept (t.modCal f) := h.modAdc
theorem modAcc {ch f} (h : s.Kept t) : s.Kept (t.modAcc ch f) := h.fields
theorem setChCfg {ch v} (h : s.Kept t) : s.Kept (t.setChCfg ch v) := h.setW
theorem setChCal {ch v} (h : s.Kept t) : s.Kept (t.setChCal ch v) := h.setW
theorem setConvAt {v p} (h : s.Kept t) : s.Kept (t.setConvAt v p) := h.modAdc
theorem setConv {v b} (h : s.Kept t) : s.Kept (t.setConv v b) := h.setConvAt.wrB.wrB.wr

theorem adcTabWrite {w v} (h : s.Kept t) : s.Kept (t.adcTabWrite w v) := by
  unfold State.adcTabWrite
  extract_lets _ _ _ _ s1 s2
  have hs1 : s.Kept s1 := ite h.setW h
  have hs2 : s.Kept s2 := ite hs1.setW hs1
  exact ite h.err (ite hs2 hs2.err)

theorem setUrg {v x} (h : s.Kept t) : s.Kept (t.setUrg v x) := h.modAdc
theorem urgRefuse {v} (h : s.Kept t) : s.Kept (t.urgRefuse v) := ite h.setUrg.wr.err h
theorem refOn (h : s.Kept t) : s.Kept t.refOn := ite h h.wr.wr.mark
theorem refOff (h : s.Kept t) : s.Kept t.refOff := h.wr.wr.wr.unmark.setConv.setConv.urgRefuse.urgRefuse
theorem setConvEn {v b} (h : s.Kept t) : s.Kept (t.setConvEn v b) := ite h.setConv (ite (ite h h.setConv) h.err)
theorem setResult {ch sum cnt} (h : s.Kept t) : s.Kept (t.setResult ch sum cnt) := h.setW.setW
theorem setSat {ch b} (h : s.Kept t) : s.Kept (t.setSat ch b) := h.setW.wrB
theorem selfCheck {ch sum cnt} (h : s.Kept t) : s.Kept (t.selfCheck ch sum cnt) := ite (ite h.modAdc.err h.modAdc) h
theorem accSync {ch} (h : s.Kept t) : s.Kept (t.accSync ch) := ite h h.setResult.modAcc.selfCheck

theorem accumulate {ch code} (h : s.Kept t) : s.Kept (t.accumulate ch code) := by
  unfold State.accumulate
  extract_lets _ _ _ _ _ s1 s2
  have hs1 : s.Kept s1 := h.accSync.modAcc
  have hs2 : s.Kept s2 := ite hs1.setResult hs1
  exact ite hs2.setSat.err hs2

theorem sampleCode {ch raw} (h : s.Kept t) : s.Kept (t.sampleCode ch raw).2 := ite h.setChan.err h.setChan
theorem calSample {ch raw} (h : s.Kept t) : s.Kept (t.calSample ch raw) := ite h.modCal h
theorem nextEntry {v k} (h : s.Kept t) : s.Kept (t.nextEntry v k) := h.setConvAt.wr

theorem aclr1 {ch} (h : s.Kept t) : s.Kept (t.aclr1 ch) := by
  unfold State.aclr1
  extract_lets _ _ _ _ s1
  have hs1 : s.Kept s1 := h.accSync.modAcc
  exact ite hs1.setResult hs1

theorem tclr1 {ch} (h : s.Kept t) : s.Kept (t.tclr1 ch) := h.modAcc
theorem satClear {i k v} (h : s.Kept t) : s.Kept (t.satClear i k v) := h.each fun _ _ h => ite h.setSat.aclr1 h
theorem adcUrg {c v} (h : s.Kept t) : s.Kept (t.adcUrg c v) := ite h.err (ite h.wr.err (ite h.wr h.setUrg.wr))
theorem entryAgain {v q} (h : s.Kept t) : s.Kept (t.entryAgain v q) := ite h.setConvAt h
theorem calDrop (h : s.Kept t) : s.Kept t.calDrop := h.modCal.wr
theorem calFail {k cause} (h : s.Kept t) : s.Kept (t.calFail k cause) := (ite h.calDrop.err h.calDrop).failK
theorem calLoad {ch} (h : s.Kept t) : s.Kept (t.calLoad ch) := ite h.setChCal.setChCfg h
theorem calLoads (h : s.Kept t) : s.Kept t.calLoads := h.each fun _ _ h => h.calLoad
theorem adcWake (h : s.Kept t) : s.Kept t.adcWake := ite h ((h.refOn.each (fun _ _ h => h.setChCal.setChCfg)).calLoads)

theorem calStart {tag st f} (h : s.Kept t) (hf : ∀ i u, s.Kept u → s.Kept (f i u)) : s.Kept (t.calStart tag st f) :=
  h.start fun _ _ h => ite (hf _ _ h) h

theorem modNode {k f} (h : s.Kept t) : s.Kept (t.modNode k f) := h.fields
theorem modThm {f} (h : s.Kept t) : s.Kept (t.modThm f) := h.fields

theorem readPowers (h : s.Kept t) : s.Kept t.readPowers := by
  unfold State.readPowers
  extract_lets _ s1 _
  have hs1 : s.Kept s1 := h.each (fun _ _ h => by
    split
    · exact h.modThm
    · exact h)
  exact ite hs1.modThm.err hs1.modThm

theorem keepT {k tag} (h : s.Kept t) : s.Kept (t.keepT k tag) := h.modNode.wrI

theorem thermNode {k} (h : s.Kept t) : s.Kept (t.thermNode k) := by
  unfold State.thermNode
  extract_lets _ _ _ _ _ _ _ s1 s2 _
  have hs1 : s.Kept s1 := h.modNode.wr
  have hs2 : s.Kept s2 := hs1.keepT.wr
  exact ite h (by
    split
    · exact hs1.modNode.wr.keepT
    · exact ite hs2 hs2.modNode.err)

theorem nodeInit {k keep} (h : s.Kept t) : s.Kept (t.nodeInit k keep) := by
  unfold State.nodeInit
  split
  · exact h.modNode.keepT.modNode
  · exact ite h h.keepT.modNode

theorem thermStart (h : s.Kept t) : s.Kept t.thermStart := (h.each (fun _ _ h => h.nodeInit)).wr

theorem dieStep (h : s.Kept t) : s.Kept t.dieStep := by
  unfold State.dieStep
  extract_lets _ _ _ s2
  have hs2 : s.Kept s2 := h.modThm.wr.wrB.wrB.modThm
  exact ite h.modThm (ite hs2.mark.err hs2)

theorem shedOut {x} (h : s.Kept t) : s.Kept (t.shedOut x) := ite h.disable h
theorem levelAct {k l} (h : s.Kept t) : s.Kept (t.levelAct k l) := ite h (ite h.shedOut.shedOut.errQ (ite (ite h h.ask) h))

theorem rise {k l} (h : s.Kept t) : s.Kept (t.rise k l) := by
  unfold State.rise
  extract_lets _ _ s1 _
  have hs1 : s.Kept s1 := h.wr.modNode.err
  exact ite h ((ite hs1.errQ hs1).each (fun _ _ h => h.levelAct))

theorem judge {k} (h : s.Kept t) : s.Kept (t.judge k) := ite h ((ite h.modNode.wr.err h.modNode).rise.settle)
theorem ceilings (h : s.Kept t) : s.Kept t.ceilings := (h.each (fun _ _ h => h.wr)).wr

theorem throttle (h : s.Kept t) : s.Kept t.throttle := by
  unfold State.throttle
  extract_lets _ _ _ s1 _ _
  have hs1 : s.Kept s1 := h.wr.wr.wrB
  exact ite ((ite hs1.err hs1).irq) (ite hs1.irq hs1)

theorem offsets {r} (h : s.Kept t) : s.Kept (t.offsets r) := ite h (h.each (fun _ _ h => h.wrI))
theorem reactions (h : s.Kept t) : s.Kept t.reactions := h.ceilings.throttle.each fun _ _ h => h.offsets

theorem thermUpdate {fresh} (h : s.Kept t) : s.Kept (t.thermUpdate fresh) :=
  (((ite h.readPowers h).each (fun _ _ h => h.thermNode)).dieStep.each (fun _ _ h => h.judge)).reactions

theorem thermReplay (h : s.Kept t) : s.Kept t.thermReplay := by
  unfold State.thermReplay
  extract_lets _ s1
  have hs1 : s.Kept s1 := h.readPowers.modThm
  exact ite (hs1.foldl (fun _ _ h => h.thermUpdate)) (hs1.each (fun _ _ h => h.nodeInit))

theorem hostAnchor {v} (h : s.Kept t) : s.Kept (t.hostAnchor v) := ite h.modNode h
theorem modClk {f} (h : s.Kept t) : s.Kept (t.modClk f) := h.fields
theorem rtcErr {bit cls detail} (h : s.Kept t) : s.Kept (t.rtcErr bit cls detail) := ite h.err h.wr.wr.modClk
theorem setCal {c} (h : s.Kept t) : s.Kept (t.setCal c) := h.wr.wr.wr.wr.wr.wr.wr
theorem secondTick {sub} (h : s.Kept t) : s.Kept (t.secondTick sub) := h.setCal.wr.modClk
theorem osfClear (h : s.Kept t) : s.Kept t.osfClear := ite h.wr.wr h
theorem setFrz {c f} (h : s.Kept t) : s.Kept (t.setFrz c f) := h.modClk
theorem unfreeze {c} (h : s.Kept t) : s.Kept (t.unfreeze c) := h.setFrz
theorem calRead {c i} (h : s.Kept t) : s.Kept (t.calRead c i).2 := ite h.unfreeze (ite h h.setFrz.mark)
theorem unpend (h : s.Kept t) : s.Kept t.unpend := h.wr

theorem rtcCtrl {c v} (h : s.Kept t) : s.Kept (t.rtcCtrl c v) := by
  unfold State.rtcCtrl
  extract_lets s1
  have hs1 : s.Kept s1 := ite h.unpend h
  exact ite hs1.unfreeze hs1

theorem rtcHold {c k v} (h : s.Kept t) : s.Kept (t.rtcHold c k v) := h.wr.wr.modClk
theorem rtcCommit {v} (h : s.Kept t) : s.Kept (t.rtcCommit v) := ite h.setCal.wr.unpend.modClk h.unpend.rtcErr

theorem toVbak (h : s.Kept t) : s.Kept t.toVbak := by
  unfold State.toVbak
  extract_lets _ s1 _ _
  have hs1 : s.Kept s1 := ite h.wr.bump.wr.rtcErr h.wr.bump
  exact ite hs1 hs1.wr.wr.wr.wr.wr.wr.wr.rtcErr

theorem bpor (h : s.Kept t) : s.Kept t.bpor := by
  unfold State.bpor
  extract_lets _ s2
  have hs2 : s.Kept s2 := h.resetKeys.modClk.rtcErr.rtcErr
  exact ite hs2 hs2.wr

theorem timeLoad (h : s.Kept t) : s.Kept t.timeLoad := h.fields.modClk.wrB
theorem setLatch {c v} (h : s.Kept t) : s.Kept (t.setLatch c v) := h.modClk
theorem nsRead {c} (h : s.Kept t) : s.Kept (t.nsRead c).2 := h.setLatch
theorem timeCtrl {op} (h : s.Kept t) : s.Kept (t.timeCtrl op) := ite (ite h.fields.modClk h.err) (ite h.wr (ite h.wr h))
theorem ppsBad (h : s.Kept t) : s.Kept t.ppsBad := h.count.err

/-! The operations and meanings of ModeRows, Writes, Twi, Contention, Interrupts, Collect. -/

theorem mainReset (h : s.Kept t) : s.Kept t.mainReset := ⟨h.pending, h.vioOut⟩

theorem por {feeds core} (h : s.Kept t) : s.Kept (t.por feeds core) := by
  unfold State.por
  extract_lets lock seen cs en run s1 s2 hb s3 s4 feed
  have h1 : s.Kept s1 := h.mainReset.wr.wrB.wrB.wrB
  have htap : ∀ u a b c d e, s.Kept u → s.Kept { u with wasLock := a, tap := b, tapIns := c, tapBit := d, tdo := e } :=
    fun _ _ _ _ _ _ h => h.fields
  have h2 : s.Kept s2 := (htap _ _ _ _ _ _ h1).wr.wr
  have h3 : s.Kept s3 := h2.modBus
  have h4 : s.Kept s4 := ite h3.pathStop (ite h3.setBus.wr h3.pathStart)
  exact h4.wakeBy

theorem wakePin {i lvl} (h : s.Kept t) : s.Kept (t.wakePin i lvl) := by
  unfold State.wakePin
  extract_lets _ _ s1 _ s2 _
  have hs1 : s.Kept s1 := h.fields
  have hs2 : s.Kept s2 := ite hs1 (ite hs1.fields.unmark (ite hs1.mark hs1))
  exact ite hs2 (ite hs2.wakeBy (ite hs2.ask hs2))

theorem reload (h : s.Kept t) : s.Kept t.reload := ite h.fwRuns h.setEngs.setEng.setW.err

theorem warmDone (h : s.Kept t) : s.Kept t.warmDone := by
  unfold State.warmDone
  extract_lets s1
  have hs1 : s.Kept s1 := h.reload.wr
  clear_value s1
  exact (hs1.iff (fun _ h => h.thermReplay)).restartTmos.owlWatch.activated

theorem reqAct {req} (h : s.Kept t) : s.Kept (t.reqAct req) :=
  ite h.ask (ite h.ask (ite h.ask.ask (ite h.ask (ite h.ask (ite h.ask (ite (ite h.ask h.warmStart) h))))))

theorem modeReq {c v} (h : s.Kept t) : s.Kept (t.modeReq c v) := ite h.reqAct h.err
theorem modeReqAs {c v req} (h : s.Kept t) : s.Kept (t.modeReqAs c v req) := h.ifWrites fun _ h => h.modeReq

theorem replaceClear {v} (h : s.Kept t) : s.Kept (t.replaceClear v) := by
  unfold State.replaceClear
  extract_lets s1
  have hs1 : s.Kept s1 := ite h.fields.setRepl h
  exact ite hs1.setRepl hs1

theorem insupShow (h : s.Kept t) : s.Kept t.insupShow := h.wr.wrB

theorem supplyBad {k feeds} (h : s.Kept t) : s.Kept (t.supplyBad k feeds) := by
  unfold State.supplyBad
  extract_lets _ s2
  have hs2 : s.Kept s2 := h.fields.insupShow.wr.err
  exact ite h.por (ite hs2.refOff hs2)

theorem mctrlWrite {c op arg} (h : s.Kept t) : s.Kept (t.mctrlWrite c op arg) := h.ifWrites fun _ h => h.mctrl
theorem convWrite {k v} (h : s.Kept t) : s.Kept (t.convWrite k v) := (ite h (ite h.err h.wr)).wr.setConvEn
theorem aclr {i v} (h : s.Kept t) : s.Kept (t.aclr i v) := h.each fun _ _ h => h.aclr1
theorem tclr {i v} (h : s.Kept t) : s.Kept (t.tclr i v) := h.each fun _ _ h => h.tclr1

theorem twLast {i k cause byte bit} (h : s.Kept t) : s.Kept (t.twLast i k cause byte bit) := by
  unfold State.twLast
  extract_lets d b
  have hb : s.Kept b.2 := by
    unfold b
    split
    · exact h
    · exact h.draw
  exact hb.wr.wr.wr.wr

theorem twClose {i k st res} (h : s.Kept t) : s.Kept (t.twClose i k st res) := h.fields.completeB.twRest
theorem twEnd {i k st res} (h : s.Kept t) : s.Kept (t.twEnd i k st res) := ite h.modTwi h.twClose
theorem twFail {i k cause} (h : s.Kept t) : s.Kept (t.twFail i k cause) := h.twLast.twEnd
theorem twGood {i k} (h : s.Kept t) : s.Kept (t.twGood i k) := h.count.twEnd
theorem twTurn {i p ph got} (h : s.Kept t) : s.Kept (t.twTurn i p ph got) := h.modTwi

theorem twMove {i k n ins} (h : s.Kept t) : s.Kept (t.twMove i k n ins) := by
  unfold State.twMove
  extract_lets _ _ _
  exact h.modTwi

theorem twLost {i k bit} (h : s.Kept t) : s.Kept (t.twLost i k bit) := by
  unfold State.twLost
  extract_lets _ s1
  have hs1 : s.Kept s1 := h.twLast.err.count
  exact ite hs1.twEnd hs1.modTwi.setTwiSt

theorem twStep {i k x} (h : s.Kept t) : s.Kept (t.twStep i k x) := by
  unfold State.twStep
  extract_lets _ _ _ _ _
  split
  · exact h.twMove
  · exact h.twMove.twFail.err
  · exact h.twMove.twLost
  · exact h.twMove.twFail.err
  · exact ite h.twMove.twFail.err (by
      split
      · exact h.twMove.twGood
      · exact h.twMove.twTurn)
  · exact ite h.twMove.modTwi.mark h.twMove

theorem twRun {i k l} (h : s.Kept t) : s.Kept (t.twRun i k l) := by
  induction l generalizing t with
  | nil => exact h
  | cons x l ih => exact ite (ih h.twStep) h

theorem twBegin {k} (h : s.Kept t) : s.Kept (t.twBegin k) := h.runK.modTwi.setTwiSt

theorem twDisabled {i k} (h : s.Kept t) : s.Kept (t.twDisabled i k) := by
  have hlast : s.Kept (t.twLast i k 3 0 none) := h.twLast
  exact hlast.fields.completeB

theorem twOff {i} (h : s.Kept t) : s.Kept (t.twOff i) := by
  unfold State.twOff
  extract_lets _ s2
  have hs2 : s.Kept s2 := h.wr.foldl fun _ _ h => h.twDisabled
  exact ite hs2.twRest hs2

theorem twRecover {i freed} (h : s.Kept t) : s.Kept (t.twRecover i freed) := by
  unfold State.twRecover
  extract_lets _ _ s2
  have hs2 : s.Kept s2 := by
    unfold s2
    split
    · exact h.err.twLast.twEnd
    · exact h.err
  exact ite (ite h.err.twRest h.err) hs2.twOff

theorem twCtrl {i v} (h : s.Kept t) : s.Kept (t.twCtrl i v) := by
  unfold State.twCtrl
  extract_lets s1
  have hs1 : s.Kept s1 := ite (by
    split
    · exact h.twFail
    · exact ite h.twRest h) h
  exact ite hs1.setTwiSt hs1

theorem twCfg {i v} (h : s.Kept t) : s.Kept (t.twCfg i v) := ite h.setW.twOff (ite h.setW h.setW.twRest)
theorem twPause {k} (h : s.Kept t) : s.Kept (t.twPause k).1 := ite1 h.fields.twRest h

theorem engineGives {r} (h : s.Kept t) : s.Kept (t.engineGives r) := by
  unfold State.engineGives
  split
  · exact ite h.setGrant.arbShow h
  · exact h

theorem doomedEnd {p} (h : s.Kept t) : s.Kept (t.doomedEnd p) := ite h.fields (ite h.fields.revoke h)

theorem revokeAt {r done} (h : s.Kept t) : s.Kept (t.revokeAt r done) := by
  unfold State.revokeAt
  extract_lets _ _ q
  have hq : s.Kept q.1 := by
    unfold q
    split
    · split
      · split
        · exact ite1 h.twPause (ite1 h.dgPause h)
        · exact h
      · exact h
    · exact h
  exact ite h hq.revoke.arbServe

theorem directAsk {c r} (h : s.Kept t) : s.Kept (t.directAsk c r) := ite h.err (ite h.request h.err)
theorem directRelease {c r} (h : s.Kept t) : s.Kept (t.directRelease c r) := ite h.setGrant.arbShow h
theorem selfReq {c v} (h : s.Kept t) : s.Kept (t.selfReq c v) := ite h.directAsk (ite h.directRelease h)
theorem selfReqAs {c op r} (h : s.Kept t) : s.Kept (t.selfReqAs c op r) := h.ifWrites fun _ h => h.selfReq

theorem directDrop {c} (h : s.Kept t) : s.Kept (t.directDrop c) :=
  ((h.each (fun _ _ h => ite h.fields.doomedEnd h)).each (fun _ _ h => h.setQueue)).arbShow

theorem claim {c} (h : s.Kept t) : s.Kept (t.claim c).2 := by
  unfold State.claim
  split
  · exact h
  · exact ite2 h h.intPut.intPut.intRefresh

theorem claimDone {c v} (h : s.Kept t) : s.Kept (t.claimDone c v) := ite h.modCtx.intPut.intRefresh h.modCtx.intRefresh.errQ
theorem setPend {c v} (h : s.Kept t) : s.Kept (t.setPend c v) := ite h.intPut.intRefresh h.errQ

theorem irqEnable {p v} (h : s.Kept t) : s.Kept (t.irqEnable p v) := by
  unfold State.irqEnable
  extract_lets _ _ _ _
  exact ite h.setW (h.setW.each (fun _ _ h => by
    split
    · exact h.edge
    · exact h))

theorem ackId {id} (h : s.Kept t) : s.Kept (t.ackId id) := ite h.ackEv.ackShow h.errQ
theorem ackAll (h : s.Kept t) : s.Kept t.ackAll := (h.each (fun _ _ h => h.ackEv)).ackShow
theorem ackWrite {v} (h : s.Kept t) : s.Kept (t.ackWrite v) := ite h.ackAll h.ackId
theorem latAck {k v} (h : s.Kept t) : s.Kept (t.latAck k v) := (h.each (fun _ _ h => h.ackEv)).ackShow
theorem forceRaise {ev cls} (h : s.Kept t) : s.Kept (t.forceRaise ev cls) := h.fields
theorem fltForce {k v} (h : s.Kept t) : s.Kept (t.fltForce k v) := h.each fun _ _ h => h.forceRaise
theorem forcedCls {p i} (h : s.Kept t) : s.Kept (t.forcedCls p i).2 := ite2 h.draw (ite2 h.draw h)

theorem errForce1 {p i} (h : s.Kept t) : s.Kept (t.errForce1 p i) := by
  unfold State.errForce1
  extract_lets _ _ q
  have hq : s.Kept q.2 := h.errQ.forcedCls
  exact ite h.errQ (ite hq hq.forceRaise)

theorem errForce {p v} (h : s.Kept t) : s.Kept (t.errForce p v) := h.each fun _ _ h => h.errForce1
theorem fctrl {v} (h : s.Kept t) : s.Kept (t.fctrl v) := ite h.wr.wr (ite h.wr.wr h.wr.errQ)

/-! The operations and meanings of Pins, RegWrite, RegRead, Frames, Bale. -/

theorem lockWrite {c p v} (h : s.Kept t) : s.Kept (t.lockWrite c p v) := ite h.wr.wr (ite h.wr h)
theorem ownerWrite {p v} (h : s.Kept t) : s.Kept (t.ownerWrite p v) := h.wr
theorem gpioMark {n} (h : s.Kept t) : s.Kept (t.gpioMark n) := h.fields
theorem gpioEdge {n lvl} (h : s.Kept t) : s.Kept (t.gpioEdge n lvl) := ite h (ite h.wrB.gpioMark.irq h.wrB)
theorem gpioAgain (h : s.Kept t) : s.Kept t.gpioAgain := ite (h.each (fun _ _ h => ite h.irq (ite h.wr h))) h
theorem outSet {v} (h : s.Kept t) : s.Kept (t.outSet v) := h.wr
theorem outClr {v} (h : s.Kept t) : s.Kept (t.outClr v) := h.wr

theorem tapAct {lv d} (h : s.Kept t) : s.Kept (t.tapAct lv d) := by
  unfold State.tapAct
  split
  · exact ite h.fields h.fields
  · exact ite h.fields h.fields
  · exact h.fields
  · exact h

theorem tapClock {ins lv m d} (h : s.Kept t) : s.Kept (t.tapClock ins lv m d) := by
  unfold State.tapClock
  extract_lets s1 n
  have h1 : s.Kept s1 := h.tapAct
  clear_value s1 n
  split
  · exact h1.fields
  · exact h1.fields
  · exact h1.fields
  · exact h1.fields

theorem tapRun {ins lv l} (h : s.Kept t) : s.Kept (t.tapRun ins lv l) := by
  induction l generalizing t with
  | nil => exact h
  | cons x l ih => exact ih h.tapClock

theorem putAt {k a m v} (h : s.Kept t) : s.Kept (t.putAt k a m v) := h.setW
theorem put {a m v} (h : s.Kept t) : s.Kept (t.put a m v) := h.putAt
theorem cmdReg {m f} (h : s.Kept t) (hf : ∀ u, s.Kept u → s.Kept (f u)) : s.Kept (t.cmdReg m f) := ite h (hf _ h)
theorem enWrite {x b imon} (h : s.Kept t) : s.Kept (t.enWrite x b imon) := ite h.hostOn h.hostOff

theorem wrDEV {c o m v} (h : s.Kept t) : s.Kept (t.wrDEV c o m v) :=
  ite (h.cmdReg (fun _ h => h.modeReq)) (ite h.replaceClear (ite h.put.wakeCfg h.put))

theorem wrCLK {o m v} (h : s.Kept t) : s.Kept (t.wrCLK o m v) := ite h.clkRet h.put
theorem ringCfg {a m v} (h : s.Kept t) : s.Kept (t.ringCfg a m v) := ite h.err h.setW

theorem wrCQE {c o m v} (h : s.Kept t) : s.Kept (t.wrCQE c o m v) :=
  ite h.putAt (ite h.put (ite (ite h h.ringCfg) (ite h (ite h.put.ringIrq h.put))))

theorem wrARB {c o m v} (h : s.Kept t) : s.Kept (t.wrARB c o m v) := ite (h.cmdReg (fun _ h => h.selfReq)) (ite h.putAt h.put)
theorem intRegPut {n o m v} (h : s.Kept t) : s.Kept (t.intRegPut n o m v) := h.putAt.intRefresh

theorem wrINT {c o m v} (h : s.Kept t) : s.Kept (t.wrINT c o m v) :=
  ite h.put (ite h.putAt (ite (h.cmdReg (fun _ h => h.claimDone)) (ite (h.cmdReg (fun _ h => h.setPend)) h.intRegPut)))

theorem wrFLT {o m v} (h : s.Kept t) : s.Kept (t.wrFLT o m v) :=
  ite h.fctrl (ite (h.cmdReg (fun _ h => h.ackWrite)) (ite h.latAck (ite h.fltForce (ite h h.put))))

theorem wrWDG {c o m v} (h : s.Kept t) : s.Kept (t.wrWDG c o m v) := ite (h.cmdReg (fun _ h => h.kick)) (ite h.owlCfg (ite h.owlTime h.put))
theorem wrSEQ {o m v} (h : s.Kept t) : s.Kept (t.wrSEQ o m v) := ite h.stepWrite h.put

theorem wrFLAIL {c o m v} (h : s.Kept t) : s.Kept (t.wrFLAIL c o m v) :=
  ite (ite h.alarmAsk h) (ite (h.cmdReg (fun _ h => h.mctrl)) (ite h.put.roleWatch h.put))

theorem margNext {x m v} (h : s.Kept t) : s.Kept (t.margNext x m v) := ite h.put h.put.wrI.errQ

theorem wrMARG {o m v} (h : s.Kept t) : s.Kept (t.wrMARG o m v) := by
  unfold State.wrMARG
  extract_lets s1 _
  have hs1 : s.Kept s1 := ite h.margApply h
  exact ite (ite hs1.setArm hs1) (ite (ite h.put.setArm h.put) (ite h.margNext h.put))

theorem mapBusy {p r} (h : s.Kept t) : s.Kept (t.mapBusy p r) := h.err

theorem mapWrite {pgn p m v} (h : s.Kept t) : s.Kept (t.mapWrite pgn p m v) := by
  unfold State.mapWrite
  extract_lets _
  exact ite h.put (by
    split
    · exact h.mapBusy
    · exact ite h.put (h.put.phRest.each (fun _ _ h => h.lidStale)))

theorem imWrite {pgn p m v} (h : s.Kept t) : s.Kept (t.imWrite pgn p m v) := ite h.mapBusy h.put
theorem wrPHX {p o m v} (h : s.Kept t) : s.Kept (t.wrPHX p o m v) := ite h.mapWrite (ite h.imWrite (ite h.put (ite h.mapBusy h.put)))

theorem wrRAIL {n o imon m v} (h : s.Kept t) : s.Kept (t.wrRAIL n o imon m v) :=
  ite (ite h.put.enWrite h.put) (ite (ite h.setVset h) (ite h.put.retarget (ite (h.cmdReg (fun _ h => h.setFsw)) (ite (ite h h.coefCtrl) h.put))))

theorem wrBUSC {o m v} (h : s.Kept t) : s.Kept (t.wrBUSC o m v) := ite (ite h.setBusEn h) (ite h.err h.put.busWatch)
theorem chgRange {m f lo hi} (h : s.Kept t) : s.Kept (t.chgRange m f lo hi) := ite h.wr.err h

theorem chgCfg {m v} (h : s.Kept t) : s.Kept (t.chgCfg m v) := by
  unfold State.chgCfg
  extract_lets _ _ _ _ _ s2 s3
  have hs2 : s.Kept s2 := ite h.put.err h.put.chgRange
  have hs3 : s.Kept s3 := ite hs2.wr.modChg hs2
  exact ite hs3.chgEn hs3

theorem wrCHG {o m v} (h : s.Kept t) : s.Kept (t.wrCHG o m v) :=
  ite h.chgCfg (ite h.put.chgRange.chgRange (ite h.put.chgRange.chgRange (ite h.put.chgWatch h.put)))

theorem wrPORT {o m v} (h : s.Kept t) : s.Kept (t.wrPORT o m v) := by
  unfold State.wrPORT
  extract_lets _ _ s2 _
  have hs2 : s.Kept s2 := ite h.put.setPEn h.put
  exact ite (ite hs2.setBlock hs2) (ite (ite h.put.setNEn h.put) h.put)

theorem parWrite {n b} (h : s.Kept t) : s.Kept (t.parWrite n b) := ite h.setPar h

theorem wrBUCK {p o m v} (h : s.Kept t) : s.Kept (t.wrBUCK p o m v) := by
  unfold State.wrBUCK
  extract_lets _ _ _ s2
  have hs2 : s.Kept s2 := ite h.put.parWrite h.put
  exact ite (ite (ite hs2.enWrite hs2) (ite (ite h.setVset h) (ite h.put.retarget h.put))) h.put

theorem wrLDO {o m v} (h : s.Kept t) : s.Kept (t.wrLDO o m v) := by
  unfold State.wrLDO
  extract_lets _ _ _ s2 _
  have hs2 : s.Kept s2 := ite h.put.lsClose h.put
  exact ite (ite hs2.enWrite hs2) (ite (ite h.put.setVset h.put.retarget) h.put)

theorem disForceWrite {x b} (h : s.Kept t) : s.Kept (t.disForceWrite x b) := ite h.disForce (ite h.wr (ite h.wr (ite h.undischarge h)))
theorem wrSUPV {o m v} (h : s.Kept t) : s.Kept (t.wrSUPV o m v) := ite (ite h.put.disForceWrite h.put) h.put
theorem winWrite {v} (h : s.Kept t) : s.Kept (t.winWrite v) := ite h.setChCfg.setResult h.setChCfg

theorem wrADC {c o m v} (h : s.Kept t) : s.Kept (t.wrADC c o m v) :=
  ite (ite (ite h.refOn h.refOff) h) (ite (h.cmdReg (fun _ h => h.convWrite)) (ite (h.cmdReg (fun _ h => h.adcUrg)) (ite h.winWrite
    (ite h.setChCal (ite h.adcTabWrite h.put)))))

theorem wrACC {c i o m v} (h : s.Kept t) : s.Kept (t.wrACC c i o m v) :=
  ite (h.cmdReg (fun _ h => h.aclr)) (ite (h.cmdReg (fun _ h => h.tclr)) (ite h.putAt (ite h.satClear h.put)))

theorem wrTHM {o m v} (h : s.Kept t) : s.Kept (t.wrTHM o m v) := ite (h.cmdReg (fun _ h => h.hostAnchor)) (ite h.put.wr h.put)

theorem wrRTC {c o m v} (h : s.Kept t) : s.Kept (t.wrRTC c o m v) := by
  unfold State.wrRTC
  extract_lets _ _
  exact ite (ite h.put.osfClear h.put) (ite (h.cmdReg (fun _ h => h.rtcCommit)) (ite h.rtcCtrl (by
    split
    · exact h.cmdReg fun _ h => h.rtcHold
    · exact h.put)))

theorem wrTIME {o m v} (h : s.Kept t) : s.Kept (t.wrTIME o m v) := ite h.timeCtrl h.put
theorem wrTWI {i o m v} (h : s.Kept t) : s.Kept (t.wrTWI i o m v) := ite (h.cmdReg (fun _ h => h.twCfg)) (ite h.twCtrl h.put)
theorem wrOTP {c o m v} (h : s.Kept t) : s.Kept (t.wrOTP c o m v) := ite h.putAt (ite h.ovrCtrl h.put)
theorem wrNVM {o fail m v} (h : s.Kept t) : s.Kept (t.wrNVM o fail m v) := ite (ite h h.ldrCtrl) h.put
theorem wrECC {o m v} (h : s.Kept t) : s.Kept (t.wrECC o m v) := ite h.put.retShow h.put
theorem wrLOG {c o m v} (h : s.Kept t) : s.Kept (t.wrLOG c o m v) := ite h.putAt h.put
theorem wrGPIO {o m v} (h : s.Kept t) : s.Kept (t.wrGPIO o m v) := ite h.outSet (ite h.outClr h.put)

theorem wrHDR {c p o m v} (h : s.Kept t) : s.Kept (t.wrHDR c p o m v) :=
  ite h.errForce (ite h.irqEnable (ite h.lockWrite (ite h.ownerWrite (ite h.put.gpioAgain h.put))))

theorem regWrite {c a m v imon fail} (h : s.Kept t) : s.Kept (t.regWrite c a m v imon fail) := by
  unfold State.regWrite
  extract_lets q o u
  have hu : s.Kept u := ite h.busTouched h
  clear_value u q
  refine ite hu.wrHDR ?_
  split
  · exact hu.wrDEV
  · exact hu.wrCLK
  · exact hu.wrCQE
  · exact hu.wrARB
  · exact hu.wrINT
  · exact hu.wrFLT
  · exact hu.wrWDG
  · exact hu.wrSEQ
  · exact hu.wrFLAIL
  · exact hu.wrMARG
  · exact hu.wrPHX
  · exact hu.wrPHX
  · exact hu.wrBUSC
  · exact hu.wrCHG
  · exact hu.wrPORT
  · exact hu.wrBUCK
  · exact hu.wrBUCK
  · exact hu.wrLDO
  · exact hu.wrSUPV
  · exact hu.wrADC
  · exact hu.wrACC
  · exact hu.wrACC
  · exact hu.wrTHM
  · exact hu.wrRTC
  · exact hu.wrTIME
  · exact hu.wrTWI
  · exact hu.wrTWI
  · exact hu.wrOTP
  · exact hu.wrNVM
  · exact hu.wrECC
  · exact hu.wrLOG
  · exact hu.wrGPIO
  · exact ite hu.wrRAIL hu.put

theorem freeBits {x lo w} (h : s.Kept t) : s.Kept (t.freeBits x lo w).2 := h.draw
theorem rdFeStat {n} (h : s.Kept t) : s.Kept (t.rdFeStat n).2 := ite2 h.draw h
theorem rdINT {c o} (h : s.Kept t) : s.Kept (t.rdINT c o).2 := ite2 h (ite2 h (ite2 h.claim h))
theorem rdRTC {c o} (h : s.Kept t) : s.Kept (t.rdRTC c o).2 := ite2 h (ite2 h.calRead h)
theorem rdTIME {c o} (h : s.Kept t) : s.Kept (t.rdTIME c o).2 := ite2 h.nsRead (ite2 h (ite2 h h))

theorem rdFLAIL {o} (h : s.Kept t) : s.Kept (t.rdFLAIL o).2 := by
  unfold State.rdFLAIL
  extract_lets _ q
  have hq : s.Kept q.2 := ite2 h h.freeBits
  exact ite2 h (ite2 hq (ite2 hq hq.freeBits))

theorem rdTWI {i o} (h : s.Kept t) : s.Kept (t.rdTWI i o).2 := ite2 h.freeBits h

theorem regRead {c a low} (h : s.Kept t) : s.Kept (t.regRead c a low).2 := by
  unfold State.regRead
  extract_lets _
  split
  · exact ite2 h.rdFeStat (ite2 h.pcNow h)
  · exact h
  · exact h
  · exact h
  · exact h.rdINT
  · exact h
  · exact h.rdFLAIL
  · exact h
  · exact h
  · exact h
  · exact h
  · exact h
  · exact h.rdRTC
  · exact h.rdTIME
  · exact h.rdTWI
  · exact h.rdTWI
  · exact h
  · exact h
  · exact h
  · exact h
  · exact h

theorem quarantine {c} (h : s.Kept t) : s.Kept (t.quarantine c) := h.wrB.err.directDrop

theorem violation {c st addr} (h : s.Kept t) : s.Kept (t.violation c st addr) := by
  unfold State.violation
  extract_lets _ s2 _ s4
  have hs2 : s.Kept s2 := h.count.wr.wr
  have hs4 : s.Kept s4 := (ite hs2.errQ hs2.err.mark).modCtx.bump
  exact ite hs4.quarantine hs4

theorem frameEnd {c f st viol} (h : s.Kept t) : s.Kept (t.frameEnd c f st viol) := ite h.modCtx.violation h.modCtx
theorem accept {c seq} (h : s.Kept t) : s.Kept (t.accept c seq) := h.wr.wrB.count
theorem csBoth {c f} (h : s.Kept t) : s.Kept (t.csBoth c f) := ite h.err h

theorem frame {c op f run} (h : s.Kept t) (hrun : ∀ u, s.Kept u → s.Kept (run u).2) : s.Kept (t.frame c op f run) :=
  ite (hrun _ h.csBoth).answer h

theorem readRegs {c f n k} (h : s.Kept t) : s.Kept (t.readRegs c f n k).2 := by
  induction n generalizing t k with
  | zero => exact h
  | succ n ih => exact ih h.regRead

theorem frameHits {f} (h : s.Kept t) : s.Kept (t.frameHits f) :=
  h.foldl (fun _ _ h => ite (by
    split
    · exact h.eccHit
    · exact h) h)

theorem readDo {c f} (h : s.Kept t) : s.Kept (t.readDo c f).2 := snd h.readRegs.frameHits.modCtx
theorem readRun {c f} (h : s.Kept t) : s.Kept (t.readRun c f).2 := ite2 (ite h.readDo.frameEnd h.readDo.accept.frameEnd) h.frameEnd
theorem statusRun {c f} (h : s.Kept t) : s.Kept (t.statusRun c f) := ite h.frameEnd (ite h.frameEnd h.frameEnd)
theorem setCqh {c hid} (h : s.Kept t) : s.Kept (t.setCqh c hid) := h.wr.wr.modCtx.ringIrq
theorem lockPages {c} (h : s.Kept t) : s.Kept (t.lockPages c) := h.each fun _ _ h => h.wr

theorem ctxReset {c} (h : s.Kept t) : s.Kept (t.ctxReset c) := by
  unfold State.ctxReset
  extract_lets _ _ s3 _ s5 _
  have hs3 : s.Kept s3 := h.directDrop.lockPages.resetKeys.wrB.wrB.wr.wr.modCtx
  clear_value s3
  have hs5 : s.Kept s5 := hs3.fields.unfreeze.setLatch
  exact (ite hs5.unpend hs5).arbShow.intRefresh

theorem writeRegs {c f l} (h : s.Kept t) : s.Kept (t.writeRegs c f l) :=
  h.foldl (fun _ _ h => ite (by
    split
    · exact h.setCqh
    · exact h) h.regWrite)

theorem writeRun {c f} (h : s.Kept t) : s.Kept (t.writeRun c f) := ite (ite h.ctxReset h.frameEnd) (ite h.writeRegs.accept.frameEnd h.frameEnd)
theorem bellRun {c f} (h : s.Kept t) : s.Kept (t.bellRun c f) := ite h.wr.wr.modCtx.accept.frameEnd h.frameEnd

theorem letIn {k flags ue} (h : s.Kept t) : s.Kept (t.letIn k flags ue) :=
  ite h.err.complete (ite h.err.complete (ite h.err.complete (ite h.err.complete (ite h.complete h.askNext))))

theorem fetch {c hits} (h : s.Kept t) : s.Kept (t.fetch c hits) := by
  unfold State.fetch
  extract_lets s0 _ _
  have hs0 : s.Kept s0 := h.eccHits
  clear_value s0
  split
  · exact h
  · extract_lets d s1 s2 _
    have hd : s.Kept d.2 := ite2 hs0.draw hs0
    clear_value d
    have hs1 : s.Kept s1 := hd.wr.wr.wr
    clear_value s1
    have hs2 : s.Kept s2 := hs1.wr.modCtx
    clear_value s2
    exact hs2.fields.letIn

theorem recWrite {csel a v imon fail} (h : s.Kept t) : s.Kept (t.recWrite csel a v imon fail).1 :=
  ite1 h (ite1 h.intRegPut (ite1 (h.each (fun _ _ h => h.regWrite)) (ite1 h.put (ite1 h.setW.lenShow h.regWrite))))

theorem baleRecs {base nodes imon fail n i csel keys} (h : s.Kept t) : s.Kept (State.baleRecs base nodes imon fail n t i csel keys).1 := by
  induction n generalizing t i csel keys with
  | zero => exact h
  | succ n ih => exact ite1 h (ih h.recWrite)

theorem baleTaken {slot digest} (h : s.Kept t) : s.Kept (t.baleTaken slot digest) := by
  unfold State.baleTaken
  extract_lets _ _ s2 _ src s4
  have hs2 : s.Kept s2 := h.wr.wr.wr.wr.wr.wr
  have hsrc : s.Kept src := ((ite hs2.wr.loftKeep hs2).iff (fun _ h => h.calLoads)).wakingEnds.chgLeaveAbsent.thermStart
  have hs4 : s.Kept s4 := hsrc.fields
  exact ite hs4.fields.actEnd.enterParked hs4.actEnd.enterRising

theorem baleFrom {slot hits imon fail} (h : s.Kept t) : s.Kept (t.baleFrom slot hits imon fail) := by
  unfold State.baleFrom
  extract_lets _ _ _ q
  split
  · exact h.toHold
  · split
    · exact h.toHold
    · split
      · exact h.reject.toHold
      · exact ite h.toHold (ite h.toHold (ite h.toHold (by
          split
          · exact h.baleRecs.toHold
          · split
            · exact h.baleRecs.toHold
            · exact h.baleRecs.baleTaken)))

theorem baleLoad {hits imon fail} (h : s.Kept t) : s.Kept (t.baleLoad hits imon fail) := by
  unfold State.baleLoad
  split
  · exact h.toHold
  · exact ite h.toHold (by
      split
      · exact h.toHold
      · exact (ite h h.wr.loftKeep).baleFrom)

end State.Kept

end Sys2Proof.Machine
end

section
/-! SUPPORT. No command touches the queue. -/

namespace Sys2Proof.Machine

open Sys2Proof

/-- A meaning whose next state has the queue of `s`. -/
def QueueKept (s : State) (o : Host.Outcome State Fault Refusal) : Prop := ∀ u, o = .next u → u.pending = s.pending

namespace QueueKept

variable {s t : State}

theorem next (h : t.pending = s.pending) : QueueKept s (.next t) := by
  rintro _ ⟨⟩
  exact h

theorem of_settle (h : t.pending = s.pending) : QueueKept s (.next t.settle) :=
  next ((State.Kept.refl t).settle.pending.trans h)

end QueueKept

namespace State.Kept

variable {s t u : State}

theorem out (h : s.Kept t) : QueueKept s (.next t.settle) := .of_settle h.pending

theorem bootAt {n} (h : s.Kept t) : s.Kept { t with boot := n } := h.fields

theorem execIdent {g ref ids maxn own coll} (h : s.Kept t) : QueueKept s (execIdent g ref ids maxn own coll t) := by
  refine .next (pending ?_)
  extract_lets grp names most named s0 s1 s2 s3 s4 s5 s6
  have h5 : s.Kept s5 :=
    ((ite h h.unmark.dethrone).wrB.wr.wrB.each (fun _ _ h => h.setW)).putDiss.irq.foldl fun _ _ h => h.post.settle
  have h6 : s.Kept s6 := h5.fields
  exact ite h.settle (ite (ite h h.unmark.dethrone).collide.settle (ite h6.roundFrame h5).settle)

/-- The loss of VIO changes what is known of VIO, and nothing after that does. -/
theorem vioLoss (s : State) : { s with vioOut := true }.Kept s.vioLoss := by
  have h : { s with vioOut := true }.Kept { s with vioOut := true } := refl _
  exact ite (h.each (fun _ _ h => h.hintEdge)).twCtrl.twCtrl h

theorem execVioLoss {mv us} (h : s.Kept t) : QueueKept s (execVioLoss mv us t) := by
  refine .of_settle ?_
  split
  · exact h.pending
  · exact (vioLoss t).pending.trans h.pending

theorem exec_queue (c : Instr) (h : s.Kept t) : QueueKept s (exec c t) := by
  cases c with
  | por => exact out h.por
  | fallowEntry => exact out (by
      extract_lets _ s1 _
      have hs1 : s.Kept s1 := (ite h.toVbak h).mainReset
      exact (ite h hs1.fields.wr.wr))
  | bpor => exact out h.bpor
  | wakePinChange => exact out h.wakePin
  | holdonRelease => exact out (ite (ask h.fields) h)
  | checkerSelfTest => exact out (by
      extract_lets _
      exact (ite (by
        split
        · exact h.fields
        · exact h.err) h))
  | lockstepSelfTest => exact out (ite h.selfTest h)
  | otpReadPass => exact out (ite h.readPass h)
  | safeStateLineTest => exact out (ite (by
      split
      · exact h.post
      · exact h) h)
  | loftScan => exact out (ite h.loftScan.bootAt h)
  | logScan => exact out (ite h.logScan h)
  | imageAuthentication => exact out (ite h.imageAuth h)
  | baleLoad => exact out (ite h.adcWake.eccHits.baleLoad h)
  | timeLoad => exact out (ite h.timeLoad h)
  | bootSlotExpiry => exact out (ite h.bootExpire h)
  | warmComplete => exact out (ite h.warmDone h)
  | holdupCountdownEnd => exact out (ite h.ask h)
  | vbusFloor => exact out (ite h.ask h)
  | serviceTimeout => exact out (ite h.ask h)
  | minoffEnd => exact out (ite h.ask h)
  | modeReqOff => exact out h.modeReqAs
  | modeReqStandby => exact out h.modeReqAs
  | modeReqRun => exact out h.modeReqAs
  | modeReqService => exact out h.modeReqAs
  | modeReqRevalidate => exact out h.modeReqAs
  | modeReqRestart => exact out h.modeReqAs
  | modeReqWarm => exact out h.modeReqAs
  | replaceSrcClear => exact out (h.ifWrites fun _ h => h.replaceClear)
  | railEnSet => exact out (h.ifField fun _ h => h.hostOn)
  | railEnClear => exact out (h.ifField fun _ h => h.hostOff)
  | railVsetWrite => exact out (h.ifWrites fun _ h => h.setVset)
  | railFswWrite => exact out (h.ifWrites fun _ h => h.setFsw)
  | prebiasSearchDone => exact out h.railPrebias
  | loopSample => exact out (ite h.railSample h)
  | coefApply => exact out (h.ifWrites fun _ h => h.coefCtrl)
  | coefCopy => exact out (h.ifWrites fun _ h => h.coefCtrl)
  | winOvr => exact out (ite h.modRail.err h)
  | setV => exact out (h.start fun _ _ h => h.moveTo)
  | ramp => exact out (h.start fun _ _ h => h.moveTo)
  | loopId => exact out (h.start (fun _ _ h => by
      extract_lets _
      split
      · exact h.lidCause.failK
      · exact h.runK.lidStart))
  | lidSettleEnd => exact out (ite h.wr h)
  | lidInjectionEnd => exact out (ite h.wr h)
  | lidComputeDone => exact out (ite h.lidDone h)
  | loopCommit => exact out (h.start (fun _ _ h => ite ((ite h.commitProp h.commitProp.swapNow).doneK) h.lidCause.failK))
  | masterPeriodStart => exact out (ite h.period h)
  | hintEdge => exact out (ite h.hintEdge h)
  | hintWindowEnd => exact out h.hintEnd
  | shedDecision => exact out (by
      split
      · exact h.shedBegin
      · exact h)
  | shedComplete => exact out (ite h.shedEnd h)
  | addComplete => exact out (ite h.addEnd h)
  | shedHoldEnd => exact out (ite h.modSheaf h)
  | sfltFault => exact out (by
      extract_lets _ s1
      have hs1 : s.Kept s1 := h.wrB.wrB
      exact (ite (ite hs1.identify hs1) h))
  | outOfFamily => exact out (ite h.err.removePhase h)
  | peakTrip => exact out (ite h.peakTrip h.busPeak)
  | negCurrentLimit => exact out (ite h.negTrip h.busNeg)
  | hiccupEntry => exact out (ite h.enterHiccup h)
  | hiccupOffEnd => exact out (ite (ite h.bump.railSoft h.bump.buckSoft) h)
  | retryClear => exact out (ite h.wr h)
  | startShortCheck => exact out h.ssCheck
  | ovTrip => exact out (ite h.see.ovSense h)
  | uvTrip => exact out (ite h.see.uvSense h)
  | powerGood => exact out (ite h.see.powerGood h)
  | offThresholdCrossing => exact out (ite h.belowCross h)
  | dischargeRelease => exact out h.disRelease
  | disForceWrite => exact out (h.ifField fun _ h => h.disForce)
  | vbusOv => exact out (ite h.err.vbusOv h)
  | vbusUv => exact out (ite h.err h)
  | portOv => exact out (by
      extract_lets _ s1
      have hs1 : s.Kept s1 := h.err.fastEnd
      exact (ite (ite (ite hs1 hs1.wr) (ite h.err h.err.portGone)) h))
  | vbakWeak => exact out (ite h.setRepl.err h)
  | internalSupplyFault => exact out (ite h.supplyBad h)
  | dieTempTrip => exact out (ite h.fields.post h)
  | portAbovePres => exact out (ite (ite h.pathFeed h) (ite (ite h.portSee.setPort.mark.feedsShow h.portSee) h))
  | portBelowPres => exact out (ite (ite h.pathLoss h) (ite (ite h.portSee.setPort.feedsShow h.portSee) h))
  | feedReturn => exact out (ite h.setPort.setLost.feedsShow.ask.busWatch h)
  | portReverseTrip => exact out (ite h (ite (ite h.wr.err.fastEnd h)
      (ite (ite h.setPort.err.busWatch (ite h.setPrev.err h)) h)))
  | portVdsPositive => exact out (ite h.setPort.busWatch h)
  | portBelowLoss => exact out (ite (ite h.portSee.setPrev.setPort.mark.busWatch h.portSee) h)
  | portAboveLoss => exact out (ite (ite h.portSee.setPort.freePort.busWatch h.portSee) h)
  | portLossConfirmed => exact out (ite h.setPort.setLost.err.feedsShow h)
  | portOvClear => exact out (ite (ite (ite h.wr h) (ite h.setPort.feedsShow h)) h)
  | portEnWrite => exact out (ite (h.ifField (fun _ h => h.setNEn)) (h.ifField (fun _ h => h.setPEn)))
  | portBlockWrite => exact out (h.ifField fun _ h => h.setBlock)
  | coldStart => exact out (ite h.modBus.pathStart h)
  | startupPathStop => exact out (ite h.pathLoss h)
  | startupPathRestart => exact out (ite h.pathFeed h)
  | fstartDone => exact out (ite h.setBus h)
  | vbusOvRecovered => exact out (ite h.modBus.busWatch h)
  | buscEnWrite => exact out (h.ifField fun _ h => h.setBusEn)
  | donorStart => exact out (h.start (fun _ _ h => by
      extract_lets _ _ _
      exact ite (by
        split
        · exact h.failK
        · exact h.runK.donorBegin) h))
  | donorStop => exact out (h.start (fun _ _ h => ite h (ite h.failFree (ite h.runK.endSession h.doneK))))
  | fstopDone => exact out (ite h.blockPorts.setBus h)
  | deadEnd => exact out (ite (ite (ite h.pathStop h.pathStart) (ite h.busRejoin.setBus.modBus h.sessionClose.setBus.busTryStart.chgWatch)) h)
  | nodeMatch => exact out (ite h.wr.setBus h)
  | matchTimeout => exact out (ite h.endCause.err.setBus h)
  | connectDone => exact out (ite h.wr.setBus h)
  | deliverEntry => exact out (ite h.setBus.irq.endRunning h)
  | donorFloor => exact out (ite h.endSession h)
  | donorTaper => exact out (h.onFe2 (fun _ h => ite h.endSession h))
  | donorTime => exact out (h.onFe2 (fun _ h => ite h.endSession h))
  | rstopDone => exact out (ite h.ornOff.setBus h)
  | phRemClear => exact out (h.ifField fun _ h => h.wr.busWatch)
  | chargerTick => exact out h.chgTick
  | qualifyEnd => exact out (h.onFe2 fun _ h => h.qualifyEnd)
  | prechargeDone => exact out (h.chgStep (fun _ h => ite h.toCC h))
  | prechargeTimeout => exact out (h.chgStep (fun _ h => ite h.chgTimeout h))
  | cvEntry => exact out (h.chgStep (fun _ h => ite h.setChg h))
  | safetyTimerExpiry => exact out (h.chgStep fun _ h => h.safeExpiry)
  | termination => exact out (h.chgStep fun _ h => h.terminate)
  | topoffDone => exact out (h.chgStep (fun _ h => ite h.topoffDone h))
  | autoRecharge => exact out (h.chgStep (fun _ h => ite h.recharge h))
  | restDue => exact out (h.chgStep (fun _ h => ite h.restStart h))
  | restEnd => exact out (h.chgStep (fun _ h => ite h.restEnd h))
  | packAbsence => exact out h.packAbsence
  | packReinsertion => exact out (h.chgStep (fun _ h => ite h.chgFound h))
  | probeStart => exact out (h.chgStep (fun _ h => ite h.modChg h))
  | probeEnd => exact out (h.onFe2 (fun _ h => ite h.modChg h))
  | packOv => exact out h.packOv
  | ntcShortFault => exact out (h.onFe2 fun _ h => h.ntcShort)
  | ntcClassChange => exact out (ite h.ntcClass h)
  | tpackUpdate => exact out (ite h.wrI h)
  | chgCtrlStop => exact out h.chgCtrl
  | chgCtrlStart => exact out h.chgCtrl
  | chgCtrlClear => exact out h.chgCtrl
  | chgCtrlRest => exact out h.chgCtrl
  | chgCtrlRecharge => exact out h.chgCtrl
  | buckEnSet => exact out (h.ifField fun _ h => h.hostOn)
  | buckEnClear => exact out (h.ifField fun _ h => h.hostOff)
  | buckPrebiasDone => exact out h.buckPrebias
  | buckSample => exact out h.buckSample
  | buckPeakTrip => exact out (ite h.modBuck.modBuck h)
  | buckParWrite => exact out (h.ifField fun _ h => h.setPar)
  | ldoEnSet => exact out (h.ifField fun _ h => h.hostOn)
  | ldoEnClear => exact out (h.ifField fun _ h => h.hostOff)
  | ldoRiseDone => exact out (ite h.ssDone h)
  | ldoOcOff => exact out (ite h.ldoSee.outLatch.err h.ldoSee)
  | ldo0ToGroup => exact out (ite h.wr h)
  | ldo0ToKeepalive => exact out (ite h.ldo0Ka h)
  | kaTrip => exact out (by
      extract_lets s1
      have hs1 : s.Kept s1 := h.outOff.wr
      exact (ite (ite h.outOff.wr.err hs1.fields) h))
  | lsEnSet => exact out (h.ifField fun _ h => h.hostOn)
  | lsEnClear => exact out (h.ifField fun _ h => h.hostOff)
  | lsRampDone => exact out (ite h.see.ssDone h.see)
  | lsOcOff => exact out (ite h.lsSee.outLatch.err h.lsSee)
  | lsFastTrip => exact out h.lsFast
  | lsReverseStart => exact out (ite h.see.wr.wr.wr.err h.see)
  | lsReverseEnd => exact out (ite h.see.lsClose h.see)
  | seqStepAction => exact out (ite h.putOff (ite h.mark.stepAct (ite h.unwindAct h)))
  | seqStepComplete => exact out (ite h.putOff (by
      split
      · exact ite h.setPends h
      · exact ite (ite (ite h.endRun h) (ite h.seqNext h)) (ite (by
          split
          · exact ite h.unwound h
          · exact h) h)))
  | seqStepTimeout => exact out (ite h.ask h)
  | slowOff => exact out (by
      split
      · exact ite h.slow.seqFail.setPhase.mark h
      · exact h)
  | stuck => exact out (by
      extract_lets _
      exact (ite h (ite (((h.each (fun _ _ h => h.stuckOut)).iff (fun _ h => h.err)).ask) (by
        split
        · extract_lets s1
          have hs1 : s.Kept s1 := h.stuckOut.err
          exact ite h (ite hs1.unwound hs1.seqNext)
        · exact h))))
  | floor => exact out (ite h.ask h)
  | floorTimeout => exact out (ite ((h.each (fun _ _ h => h.slow)).seqFail.setPhase.mark) h)
  | seqStepWrite => exact out (h.ifWrites fun _ h => h.stepWrite)
  | seqUp => exact out (h.start (fun _ _ h => ite h.failK (ite h.failK (ite h.doneK h.runK.ask))))
  | seqDown => exact out (h.start (fun _ _ h => ite h.failK (ite h.failK (ite h.doneK.ask h.runK.ask))))
  | seqState => exact out (h.start (fun _ _ h => ite h.doneK h.failK))
  | strobe => exact out (ite ((ite h.setFrame h.dethrone).markAgo.unmark.flCount.flailSet) h.lineLow)
  | announce => exact out (by
      extract_lets s1 s2 _
      have hs1 : s.Kept s1 := h.unmark.dethrone
      have hs2 : s.Kept s2 := hs1.modFlail.mark.mark
      exact (ite h (ite (ite h (ite h.collide (ite h.flailSet.autoEnd.mark.lineFree h))) (ite hs1.collide
      (ite hs1.viol ((ite hs2.flCount.post hs2).flailSet))))))
  | elect => exact out (by
      extract_lets _
      exact (ite h (ite ((h.iff (fun _ h => h.setRole)).collide) (by
        split
        · exact h
        · extract_lets _ s1
          have hs1 : s.Kept s1 := h.wr.setRole
          exact ite h.wr (ite h.wr.setRole.modFlail.mctrlRun (ite hs1.viol hs1))))))
  | digest => exact out (by
      extract_lets _ _ _ _ _ _ _ s1 s2
      have hs1 : s.Kept s1 := (ite h h.unmark.dethrone).wr.wr.wr.wr.flCount.irq
      have hs2 : s.Kept s2 := ite hs1.flCount.err (ite hs1.viol hs1)
      exact (ite h (ite ((ite h h.unmark.dethrone).collide.digestLost) (ite hs2.roundFrame hs2))))
  | ident => exact execIdent h
  | frameType => exact out (ite h.dethrone.mark.viol h)
  | alarm => exact out (by
      extract_lets _ s1 _ s2
      have hs1 : s.Kept s1 := by
        unfold s1
        split
        · exact h.unmark.iff (fun _ h => h.frameLost)
        · exact h.unmark
      have hs2 : s.Kept s2 := hs1.flCount.irq.post.alarmAborts
      exact (ite (ite hs2.ask hs2) h.lineLow))
  | illegalWidth => exact out ((ite h.viol h).lineLow)
  | flailWakePulse => exact out (ite h (ite h.fields.wakeBy (ite h.ask h)))
  | masterLost => exact out (by
      extract_lets s1
      have hs1 : s.Kept s1 := h.modFlail.err
      exact (ite (ite hs1.setRole hs1) h))
  | holdExp => exact out (ite h.unhold.viol h)
  | stepDone => exact out (ite h.wr.irq.autoEnd.mark.lineFree h)
  | targetStrobe => exact out (ite h.putOff (ite h.setFrame h))
  | announcePeriodExpiry => exact out (ite h.mctrlRun h)
  | mctrlStep => exact out h.mctrlWrite
  | mctrlGoto => exact out h.mctrlWrite
  | mctrlTarget => exact out h.mctrlWrite
  | mctrlStop => exact out h.mctrlWrite
  | mctrlWake => exact out h.mctrlWrite
  | alarmSend => exact out (by
      extract_lets s1 _
      have hs1 : s.Kept s1 := by
        unfold s1
        split
        · exact h.ifField (fun _ h => h.alarmAsk)
        · exact h
      exact (hs1.alarmSend.iff (fun _ h => h.alarmAborts)))
  | alarmRepeat => exact out (ite (h.modFlail.iff (fun _ h => h.alarmAborts)) h)
  | flailStuck => exact out (ite h.modFlail.viol h)
  | frameAbandon => exact out (ite h.frameLost h)
  | digestRound => exact out (h.start (fun _ _ h => ite (ite h.dgGo h.failK) (ite h.failK (ite h.failK (ite h.failK (ite h.failK h.dgGo))))))
  | digestRestart => exact out (ite h.putOff (ite h.setFrame.modFlail h))
  | margin => exact out (h.start (fun _ _ h => by
      extract_lets _ _ _ s1 s2 _
      have hs1 : s.Kept s1 := h.endMoves.wr
      have hs2 : s.Kept s2 := hs1.runK.margTake
      exact ite h.failK (ite h.failK (ite h.failK (ite hs1.wr.doneK (ite hs2.endMoves hs2))))))
  | margApply => exact out (h.ifField fun _ h => h.margApply)
  | margDisarm => exact out (h.ifField fun _ h => h.setArm)
  | snapshot => exact out (by
      split
      · exact h
      · exact ite (ite h.failFree h.runK.snapshot) h)
  | snapshotWritten => exact out (ite (by
      split
      · exact h.snapYield
      · exact h.snapWrite.fe7Done) h)
  | conversion => exact out (by
      extract_lets _ _ s1 s2
      have hs2 : s.Kept s2 := h.calSample.sampleCode.accumulate
      exact (ite (ite hs2.nextEntry hs2.nextEntry.count) h))
  | accWindowBoundary => exact out (ite h.accSync h)
  | adcUrg => exact out (h.ifWrites fun _ h => h.adcUrg)
  | urgDone => exact out (by
      split
      · exact h
      · extract_lets s1 s2
        have hs2 : s.Kept s2 := h.setUrg.entryAgain.sampleCode.wr.wr.wr
        exact ite h ((ite hs2.accumulate hs2).irq))
  | refEnSet => exact out (h.ifField fun _ h => h.refOn)
  | refEnClear => exact out (h.ifField fun _ h => h.refOff)
  | refReady => exact out (by
      extract_lets s1
      have hs1 : s.Kept s1 := h.wr.wr
      exact (ite (ite hs1.setConvEn.setConvEn.modAdc hs1) h))
  | convEnWrite => exact out (h.ifWrites fun _ h => h.convWrite)
  | aclr => exact out (h.ifWrites fun _ h => h.aclr)
  | tclr => exact out (h.ifWrites fun _ h => h.tclr)
  | adcCalZero => exact out (by
      extract_lets _
      exact (h.calStart (fun _ _ h => by
        split
        · exact h.calFail
        · exact h.runK.mark.wr.modCal)))
  | adcCalFull => exact out (h.calStart (fun _ _ h => by
      split
      · exact h.calFail
      · exact h.runK.mark.modCal))
  | adcCalCommit => exact out (h.calStart (fun _ _ h => by
      extract_lets _
      split
      · exact h.calFail
      · exact h.calFail
      · exact ite h.calDrop.failFree h.setChCal.setChCfg.nvmPut.calDrop.doneK))
  | adcCalDiscard => exact out (h.calStart (fun _ _ h => ite h.calFail (ite h.calFail (ite h.calFail (ite h.calFail h.calDrop.doneK)))))
  | adcCalPointDone => exact out (by
      extract_lets _
      exact (by
        split
        · exact h
        · exact ite h (ite h.modCal.wr.doneK (by
            split
            · exact h.calFail
            · exact h.modCal.doneK))))
  | adcCalTimeout => exact out (by
      split
      · exact h
      · exact ite h.calFail h)
  | thermalUpdate => exact out (ite h (ite h.modThm ((h.modThm.each (fun _ _ h => h.accSync)).thermUpdate)))
  | levelFall => exact out (ite h.putOff (ite h.wr.modNode.post.reactions h))
  | rateClear => exact out (ite h.putOff (ite h.wr h))
  | dieShed => exact out (ite h.putOff (ite h.modThm.rise.reactions h))
  | hostaWrite => exact out (h.ifWrites fun _ h => h.hostAnchor)
  | read => exact out (h.frame fun _ h => h.readRun)
  | write => exact out (h.frame fun _ h => h.writeRun)
  | writeMasked => exact out (h.frame fun _ h => h.writeRun)
  | doorbell => exact out (h.frame fun _ h => h.bellRun)
  | status => exact out (h.frame fun _ h => h.statusRun)
  | violWindowEnd => exact out (ite h.modCtx.wr h)
  | ctxReset => exact out (ite h.ctxReset h)
  | commandFetch => exact out (by
      split
      · exact h.fetch
      · exact h)
  | selfCqh => exact out (h.ifWrites (fun _ h => ite h.setCqh h))
  | ringIrqTimeout => exact out (ite h.modCtx.edge h)
  | stallSlotBoundary => exact out (ite h.fields h)
  | arbGrant => exact out (ite ((((h.foldl (fun _ _ h => h.doomedEnd)).each (fun _ _ h => h.engineGives)).each
      (fun _ _ h => h.engineAsk)).each (fun _ _ h => h.arbServe)) h)
  | revocation => exact out (ite h.revokeAt h)
  | directRequest => exact out h.selfReqAs
  | directRelease => exact out h.selfReqAs
  | directHoldExpiry => exact out (by
      split
      · exact ite h.err.revoke h
      · exact h)
  | claim => exact out (ite h.claim.answer h)
  | claimDone => exact out (h.ifWrites fun _ h => h.claimDone)
  | setpend => exact out (h.ifWrites fun _ h => h.setPend)
  | hirqGapEnd => exact out h.modCtx.intRefresh
  | edgeLatchApply => exact out (ite (h.foldl (fun _ _ h => ite (h.foldl (fun _ _ h => h.edgeIn)) h)) h)
  | irqEnWrite => exact out (h.ifWrites fun _ h => h.irqEnable)
  | raise => exact out h.post
  | ackId => exact out (h.ifWrites fun _ h => h.ackId)
  | ackAll => exact out (h.ifWrites fun _ h => h.ackAll)
  | latAck => exact out (h.ifWrites fun _ h => h.latAck)
  | fltForce => exact out (h.ifWrites fun _ h => h.fltForce)
  | errForceWrite => exact out (h.ifWrites fun _ h => h.errForce)
  | fctrlLiveWrite => exact out (h.ifWrites fun _ h => h.fctrl)
  | eventRecordWrite => exact out (by
      split
      · exact h
      · extract_lets s1
        have hs1 : s.Kept s1 := h.fields
        exact ite h (ite hs1.logErase.nvmJunk.logNext.logLost.err.fe7Done hs1.logPut.fe7Done))
  | kick => exact out (h.ifWrites fun _ h => h.kick)
  | slotPeriodEnd => exact out (ite h.owlEnd h)
  | wdgBindWrite => exact out (h.ifWrites (fun _ h => ite h h.owlCfg))
  | wdgSlotEnWrite => exact out (h.ifWrites (fun _ h => ite h h.owlCfg))
  | lockstepMismatch => exact out (ite h.mismatches h)
  | engineException => exact out (ite h.haltEng.count.err h)
  | handshakeTimeout => exact out (ite h.err h)
  | refLoss => exact out (ite h.refLoss h)
  | refAutoReturn => exact out (by
      extract_lets s1
      have hs1 : s.Kept s1 := h.fields.wr
      exact (ite (ite hs1.refBack hs1) h))
  | clkRet => exact out (h.ifWrites fun _ h => h.clkRet)
  | droop => exact out (ite h.droop h)
  | droopReleaseStep => exact out (ite h (ite h.setDroop.wr.wr h.setDroop))
  | droopLong => exact out (ite h.setDroop.err h)
  | retire => exact out (h.start (fun _ _ h => ite h.failK (ite h.failK (ite h.doneK (ite h.fields.retShow.failK
      (ite h.failFree h.fields.retShow.doneK))))))
  | scrub => exact out (h.start (fun _ _ h => by
      extract_lets _ s1 _ _ _ _ _ _ _ _ _ s2
      have hs2 : s.Kept s2 := by
        unfold s2
        split
        · exact h.eccHits.post
        · exact h.eccHits
      exact ite h.failK (ite h.failK (ite h.failK (ite h.failK (ite h.failK (ite h.eccHits.yield hs2.completeB)))))))
  | loftCommit => exact out (h.start (fun _ _ h => ite h.failK (ite h.failK (ite h.failK (ite h.failK (ite h.loftCommit.failK h.loftCommit.doneK))))))
  | loftAutoCommit => exact out (ite h.loftCommit.fe7Done h)
  | nvmWrite => exact out (h.start (fun _ _ h => ite h.failK (ite h.failK (ite h.failK (ite h.failK (ite h.nvmJunk.err.failK
      (ite h.nvmPut.yield h.nvmPut.doneK)))))))
  | otpBurnRow => exact out (h.start (fun _ _ h => by
      extract_lets _ _ _
      exact ite h (ite h.failK (ite h.failK (by
        split
        · exact h.failK
        · exact ite h.failK h.burnRow)))))
  | otpCounterIncrement => exact out (h.start (fun _ _ h => by
      extract_lets _ s1
      have hs1 : s.Kept s1.1 := ite1 h.cntStep h
      exact ite h (ite h.failK (ite hs1.failK (ite h.failK hs1.doneK)))))
  | otpLockBurn => exact out (h.start (fun _ _ h => ite h (ite h.failK (ite h.failK
      (ite h.failK ((ite h.ctlBurn h.ctlBurn.otpPost).otpShow.doneK))))))
  | otpReburn => exact out (h.start (fun _ _ h => ite h.failK (ite h.failK (ite h.failK (ite h.setRow.otpShow.doneK (ite h.burnRow
      (ite h.burnRow h.failK)))))))
  | ovrSet => exact out (h.ifWrites fun _ h => h.ovrCtrl)
  | ovrClear => exact out (h.ifWrites fun _ h => h.ovrCtrl)
  | ovrClearAll => exact out (h.ifWrites fun _ h => h.ovrCtrl)
  | imageWrite => exact out (h.start (fun _ _ h => by
      extract_lets _ _ _ _ _ s1
      exact ite h.failK (by
        split
        · exact h.siloWrite.failK
        · exact ite h.siloWrite.yield h.siloWrite.doneK)))
  | activate => exact out (h.start (fun _ _ h => ite h.setCmd.copyBegin (ite h.actCopy (ite h.failFree (ite
      (ite h.setCmd.dropOrg.actHold h.failK) h.actBegin)))))
  | confirm => exact out (h.start (fun _ _ h => ite h.failK (ite h.failK (ite h.failFree h.confirm.doneK))))
  | ldrWrite => exact out (ite (h.ifWrites (fun _ h => h.ldrCtrl)) h)
  | ldrActivate => exact out (ite (h.ifWrites (fun _ h => h.ldrCtrl)) h)
  | oscStop => exact out (ite h.wr.wr.rtcErr h)
  | oscResume => exact out h.wr
  | trimCorrection => exact out (ite (ite h.modClk.modClk (ite h.modClk.secondTick h.modClk.wr)) h)
  | secondBoundary => exact out (ite h.secondTick h)
  | calendarRead => exact out (ite h.calRead.answer h)
  | freezeTimeout => exact out (ite h.unfreeze.rtcErr h)
  | freezeRel => exact out (h.ifWrites fun _ h => h.rtcCtrl)
  | rtcFieldWrite => exact out (h.ifWrites fun _ h => h.rtcHold)
  | rtcCommit => exact out (h.ifWrites fun _ h => h.rtcCommit)
  | rtcDiscard => exact out (h.ifWrites fun _ h => h.rtcCtrl)
  | osfClear => exact out (h.ifWrites fun _ h => h.osfClear)
  | timeNsRead => exact out (ite h.nsRead.answer h)
  | setNow => exact out (h.ifWrites fun _ h => h.timeCtrl)
  | setAtPps => exact out (h.ifWrites fun _ h => h.timeCtrl)
  | cancel => exact out (h.ifWrites fun _ h => h.timeCtrl)
  | ppsEdge => exact out (ite h.modClk h)
  | ppsMissed => exact out (by
      extract_lets _ s1
      have hs1 : s.Kept s1 := h.ppsBad.modClk
      exact (ite (ite hs1.wr.modClk.err hs1) h))
  | twiXfer => exact out (by
      split
      · exact h
      · exact ite h (ite h.twRun (h.start (fun _ _ h => by
          split
          · exact ite h.twDisabled ((ite h h.twLast).failK)
          · exact h.twBegin.twRun))))
  | twiRetry => exact out (by
      split
      · exact h
      · exact ite h.modTwi.setTwiSt.twRun h)
  | twiPollTimeout => exact out (by
      split
      · exact h
      · exact ite h.twFail.err h)
  | twiStretchTimeout => exact out (by
      split
      · exact h
      · exact ite h h.twFail.modTwi.err)
  | sclStuck => exact out (ite h.modTwi.err.twOff h)
  | twiRecovery => exact out (ite h.twRecover h)
  | twiReset => exact out (h.ifWrites fun _ h => h.twCtrl)
  | twiRecover => exact out (h.ifWrites fun _ h => h.twCtrl)
  | lockWrite => exact out (h.ifWrites fun _ h => h.lockWrite)
  | ownerWrite => exact out (h.ifWrites fun _ h => h.ownerWrite)
  | gpioEdge => exact out (ite h.gpioEdge h)
  | outSet => exact out (h.ifWrites fun _ h => h.outSet)
  | outClr => exact out (h.ifWrites fun _ h => h.outClr)
  | vioLoss => exact execVioLoss h
  | internalSupplyRecovery => exact out (ite h.fields.insupShow h)
  | vioReturn => exact .of_settle (by split <;> exact h.pending)
  | busConverterSample => exact out (ite h.busSample h)
  | startupPathDelivery => exact out h.csSeen
  | dieTempRearm => exact out h.fields
  | flailPortHigh => exact out (ite h.modFlail h)
  | testAccessPort => exact out (ite h.fields.tapRun h)
  | wakingReadAccess => exact out (ite h.fields.setRepl h)
  | windowSettle => exact out (ite h.modOut h)

end State.Kept

/-- Settles O53: each command's operations keep the queue. -/
theorem noCommandTouchesTheQueue : Obligations.NoCommandTouchesTheQueue := by
  unfold Obligations.NoCommandTouchesTheQueue
  exact fun c s t h => (State.Kept.refl s).exec_queue c t h

end Sys2Proof.Machine
end

section
/-! SUPPORT. Locks and owners of pages, pins, the VIO supply, and the test access port. -/

namespace Sys2Proof.Machine

open Sys2Proof

/-! Pins (R512). -/

theorem State.bit_pend_irq (s : State) (b : Nat) {i : Nat} (ev : Nat) (hi : i < 32) (hint : intKey (b + 0x18) = false) :
    (s.irq b i ev).bit b (HDR.IRQ_PEND.at i) = true := by
  have hpend : (s.wr b (HDR.IRQ_PEND.at i) 1).bit b (HDR.IRQ_PEND.at i) = true :=
    s.bit_wr_one _ _ (show 0 < 1 by decide) (show i + 1 ≤ 32 by omega)
  unfold State.irq
  extract_lets was src s1
  have hset : s1.bit b (HDR.IRQ_PEND.at i) = true := hpend
  clear_value s1
  split
  · exact (((edge_only s1 ev).toldInt (ks := fun _ => False)).bit _ _ hint not_false).trans hset
  · exact hset

/-- A change of a pin's level. -/
theorem State.gpioEdge_shows (s : State) (n : Fin 16) {lvl : Bool} (hnew : s.bit gpioB (GPIO.STATUS_IN.at n) ≠ lvl) :
    (s.gpioEdge n lvl).bit gpioB (GPIO.STATUS_IN.at n) = lvl ∧
      (s.rd (pin n) GPIO.PIN_CFG_EDGE = 3 → (s.gpioEdge n lvl).bit gpioB (HDR.IRQ_PEND.at (16 + n)) = true) ∧
      (s.rd (pin n) GPIO.PIN_CFG_EDGE = 0 →
        (s.gpioEdge n lvl).bit gpioB (HDR.IRQ_PEND.at (16 + n)) = s.bit gpioB (HDR.IRQ_PEND.at (16 + n))) := by
  have hlvl : (s.wrB gpioB (GPIO.STATUS_IN.at n) lvl).bit gpioB (GPIO.STATUS_IN.at n) = lvl :=
    s.bit_wrB _ _ lvl (show 0 < 1 by decide) (show n.val + 1 ≤ 32 by omega)
  have hpend : (s.wrB gpioB (GPIO.STATUS_IN.at n) lvl).bit gpioB (HDR.IRQ_PEND.at (16 + n)) = s.bit gpioB (HDR.IRQ_PEND.at (16 + n)) :=
    State.bit_wr_apart _ _ _ _ _ _ (.inl (show gpioB + 0x18 ≠ gpioB + 8 by decide))
  rw [State.gpioEdge, if_neg hnew]
  extract_lets s1 e
  split
  · have htold := irq_told (s1.gpioMark n) gpioB (16 + n) 134
    refine ⟨(htold.bit _ _ (show intKey (gpioB + 8) = false by decide) (show gpioB + 8 ≠ gpioB + 0x18 by decide)).trans hlvl,
      fun _ => ?_, fun h0 => ?_⟩
    · exact State.bit_pend_irq _ _ _ (by omega) (by decide)
    · omega
  · exact ⟨hlvl, fun h3 => by omega, fun _ => hpend⟩

/-! The test access port (R524). -/

/-- `u` is `s` but for the test access port and the words drawn. -/
def State.TapOnly (s u : State) : Prop := u = { s with
  tap := u.tap, tapIns := u.tapIns, tapBit := u.tapBit, bsCells := u.bsCells, bsUpd := u.bsUpd, tdo := u.tdo, freeCtr := u.freeCtr }

namespace State.TapOnly

variable {s t u : State}

theorem refl (s : State) : s.TapOnly s := rfl

theorem trans (h1 : s.TapOnly t) (h2 : t.TapOnly u) : s.TapOnly u := by
  rw [State.TapOnly] at h1 h2 ⊢
  rw [h2, h1]

theorem tapAct (s : State) (lv : List Bool) (d : Bool) : s.TapOnly (s.tapAct lv d) := by
  unfold State.tapAct
  split
  · split <;> rfl
  · split <;> rfl
  · rfl
  · rfl

theorem tapClock (s : State) (ins : TapIns) (lv : List Bool) (m d : Bool) : s.TapOnly (s.tapClock ins lv m d) := by
  have h1 := tapAct s lv d
  unfold State.tapClock
  generalize s.tapAct lv d = s1 at h1 ⊢
  dsimp only
  split <;> exact h1.trans rfl

theorem tapRun (s : State) (ins : TapIns) (lv : List Bool) (l : List (Bool × Bool)) : s.TapOnly (s.tapRun ins lv l) := by
  induction l generalizing s with
  | nil => exact refl s
  | cons x l ih => exact (tapClock s ins lv x.1 x.2).trans (ih _)

end State.TapOnly

theorem State.tap_tapClock (s : State) (ins : TapIns) (lv : List Bool) (m d : Bool) : (s.tapClock ins lv m d).tap = s.tap.next m := by
  unfold State.tapClock
  dsimp only
  generalize s.tapAct lv d = s1
  split <;> rfl

theorem State.tapIns_tapClock {s : State} {m : Bool} (h : s.tap.next m = .reset) (ins : TapIns) (lv : List Bool) (d : Bool) :
    (s.tapClock ins lv m d).tapIns = .bypass := by
  unfold State.tapClock
  dsimp only
  rw [h]

/-- A shift of the boundary register by one place. -/
theorem State.tapClock_shift {s : State} (htap : s.tap = .shDr) (hcells : s.tapCells = true) (ins : TapIns) (lv : List Bool) (d : Bool) :
    s.tapClock ins lv false d = { s with tdo := s.tdo ++ s.bsCells.take 1, bsCells := s.bsCells.drop 1 ++ [d] } := by
  have hact : s.tapAct lv d = { s with tdo := s.tdo ++ s.bsCells.take 1, bsCells := s.bsCells.drop 1 ++ [d] } := by
    rw [State.tapAct, htap]
    exact if_pos hcells
  have hnext : s.tap.next false = s.tap := by rw [htap]; rfl
  rw [State.tapClock, hact, hnext]
  dsimp only
  rw [htap]

/-- Five cycles with TMS high reset the port from any state. -/
theorem TapSt.next_five (x : TapSt) : ((((x.next true).next true).next true).next true).next true = .reset := by
  cases x <;> rfl

theorem State.tapRun_five (s : State) (ins : TapIns) (lv : List Bool) (d1 d2 d3 d4 d5 : Bool) :
    (s.tapRun ins lv [(true, d1), (true, d2), (true, d3), (true, d4), (true, d5)]).tap = .reset ∧
      (s.tapRun ins lv [(true, d1), (true, d2), (true, d3), (true, d4), (true, d5)]).tapIns = .bypass := by
  simp only [State.tapRun]
  have hlast : ((((s.tapClock ins lv true d1).tapClock ins lv true d2).tapClock ins lv true d3).tapClock ins lv true d4).tap.next true =
      .reset := by
    simp only [State.tap_tapClock]
    exact s.tap.next_five
  exact ⟨(State.tap_tapClock _ ins lv true d5).trans hlast, State.tapIns_tapClock hlast ins lv d5⟩

/-- Settles O47. -/
theorem pageGuardsAndPins : Obligations.PageGuardsAndPins := by
  unfold Obligations.PageGuardsAndPins
  refine ⟨?_, ?_, ?_, ?_, ?_, ?_, ?_, ?_, ?_, ?_, ?_, ?_, ?_, ?_, ?_, ?_⟩
  · intro c p s hacc
    refine effect_ifWrites_eq hacc rfl (if_pos rfl) ⟨?_, ?_, ?_⟩
    · rw [State.bit_wr_apart _ _ _ _ _ _ (.inr (by decide)), State.bit_wr_one _ _ _ (by decide) (by decide)]
    · exact (State.rd_wr_eq _ _ _ _ (by decide)).trans (Nat.mod_eq_of_lt (show c.val < 2 ^ 4 by omega))
    · exact RegsOnly.trans (RegsOnly.wr s 1 rfl) (RegsOnly.wr _ _ rfl)
  · intro c p s hacc
    exact effect_ifWrites_eq hacc rfl ((if_neg (by decide)).trans (if_pos rfl)) ⟨s.bit_wr_zero _ _ (by decide), RegsOnly.wr s _ rfl⟩
  · exact fun c p v s hacc h0 hkey => does_ifWrites hacc rfl ((if_neg hkey).trans (if_neg h0))
  · intro c p v s hacc
    refine effect_ifWrites_eq hacc rfl rfl ⟨?_, RegsOnly.wr s _ rfl⟩
    refine (State.rd_wr_eq _ _ _ _ (by decide)).trans (Nat.mod_eq_of_lt (show _ < 2 ^ 4 from ?_))
    split <;> omega
  · intro n lvl us s hup hvio hfilt hnew
    exact effect_of_eq rfl (if_pos (by simp [hup, hvio, hfilt])) (s.gpioEdge_shows n hnew)
  · intro n lvl us s hoff
    refine does_of_eq rfl (if_neg ?_)
    obtain h | h := hoff
    · simp [h]
    · simp [Nat.not_le.2 h]
  · intro c v s hacc
    refine effect_ifWrites_eq hacc rfl rfl ⟨?_, RegsOnly.wr s _ rfl⟩
    refine (State.rd_wr_eq _ _ _ _ (by decide)).trans (Nat.mod_eq_of_lt ?_)
    exact Nat.or_lt_two_pow (s.rd_lt gpioB GPIO.OUT_LVL) (Nat.mod_lt _ (by decide))
  · intro c v i s hacc hi
    refine effect_ifWrites_eq hacc rfl rfl ⟨?_, RegsOnly.wr s _ rfl⟩
    have hbits : getBits v 0 16 < 2 ^ 16 := Nat.mod_lt _ (by decide)
    have hmask : 0xFFFF - getBits v 0 16 = 2 ^ 16 - (getBits v 0 16 + 1) := by omega
    have hfit : s.gpioOut &&& (0xFFFF - getBits v 0 16) < 2 ^ GPIO.OUT_LVL.w :=
      Nat.and_lt_two_pow (n := 16) _ (show 0xFFFF - getBits v 0 16 < 2 ^ 16 by omega)
    rw [State.outClr, State.rd_wr_eq _ _ _ _ (by decide), Nat.mod_eq_of_lt hfit, Nat.testBit_and, hmask,
      Nat.testBit_two_pow_sub_succ hbits, testBit_getBits, State.gpioOut]
    simp [hi, BitVec.getLsbD]
  · intro mv us s hvio hmv hus
    have hlost : ¬ (s.vioOut = true ∨ 1500 ≤ mv ∨ us < 2) := by
      simp [hvio]
      omega
    refine ⟨fun _ => effect_of_eq rfl (if_neg hlost) (State.Kept.vioLoss s).vioOut, fun hdown => ?_⟩
    exact does_of_eq rfl ((if_neg hlost).trans (if_neg (by simp [hdown])))
  · intro mv us s hoff
    refine does_of_eq rfl (if_pos (.inr hoff))
  · exact fun mv s hmv => does_of_eq rfl (if_pos hmv)
  · exact fun mv s hmv => does_of_eq rfl (if_neg (by omega))
  · intro tms tdi lv ins s hup hvio
    exact effect_of_eq rfl (if_pos (by simp [hup, hvio])) 
      (State.TapOnly.trans (t := { s with tdo := [] }) rfl (State.TapOnly.tapRun _ ins lv _))
  · intro tdi lv ins s hlen hup hvio
    refine effect_of_eq rfl (if_pos (by simp [hup, hvio])) ?_
    match tdi, hlen with
    | [d1, d2, d3, d4, d5], _ => exact State.tapRun_five _ ins lv d1 d2 d3 d4 d5
  · intro d lv ins s hup hvio hmode htap hins
    refine does_of_eq rfl ((if_pos (by simp [hup, hvio])).trans ?_)
    have hcells : { s with tdo := [] }.tapCells = true := by
      have hacts : { s with tdo := [] }.tapActs = .extest := (if_neg fun h => h.2 hmode).trans hins
      rw [State.tapCells, hacts]
      rfl
    exact State.tapClock_shift (s := { s with tdo := [] }) htap hcells ins lv d
  · intro i s hins
    refine ⟨fun hmode => if_pos ?_, fun hmode => if_neg ?_⟩
    · exact (if_neg fun h => h.2 hmode).trans hins
    · rw [State.tapActs, if_pos ⟨hins, hmode⟩]
      decide

end Sys2Proof.Machine
end
